-- ==== Sys2Proof/Word.lean ====
section
/-!
DEFINITION. The word types of the model.
-/

namespace Sys2Proof

/-- One byte (R5: every structure of the module is little-endian, byte 0 lowest). -/
abbrev Byte := BitVec 8

/-- A 64-byte command of a command list, queue table entry, watch line or tensor descriptor
(R166, R167, R172, R186): bit 8n + b is bit b of byte n. -/
abbrev Line := BitVec 512

/-- A 64-bit counter or address register. -/
abbrev Word64 := BitVec 64

end Sys2Proof
end

