-- ==== Sys2Proof/Syntax.lean ====
section
/-!
DEFINITION. The commands of the RLN-96 as the block takes them: one constructor per row of spec/opcode_table.json, in the
table's order, with the operands a row needs. A list command carries the 64 bytes the control core fetched; an event of a
link, sensor or bus carries what the outside world shows the module at that moment; a row that time brings about carries
the device time `t`, in ns, at which it comes about (assumption 2). Errors of storage that a row meets (R421 to R423) come in with its
operands.
-/

namespace Sys2Proof

/-- R388: the two masters of the object dictionary; a management frame comes from a MAC address. -/
inductive Master where
  | host
  | mgmt (mac : BitVec 48)
deriving DecidableEq, Repr

/-- The path a request came in on: a fabric port (R257) or the Traek link (R301). -/
inductive Via where
  | fabric (port : Fin 8)
  | traek
deriving DecidableEq, Repr

/-- A fabric packet (R257) or Traek message (R301) as received. For a Traek message `addr` is the companion address,
`src` is ignored (the companion's node ID is used, R304) and there is no sequence number. -/
structure Packet where
  via : Via
  flag : Bool := false
  poison : Bool := false
  hops : BitVec 2 := 0
  dst : BitVec 16 := 0
  src : BitVec 16 := 0
  epoch : BitVec 8 := 0
  seq : BitVec 32 := 0
  addr : BitVec 64 := 0
  length : BitVec 16 := 0
  tag : BitVec 16 := 0
  /-- bytes 22–23: operation or status -/
  op : BitVec 16 := 0
  /-- byte mask of a one-line partial STORE (R258, R302); all ones stores the whole line -/
  mask : BitVec 64 := BitVec.allOnes 64
  /-- some reserved field of the header is non-zero (R257, R301) -/
  rsvd : Bool := false
  data : List Byte := []
  /-- the errors of the read that its store or add makes of a line of memory: symbol number and the bits in error (R210, R220, R223) -/
  errors : List (Nat × BitVec 8) := []
deriving DecidableEq, Repr

/-- One item of a dictionary frame (R397). -/
structure Item where
  entry : BitVec 16
  field : BitVec 8
  value : List Byte := []
  rsvd : Bool := false
deriving DecidableEq, Repr

/-- A dictionary request frame (R395) and the Ethernet facts about its carrier (R393). -/
structure Frame where
  version : BitVec 8 := 1
  seq : BitVec 16 := 0
  meta' : Bool := false
  allOrNothing : Bool := false
  /-- the 16-byte frame signature, when the signed flag is set (R399) -/
  signature : Option (List Byte) := none
  etherType : BitVec 16 := 0x88B5
  tagged : Bool := false
  broadcast : Bool := false
  /-- the items overrun the frame, or a reserved field is set (R397) -/
  malformed : Bool := false
  items : List Item := []
deriving DecidableEq, Repr

/-- R207 to R210: the errors of one read of an LPDDR line: symbol number and the bits in error. Symbols 0 to 4 are the virtual
ones (a line stored under another address), 5 to 68 the data bytes, 69 to 76 the check symbols c0 to c7. -/
structure LineRead where
  errors : List (Nat × BitVec 8) := []
deriving DecidableEq, Repr

/-- R421: the errors of one 64-bit scratchpad word as a read finds it: the word's local address and the bits in error, the 64 data
bits low, the 8 check bits above them. -/
structure WordRead where
  word : BitVec 48
  bits : BitVec 72
deriving DecidableEq, Repr

/-- A list command as its engine runs it: the 64 bytes fetched, and the scratchpad words (R421) and LPDDR lines (R210) in error that
it reads, a line by its near-home address. -/
structure CmdRead where
  line : Line
  words : List WordRead := []
  lines : List (BitVec 48 × LineRead) := []
deriving DecidableEq, Repr

/-- R338: what a RESTORE reads from its source: the bytes (the store from its base, or the holder's half package by package, then
the descriptors of kind 2 entries at other nodes), and the status with which a load of them was refused, 0 for none. -/
structure SourceRead where
  bytes : List Byte
  status : BitVec 16 := 0
deriving DecidableEq, Repr

/-- A submission entry as a control core fetches it, and the word of the core's memory in error that it meets: its number, and
whether it was corrected (R423). -/
structure EntryRead where
  entry : BitVec 128
  ecc : Option (BitVec 32 × Bool) := none
deriving DecidableEq, Repr

/-- A request, and the directory entry in error that it reads: its number, and whether it was corrected (R423). -/
structure DirRead where
  packet : Packet
  ecc : Option (BitVec 32 × Bool) := none
deriving DecidableEq, Repr

/-- The array whose tile finishes, and the element of which an accumulator, or a latch behind it, fails its parity (R422). -/
structure TileEnd where
  array : Fin 32
  parity : Option (Fin 1024 × Bool) := none
deriving DecidableEq, Repr

/-- The cluster whose vector engine takes a finished tile, and the element of the queue's head that fails its parity (R422). -/
structure TileTaken where
  cluster : Fin 32
  parity : Option (Fin 1024) := none
deriving DecidableEq, Repr

/-- R220, R235: the operations of the memory-side adders. -/
inductive AddKind where
  | fp32 | bf16 | int32 | int64 | book
deriving DecidableEq, Repr

/-- R220: the atomics of the memory-side adders. -/
inductive AtomKind where
  | add | min | max | swap | cas
deriving DecidableEq, Repr

/-- R220: one atomic: operation, width 64 or 32, signedness, operand and compare operand. -/
structure Atom where
  kind : AtomKind
  wide : Bool
  signed : Bool := false
  operand : BitVec 64
  compare : BitVec 64 := 0
deriving DecidableEq, Repr

/-- R221: one operation at a memory-side adder: a whole-line add of 64 bytes, a book-scaled contribution of FP32 values to
elements of a tensor, or an atomic. -/
inductive AdderOp where
  | line (addr : BitVec 48) (kind : AddKind) (data : List Byte)
  | book (handle : BitVec 24) (first : Nat) (values : List (BitVec 32))
  | atom (addr : BitVec 48) (a : Atom)
deriving DecidableEq, Repr

/-- An operation at its adder, the errors of its line's read (R220), and the entry of the channel's adders that fails its parity then
(R422). -/
structure AdderRun where
  op : AdderOp
  read : LineRead := {}
  parity : Option (Fin 256) := none
deriving DecidableEq, Repr

/-- R437: what a read of one flash block shows where the module has not programmed it: the signed header, bytes 0 to 17,119, and the
body, from offset 0x1_0000 on. -/
structure BlockScan where
  header : List Byte := []
  body : List Byte := []
deriving DecidableEq, Repr

/-- R439: the flash blocks the boot ROM checks. -/
structure FlashScan where
  stageA : BlockScan := {}
  stageB : BlockScan := {}
  configA : BlockScan := {}
  configB : BlockScan := {}
deriving DecidableEq, Repr

/-- R376: the three readings of one tray poll; `none` is a failed transfer. Temperatures in 0.01 °C, flow in mL/min. -/
structure TrayPoll where
  inlet : Option Int
  outlet : Option Int
  flow : Option Int
deriving DecidableEq, Repr

/-- R345: a load of the time source's device time that was answered: time sent, time of the reply, time returned. -/
structure TimeSample where
  t1 : Nat
  t4 : Nat
  source : Nat
deriving DecidableEq, Repr

/-- R107: a known-answer kernel of the boot and test flash: the LNS8 codes of the rows of A and of the columns of B, the digest
stored beside the pattern, and the bits by which the result of a faulty array differs. -/
structure Kernel where
  a : List (List Byte)
  b : List (List Byte)
  digest : BitVec 64
  faults : List (Fin 32 × BitVec 64) := []
deriving DecidableEq, Repr

/-- R426 to R428, R107: one run of a structural test pattern: the pattern, the failing unit (R415) where it failed, and the
known-answer kernel where the run has one, on every array. -/
structure TestRun where
  pattern : BitVec 16 := 0
  fails : Option (Fin 17) := none
  kernel : Option Kernel := none
deriving DecidableEq, Repr

/-- The commands of the block, one constructor per row of spec/opcode_table.json, in the table's order. -/
inductive Instr where
  -- command lists (R172 to R183)
  | endCmd (q : Fin 256) (c : Line)
  | fence (q : Fin 256) (c : Line)
  | waitCounter (q : Fin 256) (c : Line)
  | waitCounterTimeout (q : Fin 256) (t : Nat)
  | signalCounter (q : Fin 256) (c : Line)
  | branchIfSummary (q : Fin 256) (c : Line)
  | loop (q : Fin 256) (c : Line)
  | call (q : Fin 256) (c : Line)
  | tensorCreate (q : Fin 256) (c : Line) (hostDesc : Line)
  | tensorFree (q : Fin 256) (c : Line)
  | tensorAttr (q : Fin 256) (c : Line)
  | matmul (q : Fin 256) (c : CmdRead)
  | vector (q : Fin 256) (c : CmdRead)
  | update (q : Fin 256) (c : CmdRead)
  | updateVerdictAction (q : Fin 256) (id : Nat)
  | copy (q : Fin 256) (c : CmdRead)
  | add (q : Fin 256) (c : CmdRead)
  | fill (q : Fin 256) (c : Line)
  | transferReadback (q : Fin 256) (id : Nat) (t : Nat)
  | transferRemoteSignal (q : Fin 256) (id : Nat)
  | reduce (q : Fin 256) (c : Line)
  | allReduce (q : Fin 256) (c : Line)
  | reduceScatter (q : Fin 256) (c : Line)
  | allGather (q : Fin 256) (c : Line)
  | broadcast (q : Fin 256) (c : Line)
  | stopBath (q : Fin 256) (c : Line)
  | release (q : Fin 256) (c : Line)
  | sheet (q : Fin 256) (c : Line)
  | sheetAbort (q : Fin 256) (c : Line)
  | restore (q : Fin 256) (c : Line) (source : SourceRead)
  | commandComplete (q : Fin 256) (id : Nat)
  -- queues (R165 to R171)
  | watchLineStore (q : Fin 256) (offset : Fin 64) (bytes : List Byte)
  | queueEnable (q : Fin 256)
  | queueDisable (q : Fin 256)
  | listStart (q : Fin 256) (host : EntryRead)
  | queueRehome (q : Fin 256)
  -- scheduling (R93 to R96, R190 to R197, R232, R239)
  | tileDispatch (t : Nat)
  | dispatchAgeCeiling (t : Nat)
  | pagerFetchArrival (c : Fin 32)
  | tileFinish (c : Fin 32) (a : TileEnd)
  | finishedTileAdmit (c : Fin 32)
  | epilogue (c : TileTaken)
  | transactionGrant (c : Fin 32) (t : Nat)
  | scratchPageGrant (c : Fin 32) (t : Nat)
  | transferChannelGrant (c : Fin 32) (t : Nat)
  | apertureRelease (c : Fin 32) (ch : Fin 8) (t : Nat)
  | scrub (p : Fin 32) (frames : Nat)
  -- memory (R205 to R229)
  | channelAdmit (ch : Fin 128) (t : Nat)
  | channelRequest (ch : Fin 128) (pick : Nat) (reads : List LineRead) (t : Nat)
  | starvationCeiling (ch : Fin 128) (reads : List LineRead) (t : Nat)
  | adderOperation (o : AdderRun) (t : Nat)
  | adderAdmit (ch : Fin 128) (t : Nat)
  | adderWriteBack (ch : Fin 128) (t : Nat)
  | stagingFrameGrant (t : Nat)
  | wcPartialStore (addr : BitVec 48) (mask : BitVec 64) (data : List Byte) (t : Nat)
  | wcAdmit (ch : Fin 128) (t : Nat)
  | wcRetireTimeout (ch : Fin 128) (r : LineRead) (t : Nat)
  | patrolScrub (ch : Fin 128) (r : LineRead) (t : Nat)
  | refresh (ch : Fin 128)
  | channelPowerDown (ch : Fin 128) (t : Nat)
  | temperatureReadout (p : Fin 32) (celsius : Int) (t : Nat)
  | deratingExit (p : Fin 32) (t : Nat)
  | criticalSelfRefresh (p : Fin 32) (t : Nat)
  -- steps (R65, R157, R159)
  | epochClose (handle : BitVec 24)
  | stepBoundary
  | teeMarkApply (p : Packet)
  -- fabric link (R248 to R256)
  | flitReceive (p : Fin 8) (flit : List Byte)
  | laneRemoval (p : Fin 8) (lane : Fin 8) (rate : Bool)
  | laserInputLow (p : Fin 8) (input : Fin 2) (centiDbm : Int) (t : Nat)
  | portRetrainDone (p : Fin 8)
  | portTraining (p : Fin 8) (up : Bool)
  | portRetrain (m : Master) (ports : BitVec 32)
  -- fabric and Traek requests (R257 to R277, R302)
  | load (p : Packet)
  | store (p : Packet)
  | atomic (p : Packet)
  | addPacket (p : Packet)
  | get (p : Packet)
  | rdShared (p : DirRead)
  | rdOwn (p : Packet)
  | writeback (p : Packet)
  | evict (p : Packet)
  | snpShare (p : Packet)
  | snpInval (p : Packet)
  | snpRsp (p : Packet)
  | snoopTimeout (line : BitVec 48) (t : Nat)
  -- collectives (R279 to R290)
  | contrib (p : Packet)
  | gather (p : Packet)
  | close (p : Packet)
  | shardClose (collective : Nat)
  | collectiveTimeout (collective : Nat) (t : Nat)
  -- streams, hints and responses
  | probe (p : Packet)
  | probeRsp (p : Packet)
  | resync (p : Packet)
  | hintSlowContributor (p : Packet)
  | hintHold (p : Packet) (t : Nat)
  | hintHoldRelease (p : Packet) (t : Nat)
  | holdLimitExpiry (node : BitVec 16) (t : Nat)
  | heartbeat (p : Packet) (t : Nat)
  | data (p : Packet)
  | ack (p : Packet)
  | nak (p : Packet)
  | colAck (p : Packet)
  | gatewayAdmit (p : Fin 8) (t : Nat)
  | gatewayFlush (p : Fin 8) (t : Nat)
  | nodeIdWrite (m : Master) (node : BitVec 16)
  | counterUpdate (bank : Fin 16) (t : Nat)
  -- Traek link (R294 to R302)
  | traekFlitReceive (flit : List Byte)
  | traekTraining (width : Nat) (half : Bool) (group : Nat)
  | traekLaneRetrain (lane : Fin 16) (rate : Bool)
  | traekLinkDown (t : Nat)
  | traekCommandRetrain (m : Master)
  | traekCommandDown (m : Master)
  | dict (p : Packet) (f : Frame) (kind : BitVec 8)
  -- twin (R310 to R317)
  | pair (m : Master) (t : Nat)
  | detachCommand (m : Master) (t : Nat)
  | detachAct (t : Nat)
  | releaseFrozenNegative (m : Master)
  | offer (p : Packet)
  | evidence (p : Packet)
  | accept (p : Packet)
  | refuse (p : Packet)
  | detach (p : Packet) (t : Nat)
  | pairingRelease (p : Packet)
  | pairingTimeout (t : Nat)
  | detachTimeout (t : Nat)
  | heartbeatSend (t : Nat)
  | twinLost (t : Nat)
  -- stop bath and contact sheet (R325 to R334)
  | bathStageEnd (t : Nat)
  | bathTimeout (t : Nat)
  | segmentCopied (t : Nat)
  | sheetComplete (t : Nat)
  -- clocks and power (R343 to R369)
  | timeAlignExchange (samples : List TimeSample) (t : Nat)
  | regionGate (r : Fin 48) (t : Nat)
  | regionPllOff (r : Fin 48) (t : Nat)
  | regionWake (r : Fin 48) (t : Nat)
  | slopeGrant (half : Fin 2) (t : Nat)
  | pointChange (r : Fin 48) (t : Nat)
  | shutterStop (r : Fin 48) (t : Nat)
  | monitorSample (r : Fin 48) (marginPermille : Nat) (deciAmp : Nat) (t : Nat)
  | droopDetect (r : Fin 48) (milliVolt : Nat) (t : Nat)
  | stretchEnd (r : Fin 48) (cycles : Nat) (t : Nat)
  | freqChangeAbandon (r : Fin 48) (t : Nat)
  | freqChangeRetry (r : Fin 48) (t : Nat)
  | avsbusRead (reply : Option (Nat × Nat)) (rises : List (Fin 64 × Nat)) (t : Nat)
  | avsbusRetry (reply : Option (Nat × Nat)) (t : Nat)
  | supplyLimitStep (t : Nat)
  | pmbusRead (status : Option (BitVec 16)) (feed : List Byte) (t : Nat)
  | guardBandEnd (t : Nat)
  | sliceFailure (r : Fin 48) (slice : Fin 16) (t : Nat)
  | clearMinimumVoltage (m : Master) (region : BitVec 8)
  | capWrite (m : Master) (watts : BitVec 32)
  | powerLoopTick (watts : Nat) (t : Nat)
  | intervalSlot (t : Nat)
  -- cooling (R374 to R385)
  | hotSpotSample (h : Fin 80) (a : Int) (b : Int) (t : Nat)
  | thermalLimitStep (r : Fin 48) (t : Nat)
  | reEnumerate (m : Option Master) (pids : List (BitVec 48))
  | trayRead (p : TrayPoll) (t : Nat)
  | resume (m : Master) (t : Nat)
  | flowRequestWrite (done : Bool) (t : Nat)
  | flowTrendUpdate (t : Nat)
  -- dictionary (R388 to R412)
  | read (m : Master) (f : Frame)
  | write (m : Master) (f : Frame)
  | blockRead (m : Master) (f : Frame)
  | subscribe (m : Master) (f : Frame)
  | unsubscribe (m : Master) (f : Frame)
  | subscriptionEvent (m : Master) (key : BitVec 24) (t : Nat)
  | hostEventRingConfig (m : Master) (base : Option (BitVec 64)) (size : Option (BitVec 8))
  | holdTake (m : Master) (areas : Fin 4)
  | holdRelease (m : Master) (areas : Fin 4)
  | holdExpiry (t : Nat)
  | clearHealthEvents (m : Master) (bits : BitVec 32)
  | safelightHeartbeat (half : Fin 2) (t : Nat)
  | leadershipClaim (half : Fin 2) (t : Nat)
  | leadershipConflict (t : Nat)
  | followerStale (t : Nat)
  | followerResync (t : Nat)
  | plcaFallback (periodNs : Nat) (t : Nat)
  | beacon (t : Nat)
  -- errors and test (R414 to R432)
  | coalescingWindowEnd (cls : BitVec 16) (source : Nat) (t : Nat)
  | rotationPattern (c : Fin 32) (run : TestRun) (t : Nat)
  | recoveryTest (u : Fin 48) (runs : List TestRun) (t : Nat)
  | quarantine (m : Master) (c : Fin 32)
  | runRecoveryTest (m : Master) (c : Fin 32)
  | takePackageOutOfService (m : Master) (p : Fin 32)
  | runRotationPattern (m : Master) (c : Fin 32)
  | runRegionTest (m : Master) (r : Fin 48)
  | bypass (die : Fin 2)
  | idcode (die : Fin 2)
  | samplePreload (die : Fin 2) (preload : Option (List Bool)) (pins : List Bool)
  | extest (die : Fin 2) (pins : List Bool)
  | runbist (die : Fin 2) (failing : Nat)
  -- boot (R435 to R449)
  | rom (westPasses : Bool) (t : Nat)
  | flash (s : FlashScan) (t : Nat)
  | stage1 (avsReply : Bool) (identity : Option (List Byte)) (feed : List Byte) (t : Nat)
  | coreRamp (reached : Bool) (t : Nat)
  | test (runs : List (Fin 49 × TestRun)) (regions : List (Fin 48 × TestRun)) (calibration : List (BitVec 32)) (t : Nat)
  | memory (rates : List Nat) (t : Nat)
  | protect (config : List Item) (t : Nat)
  | links (t : Nat)
  | attestationNonce (m : Master) (nonce : List Byte) (t : Nat)
  | evidenceReady (m : Master) (t : Nat)
  | flashOpen (m : Master) (region : BitVec 8) (offset : BitVec 64)
  | flashData (m : Master) (bytes : List Byte)
  | flashCommit (m : Master) (s : BlockScan)
  | fullReset (m : Option Master)
  | coreReset (m : Option Master)
  -- rails (R455)
  | railMonitor (milliVolt : List Nat) (t : Nat)
  | boardRailFault (rail : Fin 6) (t : Nat)
  | traekRetrainDone (width : Nat) (half : Bool) (group : Nat)
  | detachReleaseAnswer (t : Nat)
deriving DecidableEq, Repr

end Sys2Proof
end

