-- ==== Sys2Proof/Decode.lean ====
section
/-!
DEFINITION. Decoding. No row of spec/opcode_table.json gives bits: the commands of this block are operations and events, and
none is spelled by a word. A list command's fields are read from its 64 bytes by Machine/Operands.lean and the families.
-/

namespace Sys2Proof

/-- The command a word spells by the bits of spec/opcode_table.json: no row gives bits, so no word spells one. -/
def decodeTableWord (_nbits _w : Nat) : Option Instr := none

end Sys2Proof
end

