-- ==== Sys2Proof/Machine/Bits.lean ====
section
/-!
DEFINITION. Byte and bit fields of little-endian structures (R5): byte 0 lowest, bit 0 least significant.
-/

namespace Sys2Proof.Machine

/-- The unsigned field of `len` bytes at byte `off` of a little-endian number. -/
def natFld (v off len : Nat) : Nat := v / 2 ^ (8 * off) % 2 ^ (8 * len)

/-- The unsigned field of `len` bytes at byte `off` (R5). -/
def fld {w : Nat} (c : BitVec w) (off len : Nat) : Nat := natFld c.toNat off len

/-- Bits `lo + n - 1 : lo` counted from byte `off`. -/
def bitsAt {w : Nat} (c : BitVec w) (off lo n : Nat) : Nat := c.toNat / 2 ^ (8 * off + lo) % 2 ^ n

/-- Bit `b` counted from byte `off`. -/
def bitAt {w : Nat} (c : BitVec w) (off b : Nat) : Bool := c.toNat.testBit (8 * off + b)

/-- A number with `len` bytes at byte `off` replaced by the low bytes of `v`. -/
def natSetFld (c off len v : Nat) : Nat :=
  let hi := 2 ^ (8 * (off + len))
  c / hi * hi + v % 2 ^ (8 * len) * 2 ^ (8 * off) + c % 2 ^ (8 * off)

/-- `c` with `len` bytes at byte `off` replaced by the low bytes of `v`. -/
def setFld {w : Nat} (c : BitVec w) (off len v : Nat) : BitVec w := BitVec.ofNat w (natSetFld c.toNat off len v)

/-- The low `n` bytes of `v`, lowest first (R5). -/
def leBytes : Nat → Nat → List Byte
  | 0, _ => []
  | n + 1, v => BitVec.ofNat 8 v :: leBytes n (v / 256)

/-- The number a little-endian byte string spells (R5). -/
def leNat : List Byte → Nat
  | [] => 0
  | b :: bs => b.toNat + 256 * leNat bs

/-- The two's complement value of the low `n` bits of `v`. -/
def signed (n v : Nat) : Int :=
  let u := v % 2 ^ n
  if u < 2 ^ (n - 1) then u else (u : Int) - 2 ^ n

/-- The low `n` bits of an integer, two's complement. -/
def toBits (n : Nat) (i : Int) : Nat := (i % (2 ^ n : Nat)).toNat

/-- `a` modulo 2^64, the wrap of a 64-bit counter. -/
def wrap64 (a : Nat) : Nat := a % 2 ^ 64

/-- The positions of the set bits of `v` below `n`, rising. -/
def setBits (n v : Nat) : List Nat := (List.range n).filter (fun i => v.testBit i)

/-- Whether all bytes of the ranges (first, length) are zero. -/
def zeroBytes {w : Nat} (c : BitVec w) (ranges : List (Nat × Nat)) : Bool :=
  ranges.all (fun r => fld c r.1 r.2 == 0)

/-- The first byte that is not zero in the given ranges, for the record of a set reserved field. -/
def firstNonZero {w : Nat} (c : BitVec w) (ranges : List (Nat × Nat)) : Option (Nat × Nat) :=
  ranges.find? (fun r => fld c r.1 r.2 != 0)

/-- Division rounded up. -/
def ceilDiv (a b : Nat) : Nat := (a + b - 1) / b

end Sys2Proof.Machine
end

