-- ==== Sys2Proof/Machine/State.lean ====
section
/-!
DEFINITION. The state of the RLN-96 as plain data. Every field's comment reads: what it is | width | file and rule of
spec/ that names it | value at reset. A unit's record is held in a sparse table (`Tbl`) whose unlisted keys hold the
record's reset value, so equal machines are equal data. The values of every register of the object dictionary are in
`State.dict` (key = entry × 256 + field), under the defaults of Machine/Entries.lean.
-/

namespace Sys2Proof.Machine

/-- A sparse table in one canonical form: keys strictly rising, no entry equal to the table's default. -/
abbrev Tbl (α : Type) := List (Nat × α)

/-! ### Queues, command lists and started commands (07) -/

/-- One scalar summary slot (05 R136). -/
structure SlotVal where
  /-- value | 64 | 05 R136 | 0 -/
  value : BitVec 64 := 0
  /-- flag word of the producer | 32 | 05 R136 | 0 -/
  flags : BitVec 32 := 0
  /-- status of the producer | 16 | 05 R136 | 0 -/
  status : BitVec 16 := 0
  /-- kind, 0 = never written | 8 | 05 R136 | 0 -/
  kind : BitVec 8 := 0
  /-- generation | 8 | 05 R136 | 0 -/
  gen : BitVec 8 := 0
deriving DecidableEq, Repr

/-- One entry of a queue's control stack of 8 (07 R182, R183). -/
inductive StackEntry where
  /-- a LOOP at command `at'` of the list, its target and the remaining count -/
  | loop (at' : Int) (target : Int) (left : Nat)
  /-- a CALL: the list, identifier and command to return to -/
  | ret (addr : Nat) (listId : Nat) (next : Nat)
deriving DecidableEq, Repr

/-- What the home control core waits on in front of a list's next command (07 R179, R180, R181). -/
inductive CoreWait where
  | none
  | counter (idx : Nat) (hdr : Line) (counter : Nat) (value : BitVec 64) (since : Nat) (timeout : Nat)
  | fence (idx : Nat) (hdr : Line) (since : Nat)
  | signal (idx : Nat) (hdr : Line) (since : Nat)
  /-- the node, and the status of a NAK, 0 = none -/
  | remoteSignal (idx : Nat) (hdr : Line) (node : Nat) (failed : Nat) (since : Nat)
deriving DecidableEq, Repr

/-- The list in progress on a queue (07 R170, R174, R175, R183). -/
structure ListRun where
  /-- address of command 0 of the list running now -/
  addr : Nat
  /-- identifier of the list running now -/
  listId : Nat
  /-- identifier of the top-level list -/
  topId : Nat
  /-- counter index of the submission entry -/
  counter : Nat
  /-- record and signal bits of the submission entry -/
  record : Bool
  signal : Bool
  /-- index of the next command to start -/
  pc : Nat := 0
  /-- device time at which the list started -/
  since : Nat := 0
  /-- first bit-7 status among its commands in start order, 0 = none; number of that start -/
  bad : Nat := 0
  badId : Nat := 0
  /-- log index of the error record of that status (R176), 0xFFFF = none -/
  badSlot : Nat := 0xFFFF
  /-- no later command of the list starts (R175), or END was reached (R183) -/
  ended : Bool := false
  /-- its queue was enabled anew while it ended (R168) -/
  stale : Bool := false
  wait : CoreWait := .none
deriving DecidableEq, Repr

/-- A tile of a MATMUL: queue, started command and unit number, with the time it became ready (07 R195). -/
structure Tile where
  q : Nat
  id : Nat
  unit : Nat
  since : Nat
  /-- cycles it adds to the occupancy of its cluster until it is computed (07 R195) -/
  cost : Nat := 0
deriving DecidableEq, Repr

/-- A finished accumulator tile: 1,024 words, FP32 in the low half or binary64 (04 R93, R94). -/
structure FinTile where
  tile : Tile
  acc : List (BitVec 64)
  flags : BitVec 32
  poisoned : Bool := false
  /-- the vector engine works on it in its bank (04 R95) -/
  held : Bool := false
deriving DecidableEq, Repr

/-- An operand tile that a dispatched tile reads in the scratchpad of its cluster (07 R193, R194): of a MATMUL, which operand, its
batch, its part of K and its tile row or column, or a stream of its epilogue; of a VECTOR or UPDATE, an operand of a row group or
run. -/
structure Fetch where
  tile : Tile
  ofB : Bool
  b : Nat
  part : Nat
  n : Nat
  /-- bytes one read of it brings -/
  bytes : Nat
  /-- handle of a stream or of an operand of a VECTOR or UPDATE; 0 for A and B of a MATMUL -/
  h : Nat := 0
  /-- pages of 4 KiB of another node that hold it, by global address -/
  pages : List Nat := []
  /-- its read is under way: its page and its transactions are taken (07 R192, R197) -/
  taken : Bool := false
  /-- since when it waits for a page (07 R192) -/
  pageSince : Option Nat := none
  /-- since when it waits at a channel's ingress (08 R217) -/
  ingressSince : Option Nat := none
deriving DecidableEq, Repr

/-- The row groups of a VECTOR, or the runs of 128 elements of an UPDATE, dealt to one cluster (07 R195, R196). -/
structure Share where
  cluster : Nat
  /-- numbers of the rows or runs -/
  parts : List Nat
  /-- row groups or runs -/
  tiles : Nat
  /-- cycles of its work (07 R195) -/
  cost : Nat := 0
  /-- the current step is granted (13 R363) -/
  granted : Bool := false
  /-- slots of the engine it holds; with none it waits for one, or for a page, since then (07 R192, R196) -/
  slots : Nat := 0
  since : Nat := 0
  /-- numbers of its row groups or runs, and how many of them have passed the engine -/
  units : List Nat := []
  ran : Nat := 0
  /-- its current step | mA | 13 R363, R364 | 0 -/
  step : Nat := 0
deriving DecidableEq, Repr

/-- Progress of a MATMUL cut into tiles (04 R92, R99; 07 R195). -/
structure MatmulWork where
  /-- parts of K -/
  parts : Nat
  /-- work units in all, and the next to be dispatched -/
  total : Nat
  next : Nat := 0
  /-- units whose epilogue has run -/
  finished : Nat := 0
  /-- the program table entry read at start (05 R117) -/
  prog : BitVec 1024 := 0
  /-- an in-place program; it runs through the scratchpad instead of the drain banks (04 R95, R96) -/
  inPlace : Bool := false
  fallback : Bool := false
  /-- finished parts of K that wait for the other parts of their tile (04 R99) -/
  parked : List FinTile := []
  /-- tiles the pager may fetch ahead, as 0xA043:00 stood at the start (07 R193) -/
  lookahead : Nat := 2
  /-- accumulators of an in-place program's tiles, by element of C: FP32 code -/
  banks : Tbl (Option Nat) := []
  /-- staged results not yet converted into C, by linear element index: FP32 code, bit 32 a fill, bit 33 an element that is not written,
  then the cluster; and marks of groups and tiles that have run (05 R114, R133) -/
  out : Tbl (Option Nat) := []
  /-- units that a cluster lost before they were done: they are dealt again (07 R199) -/
  redo : List Nat := []
  /-- the cluster whose vector engine runs the rows of an M range of an in-place program (05 R133, R134) -/
  homes : Tbl (Option Nat) := []
  /-- since when its next epilogue waits for a page to stage its results (05 R114, 07 R192) -/
  pageSince : Option Nat := none
  /-- since when its ready tile waits for a dispatch slot (07 R196) -/
  fullSince : Option Nat := none
deriving DecidableEq, Repr

/-- Progress of a transfer on its channel (09 R232 to R245). -/
structure TransferWork where
  /-- cluster and channel; `none` while it waits for a channel -/
  cluster : Nat
  chan : Option Nat := none
  /-- line requests issued so far, in pattern order -/
  next : Nat := 0
  /-- lines that came from another node and wait for their destination: line, data, poisoned -/
  arrived : List (Nat × List (BitVec 8) × Bool) := []
  /-- no further unit is issued (R245) -/
  stopped : Bool := false
  /-- the first failing line in pattern order, with its status (R245) -/
  fail : Option (Nat × Nat) := none
  /-- the lines that failed, but for those that only carry poison (R245) -/
  failed : List Nat := []
  /-- 0 moving, 1 read-back waiting for its data, 2 remote signal to be sent, 3 remote signal waiting for its ACK -/
  phase : Nat := 0
  /-- device time at which stage 2 began; the read-back of another node: returned, with an error; the error a refusal -/
  since : Nat := 0
  back : Option Bool := none
  nak : Bool := false
  /-- why the next line waits, as the counter its wait goes to (0 = none), and since when -/
  hold : Option (Nat × Nat) := none
deriving DecidableEq, Repr

/-- What the engine holds of a started command. -/
inductive Work where
  | none
  | matmul (w : MatmulWork)
  /-- a VECTOR and its shares -/
  | vector (prog : BitVec 1024) (shares : List Share)
  /-- an UPDATE that waits for its verdict, and its shares -/
  | update (prog : BitVec 1024) (shares : List Share)
  | transfer (w : TransferWork)
  | collective (id : Nat)
  /-- a SNAPSHOT command in its bath or its sheet; the bytes a RESTORE reads from its source (12 R337) -/
  | snapshot (source : SourceRead)
  | create (hostDesc : Line) (since : Nat)
  | free (handle : Nat)
deriving DecidableEq, Repr

/-- A command started and not completed (07 R174). -/
structure Started where
  /-- the model's own number of this start, unique in its queue -/
  id : Nat
  /-- position in its list, the list's identifier and the call depth -/
  index : Nat
  listId : Nat
  depth : Nat
  cmd : Line
  op : Nat
  /-- start time -/
  since : Nat
  flags : BitVec 32 := 0
  /-- rounding field 0 means SR for it: 0x8001:00 at its start (02 R50) -/
  sr : Bool := false
  /-- since when a contribution of it waits for a staging frame (03 R69) -/
  stageSince : Option Nat := none
  /-- since when an UPDATE waits under the copy-before-write barrier (06 R151, 12 R332) -/
  barSince : Option Nat := none
  /-- since when its engine waits for a package in the critical state (08 R227) -/
  hotSince : Option Nat := none
  /-- the counter its engine's wait at a channel's ingress goes to, and since when it waits (08 R217, R222) -/
  ingressSince : Option (Nat × Nat) := none
  /-- its tee stores wait at the aperture (06 R158) -/
  teeing : Bool := false
  /-- it used a package in state 2 or 3 (08 R226) -/
  derated : Bool := false
  /-- pages of 4 KiB of remote operands still to be asked for, each with the cluster whose pager asks, and those asked for so far
  (07 R194, R197) -/
  pages : List (Nat × Nat) := []
  asked : List Nat := []
  /-- its read-back returned an error: it does not signal (09 R245) -/
  silent : Bool := false
  /-- the status met so far that ranks highest, 0 = OK; handle word, address and value its error record names; the log
  index of a record of another class that holds it -/
  status : Nat := 0
  failHandle : Nat := 0
  failAddr : Nat := 0
  failValue : Nat := 0
  failSlot : Option Nat := none
  /-- bit set of clusters used -/
  clusters : BitVec 32 := 0
  /-- handles read and written (R174); outputs it overwrites whole (R175) -/
  reads : List Nat := []
  writes : List Nat := []
  covers : List Nat := []
  /-- tensors whose epoch it holds open (03 R65) -/
  opens : List Nat := []
  summary : Option SlotVal := none
  /-- its engine work is over: it may complete -/
  done : Bool := false
  /-- the collective or transfer engine that ran it, as the source of its signal (07 R178) -/
  engine : Option Nat := none
  work : Work := .none
deriving DecidableEq, Repr

/-- One of the 256 queues (07 R165 to R176). -/
structure Queue where
  /-- queue table entry | 512 | 07 R166 | 0 (17 R446 TEST writes it to zero) -/
  entry : Line := 0
  /-- watch line | 512 | 07 R167 | 0 -/
  watch : Line := 0
  /-- configuration latched at enable, bytes 1–5, 8–15, 24–31 in place | 512 | 07 R168 | 0 -/
  latched : Line := 0
  /-- list in progress | record | 07 R170, R175 | none -/
  run : Option ListRun := none
  /-- control stack | up to 8 entries | 07 R183 | empty -/
  stack : List StackEntry := []
  /-- summary slots | 16 × 16 bytes | 05 R136 | kind 0 -/
  slots : Tbl SlotVal := []
  /-- the latest command to name a summary slot, by slot and call depth: list, start number | table | 05 R138 | none -/
  slotUses : Tbl (Option (Nat × Nat)) := []
  /-- started and not completed commands | up to 16 | 07 R174 | none -/
  started : List Started := []
  /-- starts so far: the model's own numbering | number | model | 0 (DESIGN CHOICE, log entry 7) -/
  serial : Nat := 0
  /-- since when the next start waits on a full completion ring | ns | 07 R176 | none -/
  ringWait : Option Nat := none
  /-- since when its next start waits on a critical package | ns | 08 R227 | none -/
  hotSince : Option Nat := none
  /-- since its last FENCE a stream with stores of its commands was re-routed; such stores were declared lost | flags | 10 R270 | false -/
  rerouted : Bool := false
  lost : Bool := false
deriving DecidableEq, Repr

/-! ### Tensors (03, 07) -/

/-- FP32 shadow of a staged block (03 R69): codes of the sums and the rounding field last applied. -/
structure Shadow where
  vals : List Nat
  round : Nat
  /-- positions whose last contribution was a fill, converted with RN (05 R126) -/
  exact : List Nat := []
deriving DecidableEq, Repr

/-- A live tensor. Its frame map, scale-plane header and arrays lie in memory (07 R467). -/
structure Tensor where
  /-- descriptor | 512 | 07 R186 | none -/
  desc : Line
  /-- base of the metadata run | 48 | 07 R467 | none -/
  run : Nat := 0
  /-- scale-plane header of a residual's second plane | 48 | 03 R78 | none -/
  hdr1 : Nat := 0
  /-- owner of a residual, 0 otherwise | 24 | 07 R189 | none -/
  owner : Nat := 0
  /-- open count | number | 03 R65 | 0 -/
  opens : Nat := 0
  /-- blocks touched in the epoch | list | 03 R65 | none -/
  touched : List Nat := []
  /-- FP32 shadows of staged blocks | list | 03 R69 | none -/
  shadows : Tbl (Option Shadow) := []
  /-- step counter + 1 of the tensor's last quiet close | number | 03 R68 | 0 -/
  quietStep : Nat := 0
  /-- frames reserved and not yet bound | number | 07 R191 | 0 -/
  unbound : Nat := 0
  /-- clusters the scheduler deals the tiles of unbound frame-map entries to | by entry | 07 R191 | none -/
  dealt : Tbl (Option Nat) := []
  /-- attribute changes waiting for the step boundary: verdict, mirror class | bits | 07 R188 | none -/
  verdictNext : Option Bool := none
  mirrorNext : Option Nat := none
  /-- blocks of a gradient written with feedback in this step | list | 03 R79 | none -/
  fbWritten : List Nat := []
  /-- blocks of a latent tensor lost with their pages | list | 06 R162 | none -/
  lost : List Nat := []
  /-- waits for the commands that name it before it is released | flag | 07 R188 | false -/
  freeing : Bool := false
deriving DecidableEq, Repr

/-- What holds a 2 MiB frame (07 R190, R467; 03 R69). -/
inductive FrameUse where
  | free | data (handle : Nat) | meta' | staging
deriving DecidableEq, Repr

/-- A tensor's metadata run: owner, base address and length (07 R467). -/
structure MetaRun where
  handle : Nat
  base : Nat
  len : Nat
deriving DecidableEq, Repr

/-- The allocator (07 R190 to R192, R467). -/
structure Alloc where
  /-- use of each 2 MiB frame, nn × 32,768 + f | 1,048,576 frames | 07 R190 | free -/
  frames : Tbl FrameUse := []
  /-- per package: frames below this number were scrubbed | 16 | 07 R190, 17 R446 | 0 -/
  scrubbed : Tbl Nat := []
  /-- released frames not yet scrubbed | list | 07 R190 | none -/
  dirty : List Nat := []
  /-- metadata runs | list | 07 R467 | none -/
  runs : List MetaRun := []
  /-- scratchpad pages held by tensors: cluster × 384 + page to handle | 12,288 pages | 07 R192 | 0 (free) -/
  pages : Tbl Nat := []
deriving DecidableEq, Repr

/-! ### Engines of a cluster (04, 05, 07, 09) -/

/-- One of a cluster's 32 matrix arrays (04 R86, R93). -/
structure MatArray where
  /-- tile being accumulated | record | 04 R93 | none -/
  cur : Option Tile := none
  /-- it waits for the slope governor | flag | 04 R108, 13 R363 | false -/
  waits : Bool := false
  /-- finished tiles in the accumulator banks | up to 2 | 04 R86, R93 | none -/
  full : List FinTile := []
  /-- stall count | number | 04 R94 | 0 -/
  stalls : Nat := 0
  /-- since when a finished tile waits for a bank to drain | ns | 04 R93 | none -/
  stallSince : Option Nat := none
deriving DecidableEq, Repr

/-- One of a cluster's 8 transfer channels (09 R232, R239). -/
structure XferChan where
  /-- the transfer it runs: queue and started command | record | 09 R232 | none -/
  job : Option (Nat × Nat) := none
  /-- aperture bucket, in 1/2,560 byte | 0–4,096 bytes | 09 R239 | 4,096 bytes (DESIGN CHOICE, log entry 6) -/
  bucket : Nat := 4096 * 2560
  /-- device time of the last credit | ns | 09 R239 | 0 -/
  creditAt : Nat := 0
deriving DecidableEq, Repr

/-- A request waiting for a shared resource: who, since when (07 R192, R197; 09 R232). -/
structure Waiter where
  source : Nat
  id : Nat
  unit : Nat := 0
  since : Nat
deriving DecidableEq, Repr

/-- One of the 32 logical clusters. -/
structure Cluster where
  /-- cluster state 0 ENABLED, 1 QUARANTINED, 2 DISABLED, 3 ABSENT | 8 | 16 R430 | 0 -/
  state : Nat := 0
  /-- physical position | 8 | 15 R408, 16 R429 | own position (DESIGN CHOICE, log entry 6) -/
  physical : Option Nat := none
  /-- dispatched tiles not yet in an array | up to 64 | 07 R196 | none -/
  slots : List Tile := []
  /-- the 32 arrays | records | 04 R85, R93 | empty -/
  arrays : Tbl MatArray := []
  /-- finished-tile queue | up to 8 | 04 R94 | empty -/
  finished : List FinTile := []
  /-- operand tiles the pager is to fetch, and those in its buffers, by the unit that reads them | lists | 07 R193, R194 | none -/
  fetches : List Fetch := []
  buffers : List Fetch := []
  /-- requesters waiting on the pool of 1,536 transactions, by transfer channel; the one last granted | list, number | 07 R197 | none, 0 -/
  txWait : List Waiter := []
  txLast : Nat := 0
  /-- commands waiting for a scratchpad page | list | 07 R192 | none -/
  pageWait : List Waiter := []
  /-- working pages in use | 0–128 | 07 R192 | 0 -/
  workPages : Nat := 0
  /-- transfer channels | 8 records | 09 R232 | idle -/
  chans : Tbl XferChan := []
  /-- transfers waiting for a channel | list | 09 R232 | none -/
  chanWait : List Waiter := []
  /-- measured occupancy, cycles of dispatched work | number | 07 R195 | 0 -/
  occupancy : Nat := 0
  /-- measured occupancy of the transfer engine, cycles | number | 09 R232 | 0 -/
  xferOccupancy : Nat := 0
  /-- device time of the last tile | ns | 16 R426 | 0 -/
  lastTile : Nat := 0
  /-- structural test patterns run here for keep-warm | flag as a number | 14 R384 | none -/
  pattern : Option Nat := none
  /-- last failing pattern, rotation passes | 16, 32 | 16 R433 (0x7010) | 0 -/
  failPattern : Nat := 0
  passes : Nat := 0
  /-- a commanded rotation pattern or recovery test waits to run | flags | 16 R428, R432 | false -/
  rotateNow : Bool := false
  testNow : Bool := false
deriving DecidableEq, Repr

/-! ### Memory system (08) -/

/-- The stored state of an LPDDR line or scratchpad word as its check symbols show it (08 R210, R211; 16 R421). -/
inductive LineMark where
  | good | poisoned | bad | badAddress
deriving DecidableEq, Repr

/-- The request kinds a peer or the companion may send (10 R258, 11 R302). -/
inductive ReqKind where
  | load | store | atomic | add | get | rdShared | rdOwn | writeback | evict
  /-- a tee mark, a flagged store (06 R159) -/
  | mark
deriving DecidableEq, Repr

/-- A request waiting at a channel, with the time it arrived there (08 R217, R218). -/
structure ChanReq where
  kind : ReqKind
  pkt : Packet
  line : Nat
  since : Nat
  /-- the counter its wait goes to, 0 = none -/
  key : Nat := 0
  /-- what an admitted read returns: its lines as they were at its admission, and whether one did not decode (08 R219) -/
  data : List (BitVec 8) := []
  bad : Bool := false
  /-- its place in the order in which operations came to wait (08 R219); its receive buffer is not free yet (10 R254) -/
  ord : Nat := 0
  owes : Bool := false
deriving DecidableEq, Repr

/-- A write held by the copy-before-write barrier (12 R332): bytes at an address. -/
structure HeldWrite where
  addr : Nat
  bytes : List (Option Byte)
  since : Nat
deriving DecidableEq, Repr

/-- An entry of a memory-side adder: line and time of its last operation (08 R221). -/
structure AdderEntry where
  line : Nat
  last : Nat
deriving DecidableEq, Repr

/-- An add or atomic waiting at a channel's ingress (08 R222, R227; 10 R273): operation, source unit, since when, and the
packet to be answered. -/
structure AdderWaiter where
  op : AdderOp
  source : Nat := 0
  since : Nat
  reply : Option Packet := none
  /-- the counter its wait goes to, 0 = none; its place in the order in which operations came to wait (08 R219) -/
  key : Nat := 0
  ord : Nat := 0
deriving DecidableEq, Repr

/-- A partial line in the write-combining buffer (08 R223). -/
structure WcEntry where
  line : Nat
  mask : BitVec 64
  last : Nat
  /-- source node and unit of its last store -/
  source : Nat := 0
deriving DecidableEq, Repr

/-- A partial store waiting at a channel's ingress (08 R223, R227; 10 R273): line, mask, data, source, since when, the counter its
wait goes to, and the packet to be answered. -/
structure WcWaiter where
  line : Nat
  mask : BitVec 64
  data : List Byte
  source : Nat := 0
  since : Nat
  key : Nat := 0
  reply : Option Packet := none
  poison : Bool := false
  /-- its place in the order in which operations came to wait (08 R219) -/
  ord : Nat := 0
deriving DecidableEq, Repr

/-- One of the 128 memory channels Mnn.c, number 4nn + c (08 R204 to R223). -/
structure Channel where
  /-- admitted requests, oldest first | up to 128 | 08 R217 | none -/
  admitted : List ChanReq := []
  /-- requests waiting at the ingress | list | 08 R217 | none -/
  ingress : List ChanReq := []
  /-- source last admitted (round robin) | 16 | 08 R217 | 0 -/
  lastSource : Nat := 0
  /-- device time of the last request | ns | 08 R205 | 0 -/
  lastUse : Nat := 0
  /-- power-down; self-refresh | flags | 08 R205, R350, R382 | false -/
  powerDown : Bool := false
  selfRefresh : Bool := false
  /-- failed training at every bin | flag | 08 R206, R229 | false -/
  failed : Bool := false
  /-- adder entries, oldest use first | up to 256 | 08 R220 | none -/
  entries : List AdderEntry := []
  /-- operations waiting for an adder entry | list | 08 R222 | none -/
  adderWait : List AdderWaiter := []
  /-- source last admitted to the adder | 16 | 08 R222 | 0 -/
  adderLast : Nat := 0
  /-- write-combining entries, oldest first | up to 64 | 08 R223 | none -/
  wc : List WcEntry := []
  /-- partial stores waiting for an entry | list | 08 R223 | none -/
  wcWait : List WcWaiter := []
  /-- next line patrol scrub reads; start of its pass | 28, ns | 08 R212 | 0, none -/
  patrolNext : Nat := 0
  patrolSince : Option Nat := none
  /-- per-bank refreshes issued at the base rate and at twice it | numbers | 08 R224 | 0 -/
  refreshes : Nat := 0
  fastRefreshes : Nat := 0
  /-- all-bank refreshes, one before each self-refresh | number | 08 R205 | 0 -/
  allBank : Nat := 0
  /-- distinct uncorrectable lines: address and time | list | 08 R228 | none -/
  ueLines : List (Nat × Nat) := []
  /-- writes held by the barrier | up to 64 | 12 R332 | none -/
  held : List HeldWrite := []
deriving DecidableEq, Repr

/-- One of the 32 memory packages (08 R225 to R229). -/
structure Package where
  /-- temperature readout, °C | number | 08 R225 | 0 (DESIGN CHOICE, log entry 6) -/
  celsius : Int := 0
  /-- derating state 0–3 | 8 | 08 R225 | 0 -/
  derate : Nat := 0
  /-- since when the reading stays below the exit threshold of states 1, 2 and 3 | 3 × ns | 08 R225 | none -/
  coolSince : Tbl (Option Nat) := []
  /-- since when the reading stays at or above 105 °C | ns | 08 R227 | none -/
  critSince : Option Nat := none
  /-- out of service for good (until power-up); out of service while critical | flags | 08 R227, R229 | false -/
  offline : Bool := false
  critical : Bool := false
deriving DecidableEq, Repr

/-! ### Fabric (10) -/

/-- A flit of a port or of the Traek link as its sender fills it (10 R251, 11 R295): sequence number, idle, last flit received
in order, NAK, virtual channel or class of the credit return and its slots, payload. -/
structure Flit where
  seq : Nat
  idle : Bool := false
  ack : Nat := 0
  nak : Bool := false
  cls : Nat := 0
  slots : Nat := 0
  payload : List Byte
deriving DecidableEq, Repr

/-- A message the module has sent at one of its interfaces. A packet or message of a link is followed by the flits that carry
it. -/
inductive Egress where
  /-- a fabric packet (R257): opcode, destination, source, flagged, poison, hops, route epoch, sequence, address, length in
  lines, tag, operation or status, data -/
  | packet (op dst src : Nat) (flag poison : Bool) (hops epoch seq addr lines tag status : Nat) (data : List Byte)
  /-- a flit of a port; a flit of the Traek link -/
  | flit (port : Nat) (f : Flit)
  | traekFlit (f : Flit)
  /-- a Traek message: opcode, tag, address, lines, status, poison, data -/
  | traek (op : Nat) (tag : Nat) (addr : Nat) (lines : Nat) (status : Nat) (poison : Bool) (data : List Byte)
  /-- a dictionary response or event to a master -/
  | dictionary (m : Master) (pdu : List Byte)
  /-- a private write to the flow controller, mL/min -/
  | flowRequest (mlPerMin : Nat)
  /-- a setpoint over AVSBus, mV -/
  | railVoltage (milliVolt : Nat)
  /-- CLEAR_FAULTS over PMBus -/
  | clearFaults
  /-- a tray bus enumeration (RSTDAA, ENTDAA) -/
  | enumerate
  /-- bits shifted out of a die's test data register -/
  | tdo (die : Nat) (bits : Nat)
  /-- a store into companion memory: address and bytes -/
  | hostStore (addr : Nat) (data : List Byte)
deriving DecidableEq, Repr

/-- A packet or message that waits at the sender of a link (10 R253 to R255, 11 R298, R300): its virtual channel or class, its
slots, and since when its credit is short. -/
structure OutWait where
  cls : Nat
  slots : Nat
  msg : Egress
  short : Option Nat := none
deriving DecidableEq, Repr

/-- What a remote request of the module waits for (10 R258, 11 R302). -/
inductive ReqUse where
  /-- a line of a transfer that is read, or stored, at another node -/
  | xfer (line : Nat)
  | put (line : Nat)
  | readback
  | signal
  /-- 4 KiB of a remote operand from this global address on (07 R194) -/
  | fetch (g c : Nat)
  /-- a request relayed for another agent, to be answered (10 R260, 11 R304); the lines of it that this piece ends (11 R301) -/
  | relay (kind : ReqKind) (p : Packet) (done : Nat)
  /-- a load of the time source's device time, sent then (13 R345) -/
  | time (sent : Nat)
  /-- a store of a snapshot to its store; a read-back of it (12 R333) -/
  | sheet
  | sheetBack
  /-- a tee store (06 R158) -/
  | tee
  | other
deriving DecidableEq, Repr

/-- One store or add in an edge gateway buffer, or a request that waits behind those of its unit (10 R264, R276): opcode, flagged,
address, lines, add type, poison, data, issuing command. -/
structure GwPart where
  op : Nat
  flag : Bool := false
  addr : Nat
  lines : Nat := 0
  aop : Nat := 0
  poison : Bool := false
  data : List Byte
  owner : Option (Nat × Nat)
  why : ReqUse := .other
  /-- a companion's store, relayed (11 R304) -/
  relayed : Bool := false
deriving DecidableEq, Repr

/-- A segment of an edge gateway buffer, gathered for one destination (10 R276); a store waiting for room is a segment of its
own, with its source unit. -/
structure Segment where
  node : Nat
  source : Nat := 0
  parts : List GwPart
  bytes : Nat
  since : Nat
deriving DecidableEq, Repr

/-- One of the 8 fabric ports (10 R248 to R256, R276). -/
structure Port where
  /-- 0 down, 1 training, 2 UP | 8 | 10 R256 (0x5005) | 0 -/
  state : Nat := 0
  /-- lanes in service | 8 | 10 R255 | 0 -/
  lanes : BitVec 8 := 0
  /-- traffic held for a retrain on the lanes that remain | flag | 10 R255 | false -/
  retraining : Bool := false
  /-- retrains | 32 | 10 R256 | 0 -/
  retrains : Nat := 0
  /-- next flit sequence to send; last flit received in order | 12 | 10 R251 | 0, none received: 4,095 (DESIGN CHOICE, log entry 6) -/
  txSeq : BitVec 12 := 0
  rxSeq : BitVec 12 := 4095
  /-- flits still to come of the packet that is being received | number | 10 R251, R257 | 0 -/
  rxLeft : Nat := 0
  /-- retry buffer: unacknowledged flits, oldest first | up to 2,048 flits | 10 R253 | empty -/
  retry : List Flit := []
  /-- packets that wait at the sender for credit, for the retry buffer or for the end of a retrain | list | 10 R253 to R255 | none -/
  waiting : List OutWait := []
  /-- slots of this module's receive buffers to be returned to the partner, per virtual channel | 5 numbers | 10 R254 | 0 -/
  owed : Tbl Nat := []
  /-- messages with unacknowledged flits: the last flit of each | list | 10 R253, R268 | none -/
  sent : List (BitVec 12 × Egress) := []
  /-- credits, slots, per virtual channel; a port that trains to UP starts with its partner's buffers | 5 numbers | 10 R254 | 0 (DESIGN CHOICE, log entry 6) -/
  credits : Tbl Nat := []
  /-- since when a laser input is below 15.0 dBm | ns × 2 | 10 R250 | none -/
  laserLow : Tbl (Option Nat) := []
  /-- edge gateway segments, and stores waiting for room | 1 MiB | 10 R276 | empty -/
  gateway : List Segment := []
  gatewayWait : List Segment := []
  /-- source unit last admitted (round robin) | 16 | 10 R276 | 0 -/
  gatewayLast : Nat := 0
deriving DecidableEq, Repr

/-- A request packet sent and not acknowledged (10 R264, R266): its number, the command that issued it and its address. -/
structure OutPkt where
  seq : Nat
  /-- issuing queue and started command; `none` for the module's own -/
  owner : Option (Nat × Nat)
  lo : Nat
  hi : Nat
  /-- the packet itself, kept for a replay -/
  msg : Egress
  tag : Nat := 0
  why : ReqUse := .other
  /-- the issuers and uses of further stores gathered into it (10 R276) -/
  also : List (Option (Nat × Nat) × ReqUse) := []
deriving DecidableEq, Repr

/-- The stream to one destination node (10 R264 to R270): key the node, or 65,536 + the node for requests relayed with the
companion's node ID as source (11 R304). -/
structure StreamOut where
  /-- next sequence number | 32 | 10 R264 | 0 (DESIGN CHOICE, log entry 6) -/
  next : Nat := 0
  /-- sent and not acknowledged | list | 10 R264 | none -/
  unacked : List OutPkt := []
  /-- route epoch | 8 | 10 R268 | 0 -/
  epoch : BitVec 8 := 0
  /-- new packets held between the re-route and the PROBE_RSP | flag | 10 R268 | false -/
  probing : Bool := false
  /-- the PROBE of this route epoch went out | flag | 10 R268 | false -/
  probeSent : Bool := false
  /-- packets replayed on the new path: sequence numbers | list | 10 R268 | none -/
  replayed : List Nat := []
  /-- packets issued while held | list | 10 R268 | none -/
  held : List OutPkt := []
deriving DecidableEq, Repr

/-- The stream from one source node (10 R264, R269): key the source node + 131,072 × the destination node, or 65,536 for the
companion's H_REQ messages, numbered as they arrive (11 R303). -/
structure StreamIn where
  /-- next sequence number to apply | 32 | 10 R264 | 0 (DESIGN CHOICE, log entry 6) -/
  next : Nat := 0
  /-- packets waiting behind a gap, or flagged ones behind earlier packets, since when | list | 10 R264, R265 | none -/
  held : List (ReqKind × Packet × Nat) := []
  /-- runs declared lost | list | 10 R269 | none -/
  skipped : List (Nat × Nat) := []
deriving DecidableEq, Repr

/-- A remote request of the module not yet answered. -/
structure Req where
  tag : Nat
  node : Nat
  owner : Option (Nat × Nat)
  why : ReqUse
  /-- its address, and whether it shares a GET of the aligned 4 KiB that holds it; no later load shares that, for a store of the
  stream came between (10 R265, R277) -/
  addr : Nat := 0
  page : Bool := false
  shut : Bool := false
deriving DecidableEq, Repr

/-- Directory state of a line (10 R272); agents by node ID, with the device time of the last use (R274). -/
inductive DirState where
  | u
  | s (sharers : List Nat) (used : Nat)
  | e (owner : Nat) (used : Nat)
deriving DecidableEq, Repr

/-- A snoop not yet answered (10 R273 to R275). -/
structure Snoop where
  line : Nat
  agent : Nat
  share : Bool
  since : Nat
deriving DecidableEq, Repr

/-! ### Collectives (10 R279 to R290) -/

/-- A verdict header (06 R152). -/
structure Verdict where
  tag : BitVec 32 := 0
  nf : Bool := false
  void : Bool := false
  ovf : Nat := 0
  contributors : Nat := 0
deriving DecidableEq, Repr

/-- What a member holds of a received chunk range (10 R287). -/
structure ChunkSeen where
  rank : Nat
  index : Nat
  first : Nat
  count : Nat
  /-- sum check and absolute sum, as FP32 codes or u64 -/
  sum : Nat
  abs : Nat
  applied : Bool
  last : Bool
  /-- resends asked for: digest, sum -/
  digestTries : Nat := 0
  sumTries : Nat := 0
deriving DecidableEq, Repr

/-- A received CLOSE (10 R288). -/
structure CloseSeen where
  rank : Nat
  hdr : Verdict
  status : Nat
  suspect : Nat
deriving DecidableEq, Repr

/-- A running collective (10 R279, R283). -/
structure Collective where
  id : Nat
  q : Nat
  cmdId : Nat
  /-- 0–7; 8 while it waits for a place (10 R279) -/
  engine : Nat
  kind : Nat
  group : Nat
  digest : Nat
  gseq : Nat
  members : List Nat
  rank : Nat
  root : Nat
  src : Nat
  dst : Nat
  first : Nat
  count : Nat
  operator : Nat
  verdict : Bool
  closing : Bool
  round : Nat
  /-- chunks received in phase 1 and phase 2 -/
  seen : List ChunkSeen := []
  gathered : List ChunkSeen := []
  closes : List CloseSeen := []
  /-- the owner's combined header and status of its shard -/
  shard : Verdict := {}
  shardStatus : Nat := 0
  shardClosed : Bool := false
  suspect : Nat := 0xFFFF
  /-- time of the last chunk or close notice, extension used, nodes whose HOLD suspends the timeout -/
  progress : Nat := 0
  extended : Bool := false
  holders : List Nat := []
  suspendedAt : Option Nat := none
  /-- it has sent its slow-contributor hint (10 R290) -/
  hinted : Bool := false
  /-- it used a package in state 2 or 3 (08 R226) -/
  derated : Bool := false
  /-- status met by this member itself; the reduce phase holds the destination's epoch open; blocks closed with OVF or NF -/
  own : Nat := 0
  entered : Bool := false
  closedBad : List Nat := []
  /-- a gather chunk's header came from another step (06 R154) -/
  void : Bool := false
deriving DecidableEq, Repr

/-- A chunk or close notice sent and not yet acknowledged by COL_ACK (10 R258, R286). -/
structure ColSent where
  collective : Nat
  tag : Nat
  node : Nat
  op : Nat
  handle : Nat
  flag : Bool
  poison : Bool
  data : List Byte
  /-- element and scale bytes, which the digest covers -/
  covered : Nat
  /-- it was on a path that a re-route left, and no retry buffer has replayed it (10 R269, R288) -/
  risk : Bool := false
deriving DecidableEq, Repr

/-- A collective packet that waits: in the holdback (key 0), for room in it (key 0x501900) or at an adder's ingress, with the
counter its wait goes to (10 R284; 03 R69). -/
structure ColWait where
  op : Nat
  pkt : Packet
  key : Nat
  since : Nat
deriving DecidableEq, Repr

/-! ### Traek link and twin (11) -/

/-- The Traek link (11 R294 to R300). -/
structure Traek where
  /-- 0 DOWN, 1 TRAINING, 2 UP, 3 RETRAINING | 8 | 11 R297 | 0 -/
  state : Nat := 0
  /-- width 16, 8, 4; half rate; lane group | 8 each | 11 R297 | 0 -/
  width : Nat := 0
  half : Bool := false
  group : Nat := 0
  /-- retrains | 32 | 11 R298 | 0 -/
  retrains : Nat := 0
  /-- released to train by stage-one firmware | flag | 11 R297, 17 R446 | false -/
  released : Bool := false
  /-- next flit sequence; last received in order | 10 | 11 R295 | 0; 1,023 (DESIGN CHOICE, log entry 6) -/
  txSeq : BitVec 10 := 0
  rxSeq : BitVec 10 := 1023
  /-- flits still to come of the message that is being received | number | 11 R295, R301 | 0 -/
  rxLeft : Nat := 0
  /-- retry buffer: unacknowledged flits, oldest first | up to 512 flits | 11 R296 | empty -/
  retry : List Flit := []
  /-- messages that wait at the sender for credit, for the retry buffer or for the end of a retrain | list | 11 R296, R298, R300 | none -/
  waiting : List OutWait := []
  /-- slots to be returned to the companion, per class | 4 numbers | 11 R300 | 0 -/
  owed : Tbl Nat := []
  /-- credits, slots, per class | 4 numbers | 11 R300 | 0 (DESIGN CHOICE, log entry 6) -/
  credits : Tbl Nat := []
  /-- lane that the retrain in progress excludes | number | 11 R298 | none -/
  exclude : Option Nat := none
deriving DecidableEq, Repr

/-- A tee store or mark on its way to the twin (06 R158, R159): address, data, and for a mark step + 1. -/
structure TeeStore where
  addr : Nat
  data : List Byte
  mark : Nat := 0
deriving DecidableEq, Repr

/-- Twin pairing (11 R310 to R317); the state code is 0x6001:00 in the dictionary. -/
structure Twin where
  /-- attempt number of the current or last pair command | 32 | 11 R311 | 0 -/
  attempt : Nat := 0
  /-- device time of the pair command | ns | 11 R312 | 0 -/
  since : Nat := 0
  /-- peer's OFFER: nonce, feed identity, flags and budget, domain digest, mirror first frame and half size | record | 11 R311 | none -/
  offer : Option (List Byte) := none
  /-- own OFFER as sent | 256 bytes | 11 R312 | none -/
  own : List Byte := []
  /-- length of the peer's evidence, once its EVIDENCE came | number | 11 R311, R312 | none -/
  peerEvidence : Option Nat := none
  /-- what was sent and received in this attempt | flags | 11 R312 | false -/
  sentEvidence : Bool := false
  sentAccept : Bool := false
  gotAccept : Bool := false
  /-- heartbeats sent; highest count received; device time of the last counted one | 64, 64, ns | 11 R315, R316 | 0 -/
  sent : Nat := 0
  lastCount : Nat := 0
  lastBeat : Nat := 0
  lastSentAt : Nat := 0
  /-- step + 1 of the last mark sent, applied here, and applied by the peer (0 = none) | 64 | 11 R315, 06 R159 | 0 -/
  markSent : Nat := 0
  markApplied : Nat := 0
  peerApplied : Nat := 0
  /-- a tee store arrived after the last applied mark | flag | 11 R316 | false -/
  teeAfterMark : Bool := false
  /-- detach: time of the command or of the received DETACH, commanded here, own DETACH sent, received | ns, flags | 11 R317 | none -/
  detachAt : Option Nat := none
  detachOwn : Bool := false
  detachSent : Bool := false
  detachGot : Bool := false
  /-- override in force for the pair | flag | 11 R313 | false -/
  overridden : Bool := false
  /-- bytes teed in this step | 64 | 12 R321 | 0 -/
  teed : Nat := 0
  /-- tee stores, and the mark of a step, that wait at the tee's aperture, oldest first | list | 06 R158, R159 | none -/
  tees : List TeeStore := []
  /-- since when the update unit waits for them | ns | 06 R158 (0xA037) | none -/
  teeSince : Option Nat := none
  /-- the tee's aperture bucket, in 1/2,560 byte, and the time of its last credit | 0–4,096 bytes, ns | 06 R158, 09 R239 | 4,096 bytes
  (DESIGN CHOICE, log entry 6), 0 -/
  bucket : Nat := 4096 * 2560
  creditAt : Nat := 0
deriving DecidableEq, Repr

/-! ### Snapshots (12) -/

/-- A stop bath (12 R325, R326). -/
structure Bath where
  q : Nat
  id : Nat
  /-- 0 STOP_BATH, 1 SHEET, 2 RESTORE, 3 detach; the module's own baths have queue 256 -/
  purpose : Nat
  /-- the tagged step, or `none` for an immediate bath -/
  tag : Option Nat
  mirror : Bool
  keep : Bool
  /-- stage 1–8; 0 while a tagged bath waits for its crossing -/
  stage : Nat
  since : Nat
  boundary : Nat
  /-- the slot whose header a sheet has written at its start (12 R333) -/
  slot : Option Nat := none
deriving DecidableEq, Repr

/-- Bytes of a sheet's images in one 64 KiB segment of memory (12 R332): segment number, local address, offset in the slot,
length. -/
structure SheetPiece where
  /-- the tensor whose image it belongs to -/
  handle : Nat := 0
  seg : Nat
  addr : Nat
  off : Nat
  len : Nat
deriving DecidableEq, Repr

/-- A running contact sheet (12 R328 to R334). -/
structure Sheet where
  /-- queue and started command; queue 256 is the module's own sheet (R335) -/
  q : Nat
  id : Nat
  slot : Nat
  count : Nat
  boundary : Nat
  /-- 0 copying, 1 last line's read-back awaited, 2 final header written and its read-back awaited -/
  phase : Nat := 0
  /-- pieces not yet copied, in copy order -/
  segments : List SheetPiece
  /-- bytes stored so far, and the segments in the order of their first holds -/
  stored : Nat := 0
  heldFirst : List Nat := []
  /-- header fields captured in stage 5 -/
  capture : Nat := 0
  applied : Nat := 0
  skipped : Nat := 0
  jobKey : Nat := 0
  verdict : Nat := 0
  total : Nat := 0
  digest : Nat := 0
deriving DecidableEq, Repr

/-- Step verdict, boundary and snapshot state (06 R153 to R157, 12). -/
structure StepState where
  /-- verdict latch: NF, VOID | 2 | 06 R153 | 0 -/
  nf : Bool := false
  void : Bool := false
  /-- folded verdict of the step's verdict collectives | record | 06 R156 | zero -/
  fold : Verdict := {}
  /-- a verdict collective completed with bit 7, or reported a suspected silent error | flag | 06 R156 | false -/
  broken : Bool := false
  /-- own closing contribution sent; closing collective completed | flags | 06 R155, R156 | false -/
  closed : Bool := false
  final : Bool := false
  /-- when it became final | ns | 06 R156 | 0 -/
  finalAt : Nat := 0
  /-- an UPDATE of this step has completed | flag | 12 R326 | false -/
  updated : Bool := false
  /-- the last-of-step UPDATE completed, and whether the step was applied | flags | 06 R157 | none -/
  lastDone : Option Bool := none
  /-- gradients with error feedback named by an applied UPDATE | list | 06 R157 | none -/
  feedback : List Nat := []
  /-- dictionary writes that take effect at the next boundary (0x8002:00, 0x4012:00) | list | 02 R50, 08 R230 | none -/
  pend : Tbl (Option Nat) := []
  /-- UPDATEs are refused until a sheet completes | flag | 12 R335 | false -/
  overdue : Bool := false
  /-- a SHEET has started since power-up | flag | 12 R335 | false -/
  sheetSeen : Bool := false
  /-- hold of the stop bath: no queue but the exempt one starts a command | flag, queue | 12 R325 | none -/
  hold : Option Nat := none
  /-- stage 6 has begun and the hold stands: nothing new goes to the fabric; what waits for the release | flag, list | 12 R325 | false -/
  quiet : Bool := false
  unsent : List Segment := []
  /-- the slot of the latest complete sheet | 1 | 12 R329 | 0 -/
  lastSlot : Nat := 0
  bath : Option Bath := none
  /-- baths that wait for their crossing or for the bath before them, in the order they started | list | 12 R326 | none -/
  bathWait : List Bath := []
  sheet : Option Sheet := none
  /-- counter image of stage 5 | 4,096 × 64 | 12 R325 | none -/
  image : Tbl (BitVec 64) := []
deriving DecidableEq, Repr

/-! ### Clocks, power and cooling (13, 14) -/

/-- A change of operating point asked for (13 R352, R354). -/
structure PointReq where
  target : Nat
  since : Nat
deriving DecidableEq, Repr

/-- One of the 48 clock and power regions (13 R346 to R362). -/
structure Region where
  /-- operating point | 3 | 13 R346 | 0 (DESIGN CHOICE, log entry 6) -/
  point : Nat := 0
  /-- 0 ACTIVE, 1 GATED, 2 PLL_OFF, 3 DARK | 8 | 13 R350 | 3: the core rail is off (17 R446, R448) -/
  power : Nat := 3
  /-- since when idle; since when GATED | ns | 13 R350 | 0 -/
  idleSince : Nat := 0
  gatedSince : Nat := 0
  /-- a wake was asked for | flag | 13 R350 | false -/
  wake : Bool := false
  /-- slices still to be enabled of a staged wake; time of the last enable | 5, ns | 13 R351 | 0 -/
  staged : Nat := 0
  stagedAt : Nat := 0
  /-- failed slices | 16 | 13 R359 | 0 -/
  failed : BitVec 16 := 0
  /-- limits: thermal, monitor, supply; land group holds it | points, flag | 13 R347, R348, R358, R362; 14 R380 | OP4, OP7, OP7, false -/
  thermal : Nat := 4
  monitor : Nat := 7
  supply : Nat := 7
  land : Bool := false
  /-- preferred point of the work dispatched to it | 3 | 13 R366 | 7 -/
  preferred : Nat := 7
  /-- since when every monitor reports 12 % or more | ns | 13 R348 | none -/
  marginSince : Option Nat := none
  /-- since when the temperature is at or below the threshold minus 3 °C; time of the last thermal step | ns | 14 R380 | none -/
  coolSince : Option Nat := none
  thermalAt : Nat := 0
  /-- current that filler activity draws, and when it was last worked out | mA, ns | 13 R364 | 0 -/
  filler : Nat := 0
  fillerAt : Nat := 0
  /-- the clock is stretched; since when the voltage is above the threshold | flag, ns | 13 R353, R354 | false, 0 -/
  stretch : Bool := false
  clearSince : Nat := 0
  /-- point change waiting for its shutter stop; time at which an abandoned one may be asked for again | record, ns | 13 R352, R354 | none -/
  change : Option PointReq := none
  retry : Option PointReq := none
  /-- stopped by a thermal trip; by interval mode; by a coolant stop | flags | 14 R380, R382; 13 R369 | false -/
  tripped : Bool := false
  interval : Bool := false
  coolant : Bool := false
  /-- minimum voltage seen and its device time | mV, ns | 13 R361 | 0 (none recorded) -/
  minVolt : Nat := 0
  minAt : Nat := 0
  /-- margin the droop predictor adds | mV, 0–20 | 13 R357 | 20 (the guard band) -/
  margin : Nat := 20
  /-- last voltage and current reading | mV, 0.1 A | 13 R371 (0x2010) | 0 -/
  milliVolt : Nat := 0
  deciAmp : Nat := 0
deriving DecidableEq, Repr

/-- A request waiting for a slope governor (13 R363): 0 staged slice, 1 tile start of an array, 2 wake, 3 interval restart, 4
tile start of a VECTOR or UPDATE; with the array, or the queue and started command. -/
structure SlopeReq where
  kind : Nat
  region : Nat
  who : Nat × Nat
  step : Nat
  since : Nat
deriving DecidableEq, Repr

/-- The slope governor of one half (13 R363). -/
structure Governor where
  /-- allowance, mA, up to 10 A | number | 13 R363 | 0 -/
  allowance : Nat := 0
  /-- device time of the last growth | ns | 13 R363 | 0 -/
  grownAt : Nat := 0
  waiting : List SlopeReq := []
deriving DecidableEq, Repr

/-- Power loop, supply and time alignment (13). -/
structure Power where
  /-- cap ceiling | 3 | 13 R367 | 7 -/
  ceiling : Nat := 7
  /-- running regions per slot, 32 = interval mode off | 6 | 13 R369 | 32 -/
  k : Nat := 32
  /-- interval mode is on; first region of the running set | flags, 5 | 13 R369 | false, 0 -/
  intervalOn : Bool := false
  slot : Nat := 0
  slotAt : Nat := 0
  /-- average module power, W; since when below 95 % of the cap; time of the last tick | W, ns | 13 R367 | 0 -/
  watts : Nat := 0
  lowSince : Option Nat := none
  tickAt : Nat := 0
  /-- setpoint of the core rail | mV | 13 R357 | 0 -/
  setpoint : Nat := 0
  /-- consecutive AVSBus failures; no region is raised while the bus is silent | number, flag | 13 R358 | 0 -/
  avsFails : Nat := 0
  avsSilent : Bool := false
  avsAt : Nat := 0
  /-- since when the rail reads low; since when it reads good; time of the last supply step | ns | 13 R358 | none -/
  railLow : Option Nat := none
  railGood : Option Nat := none
  supplyAt : Nat := 0
  /-- STATUS_WORD reported a fault | flag | 13 R358 | false -/
  pmbusFault : Bool := false
  /-- land groups suspected (above 30 %) and limited (above 60 %) until below 25 % | lists | 13 R362 | none -/
  landHigh : List Nat := []
  landLimit : List Nat := []
  /-- device time up to which the throttle counters are counted | ns | 13 R370 | 0 -/
  accruedAt : Nat := 0
  /-- every cluster region stretches on overcurrent, and since when | flag, ns | 13 R365 | false, 0 -/
  overcurrent : Bool := false
  overSince : Nat := 0
  /-- slope governors of the halves | 2 records | 13 R363 | zero -/
  west : Governor := {}
  east : Governor := {}
  /-- time alignment: consecutive offsets within 5 ns, consecutive failed exchanges, time device time still stands | numbers, ns | 13 R345 | 0 -/
  goodOffsets : Nat := 0
  failedExchanges : Nat := 0
  standFor : Nat := 0
  /-- the loads of an exchange are out; the replies that came to them | flag, list | 13 R345 | false, none -/
  timeSent : Bool := false
  timeReplies : List TimeSample := []
  /-- readings of module power of the last 10 s: time and W | list | 14 R377 | none -/
  history : List (Nat × Nat) := []
  /-- last reading of the core rail; the low rail of this spell is recorded | mV, flag | 13 R358 | 0, false -/
  railMv : Nat := 0
  lowReported : Bool := false
  /-- offset still to be slewed; how much of its next ns is slewed already | ns, ps | 13 R345 | 0 -/
  slew : Int := 0
  slewPs : Nat := 0
  /-- the last read of the feed identity was unreadable | flag | 13 R358 | false -/
  feedBad : Bool := false
deriving DecidableEq, Repr

/-- One of the 80 hot spots; temperatures in 0.1 °C (14 R374, R385). -/
structure HotSpot where
  /-- sensors A and B, temperature | 16 each | 14 R374 | 0 (DESIGN CHOICE, log entry 6) -/
  a : Int := 0
  b : Int := 0
  temp : Int := 0
  /-- suspect marks, estimated, tripped | 4 | 14 R385, R380 | 0 -/
  suspectA : Bool := false
  suspectB : Bool := false
  estimated : Bool := false
  tripped : Bool := false
  /-- since when the sensors disagree; since when they agree | ns | 14 R385 | none -/
  apartSince : Option Nat := none
  agreeSince : Option Nat := none
  /-- device time of the last reading | ns | 14 R374 | 0 -/
  readAt : Nat := 0
  /-- readings of the last 0.5 ms: time and temperature | list | 14 R382 | none -/
  recent : List (Nat × Int) := []
deriving DecidableEq, Repr

/-- One of the four tray roles (14 R375, R376). -/
structure TrayRole where
  bound : Bool := false
  /-- valid | flag | 14 R376 | false -/
  valid : Bool := false
  /-- consecutive failed and consecutive good transfers | numbers | 14 R376 | 0 -/
  fails : Nat := 0
  goods : Nat := 0
  /-- dynamic address and last reading | 7, 32 | 14 R375, R376 | 0 -/
  addr : Nat := 0
  reading : Int := 0
deriving DecidableEq, Repr

/-- Cooling (14 R377 to R384). -/
structure Cooling where
  /-- roles: 0 inlet, 1 outlet, 2 flow meter, 3 flow controller | 4 records | 14 R376 | unbound -/
  roles : Tbl TrayRole := []
  /-- flow fraction, per mille, and readings with their times | numbers | 14 R378, R381 | 1,000 -/
  fraction : Nat := 1000
  history : List (Nat × Nat) := []
  /-- consecutive flow readings below 20 % | number | 14 R382 | 0 -/
  lowReads : Nat := 0
  /-- requested flow, the request before the last raise, time of that raise | mL/min, ns | 14 R377, R378 | 0 -/
  request : Nat := 0
  before : Nat := 0
  raisedAt : Nat := 0
  requestAt : Nat := 0
  /-- stopped; since when the flow is at least 80 % | flag, ns | 14 R382, R383 | false -/
  stopped : Bool := false
  okSince : Option Nat := none
  /-- peers that received HOLD | list | 14 R382 | none -/
  heldPeers : List Nat := []
  trendAt : Nat := 0
  /-- the inlet reads above the maximum | flag | 14 R381 | false -/
  inletHigh : Bool := false
  /-- holds received: sender and time | list | 14 R383 | none -/
  holds : List (Nat × Nat) := []
deriving DecidableEq, Repr

/-! ### Management (15), errors and test (16), boot (17) -/

/-- The tag of an RW-HM field: writer code, MAC, device time (15 R392). -/
structure WriterTag where
  writer : Nat := 0
  mac : BitVec 48 := 0
  time : Nat := 0
deriving DecidableEq, Repr

/-- A subscription (15 R400). -/
structure Sub where
  master : Master
  key : Nat
  onChange : Bool
  periodic : Bool
  periodMs : Nat
  spacingMs : Nat
  /-- the request was signed: its events are signed too (15 R399) -/
  signed : Bool := false
  /-- whether an event was sent, when last, and the value it carried (at first the value when subscribed) -/
  sent : Bool := false
  last : Nat := 0
  sentValue : Nat := 0
  /-- start of the running period -/
  periodAt : Nat := 0
  /-- value of an event that waits, and when it fell due (the minimum spacing, a full host ring) -/
  held : Option (Nat × Nat) := none
deriving DecidableEq, Repr

/-- A cached request (15 R398): source, sequence, CRC-64 and the response PDUs. -/
structure Cached where
  master : Master
  seq : BitVec 16
  crc : Nat
  response : List (List Byte)
deriving DecidableEq, Repr

/-- A write a lead applied while it could not reach the other half (15 R407). -/
structure LoneWrite where
  master : Master
  key : Nat
  value : Nat
  time : Nat
deriving DecidableEq, Repr

/-- One safelight controller (15 R405 to R407). -/
structure Half where
  /-- passed its self-test | flag | 15 R405, 17 R446 | false -/
  alive : Bool := false
  lead : Bool := false
  epoch : Nat := 0
  /-- device time of the last heartbeat heard from the other half | ns | 15 R405 | 0 -/
  heard : Nat := 0
  sentAt : Nat := 0
  /-- writes applied alone since the other half was last heard | list | 15 R407 | none -/
  lone : List LoneWrite := []
deriving DecidableEq, Repr

/-- The evidence buffer of a master (17 R442). -/
structure EvidenceBuf where
  /-- 0 none, 1 signing, 2 ready | 8 | 17 R442 (0x1021) | 0 -/
  state : Nat := 0
  nonce : List Byte := []
  since : Nat := 0
  /-- evidence | 34,240 bytes | 17 R441, R442 | empty -/
  bytes : List Byte := []
deriving DecidableEq, Repr

/-- An error record (16 R414), its syndrome as the 24 bytes of a little-endian number. -/
structure ErrRecord where
  time : Nat
  cls : Nat
  status : Nat := 0
  queue : Nat := 0xFF
  region : Nat := 0x30
  unit : Nat := 13
  flags : Nat := 0
  listId : Nat := 0
  index : Nat := 0
  celsius : Int := 0
  milliVolt : Nat := 750
  fieldByte : Nat := 0
  fieldBit : Nat := 0
  repeats : Nat := 0
  seq : Nat := 0
  syndrome : Nat := 0
deriving DecidableEq, Repr

/-- Dictionary protocol state (15). -/
structure Mgmt where
  /-- areas held: 0x2000, 0x2800 | 2 | 15 R403 | 0 -/
  hold2000 : Bool := false
  hold2800 : Bool := false
  holder : BitVec 48 := 0
  takenAt : Nat := 0
  renewedAt : Nat := 0
  /-- subscriptions | 64 per master | 15 R400 | none -/
  subs : List Sub := []
  /-- request cache | 16 per source | 15 R398 | empty -/
  cache : List Cached := []
  /-- event sequences: per management MAC, and of the host ring | 16, 32 | 15 R400 | 0 -/
  eventSeq : List (BitVec 48 × Nat) := []
  hostSeq : Nat := 0
  /-- safelight controllers, link between the halves, follower 0 present, 1 stale, 2 absent, last change | records | 15 R405, R406 | absent -/
  west : Half := {}
  east : Half := {}
  linkUp : Bool := true
  /-- records raised on the east half while the link between the halves is down, oldest first; records lost beyond them | up to 64, number | 16 R419 | none, 0 -/
  eastHeld : List ErrRecord := []
  eastLost : Nat := 0
  follower : Nat := 0
  changedAt : Nat := 0
  /-- time of the write waiting for the follower's acknowledgement | ns | 15 R406 | none -/
  ackWait : Option Nat := none
  /-- PLCA: 0 off, 1 PLCA, 2 fallback; time of the last beacon | 8, ns | 15 R394 | 0 -/
  beaconAt : Nat := 0
  /-- evidence buffers of the two masters | 2 records | 17 R442 | none -/
  hostEvidence : EvidenceBuf := {}
  mgmtEvidence : EvidenceBuf := {}
deriving DecidableEq, Repr

/-- An open coalescing window (16 R417). -/
structure Window where
  cls : Nat
  source : Nat
  since : Nat
  count : Nat := 0
  last : Nat := 0
deriving DecidableEq, Repr

/-- Test access and structural test (16 R425 to R428). -/
structure TestState where
  /-- IEEE 1149.1 instruction of each die: 0 BYPASS, 1 IDCODE, 2 SAMPLE/PRELOAD, 3 EXTEST, 4 RUNBIST | 8 × 2 | 16 R425 | 1 (PRESUMED, log entry 8) -/
  ir : Tbl Nat := []
  /-- bypass bit, boundary register and captured result of each die | 1, cells, 32 | 16 R425 | 0 -/
  boundary : Tbl (List Bool) := []
  captured : Tbl Nat := []
  /-- the interfaces are driven from the boundary register | flag per die | 16 R425 | false -/
  driving : Tbl Bool := []
  /-- regions whose units wait for a recovery test | list | 16 R424, R432 | none -/
  regionTests : List Nat := []
deriving DecidableEq, Repr

/-- Boot and flash (17). -/
structure Boot where
  /-- start-up state 0–8, 0xE, 0xF | 8 | 17 R446 (0x1102) | 0 -/
  state : Nat := 0
  /-- device time at which the state was entered | ns | 17 R446 | 0 -/
  since : Nat := 0
  /-- halted (R360) | flag | 13 R360 | false -/
  halted : Bool := false
  /-- running stage-one slot B; applied configuration slot: 0 A, 1 B, 2 none | flags | 17 R439 | false, 2 -/
  stageB : Bool := false
  config : Nat := 2
  stageDigest : List Byte := []
  configDigest : List Byte := []
  /-- open flash region, 0 = none, and offset | 8, 64 | 17 R449 | 0 -/
  region : Nat := 0
  offset : Nat := 0
  /-- bytes programmed into the flash since reset, by flash address | 512 MiB | 17 R435, R449 | nothing (DESIGN CHOICE, log entry 6) -/
  flash : Tbl (Option Byte) := []
  /-- flash regions erased since reset: bytes not programmed after that read 0xFF | 1–6 | 17 R435, R449 | none -/
  erased : List Nat := []
  /-- rollback fuses | 32 × 2 | 17 R438, R439 | 0 -/
  fuseStage : Nat := 0
  fuseConfig : Nat := 0
  /-- board rails: reading in mV, since when out of range | 6 records | 18 R455 | 0 -/
  rails : Tbl Nat := []
  railOut : Tbl (Option Nat) := []
deriving DecidableEq, Repr

/-- A counter update waiting at the ingress of its bank (07 R178): what it does, its source unit, the queue whose
SIGNAL_COUNTER it is. -/
structure CtrUpdate where
  counter : Nat
  set : Bool
  value : BitVec 64
  source : Nat
  since : Nat
  owner : Option Nat := none
deriving DecidableEq, Repr

/-- The whole machine. -/
structure State where
  /-- commands waiting, first in, first out | list | the block's queue | empty -/
  pending : List Instr := []
  /-- device time | 64 (ns) | 13 R344 | 0 -/
  now : Nat := 0
  /-- free values drawn so far: the model's own counter | number | model | 0 (DESIGN CHOICE, log entry 3) -/
  fresh : Nat := 0
  /-- messages sent at the interfaces, oldest first: the model's own record | list | 00 R3 | empty (DESIGN CHOICE, log entry 5) -/
  egress : List Egress := []
  /-- bytes of LPDDR (near-home addresses), scratchpads and pairing mailbox | 48-bit addresses | 08 R213 | all 0 (DESIGN CHOICE, log entry 6) -/
  mem : Tbl Byte := []
  /-- marks of LPDDR lines (address / 64) and scratchpad words (2^42 + address / 8) | marks | 08 R210, R211; 16 R421 | good -/
  marks : Tbl LineMark := []
  /-- object dictionary values that differ from their defaults | entry:field | 15 R388 | defaults -/
  dict : Tbl (Option Nat) := []
  /-- writer tags of RW-HM fields | 16 bytes each | 15 R392 | default -/
  tags : Tbl WriterTag := []
  /-- error log, newest first | 4,096 records | 16 R418 | empty -/
  log : List ErrRecord := []
  /-- records written since power-up | 64 | 16 R414 (0x7001) | 0 -/
  logSeq : Nat := 0
  /-- open coalescing windows | list | 16 R417 | none -/
  windows : List Window := []
  /-- queues 0–255 | records | 07 R165 | zero -/
  queues : Tbl Queue := []
  /-- arrival counters 0–4,095 | 64 each | 07 R177 | 0 -/
  counters : Tbl (BitVec 64) := []
  /-- counter updates waiting at the ingress | list | 07 R178 | none -/
  ingress : List CtrUpdate := []
  /-- source last admitted by each counter bank | 16 | 07 R178 | 0 -/
  bankLast : Tbl Nat := []
  /-- device time + 1 at which each bank last applied an update | ns | 07 R178 | 0 (never) -/
  bankAt : Tbl Nat := []
  /-- tensor table: live handles | up to 65,536 | 07 R185 | none -/
  tensors : Tbl (Option Tensor) := []
  alloc : Alloc := {}
  step : StepState := {}
  /-- clusters C00–C31 | records | 01 R17, 16 R430 | see Cluster -/
  clusters : Tbl Cluster := []
  /-- queue last served by the dispatcher (round robin) | 8 | 07 R196 | 0 -/
  lastQueue : Nat := 0
  /-- channels Mnn.c | 128 records | 08 R204 | see Channel -/
  channels : Tbl Channel := []
  /-- packages M00–M31 | 32 records | 08 R204 | see Package -/
  packages : Tbl Package := []
  /-- staged operations waiting for a staging frame | list | 03 R69 | none -/
  stageWait : List (AdderOp × Nat) := []
  /-- ports P0–P7 | 8 records | 10 R248 | see Port -/
  ports : Tbl Port := []
  streamsOut : Tbl StreamOut := []
  streamsIn : Tbl StreamIn := []
  /-- remote requests not yet answered; next tag | list, 16 | 10 R257 | none, 0 -/
  reqs : List Req := []
  nextTag : Nat := 0
  /-- directory, by line address | 2,097,152 entries | 10 R272, R274 | U -/
  directory : Tbl DirState := []
  /-- snoops not yet answered; requests waiting for them or for a directory entry, in arrival order | lists | 10 R273, R274 | none -/
  snoops : List Snoop := []
  lineWait : List ChanReq := []
  /-- number of the next operation that comes to wait at a memory channel: the model's own account of R219's order | number | model | 1 (DESIGN CHOICE, log entry 174) -/
  arrivals : Nat := 1
  /-- running collectives; next number | up to 32 | 10 R279 | none, 0 -/
  collectives : List Collective := []
  nextCollective : Nat := 0
  /-- collective packets that wait, the holdback among them; chunks sent and not yet acknowledged | 64 MiB, list | 10 R284, R258 | empty -/
  parked : List ColWait := []
  colSent : List ColSent := []
  traek : Traek := {}
  twin : Twin := {}
  /-- regions CR00–CR47 | 48 records | 01 R19 | see Region -/
  regions : Tbl Region := []
  power : Power := {}
  /-- hot spots 0–79 | 80 records | 14 R374 | see HotSpot -/
  spots : Tbl HotSpot := []
  cooling : Cooling := {}
  mgmt : Mgmt := {}
  test : TestState := {}
  boot : Boot := {}
deriving DecidableEq, Repr

/-- Why the machine would stop. No meaning of this model raises one: R16 gives every outcome the manual describes, and a
command whose event cannot come about leaves the state as it stands (assumption 1). Safe: a stop proves nothing. -/
inductive Fault where
  /-- Raised by no meaning; kept so that the outcome type has its three cases. Safe. -/
  | undefinedOutcome
deriving DecidableEq, Repr

/-- Why a command has no meaning in the model. -/
inductive Refusal where
  /-- Raised by `exec` for a row that has no meaning yet; no arm of this model raises it. Safe. -/
  | notModelled (mnemonic : String)
deriving DecidableEq, Repr

/-- The machine as safelight reset leaves it (R446 state ROM; R448): every field at the value its comment names. -/
def State.reset : State := {}

end Sys2Proof.Machine
end

