-- ==== Sys2Proof/Machine/Map.lean ====
section
/-!
DEFINITION. Sparse tables in canonical form: reading, writing and the form's predicate. A table's default is what an
unlisted key reads as.
-/

namespace Sys2Proof.Machine

/-- What the table `m` with default `d` holds under key `k`. -/
def look {α : Type} (d : α) : Tbl α → Nat → α
  | [], _ => d
  | (n, v) :: m, k => if n = k then v else look d m k

/-- `m` with the entry `(k, v)` at its place in rising order. -/
def enter {α : Type} : Tbl α → Nat → α → Tbl α
  | [], k, v => [(k, v)]
  | (n, w) :: m, k, v =>
    if k < n then (k, v) :: (n, w) :: m
    else if n = k then (k, v) :: m
    else (n, w) :: enter m k v

/-- `m` with `v` under key `k`, in canonical form again: the default is not listed. -/
def put {α : Type} [DecidableEq α] (d : α) (m : Tbl α) (k : Nat) (v : α) : Tbl α :=
  if v = d then m.filter (fun e => e.1 != k) else enter m k v

/-- `m` with the value under `k` changed by `f`. -/
def change {α : Type} [DecidableEq α] (d : α) (m : Tbl α) (k : Nat) (f : α → α) : Tbl α :=
  put d m k (f (look d m k))

/-- Canonical form: keys strictly rising and no value equal to the default. -/
def Tbl.wf {α : Type} [DecidableEq α] (d : α) : Tbl α → Bool
  | [] => true
  | (k, v) :: m => decide (v ≠ d) && m.all (fun e => decide (k < e.1)) && Tbl.wf d m

end Sys2Proof.Machine
end

