-- ==== Sys2Proof/Machine/Entries.lean ====
section
/-!
DEFINITION. The object dictionary's entries (R388) as the chapters table them: first and last field, size in bytes, right
(R390), default. Where the tables show no default (—) the model computes the value from other state, takes it from Config,
or holds 0 until it is first written (log entry 6).
-/

namespace Sys2Proof.Machine

/-- R390: the rights. -/
inductive Right where
  | ro | rwH | rwM | rwHM | wb | wo
deriving DecidableEq, Repr

/-- One row of an entry table: entries `lo` to `hi` with fields `f0` to `f1`. -/
structure EntryDef where
  lo : Nat
  hi : Nat
  f0 : Nat
  f1 : Nat
  size : Nat
  right : Right
  dflt : Nat
deriving DecidableEq, Repr

/-- R408, R450: area 0x1000. -/
def identityEntries : List EntryDef := [
  ⟨0x1001, 0x1001, 0, 0, 16, .ro, 0x797361767544⟩,
  ⟨0x1002, 0x1002, 0, 0, 16, .ro, 0x36392D4E4C52⟩,
  ⟨0x1003, 0x1003, 0, 0, 1, .ro, 0x10⟩,
  ⟨0x1004, 0x1004, 0, 0, 16, .ro, 0⟩,
  ⟨0x1005, 0x1005, 0, 0, 8, .ro, 0⟩,
  ⟨0x1006, 0x1006, 0, 0, 4, .ro, 0⟩,
  ⟨0x1007, 0x1007, 0, 0, 4, .ro, 0⟩,
  ⟨0x1008, 0x1008, 0, 0, 48, .ro, 0⟩,
  ⟨0x1009, 0x1009, 1, 2, 48, .ro, 0⟩,
  ⟨0x100A, 0x100A, 0, 0, 16, .ro, 0⟩,
  ⟨0x1010, 0x1010, 1, 0x20, 1, .ro, 0⟩,
  ⟨0x1011, 0x1011, 1, 2, 4, .ro, 0⟩,
  ⟨0x1020, 0x1020, 0, 0, 32, .wo, 0⟩,
  ⟨0x1021, 0x1021, 0, 0, 1, .ro, 0⟩,
  ⟨0x1022, 0x1022, 1, 0x22, 1024, .ro, 0⟩,
  ⟨0x1030, 0x1030, 0, 0, 16, .wo, 0⟩,
  ⟨0x1031, 0x1031, 0, 0, 1024, .wo, 0⟩,
  ⟨0x1032, 0x1032, 0, 0, 8, .ro, 0⟩]

/-- R409, R450: area 0x1100. -/
def healthEntries : List EntryDef := [
  ⟨0x1101, 0x1101, 0, 0, 1, .ro, 0⟩,
  ⟨0x1102, 0x1102, 0, 0, 1, .ro, 0⟩,
  ⟨0x1103, 0x1103, 0, 0, 4, .ro, 0⟩,
  ⟨0x1104, 0x1104, 0, 0, 4, .wo, 0⟩,
  ⟨0x1105, 0x1105, 1, 1, 4, .rwH, 0xFFFFFFFF⟩,
  ⟨0x1105, 0x1105, 2, 2, 4, .rwM, 0xFFFFFFFF⟩,
  ⟨0x1106, 0x1106, 0, 0, 16, .ro, 0⟩,
  ⟨0x1107, 0x1107, 0, 0, 16, .ro, 0⟩,
  ⟨0x1108, 0x1108, 0, 0, 8, .ro, 0⟩,
  ⟨0x1110, 0x1110, 0, 0, 1, .wo, 0⟩]

/-- R371, R466: area 0x2000. -/
def powerEntries : List EntryDef := [
  ⟨0x2001, 0x2001, 0, 0, 4, .rwHM, 0x4E2⟩,
  ⟨0x2002, 0x2002, 0, 0, 4, .ro, 0x4E2⟩,
  ⟨0x2003, 0x2003, 0, 0, 4, .ro, 0⟩,
  ⟨0x2004, 0x2004, 0, 0, 4, .ro, 0⟩,
  ⟨0x2005, 0x2005, 0, 0, 4, .ro, 0⟩,
  ⟨0x2006, 0x2006, 0, 0, 4, .rwHM, 0xC8⟩,
  ⟨0x2007, 0x2007, 0, 0, 1, .rwHM, 0x28⟩,
  ⟨0x2008, 0x2008, 0, 0, 4, .ro, 0⟩,
  ⟨0x2009, 0x2009, 0, 0, 8, .ro, 0⟩,
  ⟨0x2010, 0x2010, 1, 0x30, 8, .ro, 0⟩,
  ⟨0x2011, 0x2011, 1, 0x30, 16, .ro, 0⟩,
  ⟨0x2012, 0x2012, 0, 0, 1, .wo, 0⟩,
  ⟨0x2013, 0x2013, 1, 4, 1, .rwH, 7⟩,
  ⟨0x2014, 0x2014, 0, 0, 64, .rwH, 0⟩,
  ⟨0x2015, 0x2015, 1, 0x40, 4, .ro, 0⟩,
  ⟨0x2016, 0x2016, 1, 0x40, 4, .ro, 0⟩,
  ⟨0x2017, 0x2017, 1, 0x40, 8, .ro, 0⟩,
  ⟨0x2018, 0x2018, 1, 0x30, 4, .ro, 0⟩,
  ⟨0x2019, 0x2019, 1, 0x30, 8, .ro, 0⟩,
  ⟨0x2020, 0x2020, 1, 0xE, 16, .ro, 0⟩,
  ⟨0x2030, 0x2030, 0, 0, 64, .ro, 0⟩,
  ⟨0x2032, 0x2032, 0, 0, 2, .ro, 0⟩,
  ⟨0x2040, 0x2040, 1, 6, 4, .ro, 0⟩,
  ⟨0x2041, 0x2041, 0, 0, 16, .ro, 0⟩]

/-- R386: area 0x2800. -/
def coolingEntries : List EntryDef := [
  ⟨0x2801, 0x2801, 0, 0, 4, .ro, 0⟩,
  ⟨0x2802, 0x2802, 0, 0, 4, .ro, 0⟩,
  ⟨0x2803, 0x2803, 0, 0, 4, .ro, 0⟩,
  ⟨0x2804, 0x2804, 0, 0, 4, .ro, 0⟩,
  ⟨0x2805, 0x2805, 0, 0, 1, .ro, 0⟩,
  ⟨0x2806, 0x2806, 0, 0, 4, .ro, 0x4E2⟩,
  ⟨0x2807, 0x2807, 0, 0, 1, .ro, 0⟩,
  ⟨0x2808, 0x2808, 0, 0, 4, .ro, 0⟩,
  ⟨0x2810, 0x2810, 0, 0, 2, .rwHM, 0x5DC⟩,
  ⟨0x2811, 0x2811, 0, 0, 2, .rwHM, 0x258⟩,
  ⟨0x2812, 0x2812, 0, 0, 1, .rwHM, 0x5F⟩,
  ⟨0x2813, 0x2813, 0, 0, 2, .rwHM, 0x78⟩,
  ⟨0x2814, 0x2814, 0, 0, 1, .rwHM, 0x28⟩,
  ⟨0x2815, 0x2815, 0, 0, 1, .rwHM, 0⟩,
  ⟨0x2816, 0x2816, 0, 0, 4, .wo, 0⟩,
  ⟨0x2817, 0x2817, 0, 0, 4, .rwHM, 0x78⟩,
  ⟨0x2818, 0x2818, 0, 0, 2, .rwHM, 0x7D0⟩,
  ⟨0x2820, 0x2820, 1, 0x50, 8, .ro, 0⟩,
  ⟨0x2830, 0x2830, 1, 4, 8, .rwM, 0⟩,
  ⟨0x2831, 0x2831, 0, 0, 8, .ro, 0⟩,
  ⟨0x2840, 0x2840, 0, 0, 4, .ro, 0⟩,
  ⟨0x2841, 0x2841, 0, 0, 8, .ro, 0⟩]

/-- R371: area 0x3000. -/
def clockEntries : List EntryDef := [
  ⟨0x3001, 0x3001, 0, 0, 8, .ro, 0⟩,
  ⟨0x3002, 0x3002, 0, 0, 2, .rwHM, 0xFFFF⟩,
  ⟨0x3003, 0x3003, 0, 0, 4, .ro, 0⟩,
  ⟨0x3004, 0x3004, 0, 0, 1, .ro, 0⟩,
  ⟨0x3005, 0x3005, 0, 0, 8, .ro, 0⟩,
  ⟨0x3006, 0x3006, 0, 0, 4, .ro, 0⟩,
  ⟨0x3007, 0x3007, 0, 0, 8, .ro, 0⟩,
  ⟨0x3009, 0x3009, 0, 0, 8, .ro, 0⟩,
  ⟨0x300B, 0x300B, 0, 0, 1, .ro, 1⟩,
  ⟨0x3010, 0x3010, 0, 0, 4, .rwH, 0x3E8⟩,
  ⟨0x3011, 0x3011, 0, 0, 4, .rwH, 0x64⟩]

/-- R230: area 0x4000. -/
def memoryEntries : List EntryDef := [
  ⟨0x4001, 0x4001, 1, 0x20, 4, .ro, 0⟩,
  ⟨0x4002, 0x4002, 1, 0x20, 1, .ro, 0⟩,
  ⟨0x4003, 0x4003, 1, 0x80, 8, .ro, 0⟩,
  ⟨0x4004, 0x4004, 0, 0, 8, .ro, 0⟩,
  ⟨0x4005, 0x4005, 0, 0, 8, .ro, 0⟩,
  ⟨0x4006, 0x4006, 0, 0, 8, .ro, 0⟩,
  ⟨0x4007, 0x4007, 0, 0, 8, .ro, 0⟩,
  ⟨0x4008, 0x4008, 0, 0, 8, .ro, 0⟩,
  ⟨0x4009, 0x4009, 0, 0, 8, .ro, 0⟩,
  ⟨0x400A, 0x400A, 0, 0, 4, .rwHM, 0x15180⟩,
  ⟨0x400B, 0x400B, 0, 0, 8, .ro, 0⟩,
  ⟨0x400C, 0x400C, 0, 0, 1, .ro, 0x20⟩,
  ⟨0x400D, 0x400D, 0, 0, 8, .ro, 0⟩,
  ⟨0x400E, 0x400E, 0, 0, 8, .ro, 0⟩,
  ⟨0x400F, 0x400F, 0, 0, 4, .rwHM, 0x10⟩,
  ⟨0x4011, 0x4011, 1, 0x80, 2, .ro, 0x3840⟩,
  ⟨0x4012, 0x4012, 0, 0, 4, .rwH, 0x100⟩]

/-- R292, R318: area 0x5000. -/
def fabricEntries : List EntryDef := [
  ⟨0x5001, 0x5001, 0, 0, 2, .rwHM, 0xFFFF⟩,
  ⟨0x5002, 0x5002, 1, 0x40, 8, .rwH, 0⟩,
  ⟨0x5003, 0x5003, 1, 8, 4, .rwM, 0⟩,
  ⟨0x5004, 0x5004, 1, 0x40, 8, .rwHM, 0⟩,
  ⟨0x5005, 0x5005, 1, 8, 8, .ro, 0⟩,
  ⟨0x5006, 0x5006, 1, 0x10, 4, .ro, 0⟩,
  ⟨0x5007, 0x5007, 1, 0x40, 8, .ro, 0⟩,
  ⟨0x5008, 0x5008, 1, 8, 8, .ro, 0⟩,
  ⟨0x5009, 0x5009, 0, 0, 8, .ro, 0⟩,
  ⟨0x500A, 0x500A, 0, 0, 8, .ro, 0⟩,
  ⟨0x500B, 0x500B, 0, 0, 4, .ro, 0⟩,
  ⟨0x500C, 0x500C, 1, 8, 8, .ro, 0⟩,
  ⟨0x500D, 0x500D, 1, 8, 8, .ro, 0⟩,
  ⟨0x500E, 0x500E, 0, 0, 4, .rwH, 0x7D0⟩,
  ⟨0x500F, 0x500F, 0, 0, 8, .ro, 0⟩,
  ⟨0x5010, 0x5010, 0, 0, 4, .ro, 0⟩,
  ⟨0x5011, 0x5011, 0, 0, 4, .rwH, 0x32⟩,
  ⟨0x5012, 0x5012, 0, 0, 8, .rwH, 0⟩,
  ⟨0x5013, 0x5013, 0, 0, 4, .rwH, 0⟩,
  ⟨0x5014, 0x5014, 0, 0, 4, .rwH, 0x1388⟩,
  ⟨0x5015, 0x5015, 0, 0, 8, .ro, 0⟩,
  ⟨0x5016, 0x5016, 0, 0, 4, .ro, 0⟩,
  ⟨0x5017, 0x5017, 0, 0, 8, .ro, 0⟩,
  ⟨0x5018, 0x5018, 0, 0, 8, .ro, 0⟩,
  ⟨0x5019, 0x5019, 0, 0, 8, .ro, 0⟩,
  ⟨0x501A, 0x501A, 0, 0, 4, .wo, 0⟩,
  ⟨0x5030, 0x5030, 0, 0, 8, .ro, 0⟩,
  ⟨0x5031, 0x5031, 0, 0, 2, .rwM, 0xFFFF⟩,
  ⟨0x5032, 0x5032, 1, 0x10, 8, .ro, 0⟩,
  ⟨0x5033, 0x5033, 0, 0, 8, .ro, 0⟩,
  ⟨0x5034, 0x5034, 0, 0, 1, .rwHM, 0x10⟩,
  ⟨0x5035, 0x5035, 1, 4, 8, .ro, 0⟩,
  ⟨0x5036, 0x5036, 0, 0, 4, .wo, 0⟩]

/-- R318, R341: area 0x6000. -/
def twinEntries : List EntryDef := [
  ⟨0x6001, 0x6001, 0, 0, 1, .ro, 0⟩,
  ⟨0x6002, 0x6002, 0, 0, 2, .rwHM, 0xFFFF⟩,
  ⟨0x6003, 0x6003, 0, 0, 1, .wo, 0⟩,
  ⟨0x6004, 0x6004, 0, 0, 2, .ro, 0⟩,
  ⟨0x6005, 0x6005, 0, 0, 1, .rwM, 0⟩,
  ⟨0x6006, 0x6006, 0, 0, 4, .rwM, 0x64⟩,
  ⟨0x6007, 0x6007, 0, 0, 1, .rwHM, 0x40⟩,
  ⟨0x6008, 0x6008, 0, 0, 1, .ro, 0⟩,
  ⟨0x6009, 0x6009, 0, 0, 16, .ro, 0⟩,
  ⟨0x600A, 0x600A, 0, 0, 16, .ro, 0⟩,
  ⟨0x600B, 0x600B, 0, 0, 16, .ro, 0⟩,
  ⟨0x600C, 0x600C, 0, 0, 8, .ro, 0⟩,
  ⟨0x600D, 0x600D, 0, 0, 4, .rwM, 0x3E8⟩,
  ⟨0x6010, 0x6010, 0, 0, 8, .rwH, 0⟩,
  ⟨0x6011, 0x6011, 0, 0, 8, .rwH, 0⟩,
  ⟨0x6012, 0x6012, 0, 0, 4, .rwH, 0⟩,
  ⟨0x6013, 0x6013, 0, 0, 4, .rwH, 0⟩,
  ⟨0x6014, 0x6014, 0, 0, 4, .rwH, 0x64⟩,
  ⟨0x6015, 0x6015, 0, 0, 4, .rwH, 0⟩,
  ⟨0x6016, 0x6016, 1, 2, 16, .ro, 0⟩,
  ⟨0x6017, 0x6017, 0, 0, 4, .ro, 0⟩,
  ⟨0x6018, 0x6018, 0, 0, 8, .ro, 0⟩,
  ⟨0x6019, 0x6019, 0, 0, 8, .ro, 0⟩,
  ⟨0x601A, 0x601A, 0, 0, 8, .ro, 0⟩,
  ⟨0x601B, 0x601B, 0, 0, 8, .ro, 0⟩,
  ⟨0x601C, 0x601C, 0, 0, 8, .ro, 0⟩,
  ⟨0x601D, 0x601D, 0, 0, 8, .ro, 0⟩,
  ⟨0x601E, 0x601E, 0, 0, 16, .ro, 0⟩,
  ⟨0x601F, 0x601F, 0, 0, 16, .ro, 0⟩]

/-- R433: area 0x7000. -/
def errorEntries : List EntryDef := [
  ⟨0x7001, 0x7001, 0, 0, 8, .ro, 0⟩,
  ⟨0x7002, 0x7002, 0, 0, 8, .ro, 0⟩,
  ⟨0x7004, 0x7004, 0, 0, 4, .rwHM, 0x3E8⟩,
  ⟨0x7010, 0x7010, 1, 0x20, 8, .ro, 0⟩,
  ⟨0x7011, 0x7011, 0, 0, 4, .rwHM, 0xA⟩,
  ⟨0x7012, 0x7012, 0, 0, 16, .ro, 0⟩,
  ⟨0x7031, 0x7031, 1, 2, 4, .ro, 0⟩,
  ⟨0x7040, 0x7040, 0, 0, 8, .wo, 0⟩,
  ⟨0x7100, 0x71FF, 1, 0x10, 64, .ro, 0⟩]

/-- R50, R83, R410: area 0x8000. -/
def numericsEntries : List EntryDef := [
  ⟨0x8001, 0x8001, 0, 0, 1, .rwH, 1⟩,
  ⟨0x8002, 0x8002, 0, 0, 8, .rwH, 0⟩,
  ⟨0x8003, 0x8003, 0, 0, 8, .ro, 0⟩,
  ⟨0x8004, 0x8004, 0, 0, 8, .ro, 0⟩,
  ⟨0x8005, 0x8005, 0, 0, 8, .ro, 0⟩,
  ⟨0x8006, 0x8006, 0, 0, 8, .ro, 0⟩,
  ⟨0x8010, 0x8010, 0, 0, 1, .rwH, 1⟩,
  ⟨0x8011, 0x8011, 0, 0, 8, .ro, 0⟩,
  ⟨0x8012, 0x8012, 0, 0, 4, .ro, 0⟩,
  ⟨0x8013, 0x8013, 0, 0, 8, .ro, 0⟩,
  ⟨0x8014, 0x8014, 0, 0, 8, .ro, 0⟩,
  ⟨0x8015, 0x8015, 0, 0, 8, .ro, 0⟩,
  ⟨0x8016, 0x8016, 0, 0, 8, .ro, 0⟩,
  ⟨0x8017, 0x8017, 0, 0, 8, .ro, 0⟩,
  ⟨0x8018, 0x8018, 1, 1, 4, .ro, 0⟩,
  ⟨0x8018, 0x8018, 2, 2, 4, .ro, 0⟩]

/-- R292, R318, R412, R433, R443: area 0x9000. -/
def protectionEntries : List EntryDef := [
  ⟨0x9001, 0x9001, 0, 0, 1, .ro, 0⟩,
  ⟨0x9002, 0x9002, 1, 8, 32, .wb, 0⟩,
  ⟨0x9003, 0x9003, 1, 2, 48, .wb, 0⟩,
  ⟨0x9004, 0x9004, 1, 2, 4, .wb, 0⟩,
  ⟨0x9005, 0x9005, 0, 0, 48, .ro, 0⟩,
  ⟨0x9010, 0x9010, 1, 0x40, 8, .wb, 0⟩,
  ⟨0x9020, 0x9020, 1, 0x10, 32, .wb, 0⟩,
  ⟨0x9030, 0x9030, 1, 0x10, 32, .wb, 0⟩,
  ⟨0x9031, 0x9031, 1, 8, 32, .wb, 0⟩,
  ⟨0x9032, 0x9032, 0, 0, 8, .wb, 0⟩,
  ⟨0x9041, 0x9041, 0, 0, 48, .wb, 0⟩,
  ⟨0x9050, 0x9050, 0, 0, 4, .wb, 0⟩]

/-- R109, R140, R163, R202, R246, R411: area 0xA000. -/
def engineEntries : List EntryDef := [
  ⟨0xA001, 0xA001, 0, 0, 2, .ro, 0⟩,
  ⟨0xA002, 0xA002, 0, 0, 8, .ro, 0⟩,
  ⟨0xA003, 0xA003, 0, 0, 8, .ro, 0⟩,
  ⟨0xA004, 0xA004, 0, 0, 8, .ro, 0⟩,
  ⟨0xA005, 0xA005, 0, 0, 4, .ro, 0⟩,
  ⟨0xA010, 0xA010, 0, 0, 8, .ro, 0⟩,
  ⟨0xA011, 0xA011, 0, 0, 8, .ro, 0⟩,
  ⟨0xA012, 0xA012, 0, 0, 8, .ro, 0⟩,
  ⟨0xA013, 0xA013, 0, 0, 8, .ro, 0⟩,
  ⟨0xA014, 0xA014, 0, 0, 8, .ro, 0⟩,
  ⟨0xA015, 0xA015, 0, 0, 8, .ro, 0⟩,
  ⟨0xA016, 0xA016, 0, 0, 4, .ro, 0⟩,
  ⟨0xA017, 0xA017, 1, 0x20, 4, .ro, 0xFFFFFFFF⟩,
  ⟨0xA018, 0xA018, 0, 0, 1, .ro, 4⟩,
  ⟨0xA020, 0xA020, 0, 0, 8, .rwH, 0⟩,
  ⟨0xA021, 0xA021, 0, 0, 4, .rwH, 0⟩,
  ⟨0xA022, 0xA022, 0, 0, 8, .ro, 0⟩,
  ⟨0xA023, 0xA023, 0, 0, 8, .ro, 0⟩,
  ⟨0xA024, 0xA024, 0, 0, 8, .ro, 0⟩,
  ⟨0xA025, 0xA025, 0, 0, 8, .ro, 0⟩,
  ⟨0xA026, 0xA026, 0, 0, 8, .ro, 0⟩,
  ⟨0xA030, 0xA030, 0, 0, 8, .rwH, 0⟩,
  ⟨0xA031, 0xA031, 0, 0, 4, .rwH, 0⟩,
  ⟨0xA032, 0xA032, 0, 0, 8, .ro, 0⟩,
  ⟨0xA033, 0xA033, 0, 0, 8, .ro, 0⟩,
  ⟨0xA034, 0xA034, 0, 0, 8, .ro, 0⟩,
  ⟨0xA035, 0xA035, 0, 0, 16, .ro, 0⟩,
  ⟨0xA036, 0xA036, 0, 0, 8, .ro, 0⟩,
  ⟨0xA037, 0xA037, 0, 0, 8, .ro, 0⟩,
  ⟨0xA038, 0xA038, 0, 0, 8, .ro, 0⟩,
  ⟨0xA039, 0xA039, 0, 0, 8, .ro, 0⟩,
  ⟨0xA03A, 0xA03A, 0, 0, 8, .ro, 0⟩,
  ⟨0xA040, 0xA040, 0, 0, 1, .ro, 0x20⟩,
  ⟨0xA041, 0xA041, 0, 0, 4, .ro, 0⟩,
  ⟨0xA042, 0xA042, 0, 0, 4, .ro, 0⟩,
  ⟨0xA043, 0xA043, 0, 0, 1, .rwH, 2⟩,
  ⟨0xA044, 0xA044, 0, 0, 4, .rwH, 0xC350⟩,
  ⟨0xA045, 0xA045, 0, 0, 4, .rwH, 0x30D40⟩,
  ⟨0xA046, 0xA046, 0, 0, 8, .ro, 0⟩,
  ⟨0xA047, 0xA047, 0, 0, 8, .ro, 0⟩,
  ⟨0xA048, 0xA048, 0, 0, 8, .ro, 0⟩,
  ⟨0xA049, 0xA049, 0, 0, 8, .ro, 0⟩,
  ⟨0xA04A, 0xA04A, 0, 0, 8, .ro, 0⟩,
  ⟨0xA04B, 0xA04B, 0, 0, 8, .ro, 0⟩,
  ⟨0xA04C, 0xA04C, 0, 0, 8, .ro, 0⟩,
  ⟨0xA04D, 0xA04D, 0, 0, 8, .ro, 0⟩,
  ⟨0xA04E, 0xA04E, 0, 0, 8, .ro, 0⟩,
  ⟨0xA050, 0xA050, 0, 0, 8, .ro, 0⟩,
  ⟨0xA051, 0xA051, 0, 0, 8, .ro, 0⟩,
  ⟨0xA052, 0xA052, 0, 0, 8, .ro, 0⟩,
  ⟨0xA053, 0xA053, 0, 0, 8, .ro, 0⟩,
  ⟨0xA054, 0xA054, 0, 0, 8, .ro, 0⟩,
  ⟨0xA055, 0xA055, 0, 0, 4, .ro, 0⟩]

/-- R412: area 0xF000. -/
def portEntries : List EntryDef := [
  ⟨0xF001, 0xF001, 0, 0, 2, .ro, 1⟩,
  ⟨0xF002, 0xF002, 0, 0, 2, .rwM, 0x88B5⟩,
  ⟨0xF003, 0xF003, 0, 0, 1, .wb, 0⟩,
  ⟨0xF005, 0xF005, 0, 0, 8, .ro, 0⟩,
  ⟨0xF006, 0xF006, 0, 0, 8, .ro, 0⟩,
  ⟨0xF007, 0xF007, 1, 4, 8, .ro, 0⟩,
  ⟨0xF008, 0xF008, 0, 0, 8, .ro, 0⟩,
  ⟨0xF010, 0xF010, 0, 0, 1, .rwM, 0xFF⟩,
  ⟨0xF011, 0xF011, 0, 0, 1, .rwM, 8⟩,
  ⟨0xF012, 0xF012, 0, 0, 1, .rwM, 0x20⟩,
  ⟨0xF013, 0xF013, 0, 0, 1, .rwM, 0⟩,
  ⟨0xF014, 0xF014, 0, 0, 1, .rwM, 0x80⟩,
  ⟨0xF015, 0xF015, 0, 0, 8, .ro, 0⟩,
  ⟨0xF020, 0xF020, 0, 0, 16, .ro, 0⟩,
  ⟨0xF021, 0xF021, 0, 0, 1, .wo, 0⟩,
  ⟨0xF022, 0xF022, 0, 0, 4, .rwM, 0x493E0⟩,
  ⟨0xF030, 0xF030, 0, 0, 16, .ro, 0⟩,
  ⟨0xF031, 0xF031, 0, 0, 4, .ro, 0⟩,
  ⟨0xF032, 0xF032, 0, 0, 4, .ro, 0⟩,
  ⟨0xF040, 0xF040, 0, 0, 8, .rwH, 0⟩,
  ⟨0xF041, 0xF041, 0, 0, 1, .rwH, 0⟩,
  ⟨0xF042, 0xF042, 0, 0, 8, .ro, 0⟩,
  ⟨0xF043, 0xF043, 0, 0, 8, .rwH, 0⟩,
  ⟨0xF045, 0xF045, 0, 0, 8, .ro, 0⟩,
  ⟨0xF050, 0xF050, 0, 0, 4, .ro, 0⟩]

/-- R388: the row of an area's table that holds an entry. -/
def entriesOf (entry : Nat) : List EntryDef :=
  if entry < 0x1100 then identityEntries
  else if entry < 0x2000 then healthEntries
  else if entry < 0x2800 then powerEntries
  else if entry < 0x3000 then coolingEntries
  else if entry < 0x4000 then clockEntries
  else if entry < 0x5000 then memoryEntries
  else if entry < 0x6000 then fabricEntries
  else if entry < 0x7000 then twinEntries
  else if entry < 0x8000 then errorEntries
  else if entry < 0x9000 then numericsEntries
  else if entry < 0xA000 then protectionEntries
  else if entry < 0xF000 then engineEntries
  else portEntries

/-- The row that defines entry:field, where one does (key = entry × 256 + field). -/
def entryDef (key : Nat) : Option EntryDef :=
  (entriesOf (key / 256)).find? (fun d =>
    decide (d.lo ≤ key / 256) && decide (key / 256 ≤ d.hi) && decide (d.f0 ≤ key % 256) && decide (key % 256 ≤ d.f1))

/-- R388: the number of fields of an array entry; 0 where the entry is not an array. -/
def arrayFields (entry : Nat) : Nat :=
  ((entriesOf entry).filter (fun d => decide (d.lo ≤ entry) && decide (entry ≤ d.hi) && decide (d.f0 ≠ 0))).foldl
    (fun n d => n + (d.f1 - d.f0 + 1)) 0

/-- R389: the size of a value in bytes. -/
def entrySize (key : Nat) : Nat := ((entryDef key).map (·.size)).getD 0

/-- The default of entry:field. -/
def entryDefault (key : Nat) : Nat := ((entryDef key).map (·.dflt)).getD 0

end Sys2Proof.Machine
end

