-- ==== Sys2Proof/Config.lean ====
section
/-!
DEFINITION. What an implementation fixes and the manual does not: uninterpreted functions, none with a body, so that
nothing in Lean can evaluate one or prove a value of it. A statement about one holds for every value of it.
-/

namespace Sys2Proof.Config

/-- A value the manual leaves open (assumption 3): applied to the plain counter `State.fresh`, which the step advances. -/
opaque freeNat : Nat → Nat

/-- R43: within one stepping a stochastic-rounding draw is a fixed function of the job key, the step counter, the
destination's handle, the block index and the position in the block; its bits are not given. -/
opaque srDraw : Nat → Nat → Nat → Nat → Nat → Nat

/-- R323, R324: the records of a negative directory name no handle; which of `n` records is a handle's, where the owner's mirrored
tensors are not known to be the restored ones (log entry 33). -/
opaque directoryRecord : Nat → Nat → Nat

/-- R161: whether the module stores latent tensors with zero-run compression; the manual names no switch for it. -/
opaque latentZeroRun : Bool

/-- R399: HMAC-SHA-384 (FIPS 198-1) of a message under a key, truncated to 16 bytes. The manual names the function and
gives no text of it. -/
opaque hmac : List Byte → List Byte → List Byte

/-- R408, R438, R443: SHA-384 of a byte string, 48 bytes. -/
opaque sha384 : List Byte → List Byte

/-- R438: whether a signature verifies over a message: RSASSA-PSS under modulus and exponent, and SLH-DSA-SHA2-192s under a key. -/
opaque rsaVerifies : List Byte → List Byte → List Byte → Bool
opaque slhVerifies : List Byte → List Byte → List Byte → Bool

/-- R436, R437: a byte of the flash as it left manufacture. -/
opaque flashByte : Nat → Byte

/-- R313 check 3, R441: whether an evidence block verifies under both algorithms over a nonce. -/
opaque evidenceVerifies : List Byte → List Byte → Bool

/-- R440, R441: the evidence block the signing unit makes over a body of 512 bytes. -/
opaque signEvidence : List Byte → List Byte

/-- R311: the fresh nonce of a pairing attempt, by attempt number. -/
opaque pairingNonce : Nat → List Byte

/-- R363: the current step of a request, in mA, from the table in the boot and test flash, indexed by engine, format and
operating point. -/
opaque currentStep : Nat → Nat → Nat → Nat

/-- R385: a hot spot's thermal resistance from the flash calibration, in 0.01 °C per W. -/
opaque thermalResistance : Nat → Nat

/-- R367: the modelled power, in W, of the cluster regions at a ceiling point. -/
opaque modelledPower : Nat → Nat

/-- R359, R371: the neighbours of a region as a bit set (0x2019), fixed by the floor plan. -/
opaque neighbours : Nat → Nat

/-- R362, 0x2017: the regions a land group feeds, as a bit set. -/
opaque landRegions : Nat → Nat

/-- R408: identity values fixed at manufacture: serial (0x1004), MAC address (0x1005), boot ROM version, key digests
(R438: those in the boot ROM under 0x1000001 and 0x1000002). -/
opaque identity : Nat → Nat

/-- R421: the column of a data bit of a scratchpad word in the SEC-DED code; the manual says only that its weight is odd. -/
opaque secdedColumn : Nat → Nat

/-- R425: the IDCODE of each die. -/
opaque idcode : Nat → Nat

end Sys2Proof.Config
end

