-- ==== Sys2Proof/Machine/Number.lean ====
section
/-!
DEFINITION. Number formats, exact values and the one rounding step (02). A finite value is an exact dyadic number; every
arithmetic result of the module is either such a value rounded once, or a free value within the manual's bound.
-/

namespace Sys2Proof.Machine

/-- An exact value: ±m × 2^e, an infinity or a NaN. -/
inductive Val where
  | fin (neg : Bool) (m : Nat) (e : Int)
  | inf (neg : Bool)
  | nan
deriving DecidableEq, Repr

/-- R25: the element formats by their codes. -/
inductive Fmt where
  | fp4 | e4m3 | e5m2 | bf16 | fp16 | fp32 | fp64 | int8 | int4 | lns8
deriving DecidableEq, Repr

/-- R25, R26: the format a code names; 0xA is no element format and 0xB–0xF are reserved. -/
def Fmt.ofCode : Nat → Option Fmt
  | 0 => some .fp4 | 1 => some .e4m3 | 2 => some .e5m2 | 3 => some .bf16 | 4 => some .fp16
  | 5 => some .fp32 | 6 => some .fp64 | 7 => some .int8 | 8 => some .int4 | 9 => some .lns8
  | _ => none

/-- R25: the width of an element in bits. -/
def Fmt.bits : Fmt → Nat
  | .fp4 => 4 | .int4 => 4 | .e4m3 => 8 | .e5m2 => 8 | .int8 => 8 | .lns8 => 8
  | .bf16 => 16 | .fp16 => 16 | .fp32 => 32 | .fp64 => 64

/-- R25: formats with a scale plane. -/
def Fmt.scaled : Fmt → Bool
  | .fp4 => true | .e4m3 => true | .e5m2 => true | .int8 => true | .int4 => true
  | _ => false

/-- The layout of a binary float format: stored mantissa bits, bias, largest finite magnitude code, the code of infinity
where it has one, the NaN magnitude the module writes (0 where it writes +0, R47). -/
structure Layout where
  p : Nat
  bias : Nat
  maxMag : Nat
  infMag : Option Nat
  nanMag : Nat

/-- R30 to R33. -/
def Fmt.layout : Fmt → Layout
  | .fp4 => ⟨1, 1, 0x7, none, 0⟩
  | .e4m3 => ⟨3, 7, 0x7E, none, 0x7F⟩
  | .e5m2 => ⟨2, 15, 0x7B, some 0x7C, 0x7E⟩
  | .bf16 => ⟨7, 127, 0x7F7F, some 0x7F80, 0x7FC0⟩
  | .fp16 => ⟨10, 15, 0x7BFF, some 0x7C00, 0x7E00⟩
  | .fp64 => ⟨52, 1023, 0x7FEFFFFFFFFFFFFF, some 0x7FF0000000000000, 0x7FF8000000000000⟩
  | _ => ⟨23, 127, 0x7F7FFFFF, some 0x7F800000, 0x7FC00000⟩

/-- R34: the integer formats. -/
def Fmt.isInt : Fmt → Bool
  | .int8 => true | .int4 => true | _ => false

namespace Flag
/-- R49: bits of the flag word. -/
def invalid : Nat := 1
def divZero : Nat := 2
def overflow : Nat := 4
def underflow : Nat := 8
def inexact : Nat := 16
def saturated : Nat := 32
def nonFinite : Nat := 64
def empty : Nat := 128
def blockFlushed : Nat := 256
def staged : Nat := 512
end Flag

/-- A value with the flags that making it raised (R49). -/
structure Res where
  v : Val
  fl : Nat := 0
deriving DecidableEq, Repr

/-! ### Values -/

def Val.zero : Val := .fin false 0 0

def Val.ofInt (i : Int) : Val := .fin (i < 0) i.natAbs 0

def Val.isNeg : Val → Bool
  | .fin n _ _ => n
  | .inf n => n
  | .nan => false

def Val.isZero : Val → Bool
  | .fin _ m _ => m == 0
  | _ => false

def Val.isFinite : Val → Bool
  | .fin _ _ _ => true
  | _ => false

def Val.neg : Val → Val
  | .fin n m e => .fin (!n) m e
  | .inf n => .inf (!n)
  | .nan => .nan

def Val.abs : Val → Val
  | .fin _ m e => .fin false m e
  | .inf _ => .inf false
  | .nan => .nan

/-- `v` × 2^k, exact. -/
def Val.shift (v : Val) (k : Int) : Val :=
  match v with
  | .fin n m e => .fin n m (e + k)
  | x => x

/-- The flag NONFINITE for a value read, produced or converted (R49 bit 6). -/
def Val.nf (v : Val) : Nat := if v.isFinite then 0 else Flag.nonFinite

/-- The signed mantissa at exponent `e0 ≤ e`. -/
def Val.mantAt (neg : Bool) (m : Nat) (e e0 : Int) : Int :=
  let k : Int := (m <<< (e - e0).toNat : Nat)
  if neg then -k else k

/-- The exact sum of two finite values; a zero sum of non-negative-zero operands is +0 (IEEE 754 under RN). -/
def Val.addFin (n1 : Bool) (m1 : Nat) (e1 : Int) (n2 : Bool) (m2 : Nat) (e2 : Int) : Val :=
  let e0 := min e1 e2
  let s := Val.mantAt n1 m1 e1 e0 + Val.mantAt n2 m2 e2 e0
  if s = 0 then .fin (n1 && n2) 0 e0 else .fin (s < 0) s.natAbs e0

/-- IEEE 754 addition before rounding. -/
def Val.add : Val → Val → Res
  | .fin n1 m1 e1, .fin n2 m2 e2 => ⟨Val.addFin n1 m1 e1 n2 m2 e2, 0⟩
  | .inf a, .inf b => if a = b then ⟨.inf a, Flag.nonFinite⟩ else ⟨.nan, Flag.invalid ||| Flag.nonFinite⟩
  | .nan, _ => ⟨.nan, Flag.nonFinite⟩
  | _, .nan => ⟨.nan, Flag.nonFinite⟩
  | .inf a, _ => ⟨.inf a, Flag.nonFinite⟩
  | _, .inf b => ⟨.inf b, Flag.nonFinite⟩

/-- IEEE 754 multiplication before rounding. -/
def Val.mul : Val → Val → Res
  | .fin n1 m1 e1, .fin n2 m2 e2 => ⟨.fin (n1 != n2) (m1 * m2) (e1 + e2), 0⟩
  | .nan, _ => ⟨.nan, Flag.nonFinite⟩
  | _, .nan => ⟨.nan, Flag.nonFinite⟩
  | .inf a, y => if y.isZero then ⟨.nan, Flag.invalid ||| Flag.nonFinite⟩ else ⟨.inf (a != y.isNeg), Flag.nonFinite⟩
  | x, .inf b => if x.isZero then ⟨.nan, Flag.invalid ||| Flag.nonFinite⟩ else ⟨.inf (x.isNeg != b), Flag.nonFinite⟩

/-- Whether `a < b` for finite values and infinities; false where one is a NaN. -/
def Val.lt : Val → Val → Bool
  | .fin n1 m1 e1, .fin n2 m2 e2 =>
    let e0 := min e1 e2
    decide (Val.mantAt n1 m1 e1 e0 < Val.mantAt n2 m2 e2 e0)
  | .nan, _ => false
  | _, .nan => false
  | .inf a, .inf b => a && !b
  | .inf a, _ => a
  | _, .inf b => !b

def Val.le (a b : Val) : Bool :=
  match a, b with
  | .nan, _ => false
  | _, .nan => false
  | a, b => !(Val.lt b a)

/-- Equality of values (+0 = −0; a NaN equals nothing). -/
def Val.eq (a b : Val) : Bool := Val.le a b && Val.le b a

/-- Sum of finite values, exact; a non-finite term makes it what IEEE addition makes of it. A sum of −0 alone is −0 (R29). -/
def Val.sum : List Val → Res
  | [] => ⟨.zero, 0⟩
  | v :: vs => vs.foldl (fun acc v => let r := Val.add acc.v v; ⟨r.v, acc.fl ||| r.fl⟩) ⟨v, v.nf⟩

/-- The quotient of two finite values, b ≠ 0, cut after enough bits with a sticky last bit: it rounds like the exact one. -/
def Val.quot (n1 : Bool) (m1 : Nat) (e1 : Int) (n2 : Bool) (m2 : Nat) (e2 : Int) : Val :=
  let k := 130 + Nat.log2 m2
  let num := m1 <<< k
  let q := num / m2
  .fin (n1 != n2) (2 * q + (if num % m2 = 0 then 0 else 1)) (e1 - e2 - k - 1)

/-- Integer square root of `m`, bit by bit from bit `b`. -/
def isqrt (m : Nat) : Nat → Nat → Nat
  | 0, r => r
  | b + 1, r =>
    let t := r + 2 ^ b
    if t * t ≤ m then isqrt m b t else isqrt m b r

/-- The square root of a positive finite value with a sticky last bit. -/
def Val.root (m : Nat) (e : Int) : Val :=
  let odd := e % 2 ≠ 0
  let m' := (if odd then 2 * m else m) <<< 132
  let e' := (if odd then e - 1 else e) - 132
  let r := isqrt m' (Nat.log2 m' / 2 + 1) 0
  .fin false (2 * r + (if r * r = m' then 0 else 1)) (e' / 2 - 1)

/-! ### Decoding (R29 to R34) -/

/-- The value of a magnitude code of a float layout. -/
def Layout.mag (l : Layout) (neg : Bool) (c : Nat) : Val :=
  let ex := c / 2 ^ l.p
  let mt := c % 2 ^ l.p
  if ex = 0 then .fin neg mt (1 - (l.bias : Int) - l.p)
  else .fin neg (2 ^ l.p + mt) ((ex : Int) - l.bias - l.p)

/-- R36: 2^(k/4) for k = 0 to 3, each rounded to FP32 with RN, as FP32 codes. -/
def lnsTable : List Nat := [0x3F800000, 0x3F9837F0, 0x3FB504F3, 0x3FD744FD]

/-- The value of a code of each format, before any block scale (R27, R30 to R35). -/
def Fmt.decode (f : Fmt) (c : Nat) : Val :=
  match f with
  | .int8 => Val.ofInt (signed 8 c)
  | .int4 => Val.ofInt (signed 4 c)
  | .lns8 =>
    let l := c % 128
    if l = 0 then (if c.testBit 7 then .nan else .zero)
    else
      let d := (l + 64) % 4
      let b := Layout.mag Fmt.fp32.layout (c.testBit 7) ((lnsTable.getD d 0))
      b.shift (((l : Int) - 64 - d) / 4)
  | f =>
    let l := f.layout
    let w := f.bits - 1
    let neg := c.testBit w
    let mag := c % 2 ^ w
    if mag ≤ l.maxMag then l.mag neg mag
    else if l.infMag = some mag then .inf neg
    else .nan

/-- R38: a UE8 scale as a power of two; 0xFF marks the block's elements as NaN. -/
def ue8 (e : Nat) : Int := (e : Int) - 127

/-! ### Rounding (R39 to R48) -/

/-- RN, or SR with its 16-bit draw (R39, R42). -/
inductive Rnd where
  | rn
  | sr (draw : Nat)
deriving DecidableEq, Repr

/-- The integer part of m × 2^k and the fraction as numerator over 2^d. -/
def splitShift (m : Nat) (k : Int) : Nat × Nat × Nat :=
  if 0 ≤ k then (m <<< k.toNat, 0, 0)
  else
    let d := (-k).toNat
    (m / 2 ^ d, m % 2 ^ d, d)

/-- R41, R42: round n + r/2^d to an integer; the result and whether it changed the value. -/
def roundStep (mode : Rnd) (n r d : Nat) : Nat × Bool :=
  if r = 0 then (n, false)
  else match mode with
    | .rn =>
      if 2 * r < 2 ^ d then (n, true)
      else if 2 ^ d < 2 * r then (n + 1, true)
      else (if n % 2 = 0 then n else n + 1, true)
    | .sr draw => (if 65536 - r * 65536 / 2 ^ d ≤ draw then n + 1 else n, true)

/-- The exponent of the last place of a float layout for a positive value m × 2^e (R41, R42: adjacent codes). -/
def Layout.lsb (l : Layout) (m : Nat) (e : Int) : Int :=
  max ((Nat.log2 m : Int) + e - l.p) (1 - (l.bias : Int) - l.p)

/-- The magnitude code of n × 2^q for q an exponent `lsb` gave. -/
def Layout.code (l : Layout) (n : Nat) (q : Int) : Nat :=
  (q - (1 - (l.bias : Int) - l.p)).toNat * 2 ^ l.p + n

/-- R36: the L field of a positive value in LNS8 before saturation: 64 + RN(4 log2 x); x^8 is compared with powers of two. -/
def lnsLevel (m : Nat) (e : Int) : Int :=
  let m8 := m ^ 8
  let t := (Nat.log2 m8 : Int) + 8 * e
  64 + (t + 1) / 2

/-- A conversion: the code written and the flags of R46 to R48. -/
structure Conv where
  code : Nat
  fl : Nat
deriving DecidableEq, Repr

/-- R46, R47: the code of a saturated magnitude. -/
def Fmt.maxCode : Fmt → Nat
  | .int8 => 127 | .int4 => 7 | .lns8 => 0x7F
  | f => f.layout.maxMag

/-- A magnitude code with its sign. -/
def Fmt.withSign (f : Fmt) (neg : Bool) (mag : Nat) : Nat :=
  if f.isInt then (if neg then (2 ^ f.bits - mag) % 2 ^ f.bits else mag)
  else mag + (if neg then 2 ^ (f.bits - 1) else 0)

/-- R46: whether a finite magnitude exceeds the largest finite magnitude of the format, on the exact value. That of LNS8 is
2^15.75 (R35), so fourth powers are compared. -/
def Fmt.exceeds (f : Fmt) (m : Nat) (e : Int) : Bool :=
  if f = .lns8 then Val.lt (.fin false 1 63) (.fin false (m ^ 4) (4 * e))
  else
    let big := if f.isInt then Val.fin false f.maxCode 0 else f.layout.mag false f.maxCode
    Val.lt big (.fin false m e)

/-- R41 to R48: writing a finite value; `sat` marks a saturating destination (R46). A saturation is no rounding: R47's table
gives it SATURATED alone (DEDUCED, log entry 9). Under SR a value between the largest finite code and the next binade of a
BF16 or FP16 that does not saturate goes by its draw to the one or to infinity (DEDUCED, log entry 142). -/
def convFin (f : Fmt) (sat : Bool) (mode : Rnd) (neg : Bool) (m : Nat) (e : Int) : Conv :=
  if f = .lns8 then
    if m = 0 then ⟨0, 0⟩
    else
      let lv := lnsLevel m e
      if f.exceeds m e || decide (127 < lv) then ⟨f.withSign neg 127, Flag.saturated⟩
      else if lv < 1 then ⟨0, Flag.underflow ||| Flag.inexact⟩
      else ⟨f.withSign neg lv.toNat, if m = 2 ^ Nat.log2 m && lv % 4 = 0 then 0 else Flag.inexact⟩
  else if m = 0 then ⟨f.withSign neg 0, 0⟩
  else if (f.scaled || sat) && f.exceeds m e then ⟨f.withSign neg f.maxCode, Flag.saturated⟩
  else if f.isInt then
    let (n, r, d) := splitShift m e
    let (q, chg) := roundStep mode n r d
    ⟨f.withSign neg q, (if chg then Flag.inexact ||| (if q = 0 then Flag.underflow else 0) else 0)⟩
  else
    let l := f.layout
    let q := l.lsb m e
    let (n, r, d) := splitShift m (e - q)
    let (n', chg) := roundStep mode n r d
    let mag := l.code n' q
    if l.maxMag < mag then
      ⟨f.withSign neg (l.infMag.getD l.maxMag), Flag.overflow ||| Flag.inexact ||| Flag.nonFinite⟩
    else ⟨f.withSign neg mag, (if chg then Flag.inexact ||| (if mag < 2 ^ l.p then Flag.underflow else 0) else 0)⟩

/-- R47: writing any value into a format; `sat` as in R46 (scaled formats and LNS8 always saturate). -/
def convert (f : Fmt) (sat : Bool) (mode : Rnd) (v : Val) : Conv :=
  match v with
  | .fin n m e => convFin f sat mode n m e
  | .inf n =>
    if f.scaled || sat || f = .lns8 then ⟨f.withSign n f.maxCode, Flag.saturated ||| Flag.nonFinite⟩
    else ⟨f.withSign n (f.layout.infMag.getD 0), Flag.nonFinite⟩
  | .nan =>
    ⟨(match f with
      | .fp4 => 0 | .int8 => 0 | .int4 => 0 | .lns8 => 0x80
      | f => f.layout.nanMag), Flag.nonFinite⟩

/-- FP32 code of a value under RN (R39), with flags. -/
def toFp32 (v : Val) : Conv := convert .fp32 false .rn v

/-- The FP32 value nearest to an exact one, with its flags. -/
def round32 (r : Res) : Res :=
  let c := toFp32 r.v
  ⟨Fmt.fp32.decode c.code, r.fl ||| c.fl⟩

/-- The exact value of an FP32 code. -/
def f32 (c : Nat) : Val := Fmt.fp32.decode c

/-- The FP32 code of a non-negative ratio, for dictionary entries of type f32. -/
def f32Ratio (num den : Nat) : Nat :=
  if den = 0 then 0 else (toFp32 (Val.quot false num 0 false den 0)).code

/-- The FP32 code of an integer ratio. -/
def f32RatioInt (num : Int) (den : Nat) : Nat :=
  if den = 0 then 0 else (toFp32 (Val.quot (num < 0) num.natAbs 0 false den 0)).code

/-! ### Values with a bound only (R52 to R56) -/

/-- The free value of a draw at a position: an FP32 code when the manual only bounds a result (assumption 3). -/
def freeAt (seed pos : Nat) : Nat := Config.freeNat (2 ^ 64 * seed + pos)

/-- Whether |x − s| ≤ b for finite values; `b` non-negative. -/
def within (x s b : Val) : Bool :=
  match x, s, b with
  | .fin n1 m1 e1, .fin n2 m2 e2, .fin _ mb eb =>
    let e0 := min (min e1 e2) eb
    decide ((Val.mantAt n1 m1 e1 e0 - Val.mantAt n2 m2 e2 e0).natAbs ≤ (Val.mantAt false mb eb e0).natAbs)
  | _, _, _ => false

/-- R29, R49: UNDERFLOW of an inexact result whose code is subnormal or zero. -/
def Fmt.tiny (f : Fmt) (c : Nat) : Nat := if c % 2 ^ (f.bits - 1) < 2 ^ f.layout.p then Flag.underflow else 0

/-- A result the manual bounds (R54 to R56): the free value when it lies within the bound of the exact one, else the exact
one rounded; INEXACT may be raised either way when rounding could have happened. A zero keeps the sign of the exact result
(R29). -/
def bounded (f : Fmt) (exact bound : Val) (seed pos : Nat) : Res :=
  let c := freeAt seed pos % 2 ^ f.bits
  let v := f.decode c
  let r := convert f false .rn exact
  if bound.isZero || !(f.decode r.code).isFinite || !within v exact bound || (v.isZero && v.isNeg != exact.isNeg) then ⟨f.decode r.code, r.fl⟩
  else ⟨v, if Val.eq v exact then 0 else Flag.inexact ||| f.tiny c⟩

/-- The ulp of a finite value in a format (R52); above the largest finite magnitude, the step below it. -/
def ulpOf (f : Fmt) (v : Val) : Val :=
  let l := f.layout
  match v with
  | .fin _ m e =>
    if m = 0 then .fin false 1 (1 - (l.bias : Int) - l.p)
    else .fin false 1 (min (l.lsb m e) ((l.maxMag / 2 ^ l.p : Nat) - (l.bias : Int) - l.p))
  | _ => .zero

/-- A value the manual does not state: any FP32 value (assumption 3). -/
def unstated (seed pos : Nat) : Res := let v := f32 (freeAt seed pos % 2 ^ 32); ⟨v, v.nf⟩

/-! ### LNS8 arithmetic (R36) -/

/-- The product of two LNS8 codes. -/
def lnsMul (a b : Nat) : Conv :=
  if a = 0x80 || b = 0x80 then ⟨0x80, Flag.nonFinite⟩
  else if a = 0 || b = 0 then ⟨0, 0⟩
  else
    let l : Int := (a % 128 : Nat) + (b % 128 : Nat) - 64
    let neg := a.testBit 7 != b.testBit 7
    if l < 1 then ⟨0, Flag.underflow⟩
    else if 127 < l then ⟨Fmt.lns8.withSign neg 127, Flag.saturated⟩
    else ⟨Fmt.lns8.withSign neg l.toNat, 0⟩

end Sys2Proof.Machine
end

