-- ==== Sys2Proof/Machine/Ops.lean ====
section
/-!
DEFINITION. The named operations over the state: time, free values, dictionary values, health, the error log, the address
map and memory. Every meaning reads and writes the machine through them.
-/

namespace Sys2Proof.Machine

/-! ### Time and free values -/

/-- R344: device time never runs backwards; a timed event carries its time (assumption 2). -/
def State.tick (s : State) (t : Nat) : State := { s with now := if s.power.standFor = 0 then max s.now t else s.now }

/-- A fresh free value (assumption 3): the draw's number, and the state that has drawn it. -/
def State.drawn (s : State) : State := { s with fresh := s.fresh + 1 }

/-- A message sent at one of the module's interfaces (R3; assumption 5). -/
def State.send (s : State) (e : Egress) : State := { s with egress := s.egress ++ [e] }

/-! ### Dictionary values (R388) -/

/-- The stored value of entry:field (key = entry × 256 + field). -/
def State.dv (s : State) (key : Nat) : Nat := (look none s.dict key).getD (entryDefault key)

/-- Entry:field set to a value. -/
def State.setDv (s : State) (key v : Nat) : State :=
  { s with dict := put none s.dict key (if v = entryDefault key then none else some v) }

/-- R389: entry:field raised by `n`, modulo the size of its type. -/
def State.bump (s : State) (key n : Nat) : State := s.setDv key ((s.dv key + n) % 256 ^ entrySize key)

/-- The wait since `since`, added to a surge counter. -/
def State.surge (s : State) (key since : Nat) : State := s.bump key (s.now - since)

/-! ### Records of the state by number -/

def State.queue (s : State) (q : Nat) : Queue := look {} s.queues q
def State.setQueue (s : State) (q : Nat) (r : Queue) : State := { s with queues := put {} s.queues q r }
def State.onQueue (s : State) (q : Nat) (f : Queue → Queue) : State := s.setQueue q (f (s.queue q))

def State.cluster (s : State) (c : Nat) : Cluster := look {} s.clusters c
def State.setCluster (s : State) (c : Nat) (r : Cluster) : State := { s with clusters := put {} s.clusters c r }
def State.onCluster (s : State) (c : Nat) (f : Cluster → Cluster) : State := s.setCluster c (f (s.cluster c))

def State.channel (s : State) (c : Nat) : Channel := look {} s.channels c
def State.setChannel (s : State) (c : Nat) (r : Channel) : State := { s with channels := put {} s.channels c r }
def State.onChannel (s : State) (c : Nat) (f : Channel → Channel) : State := s.setChannel c (f (s.channel c))

def State.package (s : State) (p : Nat) : Package := look {} s.packages p
def State.setPackage (s : State) (p : Nat) (r : Package) : State := { s with packages := put {} s.packages p r }
def State.onPackage (s : State) (p : Nat) (f : Package → Package) : State := s.setPackage p (f (s.package p))

def State.port (s : State) (p : Nat) : Port := look {} s.ports p
def State.setPort (s : State) (p : Nat) (r : Port) : State := { s with ports := put {} s.ports p r }
def State.onPort (s : State) (p : Nat) (f : Port → Port) : State := s.setPort p (f (s.port p))

def State.region (s : State) (r : Nat) : Region := look {} s.regions r
def State.setRegion (s : State) (r : Nat) (x : Region) : State := { s with regions := put {} s.regions r x }
def State.onRegion (s : State) (r : Nat) (f : Region → Region) : State := s.setRegion r (f (s.region r))

def State.spot (s : State) (h : Nat) : HotSpot := look {} s.spots h
def State.setSpot (s : State) (h : Nat) (x : HotSpot) : State := { s with spots := put {} s.spots h x }
def State.onSpot (s : State) (h : Nat) (f : HotSpot → HotSpot) : State := s.setSpot h (f (s.spot h))

def State.tensor (s : State) (h : Nat) : Option Tensor := look none s.tensors h
def State.setTensor (s : State) (h : Nat) (t : Option Tensor) : State := { s with tensors := put none s.tensors h t }
def State.onTensor (s : State) (h : Nat) (f : Tensor → Tensor) : State := s.setTensor h ((s.tensor h).map f)

def State.counter (s : State) (n : Nat) : BitVec 64 := look 0 s.counters n
/-- R177: an arrival counter set. -/
def State.setCounter (s : State) (n : Nat) (v : BitVec 64) : State := { s with counters := put 0 s.counters n v }
/-- R177: an arrival counter added to, modulo 2^64. -/
def State.addCounter (s : State) (n : Nat) (v : BitVec 64) : State := s.setCounter n (s.counter n + v)

def State.streamOut (s : State) (n : Nat) : StreamOut := look {} s.streamsOut n
def State.onStreamOut (s : State) (n : Nat) (f : StreamOut → StreamOut) : State :=
  { s with streamsOut := change {} s.streamsOut n f }
def State.streamIn (s : State) (n : Nat) : StreamIn := look {} s.streamsIn n
def State.onStreamIn (s : State) (n : Nat) (f : StreamIn → StreamIn) : State :=
  { s with streamsIn := change {} s.streamsIn n f }

/-- R414: this module's node ID, 0x5001:00. -/
def State.node (s : State) : Nat := s.dv 0x500100

/-! ### Regions and temperatures (R19, R374) -/

/-- R374: the hot spots of a region. -/
def hotSpotsOf (r : Nat) : List Nat := if r < 32 then [2 * r, 2 * r + 1] else [32 + r]

/-- R374: the region of a hot spot. -/
def regionOfSpot (h : Nat) : Nat := if h < 64 then h / 2 else h - 32

/-- The highest of some integers, 0 for none. -/
def maxInt : List Int → Int
  | [] => 0
  | [x] => x
  | x :: xs => max x (maxInt xs)

/-- R374: a region's temperature, in 0.1 °C. -/
def State.regionTemp (s : State) (r : Nat) : Int := maxInt ((hotSpotsOf r).map (fun h => (s.spot h).temp))

/-- R17, R19: whether a region lies on the east half. -/
def eastRegion (r : Nat) : Bool :=
  (decide (16 ≤ r) && decide (r < 32)) || (decide (36 ≤ r) && decide (r < 40)) || r == 42 || r == 43 || r == 45

/-- R414: the temperature of a record: the region's, or the hotter half for the safelight domain. -/
def State.recordTemp (s : State) (r : Nat) : Int :=
  if r < 48 then s.regionTemp r else maxInt ((List.range 80).map (fun h => (s.spot h).temp))

/-! ### Health and the error log (R409, R414 to R419) -/

/-- R409: a health event is latched and becomes the last health event. -/
def State.latch (s : State) (bit : Nat) : State :=
  (s.setDv 0x110300 (s.dv 0x110300 ||| 2 ^ bit)).setDv 0x110700 (bit + (s.now % 2 ^ 64) * 2 ^ 64)

/-- R416: the health bit a class latches. -/
def classHealth (cls : Nat) : Option Nat :=
  if cls = 0x2001 then some 10 else if cls = 0x2002 then some 4 else if cls = 0x2003 then some 3
  else if cls = 0x2004 then some 4 else if cls = 0x2801 then some 0 else if cls = 0x2802 then some 0
  else if cls = 0x2803 then some 1 else if cls = 0x2804 then some 11 else if cls = 0x2805 then some 0
  else if cls = 0x3002 then some 12 else if cls = 0x4002 then some 5 else if cls = 0x4003 then some 5
  else if cls = 0x4004 then some 5 else if cls = 0x4005 then some 5 else if cls = 0x5001 then some 6
  else if cls = 0x5002 then some 7 else if cls = 0x5003 then some 6 else if cls = 0x5005 then some 6
  else if cls = 0x5006 then some 9 else if cls = 0x6001 then some 2 else if cls = 0x6002 then some 2
  else if cls = 0xA006 then some 5 else if cls = 0xF002 then some 13 else if cls = 0xF003 then some 8
  else none

/-- A record of a class at detection: time, temperature and voltage of its region (R414). -/
def State.mkRec (s : State) (cls unit region syndrome : Nat) : ErrRecord :=
  { time := s.now, cls := cls, unit := unit, region := region, syndrome := syndrome % 2 ^ 192,
    celsius := s.recordTemp region,
    milliVolt := if region < 48 then (s.region region).milliVolt else 750 }

/-- R418: a record enters the ring with the next sequence; its health bit is latched (R416). -/
def State.ringRec (s : State) (r : ErrRecord) : State :=
  let s1 := { s with log := (({ r with seq := s.logSeq + 1 }) :: s.log).take 4096, logSeq := s.logSeq + 1 }
  match classHealth r.cls with
  | some b => s1.latch b
  | none => s1

/-- R414, R419: a record is written; one raised on the east half while the halves' link is down waits there, up to 64. -/
def State.record (s : State) (r : ErrRecord) : State :=
  if !s.mgmt.linkUp && eastRegion r.region then
    let held := s.mgmt.eastHeld ++ [r]
    { s with mgmt := { s.mgmt with
        eastHeld := held.drop (held.length - 64), eastLost := s.mgmt.eastLost + (held.length - 64) } }
  else s.ringRec r

/-- The short form: a record with no command, queue or status. -/
def State.recordOf (s : State) (cls unit region syndrome : Nat) : State := s.record (s.mkRec cls unit region syndrome)

/-- R176: the log index a completion record names: the slot of the last record written. -/
def State.logSlot (s : State) : Nat := (s.logSeq - 1) % 4096

/-- R417: records of corrected errors (MEMORY_CE, SCRATCHPAD_CE, ONDIE_ECC) are coalesced per class and source. -/
def State.recordCE (s : State) (r : ErrRecord) (source : Nat) : State :=
  match s.windows.find? (fun w => w.cls == r.cls && w.source == source) with
  | some _ =>
    { s with windows := s.windows.map (fun w =>
        if w.cls == r.cls && w.source == source then { w with count := w.count + 1, last := r.syndrome } else w) }
  | none =>
    (s.record r) |> fun s => { s with windows := s.windows ++ [{ cls := r.cls, source := source, since := s.now }] }

/-- R419: the records the east half held are delivered, with sequences assigned on arrival; the first carries the number
lost in its repeat count. -/
def State.deliverEast (s : State) : State :=
  let held := s.mgmt.eastHeld
  let lost := s.mgmt.eastLost
  let s0 := { s with mgmt := { s.mgmt with eastHeld := [], eastLost := 0 } }
  match held with
  | [] => s0
  | r :: rs => rs.foldl State.ringRec (s0.ringRec { r with repeats := min 0xFFFF (r.repeats + lost) })

/-- R416 (ADDRESS_FAULT): access kind (1 read, 2 write, 3 add or atomic), node, address, and the unit that saw it. -/
def State.addressFault (s : State) (kind node addr unit status : Nat) : State :=
  s.record { s.mkRec 0x4006 unit 47 (kind + node * 2 ^ 16 + addr * 2 ^ 64) with status := status }

/-- R414, R416: the same for an access of a command, given as queue, list identifier and index. -/
def State.commandFault (s : State) (cmd : Nat × Nat × Nat) (kind addr unit status : Nat) : State :=
  s.record { s.mkRec 0x4006 unit 47 (kind + s.node * 2 ^ 16 + addr * 2 ^ 64) with
    status := status, queue := cmd.1, flags := 1, listId := cmd.2.1, index := cmd.2.2 }

/-- Who issues an access: a node, and the command it works for, if any. -/
structure Origin where
  node : Nat
  cmd : Option (Nat × Nat × Nat) := none

/-- R416: the ADDRESS_FAULT record of an access by `o`. -/
def State.faultOf (s : State) (o : Origin) (kind addr unit status : Nat) : State :=
  match o.cmd with
  | some c => s.commandFault c kind addr unit status
  | none => s.addressFault kind o.node addr unit status

/-! ### The address map (R213 to R215) -/

/-- R215: the near-home address of offset `o` of the striped alias. -/
def stripe (o : Nat) : Nat :=
  let u := o / 4096
  let nn := u % 32
  let c := u / 32 % 4
  let k := u / 128
  let q := k * 4096 + o % 4096
  nn * 2 ^ 36 + q / 256 * 1024 + c * 256 + q % 256

/-- What lies at a local physical address. -/
inductive Place where
  /-- LPDDR, by near-home address -/
  | lpddr (a : Nat)
  /-- populated scratchpad -/
  | scratch (a : Nat)
  /-- queue table and watch lines -/
  | queues (off : Nat)
  /-- arrival counter window -/
  | counters (off : Nat)
  /-- tensor descriptor window -/
  | descs (off : Nat)
  /-- pairing mailbox -/
  | mailbox (off : Nat)
  /-- other control and status blocks -/
  | csr
  | dictionary
  | fabric (off : Nat)
  | unmapped
deriving DecidableEq, Repr

/-- R213: the local physical address map. The descriptor window holds 2^24 handles of 64 bytes (R185), the mailbox 2 MiB
(R310). -/
def place (a : Nat) : Place :=
  if a < 0x20000000000 then .lpddr a
  else if a < 0x40000000000 then .lpddr (stripe (a - 0x20000000000))
  else if a < 0x100000000000 then .unmapped
  else if a < 0x100040000000 then (if (a - 0x100000000000) % 0x2000000 < 0x1800000 then .scratch a else .unmapped)
  else if a < 0x200000000000 then .unmapped
  else if a < 0x210000000000 then .queues (a - 0x200000000000)
  else if a < 0x220000000000 then .counters (a - 0x210000000000)
  else if a < 0x300000000000 then .unmapped
  else if a < 0x3F0000000000 then
    (if 0x300040000000 ≤ a ∧ a < 0x300080000000 then .descs (a - 0x300040000000)
     else if 0x300080000000 ≤ a ∧ a < 0x300080200000 then .mailbox (a - 0x300080000000)
     else .csr)
  else if a < 0x400000000000 then .dictionary
  else if a < 0x800000000000 then .fabric (a - 0x400000000000)
  else .unmapped

/-- The package of a near-home address (R214). -/
def pkgOf (near : Nat) : Nat := near / 2 ^ 36

/-- The channel, 4nn + c, of a near-home address (R214). -/
def chanOf (near : Nat) : Nat := 4 * (near / 2 ^ 36) + near / 256 % 4

/-- The frame number nn × 32,768 + f of a near-home address (R214). -/
def frameOf (near : Nat) : Nat := near / 2 ^ 21

/-- R229: whether a package is out of service for good. -/
def State.offline (s : State) (p : Nat) : Bool := (s.package p).offline

/-! ### Memory -/

/-- What a byte that nothing has written reads as (log entry 6). -/
def memDefault : Byte := 0

/-- One byte of memory: LPDDR by near-home address, scratchpad or mailbox by address. -/
def State.rd (s : State) (a : Nat) : Byte := look memDefault s.mem a

def State.wr (s : State) (a : Nat) (b : Byte) : State := { s with mem := put memDefault s.mem a b }

/-- Whether memory has its canonical form. -/
abbrev Memory.wf (m : Tbl Byte) : Prop := Tbl.wf memDefault m = true

/-- The canonical key of the byte at a local address: striped and near-home LPDDR name the same bytes (R215). -/
def memKey (a : Nat) : Nat :=
  match place a with
  | .lpddr n => n
  | _ => a

def State.rdBytes (s : State) (a : Nat) : Nat → List Byte
  | 0 => []
  | n + 1 => s.rd (memKey a) :: s.rdBytes (a + 1) n

def State.wrBytes (s : State) (a : Nat) : List Byte → State
  | [] => s
  | b :: bs => (s.wr (memKey a) b).wrBytes (a + 1) bs

/-- The little-endian number of `n` bytes at `a`. -/
def State.rdNat (s : State) (a n : Nat) : Nat := leNat (s.rdBytes a n)

def State.wrNat (s : State) (a n v : Nat) : State := s.wrBytes a (leBytes n v)

/-- `n` bytes at `a` set to `b`. -/
def State.fillBytes (s : State) (a n : Nat) (b : Byte) : State := s.wrBytes a (List.replicate n b)

/-- Memory from canonical address `a` to `a + n − 1` made to read as unwritten, and its storage good (R190: scrubbed to zero). -/
def State.clearRange (s : State) (a n : Nat) : State :=
  { s with
    mem := s.mem.filter (fun e => !(decide (a ≤ e.1) && decide (e.1 < a + n))),
    marks := s.marks.filter (fun e =>
      let lo := if e.1 < 2 ^ 42 then 64 * e.1 else 8 * (e.1 - 2 ^ 42)
      !(decide (a ≤ lo) && decide (lo < a + n))) }

/-! ### Poison (R211, R421) -/

/-- The mark under which the state of the storage at a canonical byte address is kept: an LPDDR line or a scratchpad word. -/
def markKey (a : Nat) : Nat := if a < 0x20000000000 then a / 64 else 2 ^ 42 + a / 8

def State.mark (s : State) (k : Nat) : LineMark := look .good s.marks k
def State.setMark (s : State) (k : Nat) (m : LineMark) : State := { s with marks := put .good s.marks k m }

/-- Whether any byte of a range lies in storage that does not decode (R210, R421). -/
def State.badRange (s : State) (a n : Nat) : Bool :=
  (List.range n).any (fun i => s.mark (markKey (memKey (a + i))) != .good)

/-- R211, R421: the storage of a whole range is marked, each line or word once. -/
def State.markRange (s : State) (a n : Nat) (m : LineMark) : State :=
  (List.range ((n + 7) / 8)).foldl (fun s i => s.setMark (markKey (memKey (a + 8 * i))) m) s

/-- R211: a line stored as poisoned is counted in 0x4005:00. -/
def State.poisonLine (s : State) (a : Nat) : State := (s.markRange a 64 .poisoned).bump 0x400500 1

/-- R421: a store of `n` bytes at `a` into a scratchpad clears the poison of the words it covers whole; R211: a store of a
whole LPDDR line clears the line's. -/
def State.freshen (s : State) (a n : Nat) : State :=
  match place a with
  | .lpddr _ => if n % 64 = 0 ∧ a % 64 = 0 then s.markRange a n .good else s
  | .scratch _ =>
    let a0 := (a + 7) / 8 * 8
    s.markRange a0 ((a + n - a0) / 8 * 8) .good
  | _ => s

/-- The first source after the last admitted one, in rising order and around (R178, R192, R197, R217). -/
def roundRobin (last : Nat) (srcs : List Nat) : Option Nat :=
  match (srcs.filter (last < ·)).min? with
  | some x => some x
  | none => srcs.min?

end Sys2Proof.Machine
end

