-- ==== Sys2Proof/Machine/Tensor.lean ====
section
/-!
DEFINITION. Tensors: descriptor fields (R186), shape and blocks (R58), where an element lies (R467, R191), the scale plane
(R59, R60), reading an element (R27, R60, R73, R75), and the allocator (R190 to R192, R322, R467).
-/

namespace Sys2Proof.Machine

/-! ### Descriptor fields (R186) -/

def descFmtCode (d : Line) : Nat := bitsAt d 0 0 4
def descFmt (d : Line) : Fmt := (Fmt.ofCode (descFmtCode d)).getD .fp32
def descClass (d : Line) : Nat := bitsAt d 0 4 3
def descGrain (d : Line) : Nat := 16 * 2 ^ bitsAt d 1 0 2
def descRed (d : Line) : Nat := bitsAt d 1 2 3
def descBook (d : Line) : Bool := bitAt d 1 5 && (descFmt d).scaled
def descSidecar (d : Line) : Bool := bitAt d 1 6
def descOutlier (d : Line) : Bool := bitAt d 1 7
def descChanDim (d : Line) : Nat := bitsAt d 2 0 3
def descFeedback (d : Line) : Bool := bitAt d 2 3
def descVerdict (d : Line) : Bool := bitAt d 2 4
def descMirror (d : Line) : Nat := bitsAt d 2 5 2
def descCommitted (d : Line) : Bool := bitAt d 2 7
def descSuspect (d : Line) : Bool := bitAt d 3 0
def descLatentScratch (d : Line) : Bool := bitAt d 3 1
def descResidual (d : Line) : Nat := fld d 4 3
def descExt (d : Line) (k : Nat) : Nat := fld d (8 + 4 * k) 4
def descLoc (d : Line) : Nat := fld d 32 8
def descHdr (d : Line) : Nat := fld d 40 6
def descBytes (d : Line) : Nat := fld d 48 8

/-- A descriptor with one bit of byte `off` set or cleared. -/
def descSetBit (d : Line) (off bit : Nat) (v : Bool) : Line :=
  let n := d.toNat
  let k := 8 * off + bit
  BitVec.ofNat 512 (if n.testBit k = v then n else if v then n + 2 ^ k else n - 2 ^ k)

/-- R187: whether a tensor is PINNED at another node; node 0xFFFF is this module (R9). -/
def State.isRemote (s : State) (d : Line) : Bool :=
  let n := descLoc d / 2 ^ 48
  descClass d == 3 && n != 0xFFFF && n != s.node

/-! ### Shape and blocks (R58) -/

/-- The number of elements. -/
def descElems (d : Line) : Nat := descExt d 0 * descExt d 1 * descExt d 2 * descExt d 3 * descExt d 4

/-- The linear stride of a dimension: dimension 0 is fastest (R186). -/
def descStride (d : Line) (k : Nat) : Nat := (List.range k).foldl (fun p i => p * descExt d i) 1

/-- An element's coordinate in a dimension. -/
def coord (d : Line) (k idx : Nat) : Nat := idx / descStride d k % descExt d k

/-- Blocks in one row of the reduction dimension: Bk = ⌈X / G⌉. -/
def rowBlocks (d : Line) : Nat := ceilDiv (descExt d (descRed d)) (descGrain d)

/-- The number of blocks of a plane. -/
def blockCount (d : Line) : Nat :=
  let x := descExt d (descRed d)
  if x = 0 then 0 else descElems d / x * rowBlocks d

/-- R58: block index and position of an element. -/
def blockOf (d : Line) (idx : Nat) : Nat × Nat :=
  let st := descStride d (descRed d)
  let x := descExt d (descRed d)
  let k := idx / st % x
  let o := idx / (st * x) * st + idx % st
  (o * rowBlocks d + k / descGrain d, k % descGrain d)

/-- The elements of a block in position order; the last block of a row is short (R58). -/
def blockElems (d : Line) (b : Nat) : List Nat :=
  let st := descStride d (descRed d)
  let x := descExt d (descRed d)
  let o := b / rowBlocks d
  let k0 := b % rowBlocks d * descGrain d
  (List.range (min (descGrain d) (x - k0))).map (fun p => o % st + (k0 + p) * st + o / st * (st * x))

/-- R161: whether a tensor is stored with zero-run compression: a LATENT one, where the module compresses (log entry 64). -/
def zeroRun (d : Line) : Bool := descClass d == 4 && Config.latentZeroRun

/-- R161: bytes of one block's codes, and of a compressed tensor's payload. -/
def blockBytes (d : Line) : Nat := ceilDiv (descGrain d * (descFmt d).bits) 8
def payloadBytes (d : Line) : Nat := ceilDiv (blockCount d * blockBytes d) 64 * 64

/-- R186: data bytes, rounded up to a multiple of 64; a residual holds two planes (log entry 13); the segment headers of a
compressed latent tensor follow its payload (R161). -/
def planeBytes (d : Line) : Nat :=
  if zeroRun d then payloadBytes d + 64 * ceilDiv (blockCount d) 256
  else ceilDiv (ceilDiv (descElems d * (descFmt d).bits) 8) 64 * 64

/-- The channel of an element (R75). -/
def chanOfElem (d : Line) (idx : Nat) : Nat := coord d (descChanDim d) idx

/-- The elements of a channel in block-index order (R77). -/
def chanElems (d : Line) (ch : Nat) : List Nat :=
  (List.range (blockCount d)).flatMap (fun b => (blockElems d b).filter (fun i => chanOfElem d i == ch))

/-- R77: outlier-store slots. -/
def slotCount (d : Line) : Nat := if descOutlier d then descExt d (descChanDim d) / 64 else 0

/-! ### Where data lie (R467, R191, R187) -/

/-- Whether the tensor is kept in 64 KiB scratchpad pages (R192, R468). -/
def inPages (d : Line) : Bool := descClass d == 2 || (descClass d == 4 && descLatentScratch d)

/-- The unit the frame map counts in: a frame or a page (R467). -/
def mapUnit (d : Line) : Nat := if inPages d then 0x10000 else 0x200000

/-- The number of frame-map entries. -/
def mapLen (d : Line) (bytes : Nat) : Nat := ceilDiv bytes (mapUnit d)

/-- The key under which the module holds fetched bytes of a remote tensor (R194: pager buffers). -/
def remoteKey (g : Nat) : Nat := 2 ^ 64 + g

/-- R467: the address of byte `off` of a tensor's data; `none` while its frame is unbound. -/
def State.dataAddr (s : State) (d : Line) (off : Nat) : Option Nat :=
  if descClass d = 3 then
    (if s.isRemote d then some (remoteKey (descLoc d + off)) else some (descLoc d % 2 ^ 48 + off))
  else
    let e := s.rdNat (descLoc d + 8 * (off / mapUnit d)) 8 % 2 ^ 48
    if e = 0 then none else some (e + off % mapUnit d)

/-- The byte offset of an element of a plane, and for 4-bit formats the bit it starts at. -/
def elemOff (d : Line) (plane idx : Nat) : Nat × Nat :=
  let bit := idx * (descFmt d).bits
  (plane * planeBytes d + bit / 8, bit % 8)

/-- The frame-map entry an element's code falls in: of a compressed tensor, that of its segment's payload (R161). -/
def elemUnit (d : Line) (idx : Nat) : Nat :=
  if zeroRun d then (blockOf d idx).1 / 256 * 256 * blockBytes d / mapUnit d else (elemOff d 0 idx).1 / mapUnit d

/-! ### Zero-run compression (R161) -/

/-- The header of a segment: its address. -/
def State.segHeader (s : State) (d : Line) (seg : Nat) : Option Nat := s.dataAddr d (payloadBytes d + 64 * seg)

/-- Whether a block of a segment is stored, by its presence bit. -/
def State.present (s : State) (d : Line) (b : Nat) : Bool :=
  match s.segHeader d (b / 256) with
  | some a => (s.rdNat (a + b % 256 / 8) 1).testBit (b % 8)
  | none => false

/-- The blocks of a segment that are stored before block `b`. -/
def State.rankOf (s : State) (d : Line) (b : Nat) : Nat :=
  ((List.range (b % 256)).filter (fun k => s.present d (b / 256 * 256 + k))).length

/-- The address of a block's codes in its segment's payload: those of the blocks stored before it come first. -/
def State.blockAt (s : State) (d : Line) (b : Nat) : Option Nat :=
  s.dataAddr d (b / 256 * 256 * blockBytes d + s.rankOf d b * blockBytes d)

/-- The stored-count and presence bit of a block written to its segment's header. -/
def State.setPresent (s : State) (d : Line) (b : Nat) (on : Bool) : State :=
  match s.segHeader d (b / 256) with
  | none => s
  | some a =>
    let old := s.rdNat (a + b % 256 / 8) 1
    let bit := 2 ^ (b % 8)
    let s1 := s.wrNat (a + b % 256 / 8) 1 (if on then old + bit else old - bit)
    s1.wrNat (a + 32) 2 (if on then s.rdNat (a + 32) 2 + 1 else s.rdNat (a + 32) 2 - 1)

/-- A block enters its segment, or leaves it; the blocks stored behind it move by one block. -/
def State.moveBlocks (s : State) (d : Line) (b : Nat) (enter : Bool) : State :=
  match s.blockAt d b, s.segHeader d (b / 256) with
  | some a, some hd =>
    let n := blockBytes d
    let behind := (s.rdNat (hd + 32) 2 - s.rankOf d b) * n
    if enter then ((s.wrBytes (a + n) (s.rdBytes a behind)).wrBytes a (List.replicate n 0)).setPresent d b true
    else (s.wrBytes a (s.rdBytes (a + n) (behind - n))).setPresent d b false
  | _, _ => s

/-- The address of an element's code and the bit it starts at; none while its frame is unbound or its block is omitted. -/
def State.codeAt (s : State) (d : Line) (plane idx : Nat) : Option (Nat × Nat) :=
  if zeroRun d then
    let (b, pos) := blockOf d idx
    if s.present d b then (s.blockAt d b).map (fun a => (a + pos * (descFmt d).bits / 8, pos * (descFmt d).bits % 8)) else none
  else (s.dataAddr d (elemOff d plane idx).1).map (fun a => (a, (elemOff d plane idx).2))

/-- The stored code of an element; an unbound frame and an omitted block read as zero (R161, R190). -/
def State.rdCode (s : State) (d : Line) (plane idx : Nat) : Nat :=
  match s.codeAt d plane idx with
  | none => 0
  | some (a, sh) => s.rdNat a (((descFmt d).bits + 7) / 8) / 2 ^ sh % 2 ^ (descFmt d).bits

/-- A code written in the place the element has. -/
def State.putCode (s : State) (d : Line) (plane idx code : Nat) : State :=
  match s.codeAt d plane idx with
  | none => s
  | some (a, sh) =>
    if (descFmt d).bits = 4 then
      let old := (s.rd (memKey a)).toNat
      let keep := old - old / 2 ^ sh % 16 * 2 ^ sh
      s.wr (memKey a) (BitVec.ofNat 8 (keep + code % 16 * 2 ^ sh))
    else s.wrNat a ((descFmt d).bits / 8) code

/-- A code written in its place; the frame must be bound. A block of a compressed tensor enters its segment with its first code
that is not +0 and leaves it with its last (R161). -/
def State.wrCode (s : State) (d : Line) (plane idx code : Nat) : State :=
  if zeroRun d then
    let b := (blockOf d idx).1
    let s1 := if !s.present d b && code % 2 ^ (descFmt d).bits != 0 then s.moveBlocks d b true else s
    let s2 := s1.putCode d plane idx code
    if s2.present d b && (blockElems d b).all (fun i => s2.rdCode d plane i == 0) then s2.moveBlocks d b false else s2
  else s.putCode d plane idx code

/-- Whether the storage of an element does not decode (R210, R421). -/
def State.badElem (s : State) (d : Line) (plane idx : Nat) : Bool :=
  match s.codeAt d plane idx with
  | none => false
  | some a => s.badRange a.1 (((descFmt d).bits + 7) / 8)

/-! ### The scale plane (R59, R60, R61) -/

/-- The scale-plane header of a plane of a tensor. -/
def Tensor.hdr (t : Tensor) (plane : Nat) : Nat := if plane = 0 then descHdr t.desc else t.hdr1

/-- R59: an array address of the header, by its number in the table. -/
def State.arr (s : State) (hdr k : Nat) : Nat := s.rdNat (hdr + 8 * k) 8 % 2 ^ 48

def State.scaleOf (s : State) (hdr b : Nat) : Nat := s.rdNat (s.arr hdr 0 + b) 1
def State.setScale (s : State) (hdr b e : Nat) : State := s.wrNat (s.arr hdr 0 + b) 1 e

/-- R60: 2 bits of state per block. -/
def State.stateOf (s : State) (hdr b : Nat) : Nat := s.rdNat (s.arr hdr 1 + b / 4) 1 / 4 ^ (b % 4) % 4
def State.setState (s : State) (hdr b v : Nat) : State :=
  let a := s.arr hdr 1 + b / 4
  let old := s.rdNat a 1
  s.wrNat a 1 (old - old / 4 ^ (b % 4) % 4 * 4 ^ (b % 4) + v % 4 * 4 ^ (b % 4))

/-- R61: the history word of a book-mode block. -/
def State.histOf (s : State) (hdr b : Nat) : Nat := if s.arr hdr 2 = 0 then 0 else s.rdNat (s.arr hdr 2 + 2 * b) 2
def State.setHist (s : State) (hdr b v : Nat) : State :=
  if s.arr hdr 2 = 0 then s else s.wrNat (s.arr hdr 2 + 2 * b) 2 v

/-- R61: bits of the history word. -/
def histHigh : Nat := 64
def histOvf : Nat := 128
def histNf : Nat := 256
def histSeeded : Nat := 512
def histStaged : Nat := 1024

/-- Where a block's scale byte and state lie. -/
def State.planeAddrs (s : State) (hdr b : Nat) : List Nat := [s.arr hdr 0 + b, s.arr hdr 1 + b / 4]

/-- Whether a line of the scale plane that a read of a block needs does not decode. -/
def State.badScale (s : State) (hdr b : Nat) : Bool := (s.planeAddrs hdr b).any (fun a => s.badRange a 1)

/-- R73: the entries of the sidecar line of a block. -/
def State.sideEntry (s : State) (hdr b k : Nat) : Nat := s.rdNat (s.arr hdr 3 + 64 * (b / 256) + 8 * k) 8
def State.setSideEntry (s : State) (hdr b k v : Nat) : State := s.wrNat (s.arr hdr 3 + 64 * (b / 256) + 8 * k) 8 v

/-- R73: the number of the block's own entry in its line, and of a free one. -/
def State.sideOwn (s : State) (hdr b : Nat) : Option Nat :=
  (List.range 8).find? (fun k => let e := s.sideEntry hdr b k; e.testBit 23 && e / 2 ^ 24 % 256 == b % 256)
def State.sideFree (s : State) (hdr b : Nat) : Option Nat :=
  (List.range 8).find? (fun k => !(s.sideEntry hdr b k).testBit 23)

/-- R75: a channel record. -/
def State.chanRec (s : State) (hdr ch : Nat) : Nat := s.rdNat (s.arr hdr 4 + 8 * ch) 8
def State.setChanRec (s : State) (hdr ch v : Nat) : State := s.wrNat (s.arr hdr 4 + 8 * ch) 8 v
def recPromoted (r : Nat) : Bool := r.testBit 32
def recStored (r : Nat) : Bool := r.testBit 33
def recRun (r : Nat) : Nat := r / 2 ^ 34 % 64
def recSlot (r : Nat) : Nat := r / 2 ^ 48 % 65536

/-- R75: a 32-bit MAX of 0x100 | E applied to bits 31:0 of the channel's record. -/
def State.chanMax (s : State) (hdr ch e : Nat) : State :=
  let r := s.chanRec hdr ch
  let lo := r % 2 ^ 32
  s.setChanRec hdr ch (r - lo + max lo (0x100 + e))

/-- The address of an element's BF16 value in the outlier store (R77). -/
def State.slotAddr (s : State) (d : Line) (hdr ch idx : Nat) : Nat :=
  let l := descElems d / descExt d (descChanDim d)
  s.arr hdr 5 + 2 * l * recSlot (s.chanRec hdr ch) + 2 * (chanElems d ch).idxOf idx

/-- Whether an element's channel is in the outlier store now (R75 STORED). -/
def State.storedElem (s : State) (d : Line) (hdr idx : Nat) : Bool :=
  descOutlier d && recStored (s.chanRec hdr (chanOfElem d idx))

/-! ### Reading an element -/

/-- An element as an engine reads it: value, flags, whether it came from poisoned storage (R210), whether its scale was
0xFF (R38). -/
structure Elem where
  v : Val
  fl : Nat := 0
  bad : Bool := false
  ff : Bool := false
deriving DecidableEq, Repr

/-- R27, R38, R60, R73, R75, R210: the value of an element. -/
def State.rdElem (s : State) (t : Tensor) (plane idx : Nat) : Elem :=
  let d := t.desc
  let f := descFmt d
  if s.badElem d plane idx then { v := .nan, fl := Flag.nonFinite, bad := true }
  else if !f.scaled then
    let v := f.decode (s.rdCode d plane idx)
    { v := v, fl := v.nf }
  else
    let hdr := t.hdr plane
    let (b, pos) := blockOf d idx
    if s.storedElem d hdr idx then
      let v := Fmt.bf16.decode (s.rdNat (s.slotAddr d hdr (chanOfElem d idx) idx) 2)
      { v := v, fl := v.nf }
    else if s.badScale hdr b then { v := .nan, fl := Flag.nonFinite, bad := true }
    else if s.stateOf hdr b = 0 then { v := .zero }
    else
      let side :=
        if descSidecar d then
          match s.sideOwn hdr b with
          | some k => let e := s.sideEntry hdr b k; if e / 2 ^ 16 % 128 = pos then some (e % 65536) else none
          | none => none
        else none
      match side with
      | some c => let v := Fmt.bf16.decode c; { v := v, fl := v.nf }
      | none =>
        let c := s.rdCode d plane idx
        if s.stateOf hdr b = 3 then { v := (f.decode c) }
        else if s.scaleOf hdr b = 0xFF then { v := .nan, fl := Flag.nonFinite, ff := true }
        else let v := (f.decode c).shift (ue8 (s.scaleOf hdr b)); { v := v, fl := v.nf }

/-- R38: the flag of a value that is NaN for its block's scale 0xFF. -/
def Elem.ffFlag (e : Elem) : Nat := if e.ff then Flag.nonFinite else 0

/-- R79, R189: the plane a read of a residual returns: the one its owner's committed bit names. -/
def State.readPlane (s : State) (t : Tensor) : Nat :=
  if t.owner = 0 then 0
  else match s.tensor t.owner with
    | some o => if descCommitted o.desc then 1 else 0
    | none => 0

/-- R87: whether an element lies in a zero-state block: its chunk is gated. -/
def State.gatedElem (s : State) (t : Tensor) (plane idx : Nat) : Bool :=
  let d := t.desc
  let hdr := t.hdr plane
  (descFmt d).scaled && !s.storedElem d hdr idx && s.stateOf hdr (blockOf d idx).1 == 3

/-- R60: whether a read of an element applies its block's scale byte. -/
def State.scaledElem (s : State) (t : Tensor) (plane idx : Nat) : Bool :=
  let d := t.desc
  let hdr := t.hdr plane
  !s.storedElem d hdr idx && (let z := s.stateOf hdr (blockOf d idx).1; z == 1 || z == 2)

/-- R38: the record of a scale byte 0xFF that was read. -/
def State.recordFF (s : State) (h b unit : Nat) : State := s.recordOf 0x8001 unit 47 (h + b * 2 ^ 64)

/-- R38: the records of the blocks with a scale byte 0xFF among some elements of a plane that were read. -/
def State.recordPlaneFFs (s : State) (h plane unit : Nat) (idxs : List Nat) : State :=
  match s.tensor h with
  | none => s
  | some t =>
    if (descFmt t.desc).scaled then
      let hdr := t.hdr plane
      (((idxs.filter (s.scaledElem t plane)).map (fun i => (blockOf t.desc i).1)).eraseDups).foldl (fun s b =>
        if s.scaleOf hdr b = 0xFF then s.recordFF h b unit else s) s
    else s

/-- R38: those of the plane that a read returns. -/
def State.recordFFs (s : State) (h unit : Nat) (idxs : List Nat) : State :=
  match s.tensor h with
  | none => s
  | some t => s.recordPlaneFFs h (s.readPlane t) unit idxs

/-! ### The allocator (R190 to R192, R322, R467) -/

/-- Frames in a package. -/
def pkgFrames : Nat := 32768

def State.frameUse (s : State) (f : Nat) : FrameUse := look .free s.alloc.frames f
def State.setFrame (s : State) (f : Nat) (u : FrameUse) : State :=
  { s with alloc := { s.alloc with frames := put .free s.alloc.frames f u } }

/-- R322: the mirror area's bounds within a package, and this module's outbound half. -/
def State.mirrorF (s : State) : Nat := s.dv 0x601200
def State.mirrorH (s : State) : Nat := s.dv 0x601300
def State.outboundLow (s : State) : Nat :=
  if s.node < s.dv 0x600200 then s.mirrorF else s.mirrorF + s.mirrorH
def State.inboundLow (s : State) : Nat :=
  if s.node < s.dv 0x600200 then s.mirrorF + s.mirrorH else s.mirrorF
def State.inMirror (s : State) (i : Nat) : Bool :=
  decide (s.mirrorF ≤ i) && decide (i < s.mirrorF + 2 * s.mirrorH)
/-- Whether frame `i` of a package lies in the outbound half. Frame F of M00 there is the negative directory (R323). -/
def State.outbound (s : State) (i : Nat) : Bool :=
  decide (s.outboundLow ≤ i) && decide (i < s.outboundLow + s.mirrorH)
def State.inbound (s : State) (i : Nat) : Bool :=
  decide (s.inboundLow ≤ i) && decide (i < s.inboundLow + s.mirrorH)

/-- R445: the frame ranges of a package that lie in a valid memory reservation. -/
def State.reservationFrames (s : State) (p : Nat) : List (Nat × Nat) :=
  ((List.range 8).map (fun k => s.dv (0x900201 + k))).filterMap (fun r =>
    let lo := max (natFld r 0 8 / 2 ^ 21) (p * pkgFrames)
    let hi := min (natFld r 8 8 / 2 ^ 21) ((p + 1) * pkgFrames)
    if (natFld r 16 1).testBit 7 ∧ lo < hi then some (lo - p * pkgFrames, hi - p * pkgFrames) else none)

/-- Frame ranges of a package the allocator hands to no unmirrored tensor: the mirror area (R322) and reservations (R445). -/
def State.excluded (s : State) (p : Nat) : List (Nat × Nat) :=
  (if s.mirrorH = 0 then [] else [(s.mirrorF, s.mirrorF + 2 * s.mirrorH)]) ++ s.reservationFrames p

/-- Whether a number lies in one of some ranges. -/
def inRanges (rs : List (Nat × Nat)) (i : Nat) : Bool := rs.any (fun r => decide (r.1 ≤ i) && decide (i < r.2))

/-- How many numbers below `top` lie in a union of ranges sorted by lower end, from `at'` on. -/
def coverFrom (top : Nat) : Nat → List (Nat × Nat) → Nat
  | _, [] => 0
  | at', (a, b) :: rs =>
    let lo := max at' a
    let hi := min b top
    (hi - lo) + coverFrom top (max at' hi) rs

/-- A range put in its place by lower end. -/
def insertRange (r : Nat × Nat) : List (Nat × Nat) → List (Nat × Nat)
  | [] => [r]
  | x :: xs => if r.1 ≤ x.1 then r :: x :: xs else x :: insertRange r xs

/-- How many numbers below `top` lie in the union of some ranges. -/
def cover (top : Nat) (rs : List (Nat × Nat)) : Nat := coverFrom top 0 (rs.foldr insertRange [])

/-- R190, R322, R445: whether frame `i` of package `p` may be handed out to a tensor, mirrored or not. -/
def State.frameFree (s : State) (mirrored : Bool) (p i : Nat) : Bool :=
  decide (i < pkgFrames) && s.frameUse (p * pkgFrames + i) == .free && !s.offline p && !inRanges (s.reservationFrames p) i &&
  (if mirrored then s.outbound i && !(p == 0 && i == s.outboundLow) else !s.inMirror i)

/-- R190: whether a free frame has been scrubbed. -/
def State.scrubbed (s : State) (p i : Nat) : Bool :=
  decide (i < look 0 s.alloc.scrubbed p) && !s.alloc.dirty.contains (p * pkgFrames + i)

/-- The frames of a package that are in use. -/
def State.usedIn (s : State) (p : Nat) : List Nat :=
  (s.alloc.frames.filter (fun e => e.1 / pkgFrames == p)).map (fun e => e.1 % pkgFrames)

/-- R229: free frames of a package outside the mirror area and reservations; none when it is out of service. -/
def State.freeIn (s : State) (p : Nat) : Nat :=
  if s.offline p then 0
  else
    let ex := s.excluded p
    pkgFrames - cover pkgFrames ex - ((s.usedIn p).filter (fun i => !inRanges ex i)).length

/-- R190: those of them that are scrubbed. -/
def State.scrubbedIn (s : State) (p : Nat) : Nat :=
  if s.offline p then 0
  else
    let ex := s.excluded p
    let w := look 0 s.alloc.scrubbed p
    let gone := s.usedIn p ++ (s.alloc.dirty.filter (fun f => f / pkgFrames == p)).map (· % pkgFrames)
    w - cover w ex - (gone.filter (fun i => decide (i < w) && !inRanges ex i)).length

/-- R322: free frames of the outbound half of a package, less the negative directory's in M00. -/
def State.mirrorFreeIn (s : State) (p : Nat) : Nat :=
  if s.offline p then 0
  else
    let lo := s.outboundLow
    let rs := (s.reservationFrames p).map (fun r => (max r.1 lo, min r.2 (lo + s.mirrorH)))
    s.mirrorH - cover pkgFrames rs -
      ((s.usedIn p).filter (fun i => s.outbound i && !inRanges rs i && !(p == 0 && i == lo))).length - (if p = 0 then 1 else 0)

/-- Frames reserved and not yet bound (R191), of tensors mirrored whole or of the others. -/
def State.reserved (s : State) (mirrored : Bool) : Nat :=
  s.tensors.foldl (fun n e => match e.2 with
    | some t => n + (if inPages t.desc || (descMirror t.desc == 2) != mirrored then 0 else t.unbound)
    | none => n) 0

/-- 0xA042:00: free frames, scrubbed and unscrubbed, less those reserved and the staging reserve (0x4012:00). -/
def State.freeFrames (s : State) : Nat :=
  ((List.range 32).foldl (fun n p => n + s.freeIn p) 0) - s.reserved false - s.dv 0x401200

/-- Frame candidates of a package in number order: enough to meet a free one when one exists. -/
def State.frameCands (s : State) (mirrored : Bool) (p : Nat) : List Nat :=
  let lo := if mirrored then s.outboundLow else 0
  (List.range (min pkgFrames ((s.usedIn p).length + s.alloc.dirty.length + cover pkgFrames (s.excluded p) + 2))).map (· + lo)

/-- A free scrubbed frame of a package. Which one is not stated: the free value when it fits, else the lowest (log entry
14). -/
def State.pickFrame (s : State) (mirrored : Bool) (p seed : Nat) : Option Nat :=
  let ok := fun i => s.frameFree mirrored p i && s.scrubbed p i
  let f := freeAt seed p % pkgFrames
  if ok f then some (p * pkgFrames + f)
  else ((s.frameCands mirrored p).find? ok).map (p * pkgFrames + ·)

/-- Free frames of a package for a tensor, mirrored whole or not. -/
def State.freeOf (s : State) (mirrored : Bool) (p : Nat) : Nat := if mirrored then s.mirrorFreeIn p else s.freeIn p

/-- The package with the most free frames among some, lowest number on a tie (R191, R467). -/
def State.fullest (s : State) (mirrored : Bool) (ps : List Nat) : Nat :=
  ps.foldl (fun best p => if s.freeOf mirrored best < s.freeOf mirrored p then p else best) (ps.headD 0)

/-- R191, R199: where a frame is taken: the near package; when it has none, the fullest of the same half, then of either half; the
package of a cluster that is not enabled counts as full while another has room. -/
def State.bindPackage (s : State) (mirrored : Bool) (want : Nat) : Nat :=
  let on := fun (p : Nat) => (s.cluster p).state == 0
  let half := ((List.range 16).map (· + want / 16 * 16)).filter on
  let ps := [[want].filter on, half, (List.range 32).filter on].map (fun l => s.fullest mirrored l)
  ((List.zip ps [[want].filter on, half, (List.range 32).filter on]).find? (fun x =>
    !x.2.isEmpty && decide (0 < s.freeOf mirrored x.1))).elim (s.fullest mirrored (List.range 32)) (·.1)

/-- R190, R191: a free frame of a package for a write: a scrubbed one, else one that is scrubbed now. -/
def State.takeFrame (s : State) (mirrored : Bool) (p : Nat) : Option (State × Nat) :=
  match s.pickFrame mirrored p s.fresh with
  | some f => some (s.drawn, f)
  | none => match (s.frameCands mirrored p).find? (s.frameFree mirrored p) with
    | some i =>
      let f := p * pkgFrames + i
      let s1 := s.drawn.clearRange (f * 2 ^ 21) (2 ^ 21)
      some ({ s1 with alloc := { s1.alloc with dirty := s1.alloc.dirty.filter (· != f) } }, f)
    | none => none

/-- R191 rule 5 of R195: the enabled cluster with the lowest measured occupancy, then the lowest number. -/
def State.idlestCluster (s : State) : Nat :=
  let cs := (List.range 32).filter (fun c => (s.cluster c).state == 0)
  cs.foldl (fun best c => if (s.cluster c).occupancy < (s.cluster best).occupancy then c else best) (cs.headD 0)

/-- R192: SCRATCH pages of a cluster in use, at most 256, and the pages that are free. -/
def State.pagesUsed (s : State) (c : Nat) : Nat := (s.alloc.pages.filter (fun e => e.1 / 384 == c)).length
def State.pagesFree (s : State) (c : Nat) : Nat := if (s.cluster c).state = 0 then 256 - s.pagesUsed c else 0

/-- Pages reserved and not yet bound. -/
def State.pagesReserved (s : State) : Nat :=
  s.tensors.foldl (fun n e => match e.2 with | some t => n + (if inPages t.desc then t.unbound else 0) | none => n) 0

/-- R192: a write that would exceed a cluster's 256 pages goes to the cluster with the most free SCRATCH pages. -/
def State.pageCluster (s : State) (want : Nat) : Nat :=
  if 0 < s.pagesFree want then want
  else (List.range 32).foldl (fun best c => if s.pagesFree best < s.pagesFree c then c else best) 0

/-- The lowest free page of a cluster's 384. -/
def State.pickPage (s : State) (c : Nat) : Nat :=
  ((List.range 384).find? (fun p => look 0 s.alloc.pages (c * 384 + p) == 0)).getD 0

/-- R191, R192, R467: entry `i` of a tensor's frame map is bound for a write by cluster `c`, where it is not yet. A frame
is all zero when it is bound (R190). -/
def State.bindUnit (s : State) (h c i : Nat) : State :=
  match s.tensor h with
  | none => s
  | some t =>
    let d := t.desc
    let slot := descLoc d + 8 * i
    if descClass d = 3 ∨ s.rdNat slot 8 ≠ 0 then s
    else if inPages d then
      let k := s.pageCluster c
      let p := s.pickPage k
      let a := 0x100000000000 + k * 0x2000000 + p * 0x10000
      let s1 := ({ s with alloc := { s.alloc with pages := put 0 s.alloc.pages (k * 384 + p) h } }).clearRange a 0x10000
      ((s1.wrNat slot 8 a).onTensor h (fun t => { t with unbound := t.unbound - 1 }))
    else
      let p := s.bindPackage (descMirror d == 2) c
      match s.takeFrame (descMirror d == 2) p with
      | none => s
      | some (s0, f) =>
        let s1 := s0.setFrame f (.data h)
        let s2 := if p = c then s1 else s1.bump 0xA04B00 1
        ((s2.wrNat slot 8 (f * 2 ^ 21)).onTensor h (fun t => { t with unbound := t.unbound - 1 }))

/-- The map entries that bytes `off` to `off + n − 1` of a tensor's data fall in, bound for a write by cluster `c`. -/
def State.bindBytes (s : State) (h c off n : Nat) : State :=
  match s.tensor h with
  | none => s
  | some t =>
    let u := mapUnit t.desc
    if n = 0 then s
    else (List.range ((off + n - 1) / u + 1 - off / u)).foldl (fun s i => s.bindUnit h c (off / u + i)) s

/-- All of a tensor's data bound for a write by cluster `c`. -/
def State.bindAll (s : State) (h c : Nat) : State :=
  match s.tensor h with
  | none => s
  | some t => s.bindBytes h c 0 (descBytes t.desc)

/-- R190: a released frame is dirty until it is scrubbed; a released metadata or staging frame too. -/
def State.releaseFrame (s : State) (f : Nat) : State :=
  let s1 := s.setFrame f .free
  { s1 with alloc := { s1.alloc with dirty := s1.alloc.dirty ++ [f] } }

/-- R210, R211: the poison of storage that a whole overwrite of the tensor covered is cleared. -/
def State.freshenTensor (s : State) (d : Line) : State :=
  let u := mapUnit d
  (List.range (ceilDiv (descBytes d) u)).foldl (fun s i =>
    match s.dataAddr d (i * u) with
    | some a => s.freshen a (min u (descBytes d - i * u))
    | none => s) s

end Sys2Proof.Machine
end

