-- ==== Sys2Proof/Machine/Dot.lean ====
section
/-!
DEFINITION. What a cell of an array computes: products, the chunk register, the accumulator (R86, R87, R89, R100, R101), the
FP32 split (R102, R103), the FP64 split (R104 to R106), the merge of parts (R99) and the LNS8 tile (R36, R107). The order of
the chunks of a part and of the merges is the scheduler's, afresh on every run (R92): a permutation the free values draw.
-/

namespace Sys2Proof.Machine

/-! ### Orders the scheduler chooses -/

/-- A permutation of a list of `n` elements that the free values draw. -/
def shuffle {α : Type} (seed : Nat) : Nat → List α → List α
  | 0, xs => xs
  | _, [] => []
  | _, [x] => [x]
  | n + 1, x :: xs =>
    let i := freeAt seed n % (xs.length + 1)
    (x :: xs).getD i x :: shuffle seed n ((x :: xs).eraseIdx i)

/-- A list cut into runs of `n`. -/
def chunksOf {α : Type} (n : Nat) (xs : List α) : List (List α) :=
  (List.range (ceilDiv xs.length n)).map (fun i => (xs.drop (n * i)).take n)

/-- One level of a pairwise tree. -/
def pairUp {α : Type} (f : α → α → α) : List α → List α
  | a :: b :: rest => f a b :: pairUp f rest
  | xs => xs

/-- R99: a pairwise tree of `k` levels over a list; the result is its first element. -/
def pairTree {α : Type} (f : α → α → α) : Nat → List α → List α
  | 0, xs => xs
  | k + 1, xs => pairTree f k (pairUp f xs)

/-! ### Products and the FP32 accumulator (R87, R89) -/

/-- One product of an output element: its operands, and whether a block of either is in the zero state (R87). -/
structure Term where
  a : Elem
  b : Elem
  gated : Bool

/-- Whether both operands are finite: the others are taken out of the chunk register (R89). -/
def Term.plain (t : Term) : Bool := t.a.v.isFinite && t.b.v.isFinite

/-- R87, R89: the product of a term, with flags; in a gated chunk the other operand of a special one is ±0: NaN with INVALID. -/
def Term.prod (t : Term) : Res :=
  let p := Val.mul t.a.v t.b.v
  let fl := p.fl ||| t.a.fl ||| t.b.fl
  if t.gated && !t.plain && (t.a.v.isZero || t.b.v.isZero) then ⟨.nan, fl ||| Flag.invalid ||| Flag.nonFinite⟩ else ⟨p.v, fl⟩

/-- An accumulator of a cell: nothing loaded yet, or an FP32 value; with the flags met. -/
structure Cell where
  v : Option Val := none
  fl : Nat := 0

/-- R86, R87, R89: a value added to the accumulator with one RN rounding; the first one loads it. -/
def Cell.add (a : Cell) (x : Res) : Cell :=
  let r : Res := match a.v with
    | none => ⟨x.v, x.fl ||| x.v.nf⟩
    | some v => let y := Val.add v x.v; ⟨y.v, y.fl ||| x.fl⟩
  let y := round32 r
  ⟨some y.v, a.fl ||| y.fl⟩

/-- R87, R100: one chunk: the exact sum of its products, rounded once as it is added; a gated chunk adds only what sidecar
values bring. Special operands follow under R89. -/
def Cell.chunk (a : Cell) (ts : List Term) : Cell :=
  let sum := (Val.sum ((ts.filter Term.plain).map (fun t => t.prod.v))).v
  let a1 := if !ts.any Term.plain || (ts.any (·.gated) && sum.isZero) then a else a.add ⟨sum, 0⟩
  (ts.filter (fun t => !t.plain)).foldl (fun a t => a.add t.prod) a1

/-- R86, R101: one rounding per product, for 16-bit operands and outlier tiles. -/
def Cell.product (a : Cell) (t : Term) : Cell := a.add t.prod

/-! ### FP32 by three BF16 pieces (R102, R103) -/

/-- R102: the three slices of 8 bits of an FP32 significand, each with the element's sign. -/
def Val.slices : Val → List Val
  | .fin n m e => [.fin n (m / 2 ^ 16) (e + 16), .fin n (m / 2 ^ 8 % 2 ^ 8) (e + 8), .fin n (m % 2 ^ 8) e]
  | x => [x]

/-- R103: the slice products formed in the three passes of one k, summed exactly. -/
def splitProduct (a b : Val) : Val :=
  let x := fun i => a.slices.getD i .zero
  let y := fun i => b.slices.getD i .zero
  let p := fun i j => (Val.mul (x i) (y j)).v
  (Val.sum [p 0 0, p 0 1, p 1 0, p 0 2, p 1 1, p 2 0]).v

/-- R103: one k of an FP32 split; a non-finite operand is not cut. -/
def Cell.split (a : Cell) (t : Term) : Cell :=
  if t.plain then a.add ⟨splitProduct t.a.v t.b.v, 0⟩ else a.add t.prod

/-- An output element of a tile whose accumulators are FP32: its chunks in the order they are fed. -/
def cellOf (stored split16 fp32 : Bool) (chunks : List (List Term)) : Res :=
  let c : Cell :=
    if stored || split16 then chunks.flatten.foldl Cell.product {}
    else if fp32 then chunks.flatten.foldl Cell.split {}
    else chunks.foldl Cell.chunk {}
  ⟨c.v.getD .zero, c.fl⟩

/-! ### FP64 by INT8 pieces (R104 to R106) -/

/-- R104: EA: the exponent of the largest finite magnitude of a row, 0 where all are zero. -/
def alignExp (vs : List Val) : Int :=
  match vs.foldl (fun m v => if v.isFinite && Val.lt m v.abs then v.abs else m) Val.zero with
  | .fin _ m e => if m = 0 then 0 else (Nat.log2 m : Int) + e
  | _ => 0

/-- R104: N = RN(x × 2^(53 − EA)). -/
def alignInt (ea : Int) : Val → Int
  | .fin neg m e =>
    let x := splitShift m (e + 53 - ea)
    let n : Int := (roundStep .rn x.1 x.2.1 x.2.2).1
    if neg then -n else n
  | _ => 0

/-- R104: `k` signed base-128 digits, each from −64 to 63, least significant first. -/
def digits128 : Nat → Int → List Int
  | 0, _ => []
  | k + 1, n => let d := (n + 64) % 128 - 64; d :: digits128 k ((n - d) / 128)

/-- R105: the INT32 sum of pass (p, q) over a chunk: digit p of A by digit q of B. -/
def passSum (ab : List (List Int × List Int)) (p q : Nat) : Int :=
  (ab.map (fun x => x.1.getD p 0 * x.2.getD q 0)).sum

/-- R105: the rebuild register of a chunk after its 64 passes. -/
def rebuild (ab : List (List Int × List Int)) : Int :=
  ((List.range 64).map (fun k => passSum ab (k / 8) (k % 8) * 2 ^ (7 * (k / 8 + k % 8)))).sum

/-- An FP64 addition with RN (R99, R105, R106). -/
def add64 (a b : Res) : Res :=
  let r := Val.add a.v b.v
  let c := convert .fp64 false .rn r.v
  ⟨Fmt.fp64.decode c.code, a.fl ||| b.fl ||| r.fl ||| c.fl⟩

/-- R105: a chunk's register scaled and rounded to binary64. -/
def chunk64 (ea eb : Int) (ab : List (Val × Val)) : Res :=
  let n := rebuild (ab.map (fun x => (digits128 8 (alignInt ea x.1), digits128 8 (alignInt eb x.2))))
  let c := convert .fp64 false .rn (.fin (n < 0) n.natAbs (ea + eb - 106))
  ⟨Fmt.fp64.decode c.code, c.fl⟩

/-- R105, R106: an output element of an FP64 split: chunks in the order they are fed; `special` where its row or column holds
a NaN or an infinity within the command's K. -/
def cell64 (special : Bool) (ea eb : Int) (chunks : List (List (Val × Val))) : Res :=
  if special then ⟨.nan, Flag.nonFinite⟩
  else match chunks.map (chunk64 ea eb) with
    | [] => ⟨.zero, 0⟩
    | x :: xs => xs.foldl add64 x

/-! ### The merge of parts (R99) -/

/-- R99: the parts' results of one element, as codes, merged pairwise in FP32 or binary64 with RN; its flags. -/
def mergeParts (wide : Bool) (codes : List Nat) : Nat × Nat :=
  let f := if wide then Fmt.fp64 else Fmt.fp32
  let add := fun a b => if wide then add64 a b else
    let r := Val.add a.v b.v
    round32 ⟨r.v, a.fl ||| b.fl ||| r.fl⟩
  match pairTree add 5 (codes.map (fun c => (⟨f.decode c, 0⟩ : Res))) with
  | r :: _ => ((convert f false .rn r.v).code, r.fl)
  | [] => (0, 0)

/-! ### LNS8 tiles (R36, R37, R107) -/

/-- R36: a sum of LNS8 products in the fixed order of a test state, as an accumulator. -/
def lnsDot (as bs : List Nat) : Cell :=
  (List.zip as bs).foldl (fun a p => let c := lnsMul p.1 p.2; a.add ⟨Fmt.lns8.decode c.code, c.fl⟩) {}

/-- R107: the 1,024 accumulators of a 32 × 32 LNS8 tile, as FP32 codes row by row. -/
def lnsTile (a b : List (List Nat)) : List Nat :=
  (List.range 32).flatMap (fun i => (List.range 32).map (fun j =>
    (toFp32 ((lnsDot (a.getD i []) (b.getD j [])).v.getD .zero)).code))

/-- R107: accumulators XOR-folded into 64 bits, two to a word, the even one in the low half (DEDUCED, log entry 143). -/
def foldAccs : List Nat → Nat
  | x :: y :: rest => (x + 2 ^ 32 * y) ^^^ foldAccs rest
  | [x] => x
  | [] => 0

end Sys2Proof.Machine
end

