-- ==== Sys2Proof/Machine/Codes.lean ====
section
/-!
DEFINITION. The codes the manual gives whole: CRC-32 of a flit (R251, R295), CRC-64 (R286), and the Reed–Solomon codes over
GF(2^8) of the lines (R208) and flits (R252, R296).
-/

namespace Sys2Proof.Machine

/-! ### Cyclic redundancy checks -/

/-- One bit of a shift register of width `w` with polynomial `poly`, most significant bit first. -/
def crcBit (w poly r : Nat) (b : Bool) : Nat :=
  let top := r.testBit (w - 1) != b
  let sh := r * 2 % 2 ^ w
  if top then sh ^^^ poly else sh

/-- One byte, most significant bit first. -/
def crcByte (w poly r : Nat) (b : Byte) : Nat :=
  [7, 6, 5, 4, 3, 2, 1, 0].foldl (fun r i => crcBit w poly r (b.getLsbD i)) r

/-- R251, R295: CRC-32 with polynomial 0x1EDC6F41, initial value and final XOR 0xFFFFFFFF; no reflection is stated (log
entry 21). -/
def crc32 (bs : List Byte) : Nat := (bs.foldl (crcByte 32 0x1EDC6F41) 0xFFFFFFFF) ^^^ 0xFFFFFFFF

/-- R286: CRC-64, polynomial 0x42F0E1EBA9EA3693, initial value 0, no reflection, no final XOR. -/
def crc64 (bs : List Byte) : Nat := bs.foldl (crcByte 64 0x42F0E1EBA9EA3693) 0

/-! ### GF(2^8) with x^8 + x^4 + x^3 + x^2 + 1 (R208) -/

/-- Multiplication by α. -/
def gfX (a : Nat) : Nat := if a < 128 then 2 * a else (2 * a - 256) ^^^ 0x1D

/-- Multiplication, over the bits of the second factor. -/
def gfMul (a b : Nat) : Nat :=
  ([0, 1, 2, 3, 4, 5, 6, 7].foldl (fun (acc : Nat × Nat) i =>
    (if b.testBit i then acc.1 ^^^ acc.2 else acc.1, gfX acc.2)) (0, a)).1

/-- Powers by repeated multiplication. -/
def gfPow (a : Nat) : Nat → Nat
  | 0 => 1
  | n + 1 => gfMul a (gfPow a n)

/-- The inverse, a^254. -/
def gfInv (a : Nat) : Nat :=
  let a2 := gfMul a a
  let a4 := gfMul a2 a2
  let a8 := gfMul a4 a4
  let a16 := gfMul a8 a8
  let a32 := gfMul a16 a16
  let a64 := gfMul a32 a32
  let a128 := gfMul a64 a64
  gfMul a128 (gfMul a64 (gfMul a32 (gfMul a16 (gfMul a8 (gfMul a4 a2)))))

/-- A codeword's value at `x`, first symbol at the highest power (R208). -/
def gfEval (cw : List Nat) (x : Nat) : Nat := cw.foldl (fun acc c => gfMul acc x ^^^ c) 0

/-- Syndromes at α^0 to α^(n−1). -/
def syndromes (n : Nat) (cw : List Nat) : List Nat := (List.range n).map (fun i => gfEval cw (gfPow 2 i))

/-- The generator with roots α^0 to α^(n−1), highest power first (R208, R252). -/
def rsGen : Nat → List Nat
  | 0 => [1]
  | n + 1 =>
    let g := rsGen n
    let r := gfPow 2 n
    List.zipWith (· ^^^ ·) (g ++ [0]) (0 :: g.map (gfMul r))

/-- R208: the check symbols of a message: m(x) x^n mod g(x). -/
def rsCheck (n : Nat) (msg : List Nat) : List Nat :=
  let g := (rsGen n).tail
  msg.foldl (fun r s =>
    let f := s ^^^ r.headD 0
    List.zipWith (· ^^^ ·) (r.tail ++ [0]) (g.map (gfMul f))) (List.replicate n 0)

/-- Determinant of a matrix of `k` rows by its first row; there are no signs in characteristic 2. -/
def gfDet : Nat → List (List Nat) → Nat
  | 0, _ => 1
  | _, [] => 1
  | k + 1, row :: rest =>
    (List.range (k + 1)).foldl (fun acc j => acc ^^^ gfMul (row.getD j 0) (gfDet k (rest.map (fun r => r.eraseIdx j)))) 0

/-- The solution of a square system, none where it is singular. -/
def gfSolve (k : Nat) (m : List (List Nat)) (rhs : List Nat) : Option (List Nat) :=
  let d := gfDet k m
  if d = 0 then none
  else
    some ((List.range k).map (fun j =>
      gfMul (gfInv d) (gfDet k ((List.zip m rhs).map (fun p => p.1.set j p.2)))))

/-- A correction of `v` symbol errors consistent with every syndrome: positions from the last symbol, and error values. -/
def rsTry (v len : Nat) (syn : List Nat) : Option (List (Nat × Nat)) :=
  let m := (List.range v).map (fun i => (List.range v).map (fun j => syn.getD (i + v - 1 - j) 0))
  match gfSolve v m ((List.range v).map (fun i => syn.getD (i + v) 0)) with
  | none => none
  | some lam =>
    let isRoot := fun p =>
      let x := gfInv (gfPow 2 p)
      ((List.range v).foldl (fun acc i => acc ^^^ gfMul (lam.getD i 0) (gfPow x (i + 1))) 1) == 0
    let pos := (List.range len).filter isRoot
    if pos.length ≠ v then none
    else
      match gfSolve v ((List.range v).map (fun i => pos.map (fun p => gfPow (gfPow 2 p) i))) (syn.take v) with
      | none => none
      | some es =>
        let err := List.zip pos es
        let ok := (List.range syn.length).all (fun i =>
          syn.getD i 0 == err.foldl (fun acc e => acc ^^^ gfMul e.2 (gfPow (gfPow 2 e.1) i)) 0)
        if ok then some err else none

/-- R210, R252, R296: a codeword with `n` check symbols corrected for up to three symbol errors: the indices corrected from
its first symbol, and the codeword; a codeword beyond that is left as it came. -/
def rsCorrect (n : Nat) (cw : List Nat) : List Nat × List Nat :=
  let syn := syndromes n cw
  if syn.all (· == 0) then ([], cw)
  else
    let len := cw.length
    let fix := fun err : List (Nat × Nat) =>
      (err.map (fun e => len - 1 - e.1), err.foldl (fun c e => c.set (len - 1 - e.1) (c.getD (len - 1 - e.1) 0 ^^^ e.2)) cw)
    match rsTry 1 len syn with
    | some err => fix err
    | none =>
      match rsTry 2 len syn with
      | some err => fix err
      | none =>
        match rsTry 3 len syn with
        | some err => fix err
        | none => ([], cw)

/-- The even or odd bytes of a flit. -/
def halfBytes (odd : Nat) (bs : List Byte) : List Nat :=
  ((List.range bs.length).filter (fun i => i % 2 == odd)).map (fun i => (bs.getD i 0).toNat)

/-- R252, R296: a received flit after correction of its two interleaved codewords: the corrected byte positions, and the
bytes. -/
def flitCorrect (flit : List Byte) : List Nat × List Byte :=
  let e := rsCorrect 6 (halfBytes 0 flit)
  let o := rsCorrect 6 (halfBytes 1 flit)
  (e.1.map (2 * ·) ++ o.1.map (2 * · + 1),
   (List.range flit.length).map (fun i => BitVec.ofNat 8 ((if i % 2 = 0 then e.2 else o.2).getD (i / 2) 0)))

/-- R208: the message of a line: virtual symbols of its address tag, then its 64 bytes. -/
def lineMessage (tag : Nat) (data : List Byte) : List Nat :=
  [tag / 2 ^ 32 % 8, tag / 2 ^ 24 % 256, tag / 2 ^ 16 % 256, tag / 2 ^ 8 % 256, tag % 256] ++ data.map (·.toNat)

/-- R208, R211: the eight check symbols a line is stored with; those of a poisoned line are XORed with 0xA5. -/
def lineCheck (tag : Nat) (data : List Byte) (poisoned : Bool) : List Nat :=
  (rsCheck 8 (lineMessage tag data)).map (fun c => if poisoned then c ^^^ 0xA5 else c)

end Sys2Proof.Machine
end

