-- ==== Sys2Proof/Machine/Wire.lean ====
section
/-!
DEFINITION. What goes onto the links: the bytes of a packet (R257) and of a Traek message (R301), flits with their link control,
CRC and correction parity (R251, R252, R295, R296), and the sending side of a link: credits, retry buffer, traffic held for a retrain
(R253 to R255, R296, R298, R300).
-/

namespace Sys2Proof.Machine

/-! ### Bytes of packets and messages (R257, R301) -/

/-- R257: the 24 bytes of a packet header. -/
def packetHead (op dst src : Nat) (flag poison : Bool) (hops epoch seq addr lines tag status : Nat) : List Byte :=
  leBytes 1 op ++ leBytes 1 ((if flag then 1 else 0) + (if poison then 2 else 0) + 4 * (hops % 4)) ++ leBytes 2 dst ++ leBytes 2 src ++
    leBytes 1 epoch ++ leBytes 1 0 ++ leBytes 4 seq ++ leBytes 6 addr ++ leBytes 2 lines ++ leBytes 2 tag ++ leBytes 2 status

/-- R300: the class of a message of the module: M_REQ, SNP, RSP. -/
def traekClass (op : Nat) : Nat := if op < 0x10 then 1 else if op < 0x80 then 2 else 3

/-- R301: the 16 bytes of a Traek message header; the operation of an atomic, the status of a response. -/
def traekHead (op tag addr lines status : Nat) (poison : Bool) : List Byte :=
  leBytes 1 op ++ leBytes 1 (traekClass op + (if poison then 4 else 0)) ++ leBytes 2 tag ++ leBytes 8 addr ++ leBytes 1 lines ++
    leBytes 1 (if op = 0x03 then status else 0) ++ leBytes 2 (if op < 0x80 then 0 else status)

/-- The bytes of a packet or message. -/
def Egress.bytes : Egress → List Byte
  | .packet op dst src flag poison hops epoch seq addr lines tag status data =>
    packetHead op dst src flag poison hops epoch seq addr lines tag status ++ data
  | .traek op tag addr lines status poison data => traekHead op tag addr lines status poison ++ data
  | _ => []

/-- R254: the virtual channel of an opcode. -/
def vcOf (op : Nat) : Nat :=
  if op < 0x10 then 0 else if op < 0x20 then 2 else if op < 0x30 then 3 else if op < 0x40 then 4 else 1

/-- The virtual channel of a packet, or the class of a message. -/
def Egress.cls : Egress → Nat
  | .packet op _ _ _ _ _ _ _ _ _ _ _ _ => vcOf op
  | .traek op _ _ _ _ _ _ => traekClass op
  | _ => 1

/-! ### Flits (R251, R252, R295, R296) -/

/-- R252, R296: the twelve check bytes behind a flit's message bytes: those of its even and odd bytes, interleaved. -/
def flitParity (msg : List Byte) : List Byte :=
  (List.zip (rsCheck 6 (halfBytes 0 msg)) (rsCheck 6 (halfBytes 1 msg))).flatMap (fun x =>
    [BitVec.ofNat 8 x.1, BitVec.ofNat 8 x.2])

/-- R251: the 224 bytes of a flit of a port. -/
def Flit.fabric (f : Flit) : List Byte :=
  let body := (f.payload ++ List.replicate 200 0).take 200 ++ leBytes 2 (f.seq % 4096 + (if f.idle then 4096 else 0)) ++
    leBytes 2 (f.ack % 4096 + (if f.nak then 4096 else 0)) ++ leBytes 3 (f.cls + 8 * f.slots) ++ [0]
  let msg := body ++ leBytes 4 (crc32 body)
  msg ++ flitParity msg

/-- R295: the 276 bytes of a flit of the Traek link. -/
def Flit.traek (f : Flit) : List Byte :=
  let body := (f.payload ++ List.replicate 256 0).take 256 ++
    leBytes 4 (f.seq % 1024 + f.ack % 1024 * 2 ^ 10 + (if f.nak then 2 ^ 20 else 0) + f.cls % 4 * 2 ^ 21 + f.slots % 512 * 2 ^ 23)
  let msg := body ++ leBytes 4 (crc32 body)
  msg ++ flitParity msg

/-- The payloads of the flits that carry some bytes, `n` bytes each, from a flit of their own on (log entry 150). -/
def flitLoads (n : Nat) (bytes : List Byte) : List (List Byte) :=
  (List.range (ceilDiv bytes.length n)).map (fun i => (bytes.drop (n * i)).take n)

/-- R251, R295: the lowest virtual channel or class with slots to return, and how many one flit can name. -/
def creditDue (owed : Tbl Nat) (most : Nat) : Nat × Nat :=
  match owed.find? (fun e => decide (0 < e.2)) with
  | some e => (e.1, min e.2 most)
  | none => (0, 0)

/-! ### The sending side of a port (R253 to R256) -/

/-- R254: the partner's receive buffers, in slots of 8 bytes, as a port that reaches UP finds them. -/
def freshCredits : Tbl Nat := [(0, 4096), (1, 4096), (2, 512), (3, 20480), (4, 256)]

/-- R254: the credit a packet needs: its slots, or the whole buffer where it is larger (log entry 20). -/
def creditNeed (buffers : Tbl Nat) (w : OutWait) : Nat := min w.slots (look 0 buffers w.cls)

/-- R253 to R255: whether a packet may go: credit for all of it, room in the retry buffer, and no retrain. -/
def Port.sends (r : Port) (w : OutWait) : Bool :=
  !r.retraining && decide (creditNeed freshCredits w ≤ look 0 r.credits w.cls) && decide (r.retry.length + ceilDiv w.slots 25 ≤ 2048)

/-- R315: a HEARTBEAT packet. -/
def Egress.isBeat : Egress → Bool
  | .packet op _ _ _ _ _ _ _ _ _ _ _ _ => op == 0x33
  | _ => false

/-- R254, R315: the packet that goes next: a heartbeat ahead of every other, then of some virtual channel the oldest that waits
there. -/
def Port.nextOut (r : Port) : Option OutWait :=
  match (r.waiting.find? (fun w => w.msg.isBeat)).filter r.sends with
  | some w => some w
  | none => [0, 1, 2, 3, 4].findSome? (fun v => (r.waiting.find? (fun w => w.cls == v)).filter r.sends)

/-- R254, R300: the waiting packets with the credit that is left shared out in their order: one it does not cover waits for credit,
since `now` or earlier; the waits for credit that end. -/
def shareCredit (buffers : Tbl Nat) (now : Nat) : Tbl Nat → List OutWait → List OutWait × Nat
  | _, [] => ([], 0)
  | c, w :: ws =>
    let n := creditNeed buffers w
    if n ≤ look 0 c w.cls then
      let r := shareCredit buffers now (change 0 c w.cls (fun k => k - n)) ws
      ({ w with short := none } :: r.1, r.2 + (match w.short with | some a => now - a | none => 0))
    else
      let r := shareCredit buffers now (put 0 c w.cls 0) ws
      ({ w with short := some (w.short.getD now) } :: r.1, r.2)

/-- The link control that a flit of a port carries now, and the port without the credit it returns. -/
def Port.control (r : Port) (f : Flit) : Flit × Port :=
  let d := creditDue r.owed (2 ^ 21 - 1)
  ({ f with ack := r.rxSeq.toNat, cls := d.1, slots := d.2 }, { r with owed := change 0 r.owed d.1 (fun n => n - d.2) })

/-- R251, R253: one flit of a packet goes and stays in the retry buffer until it is acknowledged. -/
def State.flitOut (s : State) (p : Nat) (load : List Byte) : State :=
  let x := (s.port p).control { seq := (s.port p).txSeq.toNat, payload := load }
  (s.onPort p (fun _ => { x.2 with retry := x.2.retry ++ [x.1], txSeq := x.2.txSeq + 1 })).send (.flit p x.1)

/-- R251: an idle flit: acknowledgement and credits, or a NAK; it bears the number of the last flit with a payload. -/
def State.idleOut (s : State) (p : Nat) (nak : Bool) : State :=
  let x := (s.port p).control { seq := ((s.port p).txSeq - 1).toNat, idle := true, nak := nak, payload := [] }
  (s.onPort p (fun _ => x.2)).send (.flit p x.1)

/-- R254: a packet leaves the sender: its credit is taken, its wait for credit counted. -/
def State.packetOut (s : State) (p : Nat) (w : OutWait) : State :=
  let s1 := (match w.short with | some a => s.surge (0x500C01 + p) a | none => s).send w.msg
  let s2 := s1.onPort p (fun r => { r with
    waiting := r.waiting.erase w, credits := change 0 r.credits w.cls (fun c => c - creditNeed freshCredits w) })
  let s3 := (flitLoads 200 w.msg.bytes).foldl (fun s x => s.flitOut p x) s2
  s3.onPort p (fun r => { r with sent := r.sent ++ [(r.txSeq - 1, w.msg)] })

/-- R254: every packet of a port that may go does. -/
def State.drainPort : Nat → State → Nat → State
  | 0, s, _ => s
  | n + 1, s, p => match (s.port p).nextOut with
    | some w => State.drainPort n (s.packetOut p w) p
    | none => s

/-- R254: the waits for credit at a port that begin or end now; every wait is counted. -/
def State.portShort (s : State) (p : Nat) : State :=
  let x := shareCredit freshCredits s.now (s.port p).credits (s.port p).waiting
  (s.onPort p (fun r => { r with waiting := x.1 })).bump (0x500C01 + p) x.2

/-- What waits at a port goes as far as it may. -/
def State.portGoes (s : State) (p : Nat) : State := (State.drainPort (s.port p).waiting.length s p).portShort p

/-- R253 to R255: a packet at the sender of a port: it goes, or waits. -/
def State.egressPort (s : State) (p : Nat) (e : Egress) : State :=
  let w : OutWait := { cls := e.cls, slots := ceilDiv e.bytes.length 8, msg := e }
  (s.onPort p (fun r => { r with waiting := r.waiting ++ [w] })).portGoes p

/-- R253, R255: the unacknowledged flits of a port sent again, in order. -/
def State.resendFlits (s : State) (p : Nat) : State :=
  (s.port p).retry.foldl (fun x f => x.send (.flit p { f with ack := (x.port p).rxSeq.toNat })) s

/-- R254: a packet received at a port has left its receive buffer: its slots are returned, with an idle flit where no other has
taken them. -/
def State.creditBack (s : State) (p op bytes : Nat) : State :=
  let s1 := s.onPort p (fun r => { r with owed := change 0 r.owed (vcOf op) (fun n => n + ceilDiv bytes 8) })
  if (s1.port p).retraining then s1 else s1.idleOut p false

/-! ### The sending side of the Traek link (R296, R298, R300) -/

/-- R300: the partner's receive buffers, in slots of 16 bytes, as a link that trains from DOWN finds them. -/
def traekCredits : Tbl Nat := [(1, 4096), (2, 4096), (3, 4096)]

def Traek.sends (t : Traek) (w : OutWait) : Bool :=
  t.state == 2 && decide (creditNeed traekCredits w ≤ look 0 t.credits w.cls) && decide (t.retry.length + ceilDiv w.slots 16 ≤ 512)

def Traek.nextOut (t : Traek) : Option OutWait :=
  [1, 2, 3].findSome? (fun v => (t.waiting.find? (fun w => w.cls == v)).filter t.sends)

def Traek.control (t : Traek) (f : Flit) : Flit × Traek :=
  let d := creditDue t.owed 511
  ({ f with ack := t.rxSeq.toNat, cls := d.1, slots := d.2 }, { t with owed := change 0 t.owed d.1 (fun n => n - d.2) })

def State.onTraek (s : State) (f : Traek → Traek) : State := { s with traek := f s.traek }

/-- R295, R296: one flit of a message goes. -/
def State.traekFlitOut (s : State) (load : List Byte) : State :=
  let x := s.traek.control { seq := s.traek.txSeq.toNat, payload := load }
  (s.onTraek (fun _ => { x.2 with retry := x.2.retry ++ [x.1], txSeq := x.2.txSeq + 1 })).send (.traekFlit x.1)

/-- R295: an idle flit; it bears the number of the last flit with a payload. -/
def State.traekIdle (s : State) (nak : Bool) : State :=
  let x := s.traek.control { seq := (s.traek.txSeq - 1).toNat, idle := true, nak := nak, payload := [] }
  (s.onTraek (fun _ => x.2)).send (.traekFlit x.1)

/-- R300: a message leaves the sender; its wait for credit is counted. -/
def State.messageOut (s : State) (w : OutWait) : State :=
  let s1 := (match w.short with | some a => s.surge (0x503501 + w.cls) a | none => s).send w.msg
  (flitLoads 256 w.msg.bytes).foldl (fun s x => s.traekFlitOut x) (s1.onTraek (fun t => { t with
    waiting := t.waiting.erase w, credits := change 0 t.credits w.cls (fun c => c - creditNeed traekCredits w) }))

/-- R300: every message that may go does. -/
def State.drainTraek : Nat → State → State
  | 0, s => s
  | n + 1, s => match s.traek.nextOut with
    | some w => State.drainTraek n (s.messageOut w)
    | none => s

/-- R300: the waits for credit of a class that begin or end now. -/
def State.traekShort (s : State) : State :=
  let part := fun (v : Nat) => shareCredit traekCredits s.now s.traek.credits (s.traek.waiting.filter (fun w => w.cls == v))
  let all := shareCredit traekCredits s.now s.traek.credits s.traek.waiting
  [1, 2, 3].foldl (fun x v => x.bump (0x503501 + v) (part v).2) (s.onTraek (fun t => { t with waiting := all.1 }))

/-- What waits at the link goes as far as it may. -/
def State.traekGoes (s : State) : State := (State.drainTraek s.traek.waiting.length s).traekShort

/-- R298, R300: a message at the sender: it goes, or waits. -/
def State.sendTraek (s : State) (op tag addr lines status : Nat) (poison : Bool) (data : List Byte) : State :=
  let e := Egress.traek op tag addr lines status poison data
  let w : OutWait := { cls := e.cls, slots := ceilDiv e.bytes.length 16, msg := e }
  (s.onTraek (fun t => { t with waiting := t.waiting ++ [w] })).traekGoes

/-- R296, R298: the unacknowledged flits sent again, in order. -/
def State.traekResend (s : State) : State :=
  s.traek.retry.foldl (fun x f => x.send (.traekFlit { f with ack := x.traek.rxSeq.toNat })) s

/-- R300: a message of the companion has left its receive buffer: its slots are returned. -/
def State.traekBack (s : State) (op bytes : Nat) : State :=
  let s1 := s.onTraek (fun t => { t with owed := change 0 t.owed (if op < 0x10 then 0 else 3) (fun n => n + ceilDiv bytes 16) })
  if s1.traek.state = 2 then s1.traekIdle false else s1

end Sys2Proof.Machine
end

