-- ==== Sys2Proof/Machine/Net.lean ====
section
/-!
DEFINITION. What the module sends: routes (R261), streams (R264), the edge gateway (R276), Traek messages (R301, R306) and
responses.
-/

namespace Sys2Proof.Machine

/-! ### Statuses (R13) -/

namespace St
def ok : Nat := 0
def capBelowFloor : Nat := 0x2001
def coolantNotReady : Nat := 0x2881
def memoryDerated : Nat := 0x4001
def addressUnmapped : Nat := 0x4081
def dataPoisoned : Nat := 0x4082
def memoryCritical : Nat := 0x4083
def memoryOffline : Nat := 0x4084
def routeChanged : Nat := 0x5001
def pathLost : Nat := 0x5081
def fabricDenied : Nat := 0x5082
def noRoute : Nat := 0x5083
def collectiveMismatch : Nat := 0x5084
def collectiveTimeout : Nat := 0x5085
def crcResendLimit : Nat := 0x5086
def sumCheckFailed : Nat := 0x5087
def fabricBusy : Nat := 0x5088
def snoopTimeout : Nat := 0x5089
def groupInvalid : Nat := 0x508A
def hostLinkDown : Nat := 0x508B
def hostDenied : Nat := 0x508C
def feedOverridden : Nat := 0x6001
def feedShared : Nat := 0x6081
def twinPorts : Nat := 0x6082
def twinNotDomain : Nat := 0x6083
def attestationFailed : Nat := 0x6084
def twinTimeout : Nat := 0x6085
def twinState : Nat := 0x6086
def bathTimeout : Nat := 0x6087
def setInvalid : Nat := 0x6088
def sheetSpace : Nat := 0x6089
def sheetFailed : Nat := 0x608A
def sheetAborted : Nat := 0x608B
def sheetBusy : Nat := 0x608C
def sheetOverdue : Nat := 0x608D
def sheetAbsent : Nat := 0x608E
def sheetDigest : Nat := 0x608F
def negativeUnusable : Nat := 0x6090
def mirrorPlacement : Nat := 0x6091
def mirrorAreaMismatch : Nat := 0x6092
def unitState : Nat := 0x7081
def empty : Nat := 0x8001
def bookRequired : Nat := 0x8081
def bookSelfRead : Nat := 0x8082
def jitOnlyOption : Nat := 0x8083
def channelOnReduction : Nat := 0x8084
def memoryDenied : Nat := 0x9081
def directFallback : Nat := 0xA001
def summaryUnset : Nat := 0xA002
def stepSkipped : Nat := 0xA003
def elementsGuarded : Nat := 0xA004
def misaligned : Nat := 0xA081
def reservedSet : Nat := 0xA082
def formatPair : Nat := 0xA083
def shapeMismatch : Nat := 0xA084
def scaleAxis : Nat := 0xA085
def fieldRange : Nat := 0xA086
def programInvalid : Nat := 0xA087
def inPlaceOnly : Nat := 0xA088
def rowSpan : Nat := 0xA089
def updateProgramInvalid : Nat := 0xA08A
def verdictIncomplete : Nat := 0xA08B
def verdictClosed : Nat := 0xA08C
def stepMismatch : Nat := 0xA08D
def latentLost : Nat := 0xA08E
def wrongClass : Nat := 0xA08F
def handleUnknown : Nat := 0xA090
def handleInUse : Nat := 0xA091
def tableFull : Nat := 0xA092
def noCapacity : Nat := 0xA093
def pinConflict : Nat := 0xA094
def inputSuspect : Nat := 0xA095
def remoteTensor : Nat := 0xA096
def residualOwned : Nat := 0xA097
def waitTimeout : Nat := 0xA098
def nestDepth : Nat := 0xA099
def ringOverrun : Nat := 0xA09A
def indexBackward : Nat := 0xA09B
def queueDisabled : Nat := 0xA09C
def controlLost : Nat := 0xA09D
def transferOverlap : Nat := 0xA09E
def transferTarget : Nat := 0xA09F
def readbackFailed : Nat := 0xA0A0
def transferAborted : Nat := 0xA0A1
def flashActive : Nat := 0x1081
def starting : Nat := 0x1082
def held : Nat := 0xF081
def reservedSetDict : Nat := 0xF082
def noEntry : Nat := 0xF083
def accessDenied : Nat := 0xF084
def length : Nat := 0xF085
def tooManySubscriptions : Nat := 0xF086
def version : Nat := 0xF087
def frameMalformed : Nat := 0xF088
def dictOnly : Nat := 0xF089
def dictBusy : Nat := 0xF08A
end St

/-- R13: bit 7 set, the operation was refused or did not complete. -/
def refusedStatus (st : Nat) : Bool := st.testBit 7

/-- R288: the rank of a status. -/
def statusRank (st : Nat) : Nat :=
  if st = 0 then 0
  else if st = St.sumCheckFailed then 0x40000
  else if st = St.crcResendLimit then 0x30000
  else if refusedStatus st then 0x20000 + st
  else 0x10000 + st

/-- The status that ranks higher. -/
def worse (a b : Nat) : Nat := if statusRank a < statusRank b then b else a

/-! ### Nodes and routes (R9, R259 to R261, R306) -/

def State.localNode (s : State) (n : Nat) : Bool := n == 0xFFFF || n == s.node
def State.companion (s : State) : Nat := s.dv 0x503100
def State.isCompanion (s : State) (n : Nat) : Bool := n != 0xFFFF && n == s.companion

/-- R261: the first valid route entry whose range holds a node. -/
def State.route (s : State) (n : Nat) : Option Nat :=
  ((List.range 64).map (fun k => s.dv (0x500401 + k))).find? (fun e =>
    decide (1 ≤ natFld e 4 1) && decide (natFld e 4 1 ≤ 3) && decide (natFld e 0 2 ≤ n) && decide (n ≤ natFld e 2 2))

def State.portUp (s : State) (p : Nat) : Bool := (s.port p).state == 2

/-- R261: the port of the stream from a source node: the (h mod k)-th UP port of the mask. While this module's node ID is not
assigned its ports carry idle flits only (R256): there is none (log entry 151). Node 0xFFFF never appears in a packet (R259). -/
def State.routeFrom (s : State) (src n : Nat) : Option Nat :=
  match (if s.node = 0xFFFF ∨ src = 0xFFFF ∨ n = 0xFFFF then none else s.route n) with
  | none => none
  | some e =>
    let ups := (setBits 8 (natFld e 5 1)).filter s.portUp
    let h := (src * 40503 + n) % 65536
    if ups.isEmpty then none else some (ups.getD (h % ups.length) 0)

/-- R261: the port of this module's stream to a node. -/
def State.routePort (s : State) (n : Nat) : Option Nat := s.routeFrom s.node n

/-- The key of the stream to a node in `State.streamsOut`: this module's own, or its companion's (R304). -/
def streamKey (relayed : Bool) (n : Nat) : Nat := if relayed then 65536 + n else n

/-- The source node of a stream's packets. -/
def State.streamSrc (s : State) (key : Nat) : Nat := if key < 65536 then s.node else s.companion

/-- R276: whether a node is beyond one switch stage. -/
def State.viaGateway (s : State) (n : Nat) : Bool :=
  match s.route n with
  | some e => natFld e 4 1 == 3
  | none => false

/-- A packet sent toward a node by its route (R261), with a source node. -/
def State.sendFrom (s : State) (src op dst : Nat) (flag poison : Bool) (hops epoch seq addr lines tag status : Nat)
    (data : List Byte) : State :=
  match s.routeFrom src dst with
  | none => s
  | some p =>
    s.egressPort p (.packet op dst src flag poison hops epoch seq addr lines tag status data)

/-- A packet of the module's own. -/
def State.sendPacket (s : State) (op dst : Nat) (flag poison : Bool) (seq addr lines tag status : Nat) (data : List Byte) :
    State :=
  s.sendFrom s.node op dst flag poison 0 (s.streamOut dst).epoch.toNat seq addr lines tag status data

/-! ### The Traek link -/

/-- R297, R298: whether the link takes messages; during a retrain they are held at the sender. -/
def State.traekUp (s : State) : Bool := decide (2 ≤ s.traek.state)

/-- R306: whether an outbound rule grants an access (bit 0 read, 1 store, 2 atomic) to companion memory. -/
def State.outboundGrants (s : State) (addr len bit : Nat) : Bool :=
  (List.range 8).any (fun k =>
    let r := s.dv (0x903101 + k)
    (natFld r 16 1).testBit 7 && (natFld r 16 1).testBit bit &&
      decide (natFld r 0 8 ≤ addr) && decide (addr + len ≤ natFld r 8 8))

/-- R306: the status of an access to companion memory before it is sent. -/
def State.hostAccess (s : State) (addr len bit : Nat) : Nat :=
  if !s.outboundGrants addr len bit then St.hostDenied
  else if !s.traekUp then St.hostLinkDown
  else St.ok

/-! ### Requests of the module's own (R258, R264, R302) -/

/-- What one request of the module carries. -/
structure Ask where
  op : Nat
  flag : Bool := false
  poison : Bool := false
  addr : Nat
  lines : Nat
  aop : Nat := 0
  data : List Byte := []
  owner : Option (Nat × Nat) := none
  why : ReqUse := .other
  /-- issuers and uses of further stores gathered into it (R276) -/
  also : List (Option (Nat × Nat) × ReqUse) := []
  /-- the address of a load that became a GET of its 4 KiB (R277) -/
  load : Option Nat := none
  /-- a companion's request, relayed with the companion's node ID as source (R304) -/
  relayed : Bool := false

/-- The address the request is about, and whether it shares a GET. -/
def Ask.at' (a : Ask) : Nat := a.load.getD a.addr
def Ask.page (a : Ask) : Bool := a.load.isSome

/-- The right a request needs at the companion (R306): 0 read, 1 store, 2 atomic. -/
def Ask.right (a : Ask) : Nat := if a.op = 0x02 then 1 else if a.op = 0x03 ∨ a.op = 0x04 then 2 else 0

/-- Stores and adds are acknowledged by the stream (R266); everything else is answered by tag. -/
def Ask.posted (a : Ask) : Bool := a.op == 0x02 || a.op == 0x04 || a.op == 0x0A || a.op == 0x0B

/-- R258, R302: a store of part of one line goes as that line behind its byte mask. -/
def Ask.line (a : Ask) : Ask :=
  let off := a.addr % 64
  if a.op = 0x02 ∧ a.lines = 1 ∧ a.data.length < 64 ∧ off + a.data.length ≤ 64 then
    { a with
      addr := a.addr - off
      data := leBytes 8 ((2 ^ a.data.length - 1) * 2 ^ off) ++ List.replicate off 0 ++ a.data ++
        List.replicate (64 - off - a.data.length) 0 }
  else a

/-- The requests a packet stands for: issuer and use of each. -/
def OutPkt.uses (p : OutPkt) : List (Option (Nat × Nat) × ReqUse) := (p.owner, p.why) :: p.also

/-- Whether a packet stands for a request of an issuer. -/
def OutPkt.ofOwner (p : OutPkt) (f : Option (Nat × Nat) → Bool) : Bool := p.uses.any (fun u => f u.1)

/-- Whether a packet is acknowledged by the stream, not answered by tag. -/
def OutPkt.posted (p : OutPkt) : Bool :=
  match p.msg with
  | .packet op _ _ _ _ _ _ _ _ _ _ _ _ => op == 0x02 || op == 0x04 || op == 0x0A || op == 0x0B
  | _ => false

/-- R265, R277: a store or atomic passes a shared GET of the stream: a load after it shares that no more. -/
def Req.shutBy (r : Req) (dst addr lines : Nat) : Req :=
  if r.page && r.node == dst && decide (addr / 4096 ≤ r.addr / 4096 + 1) && decide (r.addr / 4096 ≤ (addr + 64 * max 1 lines - 1) / 4096)
  then { r with shut := true } else r

/-- R264: a request packet passes the egress point of its stream: it is numbered, kept until acknowledged and sent, or held
while the stream is between re-route and probe (R268). -/
def State.pushStream (s : State) (dst : Nat) (a : Ask) : State :=
  let key := streamKey a.relayed dst
  let st := s.streamOut key
  let tag := s.nextTag
  let msg := Egress.packet a.op dst (s.streamSrc key) a.flag a.poison 0 st.epoch.toNat st.next a.addr a.lines tag a.aop a.data
  let pkt : OutPkt := {
    seq := st.next, owner := a.owner, lo := a.addr, hi := a.addr + 64 * a.lines - 1, msg := msg, tag := tag, why := a.why,
    also := a.also }
  let req : Req := { tag := tag, node := dst, owner := a.owner, why := a.why, addr := a.at', page := a.page }
  let open' := if a.posted ∨ a.op = 0x03 then s.reqs.map (fun r => r.shutBy dst a.addr a.lines) else s.reqs
  let s1 := { s with nextTag := (tag + 1) % 65536, reqs := if a.posted then open' else open' ++ [req] }
  let s2 := s1.onStreamOut key (fun r => { r with
    next := (r.next + 1) % 2 ^ 32,
    unacked := if r.probing then r.unacked else r.unacked ++ [pkt],
    held := if r.probing then r.held ++ [pkt] else r.held })
  if st.probing then s2
  else match s.routeFrom (s.streamSrc key) dst with
    | some p => s2.egressPort p msg
    | none => s2

/-- R276: the request a gathered store stands for. -/
def GwPart.ask (q : GwPart) : Ask :=
  { op := q.op, flag := q.flag, poison := q.poison, addr := q.addr, lines := q.lines, aop := q.aop, data := q.data, owner := q.owner,
    why := q.why, relayed := q.relayed }

/-- The part of a gateway buffer that a request is. -/
def Ask.part (a : Ask) : GwPart :=
  { op := a.op, flag := a.flag, addr := a.addr, lines := a.lines, aop := a.aop, poison := a.poison, data := a.data, owner := a.owner,
    why := a.why, relayed := a.relayed }

/-- Whether a request is gathered: a store or add that is not flagged (R276). -/
def Ask.gathers (a : Ask) : Bool := a.posted && !a.flag

/-- R276: whether a store or add of whole lines follows another in one packet of at most 64 KiB. -/
def Ask.takes (a b : Ask) : Bool :=
  a.op == b.op && a.aop == b.aop && a.poison == b.poison && a.relayed == b.relayed && a.data.length == 64 * a.lines &&
    b.data.length == 64 * b.lines && b.addr == a.addr + a.data.length && decide (a.data.length + b.data.length ≤ 65536)

/-- R276: gathered stores and adds in issue order, those that follow one another at rising addresses in one packet. -/
def gathered : List Ask → List Ask
  | [] => []
  | a :: as => match gathered as with
    | b :: bs =>
      if a.takes b then
        { a with lines := a.lines + b.lines, data := a.data ++ b.data, also := a.also ++ (b.owner, b.why) :: b.also } :: bs
      else a :: b :: bs
    | [] => [a]

/-- R276: every segment of a destination in the gateway of its port is shipped, in issue order. -/
def State.shipGateway (s : State) (p dst : Nat) : State :=
  let segs := (s.port p).gateway.filter (fun g => g.node == dst)
  let s1 := s.onPort p (fun r => { r with gateway := r.gateway.filter (fun g => g.node != dst) })
  segs.foldl (fun s g => (gathered (g.parts.map GwPart.ask)).foldl (fun s a => s.pushStream dst a) s) s1

/-- Bytes in a port's gateway buffer, 1 MiB at most (R276). -/
def Port.gatewayBytes (p : Port) : Nat := p.gateway.foldl (fun n g => n + g.bytes) 0

/-- R276: a store or add that the buffer has room for is gathered with the segment of its node; a segment of 64 KiB is shipped. -/
def State.placeGateway (s : State) (p dst source : Nat) (q : GwPart) : State :=
  let own : Segment := { node := dst, source := source, parts := [q], bytes := q.data.length, since := s.now }
  match (s.port p).gateway.find? (fun g => g.node == dst) with
  | none => s.onPort p (fun r => { r with gateway := r.gateway ++ [own] })
  | some g =>
    if 65536 < g.bytes + q.data.length then (s.shipGateway p dst).onPort p (fun r => { r with gateway := r.gateway ++ [own] })
    else
      let s1 := s.onPort p (fun r => { r with gateway := r.gateway.map (fun g =>
        if g.node == dst then { g with parts := g.parts ++ [q], bytes := g.bytes + q.data.length } else g) })
      if g.bytes + q.data.length = 65536 then s1.shipGateway p dst else s1

/-- R277: the GET that a load beyond the domain becomes: of the aligned 4 KiB that holds it, of two where it crosses a boundary, or of
its own span where that is larger. -/
def Ask.getOf (a : Ask) : Ask :=
  let pages := (a.addr % 4096 + (if a.lines = 0 then 8 else 64 * a.lines) + 4095) / 4096
  if 64 < a.lines then { a with op := 0x05 }
  else { a with op := 0x05, load := some a.addr, addr := a.addr / 4096 * 4096, lines := 64 * pages }

/-- R277: a shared GET that a load may wait on. -/
def State.sharedGet (s : State) (dst : Nat) (a : Ask) : Option Req :=
  if a.getOf.lines = 64 ∧ a.lines < 65 then
    s.reqs.find? (fun r => r.page && !r.shut && r.node == dst && r.addr / 4096 == a.addr / 4096)
  else none

/-- R276, R277: a flagged packet, LOAD, GET or atomic beyond the domain follows the segment of its stream; loads share their GET. -/
def State.askBeyond (s : State) (p dst : Nat) (a : Ask) : State :=
  let s1 := s.shipGateway p dst
  if a.op = 0x01 then
    match s1.sharedGet dst a with
    | some r => { s1 with reqs := s1.reqs ++
        [{ tag := r.tag, node := dst, owner := a.owner, why := a.why, addr := a.addr, page := true }] }
    | none => s1.pushStream dst a.getOf
  else s1.pushStream dst a

/-- R264, R276: a request to a gateway-class destination: a store or add is gathered, or waits for room; anything else follows the
segment of its stream, but waits behind stores of its unit that wait. -/
def State.gatherGateway (s : State) (p dst source : Nat) (a : Ask) : State :=
  let r := s.port p
  let size := if a.gathers then a.data.length else 0
  if (if a.gathers then 0x100000 < r.gatewayBytes + size ∨ !r.gatewayWait.isEmpty
      else r.gatewayWait.any (fun g => g.node == dst && g.source == source)) then
    s.onPort p (fun r => { r with gatewayWait := r.gatewayWait ++
      [{ node := dst, source := source, parts := [a.part], bytes := size, since := s.now }] })
  else if a.gathers then s.placeGateway p dst source a.part
  else s.askBeyond p dst a

/-- R301, R302, R306: a message of the module to its companion. -/
def State.askHost (s : State) (dst : Nat) (a : Ask) : State × Nat :=
  let st := s.hostAccess a.addr (if a.lines = 0 then 8 else 64 * a.lines) a.right
  if st ≠ 0 then (s, st)
  else
    let tag := s.nextTag
    let req : Req := { tag := tag, node := dst, owner := a.owner, why := a.why, addr := a.addr }
    let s1 := { s with nextTag := (tag + 1) % 65536, reqs := s.reqs ++ [req] }
    (s1.sendTraek a.op tag (dst * 2 ^ 48 + a.addr) a.lines a.aop a.poison a.data, 0)

/-- R264, R276: a request goes to its stream, or to the gateway of its destination. -/
def State.sendOn (s : State) (dst source : Nat) (a : Ask) : State :=
  match s.routeFrom (s.streamSrc (streamKey a.relayed dst)) dst with
  | some p => if s.viaGateway dst then s.gatherGateway p dst source a else s.pushStream dst a
  | none => s.pushStream dst a

/-- R325 stage 6: a request of the module waits for the release of the hold. -/
def State.keepBack (s : State) (dst source : Nat) (a : Ask) : State :=
  { s with step := { s.step with unsent := s.step.unsent ++
      [{ node := dst, source := source, parts := [a.part], bytes := a.data.length, since := s.now }] } }

/-- R325: the hold is lifted: what waited for it goes out in order. -/
def State.liftHold (s : State) : State :=
  s.step.unsent.foldl (fun s g => g.parts.foldl (fun s q => s.sendOn g.node g.source q.ask) s)
    { s with step := { s.step with hold := none, quiet := false, unsent := [] } }

/-- A request of the module to another node (R257, R301): the state after it was issued and the status that stops it, 0 when
it went out. Under a hold past stage 6 only what a companion sends goes to the fabric (R325). -/
def State.ask (s : State) (dst source : Nat) (a : Ask) : State × Nat :=
  if s.isCompanion dst then s.askHost dst a.line
  else
    match s.routeFrom (s.streamSrc (streamKey a.relayed dst)) dst with
    | none => (s, St.noRoute)
    | some _ => (if s.step.quiet && !a.relayed then s.keepBack dst source a.line else s.sendOn dst source a.line, 0)

/-! ### Responses (R258, R266, R302) -/

/-- The key of the stream a packet came on: its source and destination nodes (R264), or 65,536 for the companion's H_REQ messages
(R303). -/
def inKey (p : Packet) : Nat := match p.via with | .fabric _ => p.src.toNat + 131072 * p.dst.toNat | .traek => 65536

/-- The packet a relayed request answers. -/
def ReqUse.relayed : ReqUse → Option Packet
  | .relay _ p _ => some p
  | _ => none

/-- Packets that wait for a line, a channel, an adder, a buffer or another node. -/
def State.waitingPackets (s : State) : List Packet :=
  s.lineWait.map (·.pkt) ++
  s.channels.flatMap (fun c => c.2.ingress.map (·.pkt) ++ c.2.adderWait.filterMap (·.reply) ++ c.2.wcWait.filterMap (·.reply)) ++
  s.reqs.filterMap (fun r => r.why.relayed) ++
  s.streamsOut.flatMap (fun e => (e.2.unacked ++ e.2.held).flatMap (fun o => o.uses.filterMap (fun u => u.2.relayed))) ++
  s.ports.flatMap (fun e => (e.2.gateway ++ e.2.gatewayWait).flatMap (fun g => g.parts.filterMap (fun q => q.why.relayed)))

/-- Packets of a stream whose operation has not yet reached its ordering point (R265, R303). -/
def State.unapplied (s : State) (key : Nat) : List Packet := s.waitingPackets.filter (fun p => inKey p == key)

/-- R266: the cumulative acknowledgement of the stream from a node: the last sequence before which everything has reached its
ordering point. -/
def State.ackSeq (s : State) (key : Nat) : Nat :=
  let next := (s.streamIn key).next
  let back := (s.unapplied key).foldl (fun n p => max n ((next + 2 ^ 32 - p.seq.toNat) % 2 ^ 32)) 0
  (next + 2 ^ 33 - 1 - back) % 2 ^ 32

/-- R261: an answer to a packet goes by the route of the node it came from, from the node it was sent to; with no route it cannot
go (log entry 136). -/
def State.sendBack (s : State) (p : Packet) (op seq addr lines status : Nat) (poison : Bool) (data : List Byte) : State :=
  s.sendFrom p.dst.toNat op p.src.toNat false poison 0 (s.streamOut p.src.toNat).epoch.toNat seq addr lines p.tag.toNat status data

/-- A response to a request: over the Traek link, or back over the fabric. -/
def State.respond (s : State) (p : Packet) (op status : Nat) (data : List Byte) (poison : Bool := false) : State :=
  match p.via with
  | .traek => if s.traekUp then s.sendTraek op p.tag.toNat p.addr.toNat (data.length / 64) status poison data else s
  | .fabric _ =>
    s.sendBack p op (if op = 0x82 then s.ackSeq (inKey p) else p.seq.toNat) p.addr.toNat (data.length / 64) status poison data

/-- ACK, NAK and DATA. -/
def State.ackTo (s : State) (p : Packet) : State := s.respond p 0x82 0 []
def State.nakTo (s : State) (p : Packet) (status : Nat) : State := s.respond p 0x83 status []
def State.dataTo (s : State) (p : Packet) (data : List Byte) (poison : Bool := false) : State :=
  s.respond p 0x81 0 data poison

/-- The node a request comes from (R304: the companion's over the Traek link). -/
def State.requester (s : State) (p : Packet) : Nat :=
  match p.via with
  | .traek => s.companion
  | .fabric _ => p.src.toNat

end Sys2Proof.Machine
end

