-- ==== Sys2Proof/Machine/Lines.lean ====
section
/-!
DEFINITION. Lines of LPDDR: check symbols and their decoding (R207 to R210), poison (R211), packages out of service (R228, R229),
adder entries (R221, R222), and the write-combining buffer's entries (R223).
-/

namespace Sys2Proof.Machine

/-- The near-home address of the line that holds a near-home byte. -/
def lineOf (near : Nat) : Nat := near / 64 * 64

/-- The region of a package's controller (R204). -/
def ctrlRegion (p : Nat) : Nat := 32 + p / 4

/-- A channel that is used leaves power-down (R205). -/
def State.wakeChannel (s : State) (ch : Nat) : State :=
  s.onChannel ch (fun c => { c with lastUse := s.now, powerDown := false })

/-- R205: the channel of a line that an agent of this module reads or writes is in use. -/
def State.useLine (s : State) (a : Nat) : State :=
  match place a with
  | .lpddr near => s.wakeChannel (chanOf near)
  | _ => s

/-! ### Suspect tensors (R175) -/

/-- R175: the suspect mark of a tensor. -/
def State.markSuspect (s : State) (h : Nat) : State := s.onTensor h (fun t => { t with desc := descSetBit t.desc 3 0 true })

/-- R175: a tensor marked suspect when its loss was found, with a TENSOR_LOST record (R200, R229). -/
def State.loseTensor (s : State) (h unit region : Nat) : State := (s.markSuspect h).recordOf 0xA009 unit region h

/-! ### Packages out of service (R228, R229) -/

/-- R229: the tensors with a frame in a package. -/
def State.tensorsIn (s : State) (p : Nat) : List Nat :=
  ((s.alloc.frames.filterMap (fun e => match e.2 with
    | .data h => if e.1 / pkgFrames = p then some h else none
    | _ => none)) ++ (s.alloc.runs.filterMap (fun r => if pkgOf r.base = p then some r.handle else none))).eraseDups

/-- R227: the waits of requests held at a critical package's ingress are counted. -/
def State.countCritical (s : State) (p : Nat) : State :=
  [0, 1, 2, 3].foldl (fun s i =>
    let c := s.channel (4 * p + i)
    let late := fun (since key : Nat) => if key = 0x400D00 then s.now - since else 0
    let total := c.ingress.foldl (fun n r => n + (s.now - r.since)) 0 + c.adderWait.foldl (fun n r => n + late r.since r.key) 0 +
      c.wcWait.foldl (fun n r => n + late r.since r.key) 0
    (s.bump 0x400D00 total).onChannel (4 * p + i) (fun c => { c with
      ingress := c.ingress.map (fun r => { r with since := s.now }),
      adderWait := c.adderWait.map (fun r => if r.key = 0x400D00 then { r with since := s.now } else r),
      wcWait := c.wcWait.map (fun r => if r.key = 0x400D00 then { r with since := s.now } else r) })) s

/-- Requests that wait at a package's channels are answered with a status. -/
def State.failWaiting (s : State) (p st : Nat) : State :=
  [4 * p, 4 * p + 1, 4 * p + 2, 4 * p + 3].foldl (fun s c =>
    let k := s.channel c
    let s1 := s.setChannel c { k with ingress := [], adderWait := [], wcWait := [] }
    let s2 := k.ingress.foldl (fun s r => s.nakTo r.pkt st) s1
    let s3 := (k.adderWait.filterMap (·.reply)).foldl (fun s r => s.nakTo r st) s2
    (k.wcWait.filterMap (·.reply)).foldl (fun s r => s.nakTo r st) s3) s

/-- R229, R416: a package leaves service: `cause` 1 training, 2 region dark, 3 limit, 4 command. -/
def State.takeOffline (s : State) (p ch cause : Nat) : State :=
  if s.offline p then s
  else
    let named := if cause = 2 ∨ cause = 4 then 4 * p else ch
    let s1 := s.onPackage p (fun k => { k with offline := true })
    let s2 := s1.recordOf 0x4005 8 (ctrlRegion p) (named + cause * 2 ^ 8 + p * 2 ^ 16)
    let s3 := s2.setDv 0x400C00 (s2.dv 0x400C00 - (if (s.package p).critical then 0 else 1))
    ((s3.tensorsIn p).foldl (fun s h => s.loseTensor h 8 (ctrlRegion p)) s3).failWaiting p St.memoryOffline

/-! ### Uncorrectable and corrected reads (R210, R228) -/

/-- R228: one more line whose read was uncorrectable: the list keeps the latest of the limit and one more. -/
def State.noteLineUE (s : State) (near : Nat) : State :=
  let ch := chanOf near
  let line := lineOf near
  let limit := s.dv 0x400F00
  let k := s.channel ch
  if k.ueLines.any (fun x => x.1 == line) then s
  else
    let xs := k.ueLines ++ [(line, s.now)]
    let kept := xs.drop (xs.length - (limit + 1))
    let s1 := s.setChannel ch { k with ueLines := kept }
    let hour := (kept.filter (fun x => s.now < x.2 + 3600000000000)).length
    if limit ≠ 0 ∧ limit < hour then s1.takeOffline (pkgOf near) ch 3 else s1

/-- R210, R416: an uncorrectable read of a line: counted, recorded (with the source of a partial store, R223), marked. -/
def State.lineUE (s : State) (near cls : Nat) (source : Nat := 0) : State :=
  let m := if cls = 0x4003 then LineMark.badAddress else .bad
  (((s.setMark (markKey (lineOf near)) m).bump 0x400400 1).recordOf cls 8 (ctrlRegion (pkgOf near))
    (chanOf near + lineOf near * 2 ^ 64 + source * 2 ^ 128)).noteLineUE near

/-- R210: a corrected read: counted and recorded. -/
def State.noteCE (s : State) (near n : Nat) : State :=
  let ch := chanOf near
  let s1 := s.bump (0x400301 + ch) 1
  s1.recordCE (s1.mkRec 0x4001 8 (ctrlRegion (pkgOf near)) (ch + n * 2 ^ 8 + lineOf near * 2 ^ 64)) ch

/-- R210: the corrected line is written back through the read-modify-write path. -/
def State.lineCE (s : State) (near n : Nat) : State := (s.bump 0x400B00 1).noteCE near n

/-! ### The code of a line (R207, R208, R210, R211) -/

/-- R208: the address tag of a line: 2^30 per package and bits 35:6 of the package-local address. -/
def lineTag (near : Nat) : Nat := near / 64

/-- R207, R208, R211: a line as it is stored, behind its virtual symbols: 64 data bytes and the check symbols c0 to c7, those of a
poisoned line XORed with 0xA5. -/
def State.storedLine (s : State) (near : Nat) : List Nat :=
  let data := s.rdBytes (lineOf near) 64
  lineMessage (lineTag near) data ++ lineCheck (lineTag near) data (s.mark (markKey (lineOf near)) == .poisoned)

/-- R211: the poison syndrome: that of 0xA5 in each check symbol. -/
def poisonSyndrome : List Nat := syndromes 8 (List.replicate 69 0 ++ List.replicate 8 0xA5)

/-- The symbols of a line with the errors of one read. -/
def withErrors (r : LineRead) (cw : List Nat) : List Nat :=
  r.errors.foldl (fun c e => c.set e.1 (c.getD e.1 0 ^^^ e.2.toNat)) cw

/-- R210: what the decoder finds. -/
inductive LineOutcome where
  | clean
  /-- stored symbols corrected, and the line's data -/
  | corrected (n : Nat) (data : List Byte)
  | poison
  | address
  | failed
deriving DecidableEq, Repr

/-- R210: the outcome of decoding the symbols of one read: the syndrome is compared with the poison syndrome first; then up to
three errors are located and corrected; an error located in a virtual symbol is an address mismatch. -/
def decodeSymbols (cw : List Nat) : LineOutcome :=
  let syn := syndromes 8 cw
  if syn == poisonSyndrome then .poison
  else if syn.all (· == 0) then .clean
  else
    let r := rsCorrect 8 cw
    if r.1.isEmpty then .failed
    else if r.1.any (· < 5) then .address
    else .corrected r.1.length (((r.2.drop 5).take 64).map (BitVec.ofNat 8))

/-- R210: the outcome of one read of a line. A line that no longer decodes stays so until it is written (log entry 137). -/
def State.lineOutcome (s : State) (near : Nat) (r : LineRead) : LineOutcome :=
  match s.mark (markKey (lineOf near)) with
  | .bad => .failed
  | .badAddress => .address
  | _ => decodeSymbols (withErrors r (s.storedLine near))

/-- R210: what one read of a line shows is taken: the corrected line is written back, an uncorrectable one counted and recorded;
the poison syndrome writes no record. -/
def State.decodeLine (s : State) (near : Nat) (r : LineRead) : State :=
  match s.lineOutcome near r with
  | .clean => s.setMark (markKey (lineOf near)) .good
  | .poison => s.setMark (markKey (lineOf near)) .poisoned
  | .failed => s.lineUE near 0x4002
  | .address => s.lineUE near 0x4003
  | .corrected n data => ((s.wrBytes (lineOf near) data).setMark (markKey (lineOf near)) .good).lineCE near n

/-- R210, R220: what a read by an adder, or by an engine of a line, shows: a line that does not decode is left so, to be counted
with the operation that meets it. -/
def State.senseLine (s : State) (near : Nat) (r : LineRead) : State :=
  if r.errors.isEmpty then s
  else match s.lineOutcome near r with
    | .failed => s.setMark (markKey (lineOf near)) .bad
    | .address => s.setMark (markKey (lineOf near)) .badAddress
    | _ => s.decodeLine near r

/-- R210: a read by an engine or an adder of a line that does not decode is counted and recorded. -/
def State.readBad (s : State) (near : Nat) : State :=
  match s.mark (markKey (lineOf near)) with
  | .bad => s.lineUE near 0x4002
  | .badAddress => s.lineUE near 0x4003
  | _ => s

/-- R211: the line that holds a local address is written as poisoned, unless it is so already; a read that was uncorrectable is
recorded first (R210, R220). -/
def State.poisonRead (s : State) (a : Nat) : State :=
  match place a with
  | .lpddr near => if s.mark (markKey (lineOf near)) == .poisoned then s else (s.readBad near).poisonLine (lineOf near)
  | _ => s.poisonLine (a / 64 * 64)

/-! ### Scratchpad words (R421) -/

/-- R421: the column of a bit of a stored word: each of the 8 check bits has one of weight 1 (log entry 159). -/
def wordColumn (k : Nat) : Nat := if k < 64 then Config.secdedColumn k % 256 else 2 ^ (k - 64)

/-- R421: the bits in error of one read of a word. -/
def errorBits (bits : BitVec 72) : List Nat := (List.range 72).filter (fun k => bits.getLsbD k)

/-- R421: a word read with errors: a single one is corrected and written back with a SCRATCHPAD_CE record; the poison syndrome reads
as poison; another that no column has is recorded and stored as poison. Three or more bits may pass as none or as one. -/
def State.readWord (s : State) (x : WordRead) : State :=
  let a := x.word.toNat / 8 * 8
  match place a with
  | .scratch _ =>
    if s.mark (markKey a) == .poisoned then s
    else
      let es := errorBits x.bits
      let word := a % 0x2000000 / 8
      let (cluster, bank) := ((a - 0x100000000000) / 0x2000000, word % 32)
      let syn := es.foldl (fun n k => n ^^^ wordColumn k) 0
      let found := fun (s : State) (cls : Nat) => s.mkRec cls 7 cluster (bank + word / 32 * 2 ^ 32)
      let flip := fun (s : State) (ks : List Nat) =>
        s.wrBytes a (leBytes 8 (ks.foldl (fun n k => if k < 64 then n ^^^ 2 ^ k else n) (leNat (s.rdBytes a 8))))
      match es with
      | [] => s
      | [_] => s.recordCE (found s 0xA005) (cluster * 32 + bank)
      | _ =>
        if syn = 0 then flip s es
        else if syn = 0xFF then s.setMark (markKey a) .poisoned
        else match (List.range 72).find? (fun k => wordColumn k == syn) with
          | some k => (flip s (es ++ [k])).recordCE (found s 0xA005) (cluster * 32 + bank)
          | none => (s.setMark (markKey a) .poisoned).record (found s 0xA006)
  | _ => s

/-- R421: the words in error that a command reads. -/
def State.readWords (s : State) (ws : List WordRead) : State := ws.foldl State.readWord s

/-- R210, R421: the words and lines in error that a command reads. -/
def State.readErrors (s : State) (c : CmdRead) : State :=
  c.lines.foldl (fun s x => match place x.1.toNat with
    | .lpddr near => s.senseLine near x.2
    | _ => s) (s.readWords c.words)

/-! ### Adder entries (R221, R222) -/

/-- R221: the entry of a line is used again or allocated; with all 256 in use the one idle longest is written back first (R222). -/
def Channel.useEntry (c : Channel) (line now : Nat) : Channel :=
  if c.entries.any (fun e => e.line == line) then
    { c with entries := c.entries.map (fun e => if e.line == line then { e with last := now } else e) }
  else
    let oldest := c.entries.foldl (fun (b : Option AdderEntry) e => match b with
      | none => some e
      | some x => if e.last < x.last then some e else some x) none
    let room := if c.entries.length < 256 then c.entries else match oldest with | some e => c.entries.erase e | none => []
    { c with entries := room ++ [{ line := line, last := now }] }

/-- R222: whether an operation on a line finds an entry. -/
def Channel.hasEntry (c : Channel) (line : Nat) : Bool :=
  c.entries.any (fun e => e.line == line) || decide (c.entries.length < 256)

/-- R221: an entry written back leaves the list. -/
def State.dropEntry (s : State) (line : Nat) : State :=
  s.onChannel (chanOf line) (fun c => if c.entries.any (fun e => e.line == line) then
    { c with entries := c.entries.filter (fun e => e.line != line) } else c)

/-! ### Entries of the write-combining buffer (R223) -/

/-- R223: an entry retires by read-modify-write; a line whose read is uncorrectable is written as poisoned, recorded with the
source of the partial store and counted; a poisoned one stays so. -/
def State.retireWc (s : State) (e : WcEntry) (r : LineRead) : State :=
  let ch := chanOf e.line
  let s1 := ((s.onChannel ch (fun c => { c with wc := c.wc.filter (fun x => x.line != e.line) })).wakeChannel ch).bump 0x400B00 1
  let poison := fun (x : State) => (x.setMark (markKey e.line) .poisoned).bump 0x400500 1
  match s1.lineOutcome e.line r with
  | .clean => s1.setMark (markKey e.line) .good
  | .poison => poison s1
  | .failed => poison (s1.lineUE e.line 0x4002 e.source)
  | .address => poison (s1.lineUE e.line 0x4003 e.source)
  | .corrected n data => ((s1.wrBytes e.line data).setMark (markKey e.line) .good).noteCE e.line n

/-- R223: a partial store joins the entry of its line; a full mask writes the line; when all 64 entries are in use the oldest
retires. The store writes the line's adder entry back (R221). -/
def State.notePartial (s : State) (line : Nat) (mask : BitVec 64) (source : Nat) : State :=
  let ch := chanOf line
  let s0 := (s.wakeChannel ch).dropEntry line
  let c := s0.channel ch
  let old := (c.wc.find? (fun e => e.line == line)).map (·.mask)
  let all := mask ||| old.getD 0
  if all = BitVec.allOnes 64 then
    (if old.isSome then s0.onChannel ch (fun c => { c with wc := c.wc.filter (fun e => e.line != line) }) else s0).setMark
      (markKey line) .good
  else
    let e : WcEntry := { line := line, mask := all, last := s.now, source := source }
    if old.isSome then s0.onChannel ch (fun c => { c with wc := c.wc.map (fun x => if x.line == line then e else x) })
    else
      let s1 := match (if 64 ≤ c.wc.length then c.wc.head? else none) with
        | some x => s0.retireWc x {}
        | none => s0
      s1.onChannel ch (fun c => { c with wc := c.wc ++ [e] })

/-- R223: an access that needs a line retires its partial store first; else it reads the line, but from an adder entry that holds it
(R221). -/
def State.retireLine (s : State) (line : Nat) (r : LineRead := {}) : State :=
  let c := s.channel (chanOf line)
  match c.wc.find? (fun e => e.line == line) with
  | some e => s.retireWc e r
  | none => if c.entries.any (fun e => e.line == line) then s else s.senseLine line r

/-- Bytes of LPDDR grouped by line, with the mask of those named. -/
def lineMasks (addrs : List Nat) : List (Nat × BitVec 64) :=
  addrs.foldl (fun (acc : List (Nat × BitVec 64)) a =>
    match place a with
    | .lpddr near =>
      let bit : BitVec 64 := BitVec.ofNat 64 (2 ^ (near % 64))
      (match acc with
        | (l, m) :: rest =>
          if l = lineOf near then (l, m ||| bit) :: rest
          else if rest.any (fun x => x.1 == lineOf near) then
            acc.map (fun x => if x.1 = lineOf near then (x.1, x.2 ||| bit) else x)
          else (lineOf near, bit) :: acc
        | [] => [(lineOf near, bit)])
    | _ => acc) []

/-- R223: stores of this module to some bytes pass the write-combining buffers of their lines. -/
def State.noteBytes (s : State) (addrs : List Nat) : State :=
  (lineMasks addrs).reverse.foldl (fun s x => s.notePartial x.1 x.2 s.node) s

/-- The bytes of some elements of a tensor as they are stored. -/
def State.elemBytes (s : State) (d : Line) (plane : Nat) (idxs : List Nat) : List Nat :=
  idxs.flatMap (fun i => match s.codeAt d plane i with
    | some a => (List.range (((descFmt d).bits + 7) / 8)).map (a.1 + ·)
    | none => [])

/-- R223: an engine's stores of some elements. -/
def State.noteElems (s : State) (d : Line) (plane : Nat) (idxs : List Nat) : State := s.noteBytes (s.elemBytes d plane idxs)

/-- R205, R38: an engine reads some elements of a tensor: their channels are in use, scale bytes 0xFF among them recorded. -/
def State.takeElems (s : State) (h unit : Nat) (idxs : List Nat) : State :=
  match s.tensor h with
  | none => s
  | some t =>
    let chans := ((idxs.filterMap (s.codeAt t.desc (s.readPlane t))).filterMap (fun a => match place a.1 with
      | .lpddr near => some (chanOf near)
      | _ => none)).eraseDups
    (chans.foldl State.wakeChannel s).recordFFs h unit idxs

/-- Where a just-in-time write of some elements puts scale bytes, block states, sidecar entries and outlier-store values (R59, R73,
R77). -/
def State.planeBytesOf (s : State) (d : Line) (hdr : Nat) (idxs : List Nat) : List Nat :=
  let bs := (idxs.map (fun i => (blockOf d i).1)).eraseDups
  bs.map (s.arr hdr 0 + ·) ++ (bs.map (fun b => s.arr hdr 1 + b / 4)).eraseDups ++
    (if descSidecar d then bs.flatMap (fun b => match s.sideOwn hdr b with
      | some k => (List.range 8).map (s.arr hdr 3 + 64 * (b / 256) + 8 * k + ·)
      | none => []) else []) ++
    (idxs.filter (s.storedElem d hdr)).flatMap (fun i =>
      let a := s.slotAddr d hdr (chanOfElem d i) i
      [a, a + 1])

/-- R221: contributions of this module to some elements combine in the adder entries of their lines. -/
def State.useEntries (s : State) (d : Line) (idxs : List Nat) : State :=
  (lineMasks (s.elemBytes d 0 idxs)).reverse.foldl (fun s x =>
    (s.retireLine x.1).onChannel (chanOf x.1) (fun c => { c.useEntry x.1 s.now with lastUse := s.now, powerDown := false })) s

/-- R221: the entries of the lines of some elements are written back. -/
def State.dropEntries (s : State) (d : Line) (idxs : List Nat) : State :=
  (lineMasks (s.elemBytes d 0 idxs)).foldl (fun s x => s.dropEntry x.1) s

/-! ### The order of accesses to a line (R219) -/

/-- Bytes a request asks for: its lines, or 8 bytes when its length is 0 (log entry 30). -/
def pktBytes (p : Packet) : Nat := if p.length = 0 then 8 else 64 * p.length.toNat

/-- The lines of LPDDR that a read names. -/
def ChanReq.lines (r : ChanReq) : List Nat :=
  (List.range (ceilDiv (r.line % 64 + pktBytes r.pkt) 64)).map (fun i => lineOf (memKey (r.line / 64 * 64 + 64 * i)))

/-- The lines of LPDDR that an operation of an adder changes. -/
def State.opLines (s : State) (o : AdderOp) : List Nat :=
  match o with
  | .line a _ _ => [lineOf (memKey a.toNat)]
  | .atom a _ => [lineOf (memKey a.toNat)]
  | .book h first vals => (match s.tensor h.toNat with
    | some t => (lineMasks (s.elemBytes t.desc 0 ((List.range vals.length).map (first + ·)))).map (·.1)
    | none => [])

/-- R219: whether an access to a line waits at its controller that came there before number `ord`. -/
def State.waitsAt (s : State) (line ord : Nat) : Bool :=
  let c := s.channel (chanOf line)
  c.wcWait.any (fun w => w.line == line && decide (w.ord < ord)) ||
  c.adderWait.any (fun w => decide (w.ord < ord) && (s.opLines w.op).contains line) ||
  s.channels.any (fun e => e.2.ingress.any (fun r => decide (r.ord < ord) && r.lines.contains line))

/-- The waiting accesses in round-robin order of their sources, from the one after `last` on, oldest first of each (R217, R222). -/
def rrOrder {α : Type} (source : α → Nat) : Nat → Nat → List α → List α
  | 0, _, _ => []
  | n + 1, last, xs => match roundRobin last (xs.map source) with
    | none => []
    | some k => xs.filter (fun x => source x == k) ++ rrOrder source n k (xs.filter (fun x => source x != k))

end Sys2Proof.Machine
end

