-- ==== Sys2Proof/Machine/Block.lean ====
section
/-!
DEFINITION. Writing tensors: rounding modes (R39 to R43), just-in-time blocks (R63, R64), the sidecar (R72 to R74), outlier
channels (R75, R77), error feedback (R78), and unscaled elements.
-/

namespace Sys2Proof.Machine

/-- A state with the flags raised while reaching it. -/
structure Acc where
  s : State
  fl : Nat := 0
  /-- a line met on the way did not decode (R210) -/
  bad : Bool := false

/-- R39, R40, R46: who writes. -/
structure Writer where
  /-- the 2-bit rounding field of the command -/
  field : Nat := 1
  /-- SR whatever the field says (R40) -/
  sr : Bool := false
  /-- the update unit: BF16 and FP16 saturate (R46) -/
  fixer : Bool := false
  /-- the cluster that runs the tile (R191) -/
  cluster : Nat := 0
  /-- elements converted with RN and without a flag: kept values and masked fills (R126) -/
  exact : List Nat := []
  /-- the unit's code in an error record (R415) -/
  unit : Nat := 2

/-- R39: field 0 takes the mode of 0x8001:00; R40: weights, moments and residuals take SR. -/
def State.useSr (s : State) (w : Writer) : Bool :=
  w.sr || w.field == 2 || (w.field == 0 && s.dv 0x800100 % 4 == 2)

/-- R43: the draw of an element: a fixed function of job key, step counter, handle, block and position (assumption 3). -/
def State.srDrawOf (s : State) (h b pos : Nat) : Nat :=
  Config.srDraw (s.dv 0x800200) (s.dv 0xA03200) h b pos % 65536

/-- The rounding of one element; a write into FP32 or FP64 is always RN (R39). -/
def State.rndOf (s : State) (w : Writer) (f : Fmt) (h b pos : Nat) : Rnd :=
  if f = .fp32 ∨ f = .fp64 then .rn
  else if s.useSr w then .sr (s.srDrawOf h b pos) else .rn

/-! ### Scale choice (R63, R72) -/

/-- R63: Fmax. -/
def fmax : Fmt → Nat
  | .fp4 => 6 | .e4m3 => 448 | .e5m2 => 57344 | .int8 => 127 | _ => 7

/-- The smallest e with v ≤ F × 2^e for a positive value. -/
def scaleExp (f : Fmt) (m : Nat) (e : Int) : Int :=
  let e0 : Int := (Nat.log2 m : Int) + e - (Nat.log2 (fmax f) : Int) - 1
  match [e0, e0 + 1, e0 + 2].find? (fun k => Val.le (.fin false m e) (.fin false (fmax f) k)) with
  | some k => k
  | none => e0 + 3

/-- The largest finite magnitude of a list of values, zero where there is none. -/
def maxMag (vs : List Val) : Val :=
  vs.foldl (fun m v => if v.isFinite && Val.lt m v.abs then v.abs else m) .zero

/-- R63: the scale of a block of values; `none` is state zero. -/
def jitScale (f : Fmt) (vs : List Val) : Option Nat :=
  match maxMag vs with
  | .fin _ 0 _ => if vs.all (fun v => v.isFinite) then none else some 0x7F
  | .fin _ m e => some ((max 0 (min 0xFE (127 + scaleExp f m e))).toNat)
  | _ => some 0x7F

/-- R72: the magnitude at or below which an element would round to zero under RN. -/
def flushBound : Fmt → Val
  | .fp4 => .fin false 1 (-2)
  | .e4m3 => .fin false 1 (-10)
  | .e5m2 => .fin false 1 (-17)
  | _ => .fin false 1 (-1)

/-- R72: the position to extract: at least two finite non-zero elements, and every other one at most h at the scale of the
largest. -/
def outlierPos (f : Fmt) (vs : List Val) : Option Nat :=
  match jitScale f vs with
  | none => none
  | some e =>
    let m := maxMag vs
    let pos := (vs.findIdx? (fun v => v.isFinite && Val.eq v.abs m)).getD 0
    let rest := (vs.eraseIdx pos).filter (fun v => v.isFinite && !v.isZero)
    if 2 ≤ (vs.filter (fun v => v.isFinite && !v.isZero)).length ∧
        rest.all (fun v => Val.le (v.abs.shift (-(ue8 e))) (flushBound f)) then some pos else none

/-! ### Elements without a scale -/

/-- Writing an element of a tensor without a scale plane (R47: the update unit's BF16 and FP16 saturate). -/
def State.wrPlain (a : Acc) (h : Nat) (d : Line) (w : Writer) (idx : Nat) (v : Val) : Acc :=
  let f := descFmt d
  let quiet := w.exact.contains idx
  let c := convert f w.fixer (if quiet then .rn else a.s.rndOf w f h idx 0) v
  { a with s := a.s.wrCode d 0 idx c.code, fl := a.fl ||| (if quiet then 0 else c.fl) }

/-! ### Just-in-time blocks -/

/-- The codes of a block written at scale `e` (R41 to R48). -/
def State.wrCodes (a : Acc) (h : Nat) (d : Line) (plane : Nat) (w : Writer) (b e : Nat) (vs : List Val) : Acc :=
  let f := descFmt d
  (List.zip (blockElems d b) (List.zip (List.range vs.length) vs)).foldl (fun a p =>
    let quiet := w.exact.contains p.1
    let c := convert f false (if quiet then .rn else a.s.rndOf w f h b p.2.1) (p.2.2.shift (-(ue8 e)))
    { a with s := a.s.wrCode d plane p.1 c.code, fl := a.fl ||| (if quiet then 0 else c.fl) }) a

/-- R64: the zero codes of a zero-state block, with their source signs. -/
def State.wrZeros (s : State) (d : Line) (plane b : Nat) (vs : List Val) : State :=
  let f := descFmt d
  (List.zip (blockElems d b) vs).foldl (fun s p => s.wrCode d plane p.1 (f.withSign (p.2.isNeg && !f.isInt) 0)) s

/-- R73: an entry that the block already holds is cleared before the block is written. -/
def State.clearSide (s : State) (d : Line) (hdr b : Nat) : State :=
  if descSidecar d then
    match s.sideOwn hdr b with
    | some k => s.setSideEntry hdr b k 0
    | none => s
  else s

/-- R73: a sidecar entry: VALUE, POS, VALID, OFFSET. -/
def sideWord (value pos b : Nat) : Nat := value + pos * 2 ^ 16 + 2 ^ 23 + b % 256 * 2 ^ 24

/-- R63, R64, R72 to R75: a just-in-time writer writes a whole block. A sidecar value of the update unit saturates (R46, R47); that of
a kept element or a fill raises no flag (R126). -/
def State.wrJit (a : Acc) (h : Nat) (d : Line) (hdr plane : Nat) (w : Writer) (b : Nat) (vs : List Val) : Acc :=
  let f := descFmt d
  let s0 := a.s.clearSide d hdr b
  let ch := chanOfElem d ((blockElems d b).headD 0)
  let finish := fun (a : Acc) (e : Nat) =>
    let s1 := (a.s.setScale hdr b e).setState hdr b (if zeroRun d && !a.s.present d b then 3 else 1)
    ({ a with s := if descOutlier d then s1.chanMax hdr ch e else s1 } : Acc)
  match jitScale f vs with
  | none => { a with s := ((s0.wrZeros d plane b vs).setScale hdr b 0).setState hdr b 3 }
  | some e =>
    match (if descSidecar d then outlierPos f vs else none) with
    | none => finish (State.wrCodes { a with s := s0 } h d plane w b e vs) e
    | some pos =>
      match s0.sideFree hdr b with
      | some k =>
        let c := convert .bf16 w.fixer .rn (vs.getD pos .zero)
        let fl := a.fl ||| (if w.exact.contains ((blockElems d b).getD pos 0) then 0 else c.fl)
        let rest := vs.set pos .zero
        let s1 := (s0.setSideEntry hdr b k (sideWord c.code pos b)).bump 0x801600 1
        match jitScale f (vs.eraseIdx pos) with
        | none => { a with s := ((s1.wrZeros d plane b rest).setScale hdr b 0).setState hdr b 3, fl := fl }
        | some e2 => finish (State.wrCodes { a with s := s1, fl := fl } h d plane w b e2 rest) e2
      | none =>
        let lost := ((vs.eraseIdx pos).filter (fun v => v.isFinite && !v.isZero)).length
        let s1 := ((s0.bump 0x801700 1).bump 0x800500 lost)
        let s2 := s1.wrNat (hdr + 56) 4 (min 0xFFFFFFFF (s1.rdNat (hdr + 56) 4 + lost))
        let vs' := (List.zip (List.range vs.length) vs).map (fun p =>
          if p.1 = pos ∨ !p.2.isFinite then p.2 else (Val.fin p.2.isNeg 0 0))
        finish (State.wrCodes { a with s := s2, fl := a.fl ||| Flag.blockFlushed ||| Flag.underflow ||| Flag.inexact }
          h d plane w b e vs') e

/-! ### Outlier channels (R77) -/

/-- R77: the elements of a channel that a write covers go to its slot with the command's rounding; the MAX takes the scale
R63 would have chosen (R75). -/
def State.wrSlotElems (a : Acc) (h : Nat) (d : Line) (hdr : Nat) (w : Writer) (ch : Nat) (evs : List (Nat × Val)) : Acc :=
  let pos := fun i => (chanElems d ch).idxOf i
  evs.foldl (fun a p =>
    let quiet := w.exact.contains p.1
    let c := convert .bf16 w.fixer (if quiet then .rn else a.s.rndOf w .bf16 h ch (pos p.1)) p.2
    { a with s := a.s.wrNat (a.s.slotAddr d hdr ch p.1) 2 c.code, fl := a.fl ||| (if quiet then 0 else c.fl) }) a

/-- The values of a block as they stand, for elements a moving write does not cover. -/
def State.blockVals (s : State) (t : Tensor) (plane b : Nat) : List Val :=
  (blockElems t.desc b).map (fun i => (s.rdElem t plane i).v)

/-- The blocks of a channel. -/
def chanBlocks (d : Line) (ch : Nat) : List Nat :=
  (List.range (blockCount d)).filter (fun b => chanOfElem d ((blockElems d b).headD 0) == ch)

/-- R77: the first write of a promoted channel moves the elements it does not cover into the slot and makes every block a
zero-state block; in book mode the scale byte is kept (R60, R64). -/
def State.moveToSlot (a : Acc) (h : Nat) (t : Tensor) (plane : Nat) (w : Writer) (ch : Nat) (covered : List Nat) : Acc :=
  let d := t.desc
  let hdr := t.hdr plane
  let others := (chanElems d ch).filter (fun i => !covered.contains i)
  let vals := others.map (fun i => (i, a.s.rdElem t plane i))
  let a0 := { a with s := a.s.recordPlaneFFs h plane w.unit others, fl := vals.foldl (fun f x => f ||| x.2.ffFlag) a.fl }
  let a1 := State.wrSlotElems a0 h d hdr { w with field := 1, sr := false } ch (vals.map (fun x => (x.1, x.2.v)))
  let s2 := (chanBlocks d ch).foldl (fun s b =>
    let s1 := (s.clearSide d hdr b).wrZeros d plane b ((blockElems d b).map (fun _ => Val.zero))
    (if descBook d then s1 else s1.setScale hdr b 0).setState hdr b 3) a1.s
  { a1 with s := s2.setChanRec hdr ch (s2.chanRec hdr ch ||| 2 ^ 33) }

/-- R77: the first write after a demotion: the elements it does not cover go back into their blocks with RN; blocks the
write covers are left to the write. -/
def State.moveFromSlot (a : Acc) (t : Tensor) (plane : Nat) (ch : Nat) (covered : List Nat)
    (wrBlock : Acc → Nat → List Val → Acc) : Acc :=
  let d := t.desc
  let hdr := t.hdr plane
  let blocks := (chanBlocks d ch).filter (fun b => !(blockElems d b).all (fun i => covered.contains i))
  let old := blocks.map (fun b => (b, a.s.blockVals t plane b))
  let r := a.s.chanRec hdr ch
  let s1 := a.s.setChanRec hdr ch ((r % 2 ^ 48) - (if recStored r then 2 ^ 33 else 0))
  old.foldl (fun a p => wrBlock a p.1 p.2) { a with s := s1 }

/-- The channels whose contents a write must move first (R77): promoted and not stored, or stored and not promoted. -/
def State.movingChannels (s : State) (d : Line) (hdr : Nat) (idxs : List Nat) : List Nat :=
  if descOutlier d then
    ((idxs.map (chanOfElem d)).eraseDups).filter (fun ch =>
      let r := s.chanRec hdr ch
      recPromoted r != recStored r)
  else []

/-! ### A just-in-time or unscaled destination -/

/-- R77: the channels that a just-in-time write of some elements moves first. -/
def State.moveJit (a : Acc) (h : Nat) (t : Tensor) (plane : Nat) (w : Writer) (idxs : List Nat) : Acc :=
  let d := t.desc
  let hdr := t.hdr plane
  let rn : Writer := { w with field := 1, sr := false }
  (a.s.movingChannels d hdr idxs).foldl (fun a ch =>
    if recPromoted (a.s.chanRec hdr ch) then State.moveToSlot a h t plane w ch idxs
    else State.moveFromSlot a t plane ch idxs (fun a b vs => State.wrJit a h d hdr plane rn b vs)) a

/-- R75: a write of a stored channel takes the scale that R63 would have chosen for each run of G elements into its record. -/
def State.slotMax (s : State) (d : Line) (hdr b : Nat) (vs : List Val) : State :=
  match jitScale (descFmt d) vs with
  | some e => s.chanMax hdr (chanOfElem d ((blockElems d b).headD 0)) e
  | none => s

/-- A write of values by element index into a just-in-time tensor: whole blocks (R62); elements of a stored channel go to its
slot. Of several values of one element the last stays (R120). -/
def State.storeJit (a : Acc) (h : Nat) (t : Tensor) (plane : Nat) (w : Writer) (evs : List (Nat × Val)) : Acc :=
  let d := t.desc
  let hdr := t.hdr plane
  let idxs := evs.map (·.1)
  let valOf := fun (i : Nat) => ((evs.filter (fun p => p.1 == i)).getLast?).map (·.2)
  let blocks := (idxs.map (fun i => (blockOf d i).1)).eraseDups
  blocks.foldl (fun a b =>
    let es := blockElems d b
    let kept := es.filter (fun i => !idxs.contains i)
    let old := es.map (fun i => (a.s.rdElem t plane i))
    let vs := (List.zip es old).map (fun x => (valOf x.1).getD x.2.v)
    if a.s.storedElem d hdr (es.headD 0) then
      let a2 := State.wrSlotElems a h d hdr w (chanOfElem d (es.headD 0)) (es.filterMap (fun i => (valOf i).map (fun v => (i, v))))
      { a2 with s := a2.s.slotMax d hdr b vs }
    else
      let fl := (List.zip es old).foldl (fun f x => if kept.contains x.1 then f ||| x.2.ffFlag else f) a.fl
      let a1 : Acc := { a with s := a.s.recordPlaneFFs h plane w.unit kept, fl := fl }
      State.wrJit a1 h d hdr plane { w with exact := w.exact ++ kept } b vs) (State.moveJit a h t plane w idxs)

/-- R78: writing gradient blocks with error feedback: the residual's committed plane is added, the error of the write goes to
its working plane with SR. Elements that are kept or filled (R126) are written as they are; their residual takes the error too, with
RN (DEDUCED, log entry 177). -/
def State.storeFeedback (a : Acc) (h : Nat) (t : Tensor) (w : Writer) (evs : List (Nat × Val)) : Acc :=
  let rh := descResidual t.desc
  match a.s.tensor rh with
  | none => State.storeJit a h t 0 w evs
  | some r =>
    let cp := if descCommitted t.desc then 1 else 0
    let idxs := evs.map (·.1)
    let bs := (idxs.map (fun i => (blockOf t.desc i).1)).eraseDups
    let kept := (bs.flatMap (blockElems t.desc)).filter (fun i => !idxs.contains i)
    let exact := w.exact ++ kept
    let sums := (evs ++ kept.map (fun i => (i, (a.s.rdElem t 0 i).v))).map (fun p =>
      let x := a.s.rdElem r cp p.1
      let v := round32 (Val.add p.2 x.v)
      (p.1, v.v, p.2, if exact.contains p.1 then 0 else v.fl ||| x.fl))
    let fl0 := sums.foldl (fun f p => f ||| p.2.2.2) a.fl
    let s0 := a.s.recordPlaneFFs rh cp w.unit idxs
    let a1 := State.storeJit { a with s := s0, fl := fl0 } h t 0 w ((sums.take evs.length).map (fun p =>
      (p.1, if w.exact.contains p.1 then p.2.2.1 else p.2.1)))
    let errs := sums.map (fun p => (p.1, (round32 (Val.add p.2.1 ((a1.s.rdElem t 0 p.1).v.neg))).v))
    let s2 := a1.s.bindAll rh w.cluster
    let a2 := State.storeJit { a1 with s := s2 } rh r (1 - cp) { w with field := 2, sr := true, exact := exact } errs
    { a2 with s := a2.s.onTensor h (fun t => { t with fbWritten := (t.fbWritten ++ bs).eraseDups }) }

end Sys2Proof.Machine
end

