-- ==== Sys2Proof/Machine/Book.lean ====
section
/-!
DEFINITION. Book scaling: contributions (R66), staging (R69), epochs (R65) and the close of a block (R67, R68).
-/

namespace Sys2Proof.Machine

/-- R69, R70: a block is staged when it is unseeded, or zero-state with SEEDED_ONCE clear. -/
def State.stages (s : State) (hdr b : Nat) : Bool :=
  s.stateOf hdr b == 0 || (s.stateOf hdr b == 3 && !(s.histOf hdr b).testBit 9)

/-- Whether the block's STAGED bit is set (R61). -/
def State.isStaged (s : State) (hdr b : Nat) : Bool := (s.histOf hdr b).testBit 10

/-- Bytes of FP32 shadow in use, and 0x8012:00, the 2 MiB staging frames they take (R69, R83). -/
def State.shadowBytes (s : State) : Nat :=
  s.tensors.foldl (fun n e => match e.2 with | some t => n + t.shadows.length * 4 * descGrain t.desc | none => n) 0
def State.stagingFrames (s : State) : Nat := ceilDiv s.shadowBytes 0x200000

/-- R69: whether a new shadow for a block of a tensor finds a staging frame. -/
def State.stageRoom (s : State) (d : Line) : Bool :=
  decide (s.shadowBytes + 4 * descGrain d ≤ s.dv 0x401200 * 0x200000)

/-- R69: a contribution to these blocks must wait for a staging frame. -/
def State.stageBlocked (s : State) (t : Tensor) (blocks : List Nat) : Bool :=
  let hdr := t.hdr 0
  let new := (blocks.filter (fun b => s.stages hdr b && (look none t.shadows b).isNone)).length
  decide (0 < new) && decide (s.dv 0x401200 * 0x200000 < s.shadowBytes + new * 4 * descGrain t.desc)

/-- The rounding of an add: RN for a reduction's intermediate sums (R45); the command's field for the one conversion of an
overwrite that is not split (R62). -/
def State.addRnd (s : State) (own : Option Writer) (f : Fmt) (h b pos : Nat) : Rnd :=
  match own with
  | none => .rn
  | some w => s.rndOf w f h b pos

/-- R65: a block is touched when a contribution is applied to it. -/
def State.touch (s : State) (h b : Nat) : State :=
  s.onTensor h (fun t => { t with touched := if t.touched.contains b then t.touched else t.touched ++ [b] })

/-- R69: contributions to a staged block go to its FP32 shadow; `clear` is the overwrite of R62, `fill` marks a fill, which RN
converts at the close (R126). -/
def State.addShadow (a : Acc) (h : Nat) (t : Tensor) (round : Nat) (b : Nat) (clear fill : Bool) (evs : List (Nat × Val)) : Acc :=
  let hdr := t.hdr 0
  let es := blockElems t.desc b
  let sh := (look none t.shadows b).getD { vals := List.replicate es.length 0, round := round }
  let (vals, fl) := evs.foldl (fun (acc : List Nat × Nat) p =>
    let i := es.idxOf p.1
    let old := if clear then Val.zero else f32 (acc.1.getD i 0)
    let r := Val.add old p.2
    let c := toFp32 r.v
    (acc.1.set i c.code, acc.2 ||| r.fl ||| c.fl)) (sh.vals, a.fl ||| Flag.staged)
  let mine := evs.map (fun p => es.idxOf p.1)
  let exact := sh.exact.filter (fun i => !mine.contains i) ++ (if fill then mine else [])
  let nf := evs.any (fun p => !p.2.isFinite)
  let hist := s_or (s_or (a.s.histOf hdr b) histStaged) (if nf then histNf else 0)
  let s1 := (a.s.setHist hdr b hist).bump 0x801100 1
  let sh' : Shadow :=
    { vals := vals, round := if fill && (look none t.shadows b).isSome then sh.round else round, exact := exact }
  let s2 := s1.onTensor h (fun t => { t with shadows := put none t.shadows b (some sh') })
  { a with s := s2.touch h b, fl := fl }
where
  s_or (x y : Nat) : Nat := x ||| y

/-- R66: contributions to a block with a scale, each rounded before the next is applied; under a scale byte 0xFF the block's
elements are NaN (R38). -/
def State.addScaled (a : Acc) (h : Nat) (t : Tensor) (own : Option Writer) (b : Nat) (clear : Bool)
    (evs : List (Nat × Val)) : Acc :=
  let d := t.desc
  let f := descFmt d
  let hdr := t.hdr 0
  let e := ue8 (a.s.scaleOf hdr b)
  let ff := a.s.scaleOf hdr b == 0xFF
  let a0 := if a.s.stateOf hdr b = 3 then { a with s := a.s.setState hdr b 1 } else a
  let a0 := if ff then { a0 with s := a0.s.recordFF h b 8, fl := a0.fl ||| Flag.nonFinite } else a0
  let a1 := evs.foldl (fun a p =>
    let old := if ff then Val.nan else if clear then Val.zero else f.decode (a.s.rdCode d 0 p.1)
    let r := Val.add old (p.2.shift (-e))
    let c := convert f false (a.s.addRnd own f h b (blockOf d p.1).2) r.v
    let ovf := if c.fl.testBit 5 then histOvf else 0
    let nf := if p.2.isFinite then 0 else histNf
    { a with s := (a.s.wrCode d 0 p.1 c.code).setHist hdr b (a.s.histOf hdr b ||| ovf ||| nf), fl := a.fl ||| r.fl ||| c.fl }) a0
  { a1 with s := a1.s.touch h b }

/-- R77 in book mode: contributions to a block of a channel in the outlier store are added to its BF16 slot, a non-finite one sets NF
(R66); R75. -/
def State.addSlot (a : Acc) (h : Nat) (t : Tensor) (own : Option Writer) (clear : Bool) (b : Nat) (evs : List (Nat × Val)) : Acc :=
  let d := t.desc
  let hdr := t.hdr 0
  let a1 := evs.foldl (fun a p =>
    let ch := chanOfElem d p.1
    let ad := a.s.slotAddr d hdr ch p.1
    let old := if clear then Val.zero else Fmt.bf16.decode (a.s.rdNat ad 2)
    let r := Val.add old p.2
    let c := convert .bf16 false (a.s.addRnd own .bf16 h ch ((chanElems d ch).idxOf p.1)) r.v
    let nf := if p.2.isFinite then 0 else histNf
    { a with s := (a.s.wrNat ad 2 c.code).setHist hdr b (a.s.histOf hdr b ||| nf), fl := a.fl ||| r.fl ||| c.fl }) a
  { a1 with s := (a1.s.slotMax d hdr b (a1.s.blockVals t 0 b)).touch h b }

/-- R66: an uncorrectable line among the bytes from `ad` on is recorded (R210) and written back as poisoned, a poisoned one stays
so. -/
def State.poisonBad (s : State) (ad n : Nat) : State :=
  (List.range ((ad + n - 1) / 64 + 1 - ad / 64)).foldl (fun s k =>
    let line := (ad / 64 + k) * 64
    if s.badRange line 64 then s.poisonRead line else s) s

/-- The storage beside a block's codes that a contribution to it needs: its scale byte, state and history word (R221), or its elements'
places in the outlier store (R77). -/
def State.addAddrs (s : State) (d : Line) (hdr b : Nat) : List Nat :=
  s.planeAddrs hdr b ++ (if s.arr hdr 2 = 0 then [] else [s.arr hdr 2 + 2 * b]) ++
    (if s.storedElem d hdr ((blockElems d b).headD 0) then
      (blockElems d b).map (fun i => s.slotAddr d hdr (chanOfElem d i) i) else [])

/-- R66: contributions to one block: a block whose line or plane does not decode takes none, and that line is written back as
poisoned. -/
def State.addBlock (a : Acc) (h : Nat) (own : Option Writer) (round : Nat) (clear fill : Bool) (b : Nat) (evs : List (Nat × Val)) :
    Acc :=
  match a.s.tensor h with
  | none => a
  | some t =>
    let hdr := t.hdr 0
    let es := blockElems t.desc b
    if es.any (fun i => a.s.badElem t.desc 0 i) || (a.s.addAddrs t.desc hdr b).any (fun ad => a.s.badRange ad 1) then
      let data := es.filterMap (fun i => (a.s.codeAt t.desc 0 i).map (·.1))
      { a with s := (data.eraseDups ++ a.s.addAddrs t.desc hdr b).foldl (fun s ad => s.poisonBad ad 1) a.s, bad := true }
    else if a.s.storedElem t.desc hdr (es.headD 0) then State.addSlot a h t own clear b evs
    else if a.s.stages hdr b then State.addShadow a h t round b clear fill evs
    else State.addScaled a h t own b clear evs

/-- R77: the channels that a book-mode write of some elements moves first. An add moves the values it is added to with the rest, so it
covers none. -/
def State.moveBook (a : Acc) (h : Nat) (t : Tensor) (clear : Bool) (idxs : List Nat) : Acc :=
  let covered := if clear then idxs else []
  (a.s.movingChannels t.desc (t.hdr 0) idxs).foldl (fun a ch =>
    if recPromoted (a.s.chanRec (t.hdr 0) ch) then State.moveToSlot a h t 0 { field := 1, unit := 8 } ch covered
    else State.moveFromSlot a t 0 ch covered (fun a b vs =>
      State.addBlock a h none 1 true false b (List.zip (blockElems t.desc b) vs))) a

/-- R77: the channels that a write of some elements moves first, in either scale mode. -/
def State.moveChannels (a : Acc) (h : Nat) (t : Tensor) (idxs : List Nat) : Acc :=
  if descBook t.desc then State.moveBook a h t true idxs else State.moveJit a h t 0 { field := 1, unit := 8 } idxs

/-- R62, R66: contributions by element index, block by block in arrival order, after any channel they move (R77). -/
def State.storeBook (a : Acc) (h : Nat) (t : Tensor) (own : Option Writer) (round : Nat) (clear fill : Bool)
    (evs : List (Nat × Val)) : Acc :=
  let idxs := evs.map (·.1)
  ((idxs.map (fun i => (blockOf t.desc i).1)).eraseDups).foldl (fun a b =>
    State.addBlock a h own round clear fill b (evs.filter (fun p => (blockOf t.desc p.1).1 == b))) (State.moveBook a h t clear idxs)

/-! ### Epochs and closes (R65, R67, R68) -/

/-- R65: a command or collective over a book-mode tensor completes. -/
def State.leaveEpoch (s : State) (h : Nat) : State :=
  match s.tensor h with
  | some t => if descBook t.desc then s.setTensor h (some { t with opens := t.opens - 1 }) else s
  | none => s

/-- R68: QUIET and HIGH after a quiet close, and the scale; `first` is the tensor's first close in this step. -/
def quietClose (e hist : Nat) (high first : Bool) : Nat × Nat × Bool :=
  let q := hist % 64 + (if first then 1 else 0)
  let hi := high || hist.testBit 6
  let rest := hist / 128 * 128
  if 64 ≤ q then
    if hi then (e, rest, false) else (e - 1, rest, decide (0 < e))
  else (e, rest + q + (if hi then 64 else 0), false)

/-- R67: the close of one block; the second component is 1 when it counts in the overflow-block count. The flags of a staged
block's conversion enter no command's flag word: R69 makes it the close's, after the contributions' own flags (DESIGN CHOICE, log
entry 155). -/
def State.closeBlock (s : State) (h b : Nat) (first : Bool) : State × Nat :=
  match s.tensor h with
  | none => (s, 0)
  | some t =>
    let d := t.desc
    let f := descFmt d
    let hdr := t.hdr 0
    let hist := s.histOf hdr b
    let es := blockElems d b
    let ch := chanOfElem d (es.headD 0)
    let mx := fun (s : State) (e : Nat) => if descOutlier d then s.chanMax hdr ch e else s
    if hist.testBit 10 then
      match look none t.shadows b with
      | none => (s, 0)
      | some sh =>
        let vs := sh.vals.map f32
        let s0 := s.onTensor h (fun t => { t with shadows := put none t.shadows b none })
        let cnt := if hist.testBit 8 then 1 else 0
        match jitScale f vs with
        | none =>
          ((((s0.wrZeros d 0 b vs).setScale hdr b 0).setState hdr b 3).setHist hdr b 0, cnt)
        | some e0 =>
          let e := min 0xFE (e0 + s.dv 0x801000)
          let a := State.wrCodes ⟨s0, 0, false⟩ h d 0 { field := sh.round, exact := sh.exact.map (es.getD · 0) } b e vs
          (mx (((a.s.setScale hdr b e).setState hdr b 1).setHist hdr b histSeeded) e, cnt)
    else if hist.testBit 7 || hist.testBit 8 then
      let e := min 0xFE (s.scaleOf hdr b + 1)
      let s1 := ((s.setScale hdr b e).setState hdr b 2).setHist hdr b (if hist.testBit 9 then histSeeded else 0)
      ((mx s1 e).bump 0x801400 1, 1)
    else if es.all (fun i => (f.decode (s.rdCode d 0 i)).isZero) then (s.setState hdr b 3, 0)
    else
      let high := es.any (fun i => Val.lt (.fin false (fmax f) (-1)) (f.decode (s.rdCode d 0 i)).abs)
      let (e, hist', decayed) := quietClose (s.scaleOf hdr b) hist high first
      let s1 := ((s.setScale hdr b e).setState hdr b 1).setHist hdr b hist'
      (if decayed then (mx s1 e).bump 0x801500 1 else mx s1 e, 0)

/-- The close of some blocks of a tensor in one close, behind the write-back of their adder entries (R221); R68's mark of the step
is set where one was a quiet close. -/
def State.closeBlocks (s0 : State) (h : Nat) (bs : List Nat) : State × Nat :=
  match s0.tensor h with
  | none => (s0, 0)
  | some t =>
    let s := s0.dropEntries t.desc (bs.flatMap (blockElems t.desc))
    let step := s.dv 0xA03200 + 1
    let first := t.quietStep != step
    let r := bs.foldl (fun (acc : State × Nat) b =>
      let c := acc.1.closeBlock h b first
      (c.1, acc.2 + c.2)) (s, 0)
    (r.1.onTensor h (fun t =>
      { t with touched := t.touched.filter (fun b => !bs.contains b), quietStep := if bs.isEmpty then t.quietStep else step }),
     r.2)

end Sys2Proof.Machine
end

