-- ==== Sys2Proof/Machine/Access.lean ====
section
/-!
DEFINITION. Accesses to module memory: reservations (R445), packages out of service or critical (R227, R229), the
copy-before-write barrier (R332), and stores to a global address (R9, R260, R306).
-/

namespace Sys2Proof.Machine

/-- Who makes an access (R445): the module's commands, or an agent over Traek or the fabric. -/
inductive Side where
  | command | outside
deriving DecidableEq, Repr

/-- R445: whether every valid reservation that holds the near-home byte grants the access. -/
def State.reservationGrants (s : State) (near : Nat) (side : Side) (write : Bool) : Bool :=
  let bit := (if side = .command then 0 else 2) + (if write then 1 else 0)
  (List.range 8).all (fun k =>
    let r := s.dv (0x900201 + k)
    !((natFld r 16 1).testBit 7 && decide (natFld r 0 8 ≤ near) && decide (near < natFld r 8 8)) ||
      (natFld r 16 1).testBit bit)

/-- The status that stops an access to LPDDR at a near-home address, 0 when none does. -/
def State.lpddrStatus (s : State) (near : Nat) (side : Side) (write : Bool) : Nat :=
  if !s.reservationGrants near side write then St.memoryDenied
  else if s.offline (pkgOf near) then St.memoryOffline
  else if (s.package (pkgOf near)).critical then St.memoryCritical
  else St.ok

/-- The status that stops an access to plain memory (LPDDR, scratchpad) at a local address; every 64th byte and the last is
looked at, so that a range is judged as a whole. -/
def State.memStatus (s : State) (a n : Nat) (side : Side) (write : Bool) : Nat :=
  (((List.range (ceilDiv n 64)).map (fun i => a + 64 * i)) ++ (if n = 0 then [] else [a + n - 1])).foldl (fun st x =>
    if st ≠ 0 then st
    else match place x with
      | .lpddr near => s.lpddrStatus near side write
      | .scratch _ => 0
      | _ => St.addressUnmapped) 0

/-- R445: the first line of a range that a reservation refuses. -/
def State.deniedAt (s : State) (a n : Nat) (write : Bool) : Nat :=
  (((List.range (ceilDiv n 64)).map (fun i => a + 64 * i)).find? (fun x =>
    s.memStatus x 1 .command write == St.memoryDenied)).getD a

/-- R332: whether the barrier holds writes to the byte: its 64 KiB segment is in the running sheet and not yet copied. -/
def State.barred (s : State) (near : Nat) : Bool :=
  match s.step.sheet with
  | some sh => sh.segments.any (fun g => g.seg == near / 65536)
  | none => false

/-- Whether any byte of a range of local addresses is barred. -/
def State.barredRange (s : State) (a n : Nat) : Bool :=
  (List.range (ceilDiv n 4096 + 1)).any (fun i => s.barred (memKey (min (a + 4096 * i) (a + n - 1))))

/-- R332: segments on which a write waits move to the front of the copy order, behind those already there. -/
def State.copyFirst (s : State) (segs : List Nat) : State :=
  { s with step := { s.step with sheet := s.step.sheet.map (fun sh =>
      { sh with heldFirst := sh.heldFirst ++ segs.filter (fun g => !sh.heldFirst.contains g) }) } }

/-- R332: a write that meets the barrier is counted, and its segment is copied early. -/
def State.meetBarrier (s : State) (near : Nat) : State := (s.bump 0x601A00 1).copyFirst [near / 65536]

/-- R332: the uncopied segments of the images of some tensors. -/
def State.sheetSegs (s : State) (hs : List Nat) : List Nat :=
  match s.step.sheet with
  | some sh => ((sh.segments.filter (fun p => hs.contains p.handle)).map (·.seg)).eraseDups
  | none => []

/-- R332: a write on a barred segment waits in its channel's barrier queue. -/
def State.holdWrite (s : State) (a : Nat) (bytes : List (Option Byte)) : State :=
  let near := memKey a
  (s.onChannel (chanOf near) (fun c => { c with held := c.held ++ [{ addr := a, bytes := bytes, since := s.now }] })).meetBarrier near

/-- R332: whether the barrier queue of a channel is full. -/
def State.barrierFull (s : State) (near : Nat) : Bool := decide (64 ≤ (s.channel (chanOf near)).held.length)

/-- Masked bytes stored from `a` upward. -/
def State.wrMasked (s : State) (a : Nat) : List (Option Byte) → State
  | [] => s
  | none :: bs => s.wrMasked (a + 1) bs
  | some b :: bs => (s.wr (memKey a) b).wrMasked (a + 1) bs

/-- A store of bytes into plain memory: held while its segment is barred; good data freshen the words of a scratchpad they cover
whole (R421), and in LPDDR pass the write-combining buffers of their lines (R211, R223). -/
def State.storeMem (s : State) (a : Nat) (bytes : List (Option Byte)) : State :=
  if s.barredRange a bytes.length then s.holdWrite a bytes
  else
    let s1 := s.wrMasked a bytes
    let named := (List.zip (List.range bytes.length) bytes).filterMap (fun x => if x.2.isSome then some (a + x.1) else none)
    match place a with
    | .lpddr _ => s1.noteBytes named
    | _ => if bytes.all (·.isSome) then s1.freshen a bytes.length else s1

/-- A store of plain bytes. -/
def State.storeBytes (s : State) (a : Nat) (bytes : List Byte) : State := s.storeMem a (bytes.map some)

/-! ### Lines and their states -/

def State.dirState (s : State) (line : Nat) : DirState := look .u s.directory line
def State.setDir (s : State) (line : Nat) (d : DirState) : State := { s with directory := put .u s.directory line d }

/-- The agents with a copy. -/
def DirState.agents : DirState → List Nat
  | .u => []
  | .s as _ => as
  | .e o _ => [o]

/-- The device time of a line's last use (R274). -/
def DirState.used : DirState → Nat
  | .u => 0
  | .s _ t => t
  | .e _ t => t

/-- Whether a snoop of a line is not yet answered. -/
def State.snooping (s : State) (line : Nat) : Bool := s.snoops.any (fun x => x.line == line)

/-! ### Snoops (R273, R304) -/

/-- A snoop of an agent: the module's own companion over the Traek link, another companion over the fabric. The address of a
Traek snoop is the line's global address (log entry 27). -/
def State.snoop (s : State) (line agent : Nat) (share : Bool) : State :=
  let x : Snoop := { line := line, agent := agent, share := share, since := s.now }
  let s1 : State := { s with snoops := s.snoops ++ [x] }
  let op := if share then 0x10 else 0x11
  if s.isCompanion agent then s1.sendTraek op 0 (s.node * 2 ^ 48 + line) 0 0 false []
  else s1.sendPacket op agent false false 0 line 0 0 0 []

/-- SNP_INVAL to some agents. -/
def State.invalidate (s : State) (line : Nat) (agents : List Nat) : State :=
  agents.foldl (fun s a => s.snoop line a false) s

/-- R273: a non-caching access to a line of module memory: whether it may go on now, and the snoops it starts. -/
def State.access (s : State) (near : Nat) (write : Bool) : State × Bool :=
  let line := lineOf near
  if s.snooping line then (s, false)
  else
    match s.dirState line with
    | .u => (s, true)
    | .s as _ => if write then (s.invalidate line as, false) else (s, true)
    | .e o _ => (s.snoop line o (!write), false)

/-- The same for a local address; only LPDDR is tracked. -/
def State.accessAt (s : State) (a : Nat) (write : Bool) : State × Bool :=
  match place a with
  | .lpddr n => s.access n write
  | _ => (s, true)

/-- The same for every line of a range of local addresses: all must be free of copies. -/
def State.accessRange (s : State) (a n : Nat) (write : Bool) : State × Bool :=
  if s.directory.isEmpty then (s, true)
  else
    (List.range (ceilDiv n 64)).foldl (fun (x : State × Bool) i =>
      let r := x.1.accessAt (a + 64 * i) write
      (r.1, x.2 && r.2)) (s, true)

/-! ### Stores of the module's own (R219, R273) -/

/-- The 64 bytes and the mask of the line at `line` that a store names. -/
def lineBytes (base : Nat) (bs : List (Option Byte)) (line : Nat) : BitVec 64 × List Byte :=
  let at' := fun (i : Nat) => if line + i < base then none else (bs[line + i - base]?).bind id
  (BitVec.ofNat 64 ((List.range 64).foldl (fun n i => if (at' i).isSome then n + 2 ^ i else n) 0),
   (List.range 64).map (fun i => (at' i).getD 0))

/-- R219, R273: a store that waits at its line's controller, in the order in which it came there. -/
def State.waitPartial (s : State) (w : WcWaiter) : State :=
  let s1 := s.onChannel (chanOf w.line) (fun c => { c with wcWait := c.wcWait ++ [{ w with ord := s.arrivals }] })
  { s1 with arrivals := s1.arrivals + 1 }

/-- R273: a store by a control core or a collective engine, a non-caching access: where an agent holds a copy it waits at the line's
controller for the answer to its snoop. -/
def State.storeCoherent (s : State) (a : Nat) (bytes : List Byte) : State :=
  let x := s.accessRange a bytes.length true
  if x.2 then x.1.storeBytes a bytes
  else (List.range ((a % 64 + bytes.length + 63) / 64)).foldl (fun s i =>
    let line := a / 64 * 64 + 64 * i
    let l := lineBytes a (bytes.map some) line
    s.waitPartial { line := memKey line, mask := l.1, data := l.2, source := s.node, since := s.now }) x.1

/-! ### Global addresses (R9, R260) -/

/-- Where a global address lies. -/
inductive Where where
  | here (addr : Nat)
  | companion (node addr : Nat)
  | away (node addr : Nat)
  | nowhere
deriving DecidableEq, Repr

/-- R260: a local address in a fabric window goes to the node the window names. -/
def State.window (s : State) (off : Nat) : Where :=
  let w := s.dv (0x500201 + off / 2 ^ 40)
  let n := natFld w 0 2
  if (natFld w 3 1).testBit 0 && !s.localNode n then
    let a := natFld w 2 1 * 2 ^ 40 + off % 2 ^ 40
    if s.isCompanion n then .companion n (a % 2 ^ 48) else .away n (a % 2 ^ 48)
  else .nowhere

/-- R9, R259, R260, R306. -/
def State.resolve (s : State) (g : Nat) : Where :=
  let n := g / 2 ^ 48 % 65536
  let a := g % 2 ^ 48
  if s.localNode n then
    match place a with
    | .fabric off => s.window off
    | .unmapped => .nowhere
    | _ => .here a
  else if s.isCompanion n then .companion n a
  else .away n a

/-- Bytes stored at a global address by the module itself (records, rings): its status, 0 when it went out. -/
def State.storeGlobal (s : State) (g : Nat) (bytes : List Byte) (flag : Bool := false) (owner : Option (Nat × Nat) := none) :
    State × Nat :=
  match s.resolve g with
  | .here a =>
    let st := s.memStatus a bytes.length .command true
    if st = 0 then (s.storeCoherent a bytes, 0) else (s.addressFault 2 s.node a 0 st, st)
  | .companion n a =>
    let r := s.ask n 0 { op := 0x02, flag := flag, addr := a, lines := ceilDiv bytes.length 64, data := bytes, owner := owner }
    (if r.2 = St.hostDenied then r.1.addressFault 2 s.node a 10 r.2 else r.1, r.2)
  | .away n a => s.ask n 0 { op := 0x02, flag := flag, addr := a, lines := ceilDiv bytes.length 64, data := bytes, owner := owner }
  | .nowhere => (s.addressFault 2 s.node (g % 2 ^ 48) 0 St.addressUnmapped, St.addressUnmapped)

/-! ### Packages and commands (R226) -/

/-- The packages whose memory a tensor's bound data lie in. -/
def State.packagesOf (s : State) (d : Line) : List Nat :=
  ((List.range (mapLen d (descBytes d))).filterMap (fun i =>
    match s.dataAddr d (i * mapUnit d) with
    | some a => match place a with | .lpddr n => some (pkgOf n) | _ => none
    | none => none)).eraseDups

/-- The packages that a use of a tensor reaches: those of its data and of its metadata. -/
def State.packagesUsed (s : State) (h : Nat) : List Nat :=
  match s.tensor h with
  | some t => (s.packagesOf t.desc ++ (s.alloc.runs.filter (fun r => r.handle == h)).map (fun r => pkgOf r.base)).eraseDups
  | none => []

/-- R226: MEMORY_DERATED when a package used is in state 2 or 3. -/
def State.deratedStatus (s : State) (hs : List Nat) : Nat :=
  if hs.any (fun h => (s.packagesUsed h).any (fun p => 2 ≤ (s.package p).derate)) then St.memoryDerated else 0

/-- Whether a write to a tensor must wait for the barrier (R332): a segment of its data or of its metadata run is barred. -/
def State.tensorBarred (s : State) (h : Nat) : Bool :=
  match s.tensor h with
  | some t =>
    s.step.sheet.isSome &&
    ((List.range (ceilDiv (descBytes t.desc) 65536)).any (fun i =>
      match s.dataAddr t.desc (i * 65536) with
      | some a => s.barred (memKey a)
      | none => false) ||
     (s.alloc.runs.filter (fun r => r.handle == h)).any (fun r => s.barredRange r.base r.len))
  | none => false

/-- R65: a command or collective that adds into a book-mode tensor opens it. An epoch that has ended closes first, but under
a barrier (R332). -/
def State.openEpoch (s : State) (h : Nat) : State :=
  match s.tensor h with
  | some t =>
    if descBook t.desc then
      let s1 := if t.opens = 0 ∧ !t.touched.isEmpty ∧ !s.tensorBarred h then (s.closeBlocks h t.touched).1 else s
      s1.onTensor h (fun t => { t with opens := t.opens + 1 })
    else s
  | none => s

end Sys2Proof.Machine
end

