-- ==== Sys2Proof/Machine/Directory.lean ====
section
/-!
DEFINITION. The directory of the coherent domain: entries and recalls (R274), and the accesses of the module's commands, which never
hold copies (R271). The state of a line and its snoops stand in Machine/Access.lean.
-/

namespace Sys2Proof.Machine

/-! ### Commands (R273) -/

/-- R215: the offset in the striped alias that names a near-home byte. -/
def unstripe (near : Nat) : Nat :=
  let p := near % 2 ^ 36
  let q := p / 1024 * 256 + p % 256
  (q / 4096 * 128 + p / 256 % 4 * 32 + near / 2 ^ 36) * 4096 + q % 4096

/-- Whether a tensor's data hold a near-home line. -/
def State.tensorHolds (s : State) (h line : Nat) : Bool :=
  match s.tensor h with
  | none => false
  | some t =>
    let d := t.desc
    if descClass d = 3 then
      let base := descLoc d % 2 ^ 48
      !s.isRemote d && (inSpan line base (descBytes d) || inSpan (0x20000000000 + unstripe line) base (descBytes d))
    else (List.range (mapLen d (descBytes d))).any (fun i =>
      match s.dataAddr d (i * mapUnit d) with
      | some a => inSpan line a (mapUnit d)
      | none => false)
where
  inSpan (a base len : Nat) : Bool := decide (base ≤ a) && decide (a < base + len)

/-- R273: the accesses of a command to the tensors it reads and writes: whether no copy stands in its way, and the snoops it
starts. -/
def State.accessTensors (s : State) (reads writes : List Nat) : State × Bool :=
  s.directory.foldl (fun (x : State × Bool) e =>
    let w := writes.any (fun h => s.tensorHolds h e.1)
    if w || reads.any (fun h => s.tensorHolds h e.1) then
      let r := x.1.access e.1 w
      (r.1, x.2 && r.2)
    else x) (s, true)

/-- A command goes on when no copy stands in its way, else it waits for the snoops it has started. -/
def State.coherent (s : State) (reads writes : List Nat) (go : State → State) : State :=
  let r := s.accessTensors reads writes
  if r.2 then go r.1 else r.1

/-! ### Entries (R274) -/

/-- The directory slice and set of a line; the manual gives 16 ways and no index: the low bits of the line number (log entry
28). -/
def dirSet (line : Nat) : Nat := pkgOf line / 4 * 16384 + line / 64 % 16384

/-- Lines tracked in the set of a line. -/
def State.setLines (s : State) (line : Nat) : List (Nat × DirState) := s.directory.filter (fun e => dirSet e.1 == dirSet line)

/-- R274: whether the set of an untracked line has no entry left. -/
def State.dirFull (s : State) (line : Nat) : Bool :=
  s.dirState line == .u && decide (16 ≤ (s.setLines line).length)

/-- R274: the least recently used entry of a set. -/
def leastUsed : List (Nat × DirState) → Option Nat
  | [] => none
  | e :: es => some (es.foldl (fun (b : Nat × DirState) x => if x.2.used < b.2.used then x else b) e).1

/-- R274: the recall of the least recently used entry of the set of `line`, where none runs. -/
def State.recall (s : State) (line : Nat) : State :=
  if (s.setLines line).any (fun e => s.snooping e.1) then s
  else match leastUsed (s.setLines line) with
    | some l => s.invalidate l (s.dirState l).agents
    | none => s

end Sys2Proof.Machine
end

