-- ==== Sys2Proof/Machine/Operands.lean ====
section
/-!
DEFINITION. The operand forms of queues and commands: the queue table entry (R166), the watch line (R167), the submission
entry (R170), the common header (R172), the handle fields of each command and the checks they share (R14, R173, R175, R185,
R187, R189).
-/

namespace Sys2Proof.Machine

/-! ### Queue table entry and watch line -/

def qEnabled (e : Line) : Bool := bitAt e 0 0
def qFaulted (e : Line) : Bool := bitAt e 0 1
def qSleeping (e : Line) : Bool := bitAt e 0 2
def qClass (e : Line) : Nat := bitsAt e 1 0 3
def qPriority (e : Line) : Nat := bitsAt e 1 3 2
def qPreference (e : Line) : Nat := fld e 2 1
def qHome (e : Line) : Nat := fld e 3 1
def qRingLog (e : Line) : Nat := fld e 4 1
def qRecLog (e : Line) : Nat := fld e 5 1
def qRingBase (e : Line) : Nat := fld e 8 8
def qConsumer (e : Line) : Nat := fld e 16 8
def qRecBase (e : Line) : Nat := fld e 24 8
def qRecProducer (e : Line) : Nat := fld e 32 8
def qLastStatus (e : Line) : Nat := fld e 40 2
def wProducer (w : Line) : Nat := fld w 0 8
def wRecConsumer (w : Line) : Nat := fld w 8 8

/-- R166: entry bit 0, 1 or 2 of byte 0 set or cleared. -/
def qSetBit (e : Line) (b : Nat) (v : Bool) : Line := descSetBit e 0 b v

/-- R170: the submission entry, 16 bytes. -/
def subAddr (e : Nat) : Nat := natFld e 0 8
def subListId (e : Nat) : Nat := natFld e 8 4
def subCounter (e : Nat) : Nat := natFld e 12 2 % 4096
def subRecord (e : Nat) : Bool := (natFld e 12 2).testBit 14
def subSignal (e : Nat) : Bool := (natFld e 12 2).testBit 15
def subReserved (e : Nat) : Bool := natFld e 12 2 / 4096 % 4 != 0 || natFld e 14 2 != 0

/-! ### The common header (R172) -/

def cmdOp (c : Line) : Nat := fld c 0 1
def cmdSignal (c : Line) : Bool := bitAt c 1 0
def cmdRecord (c : Line) : Bool := bitAt c 1 1
def cmdOrdered (c : Line) : Bool := bitAt c 1 2
def cmdCounter (c : Line) : Nat := bitsAt c 2 0 12
def cmdTag (c : Line) : Nat := fld c 4 4

/-- R173: whether an opcode byte is reserved. -/
def reservedOp (op : Nat) : Bool :=
  !(decide (op ≤ 0x06) || (decide (8 ≤ op) && decide (op ≤ 0x0A)) || op == 0x10 || op == 0x20 || op == 0x30 ||
    (decide (0x40 ≤ op) && decide (op ≤ 0x42)) || (decide (0x50 ≤ op) && decide (op ≤ 0x54)) ||
    (decide (0x60 ≤ op) && decide (op ≤ 0x64)))

/-- R173: the queue class a command needs; none for commands of any class. -/
def opClass (op : Nat) : Option Nat :=
  if op < 0x10 then none else some (op / 16 - 1)

/-- R175: control and synchronisation commands, whose failure stops the list. -/
def controlOp (op : Nat) : Bool := decide (op ≤ 0x06)

/-- R415: the unit that raises a command's record. -/
def opUnit (op : Nat) : Nat :=
  if op < 0x10 then 0 else if op < 0x20 then 1 else if op < 0x30 then 2 else if op < 0x40 then 3 else if op < 0x50 then 4
  else if op < 0x60 then 9 else 5

/-! ### Failed checks -/

/-- A status that stops a command, with what its error record names (R414, R416): field byte and bit, handle, address,
value; `slot` is the log index of a record of another class already written for it; `access` the kind (1 read, 2 write) of an access to
`addr` that a reservation refused (R445). -/
structure Fail where
  st : Nat
  byte : Nat := 0
  bit : Nat := 0
  named : Bool := true
  handle : Nat := 0
  addr : Nat := 0
  value : Nat := 0
  slot : Option Nat := none
  access : Nat := 0
deriving DecidableEq, Repr

/-- The failure of an access to a range of local memory, at command byte `byte`: one that a reservation refuses leaves an
ADDRESS_FAULT record with its address (R416, R445). -/
def State.rangeFail (s : State) (st a n byte value : Nat) (write : Bool) : Fail :=
  if st = St.memoryDenied then
    { st := st, byte := byte, addr := s.deniedAt a n write, value := value, access := if write then 2 else 1 }
  else { st := st, byte := byte, addr := a, value := value }

/-- The first failing check of a list. -/
def firstFail : List (Option Fail) → Option Fail
  | [] => none
  | some f :: _ => some f
  | none :: fs => firstFail fs

/-- A check: when `bad`, the failure. -/
def failIf (bad : Bool) (f : Fail) : Option Fail := if bad then some f else none

/-- R14: reserved bits, as (byte, bit, width). -/
def reservedFail (c : Line) (st : Nat) (rs : List (Nat × Nat × Nat)) : Option Fail :=
  (rs.find? (fun r => bitsAt c r.1 r.2.1 r.2.2 != 0)).map (fun r =>
    { st := st, byte := r.1 + r.2.1 / 8, bit := r.2.1 % 8, value := bitsAt c r.1 r.2.1 r.2.2 })

/-- The reserved bits of the common header (R172). -/
def headerReserved : List (Nat × Nat × Nat) := [(1, 3, 5), (3, 4, 4)]

/-- R138: the summary slot a command names: only VECTOR has a summary kind (R130). -/
def summarySlot (c : Line) : Option Nat :=
  if cmdOp c = 0x20 ∧ bitsAt c 29 0 4 ≠ 0 then some (bitsAt c 29 4 4) else none

/-! ### Handles -/

/-- The handle at a byte offset of a command. -/
def handleAt (c : Line) (off : Nat) : Nat := fld c off 3

/-- R185: every handle named, at its offset, is live; 0 means none. -/
def State.liveFail (s : State) (c : Line) (offs : List Nat) : Option Fail :=
  (offs.find? (fun o => handleAt c o != 0 && (s.tensor (handleAt c o)).isNone)).map (fun o =>
    { st := St.handleUnknown, byte := o, handle := handleAt c o, value := handleAt c o })

/-- A handle that must not be 0. -/
def State.neededFail (s : State) (c : Line) (offs : List Nat) : Option Fail :=
  (offs.find? (fun o => (s.tensor (handleAt c o)).isNone)).map (fun o =>
    { st := St.handleUnknown, byte := o, handle := handleAt c o, value := handleAt c o })

/-- R175: an input that is suspect. -/
def State.suspectFail (s : State) (hs : List (Nat × Nat)) : Option Fail :=
  (hs.find? (fun p => match s.tensor p.2 with | some t => descSuspect t.desc | none => false)).map (fun p =>
    { st := St.inputSuspect, byte := p.1, handle := p.2, value := p.2 })

/-- R187, R189: an output that is remote or a residual. -/
def State.outputFail (s : State) (hs : List (Nat × Nat)) : Option Fail :=
  (hs.findSome? (fun p => match s.tensor p.2 with
    | some t =>
      if t.owner ≠ 0 then some ({ st := St.residualOwned, byte := p.1, handle := p.2, value := p.2 } : Fail)
      else if s.isRemote t.desc then some { st := St.remoteTensor, byte := p.1, handle := p.2, value := p.2 }
      else none
    | none => none))

/-- R162: whether some elements of a tensor lie in latent tiles that were lost with their cluster. -/
def State.lostElems (s : State) (h : Nat) (idxs : List Nat) : Bool :=
  match s.tensor h with
  | some t => !t.lost.isEmpty && idxs.any (fun i => t.lost.contains (elemUnit t.desc i))
  | none => false

/-- R162: an input of which latent tiles were lost with their cluster. -/
def State.lostFail (s : State) (hs : List (Nat × Nat)) : Option Fail :=
  (hs.find? (fun p => match s.tensor p.2 with | some t => !t.lost.isEmpty | none => false)).map (fun p =>
    { st := St.latentLost, byte := p.1, handle := p.2, value := p.2 })

/-- R155: after the module's closing contribution no command writes a verdict tensor. -/
def State.verdictFail (s : State) (hs : List (Nat × Nat)) : Option Fail :=
  if s.step.closed then
    (hs.find? (fun p => match s.tensor p.2 with | some t => descVerdict t.desc | none => false)).map (fun p =>
      { st := St.verdictClosed, byte := p.1, handle := p.2, value := p.2 })
  else none

/-- The non-zero handles at some offsets, with the offsets. -/
def namedAt (c : Line) (offs : List Nat) : List (Nat × Nat) :=
  (offs.map (fun o => (o, handleAt c o))).filter (fun p => p.2 != 0)

/-- The non-zero handles at some offsets. -/
def handlesAt (c : Line) (offs : List Nat) : List Nat := (offs.map (handleAt c)).filter (· != 0)

/-- The descriptor of a handle, all zero when it is not live (R185). -/
def State.desc (s : State) (h : Nat) : Line := match s.tensor h with | some t => t.desc | none => 0

/-- R175: an overwrite of the whole tensor clears its suspect mark, and what was lost of it is made again (R162). -/
def State.clearSuspect (s : State) (h : Nat) : State :=
  s.onTensor h (fun t => { t with desc := descSetBit t.desc 3 0 false, lost := [] })
def State.markSuspects (s : State) (hs : List Nat) : State := hs.foldl State.markSuspect s

/-- R190: whether `a` lies in the local address range `base` to `base + len − 1`. -/
def inRange (a base len : Nat) : Bool := decide (base ≤ a) && decide (a < base + len)

end Sys2Proof.Machine
end

