-- ==== Sys2Proof/Machine/Flags.lean ====
section
/-!
DEFINITION. Flags: the flag word (R49) at a command's completion, the status it gives, the counters it moves, and the
verdict latch (R153).
-/

namespace Sys2Proof.Machine

/-- R49: bits 9:0 of the flag word; bits 31:10 read as zero. -/
def flagWord (fl : Nat) : BitVec 32 := BitVec.ofNat 32 (fl % 1024)

/-- R49 bit 7: a command that ran over an empty or masked vector completes with EMPTY when nothing ranks higher. -/
def emptyStatus (fl : BitVec 32) : Nat := if fl.getLsbD 7 then St.empty else St.ok

/-- R410 (0x8003, 0x8004): commands completed with SATURATED or NONFINITE. -/
def State.countFlags (s : State) (fl : BitVec 32) : State :=
  let s1 := if fl.getLsbD 5 then s.bump 0x800300 1 else s
  if fl.getLsbD 6 then s1.bump 0x800400 1 else s1

/-- R153: NONFINITE on a write to a tensor with the verdict attribute sets NF of the latch. -/
def State.latchVerdict (s : State) (h fl : Nat) : State :=
  if descVerdict (s.desc h) && fl.testBit 6 then { s with step := { s.step with nf := true } } else s

/-- The flags of a status and a flag word, the higher-ranked status winning (R288's order). -/
def withEmpty (st : Nat) (fl : BitVec 32) : Nat := if st = 0 then emptyStatus fl else st

end Sys2Proof.Machine
end

