-- ==== Sys2Proof/Machine/Flow.lean ====
section
/-!
DEFINITION. How commands start, wait and complete, and how lists end: R170, R174 to R183, with records (R176, R414), signals
(R177, R178) and summaries (R136, R138).
-/

namespace Sys2Proof.Machine

/-! ### Counter updates (R177, R178) -/

/-- R177: one update of a counter. -/
def State.applyUpdate (s : State) (u : CtrUpdate) : State :=
  if u.set then s.setCounter u.counter u.value else s.addCounter u.counter u.value

/-- Whether a bank may apply another update at this device time: one per cycle, none while others wait (R178). -/
def State.bankFree (s : State) (b : Nat) : Bool :=
  look 0 s.bankAt b != s.now + 1 && !s.ingress.any (fun u => u.counter / 256 == b)

/-- R178: an update arrives at its bank: applied at once, or it waits at the ingress. -/
def State.counterUpdate (s : State) (u : CtrUpdate) : State :=
  if s.bankFree (u.counter / 256) then
    { s.applyUpdate u with bankAt := put 0 s.bankAt (u.counter / 256) (s.now + 1) }
  else { s with ingress := s.ingress ++ [{ u with since := s.now }] }

/-- An increment by a completion (R170, R172) from one of the sources of R178. -/
def State.signalFrom (s : State) (source counter : Nat) : State :=
  s.counterUpdate { counter := counter, set := false, value := 1, source := source, since := s.now }

/-- One from the control core of queue `q`'s home cluster. -/
def State.signalLocal (s : State) (q counter : Nat) : State := s.signalFrom (qHome (s.queue q).entry) counter

/-- R178: the source of a command's completion signal: the transfer engine or the collective engine that ran it, else the control
core of its queue's home. Control cores are numbered 0 to 31, ports from 40, the Traek link 48, collective engines from 50 and
transfer engines from 64. -/
def State.signalSource (s : State) (q : Nat) (st : Started) : Nat :=
  st.engine.getD (qHome (s.queue q).entry)

/-! ### Completion rings (R176) -/

/-- Records the completion ring of a queue holds; 0 = no ring. -/
def ringRecords (e : Line) : Nat := if qRecLog e = 0 then 0 else 2 ^ qRecLog e

/-- Records written and not yet read by software. -/
def Queue.unread (r : Queue) : Nat := qRecProducer r.entry - wRecConsumer r.watch

/-- R176: whether the ring has no room for one more record. -/
def Queue.ringFull (r : Queue) : Bool := ringRecords r.latched != 0 && decide (ringRecords r.latched ≤ r.unread)

/-- Whether a completion that wants a record (`rec` or bit 7) must wait for room. -/
def Queue.blocked (r : Queue) (rec : Bool) (st : Nat) : Bool := (rec || refusedStatus st) && r.ringFull

/-- The moment from which the queue waits on its full ring. -/
def State.stampRing (s : State) (q : Nat) : State :=
  s.onQueue q (fun r => if r.ringWait.isNone then { r with ringWait := some s.now } else r)

/-- What a completion record holds (R176). -/
structure RecordWords where
  listId : Nat
  index : Nat
  status : Nat
  list : Bool
  flags : Nat
  start : Nat
  slot : Nat
  clusters : Nat
  depth : Nat
  tag : Nat

/-- R176: the 64 bytes of a completion record. -/
def recordBytes (s : State) (q : Nat) (w : RecordWords) : List Byte :=
  leBytes 4 w.listId ++ leBytes 4 w.index ++ leBytes 2 w.status ++ leBytes 1 q ++ leBytes 1 (if w.list then 1 else 0) ++
  leBytes 4 w.flags ++ leBytes 8 w.start ++ leBytes 8 s.now ++ leBytes 8 (s.dv 0xA03200) ++ leBytes 2 w.slot ++
  leBytes 1 w.clusters ++ leBytes 1 w.depth ++ leBytes 4 w.tag ++ leBytes 16 0

/-- R176: a record written to the ring the queue was enabled with (R168), where it has one. -/
def State.writeRecord (s : State) (q : Nat) (w : RecordWords) : State :=
  let r := s.queue q
  let n := ringRecords r.latched
  if n = 0 then s
  else
    let s1 := (s.storeGlobal (qRecBase r.latched + 64 * (qRecProducer r.entry % n)) (recordBytes s q w) false (some (q, 0))).1
    s1.onQueue q (fun r => { r with entry := setFld r.entry 32 8 (qRecProducer r.entry + 1) })

/-! ### Completing a command (R175) -/

/-- R183: the call depth of a queue: return entries on its stack. -/
def Queue.depth (r : Queue) : Nat := (r.stack.filter (fun e => match e with | .ret _ _ _ => true | _ => false)).length

/-- The handle fields of a command that name outputs (R175): offsets; of a transfer, the handle of add type 4 alone (R245). -/
def outputOffsets (op : Nat) (c : Line) : List Nat :=
  if op = 0x10 then [14] else if op = 0x20 then [17, 20] else if op = 0x41 then (if bitsAt c 25 1 3 = 4 then [37] else [])
  else if 0x50 ≤ op ∧ op ≤ 0x54 then [11] else []

/-- R244, R245: the header's signal of a transfer goes to the destination node instead when its remote-signal bit names one; a failed
read-back does not signal. -/
def State.signalsHere (s : State) (st : Started) : Bool :=
  let remote := bitAt st.cmd 25 0 && !(st.op == 0x41 && bitsAt st.cmd 25 1 3 == 4)
  if st.op / 16 ≠ 4 then true
  else if st.silent then false
  else !remote || (match s.resolve (fld st.cmd 16 8) with | .away _ _ => false | .companion _ _ => false | _ => true)

/-- R414: the error record of a command's failure. -/
def State.commandRecord (s : State) (q : Nat) (st : Started) (f : Fail) : State :=
  let home := qHome (s.queue q).entry
  s.record { s.mkRec 0xA001 (opUnit st.op) home (f.handle + f.addr * 2 ^ 64 + f.value % 2 ^ 64 * 2 ^ 128) with
    status := f.st, queue := q, flags := 1 + (if f.named then 2 else 0), listId := st.listId, index := st.index,
    fieldByte := if f.named then f.byte else 0, fieldBit := if f.named then f.bit else 0 }

/-- R138: a command that names a slot but is not started, or does not complete, writes it with kind 0 and its status. -/
def slotValue (st : Started) (f : Fail) (old : SlotVal) : SlotVal :=
  match st.summary with
  | some v => if refusedStatus f.st then { flags := st.flags, status := BitVec.ofNat 16 f.st, gen := old.gen + 1 }
    else { v with flags := st.flags, status := BitVec.ofNat 16 f.st, gen := old.gen + 1 }
  | none => { flags := st.flags, status := BitVec.ofNat 16 f.st, gen := old.gen + 1 }

/-- R136: the summary slot of a completing command. -/
def State.writeSummary (s : State) (q : Nat) (st : Started) (f : Fail) : State :=
  match summarySlot st.cmd with
  | none => s
  | some k => (s.onQueue q (fun r => { r with slots := put {} r.slots k (slotValue st f (look {} r.slots k)) })).bump 0xA02500 1

/-- R226: OK becomes MEMORY_DERATED when the command used a package in state 2 or 3. -/
def State.deratedOf (s : State) (st : Started) (f : Fail) : Fail :=
  if f.st = 0 then { f with st := if st.derated then St.memoryDerated else s.deratedStatus (st.reads ++ st.writes) } else f

/-- R175: what a status does to the list: a failed control command stops it with its status; else the first bit-7 status in
start order is kept. A list already ended keeps the status that ended it. -/
def ListRun.after (r : ListRun) (op id st slot : Nat) : ListRun :=
  if refusedStatus st then
    if r.bad = St.queueDisabled then r
    else if controlOp op then { r with bad := st, badId := 0, badSlot := slot, ended := true }
    else if r.bad = 0 ∨ id < r.badId then { r with bad := st, badId := id, badSlot := slot } else r
  else r

/-- R153, R162: LATENT_LOST sets VOID in the verdict latch. -/
def State.voidOn (s : State) (st : Nat) : State :=
  if st = St.latentLost then { s with step := { s.step with void := true } } else s

/-- R153: NF of the latch is set by a command that writes a verdict tensor and sets NONFINITE; an UPDATE latches it with its elements,
since its guards do not (R150). -/
def State.nfOn (s : State) (st : Started) : State :=
  if st.op != 0x30 && st.flags.toNat.testBit 6 && st.writes.any (fun h => descVerdict (s.desc h)) then { s with step := { s.step with nf := true } } else s

/-- R156: a verdict collective that is not started counts as one that completed with bit 7 set; a closing one makes the verdict
final (DEDUCED, log entry 148). -/
def State.verdictRefused (s : State) (st : Started) (bad : Bool) : State :=
  if bad && !st.done && decide (0x50 ≤ st.op ∧ st.op ≤ 0x54) && bitAt st.cmd 16 2 then
    { s with step := { s.step with
        broken := true, final := s.step.final || bitAt st.cmd 16 3,
        finalAt := if bitAt st.cmd 16 3 && !s.step.final then s.now else s.step.finalAt } }
  else s

/-- R132, R175: the row tensor a MATMUL's epilogue names as an output. -/
def State.epilogueRow (s : State) (c : Line) : List Nat :=
  let i := fld c 18 2
  if i = 0 ∨ s.dv 0xA02100 ≤ i then [] else [s.rdNat (s.dv 0xA02000 + 128 * i + 113) 3].filter (· != 0)

/-- R157, R326: an UPDATE that started and completed, other than with VERDICT_INCOMPLETE: it applied the step or skipped it; the last
of the step brings the boundary; a gradient with feedback that it applied flips its plane there. -/
def State.updateDone (s : State) (st : Started) (status : Nat) : State :=
  if st.op = 0x30 ∧ st.done = true ∧ status ≠ St.verdictIncomplete then
    let g := handleAt st.cmd 11
    let applied := status != St.stepSkipped
    { s with step := { s.step with
        updated := true,
        lastDone := if bitAt st.cmd 28 2 then some applied else s.step.lastDone,
        feedback := if applied && descFeedback (s.desc g) && !s.step.feedback.contains g then s.step.feedback ++ [g]
          else s.step.feedback } }
  else s

/-- R175, R176: a command completes with the status of `f`: suspect marks, counters, slot, error record, completion record,
signal, open counts, and its effect on the list. -/
def State.finish (s : State) (q : Nat) (st : Started) (f0 : Fail) (signal : Bool := true) : State :=
  let f := s.deratedOf st { f0 with st := withEmpty f0.st st.flags }
  let bad := refusedStatus f.st
  let s1 := if bad then s.markSuspects (handlesAt st.cmd (outputOffsets st.op st.cmd) ++
      (if st.op = 0x10 ∨ st.op = 0x20 then st.writes else []) ++ (if st.op = 0x10 ∧ st.writes = [] then s.epilogueRow st.cmd else []))
    else if f.st = 0 then st.covers.foldl State.clearSuspect s else s
  let s2 := (((s1.bump 0xA00300 1).bump 0xA00400 (if bad then 1 else 0)).countFlags st.flags).voidOn f.st |>.nfOn st |>.verdictRefused st bad
  let s3 := s2.writeSummary q st f
  let s4 := if bad && f.slot.isNone then
      (if f.access ≠ 0 then s3.commandFault (q, st.listId, st.index) f.access f.addr (opUnit st.op) f.st else s3.commandRecord q st f)
    else s3
  let slot := if bad then f.slot.getD s4.logSlot else 0xFFFF
  let s5 := if cmdRecord st.cmd || bad then
      s4.writeRecord q {
        listId := st.listId, index := st.index, status := f.st, list := false, flags := st.flags.toNat, start := st.since,
        slot := slot, clusters := (setBits 32 st.clusters.toNat).length, depth := st.depth,
        tag := cmdTag st.cmd }
    else s4
  let s6 := if signal && cmdSignal st.cmd then s5.signalFrom (s5.signalSource q st) (cmdCounter st.cmd) else s5
  let s7 := (st.opens.foldl State.leaveEpoch s6).updateDone st f.st
  s7.onQueue q (fun r => { r with
    started := r.started.filter (fun x => x.id != st.id),
    run := r.run.map (fun l => l.after st.op st.id f.st slot) })

/-! ### Lists (R170, R183) -/

/-- R170, R176, R183: the list in progress completes: consumer index, record, signal, last status. The clusters-used byte of its record
is 0 (DESIGN CHOICE, log entry 196). -/
def State.endList (s : State) (q : Nat) (l : ListRun) : State :=
  let own := refusedStatus l.bad && l.badSlot == 0xFFFF
  let s1 := if own then s.record { s.mkRec 0xA001 0 (qHome (s.queue q).entry) 0 with status := l.bad, queue := q } else s
  let s2 := if l.record || refusedStatus l.bad then
      s1.writeRecord q {
        listId := l.topId, index := 0xFFFFFFFF, status := l.bad, list := true, flags := 0, start := l.since,
        slot := if own then s1.logSlot else l.badSlot, clusters := 0, depth := 0, tag := 0 }
    else s1
  let s3 := if l.signal then s2.signalLocal q l.counter else s2
  (s3.onQueue q (fun r =>
    let e1 := setFld (setFld r.entry 40 2 l.bad) 44 4 l.topId
    let e2 := if l.stale then e1 else setFld e1 16 8 (qConsumer r.entry + 1)
    { r with entry := qSetBit e2 2 (qEnabled e2 && decide (qConsumer e2 = wProducer r.watch)), run := none, stack := [] })).bump
    0xA00200 1

/-! ### Waits of the control core (R179 to R181) -/

/-- R179: c ≥ v that survives wrapping. -/
def passed (c v : BitVec 64) : Bool := decide ((c - v).toNat < 2 ^ 63)

/-- The control command the core is waiting on, as a started command. -/
def Queue.waiting (r : Queue) (l : ListRun) (idx : Nat) (hdr : Line) (since : Nat) : Started :=
  { id := r.serial + 1, index := idx, listId := l.listId, depth := r.depth, cmd := hdr, op := cmdOp hdr, since := since }

/-- R181: whether every store of the queue's commands has been acknowledged: streams, gateways, the Traek link. -/
def State.storesOut (s : State) (q : Nat) : Bool :=
  let mine := fun (o : Option (Nat × Nat)) => match o with | some p => p.1 == q | none => false
  s.streamsOut.any (fun e => (e.2.unacked ++ e.2.held).any (fun p => p.ofOwner mine)) ||
  s.ports.any (fun e => (e.2.gateway ++ e.2.gatewayWait).any (fun g => g.parts.any (fun p => mine p.owner))) ||
  s.step.unsent.any (fun g => g.parts.any (fun p => mine p.owner)) ||
  s.reqs.any (fun r => mine r.owner)

/-- R270: how a fence completes: PATH_LOST when stores were lost, ROUTE_CHANGED across a re-route, else OK. -/
def Queue.fenceStatus (r : Queue) : Nat := if r.lost then St.pathLost else if r.rerouted then St.routeChanged else St.ok

/-- The status with which the core's wait ends now, none while it goes on. -/
def State.waitEnd (s : State) (q : Nat) : Option (Started × Nat) :=
  let r := s.queue q
  match r.run with
  | none => none
  | some l =>
    match l.wait with
    | .counter idx hdr n v since _ => if passed (s.counter n) v then some (r.waiting l idx hdr since, 0) else none
    | .fence idx hdr since =>
      if r.started.isEmpty && !s.storesOut q then
        some (r.waiting l idx hdr since, r.fenceStatus)
      else none
    | .signal idx hdr since =>
      if s.ingress.any (fun u => u.owner == some q) then none else some (r.waiting l idx hdr since, 0)
    | .remoteSignal idx hdr node failed since =>
      if ((s.streamOut node).unacked ++ (s.streamOut node).held).any (fun p => p.ofOwner (· == some (q, 0)))
        || s.reqs.any (fun x => x.owner == some (q, 0)) then none
      else some (r.waiting l idx hdr since, failed)
    | .none => none

/-- The wait ended: the list goes on behind the command. -/
def State.endWait (s : State) (q : Nat) (st : Started) (status : Nat) : State :=
  let s1 := s.onQueue q (fun r => { r with
    serial := r.serial + 1, run := r.run.map (fun l => { l with wait := .none, pc := l.pc + 1 }) })
  let s2 := if st.op = 0x01 then s1.onQueue q (fun r => { r with rerouted := false, lost := false }) else s1
  s2.finish q st { st := status, named := false }

/-! ### What completes of itself -/

/-- Whether queue `q` has a wait that is over or a list that is done, with room for its record. -/
def State.settles (s : State) (q : Nat) : Bool :=
  let r := s.queue q
  match s.waitEnd q with
  | some (st, status) => !r.blocked (cmdRecord st.cmd) status
  | none =>
    match r.run with
    | some l => l.ended && r.started.isEmpty && l.wait == .none && !r.blocked l.record l.bad
    | none => false

/-- One such completion. -/
def State.settleOne (s : State) (q : Nat) : State :=
  match s.waitEnd q with
  | some (st, status) => s.endWait q st status
  | none =>
    match (s.queue q).run with
    | some l => s.endList q l
    | none => s

/-- Completions follow from one another: a signal satisfies a wait (R179), the last command ends a list (R183). -/
def State.settleN : Nat → State → State
  | 0, s => s
  | n + 1, s =>
    match s.queues.find? (fun e => s.settles e.1) with
    | none => s
    | some e => State.settleN n (s.settleOne e.1)

/-- Whether queue `q` has a wait that is over or a list that is done, held up by a full completion ring (R176). -/
def State.ringHeld (s : State) (q : Nat) : Bool :=
  let r := s.queue q
  match s.waitEnd q with
  | some (st, status) => r.blocked (cmdRecord st.cmd) status
  | none =>
    match r.run with
    | some l => l.ended && r.started.isEmpty && l.wait == .none && r.blocked l.record l.bad
    | none => false

/-- Every wait that is over and every list that is done completes; what a full ring holds up starts to wait. -/
def State.settled (s : State) : State :=
  let s1 := State.settleN 1024 s
  (s1.queues.filter (fun e => s1.ringHeld e.1)).foldl (fun s e => s.stampRing e.1) s1

/-! ### Fetching and starting (R172 to R174) -/

/-- R325: whether the hold of a stop bath stops the queue. -/
def State.holdStops (s : State) (q : Nat) : Bool :=
  match s.step.hold with
  | some x => x != q
  | none => false

/-- R360, R369, R380, R382: whether the control core of a cluster runs: its region is not dark, tripped or stopped, and the
module not halted. -/
def State.coreRuns (s : State) (c : Nat) : Bool :=
  let r := s.region c
  r.power != 3 && !r.tripped && !r.coolant && !r.interval && !s.boot.halted

/-- R174: the list whose next command the control core of `q` may take now. -/
def State.fetching (s : State) (q : Nat) : Option ListRun :=
  let r := s.queue q
  if qEnabled r.entry && !qFaulted r.entry && r.ringWait.isNone && !s.holdStops q && s.coreRuns (qHome r.entry) then
    match r.run with
    | some l => if !l.ended && l.wait == .none then some l else none
    | none => none
  else none

/-- R174: two commands conflict when one writes a handle the other reads or writes. -/
def conflicts (reads writes : List Nat) (st : Started) : Bool :=
  writes.any (fun h => st.reads.contains h || st.writes.contains h) || reads.any (fun h => st.writes.contains h)

/-- R174: hazards, the ordered bit and the window of 16 let the command start. -/
def State.mayStart (s : State) (q : Nat) (c : Line) (reads writes : List Nat) : Bool :=
  let r := s.queue q
  decide (r.started.length < 16) && !(cmdOrdered c && !r.started.isEmpty) && !r.started.any (conflicts reads writes)

/-- The command as a started one, numbered by the queue's serial (log entry 7). -/
def State.asStarted (s : State) (q : Nat) (l : ListRun) (c : Line) : Started :=
  let r := s.queue q
  { id := r.serial + 1, index := l.pc, listId := l.listId, depth := r.depth, cmd := c, op := cmdOp c, since := s.now,
    sr := s.dv 0x800100 % 4 == 2 }

/-- R39, R50: a command's rounding field with the default of its start in place of 0. -/
def Started.rounding (st : Started) (field : Nat) : Nat := if field = 0 then (if st.sr then 2 else 1) else field

/-- The list goes on behind the command. -/
def State.advance (s : State) (q : Nat) : State :=
  s.onQueue q (fun r => { r with serial := r.serial + 1, run := r.run.map (fun l => { l with pc := l.pc + 1 }) })

/-- R138: a command that names a summary slot is the latest of its list that does. -/
def State.nameSlot (s : State) (q : Nat) (st : Started) : State :=
  match summarySlot st.cmd with
  | none => s
  | some k => s.onQueue q (fun r => { r with slotUses := put none r.slotUses (k + 16 * st.depth) (some (st.listId, st.id)) })

/-- A command that completes as it is taken, with the status of `f` and an effect of its own, when its record has room
(R175, R176). -/
def State.atOnce (s : State) (q : Nat) (l : ListRun) (c : Line) (f : Fail) (eff : State → State := id) : State :=
  if (s.queue q).blocked (cmdRecord c) f.st then s.stampRing q
  else ((eff ((s.advance q).nameSlot q (s.asStarted q l c))).finish q (s.asStarted q l c) f (signal := s.signalsHere (s.asStarted q l c))).settled

/-- The completion of a command with nothing to report. -/
def Fail.ok : Fail := { st := 0, named := false }

/-- R227: the wait of a queue's next command on a critical package begins. -/
def State.waitHot (s : State) (q : Nat) (hot : Bool) : State :=
  if hot then s.onQueue q (fun r => { r with hotSince := match r.hotSince with | some t => some t | none => some s.now }) else s

/-- R227: such a wait ends; it is counted. -/
def State.endHot (s : State) (q : Nat) : State :=
  match (s.queue q).hotSince with
  | some t => (s.surge 0x400D00 t).onQueue q (fun r => { r with hotSince := none })
  | none => s

/-- A started command enters its engine; tensors it adds into are opened (R65); the packages it uses are looked at (R226). -/
def State.enter (s : State) (q : Nat) (st : Started) : State :=
  let st' := { st with derated := s.deratedStatus (st.reads ++ st.writes) != 0 }
  st.opens.foldl State.openEpoch ((((s.endHot q).advance q).nameSlot q st').onQueue q (fun r => { r with started := r.started ++ [st'] }))

/-- R14, R173: what is wrong with a command's header for its queue: reserved opcode, reserved bits, class. -/
def State.headerFail (s : State) (q : Nat) (c : Line) (rsv : List (Nat × Nat × Nat)) : Option Fail :=
  firstFail [
    failIf (reservedOp (cmdOp c)) { st := St.reservedSet, value := cmdOp c },
    reservedFail c St.reservedSet (headerReserved ++ rsv),
    failIf (match opClass (cmdOp c) with | some k => k != qClass (s.queue q).latched | none => false)
      { st := St.wrongClass, value := cmdOp c } ]

/-- The status that stops a fetch of the control core at a global address (R210, R213, R299, R306, R445), 0 for none. -/
def State.fetchStatus (s : State) (g n : Nat) : Nat :=
  match s.resolve g with
  | .here a =>
    let st := s.memStatus a n .command false
    if st ≠ 0 then st else if s.badRange a n then St.dataPoisoned else St.ok
  | .companion _ a => s.hostAccess a n 0
  | .away _ _ => St.ok
  | .nowhere => St.addressUnmapped

/-- The record of such a fetch where it is an ADDRESS_FAULT (R213, R445), and its log index. -/
def State.fetchFault (s : State) (q g st : Nat) : State × Nat :=
  if st = St.memoryDenied ∨ st = St.addressUnmapped then
    let s1 := s.record { s.mkRec 0x4006 0 47 (1 + s.node * 2 ^ 16 + g % 2 ^ 48 * 2 ^ 64) with status := st, queue := q }
    (s1, s1.logSlot)
  else (s, 0xFFFF)

/-- Where the next command of a list lies. -/
def ListRun.next (l : ListRun) : Nat := l.addr + 64 * l.pc

/-- R299: a list whose next command cannot be fetched completes with the status of the fetch (log entry 139). -/
def State.endUnreachable (s : State) (q : Nat) (l : ListRun) (st : Nat) : State :=
  let f := s.fetchFault q l.next st
  (f.1.onQueue q (fun r => { r with
    run := r.run.map (fun l => { l with ended := true, bad := st, badId := 0, badSlot := f.2 }) })).settled

/-- R174, R175: a command of queue `q` taken by its control core: nothing while the core does not take it or the command must
wait; else it fails a check or goes on as `go` says. A list whose command cannot be fetched ends instead (R299). -/
def State.take (s : State) (q : Nat) (c : Line) (reads writes : List Nat) (check : ListRun → Option Fail)
    (go : ListRun → State) : State :=
  match s.fetching q with
  | none => s
  | some l =>
    if s.fetchStatus l.next 64 ≠ 0 then s.endUnreachable q l (s.fetchStatus l.next 64)
    else if s.mayStart q c reads writes then
      match check l with
      | some f => s.atOnce q l c f
      | none => go l
    else s

/-- The started command of a queue by its number. -/
def State.startedOf (s : State) (q id : Nat) : Option Started := (s.queue q).started.find? (fun x => x.id == id)

/-- What the completion of a started command reports. -/
def Started.report (st : Started) : Fail :=
  { st := st.status, named := false, handle := st.failHandle, addr := st.failAddr, value := st.failValue,
    slot := st.failSlot }

/-- A started command changed in place. -/
def State.onStarted (s : State) (q id : Nat) (f : Started → Started) : State :=
  s.onQueue q (fun r => { r with started := r.started.map (fun x => if x.id == id then f x else x) })

/-! ### Writes that must wait -/

/-- R69: whether a command's contributions to a tensor must wait for a staging frame. -/
def State.stageHeld (s : State) (h : Nat) (blocks : List Nat) : Bool :=
  match s.tensor h with
  | some t => descBook t.desc && s.stageBlocked t blocks
  | none => false

/-- R69: the wait of a command for a staging frame begins. -/
def State.beginStaging (s : State) (q id : Nat) : State :=
  s.onStarted q id (fun st => { st with stageSince := match st.stageSince with | some t => some t | none => some s.now })

/-- R332: the wait of a command under the copy-before-write barrier begins, is counted there as one held write, and has the segments of
its outputs copied early. -/
def State.barAct (s : State) (q : Nat) (st : Started) (outs : List Nat) : State :=
  match st.barSince with
  | some _ => s
  | none => ((s.bump 0x601A00 1).copyFirst (s.sheetSegs outs)).onStarted q st.id (fun x => { x with barSince := some s.now })

/-- The waits for a staging frame, at the barrier and for a critical package end, and are counted. -/
def State.endHolds (s : State) (q : Nat) (st : Started) : State :=
  let s1 := match st.stageSince with | some t => s.surge 0x801300 t | none => s
  let s2 := match st.barSince with | some t => s1.surge 0x601900 t | none => s1
  let s3 := match st.hotSince with | some t => s2.surge 0x400D00 t | none => s2
  let s4 := match st.ingressSince with | some w => s3.surge w.1 w.2 | none => s3
  if st.stageSince.isNone ∧ st.barSince.isNone ∧ st.hotSince.isNone ∧ st.ingressSince.isNone then s
  else s4.onStarted q st.id (fun x => { x with stageSince := none, barSince := none, hotSince := none, ingressSince := none })

/-- The origin of the accesses of a started command. -/
def State.originOf (s : State) (q id : Nat) : Origin :=
  { node := s.node, cmd := (s.startedOf q id).map (fun st => (q, st.listId, st.index)) }

/-- R413 order of statuses: a started command meets a status; the one that ranks higher stays. -/
def State.meet (s : State) (q id st : Nat) : State := s.onStarted q id (fun x => { x with status := worse x.status st })

/-- Flags ORed into a started command (R49). -/
def State.raise (s : State) (q id fl : Nat) : State := s.onStarted q id (fun x => { x with flags := x.flags ||| flagWord fl })

end Sys2Proof.Machine
end

