-- ==== Sys2Proof/Machine/Queues.lean ====
section
/-!
DEFINITION. Queues: enabling (R168), disabling, the watch line (R167, R169), the start of a list (R170), home clusters (R171,
R201), and completion of started commands (R175).
-/

namespace Sys2Proof.Machine

/-! ### Home clusters (R171, R201) -/

/-- Other queues than `q` homed on a cluster. -/
def State.homed (s : State) (q c : Nat) : Nat :=
  (s.queues.filter (fun e => e.1 != q && qEnabled e.2.entry && qHome e.2.entry == c)).length

/-- Whether a cluster is ENABLED (R430). -/
def State.enabled (s : State) (c : Nat) : Bool := (s.cluster c).state == 0

/-- R171: the preferred cluster if it is enabled, else the enabled one with the fewest homed queues, lowest number on a tie. -/
def State.homeFor (s : State) (q pref : Nat) : Nat :=
  if decide (pref < 32) && s.enabled pref then pref
  else
    let cs := (List.range 32).filter s.enabled
    cs.foldl (fun best c => if s.homed q c < s.homed q best then c else best) (cs.headD 0)

/-- The home cluster written into the entry (R166 byte 3). -/
def State.setHome (s : State) (q : Nat) : State :=
  let c := s.homeFor q (qPreference (s.queue q).latched)
  s.onQueue q (fun r => { r with entry := setFld r.entry 3 1 c })

/-- R201: a queue loses its control state: its list in progress ends with CONTROL_LOST once its started commands are done,
its slots go to kind 0, and it is rehomed. -/
def State.loseControl (s : State) (q : Nat) : State :=
  (s.onQueue q (fun r => { r with
    stack := [], slots := [],
    run := r.run.map (fun l => { l with wait := .none, ended := true, bad := St.controlLost, badId := 0, badSlot := 0xFFFF }) })).setHome q

/-! ### Enabling and disabling (R168) -/

/-- Whether a ring address lies where records and entries can be: plain memory here, or another node. -/
def State.ringAddress (s : State) (g : Nat) : Bool :=
  match s.resolve g with
  | .here a => match place a with | .lpddr _ => true | .scratch _ => true | _ => false
  | .companion _ _ => true
  | .away _ _ => true
  | .nowhere => false

/-- R168: the status that refuses an enable, 0 for none. -/
def State.enableStatus (s : State) (e : Line) : Nat :=
  let size := fun n => decide (4 ≤ n) && decide (n ≤ 16)
  if bitsAt e 0 3 5 ≠ 0 ∨ bitsAt e 1 5 3 ≠ 0 ∨ 5 < qClass e ∨ (31 < qPreference e ∧ qPreference e ≠ 0xFF) ∨
      !zeroBytes e [(6, 2), (42, 2), (48, 16)] then St.reservedSet
  else if qRingBase e % 64 ≠ 0 ∨ qRecBase e % 64 ≠ 0 then St.misaligned
  else if !size (qRingLog e) || !(qRecLog e == 0 || size (qRecLog e)) || !s.ringAddress (qRingBase e) ||
      (qRecLog e != 0 && !s.ringAddress (qRecBase e)) then St.fieldRange
  else St.ok

/-- R168: bytes 1–5, 8–15 and 24–31 of an entry. -/
def latchBytes (e : Line) : Line :=
  [(1, 5), (8, 8), (24, 8)].foldl (fun l (r : Nat × Nat) => setFld l r.1 r.2 (fld e r.1 r.2)) 0

/-- R168: the entry of a queue that is enabled: enable and sleeping set, faulted clear, indices as the watch line has them. -/
def enabledEntry (e w : Line) : Line :=
  setFld (setFld (qSetBit (qSetBit (qSetBit e 0 true) 1 false) 2 true) 16 8 (wProducer w)) 32 8 (wRecConsumer w)

/-- R168: the list in progress ends with QUEUE_DISABLED when its started commands have completed. -/
def ListRun.disabled (l : ListRun) : ListRun := { l with ended := true, bad := St.queueDisabled, badId := 0, badSlot := 0xFFFF }

/-- A list that is still in progress when its queue is enabled anew: it ends as a disabled one, and its end moves no index of the
new count (log entry 154). -/
def ListRun.left (l : ListRun) : ListRun :=
  { (if l.bad = St.queueDisabled then l else { l.disabled with wait := .none }) with stale := true }

/-- R166, R168: enable written 1 on a disabled or faulted queue: faulted is cleared, and the queue runs or is refused. -/
def State.enableQueue (s : State) (q : Nat) : State :=
  let r := s.queue q
  let st := s.enableStatus r.entry
  if st ≠ 0 then s.setQueue q { r with
    entry := setFld (qSetBit (qSetBit (qSetBit r.entry 0 false) 1 false) 2 false) 40 2 st }
  else
    ((s.setQueue q { r with
      entry := enabledEntry r.entry r.watch, latched := latchBytes r.entry, run := r.run.map ListRun.left, stack := [],
      slots := [], ringWait := none }).setHome q).settled

/-- R168: enable written 0: the queue stops at its next command boundary. -/
def State.disableQueue (s : State) (q : Nat) : State :=
  (s.onQueue q (fun r => { r with
    entry := qSetBit (qSetBit r.entry 0 false) 2 false, run := r.run.map ListRun.disabled })).settled

/-- QUEUE_ENABLE (R168). A queue that runs is not enabled again. -/
def execQueueEnable (q : Fin 256) (s : State) : Host.Outcome State Fault Refusal :=
  let e := (s.queue q).entry
  .next (if qEnabled e && !qFaulted e then s else s.enableQueue q)

/-- QUEUE_DISABLE (R168). -/
def execQueueDisable (q : Fin 256) (s : State) : Host.Outcome State Fault Refusal :=
  .next (if qEnabled (s.queue q).entry then s.disableQueue q else s)

/-! ### The watch line (R167, R169, R176) -/

/-- R169: the status with which a queue faults, 0 for none. -/
def Queue.faultStatus (r : Queue) : Nat :=
  let p := wProducer r.watch
  let c := qConsumer r.entry
  if p < c then St.indexBackward else if c + 2 ^ qRingLog r.latched < p then St.ringOverrun else 0

/-- R169: faulted, last status and an error record. -/
def State.faultQueue (s : State) (q st : Nat) : State :=
  let r := s.queue q
  let s1 := s.onQueue q (fun r => { r with entry := setFld (qSetBit (qSetBit r.entry 1 true) 2 false) 40 2 st })
  s1.record { s1.mkRec 0xA003 0 (qHome r.entry) (wProducer r.watch * 2 ^ 64 + qConsumer r.entry * 2 ^ 128) with
    status := st, queue := q }

/-- R176: a queue held on a full ring resumes when there is room. -/
def State.resumeRing (s : State) (q : Nat) : State :=
  let r := s.queue q
  match r.ringWait with
  | some t => if r.ringFull then s else (s.surge 0xA04D00 t).onQueue q (fun r => { r with ringWait := none })
  | none => s

/-- R167: the bytes of a watch line replaced from an offset; bytes past 63 are not in it. -/
def storeWatch (w : Line) (off : Nat) (bytes : List Byte) : Line :=
  ((List.zip (List.range bytes.length) bytes).filter (fun p => off + p.1 < 64)).foldl (fun w p =>
    setFld w (off + p.1) 1 p.2.toNat) w

/-- R167, R169, R176: the engine wakes and judges the indices. `before` is the line as it was. -/
def State.wakeQueue (s : State) (q : Nat) (before : Line) : State :=
  let r := s.queue q
  if qEnabled r.entry && !qFaulted r.entry then
    if r.faultStatus ≠ 0 then s.faultQueue q r.faultStatus
    else
      let s1 := s.resumeRing q
      let idle := decide (wProducer r.watch = qConsumer r.entry)
      let s2 := if decide (wProducer before = wProducer r.watch) && decide (wRecConsumer before = wRecConsumer r.watch) then
        s1.bump 0xA04600 1 else s1
      s2.onQueue q (fun r => { r with entry := qSetBit r.entry 2 idle })
  else s

/-- R165, R167: a store to bytes of a watch line. -/
def State.watchStore (s : State) (q off : Nat) (bytes : List Byte) : State :=
  let w := (s.queue q).watch
  ((s.onQueue q (fun r => { r with watch := storeWatch r.watch off bytes })).wakeQueue q w).settled

/-- WATCH_LINE_STORE (R167). -/
def execWatchLineStore (q : Fin 256) (offset : Fin 64) (bytes : List Byte) (s : State) :
    Host.Outcome State Fault Refusal :=
  .next (s.watchStore q offset bytes)

/-! ### The start of a list (R170) -/

/-- Whether queue `q` may start its next list now. -/
def State.listDue (s : State) (q : Nat) : Bool :=
  let r := s.queue q
  qEnabled r.entry && !qFaulted r.entry && r.ringWait.isNone && r.run.isNone && !s.holdStops q && s.coreRuns (qHome r.entry) &&
    decide (qConsumer r.entry < wProducer r.watch) && r.faultStatus == 0

/-- R170: where the submission entry at the consumer index lies. -/
def Queue.submissionAddr (r : Queue) : Nat := qRingBase r.latched + 16 * (qConsumer r.entry % 2 ^ qRingLog r.latched)

/-- R170: the submission entry at the consumer index; a ring of another node is read over its link (operand). -/
def State.submission (s : State) (q : Nat) (away : BitVec 128) : Nat :=
  match s.resolve (s.queue q).submissionAddr with
  | .here a => s.rdNat a 16
  | _ => away.toNat

/-- R170, R183: the list an entry starts; a reserved field or a misaligned address ends it at once. -/
def listOf (e now : Nat) : ListRun :=
  let bad := if subReserved e then St.reservedSet else if subAddr e % 64 ≠ 0 then St.misaligned else 0
  { addr := subAddr e, listId := subListId e, topId := subListId e, counter := subCounter e, record := subRecord e,
    signal := subSignal e, since := now, bad := bad, ended := bad != 0 }

/-- The next list of a queue starts; one whose entry cannot be fetched ends at once (log entry 139). -/
def State.startList (s : State) (q : Nat) (away : BitVec 128) : State :=
  let g := (s.queue q).submissionAddr
  let st := s.fetchStatus g 16
  let f := s.fetchFault q g st
  let l := if st ≠ 0 then { listOf 0 s.now with ended := true, bad := st, badSlot := f.2 } else listOf (s.submission q away) s.now
  (f.1.onQueue q (fun r => { r with entry := qSetBit r.entry 2 false, stack := [], run := some l })).settled

/-- R171, R201: a sleeping queue moves to the cluster R171 names; one whose home is not enabled loses its control state. -/
def State.rehome (s : State) (q : Nat) : State :=
  let e := (s.queue q).entry
  if qEnabled e then
    if !s.enabled (qHome e) then (s.loseControl q).settled
    else if qSleeping e then s.setHome q else s
  else s

/-- QUEUE_REHOME (R171). -/
def execQueueRehome (q : Fin 256) (s : State) : Host.Outcome State Fault Refusal := .next (s.rehome q)

end Sys2Proof.Machine
end

