-- ==== Sys2Proof/Machine/Engines.lean ====
section
/-!
DEFINITION. What the engines share: throttle counters (R370), the slope governor (R363), regions that wake for work (R350),
occupancy (R195) and the fetch of remote operands (R194).
-/

namespace Sys2Proof.Machine

/-! ### Throttle counters (R370) -/

/-- An event of a throttle reason. -/
def State.throttleEvent (s : State) (reason : Nat) : State :=
  let k := 0x202000 + reason
  s.setDv k (natSetFld (s.dv k) 0 8 (natFld (s.dv k) 0 8 + 1))

/-- Time under a throttle reason, in ns. -/
def State.throttleTime (s : State) (reason ns : Nat) : State :=
  let k := 0x202000 + reason
  s.setDv k (natSetFld (s.dv k) 8 8 (natFld (s.dv k) 8 8 + ns))

/-! ### The slope governor (R363) -/

def State.governor (s : State) (east : Bool) : Governor := if east then s.power.east else s.power.west
def State.setGovernor (s : State) (east : Bool) (g : Governor) : State :=
  { s with power := if east then { s.power with east := g } else { s.power with west := g } }

/-- R363: the allowance grown to now: half the slope limit, in mA per ns, up to 10 A. -/
def Governor.grown (g : Governor) (slope now : Nat) : Governor :=
  { g with allowance := min 10000 (g.allowance + (now - g.grownAt) * slope / 2), grownAt := now }

/-- R363: the current step of a request, mA, at most the governor's 10 A so that every request is granted in time (the table is
in the flash: log entry 26). -/
def State.currentStep (s : State) (engine format region : Nat) : Nat :=
  min 10000 (Config.currentStep engine format (s.region region).point)

/-- R363: a request: granted at once when the allowance suffices and no other waits, else it waits. -/
def State.askSlope (s : State) (kind region step : Nat) (who : Nat × Nat) : State × Bool :=
  let east := eastRegion region
  let g := (s.governor east).grown (s.dv 0x200600) s.now
  if g.waiting.isEmpty && decide (step ≤ g.allowance) then
    (s.setGovernor east { g with allowance := g.allowance - step }, true)
  else
    ((s.setGovernor east { g with waiting := g.waiting ++
      [{ kind := kind, region := region, who := who, step := step, since := s.now }] }).throttleEvent 4, false)

/-! ### Filler activity (R364) -/

/-- R364: how long filler ran since it was last worked out: until its current fell to nothing at half the slope limit. -/
def Region.fillerTime (x : Region) (slope now : Nat) : Nat := min (now - x.fillerAt) (ceilDiv (2 * x.filler) slope)

/-- R364: the filler of a region worked out to now: its current falls at the slope of its half, its time is counted. -/
def State.settleFiller (s : State) (r : Nat) : State :=
  let x := s.region r
  let slope := s.dv 0x200600
  if x.filler = 0 then s
  else (s.bump 0x200900 (x.fillerTime slope s.now)).setRegion r
    { x with filler := x.filler - (s.now - x.fillerAt) * slope / 2, fillerAt := s.now }

/-- R364: work of a current step ends in a cluster: filler takes its place (log entry 161). -/
def State.fallBy (s : State) (r step : Nat) : State :=
  if step = 0 ∨ (s.region r).power = 3 then s
  else (s.settleFiller r).onRegion r (fun x => { x with filler := x.filler + step, fillerAt := s.now })

/-- R363, R364: the start of work in a cluster takes the place of filler at once; for what goes beyond it the governor is asked. -/
def State.askWork (s : State) (kind region step : Nat) (who : Nat × Nat) : State × Bool :=
  let s1 := s.settleFiller region
  let have' := min step (s1.region region).filler
  let s2 := if have' = 0 then s1 else s1.onRegion region (fun x => { x with filler := x.filler - have' })
  if have' = step ∧ 0 < step then (s2, true) else s2.askSlope kind region (step - have') who

/-! ### Regions and occupancy -/

/-- R350: whether a region's clock runs. -/
def State.regionRuns (s : State) (r : Nat) : Bool :=
  let x := s.region r
  x.power == 0 && !x.tripped && !x.interval && !x.coolant

/-- R384: work stops the test pattern of a cluster; its keep-warm time since it was last counted is added to 0x2841:00. -/
def State.stopPattern (s : State) (c : Nat) : State :=
  if (s.cluster c).pattern.isSome then
    (s.bump 0x284100 (s.now - s.power.accruedAt)).onCluster c (fun k => { k with pattern := none })
  else s

/-- R350: work arrives at a region: a sleeping one is asked to wake, its idle time starts anew, and a test pattern stops. -/
def State.callRegion (s0 : State) (r : Nat) : State :=
  let s := if r < 32 then s0.stopPattern r else s0
  let x := s.region r
  s.setRegion r { x with wake := x.wake || x.power == 1 || x.power == 2, idleSince := s.now }

/-- R195: work dispatched to a cluster's engines, in cycles, counts until it completes (log entry 68). -/
def State.occupy (s : State) (c cycles : Nat) : State :=
  s.onCluster c (fun k => { k with occupancy := k.occupancy + cycles })
def State.relieve (s : State) (c cycles : Nat) : State :=
  s.onCluster c (fun k => { k with occupancy := k.occupancy - cycles })

/-! ### Shares of a VECTOR or an UPDATE (R192, R195, R196) -/

/-- The shares of a started command; which engine: VECTOR or UPDATE. -/
def Work.shares : Work → List Share
  | .vector _ xs => xs
  | .update _ xs => xs
  | _ => []

/-- Its shares changed. -/
def Work.mapShares (f : Share → Share) : Work → Work
  | .vector p xs => .vector p (xs.map f)
  | .update p xs => .update p (xs.map f)
  | w => w

/-- R195, R350: the work of a command's shares is done, or dropped: their regions idle from now on. -/
def State.relieveShares (s : State) (w : Work) : State :=
  w.shares.foldl (fun s x =>
    let s1 := (s.relieve x.cluster x.cost).onRegion x.cluster (fun r => { r with idleSince := s.now })
    if x.granted then s1.fallBy x.cluster x.step else s1) s

/-- The started commands of every queue that hold shares. -/
def State.sharers (s : State) : List (Nat × Started) :=
  s.queues.flatMap (fun e => (e.2.started.filter (fun st => !st.done && !st.work.shares.isEmpty)).map (fun st => (e.1, st)))

/-- R196: slots of the vector engine (opcode 0x20) or the update unit of a cluster that are taken. -/
def State.shareSlots (s : State) (c op : Nat) : Nat :=
  s.sharers.foldl (fun n x => if x.2.op = op then
    (x.2.work.shares.filter (fun y => y.cluster == c)).foldl (fun n y => n + y.slots) n else n) 0

/-- R194: an operand tile of the pager, apart from the unit that reads it. -/
def Fetch.same (x y : Fetch) : Bool :=
  x.tile.q == y.tile.q && x.tile.id == y.tile.id && x.h == y.h && x.ofB == y.ofB && x.b == y.b && x.part == y.part && x.n == y.n

/-- One fetch of each operand tile among some. -/
def Fetch.distinct : List Fetch → List Fetch
  | [] => []
  | x :: xs => let r := Fetch.distinct xs; if r.any x.same then r else x :: r

/-- R114: staged results of a MATMUL that a cluster holds. -/
def stagedOn (out : Tbl (Option Nat)) (c : Nat) : Nat :=
  (out.filter (fun e => match e.2 with | some x => x / 2 ^ 34 == c + 1 | none => false)).length

/-- R114, R192: pages of a cluster that hold staged results, 4 bytes each. -/
def State.stagePages (s : State) (c : Nat) : Nat :=
  s.queues.foldl (fun n e => e.2.started.foldl (fun n st => match st.work with
    | .matmul w => n + ceilDiv (4 * stagedOn w.out c) 0x10000
    | _ => n) n) 0

/-- R192: pages of a cluster in use outside SCRATCH tensors: working tiles, pager buffers, staged results, shares. A working tile and a
share take one page each (DESIGN CHOICE, log entry 178). -/
def State.pagesTaken (s : State) (c : Nat) : Nat :=
  let k := s.cluster c
  k.workPages + (Fetch.distinct (k.buffers ++ k.fetches.filter (·.taken))).foldl (fun n x => n + ceilDiv x.bytes 0x10000) 0 +
    s.stagePages c +
    (s.sharers.foldl (fun n x => n + (x.2.work.shares.filter (fun y => y.cluster == c && decide (0 < y.slots))).length) 0)

/-- R192: pages of a cluster's 384 that are free for them: SCRATCH tensors hold, or may still bind, up to 256. -/
def State.pagesLeft (s : State) (c : Nat) : Nat := 384 - (s.pagesTaken c + min 256 (s.pagesUsed c + s.pagesReserved))

/-- R192, R196: one share whose tiles wait takes slots for as many as its engine has free, and a page; the wait is counted. -/
def State.slotShare (s : State) (q id op : Nat) (x : Share) : State :=
  let free := 64 - s.shareSlots x.cluster op
  if x.slots = 0 ∧ x.ran < x.tiles ∧ 0 < free ∧ 0 < s.pagesLeft x.cluster then
    { (s.surge 0xA04700 x.since).onStarted q id (fun st => { st with work := st.work.mapShares (fun y =>
        if y.cluster = x.cluster then { y with slots := min (y.tiles - y.ran) free } else y) }) with lastQueue := q }
  else s

/-- A list by a key, smallest first, in its order where keys agree. -/
def insertBy {α : Type} (key : α → Nat) (x : α) : List α → List α
  | [] => [x]
  | y :: ys => if key x < key y then x :: y :: ys else y :: insertBy key x ys
def sortBy {α : Type} (key : α → Nat) (xs : List α) : List α := xs.foldl (fun l x => insertBy key x l) []

/-- R196: commands in the order in which an engine takes their tiles: those past the age ceiling ahead of any priority, the oldest
first (log entry 179); then by priority, round robin among the queues of one priority. -/
def State.engineOrder (s : State) (js : List (Nat × Started)) : List (Nat × Started) :=
  let aged := fun (x : Nat × Started) => decide (s.dv 0xA04500 < s.now - x.2.since)
  sortBy (fun x => x.2.since) (js.filter aged) ++ [3, 2, 1, 0].flatMap (fun p =>
    let mine := js.filter (fun x => !aged x && qPriority (s.queue x.1).latched == p)
    mine.filter (fun x => decide (s.lastQueue < x.1)) ++ mine.filter (fun x => decide (x.1 ≤ s.lastQueue)))

/-- R196: waiting shares take slots in that order. -/
def State.slotShares (s : State) : State :=
  let js := s.sharers.filter (fun x => x.2.work.shares.any (fun y => y.slots == 0 && decide (y.ran < y.tiles)))
  (s.engineOrder js).foldl (fun s x => x.2.work.shares.foldl (fun s y => s.slotShare x.1 x.2.id x.2.op y) s) s

/-- Whether a fetch of the pager is for a command. -/
def Fetch.ofCmd (f : Fetch) (q id : Nat) : Bool := f.tile.q == q && f.tile.id == id

/-- Whether the tiles of a share that hold slots can pass their engine: current step and region are there, and so are their
operands (R193, R350, R363). -/
def State.sharePasses (s : State) (q id : Nat) (x : Share) : Bool :=
  x.granted && decide (0 < x.slots) && s.regionRuns x.cluster &&
    !(s.cluster x.cluster).fetches.any (fun f => f.ofCmd q id && (x.units.take (x.ran + x.slots)).contains f.tile.unit)

/-- Whether all tiles of a command's shares have passed their engines. -/
def Started.sharesRan (st : Started) : Bool := st.work.shares.all (fun x => decide (x.tiles ≤ x.ran))

/-- R196: the tiles of a command that hold slots pass their engines and free them; the next ones take slots. Tiles run to
completion. -/
def State.runShares (q id : Nat) : Nat → State → State
  | 0, s => s
  | n + 1, s => match s.startedOf q id with
    | none => s
    | some st =>
      if st.sharesRan || !st.work.shares.any (s.sharePasses q id) then s
      else State.runShares q id n ((s.onStarted q id (fun st => { st with work := st.work.mapShares (fun x =>
        if s.sharePasses q id x then { x with ran := x.ran + x.slots, slots := 0, since := s.now } else x) })).slotShares)

/-- The rounds that all tiles of some shares take at most. -/
def Work.rounds (w : Work) : Nat := w.shares.foldl (fun n x => n + x.tiles) 1

/-- A cluster a command runs on for the parts that no one cluster writes: that of its first share. -/
def Work.mainCluster (w : Work) : Nat := (w.shares.map (·.cluster)).headD 0

/-- R366: the phase of a queue (0x2014:00). -/
def State.phase (s : State) (q : Nat) : Nat := s.dv 0x201400 / 4 ^ q % 4

/-- Whether a cluster holds dispatched matrix work. -/
def Cluster.busy (k : Cluster) : Bool :=
  !k.slots.isEmpty || !k.finished.isEmpty || k.arrays.any (fun e => e.2.cur.isSome || !e.2.full.isEmpty)

/-- R350: whether a cluster holds work: tiles, transfers, a VECTOR or an UPDATE. -/
def State.clusterWorks (s : State) (c : Nat) : Bool :=
  let k := s.cluster c
  k.busy || !k.pageWait.isEmpty || !k.fetches.isEmpty || !k.chanWait.isEmpty || k.chans.any (fun e => e.2.job.isSome) ||
    s.sharers.any (fun x => x.2.work.shares.any (fun y => y.cluster == c))

/-- R366: work of a queue dispatched to a cluster: its region prefers the highest point among the phases of its work. -/
def State.prefer (s : State) (c q : Nat) : State :=
  let p := s.dv (0x201301 + s.phase q)
  s.onRegion c (fun r => { r with preferred := if s.clusterWorks c then max r.preferred p else p })

/-! ### Placement (R191, R195) -/

/-- The cluster a local address is near: that of its package (R214), or of its scratchpad. -/
def nearCluster (a : Nat) : Option Nat :=
  match place a with
  | .lpddr n => some (pkgOf n)
  | .scratch x => some ((x - 0x100000000000) / 0x2000000)
  | _ => none

/-- The cluster near an element's data, where its frame is bound. -/
def State.elemCluster (s : State) (d : Line) (idx : Nat) : Option Nat :=
  (s.dataAddr d (elemUnit d idx * mapUnit d)).bind nearCluster

/-- The clusters with the largest share of some weights. -/
def heaviest (xs : List (Nat × Nat)) : List Nat :=
  let sum := fun (c : Nat) => xs.foldl (fun n x => if x.1 = c then n + x.2 else n) 0
  let cs := (xs.map (·.1)).eraseDups
  cs.filter (fun c => cs.all (fun k => decide (sum k ≤ sum c)))

/-- R227: clusters to which tiles are dispatched: enabled, not dark, their package not critical. -/
def State.candidates (s : State) : List Nat :=
  (List.range 32).filter (fun c => s.enabled c && (s.region c).power != 3 && (s.package c).derate != 3)

/-- Rule 5: the lowest measured occupancy, then the lowest number. -/
def State.leastBusy (s : State) (cs : List Nat) : Nat :=
  cs.foldl (fun best c => if (s.cluster c).occupancy < (s.cluster best).occupancy then c else best) (cs.headD 0)

/-- R195 rules 3 and 4: the cluster nearest to the most bytes of some inputs: MAKER_LOCAL, LATENT and SCRATCH ones, else
STREAMED ones. Among clusters that hold as many, rule 5. -/
def State.nearest (s : State) (cs : List Nat) (ins : List (Line × Nat)) : Option Nat :=
  let near := fun (classes : List Nat) => heaviest ((ins.filterMap (fun x =>
    if classes.contains (descClass x.1) then (s.elemCluster x.1 x.2).map (fun c => (c, (descFmt x.1).bits)) else none)).filter
      (fun x => cs.contains x.1))
  match near [1, 2, 4], near [0] with
  | k :: ks, _ => some (s.leastBusy (k :: ks))
  | [], k :: ks => some (s.leastBusy (k :: ks))
  | [], [] => none

/-- R191, R195 rule 2: the cluster of the frame-map entry an output element lies in: where it is bound, or where the scheduler
has dealt it. -/
def State.outCluster (s : State) (h idx : Nat) : Option Nat :=
  match s.tensor h with
  | none => none
  | some t =>
    if descClass t.desc = 1 ∨ descClass t.desc = 2 ∨ descClass t.desc = 4 then
      (match s.elemCluster t.desc idx with
        | some k => some k
        | none => look none t.dealt (elemUnit t.desc idx)).filter s.enabled
    else none

/-- R191: the tiles of the unbound frame of an output element all go to one cluster. -/
def State.dealFrame (s : State) (h idx c : Nat) : State :=
  match s.tensor h with
  | none => s
  | some t =>
    if (descClass t.desc = 1 ∨ descClass t.desc = 2 ∨ descClass t.desc = 4) ∧ (s.elemCluster t.desc idx).isNone then
      s.onTensor h (fun t => { t with dealt := put none t.dealt (elemUnit t.desc idx) (some c) })
    else s

/-- R195 rules 3 to 5 among some clusters, and whether rules 3 and 4 yielded to rule 5. The threshold in ns is taken at 2.7 GHz (DESIGN
CHOICE, log entry 180). -/
def State.placeBy (s : State) (cs : List Nat) (ins : List (Line × Nat)) : Nat × Bool :=
  let five := s.leastBusy cs
  match s.nearest cs ins with
  | none => (five, false)
  | some k =>
    if s.dv 0xA04400 = 0 then (five, five != k)
    else if 10 * (s.cluster five).occupancy + 27 * s.dv 0xA04400 < 10 * (s.cluster k).occupancy then (five, true)
    else (k, false)

/-- R195 rules 2 to 5: the cluster of a tile that writes element `idx` of a tensor and reads some inputs, and whether rules 3
and 4 yielded to rule 5 (by log entry 180); none while rule 2 names a cluster whose package is critical (R227). -/
def State.placeTile (s : State) (h idx : Nat) (ins : List (Line × Nat)) : Option (Nat × Bool) :=
  let cs := s.candidates
  match s.outCluster h idx with
  | some k => if cs.contains k then some (k, false) else none
  | none => if cs.isEmpty then none else some (s.placeBy cs ins)

/-! ### Remote operands (R187, R194) -/

/-- R242, R299: the read-back of another node fails: refused, which ends the transfer with READBACK_FAILED; a link that is DOWN ends
the command that waits on it with HOST_LINK_DOWN. -/
def TransferWork.backFails (w : TransferWork) (st : Nat) : TransferWork :=
  { w with back := some true, nak := true, fail := if st = St.hostLinkDown then some (w.fail.getD (w.next, st)) else w.fail }

/-! Channels and requests of a cluster (R197, R232) -/

def Cluster.chan (k : Cluster) (n : Nat) : XferChan := look {} k.chans n
def State.chan (s : State) (c n : Nat) : XferChan := (s.cluster c).chan n
def State.setChan (s : State) (c n : Nat) (x : XferChan) : State :=
  s.onCluster c (fun k => { k with chans := put {} k.chans n x })

/-- Requests of a command that another node has not answered. -/
def State.outstanding (s : State) (q id : Nat) : Nat :=
  let mine := fun (o : Option (Nat × Nat)) => o == some (q, id)
  (s.reqs.filter (fun r => mine r.owner)).length +
  s.streamsOut.foldl (fun n e => n + ((e.2.unacked ++ e.2.held).filter (fun p => p.ofOwner mine && p.posted)).length) 0 +
  s.ports.foldl (fun n e => (e.2.gateway ++ e.2.gatewayWait).foldl (fun n g =>
    n + (g.parts.filter (fun p => mine p.owner)).length) n) 0

/-- R197: lines of this module's memory that the pager of a cluster reads now, at most the whole pool. -/
def State.pagerLines (s : State) (c : Nat) : Nat :=
  min 1536 ((Fetch.distinct ((s.cluster c).fetches.filter (fun f => f.taken && f.pages.isEmpty))).foldl
    (fun n f => n + ceilDiv f.bytes 64) 0)

/-- R197: lines of a transfer that are in flight at this module: come from another node and not yet stored, or held at memory. -/
def TransferWork.linesHere (w : TransferWork) : Nat :=
  w.arrived.length + (match w.hold with | some (k, _) => if k = 0xA04800 ∨ k = 0xA05300 then 0 else 1 | none => 0)

/-- R20, R197: transactions in flight in a cluster, memory and fabric together: of its transfer channels, its engines and its pager.
An access to memory of this module that nothing holds is over within its command (log entry 164). -/
def State.inFlight (s : State) (c : Nat) : Nat :=
  (s.reqs.filter (fun r => match r.why with | .fetch _ k => k == c | _ => false)).length + s.pagerLines c +
  (List.range 8).foldl (fun n k => match (s.chan c k).job with
    | some (q, id) => n + s.outstanding q id +
        (match (s.startedOf q id).map (·.work) with | some (.transfer w) => w.linesHere | _ => 0)
    | none => n) 0

/-- R197: a requester of a cluster, a channel or the pager (8), enters the list of those that wait on the pool. -/
def State.queuePool (s : State) (cluster n id : Nat) : State :=
  s.onCluster cluster (fun k =>
    if k.txWait.any (fun w => w.source == n) then k else { k with txWait := k.txWait ++ [{ source := n, id := id, since := s.now }] })

/-- Whether operands are under way to a command, or still to be asked for. -/
def State.fetchesFor (s : State) (q id : Nat) : Bool :=
  s.clusters.any (fun e => e.2.fetches.any (fun f => f.ofCmd q id)) || (match s.startedOf q id with | some st => !st.pages.isEmpty | none => false) ||
  s.reqs.any (fun r => r.owner == some (q, id) && (match r.why with | .fetch _ _ => true | _ => false))

/-- R194: whether a remote page that a command asked for has arrived. -/
def State.pageHere (s : State) (q id g : Nat) : Bool :=
  (match s.startedOf q id with
    | some st => st.asked.contains g && !st.pages.any (fun p => p.1 == g)
    | none => true) &&
  !s.reqs.any (fun r => r.owner == some (q, id) && (match r.why with | .fetch x _ => x == g | _ => false))

/-- R194: the pages of 4 KiB, by global address, that hold some elements of a remote tensor. -/
def State.remotePages (s : State) (h : Nat) (idxs : List Nat) : List Nat :=
  let d := s.desc h
  if s.isRemote d then (idxs.map (fun i => descLoc d + (elemOff d 0 i).1 / 4096 * 4096)).eraseDups else []

/-- R194: pages that the pager of a cluster is to get for a command, each once. -/
def State.wantPages (s : State) (q id c : Nat) (gs : List Nat) : State :=
  s.onStarted q id (fun st =>
    let new := gs.filter (fun g => !st.asked.contains g && !st.pages.any (fun p => p.1 == g))
    { st with pages := st.pages ++ new.map (fun g => (g, c)) })

/-- R194, R197: bulk gets of pages, as far as the cluster's pool has room; the status that stops one. -/
def State.askPagesN (q id : Nat) : Nat → Bool → State → State × Nat
  | 0, _, s => (s, 0)
  | fuel + 1, granted, s =>
    match (s.startedOf q id).bind (fun st => st.pages.head?) with
    | none => (s, 0)
    | some (g, c) =>
      if 1536 ≤ s.inFlight c ∨ (!granted && !(s.cluster c).txWait.isEmpty) then (s.queuePool c 8 id, 0)
      else
        let node := g / 2 ^ 48 % 65536
        let s1 := s.onStarted q id (fun st => { st with pages := st.pages.tail, asked := st.asked ++ [g] })
        let r := s1.ask node c {
          op := if s.isCompanion node then 0x01 else 0x05, addr := g % 2 ^ 48, lines := 64, owner := some (q, id), why := .fetch g c }
        if r.2 ≠ 0 then (r.1, r.2) else State.askPagesN q id fuel false r.1

/-- The pages a command still asks for, as far as they can be; the status that stops one (R299). -/
def State.askPages' (s : State) (q id : Nat) (granted : Bool := false) : State × Nat :=
  match s.startedOf q id with
  | some st => State.askPagesN q id (st.pages.length + 1) granted s
  | none => (s, 0)

/-- The same; a page that cannot be asked for reads as poisoned, and its status stays. -/
def State.askPages (s : State) (q id : Nat) (granted : Bool := false) : State :=
  let r := s.askPages' q id granted
  if r.2 ≠ 0 then
    (match (r.1.startedOf q id).bind (fun st => st.asked.getLast?) with
      | some g => (r.1.markRange (remoteKey g) 4096 .poisoned).meet q id r.2
      | none => r.1)
  else r.1

/-! ### The pager (R193, R194) -/

/-- The MATMUL a tile belongs to. -/
def State.tileJob (s : State) (t : Tile) : Option (Started × MatmulWork) :=
  match s.startedOf t.q t.id with
  | some st => match st.work with | .matmul w => some (st, w) | _ => none
  | none => none

/-- The work of a MATMUL changed in place. -/
def State.onMatmul (s : State) (q id : Nat) (f : MatmulWork → MatmulWork) : State :=
  s.onStarted q id (fun st => match st.work with | .matmul w => { st with work := .matmul (f w) } | _ => st)

/-- Whether an operand element must be fetched to cluster `k`: of a STREAMED or PINNED tensor, or lying at another cluster. -/
def State.fetched (s : State) (d : Line) (k : Nat) (idx : Nat) : Bool :=
  descClass d == 0 || descClass d == 3 || (match s.elemCluster d idx with | some x => x != k | none => false)

/-- R193: bytes of an operand tile: codes, scale bytes, block states, sidecar lines and outlier-store rows. -/
def State.tileBytes (s : State) (h : Nat) (lines : List (List Nat)) : Nat :=
  let d := s.desc h
  let codes := ceilDiv (lines.foldl (fun n l => n + l.length) 0 * (descFmt d).bits) 8
  if (descFmt d).scaled then
    let blocks := ((lines.flatten).map (fun i => (blockOf d i).1)).eraseDups
    let stored := lines.filter (fun l => s.storedElem d (descHdr d) (l.headD 0))
    codes + blocks.length + ceilDiv (2 * blocks.length) 8 +
      (if descSidecar d then 64 * ((blocks.map (· / 256)).eraseDups).length else 0) +
      stored.foldl (fun n l => n + 2 * l.length) 0
  else codes

/-- R193, R194: the fetch of an operand tile, some lines of a tensor, for a tile that runs at cluster `k`; none where it lies there. -/
def State.fetchOf (s : State) (k h : Nat) (lines : List (List Nat)) (f : Fetch) : List Fetch :=
  if lines.flatten.any (s.fetched (s.desc h) k) then
    [{ f with bytes := s.tileBytes h lines, pages := s.remotePages h lines.flatten }]
  else []

/-- R193, R194: the operands of dealt parts of a VECTOR or UPDATE that the pagers fetch: part, cluster; `ops` names handle and elements
of each operand of a part. -/
def State.fetchParts (s : State) (q id : Nat) (dealt : List (Nat × Nat)) (ops : Nat → List (Nat × List Nat)) : State :=
  dealt.foldl (fun x p =>
    let fs := (ops p.1).flatMap (fun o => s.fetchOf p.2 o.1 [o.2]
      { tile := { q := q, id := id, unit := p.1, since := s.now }, ofB := false, b := 0, part := 0, n := p.1, bytes := 0, h := o.1 })
    x.onCluster p.2 (fun k => { k with fetches := k.fetches ++ fs })) s

/-- Whether an entry of the pager is of a tile. -/
def Fetch.of (f : Fetch) (t : Tile) : Bool := f.tile.q == t.q && f.tile.id == t.id && f.tile.unit == t.unit

/-- What the pager fetches for a command that has ended is dropped. -/
def State.dropFetches (s : State) (q id : Nat) : State :=
  { s with clusters := s.clusters.map (fun e => (e.1, { e.2 with
      fetches := e.2.fetches.filter (fun f => !f.ofCmd q id), buffers := e.2.buffers.filter (fun f => !f.ofCmd q id) })) }

/-- R193: the operand tiles a cluster's dispatched tiles read before they are in an array, in dispatch order. -/
def State.ahead (s : State) (c : Nat) : List Fetch :=
  let k := s.cluster c
  (Fetch.distinct (k.slots.flatMap (fun t => (k.fetches ++ k.buffers).filter (fun f => f.of t))).reverse).reverse

/-- The tiles of a MATMUL that a cluster's arrays and vector engine have taken. -/
def Cluster.inHand (k : Cluster) : List Tile :=
  k.arrays.flatMap (fun e => e.2.cur.toList ++ e.2.full.map (·.tile)) ++ k.finished.map (·.tile)

/-- R193: whether an operand tile is one that the pager may read now: of a tile that is in hand, or within the lookahead of its
command; of a share, one of the row groups or runs that hold slots. -/
def State.inReach (s : State) (c : Nat) (f : Fetch) : Bool :=
  let k := s.cluster c
  match s.tileJob f.tile with
  | some (_, w) => k.inHand.any f.of || ((s.ahead c).take w.lookahead).any f.same
  | none =>
    let mine := k.fetches.filter (fun g => g.ofCmd f.tile.q f.tile.id)
    (match s.startedOf f.tile.q f.tile.id with
      | some st => st.work.shares.any (fun x => x.cluster == c && ((x.units.drop x.ran).take x.slots).contains f.tile.unit)
      | none => false) &&
    ((mine.take (s.dv 0xA04300)).any f.same || (match mine with | g :: _ => g.tile.unit == f.tile.unit | [] => false))

/-- An operand tile of a cluster changed, wherever it is listed. -/
def State.onFetch (s : State) (c : Nat) (f : Fetch) (g : Fetch → Fetch) : State :=
  s.onCluster c (fun k => { k with fetches := k.fetches.map (fun x => if f.same x then g x else x) })

/-- R217: whether a channel of the packages that hold some tensors has no room for a request. -/
def State.ingressFull (s : State) (hs : List Nat) : Bool :=
  hs.any (fun h => (s.packagesUsed h).any (fun p => (List.range 4).any (fun k => decide (128 ≤ (s.channel (4 * p + k)).admitted.length))))

/-- The tensor that a fetch reads. -/
def State.fetchTensor (s : State) (f : Fetch) : Nat :=
  if f.h ≠ 0 then f.h else (s.tileJob f.tile).elim 0 (fun j => handleAt j.1.cmd (if f.ofB then 11 else 8))

/-- R192 to R194, R197: the pager of a cluster begins to read an operand tile: it takes a page and transactions, or waits for them; the
wait for a page is counted. -/
def State.takeFetch (s : State) (c : Nat) (f : Fetch) (granted : Bool) : State :=
  if s.pagesLeft c < ceilDiv f.bytes 0x10000 then
    s.onFetch c f (fun x => { x with pageSince := some (x.pageSince.getD s.now) })
  else if f.pages.isEmpty && (decide (1536 ≤ s.inFlight c) || (!granted && !(s.cluster c).txWait.isEmpty)) then
    s.queuePool c 8 f.tile.id
  else if s.ingressFull [s.fetchTensor f] then
    s.onFetch c f (fun x => { x with ingressSince := some (x.ingressSince.getD s.now) })
  else
    let s0 := match f.pageSince with | some a => s.surge 0xA04700 a | none => s
    let s1 := match f.ingressSince with | some a => s0.surge 0x400700 a | none => s0
    let s2 := s1.onFetch c f (fun x => { x with taken := true, pageSince := none, ingressSince := none })
    (s2.wantPages f.tile.q f.tile.id c f.pages).askPages f.tile.q f.tile.id granted

/-- R193, R194: the pager of a cluster begins to read what it may. `granted`: a grant of one transaction (R197). -/
def State.pumpPager (s : State) (c : Nat) (granted : Bool := false) : State :=
  ((Fetch.distinct ((s.cluster c).fetches.reverse)).reverse.foldl (fun (x : State × Bool) f =>
    match (x.1.cluster c).fetches.find? f.same with
    | some g => if g.taken || !x.1.inReach c g then x else (x.1.takeFetch c g x.2, false)
    | none => x) (s, granted)).1

/-- R193, R194: dispatched tiles are in reach of their pagers. -/
def State.pumpPagers (s : State) : State :=
  (s.clusters.filter (fun e => !e.2.fetches.isEmpty)).foldl (fun s e => s.pumpPager e.1) s

/-! ### Reads that must wait, and memory that stops a command -/

/-- R70: whether some block of a tensor is staged: a read of it is held until the block closes. -/
def State.anyStaged (s : State) (h : Nat) : Bool :=
  match s.tensor h with
  | some t => descBook t.desc && t.shadows.length != 0
  | none => false

/-- R70: whether some block of a book-mode tensor would be staged by a contribution. -/
def State.wouldStage (s : State) (h : Nat) : Bool :=
  match s.tensor h with
  | some t => descBook t.desc && (List.range (blockCount t.desc)).any (s.stages (t.hdr 0))
  | none => false

/-- R227, R229, R445: the status that stops a command which uses some tensors: memory denied to a PINNED tensor in a
reservation, a package out of service, or one in self-refresh. -/
def State.memoryFail (s : State) (reads writes : List (Nat × Nat)) : Option Fail :=
  let stop := fun (write : Bool) (p : Nat × Nat) =>
    match s.tensor p.2 with
    | none => none
    | some t =>
      let d := t.desc
      let st := if descClass d = 3 && !s.isRemote d then s.memStatus (descLoc d % 2 ^ 48) (descBytes d) .command write else St.ok
      let st := if st ≠ 0 then st
        else if (s.packagesUsed p.2).any s.offline then St.memoryOffline
        else if (s.packagesUsed p.2).any (fun k => (s.package k).critical) then St.memoryCritical else St.ok
      if st = 0 then none
      else if st = St.memoryDenied then
        some ({ st := st, byte := p.1, handle := p.2, addr := s.deniedAt (descLoc d % 2 ^ 48) (descBytes d) write, value := p.2,
                access := if write then 2 else 1 } : Fail)
      else some ({ st := st, byte := p.1, handle := p.2, value := p.2 } : Fail)
  match reads.findSome? (stop false) with
  | some f => some f
  | none => writes.findSome? (stop true)

/-- R227: requests to a package in the critical state, not yet in self-refresh, wait at ingress. -/
def State.memoryWaits (s : State) (hs : List Nat) : Bool :=
  hs.any (fun h => (s.packagesUsed h).any (fun p => (s.package p).derate == 3 && !(s.package p).critical))

/-- R162, R227, R229: what ends a started command of an engine before it computes: a package of a tensor it uses out of service or in
self-refresh, or a lost tile of an input; 0 where nothing does. -/
def State.engineStop (s : State) (reads writes : List Nat) : Nat :=
  let st := ((s.memoryFail (reads.map (fun h => (0, h))) (writes.map (fun h => (0, h)))).map (·.st)).getD 0
  if st = St.memoryOffline ∨ st = St.memoryCritical then st
  else if (s.lostFail (reads.map (fun h => (0, h)))).isSome then St.latentLost else 0

/-- R227: the wait of a started command for a package in the critical state begins. -/
def State.beginHot (s : State) (q id : Nat) : State :=
  s.onStarted q id (fun st => { st with hotSince := some (st.hotSince.getD s.now) })

/-- R222: whether a contribution to some elements of a book-mode tensor finds no adder entry for one of its lines. -/
def State.entriesFull (s : State) (h : Nat) (idxs : List Nat) : Bool :=
  match s.tensor h with
  | some t => descBook t.desc && (lineMasks (s.elemBytes t.desc 0 idxs)).any (fun x => !(s.channel (chanOf x.1)).hasEntry x.1)
  | none => false

/-- R217, R222: the counter to which the requests of an engine wait now: for a channel of some tensors, or for an adder entry of a line it
contributes to (`adds`: handle and elements); 0 when they may go on. Its requests wait together (log entry 189). -/
def State.ingressHold (s : State) (hs : List Nat) (adds : List (Nat × List Nat)) : Nat :=
  if s.ingressFull hs then 0x400700 else if adds.any (fun x => s.entriesFull x.1 x.2) then 0x400800 else 0

/-- R217, R222: the wait of a started command at a channel's ingress begins. -/
def State.beginIngress (s : State) (q id key : Nat) : State :=
  match (s.startedOf q id).bind (·.ingressSince) with
  | some w => if w.1 = key then s else (s.surge w.1 w.2).onStarted q id (fun st => { st with ingressSince := some (key, s.now) })
  | none => s.onStarted q id (fun st => { st with ingressSince := some (key, s.now) })

/-- R161: whether a compressed tensor that a started command reads is still being written by a command that started before it: the
headers of the segments it reads are not all written (DEDUCED, log entry 190). -/
def State.segmentsOpen (s : State) (q : Nat) (st : Started) (reads : List Nat) : Bool :=
  reads.any (fun h => zeroRun (s.desc h) && s.queues.any (fun e => e.2.started.any (fun x =>
    !x.done && x.writes.contains h && (decide (x.since < st.since) || (x.since == st.since && decide (e.1 < q)) ||
      (e.1 == q && decide (x.id < st.id))))))

/-- R65, R332: whether the blocks of an ended epoch still wait, behind a barrier, to close: no further epoch begins. -/
def State.epochOwed (s : State) (h : Nat) : Bool :=
  match s.tensor h with
  | some t => t.opens == 0 && !t.touched.isEmpty && s.tensorBarred h
  | none => false

end Sys2Proof.Machine
end

