-- ==== Sys2Proof/Machine/Special.lean ====
section
/-!
DEFINITION. The vector operations (R55, R122 to R124). A special function is promised within a bound of the exact value and no
bit pattern (R52): the module's result is the free value where that lies within the bound, and the exact value, computed here
in fixed point with 256 fraction bits, is what the bound is measured from (assumption 4).
-/

namespace Sys2Proof.Machine

/-! ### Elementary functions in fixed point -/

/-- Fraction bits. -/
def fxBits : Nat := 256

def fxOne : Int := 2 ^ fxBits
def fxLn2 : Int := 0xb17217f7d1cf79abc9e3b39803f2f6af40f343267298b62d8a0d175b8baafa2b
def fxLog2e : Int := 0x171547652b82fe1777d0ffda0d23a7d11d6aef551bad2b4b1164a2cd9a342648f
def fxPi : Int := 0x3243f6a8885a308d313198a2e03707344a4093822299f31d0082efa98ec4e6c89
def fxHalfRoot : Int := 0xb504f333f9de6484597d89b3754abe9f1d6f60ba893ba84ced17ac8583339915
def fxErfScale : Int := 0x120dd750429b6d11ae3a914fed7fd8688281341d7587cea2e7342b06199cc4161

def fxMul (a b : Int) : Int := a * b / fxOne

/-- A finite value in fixed point. -/
def Val.fx : Val → Int
  | .fin n m e =>
    let k := e + fxBits
    let x : Int := if 0 ≤ k then (m <<< k.toNat : Nat) else ((m >>> (-k).toNat : Nat) : Int)
    if n then -x else x
  | _ => 0

/-- A fixed-point number as a value. -/
def fxVal (x : Int) : Val := .fin (x < 0) x.natAbs (-(fxBits : Int))

/-- Σ r^i / i! from term `i`, for `n` more terms. -/
def fxExpSeries (r : Int) : Nat → Nat → Int → Int
  | 0, _, _ => 0
  | n + 1, i, term => term + fxExpSeries r n (i + 1) (fxMul term r / (i + 1 : Nat))

/-- 2^x of a fixed-point x, as a value. -/
def fxExp2 (x : Int) : Val :=
  let k := x / fxOne
  let f := x - k * fxOne
  .fin false (fxExpSeries (fxMul f fxLn2) 64 0 fxOne).natAbs (k - fxBits)

/-- e^x of a fixed-point x, as a value. -/
def fxExp (x : Int) : Val := fxExp2 (fxMul x fxLog2e)

/-- Σ z^(2i+1) / (2i+1). -/
def fxAtanhSeries (z2 : Int) : Nat → Nat → Int → Int
  | 0, _, _ => 0
  | n + 1, i, p => p / (2 * i + 1 : Nat) + fxAtanhSeries z2 n (i + 1) (fxMul p z2)

/-- log2 of a positive value m × 2^e, in fixed point. -/
def fxLog2 (m : Nat) (e : Int) : Int :=
  let l := Nat.log2 m
  let f : Int := (m <<< (fxBits - l) : Nat)
  let z := (f - fxOne) * fxOne / (f + fxOne)
  (e + l) * fxOne + fxMul (2 * fxAtanhSeries (fxMul z z) 90 0 z) fxLog2e

/-- Σ (−1)^i z^(2i+1) / (i! (2i+1)). -/
def fxErfSeries (z2 : Int) : Nat → Nat → Int → Int
  | 0, _, _ => 0
  | n + 1, i, p => p / (2 * i + 1 : Nat) + fxErfSeries z2 n (i + 1) (-(fxMul p z2) / (i + 1 : Nat))

/-- erf of a fixed-point z; beyond 6.5 it is ±1 within 2^-64. -/
def fxErf (z : Int) : Int :=
  if 13 * fxOne ≤ 2 * z then fxOne
  else if 2 * z ≤ -(13 * fxOne) then -fxOne
  else fxMul fxErfScale (fxErfSeries (fxMul z z) 300 0 z)

/-- Σ (−1)^i x^(2i+k) / (2i+k)!. -/
def fxTrigSeries (x2 : Int) : Nat → Nat → Int → Int
  | 0, _, _ => 0
  | n + 1, k, p => p + fxTrigSeries x2 n (k + 2) (-(fxMul p x2) / ((k + 1) * (k + 2) : Nat))

/-- sin and cos of a fixed-point x, after reduction modulo 2π. -/
def fxSin (x : Int) : Int := let r := x % (2 * fxPi); fxTrigSeries (fxMul r r) 50 1 r
def fxCos (x : Int) : Int := let r := x % (2 * fxPi); fxTrigSeries (fxMul r r) 50 0 fxOne

/-- 1 / (1 + e^-x) of a finite value. -/
def sigmoidOf (x : Val) : Val :=
  let one : Val := .fin false 1 0
  let e := fxExp (-(x.abs.fx))
  let num := if x.isNeg then e else one
  match num, (Val.add one e).v with
  | .fin n1 m1 e1, .fin n2 m2 e2 => Val.quot n1 m1 e1 n2 m2 e2
  | _, _ => .zero

/-! ### Results and bounds (R55) -/

/-- `k` ulp of the exact FP32 result. -/
def ulps (k : Nat) (exact : Val) : Val := (Val.mul (.fin false k 0) (ulpOf .fp32 exact)).v

/-- The larger of two bounds. -/
def maxBound (a b : Val) : Val := if Val.lt a b then b else a

/-- NaN with INVALID; an infinity with DIVZERO (R55). -/
def nanInvalid : Res := ⟨.nan, Flag.invalid ||| Flag.nonFinite⟩
def infDivZero (neg : Bool) : Res := ⟨.inf neg, Flag.divZero ||| Flag.nonFinite⟩

/-- A value read: an infinity or NaN sets NONFINITE (R55). -/
def Res.read (r : Res) (xs : List Val) : Res :=
  ⟨r.v, xs.foldl (fun f x => f ||| x.nf) (r.fl ||| r.v.nf)⟩

/-- 2^x: beyond the range of FP32 the value is only named, large or tiny (R55). -/
def exp2Res (k : Nat) (x : Int) (seed pos : Nat) : Res :=
  if 200 * fxOne < x then round32 ⟨.fin false 1 200, 0⟩
  else
    let e := if x < -(300 * fxOne) then .fin false 1 (-300) else fxExp2 x
    bounded .fp32 e (ulps k e) seed pos

/-- A division, IEEE 754 with R55's bound: x/0 gives an infinity with DIVZERO, 0/0 and ∞/∞ NaN with INVALID. -/
def divRes (a b : Val) (seed pos : Nat) : Res :=
  match a, b with
  | .nan, _ => ⟨.nan, 0⟩
  | _, .nan => ⟨.nan, 0⟩
  | .inf _, .inf _ => nanInvalid
  | .inf n, y => ⟨.inf (n != y.isNeg), 0⟩
  | x, .inf n => ⟨.fin (x.isNeg != n) 0 0, 0⟩
  | .fin n1 m1 e1, .fin n2 m2 e2 =>
    if m2 = 0 then (if m1 = 0 then nanInvalid else infDivZero (n1 != n2))
    else if m1 = 0 then ⟨.fin (n1 != n2) 0 0, 0⟩
    else let q := Val.quot n1 m1 e1 n2 m2 e2; bounded .fp32 q (ulps 1 q) seed pos

/-- The square root. -/
def sqrtRes (a : Val) (seed pos : Nat) : Res :=
  match a with
  | .fin n m e =>
    if m = 0 then ⟨.fin n 0 0, 0⟩ else if n then nanInvalid
    else let r := Val.root m e; bounded .fp32 r (ulps 1 r) seed pos
  | .inf true => nanInvalid
  | x => ⟨x, 0⟩

/-- The reciprocal square root; of −0 the manual gives no value of its own, and it takes the infinity of its sign (log entry
25). -/
def rsqrtRes (a : Val) (seed pos : Nat) : Res :=
  match a with
  | .fin n m e =>
    if m = 0 then infDivZero n else if n then nanInvalid
    else match Val.root m e with
      | .fin _ rm re => let r := Val.quot false 1 0 false rm re; bounded .fp32 r (ulps 2 r) seed pos
      | x => ⟨x, 0⟩
  | .inf true => nanInvalid
  | .inf false => ⟨.zero, 0⟩
  | .nan => ⟨.nan, 0⟩

/-- Logarithms: of 0 −∞ with DIVZERO, of a negative value NaN with INVALID. -/
def logRes (k : Nat) (natural : Bool) (a : Val) (seed pos : Nat) : Res :=
  match a with
  | .fin n m e =>
    if m = 0 then infDivZero true else if n then nanInvalid
    else
      let l := fxLog2 m e
      let v := fxVal (if natural then fxMul l fxLn2 else l)
      bounded .fp32 v (ulps k v) seed pos
  | .inf true => nanInvalid
  | .inf false => ⟨.inf false, 0⟩
  | .nan => ⟨.nan, 0⟩

/-- tanh of a finite value: (e^2|x| − 1) / (e^2|x| + 1) with its sign. -/
def tanhOf (a : Val) : Val :=
  if Val.lt (.fin false 64 0) a.abs then .fin a.isNeg 1 0
  else
    let e := (fxExp (2 * a.abs.fx)).fx
    let t := fxVal ((e - fxOne) * fxOne / (e + fxOne))
    if a.isNeg then t.neg else t

/-- A function with a bound in ulp and an absolute one, of finite values; at an infinity its limit. -/
def limitRes (a : Val) (atNeg atPos : Val) (f : Val → Val) (k : Nat) (abs : Val) (seed pos : Nat) : Res :=
  match a with
  | .nan => ⟨.nan, 0⟩
  | .inf true => ⟨atNeg, 0⟩
  | .inf false => ⟨atPos, 0⟩
  | x => let e := f x; bounded .fp32 e (maxBound (ulps k e) abs) seed pos

/-- sin and cos: 2^-21, and |x| × 2^-24 more beyond 4,096. At an infinity the manual states no value. -/
def trigRes (f : Int → Int) (a : Val) (seed pos : Nat) : Res :=
  match a with
  | .nan => ⟨.nan, 0⟩
  | .inf _ => unstated seed pos
  | x =>
    let b0 : Val := .fin false 1 (-21)
    let b := if Val.lt (.fin false 4096 0) x.abs then (Val.add b0 (x.abs.shift (-24))).v else b0
    bounded .fp32 (fxVal (f x.fx)) b seed pos

/-- R122: the operations with more than one operand. -/
def opArity (op : Nat) : Option Nat :=
  if op = 0x04 ∨ op = 0x0C then some 3
  else if op = 0x07 ∨ op = 0x08 ∨ op = 0x0D then some 1
  else if 1 ≤ op ∧ op ≤ 0x0D then some 2
  else if op = 0x10 then some 2
  else if 0x11 ≤ op ∧ op ≤ 0x1E then some 1
  else none

/-- R123: MIN and MAX leave a NaN operand out. -/
def minMax (less : Bool) (a b : Val) : Val :=
  match a, b with
  | .nan, y => y
  | x, .nan => x
  | x, y => if Val.lt x y = less then x else y

/-- A truth value as 1.0 or +0.0. -/
def truth (b : Bool) : Val := if b then .fin false 1 0 else .zero

/-- R122, R124: operations whose result is exact or one rounding of the exact one, before rounding. -/
def plainOp (op : Nat) (a b c : Val) : Res :=
  if op = 0x01 then Val.add a b
  else if op = 0x02 then Val.add a b.neg
  else if op = 0x03 then Val.mul a b
  else if op = 0x04 then
    let p := Val.mul a b
    let r := Val.add p.v c
    ⟨r.v, p.fl ||| r.fl⟩
  else if op = 0x05 then ⟨minMax true a b, 0⟩
  else if op = 0x06 then ⟨minMax false a b, 0⟩
  else if op = 0x07 then ⟨a.abs, 0⟩
  else if op = 0x08 then ⟨a.neg, 0⟩
  else if op = 0x09 then ⟨truth (Val.eq a b), 0⟩
  else if op = 0x0A then ⟨truth (Val.lt a b), 0⟩
  else if op = 0x0B then ⟨truth (Val.le a b), 0⟩
  else if op = 0x0C then ⟨if c.isZero then b else a, 0⟩
  else ⟨a, 0⟩

/-- R55, R122: the special functions. -/
def specialOp (op : Nat) (a b : Val) (seed pos : Nat) : Res :=
  let none' : Val := .zero
  let one : Val := .fin false 1 0
  if op = 0x10 then divRes a b seed pos
  else if op = 0x11 then divRes one a seed pos
  else if op = 0x12 then sqrtRes a seed pos
  else if op = 0x13 then rsqrtRes a seed pos
  else if op = 0x14 ∨ op = 0x15 then
    match a with
    | .nan => ⟨.nan, 0⟩
    | .inf true => ⟨.zero, 0⟩
    | .inf false => ⟨.inf false, 0⟩
    | x => if op = 0x14 then exp2Res 2 x.fx seed pos else exp2Res 3 (fxMul x.fx fxLog2e) seed pos
  else if op = 0x16 then logRes 2 false a seed pos
  else if op = 0x17 then logRes 3 true a seed pos
  else if op = 0x18 then limitRes a one.neg one tanhOf 4 (.fin false 1 (-26)) seed pos
  else if op = 0x19 then limitRes a one.neg one (fun x => fxVal (fxErf x.fx)) 4 (.fin false 1 (-26)) seed pos
  else if op = 0x1A then limitRes a .zero one sigmoidOf 4 none' seed pos
  else if op = 0x1B then
    limitRes a (.fin true 0 0) (.inf false) (fun x => (Val.mul x (sigmoidOf x)).v) 5 none' seed pos
  else if op = 0x1C then
    limitRes a (.fin true 0 0) (.inf false) (fun x =>
      (Val.mul x (fxVal ((fxOne + fxErf (fxMul x.fx fxHalfRoot)) / 2))).v) 6 (.fin false 1 (-24)) seed pos
  else if op = 0x1D then trigRes fxSin a seed pos
  else trigRes fxCos a seed pos

/-- R122, R123: one FP32 operation, its result and flags; NONFINITE for every NaN or infinity read or produced. -/
def vecOp (op : Nat) (a b c : Val) (seed pos : Nat) : Res :=
  let r := if op < 0x10 then round32 (plainOp op a b c) else specialOp op a b seed pos
  let n := (opArity op).getD 1
  r.read (a :: (if 2 ≤ n then [b] else []) ++ (if n = 3 then [c] else []))

/-- R124: one packed BF16 operation: the exact result rounded once to BF16. -/
def packedOp (op : Nat) (a b c : Val) : Res :=
  let x := plainOp op a b c
  let r := convert .bf16 false .rn x.v
  let n := (opArity op).getD 1
  (⟨Fmt.bf16.decode r.code, x.fl ||| r.fl⟩ : Res).read (a :: (if 2 ≤ n then [b] else []) ++ (if n = 3 then [c] else []))

end Sys2Proof.Machine
end

