-- ==== Sys2Proof/Machine/VecProg.lean ====
section
/-!
DEFINITION. Vector programs (R117 to R134): the fields and checks of a program table entry, evaluating rows pass by pass, and
writing results into a destination tensor (R62, R113, R114, R126).
-/

namespace Sys2Proof.Machine

/-! ### Writing results into a tensor -/

/-- The units of a tensor's frame map that hold some elements, with whole blocks where it is scaled. -/
def unitsOf (d : Line) (idxs : List Nat) : List Nat :=
  let all := if (descFmt d).scaled then ((idxs.map (fun i => (blockOf d i).1)).eraseDups).flatMap (blockElems d) else idxs
  (all.flatMap (fun i => elemUnit d i ::
    (if zeroRun d then [(payloadBytes d + 64 * ((blockOf d i).1 / 256)) / mapUnit d] else []))).eraseDups

/-- The frames that some elements lie in, bound for a write by cluster `c` (R191). -/
def State.bindElems (s : State) (h c : Nat) (idxs : List Nat) : State :=
  match s.tensor h with
  | none => s
  | some t => (unitsOf t.desc idxs).foldl (fun s i => s.bindUnit h c i) s

/-- R161, R163: bytes written to a LATENT tensor, and blocks its compression omitted, are counted. -/
def State.countLatent (s : State) (d : Line) (idxs : List Nat) : State :=
  let bs := (idxs.map (fun i => (blockOf d i).1)).eraseDups
  let gone := if zeroRun d then bs.filter (fun b => !s.present d b) else []
  let kept := idxs.filter (fun i => !gone.contains (blockOf d i).1)
  (s.bump 0xA03800 (kept.length * (descFmt d).bits / 8)).bump 0xA03900 gone.length

/-- R62, R63, R78, R114, R126: results written into a tensor by its mode: `add` into it or overwrite; `clear` sets the codes
of a book-mode destination to zero first; `split` parts of a book-mode overwrite round with RN (R99). Fills are converted with
RN and raise no flag. A book-mode destination takes them through the memory-side adders (R221), another through the
write-combining buffers (R223). R163: bytes written to a LATENT tensor are counted. -/
def State.writeResults (s : State) (h : Nat) (w : Writer) (add clear split : Bool) (evs fills : List (Nat × Val)) : Acc :=
  let s1 := s.bindElems h w.cluster ((evs ++ fills).map (·.1))
  match s1.tensor h with
  | none => ⟨s1, 0, false⟩
  | some t =>
    let d := t.desc
    let wf := { w with exact := fills.map (·.1) }
    let a : Acc :=
      if !(descFmt d).scaled then
        (evs ++ fills).foldl (fun a p => State.wrPlain a h d wf p.1 p.2) ⟨s1, 0, false⟩
      else if descBook d then
        let a1 := State.storeBook ⟨s1, 0, false⟩ h t (if add || split then none else some w) w.field clear false evs
        match fills, a1.s.tensor h with
        | _ :: _, some t1 =>
          let a2 := State.storeBook ⟨a1.s, 0, false⟩ h t1 none w.field true true fills
          ⟨a2.s, a1.fl, a1.bad || a2.bad⟩
        | _, _ => a1
      else if descFeedback d then State.storeFeedback ⟨s1, 0, false⟩ h t wf (evs ++ fills)
      else State.storeJit ⟨s1, 0, false⟩ h t 0 wf (evs ++ fills)
    let idxs := (evs ++ fills).map (·.1)
    let whole := if (descFmt d).scaled then ((idxs.map (fun i => (blockOf d i).1)).eraseDups).flatMap (blockElems d) else idxs
    let s2 := (if descBook d then a.s.useEntries d idxs
      else if (descFmt d).scaled then (a.s.noteElems d 0 whole).noteBytes (a.s.planeBytesOf d (descHdr d) whole)
      else a.s.noteElems d 0 whole).latchVerdict h a.fl
    ⟨if descClass d = 4 then s2.countLatent d ((evs ++ fills).map (·.1)) else s2, a.fl, a.bad⟩

/-- R211: what a whole overwrite covers is good again: data, scale bytes and block states. -/
def State.coverTensor (s : State) (h : Nat) : State :=
  match s.tensor h with
  | none => s
  | some t =>
    let s1 := s.freshenTensor t.desc
    if (descFmt t.desc).scaled then
      let n := blockCount t.desc
      (s1.freshen (s1.arr (descHdr t.desc) 0) (ceilDiv n 64 * 64)).freshen (s1.arr (descHdr t.desc) 1) (ceilDiv n 256 * 64)
    else s1

/-! ### Program table entry (R117 to R119) -/

def pStages (p : BitVec 1024) : Nat := bitsAt p 0 0 4
def pPasses (p : BitVec 1024) : Nat := bitsAt p 0 4 2 + 1
def pInPlace (p : BitVec 1024) : Bool := bitAt p 0 6
def pPacked (p : BitVec 1024) : Bool := bitAt p 0 7
def pCarry (p : BitVec 1024) : Bool := bitAt p 1 0
def pCausal (p : BitVec 1024) : Bool := bitAt p 1 1
def pFill (p : BitVec 1024) : Bool := bitAt p 1 2
def pOffset (p : BitVec 1024) : Int := signed 32 (fld p 4 4)
def pConst (p : BitVec 1024) (k : Nat) : Nat := fld p (72 + 4 * k) 4
def pHandle (p : BitVec 1024) (k : Nat) : Nat := fld p (104 + 3 * k) 3
/-- Stage word `k`. -/
def pWord (p : BitVec 1024) (k : Nat) : Nat := fld p (8 + 8 * k) 8

def wOp (w : Nat) : Nat := w % 256
def wA (w : Nat) : Nat := w / 2 ^ 8 % 16
def wB (w : Nat) : Nat := w / 2 ^ 12 % 16
def wC (w : Nat) : Nat := w / 2 ^ 16 % 16
def wPass (w : Nat) : Nat := w / 2 ^ 20 % 4
def wScalar (w : Nat) : Bool := w.testBit 22
def wRed (w : Nat) : Nat := w / 2 ^ 24 % 16
def wInto (w : Nat) : Nat := w / 2 ^ 28 % 4
def wWrite (w : Nat) : Nat := w / 2 ^ 30 % 4
def wDst (w : Nat) : Nat := w / 2 ^ 32 % 4

/-- Stages with their words. -/
def pAll (p : BitVec 1024) : List (Nat × Nat) := (List.range (min 8 (pStages p))).map (fun k => (k, pWord p k))

/-- The source codes a stage uses (R118). -/
def wSources (w : Nat) : List Nat :=
  let n := (opArity (wOp w)).getD 1
  wA w :: (if 2 ≤ n then [wB w] else []) ++ (if n = 3 then [wC w] else [])

/-- R127: COUNT, ARGMAX and ARGMIN make their Qn hold an index. -/
def indexKind (k : Nat) : Bool := k == 6 || k == 8 || k == 9

/-- The writes to row scalars in the order they take effect (R120): per pass the reductions, then the scalar stages; each as
pass, stage, scalar stage, Qn, holds an index. -/
def pWrites (p : BitVec 1024) : List (Nat × Nat × Bool × Nat × Bool) :=
  (List.range 4).flatMap (fun pass =>
    let mine := (pAll p).filter (fun x => wPass x.2 == pass)
    ((mine.filter (fun x => !wScalar x.2 && wRed x.2 != 0)).map (fun x =>
      (pass, x.1, false, wInto x.2, indexKind (wRed x.2)))) ++
    ((mine.filter (fun x => wScalar x.2)).map (fun x => (pass, x.1, true, wDst x.2, false))))

/-- R120: what stage `k` of a pass finds in Qn: 0 never written, 1 a value, 2 an index. -/
def qHolds (p : BitVec 1024) (k : Nat) (w : Nat) (n : Nat) : Nat :=
  let seen := (pWrites p).filter (fun x => x.2.2.2.1 == n &&
    (decide (x.1 < wPass w) || (wScalar w && x.1 == wPass w && (!x.2.2.1 || decide (x.2.1 < k)))))
  match seen.getLast? with
  | some x => if x.2.2.2.2 then 2 else 1
  | none => if pCarry p then 1 else 0

/-- Where a program runs: as an epilogue or not, with which stream handles and row tensor, on BF16 tensors throughout. -/
structure ProgUse where
  epi : Bool
  streams : List Nat
  row : Nat
  bf16 : Bool

/-- R119, R120, R121, R131: what is wrong with a source code of a stage. -/
def sourceBad (u : ProgUse) (p : BitVec 1024) (k : Nat) (w : Nat) (first : Bool) (c : Nat) : Bool :=
  if c = 0 then wScalar w || first
  else if c ≤ 3 then u.streams.getD (c - 1) 0 == 0
  else if c = 4 then !u.epi || pPacked p
  else if c ≤ 8 then qHolds p k w (c - 5) != 1
  else false

/-- R121, R124: whether stage `k` fails the check. -/
def stageBad (u : ProgUse) (p : BitVec 1024) (k : Nat) : Bool :=
  let w := pWord p k
  let op := wOp w
  let first := !wScalar w && !(pAll p).any (fun x => decide (x.1 < k) && wPass x.2 == wPass w && !wScalar x.2)
  match opArity op with
  | none => true
  | some n =>
    w.testBit 23 || decide (2 ^ 34 ≤ w) || decide (9 < wRed w) || wWrite w == 3 ||
    (decide (n < 2) && wB w != 0) || (decide (n < 3) && wC w != 0) ||
    decide (pPasses p ≤ wPass w) || (decide (0 < k) && decide (wPass w < wPass (pWord p (k - 1)))) ||
    (wSources w).any (sourceBad u p k w first) ||
    (wWrite w == 2 && !(u.epi && pInPlace p)) ||
    (wScalar w && (wRed w != 0 || wWrite w != 0)) ||
    (pPacked p && (wScalar w || wRed w != 0 || decide (0x09 ≤ op ∧ op ≤ 0x0B) || decide (0x10 ≤ op)))

/-- R121: the stage a program fails its check at, if any. A failure of no one stage names stage 0; a last pass without a write
names the last stage (DESIGN CHOICE, log entry 147). -/
def progFail (u : ProgUse) (p : BitVec 1024) : Option Nat :=
  if pStages p = 0 ∨ 8 < pStages p ∨ bitsAt p 1 3 5 ≠ 0 ∨ fld p 2 2 ≠ 0 ∨ fld p 100 4 ≠ 0 ∨ fld p 119 9 ≠ 0 ∨
      (pCarry p ∧ (pInPlace p = false ∨ (u.epi = true ∧ u.row = 0))) ∨ (pPacked p = true ∧ u.bf16 = false) then some 0
  else
    match (pAll p).find? (fun x => stageBad u p x.1) with
    | some x => some x.1
    | none =>
      if (pAll p).any (fun x => wPass x.2 == pPasses p - 1 && wWrite x.2 != 0) then none else some (pStages p - 1)

/-- Index 0: plain conversion of the first stream, or of the accumulator tile, into D (R117). -/
def plainProg (epi : Bool) : BitVec 1024 :=
  BitVec.ofNat 1024 (1 + 2 ^ 64 * (0x0D + 2 ^ 8 * (if epi then 4 else 1) + 2 ^ 30))

/-- R117: the program a command names, or what stops it. -/
def State.fetchProg (s : State) (index byte : Nat) (epi : Bool) : BitVec 1024 × Option Fail :=
  if index = 0 then (plainProg epi, none)
  else if s.dv 0xA02100 ≤ index then (0, some { st := St.fieldRange, byte := byte, value := index })
  else
    let a := s.dv 0xA02000 + 128 * index
    let st := s.memStatus a 128 .command false
    if st ≠ 0 then (0, some (s.rangeFail st a 128 byte index false))
    else if s.badRange a 128 then (0, some { st := St.dataPoisoned, byte := byte, addr := a, value := index })
    else (BitVec.ofNat 1024 (s.rdNat a 128), none)

/-! ### Shapes and masks (R116, R125) -/

/-- R116: whether a stream's extents fit D's. -/
def broadcasts (x d : Line) : Bool := (List.range 5).all (fun k => descExt x k == descExt d k || descExt x k == 1)

/-- R116: a stream's element for an element of D. -/
def streamIdx (x d : Line) (idx : Nat) : Nat :=
  (List.range 5).foldl (fun n k => n + (if descExt x k = 1 then 0 else coord d k idx * descStride x k)) 0

/-- R120: whether a row tensor has D's shape with 4 in dimension 0. -/
def rowShape (x d : Line) : Bool := descExt x 0 == 4 && (List.range 4).all (fun k => descExt x (k + 1) == descExt d (k + 1))

/-- What evaluating a program needs: the program, D and its handle, streams and mask, how it is used, the writer, and the
command's draw. -/
structure VecEnv where
  prog : BitVec 1024
  d : Line
  h : Nat
  streams : List Nat
  mask : Nat
  add : Bool
  w : Writer
  seed : Nat
  /-- the writes are collected for one conversion of whole blocks (R114); a part of a split (R99) -/
  defer : Bool := false
  split : Bool := false

/-- R125: whether an element of D is active. -/
def State.active (s : State) (v : VecEnv) (idx : Nat) : Bool :=
  (v.mask == 0 || (match s.tensor v.mask with
    | some t => s.rdCode t.desc 0 (streamIdx t.desc v.d idx) != 0
    | none => true)) &&
  (!pCausal v.prog || decide ((coord v.d 0 idx : Int) ≤ (coord v.d 1 idx : Int) + pOffset v.prog))

/-! ### Rows (R120, R126 to R129) -/

/-- A row in progress: its number, elements, which are active, accumulators (FP32 codes), Q0–Q3, elements that met NONFINITE, and
the last value each active element wrote to D. -/
structure Row where
  number : Nat
  idxs : List Nat
  act : List Bool
  acc : List Nat
  q : List Nat
  nf : List Bool
  wrote : List (Nat × Val) := []

/-- A value read by a stage, with flags and whether its storage did not decode. -/
structure Read where
  v : Val
  fl : Nat := 0
  bad : Bool := false

/-- R113, R119: a source of an element stage at position `i` of a row. -/
def State.source (s : State) (v : VecEnv) (r : Row) (prev : List Val) (i c : Nat) : Read :=
  if c = 0 then ⟨prev.getD i .zero, 0, false⟩
  else if c ≤ 3 then
    match s.tensor (v.streams.getD (c - 1) 0) with
    | none => ⟨.zero, 0, false⟩
    | some t =>
      let e := s.rdElem t (s.readPlane t) (streamIdx t.desc v.d (r.idxs.getD i 0))
      if descFmt t.desc = .fp64 then
        let x := round32 ⟨e.v, e.fl⟩
        ⟨x.v, x.fl, e.bad⟩
      else ⟨e.v, e.fl, e.bad⟩
  else if c = 4 then let x := f32 (r.acc.getD i 0); ⟨x, x.nf, false⟩
  else if c ≤ 8 then let x := f32 (r.q.getD (c - 5) 0); ⟨x, x.nf, false⟩
  else let x := f32 (pConst v.prog (c - 9)); ⟨x, x.nf, false⟩

/-- One element stage over a row: outputs, flags, poison met, and NONFINITE per element. -/
def State.elementStage (s : State) (v : VecEnv) (r : Row) (prev : List Val) (k w : Nat) :
    List Val × Nat × Bool × List Bool :=
  let outs := (List.range r.idxs.length).map (fun i =>
    if r.act.getD i false then
      let a := s.source v r prev i (wA w)
      let n := (opArity (wOp w)).getD 1
      let b := if 2 ≤ n then s.source v r prev i (wB w) else ⟨.zero, 0, false⟩
      let c := if n = 3 then s.source v r prev i (wC w) else ⟨.zero, 0, false⟩
      let o := if pPacked v.prog then packedOp (wOp w) a.v b.v c.v
        else vecOp (wOp w) a.v b.v c.v v.seed (8 * r.idxs.getD i 0 + k)
      (⟨o.v, o.fl ||| a.fl ||| b.fl ||| c.fl, a.bad || b.bad || c.bad⟩ : Read)
    else ⟨.zero, 0, false⟩)
  (outs.map (·.v), outs.foldl (fun f o => f ||| o.fl) 0, outs.any (·.bad),
   (List.zip r.nf outs).map (fun p => p.1 || p.2.fl.testBit 6))

/-- R56: the bound of a sum of `n` elements whose magnitudes sum to `sigma`; `c` is 8 within a row, 13 over a command (R137). -/
def sumBound (c n : Nat) (sigma : Val) : Val := (Val.mul (.fin false (ceilDiv n 256 + c) (-24)) sigma).v

/-- A sum as R56 bounds it; of −0 alone it is −0 (R29, R128). -/
def sumRes (c : Nat) (vs : List Val) (seed pos : Nat) : Res :=
  let t := Val.sum vs
  let sigma := (Val.sum (vs.map Val.abs)).v
  if t.v.isFinite && !sigma.isZero then
    let r := bounded .fp32 t.v (sumBound c vs.length sigma) seed pos
    ⟨r.v, r.fl ||| t.fl⟩
  else ⟨t.v, t.fl⟩

/-- A mean as R56 bounds it: the sum's bound divided by n, plus half an ulp. -/
def meanRes (c : Nat) (vs : List Val) (seed pos : Nat) : Res :=
  let t := Val.sum vs
  let n := vs.length
  let sigma := (Val.sum (vs.map Val.abs)).v
  let share := fun x : Val => match x with
    | .fin ng m e => if m = 0 then .fin ng 0 0 else Val.quot ng m e false n 0
    | y => y
  if t.v.isFinite && !sigma.isZero then
    let m := share t.v
    let b := (Val.add (share (sumBound c n sigma)) ((ulpOf .fp32 m).shift (-1))).v
    let r := bounded .fp32 m b seed pos
    ⟨r.v, r.fl ||| t.fl⟩
  else ⟨t.v, t.fl⟩

/-- The first of some numbered values that no other beats. -/
def bestOf (less : Bool) : List (Nat × Val) → Option (Nat × Val)
  | [] => none
  | x :: xs => some (xs.foldl (fun b y => if (if less then Val.lt y.2 b.2 else Val.lt b.2 y.2) then y else b) x)

/-- R127: a reduction's value over no elements. -/
def emptyRed (kind : Nat) : Nat :=
  if kind = 3 then 0xFF7FFFFF else if kind = 4 then 0x7F7FFFFF else if kind = 8 ∨ kind = 9 then 0xFFFFFFFF else 0

/-- R127: COUNT: elements that are not zero; a NaN counts. -/
def countNonzero (xs : List (Nat × Val)) : Nat := (xs.filter (fun x => !x.2.isZero)).length

/-- R127, R128: one reduction over numbered values, as a 32-bit code (index kinds as u32), with flags. `c` as in `sumBound`. -/
def reduceOver (c kind : Nat) (xs : List (Nat × Val)) (seed pos : Nat) : Nat × Nat :=
  let vs := xs.map (·.2)
  let nf := vs.foldl (fun f v => f ||| v.nf) 0
  let real := xs.filter (fun x => x.2 != .nan)
  let mags := real.map (fun x => (x.1, x.2.abs))
  let code := fun (r : Res) => ((toFp32 r.v).code, r.fl ||| nf)
  let best := fun (b : Option (Nat × Val)) => match b with
    | some x => ((toFp32 x.2).code, nf)
    | none => (emptyRed kind, nf)
  let arg := fun (b : Option (Nat × Val)) => match b with
    | some x => (x.1 % 2 ^ 32, nf)
    | none => (emptyRed kind, nf)
  if xs.isEmpty then (emptyRed kind, 0)
  else if kind = 1 then code (sumRes c vs seed pos)
  else if kind = 2 then code (sumRes (c + 1) (vs.map (fun v => (Val.mul v v).v)) seed pos)
  else if kind = 3 then best (bestOf false real)
  else if kind = 4 then best (bestOf true real)
  else if kind = 5 then best (bestOf false mags)
  else if kind = 6 then (countNonzero xs % 2 ^ 32, nf)
  else if kind = 7 then code (meanRes c vs seed pos)
  else if kind = 8 then arg (bestOf false real)
  else arg (bestOf true real)

/-- What a pass leaves: the row, its flags, poison met, writes to D in stage order. -/
structure PassOut where
  row : Row
  fl : Nat := 0
  bad : Bool := false
  toD : List (Nat × Val) := []

/-- R120: the element stages of a pass over a row, in stage order; bank writes (target 2) replace the accumulators. -/
def State.elementStages (s : State) (v : VecEnv) (o : PassOut) (prev : List Val) : List (Nat × Nat) → PassOut
  | [] => o
  | (k, w) :: ks =>
    let r := o.row
    let (out, fl, bad, nf) := s.elementStage v r prev k w
    let live := (List.zip (List.range out.length) out).filter (fun p => r.act.getD p.1 false)
    let red := if wRed w = 0 ∨ live.isEmpty then (r.q.getD (wInto w) 0, 0) else reduceOver 8 (wRed w) live v.seed (2 ^ 40 + 8 * r.number + k)
    let q := if wRed w = 0 then r.q
      else r.q.set (wInto w) (if live.isEmpty then emptyRed (wRed w) else red.1)
    let evs := live.map (fun p => (r.idxs.getD p.1 0, p.2))
    let r1 := { r with
      q := q, nf := nf,
      acc := if wWrite w = 2 then (List.zip (List.range out.length) out).map (fun p =>
        if r.act.getD p.1 false then (toFp32 p.2).code else r.acc.getD p.1 0) else r.acc,
      wrote := if wWrite w = 0 then r.wrote else evs }
    s.elementStages v { row := r1, fl := o.fl ||| fl ||| red.2, bad := o.bad || bad,
                        toD := if wWrite w = 1 then o.toD ++ evs else o.toD } out ks

/-- R120: a source of a scalar stage; a stream or accumulator names no row scalar, and its value is not stated. -/
def scalarSource (v : VecEnv) (r : Row) (k c : Nat) : Val :=
  if 5 ≤ c ∧ c ≤ 8 then f32 (r.q.getD (c - 5) 0)
  else if 9 ≤ c then f32 (pConst v.prog (c - 9))
  else (unstated v.seed (2 ^ 41 + 8 * r.number + k)).v

/-- R120, R129: the scalar stages of a pass; on an empty row they do not run, and their destinations become +0. -/
def scalarStages (v : VecEnv) (o : PassOut) : List (Nat × Nat) → PassOut
  | [] => o
  | (k, w) :: ks =>
    let r := o.row
    let n := (opArity (wOp w)).getD 1
    let a := scalarSource v r k (wA w)
    let b := if 2 ≤ n then scalarSource v r k (wB w) else .zero
    let c := if n = 3 then scalarSource v r k (wC w) else .zero
    let x : Res := if r.act.all (!·) then ⟨.zero, 0⟩ else vecOp (wOp w) a b c v.seed (2 ^ 42 + 8 * r.number + k)
    scalarStages v { o with row := { r with q := r.q.set (wDst w) (toFp32 x.v).code }, fl := o.fl ||| x.fl } ks

/-- R120: one pass over one row. -/
def State.rowPass (s : State) (v : VecEnv) (pass : Nat) (r : Row) : PassOut :=
  let mine := (pAll v.prog).filter (fun x => wPass x.2 == pass)
  scalarStages v (s.elementStages v { row := r } [] (mine.filter (fun x => !wScalar x.2))) (mine.filter (fun x => wScalar x.2))

/-- A program's run over some rows. -/
structure VecRun where
  s : State
  rows : List Row
  fl : Nat := 0
  bad : Bool := false
  /-- deferred writes and masked fills, in order -/
  evs : List (Nat × Val) := []
  fills : List (Nat × Val) := []

/-- R126: the masked fills of some rows. -/
def fillsOf (v : VecEnv) (rows : List Row) : List (Nat × Val) :=
  if pFill v.prog && !v.add then
    rows.flatMap (fun r => ((List.zip r.idxs r.act).filter (fun p => !p.2)).map (fun p => (p.1, f32 (pConst v.prog 6))))
  else []

/-- R120: one pass over all rows; its writes to D follow when every beat of the pass has been read (R116). -/
def VecRun.pass (x : VecRun) (v : VecEnv) (clear : Bool) (pass : Nat) : VecRun :=
  let outs := x.rows.map (x.s.rowPass v pass)
  let evs := outs.flatMap (·.toD)
  let writes := (pAll v.prog).any (fun w => wPass w.2 == pass && wWrite w.2 == 1)
  let fills := if writes then fillsOf v x.rows else []
  let a := if (evs.isEmpty && fills.isEmpty) || v.defer then ⟨x.s, 0, false⟩
    else x.s.writeResults v.h v.w v.add (clear && !v.add) v.split evs fills
  { s := a.s, rows := outs.map (·.row), fl := outs.foldl (fun f o => f ||| o.fl) (x.fl ||| a.fl),
    bad := x.bad || a.bad || outs.any (·.bad),
    evs := if v.defer then x.evs ++ evs else [], fills := if v.defer then x.fills ++ fills else [] }

/-- The whole program over some rows. -/
def VecRun.run (x : VecRun) (v : VecEnv) (clear : Bool) : VecRun :=
  (List.range (pPasses v.prog)).foldl (fun x p => x.pass v clear p) x

/-- A row at its start: Q0–Q3 zero, or K0–K3 under row carry (R134). -/
def State.startRow (s : State) (v : VecEnv) (number : Nat) (idxs acc : List Nat) : Row :=
  { number := number, idxs := idxs, act := idxs.map (s.active v), acc := acc,
    q := if pCarry v.prog then (List.range 4).map (pConst v.prog) else [0, 0, 0, 0],
    nf := idxs.map (fun _ => false) }

/-- R129: rows with no active element; they set EMPTY and are counted. -/
def emptyRows (rows : List Row) : Nat := (rows.filter (fun r => r.act.all (!·))).length

/-- The row scalars a program writes. -/
def qWritten (p : BitVec 1024) : List Nat := ((pWrites p).map (fun x => x.2.2.2.1)).eraseDups

/-- R120, R134: row scalars of finished rows written to the row tensor; `c` is the cluster that runs a row (R191). They pass the
write-combining buffers (R223). -/
def State.writeRowScalars (s : State) (row : Nat) (c : Nat → Nat) (qs : List Nat) (rows : List Row) : State :=
  if row = 0 then s
  else
    let at' := fun (r : Row) => qs.map (fun n => 4 * r.number + n)
    let s1 := rows.foldl (fun s r => s.bindElems row (c r.number) (at' r)) s
    match s1.tensor row with
    | none => s1
    | some t => (rows.foldl (fun s r => qs.foldl (fun s n => s.wrCode t.desc 0 (4 * r.number + n) (r.q.getD n 0)) s) s1).noteElems
        t.desc 0 (rows.flatMap at')

/-! ### Summaries (R136, R137) -/

/-- The empty value of a summary kind. -/
def emptySummary (kind : Nat) : Nat := if kind = 8 ∨ kind = 9 then 0xFFFFFFFF else if kind ≤ 7 then emptyRed kind else 0

/-- R136: a row scalar as it enters a summary: its integer where it holds an index, else its FP32 value; +0 where no stage
writes it. -/
def qValue (p : BitVec 1024) (r : Row) (n : Nat) : Val :=
  match ((pWrites p).filter (fun x => x.2.2.2.1 == n)).getLast? with
  | none => .zero
  | some x => if x.2.2.2.2 then Val.ofInt (r.q.getD n 0 : Nat) else f32 (r.q.getD n 0)

/-- R131, R136, R137: the value of a summary over finished rows, with its flags; over no elements it sets EMPTY. COUNT is a u64. -/
def summaryValue (kind : Nat) (fromQ : Bool) (n : Nat) (v : VecEnv) (rows : List Row) (fl : Nat) : Nat × Nat :=
  let xs : List (Nat × Val) := if fromQ then rows.map (fun r => (r.number, qValue v.prog r n)) else rows.flatMap (·.wrote)
  let none' := if fromQ then rows.isEmpty else rows.all (fun r => r.act.all (!·))
  let e := if none' then Flag.empty else 0
  if kind = 10 then ((fl ||| e) % 1024, e)
  else if kind = 11 then ((rows.flatMap (fun r => r.nf.filter id)).length, e)
  else if xs.isEmpty then (emptySummary kind, Flag.empty)
  else if kind = 6 then (countNonzero xs, xs.foldl (fun f x => f ||| x.2.nf) 0)
  else reduceOver 13 kind xs v.seed (2 ^ 43)

/-! ### Counters of a run (R112, R115, R140) -/

/-- R112: cycles the vector ports wait for scratchpad banks while the matrix feed uses them too, or a transfer that has waited 64
cycles: at most 64 for each beat; how many is not stated. -/
def State.portStalls (s : State) (c beats : Nat) : Nat :=
  if (s.cluster c).arrays.any (fun e => e.2.cur.isSome) || (s.cluster c).chans.any (fun e => e.2.job.isSome) then Config.freeNat s.fresh % (64 * beats + 1) else 0

/-- R112, R140: beats of a cluster's vector engine and the stalls of its ports are counted. -/
def State.countBeats (s : State) (c beats : Nat) : State :=
  ((s.bump 0xA02200 beats).bump 0xA02300 (s.portStalls c beats)).drawn

/-- R38, R205: the elements of a program's streams and mask that some rows are about to read: their channels are in use, scale bytes
0xFF among them recorded. -/
def State.recordStreams (s : State) (v : VecEnv) (rows : List Row) : State :=
  ((v.mask :: v.streams).filter (· != 0)).foldl (fun s h =>
    s.takeElems h 2 (rows.flatMap (fun r => ((List.zip r.idxs r.act).filter (·.2)).map (fun p => streamIdx (s.desc h) v.d p.1)))) s

end Sys2Proof.Machine
end

