-- ==== Sys2Proof/Machine/Vector.lean ====
section
/-!
DEFINITION. The VECTOR command (R110, R114 to R137): its checks, its start and its run over the rows of D.
-/

namespace Sys2Proof.Machine

/-! ### Fields (R130) -/

def vcAdd (c : Line) : Bool := bitAt c 28 2
def vcRound (c : Line) : Nat := bitsAt c 28 0 2
def vcKind (c : Line) : Nat := bitsAt c 29 0 4
def vcSummaryQ (c : Line) : Nat := bitsAt c 30 0 2
def vcFromQ (c : Line) : Bool := bitAt c 30 2
def vectorReserved : List (Nat × Nat × Nat) := [(28, 3, 5), (30, 3, 5), (31, 0, 264)]

/-- The rows of D: number and elements (R115, R131). -/
def vecRows (d : Line) : List (Nat × List Nat) :=
  let n := descExt d 0
  (List.range (descExt d 1 * descExt d 2 * descExt d 3 * descExt d 4)).map (fun r => (r, (List.range n).map (r * n + ·)))

/-! ### Checks (R116, R121, R131, R136) -/

/-- R116, R131: shapes and formats of streams, mask and row tensor against D, each at its byte offset. -/
def State.shapeFail (s : State) (d : Line) (streams mask row : List (Nat × Nat)) : Option Fail :=
  firstFail [
    (mask.find? (fun p => descFmtCode (s.desc p.2) != 7)).map (fun p => { st := St.formatPair, byte := p.1, handle := p.2, value := p.2 }),
    (row.find? (fun p => descFmtCode (s.desc p.2) != 5)).map (fun p => { st := St.formatPair, byte := p.1, handle := p.2, value := p.2 }),
    ((streams ++ mask).find? (fun p => !broadcasts (s.desc p.2) d)).map (fun p =>
      { st := St.shapeMismatch, byte := p.1, handle := p.2, value := p.2 }),
    (row.find? (fun p => !rowShape (s.desc p.2) d)).map (fun p =>
      { st := St.shapeMismatch, byte := p.1, handle := p.2, value := p.2 }) ]

/-- How a VECTOR uses its program. -/
def State.vectorUse (s : State) (c : Line) : ProgUse :=
  { epi := false, streams := [handleAt c 8, handleAt c 11, handleAt c 14], row := handleAt c 20,
    bf16 := (handlesAt c [8, 11, 14, 17]).all (fun h => descFmtCode (s.desc h) == 3) }

/-- R110, R116, R121, R131, R136, R155, R175: what stops a VECTOR. -/
def State.vectorFail (s : State) (q : Nat) (c : Line) : Option Fail :=
  let d := handleAt c 17
  let dd := s.desc d
  let ins := namedAt c [8, 11, 14, 23]
  let outs := namedAt c [17, 20]
  let prog := s.fetchProg (fld c 26 2) 26 false
  let many := if vcFromQ c then (vecRows dd).length else descElems dd
  firstFail [
    s.headerFail q c vectorReserved,
    failIf (vcRound c == 3) { st := St.reservedSet, byte := 28, value := 3 },
    s.liveFail c [8, 11, 14, 20, 23], s.neededFail c [17],
    s.suspectFail ins, s.lostFail ins, s.outputFail outs, s.verdictFail outs,
    failIf (vcAdd c && !descBook dd) { st := St.bookRequired, byte := 17, handle := d, value := d },
    failIf (descBook dd && (handlesAt c [8, 11, 14, 23]).contains d && s.wouldStage d)
      { st := St.bookSelfRead, byte := 17, handle := d, value := d },
    s.shapeFail dd (namedAt c [8, 11, 14]) (namedAt c [23]) (namedAt c [20]),
    failIf (decide (12 ≤ vcKind c)) { st := St.fieldRange, byte := 29, value := vcKind c },
    failIf ((vcKind c == 8 || vcKind c == 9) && decide (2 ^ 32 - 1 ≤ many)) { st := St.fieldRange, byte := 29, value := vcKind c },
    prog.2,
    failIf (pInPlace prog.1) { st := St.inPlaceOnly, byte := 26, value := fld c 26 2 },
    (progFail (s.vectorUse c) prog.1).map (fun k => { st := St.programInvalid, byte := 26, value := k }),
    s.memoryFail ins outs ]

/-- Waits before the start: staged inputs (R70), barred segments (R332), a critical package (R227). -/
def State.vectorWaits (s : State) (c : Line) : Bool :=
  (handlesAt c [8, 11, 14, 23]).any s.anyStaged || (handlesAt c [17, 20]).any s.tensorBarred ||
    s.memoryWaits (handlesAt c [8, 11, 14, 17, 20, 23])

/-! ### Running -/

/-- What a VECTOR evaluates its program with. -/
def vectorEnv (s : State) (st : Started) (prog : BitVec 1024) (cluster : Nat) : VecEnv :=
  let c := st.cmd
  { prog := prog, d := s.desc (handleAt c 17), h := handleAt c 17,
    streams := [handleAt c 8, handleAt c 11, handleAt c 14], mask := handleAt c 23, add := vcAdd c,
    w := { field := st.rounding (vcRound c), cluster := cluster }, seed := s.fresh }

/-- R122: an opcode's cost in cycles per beat. -/
def opCost (op : Nat) : Nat :=
  if op < 0x10 then 1 else if op = 0x10 ∨ op = 0x1C then 4 else if op ≤ 0x17 then 2 else 3

/-- The smallest power of two from `g` up that is at least `n`. -/
def pow2From (n : Nat) : Nat → Nat → Nat
  | 0, g => g
  | k + 1, g => if n ≤ g then g else pow2From n k (2 * g)

/-- R115: beats of one pass over `rows` rows of `n` elements. -/
def beatsPerPass (packed : Bool) (n rows : Nat) : Nat :=
  let w := if packed then 512 else 256
  if w < n then rows * ceilDiv n w else ceilDiv rows (w / pow2From n 5 (if packed then 32 else 16))

/-- R135: cycles of the element stages of a program per beat. -/
def progCost (p : BitVec 1024) : Nat := ((pAll p).filter (fun x => !wScalar x.2)).foldl (fun n x => n + opCost (wOp x.2)) 0

/-- R115: rows of D that stream together: one row of more than 256 elements (512 packed), else as many as fill a beat. -/
def rowGroups (packed : Bool) (n rows : Nat) : List (List Nat) :=
  let w := if packed then 512 else 256
  chunksOf (if w < n then 1 else w / pow2From n 5 (if packed then 32 else 16)) (List.range rows)

/-- R126, R175: whether an overwriting program writes every element of D. -/
def wholeWrite (p : BitVec 1024) (add : Bool) (mask : Nat) : Bool := !add && ((mask == 0 && !pCausal p) || pFill p)

/-- R135: cycles of one row group. -/
def groupCost (p : BitVec 1024) (n : Nat) : Nat := progCost p * (if n ≤ (if pPacked p then 512 else 256) then 1 else ceilDiv n 256)

/-- R114, R135: counters of a finished run. -/
def State.countVector (s : State) (v : VecEnv) (shares : List Share) (rows : List Row) : State :=
  let d := v.d
  let n := descExt d 0
  let staged := !v.add && (descFmt d).scaled && !descBook d && descRed d != 0 && !rows.isEmpty
  let s1 := shares.foldl (fun s x => s.countBeats x.cluster (beatsPerPass (pPacked v.prog) n x.parts.length * pPasses v.prog)) s
  (s1.bump 0xA02400 (emptyRows rows)).bump 0xA02600 (if staged then 1 else 0)

/-- R191: the frames of D that a run writes are bound by the clusters that run its rows. -/
def State.bindShares (s : State) (v : VecEnv) (shares : List Share) (rows : List Row) : State :=
  shares.foldl (fun s x => s.bindElems v.h x.cluster (x.parts.flatMap (fun r =>
    let row := rows.getD r { number := r, idxs := [], act := [], acc := [], q := [], nf := [] }
    ((List.zip row.idxs row.act).filter (fun p => p.2 || (pFill v.prog && !v.add))).map (·.1)))) s

/-- R120, R129, R136: a started VECTOR runs: its rows, row scalars and summary; its work is then over. -/
def State.runVector (s : State) (q : Nat) (st : Started) (prog : BitVec 1024) (shares : List Share) : State :=
  let c := st.cmd
  let v := vectorEnv s st prog st.work.mainCluster
  let rows := (vecRows v.d).map (fun r => s.startRow v r.1 r.2 [])
  let x := VecRun.run { s := (s.recordStreams v rows).drawn.bindShares v shares rows, rows := rows } v true
  let at' := fun (r : Nat) => ((shares.find? (fun y => y.parts.contains r)).map (·.cluster)).getD v.w.cluster
  let s1 := (x.s.writeRowScalars (handleAt c 20) at' (qWritten prog) x.rows).countVector v shares x.rows
  let s2 := (if wholeWrite prog v.add v.mask then s1.coverTensor v.h else s1).relieveShares st.work
  let fl := x.fl ||| (if emptyRows x.rows = 0 then 0 else Flag.empty)
  let sum := summaryValue (vcKind c) (vcFromQ c) (vcSummaryQ c) v x.rows fl
  s2.onStarted q st.id (fun st => { st with
    done := true, flags := st.flags ||| flagWord (fl ||| (if vcKind c = 0 then 0 else sum.2)),
    status := if x.bad then worse st.status St.dataPoisoned else st.status, work := .none,
    summary := if vcKind c = 0 then none
      else some { value := BitVec.ofNat 64 sum.1, kind := BitVec.ofNat 8 (vcKind c) } })

/-- Whether a waiting VECTOR can run but for its slots: its inputs not staged (R70), their segments written (R161). -/
def State.vectorReady (s : State) (q : Nat) (st : Started) : Bool :=
  !st.done && st.work.shares.all (fun x => x.granted && s.regionRuns x.cluster) &&
    !(handlesAt st.cmd [8, 11, 14, 23]).any s.anyStaged && !s.segmentsOpen q st (handlesAt st.cmd [8, 11, 14, 23])

/-- R69: the blocks of D to which a VECTOR contributes: those of its active elements, or all under a fill. -/
def State.vectorBlocks (s : State) (st : Started) (prog : BitVec 1024) : List Nat :=
  let v := vectorEnv s st prog 0
  if pFill prog && !v.add then List.range (blockCount v.d)
  else (((List.range (descElems v.d)).filter (s.active v)).map (fun i => (blockOf v.d i).1)).eraseDups

/-- R217, R222: the counter to which a VECTOR's requests wait now, or 0. -/
def State.vectorIngress (s : State) (st : Started) (prog : BitVec 1024) : Nat :=
  let d := handleAt st.cmd 17
  s.ingressHold (handlesAt st.cmd [8, 11, 14, 23, 17, 20]) [(d, (s.vectorBlocks st prog).flatMap (blockElems (s.desc d)))]

/-- An engine's command ends with a status, without a result. -/
def State.engineEnds (s : State) (q : Nat) (st : Started) (status : Nat) : State :=
  (((s.endHolds q st).relieveShares st.work).dropFetches q st.id).onStarted q st.id (fun st =>
    { st with done := true, status := worse st.status status, work := .none, covers := [] })

/-- A waiting VECTOR goes on as far as it can: one whose tensors lie in a package out of service, or whose inputs lost a tile, ends
(R162, R227, R229); one whose outputs lie behind a barrier (R332), whose package is critical (R227) or whose contributions find no
staging frame (R69) waits; its tiles pass their engines, and then it runs. -/
def State.goVector (s : State) (q : Nat) (st : Started) (prog : BitVec 1024) : State :=
  let c := st.cmd
  let (ins, outs) := (handlesAt c [8, 11, 14, 23], handlesAt c [17, 20])
  if !s.vectorReady q st then s
  else if s.engineStop ins outs ≠ 0 then s.engineEnds q st (s.engineStop ins outs)
  else if s.memoryWaits (ins ++ outs) then s.beginHot q st.id
  else if outs.any s.tensorBarred then s.barAct q st outs
  else if s.stageHeld (handleAt c 17) (s.vectorBlocks st prog) then s.beginStaging q st.id
  else if s.vectorIngress st prog ≠ 0 then s.beginIngress q st.id (s.vectorIngress st prog)
  else
    let s1 := State.runShares q st.id st.work.rounds (s.endHolds q st)
    match s1.startedOf q st.id with
    | none => s1
    | some st1 => if st1.sharesRan && !s1.fetchesFor q st1.id then (s1.runVector q st1 prog st1.work.shares).slotShares else s1

/-- Every waiting VECTOR goes on as far as it can. -/
def State.runVectors (s : State) : State :=
  let s := s.slotShares
  s.queues.foldl (fun s e => e.2.started.foldl (fun s st =>
    match s.startedOf e.1 st.id with
    | none => s
    | some st => match st.work with
      | .vector prog _ => s.goVector e.1 st prog
      | _ => s) s) s

/-! ### The start -/

/-- R195: parts of a command dealt to clusters one after another: each part's first output element, its inputs, its cycles. A
part that must wait for a critical package is dealt by rule 5. -/
def State.dealParts (s : State) (h : Nat) : List (Nat × Nat × List (Line × Nat) × Nat) →
    State × List (Nat × Nat × Nat)
  | [] => (s, [])
  | (k, idx, ins, cost) :: rest =>
    let p := (s.placeTile h idx ins).getD (s.idlestCluster, false)
    let s1 := ((s.dealFrame h idx p.1).occupy p.1 cost).bump 0xA04E00 (if p.2 then 1 else 0)
    let r := State.dealParts s1 h rest
    (r.1, (k, p.1, cost) :: r.2)

/-- The shares of dealt parts: one for each cluster, in cluster order; `items` are a part's row or run numbers. -/
def sharesOf (now : Nat) (items : Nat → List Nat) (dealt : List (Nat × Nat × Nat)) : List Share :=
  ((List.range 32).filter (fun c => dealt.any (fun x => x.2.1 == c))).map (fun c =>
    let mine := dealt.filter (fun x => x.2.1 == c)
    { cluster := c, parts := mine.flatMap (fun x => items x.1), tiles := mine.length, since := now, units := mine.map (·.1),
      cost := mine.foldl (fun n x => n + x.2.2) 0 })

/-- R350, R363: the shares of a starting command call their regions and ask for their current steps. -/
def State.callShares (s : State) (q id engine format : Nat) : List Share → State × List Share
  | [] => (s, [])
  | x :: rest =>
    let step := s.currentStep engine format x.cluster
    let a := ((s.callRegion x.cluster).prefer x.cluster q).askWork 4 x.cluster step (q, id)
    let r := State.callShares a.1 q id engine format rest
    (r.1, { x with granted := a.2, step := step } :: r.2)

/-- The clusters of some shares as a bit set. -/
def shareBits (xs : List Share) : BitVec 32 := xs.foldl (fun b x => b ||| BitVec.ofNat 32 (2 ^ x.cluster)) 0

/-- The VECTOR as a started command. -/
def State.vectorStarted (s : State) (q : Nat) (l : ListRun) (c : Line) (prog : BitVec 1024) (shares : List Share) : Started :=
  let d := handleAt c 17
  { s.asStarted q l c with
    clusters := shareBits shares, reads := handlesAt c [8, 11, 14, 23], writes := handlesAt c [17, 20],
    covers := (if wholeWrite prog (vcAdd c) (handleAt c 23) then [d] else []) ++
      (if (qWritten prog).length = 4 then handlesAt c [20] else []),
    opens := if descBook (s.desc d) then [d] else [],
    work := .vector prog shares }

/-- R195: the row groups of a VECTOR as parts to be dealt. -/
def State.vectorParts (s : State) (c : Line) (prog : BitVec 1024) : List (Nat × Nat × List (Line × Nat) × Nat) :=
  let d := s.desc (handleAt c 17)
  let n := descExt d 0
  let gs := rowGroups (pPacked prog) n (vecRows d).length
  (List.zip (List.range gs.length) gs).map (fun g =>
    let idxs := g.2.flatMap (fun r => (List.range n).map (r * n + ·))
    (g.1, idxs.headD 0, (handlesAt c [8, 11, 14, 23]).flatMap (fun h => idxs.map (fun i => (s.desc h, streamIdx (s.desc h) d i))),
      groupCost prog n))

/-- R193: the operands of a row group of a VECTOR: handle and elements. -/
def State.vectorOperands (s : State) (c : Line) (prog : BitVec 1024) (k : Nat) : List (Nat × List Nat) :=
  let d := s.desc (handleAt c 17)
  let n := descExt d 0
  let idxs := ((rowGroups (pPacked prog) n (vecRows d).length).getD k []).flatMap (fun r => (List.range n).map (r * n + ·))
  (handlesAt c [8, 11, 14, 23]).map (fun h => (h, (idxs.map (streamIdx (s.desc h) d)).eraseDups))

/-- R114, R195, R350, R363: a VECTOR that passed its checks is dealt over the clusters; it runs at once where nothing holds it. -/
def State.startVector (s : State) (q : Nat) (l : ListRun) (c : Line) : State :=
  let prog := (s.fetchProg (fld c 26 2) 26 false).1
  let d := s.desc (handleAt c 17)
  let gs := rowGroups (pPacked prog) (descExt d 0) (vecRows d).length
  let id := (s.queue q).serial + 1
  let dealt := s.dealParts (handleAt c 17) (s.vectorParts c prog)
  let a := dealt.1.callShares q id 2 (descFmtCode d) (sharesOf s.now (fun k => gs.getD k []) dealt.2)
  let s1 := a.1.enter q (s.vectorStarted q l c prog a.2)
  (s1.fetchParts q id (dealt.2.map (fun x => (x.1, x.2.1))) (s.vectorOperands c prog)).runVectors

/-- The meaning of VECTOR, with the words and lines in error that it reads (R210, R421). -/
def State.vector (s : State) (q : Nat) (c : Line) (rd : CmdRead) : State :=
  s.take q c (handlesAt c [8, 11, 14, 23]) (handlesAt c [17, 20]) (fun _ => s.vectorFail q c)
    (fun l => if s.vectorWaits c then s.waitHot q (s.memoryWaits (handlesAt c [8, 11, 14, 17, 20, 23]))
      else s.coherent (handlesAt c [8, 11, 14, 23]) (handlesAt c [17, 20]) (fun s => (s.readErrors rd).startVector q l c))

/-- VECTOR (R114 to R137). -/
def execVector (q : Fin 256) (c : CmdRead) (s : State) : Host.Outcome State Fault Refusal := .next (s.vector q c.line c)

end Sys2Proof.Machine
end

