-- ==== Sys2Proof/Machine/Matrix.lean ====
section
/-!
DEFINITION. The MATMUL command (R85 to R107): fields and checks (R88, R90, R91, R132 to R134), work units (R92, R99), the
accumulators of a unit (R85 to R106) and the start.
-/

namespace Sys2Proof.Machine

/-! ### Fields (R90) -/

def mmPrec (c : Line) : Nat := bitsAt c 17 0 2
def mmRound (c : Line) : Nat := bitsAt c 17 2 2
def mmTransA (c : Line) : Bool := bitAt c 17 4
def mmTransB (c : Line) : Bool := bitAt c 17 5
def mmAdd (c : Line) : Bool := bitAt c 17 6
def mmSplit (c : Line) : Nat := bitsAt c 20 0 6
def mmMOff (c : Line) : Nat := fld c 24 4
def mmM (c : Line) : Nat := fld c 28 4
def mmNOff (c : Line) : Nat := fld c 32 4
def mmN (c : Line) : Nat := fld c 36 4
def mmKOff (c : Line) : Nat := fld c 40 4
def mmK (c : Line) : Nat := fld c 44 4
def mmBOff (c : Line) : Nat := fld c 48 4
def mmBatch (c : Line) : Nat := fld c 52 4
def matmulReserved : List (Nat × Nat × Nat) := [(17, 7, 1), (20, 6, 2), (21, 0, 24), (56, 0, 64)]

/-- The dimensions of A that hold K and M, and of B that hold K and N (R90). -/
def mmKDimA (c : Line) : Nat := if mmTransA c then 1 else 0
def mmKDimB (c : Line) : Nat := if mmTransB c then 0 else 1

/-- An element by coordinates in dimensions 0, 1 and 2. -/
def at3 (d : Line) (x0 x1 x2 : Nat) : Nat := x0 + descExt d 0 * (x1 + descExt d 1 * x2)

/-- R91: the batch an operand is read at. -/
def batchOf (d c : Line) (b : Nat) : Nat := if descExt d 2 = 1 then 0 else mmBOff c + b

/-- The element of A at (batch, m, k), of B at (batch, k, n), of C at (batch, m, n), relative to the command's offsets. -/
def elemA (d c : Line) (b m k : Nat) : Nat :=
  if mmTransA c then at3 d (mmMOff c + m) (mmKOff c + k) (batchOf d c b)
  else at3 d (mmKOff c + k) (mmMOff c + m) (batchOf d c b)
def elemB (d c : Line) (b k n : Nat) : Nat :=
  if mmTransB c then at3 d (mmKOff c + k) (mmNOff c + n) (batchOf d c b)
  else at3 d (mmNOff c + n) (mmKOff c + k) (batchOf d c b)
def elemC (d c : Line) (b m n : Nat) : Nat := at3 d (mmNOff c + n) (mmMOff c + m) (mmBOff c + b)

/-! ### Formats (R86, R88) -/

def narrowFloat (f : Fmt) : Bool := f == .fp4 || f == .e4m3 || f == .e5m2
def half16 (f : Fmt) : Bool := f == .bf16 || f == .fp16

/-- R88, R91: whether operand formats, precision and destination agree. -/
def formatsAgree (prec : Nat) (a b cc : Fmt) : Bool :=
  let low := cc == .fp4 || cc == .e4m3 || cc == .e5m2 || cc == .bf16 || cc == .fp16 || cc == .fp32
  if prec = 0 then
    ((narrowFloat a && narrowFloat b) || (a == .int8 && b == .int8) || (half16 a && half16 b)) && low
  else if prec = 1 then a == .fp32 && b == .fp32 && low
  else a == .fp64 && b == .fp64 && cc == .fp64

/-! ### Checks -/

/-- R91: shapes, offsets and batches. An offset and extent outside a dimension are named by the extent (DESIGN CHOICE, log
entry 144). -/
def matmulShape (c da db dc : Line) (ha hb hc : Nat) : Option Fail :=
  let bad := fun (byte v : Nat) => some ({ st := St.shapeMismatch, byte := byte, value := v } : Fail)
  let wide := fun (d : Line) => descExt d 3 != 1 || descExt d 4 != 1
  let batch := fun (d : Line) => descExt d 2 != 1 && decide (descExt d 2 < mmBOff c + mmBatch c)
  if wide da then bad 8 ha else if wide db then bad 11 hb else if wide dc then bad 14 hc
  else if descExt da (1 - mmKDimA c) < mmMOff c + mmM c ∨ descExt dc 1 < mmMOff c + mmM c then bad 28 (mmM c)
  else if descExt db (1 - mmKDimB c) < mmNOff c + mmN c ∨ descExt dc 0 < mmNOff c + mmN c then bad 36 (mmN c)
  else if descExt da (mmKDimA c) < mmKOff c + mmK c ∨ descExt db (mmKDimB c) < mmKOff c + mmK c then bad 44 (mmK c)
  else if batch da || batch db || decide (descExt dc 2 < mmBOff c + mmBatch c) then bad 52 (mmBatch c)
  else if hc = ha ∨ hc = hb then bad 14 hc
  else none

/-- R91: the axis of block scales. -/
def scaleAxis (c da db : Line) : Option Fail :=
  let bad := fun (byte v : Nat) => some ({ st := St.scaleAxis, byte := byte, value := v } : Fail)
  let sa := (descFmt da).scaled
  let sb := (descFmt db).scaled
  if sa ∧ descRed da ≠ mmKDimA c then bad 8 (descRed da)
  else if sb ∧ descRed db ≠ mmKDimB c then bad 11 (descRed db)
  else if (sa ∨ sb) ∧ mmKOff c % 16 ≠ 0 then bad 40 (mmKOff c)
  else none

/-- The epilogue's streams, row tensor and mask (R117, R132): handles, at their bytes in the program entry. -/
def epiStreams (p : BitVec 1024) : List Nat := [pHandle p 0, pHandle p 1, pHandle p 2]
def epiNamed (p : BitVec 1024) (ks : List Nat) : List (Nat × Nat) :=
  (ks.map (fun k => (18, pHandle p k))).filter (fun x => x.2 != 0)

/-- How a MATMUL uses its program; packed programs have no ACC, so every stream and C must be BF16 (R124). -/
def State.epiUse (s : State) (c : Line) (p : BitVec 1024) : ProgUse :=
  { epi := true, streams := epiStreams p, row := pHandle p 3,
    bf16 := ((epiStreams p).filter (· != 0)).all (fun h => descFmtCode (s.desc h) == 3) && descFmtCode (s.desc (handleAt c 14)) == 3 }

/-- R121, R132, R133, R134: the checks of an epilogue. -/
def State.epilogueFail (s : State) (c : Line) (p : BitVec 1024) : Option Fail :=
  let dc := s.desc (handleAt c 14)
  firstFail [
    (progFail (s.epiUse c p) p).map (fun k => { st := St.programInvalid, byte := 18, value := k }),
    ((epiNamed p [0, 1, 2, 3, 4]).find? (fun x => (s.tensor x.2).isNone)).map (fun x =>
      { st := St.handleUnknown, byte := 18, handle := x.2, value := x.2 }),
    s.suspectFail (epiNamed p [0, 1, 2, 4]), s.lostFail (epiNamed p [0, 1, 2, 4]),
    s.outputFail (epiNamed p [3]), s.verdictFail (epiNamed p [3]),
    s.shapeFail dc (epiNamed p [0, 1, 2]) (epiNamed p [4]) (epiNamed p [3]),
    failIf (pInPlace p && decide (1024 < mmN c) && !pCarry p) { st := St.rowSpan, byte := 36, value := mmN c } ]

/-- R162: an operand of which tiles that the command reads were lost. -/
def State.matmulLost (s : State) (c : Line) : Option Fail :=
  let one := fun (byte : Nat) (lines : Line → List (List Nat)) =>
    let h := handleAt c byte
    let t := (s.tensor h).map (·.lost)
    failIf (t.getD [] != [] && s.lostElems h (lines (s.desc h)).flatten) { st := St.latentLost, byte := byte, handle := h, value := h }
  let bs := List.range (mmBatch c)
  let ks := List.range (mmK c)
  firstFail [
    one 8 (fun d => bs.flatMap (fun b => (List.range (mmM c)).map (fun m => ks.map (fun k => elemA d c b m k)))),
    one 11 (fun d => bs.flatMap (fun b => (List.range (mmN c)).map (fun n => ks.map (fun k => elemB d c b k n)))) ]

/-- R14, R62, R70, R88, R90, R91, R132, R155, R175: what stops a MATMUL. FORMAT_PAIR names the precision's byte (DESIGN
CHOICE, log entry 144). -/
def State.matmulFail (s : State) (q : Nat) (c : Line) : Option Fail :=
  let (ha, hb, hc) := (handleAt c 8, handleAt c 11, handleAt c 14)
  let (da, db, dc) := (s.desc ha, s.desc hb, s.desc hc)
  let ins := namedAt c [8, 11]
  let outs := namedAt c [14]
  let prog := s.fetchProg (fld c 18 2) 18 true
  firstFail [
    s.headerFail q c matmulReserved,
    failIf (mmPrec c == 3) { st := St.reservedSet, byte := 17, value := 3 },
    failIf (mmRound c == 3) { st := St.reservedSet, byte := 17, bit := 2, value := 3 },
    failIf (decide (32 < mmSplit c)) { st := St.fieldRange, byte := 20, value := mmSplit c },
    s.neededFail c [8, 11, 14],
    s.suspectFail ins, s.outputFail outs, s.verdictFail outs,
    failIf (mmAdd c && !descBook dc) { st := St.bookRequired, byte := 14, handle := hc, value := hc },
    failIf (!formatsAgree (mmPrec c) (descFmt da) (descFmt db) (descFmt dc)) { st := St.formatPair, byte := 17, value := mmPrec c },
    matmulShape c da db dc ha hb hc, s.matmulLost c,
    scaleAxis c da db,
    prog.2,
    s.epilogueFail c prog.1,
    failIf (descBook dc && ((epiNamed prog.1 [0, 1, 2, 4]).any (fun x => x.2 == hc)) && s.wouldStage hc)
      { st := St.bookSelfRead, byte := 14, handle := hc, value := hc },
    s.memoryFail (ins ++ epiNamed prog.1 [0, 1, 2, 4]) (outs ++ epiNamed prog.1 [3]) ]

/-! ### Work units (R92, R99) -/

def mTiles (c : Line) : Nat := ceilDiv (mmM c) 32
def nTiles (c : Line) : Nat := ceilDiv (mmN c) 32
def mmTiles (c : Line) : Nat := mmBatch c * mTiles c * nTiles c

/-- A work unit: part of K, tile column, tile row, batch. -/
structure UnitPos where
  part : Nat
  nt : Nat
  mt : Nat
  b : Nat

def unitPos (c : Line) (parts u : Nat) : UnitPos :=
  let t := u / parts
  { part := u % parts, nt := t % nTiles c, mt := t / nTiles c % mTiles c, b := t / nTiles c / mTiles c }

/-- R99: where a part of K may start: a multiple of 16, in an FP64 split of 65,536. -/
def partUnit (c : Line) : Nat := if mmPrec c = 2 then 65536 else 16

/-- R99: the length of a part of K: a multiple of its unit, or the whole. -/
def partLen (c : Line) (parts : Nat) : Nat :=
  if parts ≤ 1 then mmK c else ceilDiv (ceilDiv (mmK c) parts) (partUnit c) * partUnit c

/-- R99: how many parts the scheduler cuts K into: its free choice up to the split limit; an in-place program takes K whole. -/
def State.partsOf (s : State) (c : Line) (inPlace : Bool) : Nat :=
  if !inPlace && decide (partUnit c < mmK c) then
    let lim := min (if mmSplit c = 0 then 32 else mmSplit c) (ceilDiv (mmK c) (partUnit c))
    ceilDiv (mmK c) (partLen c (Config.freeNat s.fresh % lim + 1))
  else 1

/-- The k values of a part. -/
def partKs (c : Line) (parts part : Nat) : List Nat :=
  let l := partLen c parts
  (List.range (min l (mmK c - part * l))).map (part * l + ·)

/-! ### Accumulators -/

/-- What a work unit's accumulators hold: 32 × 32 words row by row, flags, poison met. -/
structure TileAcc where
  acc : List (BitVec 64)
  fl : Nat
  bad : Bool

/-- The rows and columns of a unit inside the extents (R92). -/
def unitRows (c : Line) (p : UnitPos) : Nat := min 32 (mmM c - 32 * p.mt)
def unitCols (c : Line) (p : UnitPos) : Nat := min 32 (mmN c - 32 * p.nt)

/-- The operand elements of a unit: of A and of B. -/
def unitA (da c : Line) (p : UnitPos) (ks : List Nat) : List (List Nat) :=
  (List.range (unitRows c p)).map (fun i => ks.map (fun k => elemA da c p.b (32 * p.mt + i) k))
def unitB (db c : Line) (p : UnitPos) (ks : List Nat) : List (List Nat) :=
  (List.range (unitCols c p)).map (fun j => ks.map (fun k => elemB db c p.b k (32 * p.nt + j)))

/-- An operand element with its gating. -/
def State.operand (s : State) (t : Tensor) (idx : Nat) : Elem × Bool × Bool :=
  let p := s.readPlane t
  (s.rdElem t p idx, s.gatedElem t p idx, s.storedElem t.desc (t.hdr p) idx)

/-- The chunks of a unit in the order they are fed: runs of 16 k values, of 65,536 in an FP64 split (R87, R92, R105). -/
def State.chunkOrder (s : State) (c : Line) (parts part : Nat) : List (List Nat) :=
  let ch := chunksOf (partUnit c) (partKs c parts part)
  shuffle s.fresh ch.length ch

/-- R104, R106: of one row or column over the command's K range: its exponent, and whether it holds a NaN or an infinity. -/
def rowAlign (vs : List Val) : Int × Bool := (alignExp vs, vs.any (fun v => !v.isFinite))

/-- R85 to R106: the accumulators of a work unit, in binary64 for an FP64 split, else in FP32. -/
def State.tileAcc (s : State) (c : Line) (parts u : Nat) : TileAcc :=
  match s.tensor (handleAt c 8), s.tensor (handleAt c 11) with
  | some ta, some tb =>
    let p := unitPos c parts u
    let order := s.chunkOrder c parts p.part
    let grid := fun (t : Tensor) (lines : List (List (List Nat))) => lines.map (fun l => l.map (fun ch => ch.map (s.operand t)))
    let rows := grid ta ((List.range (unitRows c p)).map (fun i => order.map (fun ch => (unitA ta.desc c p ch).getD i [])))
    let cols := grid tb ((List.range (unitCols c p)).map (fun j => order.map (fun ch => (unitB tb.desc c p ch).getD j [])))
    let wide := mmPrec c == 2
    let whole := List.range (mmK c)
    let ends := fun (t : Tensor) (lines : List (List Nat)) =>
      if wide then lines.map (fun l => rowAlign (l.map (fun i => (s.operand t i).1.v))) else []
    let endsA := ends ta (unitA ta.desc c p whole)
    let endsB := ends tb (unitB tb.desc c p whole)
    let cell := fun (i j : Nat) =>
      let pairs := List.zip (rows.getD i []) (cols.getD j []) |>.map (fun x => List.zip x.1 x.2)
      if wide then
        let (ea, xa) := endsA.getD i (0, false)
        let (eb, xb) := endsB.getD j (0, false)
        let r := cell64 (xa || xb) ea eb (pairs.map (fun ch => ch.map (fun x => (x.1.1.v, x.2.1.v))))
        ((convert .fp64 false .rn r.v).code, r.fl)
      else
        let stored := pairs.any (fun ch => ch.any (fun x => x.1.2.2 || x.2.2.2))
        let r := cellOf stored (half16 (descFmt ta.desc)) (mmPrec c == 1)
          (pairs.map (fun ch => ch.map (fun x => ({ a := x.1.1, b := x.2.1, gated := x.1.2.1 || x.2.2.1 } : Term))))
        ((toFp32 r.v).code, r.fl)
    let cells := (List.range 32).flatMap (fun i => (List.range 32).map (fun j =>
      if i < rows.length ∧ j < cols.length then cell i j else (0, 0)))
    let bad := fun (g : List (List (List (Elem × Bool × Bool)))) => g.any (fun r => r.any (fun ch => ch.any (·.1.bad)))
    { acc := cells.map (fun x => BitVec.ofNat 64 x.1), fl := cells.foldl (fun f x => f ||| x.2) 0, bad := bad rows || bad cols }
  | _, _ => { acc := [], fl := 0, bad := false }

/-- R100: correction slots of a unit: distinct k at which a row of A, or a column of B, has a sidecar value. -/
def State.correctionSlots (s : State) (c : Line) (parts u : Nat) : Nat :=
  let p := unitPos c parts u
  let ks := partKs c parts p.part
  let side := fun (t : Tensor) (idx : Nat) =>
    descSidecar t.desc && (let (b, pos) := blockOf t.desc idx
      match s.sideOwn (descHdr t.desc) b with
      | some k => s.sideEntry (descHdr t.desc) b k / 2 ^ 16 % 128 == pos
      | none => false)
  let count := fun (t : Tensor) (lines : List (List Nat)) =>
    ((List.range ks.length).filter (fun k => lines.any (fun l => side t (l.getD k 0)))).length
  match s.tensor (handleAt c 8), s.tensor (handleAt c 11) with
  | some ta, some tb =>
    (if descSidecar ta.desc then count ta (unitA ta.desc c p ks) else 0) +
    (if descSidecar tb.desc then count tb (unitB tb.desc c p ks) else 0)
  | _, _ => 0

/-- R101: the outlier tiles that run with a unit: the stored rows of A in groups of 32 against its column tile, the stored
columns of B in groups of 32 against its row tile. Group k goes with row tile or column tile k. -/
def State.outlierTiles (s : State) (c : Line) (parts u : Nat) : Nat :=
  match s.tensor (handleAt c 8), s.tensor (handleAt c 11) with
  | some ta, some tb =>
    let p := unitPos c parts u
    let groups := fun (t : Tensor) (n : Nat) (idx : Nat → Nat) =>
      if descOutlier t.desc then ceilDiv ((List.range n).filter (fun m => s.storedElem t.desc (t.hdr 0) (idx m))).length 32 else 0
    (if p.mt < groups ta (mmM c) (fun m => elemA ta.desc c p.b m 0) then 1 else 0) +
    (if p.nt < groups tb (mmN c) (fun n => elemB tb.desc c p.b 0 n) then 1 else 0)
  | _, _ => 0

/-- R98: cycles of a unit of K values. -/
def unitCycles (c : Line) (f : Fmt) (k : Nat) : Nat :=
  if mmPrec c = 2 then 68 + ceilDiv k 65536 * (64 * max (min k 65536) 32 + 12)
  else if mmPrec c = 1 then 72 + 6 * k
  else if half16 f then 70 + 2 * k
  else if f = .fp4 then 70 + ceilDiv k 2
  else 70 + k

/-! ### The start (R92, R95, R96) -/

/-- R96: the direct-access clusters that are enabled. -/
def State.directClusters (s : State) : List Nat := [0, 8, 16, 24].filter s.enabled

/-- R175: whether a MATMUL writes all of C. -/
def wholeC (c dc : Line) : Bool :=
  !mmAdd c && mmMOff c == 0 && mmNOff c == 0 && mmBOff c == 0 && mmM c == descExt dc 1 && mmN c == descExt dc 0 &&
    mmBatch c == descExt dc 2

/-- The MATMUL as a started command. -/
def State.matmulStarted (s : State) (q : Nat) (l : ListRun) (c : Line) (p : BitVec 1024) : Started :=
  let hc := handleAt c 14
  let dc := s.desc hc
  let parts := s.partsOf c (pInPlace p)
  let fb := pInPlace p && s.directClusters.isEmpty && mmK c != 0
  { s.asStarted q l c with
    reads := handlesAt c [8, 11] ++ (epiNamed p [0, 1, 2, 4]).map (·.2), writes := hc :: (epiNamed p [3]).map (·.2),
    covers := if wholeC c dc && wholeWrite p (mmAdd c) (pHandle p 4) then [hc] else [],
    opens := if descBook dc then [hc] else [],
    status := if fb then St.directFallback else 0,
    work := .matmul { parts := parts, total := if mmK c = 0 then 0 else mmTiles c * parts, lookahead := s.dv 0xA04300, prog := p, inPlace := pInPlace p, fallback := fb } }

/-- R92: what a K extent of 0 writes: in overwrite mode +0 to every selected element of C. -/
def State.emptyWrites (s : State) (c : Line) : List (Nat × Val) :=
  let dc := s.desc (handleAt c 14)
  if mmAdd c then []
  else (List.range (mmBatch c)).flatMap (fun b => (List.range (mmM c)).flatMap (fun m =>
    (List.range (mmN c)).map (fun n => (elemC dc c b m n, Val.zero))))

/-- R92: the work of a MATMUL of K extent 0; the command sets EMPTY. -/
def State.emptyK (s : State) (q id : Nat) (c : Line) : State :=
  let hc := handleAt c 14
  let a := if mmAdd c then ⟨s, 0, false⟩
    else s.writeResults hc { field := mmRound c, cluster := s.idlestCluster } false true false (s.emptyWrites c) []
  let s1 := if wholeC c (s.desc hc) then a.s.coverTensor hc else a.s
  s1.onStarted q id (fun st => { st with done := true, flags := st.flags ||| flagWord (a.fl ||| Flag.empty), work := .none })

/-- A MATMUL of K extent 0 does its work, or waits: at a barrier (R332), for a critical package (R227), for a staging frame of the
blocks it writes (R69). -/
def State.goEmpty (s : State) (q : Nat) (st : Started) : State :=
  let hc := handleAt st.cmd 14
  let blocks := ((s.emptyWrites st.cmd).map (fun p => (blockOf (s.desc hc) p.1).1)).eraseDups
  if s.engineStop [] [hc] ≠ 0 then s.engineEnds q st (s.engineStop [] [hc])
  else if s.memoryWaits [hc] then s.beginHot q st.id
  else if !blocks.isEmpty && s.tensorBarred hc then s.barAct q st [hc]
  else if s.stageHeld hc blocks then s.beginStaging q st.id
  else (s.endHolds q st).emptyK q st.id st.cmd

/-- The VECTORs that wait, and the MATMULs of K extent 0, go on as far as they can. -/
def State.runEngines (s : State) : State :=
  s.runVectors.queues.foldl (fun s e => e.2.started.foldl (fun s st =>
    match s.startedOf e.1 st.id with
    | none => s
    | some st => match st.work with
      | .matmul _ => if mmK st.cmd = 0 ∧ st.done = false then s.goEmpty e.1 st else s
      | _ => s) s) s.runVectors

/-- R92, R96: a MATMUL that passed its checks enters the scheduler. -/
def State.startMatmul (s : State) (q : Nat) (l : ListRun) (c : Line) : State :=
  let p := (s.fetchProg (fld c 18 2) 18 true).1
  if mmTiles c = 0 then s.atOnce q l c .ok
  else
    let st := s.matmulStarted q l c p
    let s1 := (s.enter q st).drawn
    let s2 := if st.status = 0 then s1 else s1.bump 0xA01600 1
    if mmK c = 0 then s2.runEngines else s2

/-- Waits before the start: barred segments (R332), a critical package (R227). -/
def State.matmulWaits (s : State) (c : Line) (p : BitVec 1024) : Bool :=
  s.tensorBarred (handleAt c 14) || s.memoryWaits (handlesAt c [8, 11, 14] ++ (epiNamed p [0, 1, 2, 3, 4]).map (·.2))

/-- The meaning of MATMUL, with the words and lines in error that it reads (R210, R421). -/
def State.matmul (s : State) (q : Nat) (c : Line) (rd : CmdRead) : State :=
  let p := (s.fetchProg (fld c 18 2) 18 true).1
  s.take q c (handlesAt c [8, 11] ++ (epiNamed p [0, 1, 2, 4]).map (·.2)) (handlesAt c [14] ++ (epiNamed p [3]).map (·.2))
    (fun _ => s.matmulFail q c)
    (fun l => if s.matmulWaits c p then s.waitHot q (s.memoryWaits (handlesAt c [8, 11, 14] ++ (epiNamed p [0, 1, 2, 3, 4]).map (·.2)))
      else s.coherent (handlesAt c [8, 11] ++ (epiNamed p [0, 1, 2, 4]).map (·.2)) (handlesAt c [14] ++ (epiNamed p [3]).map (·.2)) (fun s => (s.readErrors rd).startMatmul q l c))

/-- MATMUL (R90, R91). -/
def execMatmul (q : Fin 256) (c : CmdRead) (s : State) : Host.Outcome State Fault Refusal := .next (s.matmul q c.line c)

end Sys2Proof.Machine
end

