-- ==== Sys2Proof/Machine/Points.lean ====
section
/-!
DEFINITION. Operating points: the limits of a region (R347, R349, R359, R362), its voltage (R346, R357), and the counting of
throttle reasons (R370).
-/

namespace Sys2Proof.Machine

/-! ### Limits (R347, R349) -/

/-- R359: failed slices of a region, and the slice limit. -/
def Region.failures (x : Region) : Nat := (setBits 16 x.failed.toNat).length
def Region.sliceLimit (x : Region) : Nat := if x.failures = 0 then 7 else if x.failures = 1 then 6 else 5

/-- R362: the land-group limit. -/
def Region.landLimit (x : Region) : Nat := if x.land then 5 else 7

/-- R381: whether the coolant power limit stands in for the effective cap. -/
def State.coolantCaps (s : State) : Bool := decide (s.dv 0x280600 < s.dv 0x200200)

/-- R347: the ceiling that binds a region: of cluster regions only. -/
def State.ceilingOf (s : State) (r : Nat) : Nat := if r < 32 then s.power.ceiling else 7

/-- R347, R349: the highest point a region may run at. -/
def State.allowedPoint (s : State) (r : Nat) : Nat :=
  let x := s.region r
  let base := min x.sliceLimit x.landLimit
  if r < 32 then min base (min s.power.ceiling (min x.thermal (min x.monitor x.supply))) else base

/-- R347, R366, R369: the point a region is to run at; in interval mode it is OP0. -/
def State.wantedPoint (s : State) (r : Nat) : Nat :=
  if r < 32 then (if s.power.intervalOn then 0 else min (s.region r).preferred (s.allowedPoint r)) else s.allowedPoint r

/-! ### Voltages (R346, R357) -/

/-- R346: the nominal region voltage of a point, in mV. -/
def pointVolt (p : Nat) : Nat := [450, 470, 490, 510, 530, 560, 590, 620].getD p 620

/-- R357: a region's voltage at a point, with the droop predictor's margin. -/
def State.regionVolt (s : State) (r p : Nat) : Nat := pointVolt p + (s.region r).margin

/-- R352, R357: the rail the regions in use need: their voltages, and those of the points they are to be raised to, with the
headroom, within 0.45–0.68 V. -/
def State.railNeed (s : State) : Nat :=
  let top := (List.range 48).foldl (fun m k =>
    let x := s.region k
    if x.power = 3 then m
    else max m (s.regionVolt k (match x.change with | some c => max c.target x.point | none => x.point))) 0
  min 680 (max 450 (top + s.dv 0x200700))

/-- R357, R358: the rail is commanded; while AVSBus is silent the last setpoint stays. -/
def State.setRail (s : State) (mv : Nat) : State :=
  if mv = s.power.setpoint ∨ s.power.avsSilent = true then s
  else ({ s with power := { s.power with setpoint := mv } }).send (.railVoltage mv)

/-! ### Throttle reasons (R370) -/

/-- R358, R370: whether a supply fault lasts. -/
def State.supplyFault (s : State) : Bool :=
  s.power.avsSilent || s.power.pmbusFault || s.power.feedBad || decide (700 < s.power.railMv) || (s.power.railLow.any (fun t => decide (t + 1000000 ≤ s.now))) ||
    (List.range 32).any (fun r => decide ((s.region r).supply < 7))

/-- R370: the regions a reason holds now; a reason of the whole module holds no region in particular but the ones it acts on:
FLOOR and SUPPLY count once, OVERCURRENT for the cluster regions, GUARD for all. SLOPE is counted by request (R363). -/
def State.heldBy (s : State) (reason : Nat) : List Nat :=
  let below := fun (lim : Nat → Nat) (n : Nat) =>
    (List.range n).filter (fun r => (s.region r).power == 0 && decide (lim r < (s.region r).preferred))
  match reason with
  | 1 => if s.coolantCaps then [] else below (fun _ => s.power.ceiling) 32
  | 2 => if s.dv 0x200100 < 90 then [0] else []
  | 3 => (List.range 32).filter (fun r => (s.region r).interval)
  | 5 => (List.range 48).filter (fun r => decide (0 < (s.region r).staged))
  | 6 => (List.range 48).filter (fun r => (s.region r).stretch)
  | 7 => below (fun r => (s.region r).thermal) 32
  | 8 => if s.coolantCaps then below (fun _ => s.power.ceiling) 32 else []
  | 9 => below (fun r => (s.region r).sliceLimit) 48
  | 10 => below (fun r => (s.region r).landLimit) 48
  | 11 => below (fun r => (s.region r).monitor) 32
  | 12 => if s.supplyFault then [0] else []
  | 13 => if s.power.overcurrent then List.range 32 else []
  | 14 => if s.dv 0x300B00 = 1 ∧ 0 < s.dv 0x110800 then List.range 48 else []
  | _ => []

/-- The reasons counted by state. -/
def heldReasons : List Nat := [1, 2, 3, 5, 6, 7, 8, 9, 10, 11, 12, 13, 14]

/-- R370, R384: time under every reason that has held since it was last counted, and keep-warm time. -/
def State.accrue (s : State) (t : Nat) : State :=
  let dt := t - s.power.accruedAt
  let s1 := heldReasons.foldl (fun x r => if (s.heldBy r).isEmpty || dt == 0 then x else x.throttleTime r ((s.heldBy r).length * dt)) s
  let warm := ((List.range 32).filter (fun c => (s.cluster c).pattern.isSome && (s.region c).power == 0)).length
  let s2 := if warm = 0 then s1 else s1.bump 0x284100 (warm * dt)
  { s2 with power := { s2.power with accruedAt := max t s.power.accruedAt } }

/-- R370: events of a reason between two states: regions newly held, or one start of a condition of the whole module. -/
def newlyHeld (a b : State) (reason : Nat) : Nat :=
  let n := ((b.heldBy reason).filter (fun r => !(a.heldBy reason).contains r)).length
  if reason = 2 ∨ reason = 12 ∨ reason = 13 ∨ reason = 14 then min n (if (a.heldBy reason).isEmpty then 1 else 0) else n

/-- A change of clocks, power or cooling at a device time, with its throttle reasons counted. -/
def State.timed (s : State) (t : Nat) (f : State → State) : State :=
  let s0 := (s.accrue (s.tick t).now).tick t
  let s1 := f s0
  heldReasons.foldl (fun x r =>
    let n := newlyHeld s0 s1 r
    (List.range n).foldl (fun x _ => x.throttleEvent r) x) s1

end Sys2Proof.Machine
end

