-- ==== Sys2Proof/Machine/Adder.lean ====
section
/-!
DEFINITION. The memory-side adders: float and integer adds of a line, atomics, their entries and what stops them (R220 to R222).
Memory holds the value with every entry's sums applied (R219, R221: a load is served from the entry); an entry is kept as its
line and the time of its last use.
-/

namespace Sys2Proof.Machine

/-! ### Arithmetic (R220) -/

/-- The byte width of an add's elements. -/
def addWidth : AddKind → Nat
  | .fp32 => 4 | .bf16 => 2 | .int32 => 4 | .int64 => 8 | .book => 4

/-- One element: the sum's code and its flags. -/
def addCode (k : AddKind) (a b : Nat) : Nat × Nat :=
  match k with
  | .int32 => ((a + b) % 2 ^ 32, 0)
  | .int64 => ((a + b) % 2 ^ 64, 0)
  | .bf16 =>
    let x := Fmt.bf16.decode a
    let y := Fmt.bf16.decode b
    let r := Val.add x y
    let c := convert .bf16 false .rn r.v
    (c.code, r.fl ||| c.fl ||| x.nf ||| y.nf)
  | _ =>
    let r := Val.add (f32 a) (f32 b)
    let c := toFp32 r.v
    (c.code, r.fl ||| c.fl ||| (f32 a).nf ||| (f32 b).nf)

/-- Whole elements of some bytes added to others, lowest first. -/
def addBytes (k : AddKind) (old new : List Byte) : List Byte × Nat :=
  let w := addWidth k
  (List.range (old.length / w)).foldl (fun (acc : List Byte × Nat) i =>
    let r := addCode k (leNat ((old.drop (w * i)).take w)) (leNat ((new.drop (w * i)).take w))
    (acc.1 ++ leBytes w r.1, acc.2 ||| r.2)) ([], 0)

/-- The width in bytes of an atomic. -/
def atomBytes (a : Atom) : Nat := if a.wide then 8 else 4

/-- The new value of an atomic's location. -/
def atomNew (a : Atom) (old : Nat) : Nat :=
  let w := 8 * (atomBytes a)
  let v := a.operand.toNat % 2 ^ w
  let less := if a.signed then decide (signed w v < signed w old) else decide (v < old)
  let more := if a.signed then decide (signed w old < signed w v) else decide (old < v)
  match a.kind with
  | .add => (old + v) % 2 ^ w
  | .min => if less then v else old
  | .max => if more then v else old
  | .swap => v
  | .cas => if old = a.compare.toNat % 2 ^ w then v else old

/-! ### Entries (R222) -/

/-- R222, R227, R332: the counter to which an operation on a line waits now (0: none), `none` when it may go on. -/
def State.adderHold (s : State) (near : Nat) : Option Nat :=
  let p := s.package (pkgOf near)
  if p.derate == 3 && !p.critical then some 0x400D00
  else if s.cooling.stopped then some 0
  else if 128 ≤ (s.channel (chanOf near)).admitted.length then some 0x400700
  else if s.barred near || s.barrierFull near then some 0x601900
  else if !(s.channel (chanOf near)).hasEntry (lineOf near) then some 0x400800
  else none

/-! ### Operations -/

/-- What an operation leaves: state, status, flags, old value. -/
structure AddOut where
  s : State
  status : Nat := 0
  flags : Nat := 0
  old : Nat := 0

/-- R210, R220: an operation that meets a line which does not decode is not performed; the line's read is recorded, and the line
written back as poisoned. -/
def State.addPoisoned (s : State) (near : Nat) : AddOut := { s := s.poisonRead near, status := St.dataPoisoned }

/-- A line add at a near-home address, its entry used; what an integer add returns when fetching is the line's old value. -/
def State.lineAdd (s : State) (near : Nat) (k : AddKind) (data : List Byte) : AddOut :=
  let line := lineOf near
  if s.badRange line 64 then s.addPoisoned near
  else
    let r := addBytes k (s.rdBytes line 64) data
    { s := (s.wrBytes line r.1).onChannel (chanOf near) (fun c => c.useEntry line s.now), flags := r.2,
      old := match k with | .int32 => leNat (s.rdBytes line 64) | .int64 => leNat (s.rdBytes line 64) | _ => 0 }

/-- An atomic in LPDDR. -/
def State.lineAtom (s : State) (near : Nat) (a : Atom) : AddOut :=
  if s.badRange (lineOf near) 64 then s.addPoisoned near
  else
    let old := s.rdNat near (atomBytes a)
    { s := (s.wrNat near (atomBytes a) (atomNew a old)).onChannel (chanOf near) (fun c => c.useEntry (lineOf near) s.now), old := old }

/-- R178: the value an atomic finds in a counter: with every update that waits before it applied. -/
def State.counterNow (s : State) (n : Nat) : BitVec 64 :=
  (s.ingress.filter (fun u => u.counter == n)).foldl (fun v u => if u.set then u.value else v + u.value) (s.counter n)

/-- R177: an atomic at the arrival counters; only a 64-bit ADD is performed there. -/
def State.counterAtom (s : State) (off : Nat) (a : Atom) (source : Nat) : AddOut :=
  if off % 8 = 0 ∧ off < 0x8000 ∧ a.wide = true ∧ a.kind = .add then
    { s := s.counterUpdate { counter := off / 8, set := false, value := a.operand, source := source, since := s.now },
      old := (s.counterNow (off / 8)).toNat }
  else { s := s.addressFault 3 s.node (0x210000000000 + off) 15 St.transferTarget, status := St.transferTarget }

/-- R220: an add or atomic where no adder serves. -/
def State.noAdder (s : State) (o : Origin) (a : Nat) : AddOut :=
  { s := s.faultOf o 3 a 8 St.transferTarget, status := St.transferTarget }

/-- What an operation met at its target. -/
inductive AddTry where
  | done (o : AddOut)
  /-- it waits, for the counter it is added to; the state holds the snoops it started -/
  | wait (s : State) (key : Nat)

/-- R220: what stops an add or atomic at a near-home address before it reaches its adder: reservations and packages. -/
def State.adderStop (s : State) (near n : Nat) (side : Side) : Nat := s.memStatus near n side true

/-- A line add or atomic of the module or of an agent at a local address, in LPDDR: it retires the line's partial store first
(R223), and reads a line that has no entry (R221), with the errors `rd`. -/
def State.tryAdder (s : State) (near n : Nat) (side : Side) (o : Origin) (rd : LineRead) (f : State → AddOut) : AddTry :=
  let st := s.adderStop near n side
  if st ≠ 0 then
    .done { s := if st = St.memoryDenied ∨ st = St.addressUnmapped then s.faultOf o 3 near 8 st else s, status := st }
  else match s.adderHold near with
    | some k => .wait s k
    | none =>
      let r := s.access near true
      if r.2 then .done (f ((r.1.retireLine (lineOf near) rd).wakeChannel (chanOf near))) else .wait r.1 0

/-- R220, R227, R273: a line add at a local address: misaligned, elsewhere than in LPDDR, waiting, or applied. -/
def State.tryLine (s : State) (a : Nat) (k : AddKind) (data : List Byte) (side : Side) (o : Origin) (rd : LineRead := {}) : AddTry :=
  match place a with
  | .lpddr near =>
    if a % 64 ≠ 0 ∨ data.length ≠ 64 then .done { s := s, status := St.misaligned }
    else s.tryAdder near 64 side o rd (fun s => s.lineAdd near k data)
  | .unmapped => .done { s := s.faultOf o 3 a 8 St.addressUnmapped, status := St.addressUnmapped }
  | _ => .done (s.noAdder o a)

/-- R177, R220: an atomic at a local address. -/
def State.tryAtom (s : State) (a : Nat) (x : Atom) (side : Side) (o : Origin) (source : Nat) (rd : LineRead := {}) : AddTry :=
  match place a with
  | .lpddr near =>
    if a % (atomBytes x) ≠ 0 then .done { s := s, status := St.misaligned }
    else s.tryAdder near (atomBytes x) side o rd (fun s => s.lineAtom near x)
  | .counters off => .done (s.counterAtom off x source)
  | .unmapped => .done { s := s.faultOf o 3 a 8 St.addressUnmapped, status := St.addressUnmapped }
  | _ => .done (s.noAdder o a)

/-! ### Book-scaled contributions (R66, R69) -/

/-- R66, R153: FP32 contributions to elements of a book-mode tensor, rounding RN; its frames are bound first (R191). -/
def State.bookAdd (s : State) (h first cluster : Nat) (vals : List Val) : Acc :=
  match s.tensor h with
  | none => ⟨s, 0, false⟩
  | some t =>
    let d := t.desc
    let b := (descFmt d).bits
    let s1 := s.bindBytes h cluster (first * b / 8) (ceilDiv (vals.length * b) 8)
    let a := State.storeBook ⟨s1, 0, false⟩ h ((s1.tensor h).getD t) none 1 false false
      (List.zip ((List.range vals.length).map (first + ·)) vals)
    { a with s := (a.s.latchVerdict h a.fl).useEntries d ((List.range vals.length).map (first + ·)) }

/-- R69: whether a contribution to some elements must wait for a staging frame. -/
def State.bookWaits (s : State) (h first n : Nat) : Bool :=
  match s.tensor h with
  | none => false
  | some t => s.stageBlocked t (((List.range n).map (fun i => (blockOf t.desc (first + i)).1)).eraseDups)

/-- R69, R222, R227, R332, R382: the counter to which a contribution to some elements waits now (0: none), `none` when it may go
on. -/
def State.bookHold (s : State) (h first n : Nat) : Option Nat :=
  let d := s.desc h
  let lines := (lineMasks (s.elemBytes d 0 ((List.range n).map (first + ·)))).map (·.1)
  let hot := fun (l : Nat) => (s.package (pkgOf l)).derate == 3 && !(s.package (pkgOf l)).critical
  if lines.any hot then some 0x400D00
  else if s.cooling.stopped then some 0
  else if s.bookWaits h first n then some 0x801300
  else if s.tensorBarred h then some 0x601900
  else if lines.any (fun l => !(s.channel (chanOf l)).hasEntry l) then some 0x400800
  else none

/-- R220, R221: the operations of the row: a line add, an atomic, a book-scaled contribution. -/
def State.tryOp (s : State) (o : AdderOp) (side : Side) (node source : Nat) (rd : LineRead := {}) : AddTry :=
  match o with
  | .line a k data => s.tryLine a.toNat k data side { node := node } rd
  | .atom a x => s.tryAtom a.toNat x side { node := node } source rd
  | .book h first vals =>
    let t := h.toNat
    let d := s.desc t
    if !descBook d || s.isRemote d || decide (descElems d < first + vals.length) then .done { s := s, status := St.bookRequired }
    else match s.bookHold t first vals.length with
      | some key => .wait s key
      | none =>
        let r := s.accessTensors [] [t]
        if r.2 then
          let a := r.1.bookAdd t first r.1.idlestCluster (vals.map (fun v => f32 v.toNat))
          .done { s := a.s, status := if a.bad then St.dataPoisoned else 0, flags := a.fl }
        else .wait r.1 0

/-- The channel whose ingress an operation waits at. -/
def State.opChannel (s : State) (o : AdderOp) : Nat :=
  let ofAddr := fun (a : Nat) => match place a with | .lpddr n => chanOf n | _ => 0
  match o with
  | .line a _ _ => ofAddr a.toNat
  | .atom a _ => ofAddr a.toNat
  | .book h first _ =>
    match s.dataAddr (s.desc h.toNat) (elemOff (s.desc h.toNat) 0 first).1 with
    | some a => ofAddr a
    | none => 0

end Sys2Proof.Machine
end

