-- ==== Sys2Proof/Machine/Tee.lean ====
section
/-!
DEFINITION. The tee to the twin (R158, R159): its stores and marks, and the aperture at the mirror budget that paces them (R239, R314).
-/

namespace Sys2Proof.Machine

/-- R158, R317: whether the module tees: PAIRED, or DETACHING with its own DETACH not yet sent (0x6001:00). -/
def State.paired (s : State) : Bool := s.dv 0x600100 == 2 || (s.dv 0x600100 == 3 && !s.twin.detachSent)

/-- R248: the capacity of a port, in 0.1 GB/s. -/
def State.portRate (s : State) (p : Nat) : Nat := 250 * (setBits 8 (s.port p).lanes.toNat).length

/-- R314: the capacity of P0 and P1, as far as they are UP. -/
def State.teeRate (s : State) : Nat := ([0, 1].filter s.portUp).foldl (fun n p => n + s.portRate p) 0

/-- R158, R239, R314: the tee's aperture gains the mirror budget's share, 0x6008:00, of that capacity; up to 4 KiB once nothing waits
for it. -/
def State.teeCredit (s : State) : State :=
  let gained := s.twin.bucket + s.dv 0x600800 * s.teeRate * (s.now - s.twin.creditAt)
  { s with twin := { s.twin with bucket := if s.twin.tees.isEmpty then min (4096 * 2560) gained else gained, creditAt := s.now } }

/-- R158, R159: one tee store or mark sent to the twin and counted. -/
def State.teeSend (s : State) (x : TeeStore) : State :=
  let lines := ceilDiv x.data.length 64
  let r := (s.ask (s.dv 0x600200) 0 {
    op := 0x02, flag := x.mark != 0, addr := x.addr, lines := lines, data := x.data, why := .tee }).1
  { r with twin := { r.twin with
      tees := r.twin.tees.drop 1, bucket := r.twin.bucket - 64 * lines * 2560,
      markSent := if x.mark = 0 then r.twin.markSent else x.mark } }

/-- R158: tee stores go in the order of the local writes while the bucket holds their cost. -/
def State.drainTees : Nat → State → State
  | 0, s => s
  | n + 1, s => match s.twin.tees with
    | [] => s
    | x :: _ => if 64 * ceilDiv x.data.length 64 * 2560 ≤ s.twin.bucket then State.drainTees n (s.teeSend x) else s

/-- R158: the tee has caught up, or is over: the update unit's wait is counted and its commands are done. -/
def State.teeSettle (s : State) (since : Option Nat) : State :=
  if !s.twin.tees.isEmpty then s
  else
    let s1 := match since with | some t => s.surge 0xA03700 t | none => s
    { s1 with
      twin := { s1.twin with teeSince := none },
      queues := s1.queues.map (fun e => (e.1, { e.2 with started := e.2.started.map (fun st =>
        if st.teeing then { st with teeing := false, done := true } else st) })) }

/-- R158: the tee goes on as far as its aperture lets it; the update unit's wait begins where it falls behind. -/
def State.teeRun (s : State) : State :=
  if s.twin.tees.isEmpty then s
  else
    let s1 := (State.drainTees s.twin.tees.length s.teeCredit).teeCredit
    let since := match s1.twin.teeSince with | some t => some t | none => some s1.now
    ({ s1 with twin := { s1.twin with teeSince := since } } : State).teeSettle (if s.twin.teeSince.isSome then since else none)

/-- R317: what waits at the aperture goes at once, ahead of a DETACH or RELEASE (log entry 153). -/
def State.teeFlush (s : State) : State := (s.twin.tees.foldl (fun s x => s.teeSend x) s).teeSettle s.twin.teeSince

/-- R158: bytes of module memory that go to the twin at the same address, in stores of at most the bucket's 4 KiB, behind those that
wait. -/
def State.teeRange (s : State) (a n : Nat) : State :=
  let lines := ceilDiv n 64
  { s with twin := { s.twin with teed := s.twin.teed + 64 * lines, tees := s.twin.tees ++ (List.range (ceilDiv lines 64)).map (fun i =>
      { addr := a + 4096 * i, data := s.rdBytes (a + 4096 * i) (64 * min 64 (lines - 64 * i)) }) } }

end Sys2Proof.Machine
end

