-- ==== Sys2Proof/Machine/Transfer.lean ====
section
/-!
DEFINITION. The transfer engine: COPY, ADD and FILL, their channels, aperture, transactions, read-back and remote signal (R197,
R232 to R245).
-/

namespace Sys2Proof.Machine

/-! ### Fields (R235) -/

def xSrc (c : Line) : Nat := fld c 8 8
def xDst (c : Line) : Nat := fld c 16 8
def xK (c : Line) : Nat := bitsAt c 24 0 5
def xRemote (c : Line) : Bool := bitAt c 25 0
def xType (c : Line) : Nat := bitsAt c 25 1 3
def xShare (c : Line) : Nat := if fld c 26 1 = 0 then 256 else fld c 26 1
def xCount (c : Line) (j : Nat) : Nat := fld c (28 + 3 * j) 3 + 1
def xHandle (c : Line) : Nat := handleAt c 37
/-- Bytes of a unit. -/
def xUnit (c : Line) : Nat := 32 * 2 ^ xK c
/-- The step of loop `j`: source (0) or destination (1). -/
def xStep (c : Line) (j side : Nat) : Int := signed 32 (fld c (40 + 8 * j + 4 * side) 4)
def transferReserved : List (Nat × Nat × Nat) := [(24, 5, 3), (25, 4, 4), (27, 0, 8)]

/-- Units of a transfer (R236). -/
def xUnits (c : Line) : Nat := xCount c 0 * xCount c 1 * xCount c 2

/-- Whether the command adds into a book-mode tensor (R241). -/
def xBook (op : Nat) (c : Line) : Bool := op == 0x41 && xType c == 4

/-! ### Spans and sides (R237, R238) -/

/-- Where a side lies: 0 near-home, 1 striped, 2 a scratchpad, 3 another node; addresses at that node. -/
structure XSide where
  node : Nat := 0xFFFF
  kind : Nat
  lo : Nat
  hi : Nat
deriving DecidableEq, Repr

/-- The lowest and highest offset, past its base, of a side's unit starts. -/
def xReach (c : Line) (side : Nat) : Int × Int :=
  [0, 1, 2].foldl (fun (x : Int × Int) j =>
    let e := xStep c j side * ((xCount c j : Int) - 1)
    (x.1 + min 0 e, x.2 + max 0 e)) (0, 0)

/-- Whether a local range touches a control window (R213). -/
def touchesControl (lo hi : Nat) : Bool :=
  (decide (lo < 0x220000000000) && decide (0x200000000000 ≤ hi)) || (decide (lo < 0x400000000000) && decide (0x300000000000 ≤ hi))

/-- R238: the region a span lies in, or the status that refuses it. A side named through a local fabric window lies at the window's
node (DESIGN CHOICE, log entry 185). -/
def State.sideOf (s : State) (lo hi : Int) : Nat × XSide :=
  let none' : XSide := { kind := 0, lo := 0, hi := 0 }
  if lo < 0 ∨ 2 ^ 64 ≤ hi then (St.addressUnmapped, none')
  else
    let l := lo.toNat
    let h := hi.toNat
    let here := s.localNode (l / 2 ^ 48) && s.localNode (h / 2 ^ 48) && l / 2 ^ 48 == h / 2 ^ 48
    if here && touchesControl (l % 2 ^ 48) (h % 2 ^ 48) then (St.transferTarget, none')
    else
      match s.resolve l, s.resolve h with
      | .here a, .here b =>
        match place a, place b with
        | .lpddr _, .lpddr _ =>
          if (decide (a < 0x20000000000)) == decide (b < 0x20000000000) then
            (0, { kind := if a < 0x20000000000 then 0 else 1, lo := a, hi := b })
          else (St.addressUnmapped, none')
        | .scratch _, .scratch _ =>
          if a / 0x2000000 = b / 0x2000000 then (0, { kind := 2, lo := a, hi := b }) else (St.addressUnmapped, none')
        | _, _ => (St.addressUnmapped, none')
      | .away n a, .away m b =>
        if n = m ∧ b = a + (h - l) then (0, { node := n, kind := 3, lo := a, hi := b }) else (St.addressUnmapped, none')
      | .companion n a, .companion m b =>
        if n = m ∧ b = a + (h - l) then (0, { node := n, kind := 3, lo := a, hi := b }) else (St.addressUnmapped, none')
      | _, _ => (St.addressUnmapped, none')

/-- The source side of COPY and ADD, the destination side but for a book-mode add. -/
def State.srcSide (s : State) (c : Line) : Nat × XSide :=
  let r := xReach c 0
  s.sideOf ((xSrc c : Int) + r.1) ((xSrc c : Int) + r.2 + xUnit c - 1)
def State.dstSide (s : State) (c : Line) : Nat × XSide :=
  let r := xReach c 1
  s.sideOf ((xDst c : Int) + r.1) ((xDst c : Int) + r.2 + xUnit c - 1)

/-- The alignment of the side that holds a global address (R237). -/
def State.sideAlign (s : State) (g : Nat) : Nat :=
  match s.resolve g with
  | .here a => match place a with | .scratch _ => 32 | _ => 64
  | _ => 64

/-- R215: whether the striped part of one range names bytes of the near-home part of another. -/
def crosses (st nr : XSide) : Bool :=
  let a := max st.lo 0x20000000000
  let b := min st.hi 0x3FFFFFFFFFF
  let top := min nr.hi 0x1FFFFFFFFFF
  (List.range (b / 4096 + 1 - a / 4096)).any (fun i =>
    let u := a / 4096 + i
    (List.range 16).any (fun j =>
      let lo := max a (u * 4096 + 256 * j)
      let hi := min b (u * 4096 + 256 * j + 255)
      decide (lo ≤ hi) && decide (stripe (lo - 0x20000000000) ≤ top) && decide (nr.lo ≤ stripe (hi - 0x20000000000))))

/-- R215, R238: whether two sides at one node share bytes of their spans, through either mapping of a module; the companion is no
module and has one. -/
def State.overlaps (s : State) (x y : XSide) : Bool :=
  x.node == y.node &&
    ((decide (x.lo ≤ y.hi) && decide (y.lo ≤ x.hi)) ||
      (!s.isCompanion x.node && (crosses x y || crosses y x)))

/-! ### Checks before the start (R235, R237, R238, R241) -/

/-- R237: the fields checked for alignment, in field order: byte, value, alignment. -/
def State.alignFields (s : State) (op : Nat) (c : Line) : List (Nat × Int × Nat) :=
  let sa := if op = 0x42 then 1 else s.sideAlign (xSrc c)
  let da := if xBook op c then 16 else s.sideAlign (xDst c)
  let ua := max sa (if xBook op c then 64 else da)
  [(8, (xSrc c : Int), sa), (16, (xDst c : Int), da), (24, (xUnit c : Int), ua)] ++
    [0, 1, 2].flatMap (fun j => [(40 + 8 * j, xStep c j 0, sa), (44 + 8 * j, xStep c j 1, da)])

/-- Bytes `lo` to `hi` of a tensor's data, as ranges of local addresses, where they are bound. -/
def State.spanRanges (s : State) (d : Line) (lo hi : Nat) : List XSide :=
  (List.range (hi / mapUnit d + 1 - lo / mapUnit d)).filterMap (fun i =>
    let u := lo / mapUnit d + i
    let a := max lo (u * mapUnit d)
    let b := min hi (u * mapUnit d + mapUnit d - 1)
    (s.dataAddr d a).map (fun p => { kind := if p < 0x20000000000 then 0 else if p < 0x40000000000 then 1 else 2, lo := p, hi := p + (b - a) }))

/-- The bytes of a tensor's data that a book-mode add names (R238). -/
def State.bookRanges (s : State) (c : Line) : List XSide :=
  let d := s.desc (xHandle c)
  let r := xReach c 1
  let bits := (descFmt d).bits
  let lo := ((xDst c : Int) + r.1).toNat * bits / 8
  let hi := ceilDiv (((xDst c : Int) + r.2).toNat + xUnit c / 4) (8 / min 8 bits) * (max 8 bits / 8) - 1
  s.spanRanges d lo hi

/-- R238: whether the elements a book-mode add names lie elsewhere than in LPDDR: a SCRATCH tensor's, a scratchpad-resident
LATENT tensor's, a scratchpad's. -/
def State.bookOffLpddr (s : State) (c : Line) : Bool :=
  let d := s.desc (xHandle c)
  descClass d == 2 || (descClass d == 4 && descLatentScratch d) || (s.bookRanges c).any (fun x => x.kind == 2)

/-- R241: the checks of a book-mode add. -/
def State.bookAddFail (s : State) (c : Line) : Option Fail :=
  let h := xHandle c
  let d := s.desc h
  let r := xReach c 1
  let src := s.srcSide c
  let meets := fun (x : XSide) => src.2.node == 0xFFFF && src.2.kind != 3 && s.overlaps src.2 x
  firstFail [
    failIf (decide ((xDst c : Int) + r.1 < 0) || decide ((descElems d : Int) < (xDst c : Int) + r.2 + (xUnit c / 4 : Nat)))
      { st := St.shapeMismatch, byte := 16, handle := h, value := xDst c },
    failIf (s.isRemote d) { st := St.remoteTensor, byte := 37, handle := h, value := h },
    s.verdictFail [(37, h)],
    failIf (s.bookOffLpddr c) { st := St.transferTarget, byte := 37, handle := h, value := h },
    failIf (s.wouldStage h && (s.spanRanges d 0 (descBytes d - 1)).any meets)
      { st := St.bookSelfRead, byte := 8, handle := h, value := xSrc c },
    failIf ((s.bookRanges c).any meets) { st := St.transferOverlap, byte := 8, handle := h, value := xSrc c } ]

/-- R235, R237, R238, R241: what stops a transfer before its start. -/
def State.transferFail (s : State) (q op : Nat) (c : Line) : Option Fail :=
  let book := xBook op c
  let src := s.srcSide c
  let dst := s.dstSide c
  let at' := fun (st byte value : Nat) => ({ st := st, byte := byte, addr := value, value := value } : Fail)
  firstFail [
    s.headerFail q c transferReserved,
    failIf (decide (16 < xK c)) { st := St.fieldRange, byte := 24, value := xK c },
    failIf (decide (4 < xType c) || (xType c != 0 && op != 0x41)) { st := St.reservedSet, byte := 25, bit := 1, value := xType c },
    failIf (xHandle c != 0 && !book) { st := St.reservedSet, byte := 37, value := xHandle c },
    ([0, 1, 2].find? (fun j => op == 0x42 && xStep c j 0 != 0)).map (fun j =>
      { st := St.reservedSet, byte := 40 + 8 * j, value := fld c (40 + 8 * j) 4 }),
    if book then s.neededFail c [37] else none,
    failIf (book && (s.tensor (xHandle c)).any (fun t => t.owner != 0))
      { st := St.residualOwned, byte := 37, handle := xHandle c, value := xHandle c },
    failIf (book && !descBook (s.desc (xHandle c))) { st := St.bookRequired, byte := 37, handle := xHandle c, value := xHandle c },
    failIf (book && descRed (s.desc (xHandle c)) != 0) { st := St.scaleAxis, byte := 37, handle := xHandle c, value := xHandle c },
    ((s.alignFields op c).find? (fun f => f.2.1 % (f.2.2 : Int) != 0)).map (fun f =>
      { st := St.misaligned, byte := f.1, value := toBits 64 f.2.1 }),
    failIf (op != 0x42 && src.1 != 0) (at' src.1 8 (xSrc c)),
    if book then s.bookAddFail c
    else firstFail [
      failIf (dst.1 != 0) (at' dst.1 16 (xDst c)),
      failIf (op == 0x41 && (if dst.2.kind = 3 then decide (0x40000000000 ≤ dst.2.hi) || s.isCompanion dst.2.node else dst.2.kind == 2))
        (at' St.transferTarget 16 (xDst c)),
      failIf (op != 0x42 && s.overlaps src.2 dst.2) (at' St.transferOverlap 8 (xSrc c)) ] ]

/-! ### Placement (R232) -/

/-- The cluster whose scratchpad or near package holds a local address; the striped alias decides nothing. -/
def ownerCluster (a : Nat) : Option Nat :=
  match place a with
  | .lpddr n => if a < 0x20000000000 then some (pkgOf n) else none
  | .scratch x => some ((x - 0x100000000000) / 0x2000000)
  | _ => none

/-- R232: the measured occupancy of a cluster's transfer engine: line requests of its transfers dispatched and not yet done. -/
def State.xferBusy (s : State) (c n : Nat) : State := s.onCluster c (fun k => { k with xferOccupancy := k.xferOccupancy + n })
def State.xferFree (s : State) (c n : Nat) : State := s.onCluster c (fun k => { k with xferOccupancy := k.xferOccupancy - n })

/-- R232: the cluster that runs a transfer. A rule that names a cluster which is not enabled does not decide (DESIGN CHOICE, log
entry 157). -/
def State.transferCluster (s : State) (op : Nat) (c : Line) : Nat :=
  let ofG := fun (g : Nat) => match s.resolve g with | .here a => ownerCluster a | _ => none
  let r1 := if op = 0x42 then none else ofG (xSrc c)
  let r2 := if xBook op c then
      (s.dataAddr (s.desc (xHandle c)) (elemOff (s.desc (xHandle c)) 0 (xDst c)).1).bind ownerCluster
    else ofG (xDst c)
  let ok := fun (x : Option Nat) => x.filter (fun k => (s.cluster k).state == 0)
  match ok r1 with
  | some k => k
  | none => match ok r2 with
    | some k => k
    | none =>
      let cs := (List.range 32).filter (fun k => (s.cluster k).state == 0)
      cs.foldl (fun b k => if (s.cluster k).xferOccupancy < (s.cluster b).xferOccupancy then k else b) (cs.headD 0)

/-- The lowest-numbered free channel of a cluster. -/
def State.freeChan (s : State) (c : Nat) : Option Nat := (List.range 8).find? (fun n => (s.chan c n).job.isNone)

/-! ### The work of a transfer -/

def State.onTransfer (s : State) (q id : Nat) (f : TransferWork → TransferWork) : State :=
  s.onStarted q id (fun st => match st.work with
    | .transfer w => { st with work := .transfer (f w) }
    | _ => st)

def State.transferOf (s : State) (q id : Nat) : Option (Started × TransferWork) :=
  (s.startedOf q id).bind (fun st => match st.work with
    | .transfer w => if st.done then none else some (st, w)
    | _ => none)

/-- Bytes of one line request (R239): 32 between scratchpads, else 64. -/
def State.xLine (s : State) (op : Nat) (c : Line) : Nat :=
  let small := fun (g : Nat) => s.sideAlign g == 32
  if !xBook op c && small (xDst c) && (op == 0x42 || small (xSrc c)) then 32 else 64

/-- Line requests of the whole transfer. -/
def State.xLines (s : State) (op : Nat) (c : Line) : Nat := xUnits c * (xUnit c / s.xLine op c)

/-- R236: source and destination of line `i`, in pattern order; the destination of a book-mode add is an element. -/
def State.xPos (s : State) (op : Nat) (c : Line) (i : Nat) : Nat × Nat :=
  let l := s.xLine op c
  let per := xUnit c / l
  let u := i / per
  let off := i % per * l
  let k := [u % xCount c 0, u / xCount c 0 % xCount c 1, u / (xCount c 0 * xCount c 1)]
  let walk := fun (side : Nat) => [0, 1, 2].foldl (fun (x : Int) j => x + (k.getD j 0 : Int) * xStep c j side) 0
  (((xSrc c : Int) + walk 0 + off).toNat, ((xDst c : Int) + walk 1 + (if xBook op c then off / 4 else off : Nat)).toNat)

/-! ### The aperture (R239) -/

/-- The capacity of the near package, in 0.1 GB/s: its channels' trained rates, derated (R204, R225). -/
def State.packageRate (s : State) (p : Nat) : Nat :=
  let cap := match (s.package p).derate with | 0 => 384 | 1 => 338 | _ => 192
  (List.range 4).foldl (fun n k => n + min cap (384 * s.dv (0x401101 + 4 * p + k) / 14400)) 0

/-- R294: the capacity of the Traek link, in 0.1 GB/s. -/
def State.traekRate (s : State) : Nat := 1280 * s.traek.width / 16 / (if s.traek.half then 2 else 1)

/-- Whether some byte of a span lies in far memory of a cluster or in the striped alias. -/
def XSide.far (x : XSide) (cluster : Nat) : Bool :=
  x.kind == 1 || (x.kind == 0 && (pkgOf x.lo != cluster || pkgOf x.hi != cluster))

/-- R239: the capacity of the pacing path of a transfer, in 0.1 GB/s. Between two other modules the source's port paces it (DESIGN
CHOICE, log entry 184). -/
def State.pacing (s : State) (op : Nat) (c : Line) (cluster : Nat) : Nat :=
  let sides := (if op = 0x42 then [] else [(s.srcSide c).2]) ++ (if xBook op c then s.bookRanges c else [(s.dstSide c).2])
  let away := (sides.filter (fun x => x.kind == 3)).map (·.node)
  match away.find? s.isCompanion, away with
  | some _, _ => s.traekRate
  | none, n :: _ => match s.routePort n with | some p => s.portRate p | none => 2000
  | none, [] => if sides.any (·.far cluster) then 64 * 108 / [12, 10, 9, 8, 7, 6, 5, 4].getD (s.region cluster).point 4
      else s.packageRate cluster

/-- R239: the bucket's credit up to now. -/
def State.credit (s : State) (cluster n share cap : Nat) : State :=
  let k := s.chan cluster n
  s.setChan cluster n { k with
    bucket := min (4096 * 2560) (k.bucket + share * cap * (s.now - k.creditAt)), creditAt := s.now }

/-! ### One line (R234, R240, R241, R245) -/

/-- What came of a line: moved (or on its way to another node), waiting for the counter given, or failed. -/
structure Moved where
  s : State
  go : Bool := true
  key : Nat := 0
  status : Nat := 0
  /-- the transfer stops issuing (R245) -/
  stop : Bool := false
  flags : Nat := 0
  /-- an ADDRESS_FAULT record of it is written -/
  noted : Bool := false

/-- The pattern of a FILL, repeated. -/
def fillBytesOf (c : Line) (n : Nat) : List Byte :=
  (List.range n).map (fun i => BitVec.ofNat 8 (fld c (8 + i % 8) 1))

/-- R227, R229, R332, R445: what an access to a line of plain memory meets. -/
def State.lineMeets (s : State) (o : Origin) (a n : Nat) (write : Bool) : Option Moved :=
  let st := s.memStatus a n .command write
  if st ≠ 0 then
    let note := st == St.memoryDenied || st == St.addressUnmapped
    some { s := if note then s.faultOf o (if write then 2 else 1) a 4 st else s,
           go := true, status := st, stop := true, noted := note }
  else match place a with
    | .lpddr near =>
      let p := s.package (pkgOf near)
      if p.derate == 3 && !p.critical then some { s := s, go := false, key := 0x400D00 }
      else if 128 ≤ (s.channel (chanOf near)).admitted.length then some { s := s, go := false, key := 0x400700 }
      else if write && s.barred near then some { s := s, go := false, key := 0x601900 }
      else
        let r := s.access near write
        if r.2 then none else some { s := r.1, go := false }
    | _ => none

/-- R226: a transfer that moves a line of a package in state 2 or 3 will report it. -/
def State.noteDerated (s : State) (q id a : Nat) : State :=
  match place a with
  | .lpddr near => if 2 ≤ (s.package (pkgOf near)).derate then s.onStarted q id (fun st => { st with derated := true }) else s
  | _ => s

/-- The destination of a line stored at a local address; a poisoned line is stored poisoned (R211, R421). -/
def State.putHere (s : State) (a : Nat) (bytes : List Byte) (bad : Bool) : State :=
  if bad then
    let s1 := s.wrBytes a bytes
    match place a with
    | .lpddr near => (((s1.retireLine (lineOf near)).dropEntry (lineOf near)).markRange a bytes.length .poisoned).bump 0x400500 1
    | _ => s1.markRange a bytes.length .poisoned
  else s.storeBytes a bytes

/-- R245: the destination lines of a source line that carries poison, in a book-mode tensor, are written as poisoned. -/
def State.poisonElems (s : State) (h first n cluster : Nat) : State :=
  let d := s.desc h
  let s1 := s.bindBytes h cluster (first * (descFmt d).bits / 8) (ceilDiv (n * (descFmt d).bits) 8)
  let lines := (lineMasks (s1.elemBytes d 0 ((List.range n).map (first + ·)))).map (·.1)
  (lines.foldl (fun s l => if s.mark (markKey l) == .poisoned then s else (s.dropEntry l).poisonLine l) s1)

/-- The element type of an ADD (R235). -/
def xKind (c : Line) : AddKind := if xType c = 0 then .fp32 else if xType c = 1 then .bf16 else if xType c = 2 then .int32 else .int64

/-- The destination of line `i` takes its data. -/
def State.putLine (s : State) (q id op cluster : Nat) (c : Line) (i : Nat) (bytes : List Byte) (bad : Bool) : Moved :=
  let g := (s.xPos op c i).2
  let poison := if bad then St.dataPoisoned else 0
  if xBook op c then
    let h := xHandle c
    let vals := (List.range (bytes.length / 4)).map (fun k => f32 (leNat ((bytes.drop (4 * k)).take 4)))
    match s.bookHold h g vals.length with
    | some key => { s := s, go := false, key := key }
    | none =>
      let r := s.accessTensors [] [h]
      if !r.2 then { s := r.1, go := false }
      else if bad then { s := r.1.poisonElems h g vals.length cluster, status := St.dataPoisoned }
      else
        let a := r.1.bookAdd h g cluster vals
        { s := a.s, status := if a.bad then St.dataPoisoned else 0, flags := a.fl }
  else
    match s.resolve g with
    | .here a =>
      if op = 0x41 && !bad then
        match s.tryLine a (xKind c) bytes .command (s.originOf q id) with
        | .done o => { s := o.s.noteDerated q id a, status := o.status, flags := o.flags, stop := o.status != 0 && o.status != St.dataPoisoned,
                       noted := [St.memoryDenied, St.addressUnmapped, St.transferTarget].contains o.status }
        | .wait s1 key => { s := s1, go := false, key := key }
      else match s.lineMeets (s.originOf q id) a bytes.length true with
        | some m => m
        | none => { s := ((s.useLine a).noteDerated q id a).putHere a bytes bad, status := poison }
    | .nowhere => { s := s.faultOf (s.originOf q id) 2 (g % 2 ^ 48) 4 St.addressUnmapped, status := St.addressUnmapped, stop := true,
                    noted := true }
    | .companion n a =>
      let r := s.ask n cluster { op := 0x02, poison := bad, addr := a, lines := 1, data := bytes, owner := some (q, id), why := .put i }
      { s := r.1, status := if r.2 ≠ 0 then r.2 else poison, stop := r.2 != 0 }
    | .away n a =>
      let add := op = 0x41
      let r := s.ask n cluster {
        op := if add then 0x04 else 0x02, poison := bad, addr := a, lines := 1, aop := if add then xType c else 0, data := bytes,
        owner := some (q, id), why := .put i }
      { s := r.1, status := if r.2 ≠ 0 then r.2 else poison, stop := r.2 != 0 }

/-- Line `i` issued: read here and put, or asked for at another node. -/
def State.issueLine (s : State) (q id op cluster : Nat) (c : Line) (i : Nat) : Moved :=
  let n := s.xLine op c
  let g := (s.xPos op c i).1
  if op = 0x42 then s.putLine q id op cluster c i (fillBytesOf c n) false
  else
    match s.resolve g with
    | .here a =>
      match s.lineMeets (s.originOf q id) a n false with
      | some m => m
      | none => ((s.useLine a).noteDerated q id a).putLine q id op cluster c i (s.rdBytes a n) (s.badRange a n)
    | .nowhere => { s := s.faultOf (s.originOf q id) 1 (g % 2 ^ 48) 4 St.addressUnmapped, status := St.addressUnmapped, stop := true,
                    noted := true }
    | .companion m a =>
      let r := s.ask m cluster { op := 0x01, addr := a, lines := 1, owner := some (q, id), why := .xfer i }
      { s := r.1, status := r.2, stop := r.2 != 0 }
    | .away m a =>
      let r := s.ask m cluster { op := 0x01, addr := a, lines := 1, owner := some (q, id), why := .xfer i }
      { s := r.1, status := r.2, stop := r.2 != 0 }

/-- Whether a line has a request to another node. -/
def State.lineAway (s : State) (op : Nat) (c : Line) : Bool :=
  let away := fun (g : Nat) => match s.resolve g with | .away _ _ => true | .companion _ _ => true | _ => false
  (op != 0x42 && away (xSrc c)) || (!xBook op c && away (xDst c))

/-! ### Issuing (R233, R239, R245) -/

/-- R245: what a moved line leaves in the transfer's record: the first failure in pattern order, flags. -/
def State.noteLine (s : State) (q id i : Nat) (m : Moved) : State :=
  let kept := match s.transferOf q id with
    | some (_, w) => m.status != 0 && (match w.fail with | some f => decide (i < f.1) | none => true)
    | none => false
  ((if kept then s.onStarted q id (fun x => { x with failSlot := if m.noted then some s.logSlot else none }) else s).raise q id m.flags).onTransfer q id (fun w =>
    { w with
      stopped := w.stopped || m.stop, fail := if kept then some (i, m.status) else w.fail,
      failed := if m.status = 0 ∨ m.status = St.dataPoisoned ∨ w.failed.contains i then w.failed else w.failed ++ [i] })

/-- A wait that ends goes to its counter; held writes are counted (R332). -/
def State.endHold (s : State) (q id : Nat) (w : TransferWork) : State :=
  match w.hold with
  | some (key, since) =>
    (if key = 0 then s else s.surge key since).onTransfer q id (fun w => { w with hold := none })
  | none => s

/-- The segments of memory that line `i` of a transfer is written to (R332). -/
def State.lineSegs (s : State) (op i : Nat) (c : Line) : List Nat :=
  if xBook op c then s.sheetSegs [xHandle c]
  else match s.resolve (s.xPos op c i).2 with
    | .here a => [memKey a / 65536]
    | _ => []

/-- A wait that begins, or goes on; at the barrier it is counted, and the line's segments are copied early (R332). -/
def State.startHold (s : State) (q id : Nat) (w : TransferWork) (key : Nat) (segs : List Nat) : State :=
  match w.hold with
  | some (k, _) => if k = key then s else (s.endHold q id w).onTransfer q id (fun w => { w with hold := some (key, s.now) })
  | none => (if key = 0x601900 then (s.bump 0x601A00 1).copyFirst segs else s).onTransfer q id (fun w => { w with hold := some (key, s.now) })

/-- R233, R239, R197: whether the next line may be issued: `none`, or the counter its wait goes to. -/
def State.issueWait (s : State) (q id op cluster n : Nat) (c : Line) (granted : Bool) : Option Nat :=
  if !s.regionRuns cluster then some 0
  else if (s.chan cluster n).bucket < s.xLine op c * 2560 then some 0xA05300
  else if s.lineAway op c ∧ 256 ≤ s.outstanding q id then some 0
  else if 1536 ≤ s.inFlight cluster ∨ (!granted && !(s.cluster cluster).txWait.isEmpty) then some 0xA04800
  else none

/-- Up to `fuel` lines issued in pattern order. -/
def State.issueLines (q id op cluster n : Nat) (c : Line) : Nat → Bool → State → State
  | 0, _, s => s
  | fuel + 1, granted, s =>
    match s.transferOf q id with
    | none => s
    | some (_, w) =>
      if w.phase ≠ 0 ∨ w.stopped = true ∨ s.xLines op c ≤ w.next then s
      else match s.issueWait q id op cluster n c granted with
        | some key =>
          if key = 0xA04800 then (s.endHold q id w).queuePool cluster n id else s.startHold q id w key []
        | none =>
          let m := s.issueLine q id op cluster c w.next
          if m.go then
            let s1 := (m.s.noteLine q id w.next m).endHold q id w
            let cost := s.xLine op c
            let s2 := (s1.bump 0xA05100 (if m.status = 0 ∨ m.status = St.dataPoisoned then cost else 0)).xferFree cluster 1
            let k := s2.chan cluster n
            let s3 := (s2.setChan cluster n { k with bucket := k.bucket - cost * 2560 }).onTransfer q id (fun w =>
              { w with next := w.next + 1 })
            State.issueLines q id op cluster n c fuel false s3
          else m.s.startHold q id w m.key (m.s.lineSegs op w.next c)

/-- Lines that came from another node, put in pattern order as their destination takes them. -/
def State.putArrived (q id op cluster : Nat) (c : Line) : Nat → State → State
  | 0, s => s
  | fuel + 1, s =>
    match s.transferOf q id with
    | none => s
    | some (_, w) =>
      let loads := s.reqs.filterMap (fun r => if r.owner == some (q, id) then (match r.why with | .xfer i => some i | _ => none) else none)
      match w.arrived with
      | [] => s
      | x :: xs =>
        let first := xs.foldl (fun b y => if y.1 < b.1 then y else b) x
        if loads.any (fun j => decide (j < first.1)) then s
        else
          let m := s.putLine q id op cluster c first.1 first.2.1 first.2.2
          if m.go then
            State.putArrived q id op cluster c fuel
              (((m.s.noteLine q id first.1 m).endHold q id w).onTransfer q id (fun w => { w with arrived := w.arrived.filter (fun y => y.1 != first.1) }))
          else m.s.startHold q id w m.key (m.s.lineSegs op first.1 c)
/-! ### Stages 2 and 3 (R242 to R245) -/

/-- The address of the last destination line written, and its size. -/
def State.lastLine (s : State) (op : Nat) (c : Line) : Option (Where × Nat) :=
  let g := (s.xPos op c (s.xLines op c - 1)).2
  if xBook op c then
    let d := s.desc (xHandle c)
    (s.dataAddr d (elemOff d 0 (g + 15)).1).map (fun a => (.here (a / 64 * 64), 64))
  else
    let e := g + s.xLine op c - 1
    match s.resolve e with
    | .here a => match place a with | .scratch _ => some (.here (a / 32 * 32), 32) | _ => some (.here (a / 64 * 64), 64)
    | .away n a => some (.away n (a / 64 * 64), 64)
    | .companion n a => some (.companion n (a / 64 * 64), 64)
    | .nowhere => none

/-- Lines of a transfer that are under way: asked for, come and not yet stored, or stored elsewhere and not acknowledged. -/
def State.linesAway (s : State) (q id : Nat) (w : TransferWork) : List Nat :=
  let line := fun (o : Option (Nat × Nat)) (y : ReqUse) => if o == some (q, id) then
      (match y with | .xfer i => [i] | .put i => [i] | _ => []) else []
  w.arrived.map (·.1) ++ s.reqs.flatMap (fun r => line r.owner r.why) ++
    s.streamsOut.flatMap (fun e => (e.2.unacked ++ e.2.held).flatMap (fun p => p.uses.flatMap (fun u => line u.1 u.2))) ++
    (s.step.unsent ++ s.ports.flatMap (fun e => e.2.gateway ++ e.2.gatewayWait)).flatMap (fun g => g.parts.flatMap (fun p => line p.owner p.why))

/-- R245: of the units below `n`, the highest that holds none of some units; none where there is none. -/
def lastBelow (out : List Nat) : Nat → Nat → Option Nat
  | _, 0 => none
  | 0, _ => none
  | fuel + 1, n + 1 => if out.contains n then lastBelow out fuel n else some n

/-- The lowest and highest destination address of a transfer and the index of the last unit acknowledged, as the error record keeps
it beside the addresses: all ones where none was (log entry 29). -/
def State.transferReport (s : State) (q : Nat) (st : Started) (w : TransferWork) (op : Nat) : Nat × Nat × Nat :=
  let r := xReach st.cmd 1
  let lo := ((xDst st.cmd : Int) + r.1).toNat
  let hi := ((xDst st.cmd : Int) + r.2 + xUnit st.cmd - 1).toNat
  let per := xUnit st.cmd / s.xLine op st.cmd
  let out := (w.failed ++ s.linesAway q st.id w).map (· / per)
  let acked := (lastBelow out (out.length + 1) (w.next / per)).getD (2 ^ 40 - 1)
  if xBook op st.cmd then (xHandle st.cmd, 0, 0) else (acked % 2 ^ 40 * 2 ^ 24, lo, hi)

/-- A transfer's work is over with a status: its channel is free. -/
def State.endTransfer (s : State) (q id op : Nat) (st : Started) (w : TransferWork) (status : Nat) (silent : Bool := false) : State :=
  let r := s.transferReport q st w op
  let s1 := match w.chan with
    | some n => s.setChan w.cluster n { s.chan w.cluster n with job := none }
    | none => s
  (((s1.bump 0xA05000 1).xferFree w.cluster (s.xLines op st.cmd - w.next)).onRegion w.cluster (fun x =>
    { x with idleSince := s.now })).onStarted q id (fun x => { x with
    done := true, status := if status = 0 then x.status else status, failHandle := r.1, failAddr := r.2.1, failValue := r.2.2, work := .none,
    engine := some (64 + w.cluster), silent := silent })

/-- R242: the channel flushes the gateway of what it stored. -/
def State.flushFor (s : State) (q id : Nat) : State :=
  (List.range 8).foldl (fun s p =>
    let nodes := ((s.port p).gateway.filter (fun g => g.parts.any (fun x => x.owner == some (q, id)))).map (·.node)
    nodes.eraseDups.foldl (fun s n => s.shipGateway p n) s) s

/-- R242: stage 2 begins when every unit is acknowledged; a read-back of another node is sent. -/
def State.stageTwo (s : State) (q id op : Nat) (st : Started) : State :=
  let s1 := s.onTransfer q id (fun w => { w with phase := 1, since := s.now, hold := none })
  match s.lastLine op st.cmd with
  | some (.away n a, _) =>
    let r := s1.ask n st.clusters.toNat { op := 0x01, addr := a, lines := 1, owner := some (q, id), why := .readback }
    if r.2 ≠ 0 then r.1.onTransfer q id (fun w => w.backFails r.2) else r.1
  | some (.companion n a, _) =>
    let r := s1.ask n st.clusters.toNat { op := 0x01, addr := a, lines := 1, owner := some (q, id), why := .readback }
    if r.2 ≠ 0 then r.1.onTransfer q id (fun w => w.backFails r.2) else r.1
  | _ => s1

/-- R242, R245: what follows when every line has been issued or the transfer stopped, and every one is acknowledged. A transfer that
stopped makes no read-back, and sends no remote signal, which follows the read-back (DEDUCED, log entry 158). -/
def State.stageOver (s : State) (q id op : Nat) : State :=
  match s.transferOf q id with
  | none => s
  | some (st, w) =>
    if w.phase = 0 ∧ (w.stopped = true ∨ s.xLines op st.cmd ≤ w.next) ∧ w.arrived = [] then
      let s1 := s.flushFor q id
      if s1.outstanding q id = 0 then
        if w.stopped = true then s1.endTransfer q id op st w ((w.fail.map (·.2)).getD 0)
        else s1.stageTwo q id op st
      else s1
    else if w.phase = 3 ∧ s.outstanding q id = 0 then s.endTransfer q id op st w ((w.fail.map (·.2)).getD 0)
    else s

/-- A transfer goes on as far as it can now. `granted` is a grant of one transaction (R197). -/
def State.runTransfer (s : State) (q id : Nat) (granted : Bool := false) : State :=
  match s.transferOf q id with
  | none => s
  | some (st, w) =>
    match w.chan with
    | none => s
    | some n =>
      let c := st.cmd
      let s1 := s.credit w.cluster n (xShare c) (s.pacing st.op c w.cluster)
      let s2 := State.putArrived q id st.op w.cluster c 1024 s1
      ((State.issueLines q id st.op w.cluster n c 1024 granted s2).stageOver q id st.op)

/-- Every transfer on a channel goes on as far as it can. -/
def State.runTransfers (s : State) : State :=
  s.clusters.foldl (fun s e => e.2.chans.foldl (fun s x => match x.2.job with
    | some (q, id) => s.runTransfer q id
    | none => s) s) s

/-! ### The start (R232) -/

/-- A transfer takes a channel and begins to issue. -/
def State.takeChan (s : State) (q id cluster n : Nat) : State :=
  let s1 := s.setChan cluster n { s.chan cluster n with job := some (q, id) }
  (s1.onTransfer q id (fun w => { w with chan := some n })).runTransfer q id

/-- R232: a transfer starts on the cluster it is placed on, or waits there for a channel. -/
def State.startTransfer (s : State) (q op : Nat) (l : ListRun) (c : Line) : State :=
  let cluster := s.transferCluster op c
  let id := (s.queue q).serial + 1
  let hs := if xBook op c then [xHandle c] else []
  let s1 := (((s.callRegion cluster).prefer cluster q).xferBusy cluster (s.xLines op c)).enter q { s.asStarted q l c with
    op := op, clusters := BitVec.ofNat 32 (2 ^ cluster), writes := hs, opens := hs, work := .transfer { cluster := cluster } }
  match s1.freeChan cluster, (s1.cluster cluster).chanWait with
  | some n, [] => s1.takeChan q id cluster n
  | _, _ => s1.onCluster cluster (fun k => { k with chanWait := k.chanWait ++ [{ source := q, id := id, since := s.now }] })

/-- The meaning common to the three opcodes, with the lines and scratchpad words in error that the command reads (R210, R421). -/
def State.transfer (s : State) (q op : Nat) (c : CmdRead) : State :=
  s.take q c.line [] (if xBook op c.line then [xHandle c.line] else []) (fun _ => s.transferFail q op c.line)
    (fun l => if xBook op c.line && s.epochOwed (xHandle c.line) then s else (s.readErrors c).startTransfer q op l c.line)

/-- COPY (R234). -/
def execCopy (q : Fin 256) (c : CmdRead) (s : State) : Host.Outcome State Fault Refusal :=
  .next (s.transfer q 0x40 c)

/-- ADD (R234, R240, R241). -/
def execAdd (q : Fin 256) (c : CmdRead) (s : State) : Host.Outcome State Fault Refusal := .next (s.transfer q 0x41 c)

/-- FILL (R234). -/
def execFill (q : Fin 256) (c : Line) (s : State) : Host.Outcome State Fault Refusal := .next (s.transfer q 0x42 { line := c })

/-! ### Channels, aperture and transactions -/

/-- R232: of the transfers that wait, the first by queue priority, then by arrival. -/
def State.firstWaiter (s : State) (ws : List Waiter) : Option Waiter :=
  let prio := fun (w : Waiter) => qPriority (s.queue w.source).latched
  match ws with
  | [] => none
  | w :: rest => some (rest.foldl (fun b x => if prio b < prio x then x else b) w)

/-- R232: a waiting transfer takes a free channel; the wait is counted. -/
def State.grantChan (s : State) (c : Nat) : State :=
  match s.freeChan c, s.firstWaiter (s.cluster c).chanWait with
  | some n, some w =>
    let s1 := (s.surge 0xA05200 w.since).onCluster c (fun k => { k with
      chanWait := k.chanWait.filter (fun x => x.source != w.source || x.id != w.id) })
    s1.takeChan w.source w.id c n
  | _, _ => s

/-- TRANSFER_CHANNEL_GRANT (R232). -/
def execTransferChannelGrant (c : Fin 32) (t : Nat) (s : State) : Host.Outcome State Fault Refusal :=
  .next ((s.tick t).grantChan c)

/-- APERTURE_RELEASE (R239); the tee's aperture too (R158). -/
def execApertureRelease (c : Fin 32) (ch : Fin 8) (t : Nat) (s : State) : Host.Outcome State Fault Refusal :=
  let s1 := (s.tick t).teeRun
  .next (match (s1.chan c ch).job with
    | some (q, id) => s1.runTransfer q id
    | none => s1)

/-- R197: a granted transaction of the pager: the first started command that has a page for the cluster to ask for, or the next fetch
that waits. -/
def State.pagerGrant (s : State) (c : Nat) : State :=
  match s.queues.findSome? (fun e => (e.2.started.find? (fun st => (st.pages.head?.map (·.2)) == some c)).map (fun st => (e.1, st.id))) with
  | some (q, id) => s.askPages q id true
  | none => s.pumpPager c true

/-- R197: the pool grants a transaction to the next of the requesters that wait. -/
def State.grantTransaction (s : State) (c : Nat) : State :=
  if s.inFlight c < 1536 then
    match roundRobin (s.cluster c).txLast ((s.cluster c).txWait.map (·.source)) with
    | none => s
    | some n =>
      match (s.cluster c).txWait.find? (fun w => w.source == n) with
      | none => s
      | some w =>
        let s1 := (s.surge 0xA04800 w.since).onCluster c (fun k => { k with
          txWait := k.txWait.filter (fun x => x.source != n), txLast := n })
        if n = 8 then s1.pagerGrant c
        else match (s1.chan c n).job with
          | some (q, id) => s1.runTransfer q id true
          | none => s1
  else s

/-- TRANSACTION_GRANT (R197). -/
def execTransactionGrant (c : Fin 32) (t : Nat) (s : State) : Host.Outcome State Fault Refusal :=
  .next ((s.tick t).grantTransaction c)

/-! ### Read-back and remote signal -/

/-- R242, R245: whether the read-back has returned, with an error or not: refused, or without data because the line does not decode.
A line to which the transfer itself carried poison is no such error (DEDUCED, log entry 156). -/
def State.backStatus (s : State) (st : Started) (w : TransferWork) : Option Bool :=
  let moved := w.fail.any (fun f => f.2 == St.dataPoisoned)
  match s.lastLine st.op st.cmd with
  | some (.here a, n) => some (s.memStatus a n .command false != 0 || (!moved && s.badRange a n))
  | some _ => if moved && w.back == some true && w.nak == false then some false else w.back
  | none => some false

/-- R244: whether the signal goes to the destination node. -/
def State.signalsAway (s : State) (st : Started) : Option Nat :=
  if cmdSignal st.cmd && xRemote st.cmd && !xBook st.op st.cmd then
    match s.resolve (xDst st.cmd) with
    | .away n _ => some n
    | .companion n _ => some n
    | _ => none
  else none

/-- R242: the read-back returns: the transfer is durable. -/
def State.returnBack (s : State) (q id : Nat) : State :=
  match s.transferOf q id with
  | none => s
  | some (st, w) =>
    if w.phase = 1 then
      match s.backStatus st w with
      | none => s
      | some bad =>
        let s0 := match s.lastLine st.op st.cmd with
          | some (.here a, n) =>
            if s.memStatus a n .command false = St.memoryDenied then s.faultOf (s.originOf q id) 1 a 4 St.memoryDenied
            else (match place a with | .lpddr near => s.readBad near | _ => s)
          | _ => s
        let s1 := s0.surge 0xA05400 w.since
        let status := (w.fail.map (·.2)).getD 0
        if bad then s1.endTransfer q id st.op st w (if status = 0 then St.readbackFailed else status) true
        else if (s.signalsAway st).isSome then s1.onTransfer q id (fun w => { w with phase := 2 })
        else s1.endTransfer q id st.op st w status
    else s

/-- TRANSFER_READBACK (R242). -/
def execTransferReadback (q : Fin 256) (id : Nat) (t : Nat) (s : State) : Host.Outcome State Fault Refusal :=
  .next ((s.tick t).returnBack q id)

/-- R244: the increment of the header's counter, sent as a flagged store (log entry 22). -/
def State.sendSignal (s : State) (q id : Nat) : State :=
  match s.transferOf q id with
  | none => s
  | some (st, w) =>
    if w.phase = 2 then
      match s.signalsAway st with
      | none => s
      | some n =>
        let r := s.ask n w.cluster {
          op := 0x02, flag := true, addr := 0x210000000000 + 8 * cmdCounter st.cmd, lines := 1, aop := 1, data := leBytes 8 1,
          owner := some (q, id), why := .signal }
        if r.2 ≠ 0 then r.1.endTransfer q id st.op st w r.2
        else (r.1.onTransfer q id (fun w => { w with phase := 3 })).stageOver q id st.op
    else s

/-- TRANSFER_REMOTE_SIGNAL (R244). -/
def execTransferRemoteSignal (q : Fin 256) (id : Nat) (s : State) : Host.Outcome State Fault Refusal :=
  .next (s.sendSignal q id)

/-! ### A cluster that goes dark (R245) -/

/-- Answers to a command that has ended are discarded. -/
def State.dropReqs (s : State) (q id : Nat) : State := { s with reqs := s.reqs.filter (fun r => r.owner != some (q, id)) }

/-- R245: a transfer on a channel of a cluster that goes dark stops at once; one that waits there is placed anew. -/
def State.abortTransfers (s : State) (c : Nat) : State :=
  let s1 := (List.range 8).foldl (fun s n => match (s.chan c n).job with
    | some (q, id) => match s.transferOf q id with
      | some (st, w) =>
        ((s.endTransfer q id st.op st w ((w.fail.map (·.2)).getD St.transferAborted)).bump 0xA05500 1).dropReqs q id
      | none => s
    | none => s) s
  (s1.cluster c).chanWait.foldl (fun s w =>
    match s.transferOf w.source w.id with
    | some (st, _) =>
      let k := s.transferCluster st.op st.cmd
      let n := s.xLines st.op st.cmd
      (((s.onTransfer w.source w.id (fun x => { x with cluster := k })).xferFree c n).xferBusy k n).onCluster k (fun x => { x with chanWait := x.chanWait ++ [w] })
    | none => s) (s1.onCluster c (fun k => { k with chanWait := [], txWait := [] }))

end Sys2Proof.Machine
end

