-- ==== Sys2Proof/Machine/Serve.lean ====
section
/-!
DEFINITION. Reads of local addresses by agents outside: what every place of the address map returns (R165, R177, R185, R213), the
directory's part (R273, R274) and the channels' admission (R217).
-/

namespace Sys2Proof.Machine

/-! ### Bytes (R165, R177, R185) -/

/-- A byte of the queue window: entries, watch lines, zero elsewhere. -/
def State.queueByte (s : State) (off : Nat) : Byte :=
  if off < 0x4000 then BitVec.ofNat 8 (fld (s.queue (off / 64)).entry (off % 64) 1)
  else if 0x10000 ≤ off ∧ off < 0x14000 then BitVec.ofNat 8 (fld (s.queue ((off - 0x10000) / 64)).watch (off % 64) 1)
  else 0

/-- A byte of the counter window. -/
def State.counterByte (s : State) (off : Nat) : Byte :=
  if off < 0x8000 then BitVec.ofNat 8 ((s.counter (off / 8)).toNat / 256 ^ (off % 8)) else 0

/-- A byte of the descriptor window. -/
def State.descByte (s : State) (off : Nat) : Byte := BitVec.ofNat 8 (fld (s.desc (off / 64)) (off % 64) 1)

/-- The byte at a local address; device time at 0x3000_0000_0000 (R344); control blocks whose layout the
manual does not give read as zero (log entry 31). -/
def State.localByte (s : State) (a : Nat) : Byte :=
  match place a with
  | .lpddr n => s.rd n
  | .scratch x => s.rd x
  | .queues off => s.queueByte off
  | .counters off => s.counterByte off
  | .descs off => s.descByte off
  | .mailbox _ => s.rd a
  | .csr => if a < 0x300000000008 then BitVec.ofNat 8 (s.now / 256 ^ (a - 0x300000000000)) else 0
  | _ => 0

def State.localBytes (s : State) (a n : Nat) : List Byte := (List.range n).map (fun i => s.localByte (a + i))

/-! ### Requests -/

/-- The unit that admits a packet's requests at a channel (R217): ports 40–47, the Traek link 48. -/
def sourceOf (v : Via) : Nat := match v with | .fabric p => 40 + p | .traek => 48

/-- R263, R309, R445: the side of an agent outside. -/
def State.nakFault (s : State) (p : Packet) (kind a st : Nat) : State :=
  (s.addressFault kind (s.requester p) a (match p.via with | .traek => 10 | _ => 9) st).nakTo p st

/-- The data of a read, or its poison; nothing of the line is returned then (R210). -/
def State.serveRead (s : State) (p : Packet) (a : Nat) : State :=
  let n := pktBytes p
  if s.badRange a n then s.dataTo p (List.replicate n 0) true else s.dataTo p (s.localBytes a n)

/-- R219: an admitted read returns its lines with every earlier store and add applied, and no later one. -/
def State.captured (s : State) (r : ChanReq) : ChanReq :=
  let n := pktBytes r.pkt
  { r with data := s.localBytes r.line n, bad := s.badRange r.line n }

/-- R219: whether an access that came before waits at a line of a read. -/
def State.readBehind (s : State) (r : ChanReq) : Bool := r.lines.any (fun l => s.waitsAt l r.ord)

/-- R217, R219, R227: a read reaches its channel: admitted, or waiting at the ingress. -/
def State.toChannel (s : State) (r : ChanReq) : State :=
  let near := memKey r.line
  let pk := s.package (pkgOf near)
  let c := s.channel (chanOf near)
  let q := { r with since := s.now, ord := s.arrivals }
  if c.admitted.length < 128 && c.ingress.isEmpty && pk.derate != 3 && !s.cooling.stopped && !s.readBehind q then
    s.onChannel (chanOf near) (fun c => { c with admitted := c.admitted ++ [s.captured { r with since := s.now }] })
  else
    let s1 := s.onChannel (chanOf near) (fun c => { c with ingress := c.ingress ++ [q] })
    { s1 with arrivals := s1.arrivals + 1 }

/-- R273: the new directory state of a request to one line, `none` when snoops must be answered first; those it starts. -/
def State.dirStep (s : State) (kind : ReqKind) (agent line : Nat) : State × Bool :=
  if s.snooping line then (s, false)
  else
    match kind with
    | .rdShared =>
      match s.dirState line with
      | .u => (s.setDir line (.e agent s.now), true)
      | .s as _ => (s.setDir line (.s (if as.contains agent then as else as ++ [agent]) s.now), true)
      | .e o _ => if o = agent then (s.setDir line (.e o s.now), true) else (s.snoop line o true, false)
    | .rdOwn =>
      match s.dirState line with
      | .u => (s.setDir line (.e agent s.now), true)
      | .s as _ =>
        let others := as.filter (· != agent)
        if others.isEmpty then (s.setDir line (.e agent s.now), true) else (s.invalidate line others, false)
      | .e o _ => if o = agent then (s.setDir line (.e o s.now), true) else (s.snoop line o false, false)
    | .load => s.access line false
    | .get => s.access line false
    | _ => s.access line true

/-- Whether a request allocates a directory entry (R274). -/
def allocates (kind : ReqKind) : Bool := kind == .rdShared || kind == .rdOwn

/-- R274: the count of entries in use, 0x5010:00, and their bound are the directory's own. -/
def State.dirCount (s : State) : Nat := s.directory.length

/-- A read that has passed the checks: through the directory, then to its channel; other places answer at once. -/
def State.readRequest (s : State) (r : ChanReq) : State :=
  match place r.line with
  | .lpddr near =>
    let line := lineOf near
    if allocates r.kind && s.dirFull line then
      let s1 := s.recall line
      { s1 with lineWait := s1.lineWait ++ [r] }
    else
      let x := if allocates r.kind then s.dirStep r.kind (s.requester r.pkt) line else s.accessRange r.line (pktBytes r.pkt) false
      if x.2 then x.1.toChannel r else { x.1 with lineWait := x.1.lineWait ++ [r] }
  | _ => s.serveRead r.pkt r.line

end Sys2Proof.Machine
end

