-- ==== Sys2Proof/Machine/Create.lean ====
section
/-!
DEFINITION. Creating and releasing tensors: the checks of a descriptor (R26, R37, R57, R186, R188, R189, R322), placing the
metadata run (R467), the data (R187, R191, R192, R468) and the residual (R189).
-/

namespace Sys2Proof.Machine

/-! ### The checks of a descriptor -/

/-- R186: reserved bits of a descriptor, with the reserved placement classes and mirror class. -/
def descReserved : List (Nat × Nat × Nat) := [(0, 7, 1), (3, 2, 6), (7, 0, 8), (28, 0, 32), (56, 0, 64)]

/-- R57: the fields that govern block scaling, reserved for a format without a scale plane. -/
def scaleFields : List (Nat × Nat × Nat) :=
  [(1, 0, 2), (1, 2, 3), (1, 5, 1), (1, 6, 1), (1, 7, 1), (2, 0, 3), (2, 3, 1), (4, 0, 24)]

/-- Where a field of a descriptor is named. -/
def atField (st byte bit value handle : Nat) : Fail :=
  { st := st, byte := byte, bit := bit, value := value, handle := handle }

/-- R26, R37, R57, R186: what is wrong with a descriptor taken by itself. -/
def descFail (d : Line) (h : Nat) : Option Fail :=
  let f := Fmt.ofCode (descFmtCode d)
  let scaled := match f with | some x => x.scaled | none => false
  let red := descRed d
  let ch := descChanDim d
  let book := bitAt d 1 5
  firstFail [
    (reservedFail d St.reservedSet descReserved).map (fun x => { x with handle := h }),
    failIf (decide (4 < descClass d)) (atField St.reservedSet 0 4 (descClass d) h),
    failIf (descMirror d == 3) (atField St.reservedSet 2 5 3 h),
    failIf (f.isNone || f == some .lns8) (atField St.reservedSet 0 0 (descFmtCode d) h),
    if scaled then none else (reservedFail d St.reservedSet scaleFields).map (fun x => { x with handle := h }),
    failIf (decide (4 < red)) (atField St.fieldRange 1 2 red h),
    failIf (decide (4 < ch)) (atField St.fieldRange 2 0 ch h),
    failIf (book && descSidecar d) (atField St.jitOnlyOption 1 6 1 h),
    failIf (descFeedback d && (book || !(descFmtCode d == 1 || descFmtCode d == 2))) (atField St.jitOnlyOption 2 3 1 h),
    failIf (descOutlier d && ch == red) (atField St.channelOnReduction 2 0 ch h) ]

/-! ### The metadata run (R59, R467) -/

/-- A length rounded up to a 64-byte boundary. -/
def pad64 (n : Nat) : Nat := ceilDiv n 64 * 64

/-- R59: the bytes of the arrays of one scale plane, in the order of the header's fields; 0 = unused. -/
def planeArrays (d : Line) : List Nat :=
  let b := blockCount d
  let c := descExt d (descChanDim d)
  let l := if c = 0 then 0 else descElems d / c
  [b, ceilDiv b 4, if descBook d then 2 * b else 0, if descSidecar d then 64 * ceilDiv b 256 else 0,
   if descOutlier d then 8 * c else 0, 2 * l * slotCount d]

/-- R467: bytes of a run's parts: frame map, then header and arrays of each plane. -/
def runParts (d : Line) (bytes planes : Nat) : List Nat :=
  (if descClass d = 3 then [] else [8 * mapLen d bytes]) ++
  (if (descFmt d).scaled then (List.range planes).flatMap (fun _ => 64 :: planeArrays d) else [])

def runLength (d : Line) (bytes planes : Nat) : Nat := (runParts d bytes planes).foldl (fun n p => n + pad64 p) 0

/-- The runs that lie in a frame, in part or whole. -/
def State.runsIn (s : State) (f : Nat) : List MetaRun :=
  s.alloc.runs.filter (fun r => decide (r.base < (f + 1) * 2 ^ 21) && decide (f * 2 ^ 21 < r.base + r.len))

/-- R467: a 4 KiB boundary of frame `f` from which `len` bytes are free. -/
def State.gapIn (s : State) (f len : Nat) : Option Nat :=
  let rs := s.runsIn f
  let cands := (f * 2 ^ 21) :: (rs.map (fun r => ceilDiv (r.base + r.len) 4096 * 4096)).filter (f * 2 ^ 21 ≤ ·)
  cands.find? (fun a => decide (a + len ≤ (f + 1) * 2 ^ 21) &&
    rs.all (fun r => decide (a + len ≤ r.base) || decide (r.base + r.len ≤ a)))

/-- R467: `n` contiguous free scrubbed frames of a package. -/
def State.contiguous (s : State) (mirrored : Bool) (p n : Nat) : Option Nat :=
  ((List.range pkgFrames).find? (fun i => (List.range n).all (fun k =>
    s.frameFree mirrored p (i + k) && s.scrubbed p (i + k)))).map (p * pkgFrames + ·)

/-- A run entered in the allocator's list. -/
def State.addRun (s : State) (r : MetaRun) : State := { s with alloc := { s.alloc with runs := s.alloc.runs ++ [r] } }

/-- R467: a run of `len` bytes in the package with the most free frames: in a shared metadata frame where one has room, else
in frames of its own (which ones is not stated: log entry 14). -/
def State.allocRun (s : State) (h : Nat) (mirrored : Bool) (len : Nat) : Option (State × Nat) :=
  if len = 0 then some (s, 0)
  else
    let p := s.fullest mirrored (List.range 32)
    let keep := fun (s : State) (base : Nat) => (s.addRun ⟨h, base, len⟩).clearRange base len
    let shared := if len < 2 ^ 21 then
        ((s.alloc.frames.filter (fun e => e.2 == .meta' && e.1 / pkgFrames == p && s.outbound (e.1 % pkgFrames) == mirrored)).findSome?
          (fun e => s.gapIn e.1 len))
      else none
    match shared with
    | some a => some (keep s a, a)
    | none =>
      let n := ceilDiv len (2 ^ 21)
      match (if n = 1 then s.pickFrame mirrored p s.fresh else s.contiguous mirrored p n) with
      | none => none
      | some f => some (keep ((List.range n).foldl (fun s k => s.setFrame (f + k) .meta') s.drawn) (f * 2 ^ 21), f * 2 ^ 21)

/-- R59: the header at `a` of arrays that follow it; the address behind them. -/
def State.writeHeader (s : State) (d : Line) (a : Nat) : State × Nat :=
  let r := (List.zip (List.range 6) (planeArrays d)).foldl (fun (acc : State × Nat) p =>
    if p.2 = 0 then acc else (acc.1.wrNat (a + 8 * p.1) 8 acc.2, acc.2 + pad64 p.2)) (s, a + 64)
  (r.1.wrNat (a + 48) 8 (blockCount d % 2 ^ 40), r.2)

/-! ### Placing data -/

/-- R188, R215: the frames a PINNED range holds: of the near-home range, or every frame its striped bytes fall in. -/
def pinnedFrames (a bytes : Nat) : List Nat :=
  if bytes = 0 then []
  else if a < 0x20000000000 then (List.range ((a + bytes - 1) / 2 ^ 21 + 1 - a / 2 ^ 21)).map (· + a / 2 ^ 21)
  else
    let u0 := (a - 0x20000000000) / 4096
    let u1 := (a - 0x20000000000 + bytes - 1) / 4096
    (List.range (u1 / 16384 + 1 - u0 / 16384)).flatMap (fun k =>
      let f := u0 / 16384 + k
      let x := max u0 (f * 16384)
      let y := min u1 (f * 16384 + 16383)
      if 32 ≤ y + 1 - x then (List.range 32).map (fun nn => nn * pkgFrames + f)
      else ((List.range (y + 1 - x)).map (fun i => (x + i) % 32 * pkgFrames + f)))

/-- R468: scratchpad first: a LATENT tensor whose bytes fit the free SCRATCH pages of the enabled clusters. -/
def State.freePages (s : State) : Nat :=
  ((List.range 32).foldl (fun n c => n + s.pagesFree c) 0) - s.pagesReserved

/-- The descriptor as the module keeps it: hardware-written fields set (R186). -/
def State.ownDesc (s : State) (d : Line) (planes : Nat) : Line :=
  let bytes := planes * planeBytes d
  let d1 := setFld (setFld (descSetBit (descSetBit (descSetBit d 2 7 false) 3 0 false) 3 1 false) 40 8 0) 48 8 bytes
  let d2 := if descClass d = 3 then setFld d1 40 8 0 else setFld d1 32 8 0
  if descClass d = 4 ∧ ceilDiv bytes 0x10000 ≤ s.freePages then descSetBit d2 3 1 true else d2

/-- R191: the frames a tensor takes when it is created or reserves. -/
def dataUnits (d : Line) : Nat := if descClass d = 3 then 0 else mapLen d (descBytes d)

/-- R187, R191: a STREAMED frame i is bound in package i mod 32, or the fullest when that has none (log entry 24). -/
def State.bindStreamed (s : State) (h : Nat) (d : Line) (i : Nat) : Option State :=
  let m := descMirror d == 2
  let p := if 0 < s.freeOf m (i % 32) then i % 32 else s.fullest m (List.range 32)
  (s.pickFrame m p s.fresh).map (fun f => ((s.drawn).setFrame f (.data h)).wrNat (descLoc d + 8 * i) 8 (f * 2 ^ 21))

/-- The frames of a STREAMED tensor, in frame order; `none` where one finds no scrubbed frame. -/
def State.bindStreams (s : State) (h : Nat) (d : Line) : Option State :=
  (List.range (dataUnits d)).foldl (fun s i => s.bind (fun s => s.bindStreamed h d i)) (some s)

/-- A tensor placed: run, header, data; `none` when no scrubbed frames are found for its run or its data. -/
def State.placeTensor (s : State) (h : Nat) (d0 : Line) (owner planes : Nat) : Option State :=
  let d := s.ownDesc d0 planes
  let m := descMirror d != 0
  match s.allocRun h m (runLength d (descBytes d) planes) with
  | none => none
  | some (s1, base) =>
    let mapBytes := if descClass d = 3 then 0 else pad64 (8 * mapLen d (descBytes d))
    let scaled := (descFmt d).scaled
    let w0 := if scaled then s1.writeHeader d (base + mapBytes) else (s1, base)
    let w1 := if scaled ∧ planes = 2 then w0.1.writeHeader d w0.2 else w0
    let d1 := if descClass d = 3 then d else setFld d 32 8 base
    let d2 := if scaled then setFld d1 40 6 (base + mapBytes) else d1
    let t : Tensor := {
      desc := d2, run := base, hdr1 := if planes = 2 then w0.2 else 0, owner := owner,
      unbound := if descClass d = 0 ∨ descClass d = 3 then 0 else dataUnits d }
    let s2 := w1.1.setTensor h (some t)
    if descClass d = 0 then s2.bindStreams h d2
    else if descClass d = 3 ∧ !s.isRemote d then
      some ((pinnedFrames (descLoc d % 2 ^ 48) (descBytes d)).foldl (fun s f => s.setFrame f (.data h)) s2)
    else some s2

/-- R78, R189: the descriptor of a residual: E5M2, just-in-time, the gradient's shape, grain and reduction dimension,
MAKER_LOCAL. -/
def residualDesc (d : Line) : Line :=
  let b := (2 + 1 * 16) + (bitsAt d 1 0 2 + 4 * descRed d) * 256
  (List.range 5).foldl (fun l k => setFld l (8 + 4 * k) 4 (descExt d k)) (BitVec.ofNat 512 b)

/-- R188, R189: the tensor created with its residual; `none` where frames are not found. -/
def State.create (s : State) (h : Nat) (d : Line) : Option State :=
  match s.placeTensor h d 0 1 with
  | none => none
  | some s1 => if descFeedback d then s1.placeTensor (descResidual d) (residualDesc d) h 2 else some s1

/-! ### Capacity and the other checks of R188 -/

/-- The frames and pages that are free beyond those reserved: unmirrored frames less the staging reserve (R83), mirrored frames,
SCRATCH pages. Negative where a package or cluster has left service. -/
def State.slack (s : State) : List Int :=
  let sum := fun (f : Nat → Nat) => (List.range 32).foldl (fun n p => n + f p) 0
  [(sum s.freeIn : Int) - s.reserved false - s.dv 0x401200, (sum s.mirrorFreeIn : Int) - s.reserved true,
   (sum s.pagesFree : Int) - s.pagesReserved]

/-- The state as it is once every free frame has been scrubbed. -/
def State.allScrubbed (s : State) : State :=
  { s with alloc := { s.alloc with dirty := [], scrubbed := (List.range 32).map (fun p => (p, pkgFrames)) } }

/-- R188, R192, R467: capacity lacks: the creation finds no place even among frames not yet scrubbed, or takes what is reserved. -/
def State.lacks (s : State) (h : Nat) (d : Line) : Bool :=
  match s.allScrubbed.create h d with
  | none => true
  | some s1 => (List.zip s.slack s1.slack).any (fun x => decide (x.2 < 0) && decide (x.2 < x.1))

/-- R190: scrubbed free frames fall short of those a creation reserves: it waits, as it does where the frames it takes at once are
not scrubbed. -/
def State.unscrubbed (s : State) (h : Nat) (d : Line) : Bool :=
  match s.create h d with
  | none => true
  | some s1 =>
    decide ((((List.range 32).foldl (fun k p => k + s1.scrubbedIn p) 0 : Nat) : Int) < (s1.reserved false : Nat)) &&
      decide (s.reserved false < s1.reserved false)

/-- R323: free frames of the outbound halves beyond those reserved. -/
def State.mirrorFree (s : State) : Nat :=
  ((List.range 32).foldl (fun n p => n + s.mirrorFreeIn p) 0) - s.reserved true

def State.liveHandles (s : State) : Nat := s.tensors.length

/-- R323: tensors whose mirror class is not none. -/
def State.mirrored (s : State) : List (Nat × Tensor) :=
  s.tensors.filterMap (fun e => match e.2 with | some t => if descMirror t.desc = 0 then none else some (e.1, t) | none => none)

/-- R165, R323: tensors whose mirror class is not none, now or from the next boundary on. -/
def State.willMirror (s : State) : List (Nat × Tensor) :=
  s.tensors.filterMap (fun e => match e.2 with
    | some t => if descMirror t.desc = 0 && t.mirrorNext.getD 0 = 0 then none else some (e.1, t)
    | none => none)

/-- R188, R189, R322: what stops a creation. A PINNED tensor of class whole must itself lie in the outbound half (DEDUCED, log entry
192); a residual handle equal to the handle created gives HANDLE_IN_USE (DESIGN CHOICE, log entry 197). A descriptor field is named by its place in the descriptor. -/
def State.createFail (s : State) (h : Nat) (d : Line) : Option Fail :=
  let rh := descResidual d
  let loc := descLoc d % 2 ^ 48
  let bytes := planeBytes d
  let here := descClass d == 3 && !s.isRemote d
  firstFail [
    failIf (h == 0) { st := St.fieldRange, byte := 8 },
    failIf (s.tensor h).isSome { st := St.handleInUse, byte := 8, handle := h, value := h },
    descFail d h,
    failIf (descFeedback d && rh == 0) (atField St.fieldRange 4 0 0 h),
    failIf (descFeedback d && ((s.tensor rh).isSome || rh == h)) (atField St.handleInUse 4 0 rh h),
    failIf (decide (65536 < s.liveHandles + (if descFeedback d then 2 else 1))) { st := St.tableFull, byte := 8, handle := h },
    failIf (descClass d == 3 && loc % 2 ^ 21 != 0) (atField St.misaligned 32 0 loc h),
    failIf (here && !(decide (loc + bytes ≤ 0x20000000000) ||
        (decide (0x20000000000 ≤ loc) && decide (loc + bytes ≤ 0x40000000000))))
      { atField St.addressUnmapped 32 0 loc h with addr := loc },
    failIf (here && (pinnedFrames loc bytes).any (fun f => s.frameUse f != .free))
      { atField St.pinConflict 32 0 loc h with addr := loc },
    failIf (descMirror d != 0 && (s.dv 0x600200 == 0xFFFF || s.mirrorH == 0 || decide (16352 ≤ s.willMirror.length)))
      (atField St.mirrorPlacement 2 5 (descMirror d) h),
    failIf (descMirror d == 2 && descClass d == 3 &&
        (s.isRemote d || !(pinnedFrames loc bytes).all (fun f => s.outbound (f % pkgFrames))))
      (atField St.mirrorPlacement 2 5 2 h),
    failIf (s.lacks h d) { st := St.noCapacity, byte := 8, handle := h } ]

/-! ### Releasing -/

/-- R467: a metadata run released, with the frames no other run shares. -/
def State.releaseRun (s : State) (r : MetaRun) : State :=
  let rest := s.alloc.runs.filter (· != r)
  let s1 := { s with alloc := { s.alloc with runs := rest } }
  (List.range (ceilDiv (r.base % 2 ^ 21 + r.len) (2 ^ 21))).foldl (fun s k =>
    let f := r.base / 2 ^ 21 + k
    if rest.any (fun x => decide (x.base / 2 ^ 21 ≤ f) && decide (f < ceilDiv (x.base + x.len) (2 ^ 21))) then s
    else s.releaseFrame f) s1

/-- One tensor's frames, pages and run released and its handle freed. -/
def State.dropTensor (s : State) (h : Nat) : State :=
  let s1 := (s.alloc.frames.filter (fun e => e.2 == .data h)).foldl (fun s e => s.releaseFrame e.1) s
  let s2 := { s1 with alloc := { s1.alloc with pages := s1.alloc.pages.filter (fun e => e.2 != h) } }
  let s3 := (s2.alloc.runs.filter (fun r => r.handle == h)).foldl State.releaseRun s2
  s3.setTensor h none

/-- R188: a tensor released with its scale plane and residual. -/
def State.release (s : State) (h : Nat) : State :=
  match s.tensor h with
  | none => s
  | some t => (if descFeedback t.desc then s.dropTensor (descResidual t.desc) else s).dropTensor h

/-- R188: a started command of some queue names the handle. -/
def State.named (s : State) (h : Nat) : Bool :=
  s.queues.any (fun e => e.2.started.any (fun st => st.reads.contains h || st.writes.contains h))

end Sys2Proof.Machine
end

