-- ==== Sys2Proof/Machine/TensorMgmt.lean ====
section
/-!
DEFINITION. TENSOR_CREATE, TENSOR_FREE, TENSOR_ATTR (R188, R189, R322) and the scrubbing of released frames (R190).
-/

namespace Sys2Proof.Machine

/-! ### TENSOR_CREATE -/

/-- R188: the descriptor TENSOR_CREATE reads at its global address, or what stops the read; a descriptor at another node is
the operand. -/
def State.fetchDesc (s : State) (g : Nat) (away : Line) : Line × Option Fail :=
  match s.resolve g with
  | .here a =>
    let st := s.memStatus a 64 .command false
    if st ≠ 0 then (0, some (s.rangeFail st a 64 16 g false))
    else if s.badRange a 64 then (0, some { st := St.dataPoisoned, byte := 16, addr := g, value := g })
    else (BitVec.ofNat 512 (s.rdNat a 64), none)
  | .nowhere => (0, some { st := St.addressUnmapped, byte := 16, addr := g, value := g })
  | _ => (away, none)

/-- R188, R190: the creation, or its wait for scrubbed frames. -/
def State.createNow (s : State) (q : Nat) (l : ListRun) (c : Line) (d : Line) : State :=
  let h := handleAt c 8
  match (if s.unscrubbed h d then none else ((s.advance q).nameSlot q (s.asStarted q l c)).create h d) with
  | none => s.enter q { s.asStarted q l c with writes := [h], work := .create d s.now }
  | some s1 => s.atOnce q l c .ok (fun _ => s1)

/-- TENSOR_CREATE (R188). A creation that finds only unscrubbed frames is started and waits for the scrub (R190). -/
def execTensorCreate (q : Fin 256) (c : Line) (hostDesc : Line) (s : State) : Host.Outcome State Fault Refusal :=
  let h := handleAt c 8
  let d := s.fetchDesc (fld c 16 8) hostDesc
  .next (s.take q c [] [h]
    (fun _ => firstFail [s.headerFail q c [], d.2, s.createFail h d.1])
    (fun l => s.createNow q l c d.1))

/-- R190: a creation that waited for scrubbed frames goes on when they suffice; the wait is counted. -/
def State.resumeCreate (s : State) (q : Nat) (st : Started) : State :=
  match st.work with
  | .create d since =>
    if st.done then s
    else
      let h := handleAt st.cmd 8
      let fin := fun (s : State) (code : Nat) => (s.surge 0xA04C00 since).onStarted q st.id (fun x => { x with
        done := true, status := worse x.status code, failHandle := h, work := .none })
      match s.createFail h d with
      | some f => fin s f.st
      | none => match (if s.unscrubbed h d then none else s.create h d) with
        | some s1 => fin s1 0
        | none => s
  | _ => s

/-- Every creation that waits is looked at again. -/
def State.resumeCreates (s : State) : State :=
  s.queues.foldl (fun s e => e.2.started.foldl (fun s st => s.resumeCreate e.1 st) s) s

/-! ### TENSOR_FREE -/

/-- R334: a handle in a running sheet is not freed before its segments are copied. -/
def State.inSheet (s : State) (h : Nat) : Bool :=
  match s.step.sheet with
  | none => false
  | some sh => sh.segments.any (fun p => p.handle == h)

/-- R188: whether the release must wait: a started command names the handle or its residual, or a sheet holds it. -/
def State.freeWaits (s : State) (h : Nat) : Bool :=
  s.named h || s.inSheet h || (descFeedback (s.desc h) && s.named (descResidual (s.desc h)))

/-- R189: an attribute change or release that names a residual. -/
def State.ownedFail (s : State) (h : Nat) : Option Fail :=
  match s.tensor h with
  | none => some { st := St.handleUnknown, byte := 8, handle := h, value := h }
  | some t => failIf (t.owner != 0) { st := St.residualOwned, byte := 8, handle := h, value := h }

/-- TENSOR_FREE (R188). -/
def execTensorFree (q : Fin 256) (c : Line) (s : State) : Host.Outcome State Fault Refusal :=
  let h := handleAt c 8
  .next (s.take q c [] [h] (fun _ => firstFail [s.headerFail q c [], s.ownedFail h])
    (fun l => if s.freeWaits h then s else s.atOnce q l c .ok (fun s => s.release h)))

/-! ### TENSOR_ATTR -/

/-- R322: whether a tensor lies so that it may take a mirror class: its run, and for class whole its data, in the outbound
half. -/
def State.mayMirror (s : State) (h cls : Nat) : Bool :=
  match s.tensor h with
  | none => false
  | some t =>
    let out := fun f => s.outbound (f % pkgFrames)
    let run := t.run == 0 || out (frameOf t.run)
    let data := (s.alloc.frames.filter (fun e => e.2 == .data h)).all (fun e => out e.1)
    let has := s.willMirror.any (fun e => e.1 == h)
    decide (0 < s.mirrorFree) && (has || decide (s.willMirror.length < 16352)) && run && (cls != 2 || (data && t.unbound == 0 && !s.isRemote t.desc))

/-- R188: a TENSOR_ATTR's effect: attributes from the next step boundary, the suspect mark at once. -/
def State.setAttr (s : State) (h b : Nat) : State :=
  s.onTensor h (fun t => { t with
    desc := if b.testBit 5 then descSetBit t.desc 3 0 false else t.desc,
    verdictNext := if b.testBit 0 then some (b.testBit 1) else t.verdictNext,
    mirrorNext := if b.testBit 2 then some (b / 8 % 4) else t.mirrorNext })

/-- TENSOR_ATTR (R188, R189, R322). -/
def execTensorAttr (q : Fin 256) (c : Line) (s : State) : Host.Outcome State Fault Refusal :=
  let h := handleAt c 8
  let b := fld c 11 1
  let cls := b / 8 % 4
  .next (s.take q c [] [h]
    (fun _ => firstFail [s.headerFail q c [(11, 6, 2)], s.ownedFail h,
      failIf (b.testBit 2 && cls == 3) { st := St.reservedSet, byte := 11, bit := 3, handle := h, value := 3 },
      failIf (b.testBit 2 && cls != 0 && !s.mayMirror h cls) { st := St.mirrorPlacement, byte := 11, bit := 3, handle := h, value := cls }])
    (fun l => s.atOnce q l c .ok (fun s => s.setAttr h b)))

/-! ### SCRUB (R190) -/

/-- R190: one frame scrubbed: zero, and free for reuse. A frame that is not free is passed over (PINNED). -/
def State.scrubFrame (s : State) (f : Nat) : State :=
  if s.frameUse f == .free then s.clearRange (f * 2 ^ 21) (2 ^ 21) else s

/-- R190, R446: scrubbing of a package: released frames first, oldest first, then frames not scrubbed since power-up. -/
def State.scrubOnce (s : State) (p : Nat) : State :=
  match s.alloc.dirty.find? (fun f => f / pkgFrames == p) with
  | some f =>
    let s1 := s.scrubFrame f
    { s1 with alloc := { s1.alloc with dirty := s1.alloc.dirty.erase f } }
  | none =>
    let w := look 0 s.alloc.scrubbed p
    if w < pkgFrames then
      let s1 := s.scrubFrame (p * pkgFrames + w)
      { s1 with alloc := { s1.alloc with scrubbed := put 0 s1.alloc.scrubbed p (w + 1) } }
    else s

def State.scrubMany (s : State) (p : Nat) : Nat → State
  | 0 => s
  | n + 1 => (s.scrubOnce p).scrubMany p n

/-- SCRUB (R190): `frames` frames of package `p`; creations that waited for them go on. -/
def execScrub (p : Fin 32) (frames : Nat) (s : State) : Host.Outcome State Fault Refusal :=
  .next ((s.scrubMany p (min frames 65536)).resumeCreates)

end Sys2Proof.Machine
end

