-- ==== Sys2Proof/Machine/MemorySys.lean ====
section
/-!
DEFINITION. The memory system: decoding a line (R210), admission and issue at a channel (R217, R218), the adders' rows (R220 to
R222), staging frames (R69), the write-combining buffer (R223), patrol scrub (R212), refresh and power-down (R205, R224),
derating (R225 to R227) and packages out of service (R228, R229).
-/

namespace Sys2Proof.Machine

/-! ### Admission and issue (R217, R218) -/

/-- R217: the next source's oldest request is admitted, of those that no earlier access to their lines holds back (R219). -/
def State.admitOne (s : State) (ch : Nat) : State :=
  let c := s.channel ch
  let pk := s.package (ch / 4)
  let free := c.ingress.filter (fun r => !s.readBehind r)
  if c.admitted.length < 128 && pk.derate != 3 && !s.cooling.stopped then
    match roundRobin c.lastSource (free.map (fun r => sourceOf r.pkt.via)) with
    | none => s
    | some src =>
      match free.find? (fun r => sourceOf r.pkt.via == src) with
      | none => s
      | some r =>
        (s.surge 0x400700 r.since).setChannel ch { c with
          admitted := c.admitted ++ [s.captured { r with since := s.now }], ingress := c.ingress.erase r, lastSource := src }
  else s

/-- R210, R219: an admitted request is issued: its lines are decoded, each with the errors of its read, and it is answered with
what they held at its admission; nothing of a line that does not decode is returned. -/
def State.issueReq (s : State) (ch : Nat) (q : ChanReq) (reads : List LineRead) : State :=
  let s1 := (s.onChannel ch (fun c => { c with admitted := c.admitted.erase q })).wakeChannel ch
  if s1.offline (ch / 4) then s1.nakTo q.pkt St.memoryOffline
  else if (s1.package (ch / 4)).critical then s1.nakTo q.pkt St.memoryCritical
  else
    let n := pktBytes q.pkt
    let s2 := (List.range (ceilDiv n 64)).foldl (fun s i => s.decodeLine (memKey (q.line + 64 * i)) (reads.getD i {})) s1
    let now := s2.localBytes q.line n
    if q.bad || s2.badRange q.line n then s2.dataTo q.pkt (List.replicate n 0) true
    else s2.dataTo q.pkt (if now == s1.localBytes q.line n then q.data else now)

/-- R218: the oldest admitted request when it has waited 2 µs. -/
def Channel.starved (c : Channel) (now : Nat) : Option ChanReq :=
  c.admitted.head?.filter (fun q => decide (q.since + 2000 ≤ now))

/-! ### The write-combining buffer (R223) -/

/-- The bytes of a masked line as they are stored. -/
def maskedBytes (mask : BitVec 64) (data : List Byte) : List (Option Byte) :=
  (List.range 64).map (fun i => if mask.getLsbD i then some (data.getD i 0) else none)

/-- R223: a store of bytes of a line: applied, and noted at the buffer. -/
def State.wcMerge (s : State) (line : Nat) (mask : BitVec 64) (data : List Byte) (source : Nat) : State :=
  (s.wrMasked line (maskedBytes mask data)).notePartial line mask source

/-- What a partial store meets at a near-home line: the counter of its wait, or nothing. -/
def State.wcHold (s : State) (line : Nat) (mask : BitVec 64) (poison : Bool) : Option Nat :=
  let c := s.channel (chanOf line)
  let pk := s.package (pkgOf line)
  if pk.derate == 3 && !pk.critical then some 0x400D00
  else if s.cooling.stopped then some 0
  else if 128 ≤ c.admitted.length then some 0x400700
  else if s.barrierFull line || (s.barred line && poison) then some 0x601900
  else if mask ≠ BitVec.allOnes 64 ∧ 64 ≤ c.wc.length ∧ c.wc.any (fun e => e.line == line) = false then some 0x400900
  else none

/-- R211: a line stored with data that carry poison. -/
def State.storePoisoned (s : State) (line : Nat) (mask : BitVec 64) (data : List Byte) : State :=
  ((((s.wrMasked line (maskedBytes mask data)).onChannel (chanOf line) (fun c => { c with
    wc := c.wc.filter (fun e => e.line != line) })).dropEntry line).wakeChannel (chanOf line)).poisonLine line

/-- R223, R273, R332: a store to a near-home line, partial or whole: held by the barrier, merged, or waiting (the second
component); `rd` are the errors of the read that retires the oldest entry of a full buffer. -/
def State.tryPartial (s : State) (line : Nat) (mask : BitVec 64) (data : List Byte) (source : Nat) (poison : Bool := false)
    (rd : LineRead := {}) : State × Option Nat :=
  match s.wcHold line mask poison with
  | some key =>
    (match (if key = 0x400900 then (s.channel (chanOf line)).wc.head? else none) with
      | some e => (s.retireWc e rd, some key)
      | none => (s, some key))
  | none =>
    if s.barred line then (s.holdWrite line (maskedBytes mask data), none)
    else
      let r := s.access line true
      if r.2 then (if poison then r.1.storePoisoned line mask data else r.1.wcMerge line mask data source, none) else (r.1, some 0)

/-- The errors of the read that a packet's store or add makes of a line. -/
def replyRead (reply : Option Packet) : LineRead := { errors := match reply with | some p => p.errors | none => [] }

/-- A partial store of an agent: tried, or put to wait; behind an earlier access to its line it waits too (R219). -/
def State.partialStore (s : State) (line : Nat) (mask : BitVec 64) (data : List Byte) (source : Nat) (reply : Option Packet)
    (poison : Bool := false) : State × Bool :=
  let r := if s.waitsAt line s.arrivals then (s, some 0) else s.tryPartial line mask data source poison (replyRead reply)
  match r.2 with
  | none => (r.1, true)
  | some key =>
    let w : WcWaiter := { line := line, mask := mask, data := data, source := source, since := s.now, key := key, reply := reply, poison := poison }
    ((if key = 0x601900 then r.1.meetBarrier line else r.1).waitPartial w, false)

/-- WC_PARTIAL_STORE (R223). -/
def execWcPartialStore (addr : BitVec 48) (mask : BitVec 64) (data : List Byte) (t : Nat) (s : State) :
    Host.Outcome State Fault Refusal :=
  let s1 := s.tick t
  let a := addr.toNat
  .next (match place a with
    | .lpddr near =>
      let st := s1.memStatus a 1 .command true
      if st ≠ 0 then (if st = St.memoryDenied then s1.addressFault 2 s1.node a 8 st else s1)
      else (s1.partialStore (lineOf near) mask data s1.node none).1
    | .unmapped => s1.addressFault 2 s1.node a 8 St.addressUnmapped
    | _ => s1)

/-- R266: a packet is acknowledged when nothing of it waits any more. -/
def State.ackWhenDone (s : State) (p : Packet) : State := if s.waitingPackets.contains p then s else s.ackTo p

/-- The unit whose store waits (R217): of an agent outside, or this module's own. -/
def WcWaiter.unit (w : WcWaiter) : Nat := match w.reply with | some p => sourceOf p.via | none => 0

/-- R217: the waiting stores of a channel in round-robin order of their sources. -/
def Channel.storeOrder (c : Channel) : List WcWaiter := rrOrder WcWaiter.unit c.wcWait.length c.lastSource c.wcWait

/-- The first waiting partial store that can go on. -/
def State.admitPartial (s : State) (ch : Nat) : List WcWaiter → State
  | [] => s
  | w :: ws =>
    let r := if s.waitsAt w.line w.ord then (s, some 0) else s.tryPartial w.line w.mask w.data w.source w.poison
    match r.2 with
    | some _ => State.admitPartial r.1 ch ws
    | none =>
      let s1 := (if w.key = 0 then r.1 else r.1.surge w.key w.since).onChannel ch (fun c => { c with
        wcWait := c.wcWait.erase w, lastSource := w.unit })
      match w.reply with
      | some p => s1.ackWhenDone p
      | none => s1

/-- WC_RETIRE_TIMEOUT (R223): the first entry without a store for 500 ns. -/
def execWcRetireTimeout (ch : Fin 128) (r : LineRead) (t : Nat) (s : State) : Host.Outcome State Fault Refusal :=
  let s1 := s.tick t
  .next (match (s1.channel ch).wc.find? (fun e => decide (e.last + 500 ≤ s1.now)) with
    | some e => s1.retireWc e r
    | none => s1)

/-! ### The adders' rows (R220 to R222, R69) -/

/-- The answer to an add or atomic: DATA with the old value, ACK, or NAK. -/
def State.answerAdd (s : State) (p : Packet) (o : AdderOp) (x : AddOut) : State :=
  if x.status ≠ 0 then s.nakTo p x.status
  else match o with
    | .atom _ a => s.dataTo p (leBytes (atomBytes a) x.old ++ List.replicate (64 - atomBytes a) 0)
    | _ => s.ackWhenDone p

/-- R222: a waiter joins the ingress of the operation's channel, or the list of those that need a staging frame. -/
def State.queueAdd (s : State) (w : AdderWaiter) : State :=
  if w.key = 0x801300 ∧ w.reply.isNone = true then { s with stageWait := s.stageWait ++ [(w.op, w.since)] }
  else
    let s0 := if w.key = 0x601900 then (s.opLines w.op).foldl (fun (s : State) l => if s.barred l then s.meetBarrier l else s) s else s
    let s1 := s0.onChannel (s.opChannel w.op) (fun c => { c with adderWait := c.adderWait ++ [{ w with ord := s.arrivals }] })
    { s1 with arrivals := s1.arrivals + 1 }

/-- R222: whether others wait at the channel for an entry that the operation needs too. -/
def State.behindEntries (s : State) (o : AdderOp) : Bool :=
  !(s.channel (s.opChannel o)).adderWait.isEmpty &&
    (s.opLines o).any (fun l => !(s.channel (chanOf l)).entries.any (fun e => e.line == l))

/-- R219, R222: whether an operation waits behind others: for an entry, or behind an earlier access to a line of it. -/
def State.behindOthers (s : State) (o : AdderOp) : Bool :=
  s.behindEntries o || (s.opLines o).any (fun l => s.waitsAt l s.arrivals)

/-- An operation reaches its adder: performed (with what it leaves), or waiting. -/
def State.submitTry (s : State) (o : AdderOp) (side : Side) (node source : Nat) (reply : Option Packet) (rd : LineRead := replyRead reply) :
    State × Option AddOut :=
  let wait := fun (s : State) (key : Nat) =>
    s.queueAdd { op := o, source := source, since := s.now, reply := reply, key := key }
  if s.behindOthers o then (wait s (if s.behindEntries o then 0x400800 else 0), none)
  else match s.tryOp o side node source rd with
    | .wait s1 key => (wait s1 key, none)
    | .done x => (x.s, some x)

/-- The same, and a performed one answered. -/
def State.submitAdd (s : State) (o : AdderOp) (side : Side) (node source : Nat) (reply : Option Packet) (rd : LineRead := replyRead reply) :
    State :=
  match s.submitTry o side node source reply rd, reply with
  | (_, some x), some p => x.s.answerAdd p o x
  | (s1, _), _ => s1

/-- R422: an adder entry that fails its parity: its line is written as poisoned. -/
def State.failEntry (s : State) (ch n : Nat) : State :=
  match (s.channel ch).entries[n]? with
  | none => s
  | some e => ((s.dropEntry e.line).poisonLine e.line).recordOf 0xA007 8 (ctrlRegion (ch / 4)) (4 + n * 2 ^ 8)

/-- ADDER_OPERATION (R220, R221); an entry of the channel's adders whose parity fails then (R422). -/
def execAdderOperation (o : AdderRun) (t : Nat) (s : State) : Host.Outcome State Fault Refusal :=
  let s1 := s.tick t
  let s2 := s1.submitAdd o.op .command s1.node 0 none o.read
  .next (match o.parity with
    | some n => s2.failEntry (s2.opChannel o.op) n
    | none => s2).settled

/-- The waiters of a channel in round-robin order of their sources (R222). -/
def Channel.adderOrder (c : Channel) : List AdderWaiter := rrOrder AdderWaiter.source c.adderWait.length c.adderLast c.adderWait

/-- The first waiter, in order, that can go on. -/
def State.admitAdd (s : State) (ch : Nat) : List AdderWaiter → State
  | [] => s
  | w :: ws =>
    let side := if w.reply.isSome then Side.outside else .command
    let node := match w.reply with | some p => s.requester p | none => s.node
    match (if (s.opLines w.op).any (fun l => s.waitsAt l w.ord) then .wait s 0 else s.tryOp w.op side node w.source) with
    | .wait s1 _ => State.admitAdd s1 ch ws
    | .done x =>
      let s1 := (if w.key = 0 then x.s else x.s.surge w.key w.since).onChannel ch (fun c => { c with
        adderWait := c.adderWait.erase w, adderLast := w.source })
      match w.reply with
      | some p => s1.answerAdd p w.op { x with s := s1 }
      | none => s1

/-- The entry idle longest. -/
def oldestEntry : List AdderEntry → Option AdderEntry
  | [] => none
  | e :: es => some (es.foldl (fun b x => if x.last < b.last then x else b) e)

/-- R221, R222: entries idle for 256 cycles write their lines back; when all 256 are in use, the one idle longest does. -/
def State.writeBackEntries (s : State) (ch : Nat) : State :=
  let c := s.channel ch
  let point := (s.region (ctrlRegion (ch / 4))).point
  let idle := c.entries.filter (fun e =>
    decide (256 * 10 * [12, 10, 9, 8, 7, 6, 5, 4].getD point 4 ≤ (s.now - e.last) * 108))
  if !idle.isEmpty then s.setChannel ch { c with entries := c.entries.filter (fun e => !idle.contains e) }
  else if 256 ≤ c.entries.length then
    match oldestEntry c.entries with
    | some e => s.setChannel ch { c with entries := c.entries.erase e }
    | none => s
  else s

/-- R69: the first contribution that waits for a staging frame and finds one proceeds; the wait is counted. -/
def State.grantStaging (s : State) : List (AdderOp × Nat) → State
  | [] => s
  | w :: ws =>
    match s.tryOp w.1 .command s.node 0 with
    | .wait s1 _ => State.grantStaging s1 ws
    | .done x => let s1 := x.s.surge 0x801300 w.2; { s1 with stageWait := s1.stageWait.erase w }

/-! ### Patrol scrub, refresh, power-down (R205, R212, R224) -/

/-- R214: the near-home address of a channel-local address. -/
def chanAddr (ch q : Nat) : Nat := ch / 4 * 2 ^ 36 + q / 256 * 1024 + ch % 4 * 256 + q % 256

/-- Whether a channel serves requests: in service, and not in self-refresh. -/
def State.chanServes (s : State) (ch : Nat) : Bool :=
  !s.offline (ch / 4) && !(s.channel ch).selfRefresh && !(s.package (ch / 4)).critical

/-- REFRESH (R224, R225): one per-bank refresh, at the base rate, or at twice it above 85 °C and in every state but normal. -/
def execRefresh (ch : Fin 128) (s : State) : Host.Outcome State Fault Refusal :=
  .next (
    if s.chanServes ch then
      s.onChannel ch (fun c => if 85 < (s.package (ch / 4)).celsius ∨ (s.package (ch / 4)).derate ≠ 0 then { c with fastRefreshes := c.fastRefreshes + 1 }
        else { c with refreshes := c.refreshes + 1 })
    else s)

/-- CHANNEL_POWER_DOWN (R205): after 1 µs idle. -/
def execChannelPowerDown (ch : Fin 128) (t : Nat) (s : State) : Host.Outcome State Fault Refusal :=
  let s1 := s.tick t
  let c := s1.channel ch
  .next (
    if s1.chanServes ch && c.admitted.isEmpty && c.ingress.isEmpty && decide (c.lastUse + 1000 ≤ s1.now) then
      s1.setChannel ch { c with powerDown := true }
    else s1)

/-! ### Temperature and derating (R225 to R227) -/

/-- R225: the state a reading enters. -/
def derateLevel (celsius : Int) : Nat := if 105 ≤ celsius then 3 else if 95 < celsius then 2 else if 85 < celsius then 1 else 0

/-- R225: the reading below which a state is left. -/
def exitBelow (level : Nat) : Int := [0, 82, 92, 102].getD level 0

/-- R290, R383: HINT, operation 0x0001, to every member of a collective, once. -/
def State.hintMembers (s : State) (c : Collective) : State :=
  let s1 := (c.members.filter (fun n => !s.localNode n)).foldl (fun s n => s.sendPacket 0x32 n false false 0 0 0 0 1 []) s
  let s2 := s1.bump 0x400E00 1
  { s2 with collectives := s2.collectives.map (fun x => if x.id == c.id then { x with hinted := true } else x) }

/-- R226, R290: running collectives that use a package in state 1 or above hint; those that use one in state 2 or 3 are
marked. -/
def State.derateCollectives (s : State) (p level : Nat) : State :=
  let uses := fun (c : Collective) => [c.src, c.dst].any (fun h => (s.packagesUsed h).contains p)
  let s1 := { s with collectives := s.collectives.map (fun c =>
    if uses c && decide (c.engine < 8) && decide (2 ≤ level) then { c with derated := true } else c) }
  (s.collectives.filter (fun c => uses c && decide (c.engine < 8) && !c.hinted && decide (1 ≤ level))).foldl State.hintMembers s1

/-- R226: started commands that use a package in state 2 or 3 will report it. -/
def State.derateCommands (s : State) (p : Nat) : State :=
  { s with queues := s.queues.map (fun e => (e.1, { e.2 with started := e.2.started.map (fun st =>
      if (st.reads ++ st.writes).any (fun h => (s.packagesUsed h).contains p) then { st with derated := true } else st) })) }

/-- R225: a change of state: recorded, reported, and told to collectives and commands. -/
def State.setDerate (s : State) (p level : Nat) : State :=
  let c := (s.package p).celsius
  let s1 := (s.onPackage p (fun k => { k with derate := level })).setDv (0x400201 + p) level
  (s1.recordOf 0x4004 8 (ctrlRegion p) (p + level * 2 ^ 8 + toBits 16 c * 2 ^ 16)).derateCollectives p level |> fun (x : State) =>
    if 2 ≤ level then x.derateCommands p else x

/-- R227, R350, R382: whether the channels of a package are to be in self-refresh: the package critical, its region asleep, a
coolant stop. -/
def State.refreshesItself (s : State) (p : Nat) : Bool :=
  let r := (s.region (ctrlRegion p)).power
  (s.package p).critical || r == 1 || r == 2 || s.cooling.stopped

/-- The channels of a package enter or leave self-refresh; an all-bank refresh goes before it (R205). -/
def State.syncRefresh (s : State) (p : Nat) : State :=
  [0, 1, 2, 3].foldl (fun x i => x.onChannel (4 * p + i) (fun c => { c with
    selfRefresh := s.refreshesItself p, allBank := c.allBank + (if s.refreshesItself p && !c.selfRefresh then 1 else 0) })) s

/-- R227: leaving self-refresh: the package is back in service. -/
def State.leaveCritical (s : State) (p : Nat) : State :=
  ((s.onPackage p (fun k => { k with critical := false })).setDv 0x400C00 (s.dv 0x400C00 + 1)).syncRefresh p

/-- TEMPERATURE_READOUT (R225, R227). -/
def execTemperatureReadout (p : Fin 32) (celsius : Int) (t : Nat) (s : State) : Host.Outcome State Fault Refusal :=
  let s1 := (s.tick t).setDv (0x400101 + p) (f32RatioInt celsius 1)
  let k := s1.package p
  let cool := [1, 2, 3].foldl (fun m l => put none m l
    (if celsius < exitBelow l then some ((look none k.coolSince l).getD s1.now) else none)) k.coolSince
  let s2 := s1.setPackage p { k with
    celsius := celsius, coolSince := cool, critSince := if 105 ≤ celsius then some (k.critSince.getD s1.now) else none }
  let s3 := if k.critical && decide (celsius < 102) && !k.offline then s2.leaveCritical p else s2
  .next (if k.derate < derateLevel celsius then s3.setDerate p (derateLevel celsius) else s3)

/-- R225: a package leaves its derating state once its reading has been below that state's threshold for 10 ms. -/
def State.mayExitDerate (s : State) (p : Nat) : Bool :=
  let k := s.package p
  match (if k.derate = 0 then none else look none k.coolSince k.derate) with
  | some t => decide (t + 10000000 ≤ s.now)
  | none => false

/-- R225, R227: a package goes to the state below; leaving state 3 counts the waits it caused. -/
def State.exitDerate (s : State) (p : Nat) : State :=
  let k := s.package p
  (((if k.derate = 3 then s.countCritical p else s).setDerate p (k.derate - 1)).runTransfers).settled

/-- R227: 1 s at 105 °C or above: self-refresh; every waiting request completes with MEMORY_CRITICAL. -/
def State.enterCritical (s : State) (p : Nat) : State :=
  let s1 := (s.onPackage p (fun k => { k with critical := true })).setDv 0x400C00 (s.dv 0x400C00 - 1)
  let s2 := (s1.countCritical p).syncRefresh p
  ((s2.failWaiting p St.memoryCritical).runTransfers).settled

end Sys2Proof.Machine
end

