-- ==== Sys2Proof/Machine/Sched.lean ====
section
/-!
DEFINITION. The scheduler and the arrays: placement and dispatch of tiles (R195, R196), the pager (R193, R194), banks and
finished tiles (R93 to R96), epilogues (R132 to R134), and the grants of pages (R192).
-/

namespace Sys2Proof.Machine

def Cluster.array (k : Cluster) (a : Nat) : MatArray := look {} k.arrays a
def Cluster.setArray (k : Cluster) (a : Nat) (x : MatArray) : Cluster := { k with arrays := put {} k.arrays a x }
def State.array (s : State) (c a : Nat) : MatArray := (s.cluster c).array a
def State.setArray (s : State) (c a : Nat) (x : MatArray) : State := s.onCluster c (fun k => k.setArray a x)

/-! ### Placement (R195) -/

/-- The inputs of a work unit: elements of A and B, and of the epilogue's streams and mask at its elements of C. -/
def State.unitInputs (s : State) (c : Line) (w : MatmulWork) (u : Nat) : List (Line × Nat) :=
  let p := unitPos c w.parts u
  let ks := partKs c w.parts p.part
  let (da, db, dc) := (s.desc (handleAt c 8), s.desc (handleAt c 11), s.desc (handleAt c 14))
  let mine := (List.range (unitRows c p)).flatMap (fun i => (List.range (unitCols c p)).map (fun j =>
    elemC dc c p.b (32 * p.mt + i) (32 * p.nt + j)))
  (unitA da c p ks).flatten.map (fun i => (da, i)) ++ (unitB db c p ks).flatten.map (fun i => (db, i)) ++
    (epiNamed w.prog [0, 1, 2, 4]).flatMap (fun x => mine.map (fun i => (s.desc x.2, streamIdx (s.desc x.2) dc i)))

/-- The element of C a work unit writes first. -/
def State.unitOut (s : State) (c : Line) (parts u : Nat) : Nat :=
  let p := unitPos c parts u
  elemC (s.desc (handleAt c 14)) c p.b (32 * p.mt) (32 * p.nt)

/-- The M range of a unit: its rows run in place on one vector engine (R133, R134). -/
def homeKey (c : Line) (p : UnitPos) : Nat := p.b * mTiles c + p.mt

/-- The unit of a MATMUL that is dealt next: one that a cluster lost, else the next one. -/
def MatmulWork.nextUnit (w : MatmulWork) : Nat := w.redo.headD w.next

/-- R195: the cluster a work unit is placed on, and whether rules 3 and 4 yielded to rule 5; none where it must wait. The tiles of an
M range of an in-place program meet in one cluster (R133): a direct-access one, while there is one (rule 1). -/
def State.placeUnit (s : State) (st : Started) (w : MatmulWork) (u : Nat) : Option (Nat × Bool) :=
  let c := st.cmd
  let (h, idx, ins) := (handleAt c 14, s.unitOut c w.parts u, s.unitInputs c w u)
  let here := fun (k : Nat) => if s.candidates.contains k then some (k, false) else none
  if w.inPlace then
    match (look none w.homes (homeKey c (unitPos c w.parts u))).filter s.enabled with
    | some k => here k
    | none =>
      let direct := s.directClusters
      if w.fallback || direct.isEmpty then s.placeTile h idx ins
      else match (s.outCluster h idx).filter direct.contains with
        | some k => here k
        | none =>
          let cs := direct.filter s.candidates.contains
          if cs.isEmpty then none else some (s.placeBy cs ins)
  else s.placeTile h idx ins

/-! ### The operand tiles of a unit (R193, R194) -/

/-- R193, R194: the operand tiles that a unit dispatched to cluster `k` reads through the pager: of A, of B, and of the streams and mask
of its epilogue. -/
def State.unitFetches (s : State) (c : Line) (w : MatmulWork) (t : Tile) (k : Nat) : List Fetch :=
  let p := unitPos c w.parts t.unit
  let ks := partKs c w.parts p.part
  let (ha, hb) := (handleAt c 8, handleAt c 11)
  let dc := s.desc (handleAt c 14)
  let mine := (List.range (unitRows c p)).flatMap (fun i => (List.range (unitCols c p)).map (fun j =>
    elemC dc c p.b (32 * p.mt + i) (32 * p.nt + j)))
  let one : Fetch := { tile := t, ofB := false, b := p.b, part := p.part, n := p.mt, bytes := 0 }
  s.fetchOf k ha (unitA (s.desc ha) c p ks) one ++ s.fetchOf k hb (unitB (s.desc hb) c p ks) { one with ofB := true, n := p.nt } ++
    (epiNamed w.prog [0, 1, 2, 4]).flatMap (fun x =>
      s.fetchOf k x.2 [(mine.map (streamIdx (s.desc x.2) dc)).eraseDups] { one with part := 0, n := t.unit / w.parts, h := x.2 })

/-- R194: the pager is to fetch a unit's operand tiles; one that lies in a buffer of the cluster is read there. -/
def State.askPager (s : State) (c : Line) (w : MatmulWork) (t : Tile) (k : Nat) : State :=
  let fs := s.unitFetches c w t k
  s.onCluster k (fun x =>
    let here := fun (f : Fetch) => x.buffers.any f.same
    { x with fetches := x.fetches ++ (fs.filter (fun f => !here f)).map (fun f =>
               { f with taken := x.fetches.any (fun g => f.same g && g.taken) }),
             buffers := x.buffers ++ fs.filter here })

/-! ### Arrays (R93, R108) -/

/-- Nanoseconds at a region's point as clock cycles (R346). -/
def cyclesOf (ns point : Nat) : Nat := ns * 108 / (10 * [12, 10, 9, 8, 7, 6, 5, 4].getD point 4)

/-- R93: the stall of an array ends; its cycles are counted. -/
def State.endStall (s : State) (c a : Nat) : State :=
  let x := s.array c a
  match x.stallSince with
  | none => s
  | some t =>
    (s.bump 0xA01100 (cyclesOf (s.now - t) (s.region c).point)).setArray c a { x with stallSince := none }

/-- The columns a row of an in-place program runs over at once: group, M range, batch and command of a tile (R133, R134). -/
def State.bankGroup (s : State) (t : Tile) : Option (Nat × Nat × Nat × Nat × Nat) :=
  match s.tileJob t with
  | some (st, w) =>
    if w.inPlace && !w.fallback then
      let p := unitPos st.cmd w.parts t.unit
      some (t.q, t.id, p.b, p.mt, p.nt / 32)
    else none
  | none => none

/-- R95, R133: a tile of an in-place program is started beside tiles of one other group at most, so that the tiles of a group find
their banks. -/
def State.tileMayStart (s : State) (c : Nat) (t : Tile) : Bool :=
  match s.bankGroup t with
  | none => true
  | some g =>
    let here := (s.cluster c).arrays.flatMap (fun e => e.2.cur.toList ++ e.2.full.map (·.tile))
    decide ((((here.filterMap s.bankGroup).filter (· != g)).eraseDups).length ≤ 1)

/-- R193: whether the pager still has to bring a tile's operands. -/
def State.tileFetching (s : State) (c : Nat) (t : Tile) : Bool := (s.cluster c).fetches.any (fun f => f.of t && f.h == 0)

/-- R93, R194: an array that needs a late operand stalls, unless it waits for admission (R108). -/
def State.noteLate (s : State) (c a : Nat) : State :=
  let x := s.array c a
  match x.cur with
  | some t => if !x.waits && s.tileFetching c t && x.stallSince.isNone then
      s.setArray c a { x with stallSince := some s.now, stalls := x.stalls + 1 } else s
  | none => s

/-- R363: the current step of a tile at a cluster, by the format of its A operand. -/
def State.tileStep (s : State) (c : Nat) (t : Tile) : Nat :=
  s.currentStep 1 (match s.tileJob t with | some (st, _) => descFmtCode (s.desc (handleAt st.cmd 8)) | none => 0) c

/-- R93, R363: an array takes the oldest dispatched tile that may start into a free bank and asks for its current step. -/
def State.startTile (s : State) (c a : Nat) : State :=
  match (s.cluster c).slots.find? (s.tileMayStart c) with
  | none => s
  | some t =>
    let s1 := (s.endStall c a).onCluster c (fun k => { k with slots := k.slots.erase t })
    let r := s1.askWork 1 c (s1.tileStep c t) (a, 0)
    (r.1.setArray c a { r.1.array c a with cur := some t, waits := !r.2 }).noteLate c a

/-- R93: idle arrays of a cluster start tiles; while a tile is ready, one with no free bank stalls. The stall count of an array
is the number of its stalls (DESIGN CHOICE, log entry 145). -/
def State.feedArrays (s : State) (c : Nat) : State :=
  let s1 := (List.range 32).foldl (fun s a =>
    let x := s.array c a
    if x.cur.isSome || !decide (x.full.length < 2) then s else s.startTile c a) s
  let ready := (s1.cluster c).slots.any (s1.tileMayStart c)
  (List.range 32).foldl (fun s a =>
    let x := s.array c a
    if x.cur.isSome then s
    else if ready && !decide (x.full.length < 2) then
      (if x.stallSince.isNone then s.setArray c a { x with stallSince := some s.now, stalls := x.stalls + 1 } else s)
    else s.endStall c a) s1

/-! ### Dispatch (R196) -/

/-- MATMULs with a unit that is ready: queue, started command, work. -/
def State.readyJobs (s : State) : List (Nat × Started × MatmulWork) :=
  s.queues.flatMap (fun e => e.2.started.filterMap (fun st => match st.work with
    | .matmul w => if w.next < w.total ∨ w.redo ≠ [] then some (e.1, st, w) else none
    | _ => none))

/-- R196: whether a job's next tile has waited longer than the age ceiling (0xA045:00). The tiles of a command are ready, and
wait, from its start (DEDUCED, log entry 146). -/
def State.aged (s : State) (st : Started) : Bool := decide (s.dv 0xA04500 < s.now - st.since)

/-- R196: ready jobs in the order of dispatch: by priority, round robin among the queues of one priority. -/
def State.dispatchOrder (s : State) (js : List (Nat × Started × MatmulWork)) : List (Nat × Started × MatmulWork) :=
  [3, 2, 1, 0].flatMap (fun p =>
    let mine := js.filter (fun j => qPriority (s.queue j.1).latched == p)
    mine.filter (fun j => decide (s.lastQueue < j.1)) ++ mine.filter (fun j => decide (j.1 ≤ s.lastQueue)))

/-- R196: aged jobs. The order among them is not stated: the oldest command first (DESIGN CHOICE, log entry 179). -/
def State.agedJobs (s : State) (js : List (Nat × Started × MatmulWork)) : List (Nat × Started × MatmulWork) :=
  sortBy (fun j => j.2.1.since) (js.filter (fun j => s.aged j.2.1))

/-- R192: a dispatched tile takes a working page; without a free one it waits. How many pages a working tile takes is not stated: one
(DESIGN CHOICE, log entry 178). -/
def State.takePage (s : State) (c : Nat) (t : Tile) : State :=
  let k := s.cluster c
  if 0 < s.pagesLeft c ∧ k.pageWait.isEmpty then
    s.setCluster c { k with workPages := k.workPages + 1, slots := k.slots ++ [t] }
  else s.setCluster c { k with pageWait := k.pageWait ++ [{ source := t.q, id := t.id, unit := t.unit, since := s.now }] }

/-- R96: a job of an in-place program goes on through the finished-tile queue once no direct-access cluster is enabled. -/
def State.toQueuePath (s : State) (q : Nat) (st : Started) (w : MatmulWork) : State :=
  if w.inPlace && !w.fallback && s.directClusters.isEmpty then
    ((s.onMatmul q st.id (fun w => { w with fallback := true })).onStarted q st.id (fun x =>
      { x with status := worse x.status St.directFallback })).bump 0xA01600 1
  else s

/-- R98: the array cycles of a unit. -/
def State.unitCost (s : State) (c : Line) (parts u : Nat) : Nat :=
  unitCycles c (descFmt (s.desc (handleAt c 8))) (partKs c parts (unitPos c parts u).part).length

/-- R193 to R196: a tile handed to a cluster: its operands, its page, an array. -/
def State.handTile (s : State) (st : Started) (w : MatmulWork) (t : Tile) (c : Nat) : State :=
  let s1 := (s.toQueuePath t.q st w).onStarted t.q t.id (fun x => { x with clusters := x.clusters ||| BitVec.ofNat 32 (2 ^ c) })
  let s2 := (((s1.callRegion c).prefer c t.q).askPager st.cmd w t c).occupy c t.cost
  (s2.takePage c t).feedArrays c

/-- R193, R196: a job's next unit dispatched to a cluster. -/
def State.dispatchTo (s : State) (q : Nat) (st : Started) (w : MatmulWork) (c : Nat) (moved : Bool) : State :=
  let u := w.nextUnit
  let t : Tile := { q := q, id := st.id, unit := u, since := s.now, cost := s.unitCost st.cmd w.parts u }
  let s1 := match w.fullSince with | some x => s.surge 0xA04700 x | none => s
  let s2 := s1.onMatmul q st.id (fun w => { w with
    next := if w.redo.isEmpty then w.next + 1 else w.next, redo := w.redo.tail, fullSince := none,
    homes := if w.inPlace then put none w.homes (homeKey st.cmd (unitPos st.cmd w.parts u)) (some c) else w.homes })
  let s3 := ((s2.dealFrame (handleAt st.cmd 14) (s.unitOut st.cmd w.parts u) c).bump 0xA04E00 (if moved then 1 else 0))
  { s3 with lastQueue := q }.handTile st w t c

/-- Slots of a cluster's matrix engine that are taken (R196). -/
def Cluster.slotsUsed (k : Cluster) : Nat := k.slots.length + k.pageWait.length

/-- R196: the first job of an order whose engine has a free slot is dispatched; those passed over begin to wait. -/
def State.dispatchFirst (s : State) : List (Nat × Started × MatmulWork) → State
  | [] => s
  | j :: js =>
    let late := s.onMatmul j.1 j.2.1.id (fun w =>
      { w with fullSince := match w.fullSince with | some x => some x | none => some s.now })
    match s.placeUnit j.2.1 j.2.2 j.2.2.nextUnit with
    | none => State.dispatchFirst s js
    | some p =>
      if (s.cluster p.1).slotsUsed < 64 then s.dispatchTo j.1 j.2.1 j.2.2 p.1 p.2 else State.dispatchFirst late js

/-- TILE_DISPATCH (R195, R196): tiles past the age ceiling come before any priority. -/
def execTileDispatch (t : Nat) (s : State) : Host.Outcome State Fault Refusal :=
  let s := s.tick t
  let js := s.readyJobs
  .next (if s.candidates.isEmpty then s else (s.dispatchFirst (s.agedJobs js ++ s.dispatchOrder js)).pumpPagers)

/-- DISPATCH_AGE_CEILING (R196). -/
def execDispatchAgeCeiling (t : Nat) (s : State) : Host.Outcome State Fault Refusal :=
  let s := s.tick t
  .next (if s.candidates.isEmpty then s else (s.dispatchFirst (s.agedJobs s.readyJobs)).pumpPagers)

/-- R192 to R194: whether an operand tile may arrive now: its read is under way, its remote pages have all come. -/
def State.mayFetch (s : State) (f : Fetch) : Bool := f.taken && f.pages.all (s.pageHere f.tile.q f.tile.id)

/-- R194: the first fetch of a cluster that may be made arrives: with it the same operand tile in every cluster of the half that
waits for it. An operand of a row group or run goes to its engine at once (log entry 182). -/
def State.fetchArrives (s : State) (c : Nat) : State :=
  match (s.cluster c).fetches.find? s.mayFetch with
  | none => s
  | some f =>
    let hit := ((List.range 16).map (· + c / 16 * 16)).filter (fun k => (s.cluster k).fetches.any f.same)
    let s1 := s.bump 0xA04A00 (f.bytes * (hit.length - 1))
    hit.foldl (fun s1 k =>
      let gone := (s1.cluster k).fetches.filter f.same
      let s2 := s1.onCluster k (fun r => { r with
        fetches := r.fetches.filter (fun x => !f.same x),
        buffers := if (s.tileJob f.tile).isSome then r.buffers ++ gone else r.buffers })
      (List.range 32).foldl (fun s2 a => match (s2.array k a).cur with
        | some u => if gone.any (fun x => x.of u) && !s2.tileFetching k u then s2.endStall k a else s2
        | none => s2) s2) s1

/-- PAGER_FETCH_ARRIVAL (R194); the pager goes on with the tiles that come next. -/
def execPagerFetchArrival (c : Fin 32) (s : State) : Host.Outcome State Fault Refusal :=
  .next (((s.pumpPager c).fetchArrives c).pumpPager c).runVectors

/-! ### Finishing tiles (R93, R94) -/

/-- Whether a tile's operands are all there: fetched, no staged block among them, their segments written (R70, R161, R194). -/
def State.operandsHere (s : State) (c : Nat) (t : Tile) (st : Started) : Bool :=
  !s.tileFetching c t && !(handlesAt st.cmd [8, 11]).any s.anyStaged && !s.segmentsOpen t.q st (handlesAt st.cmd [8, 11])

/-- R162: whether an operand of a unit lies in a lost tile of a LATENT tensor. -/
def State.unitLost (s : State) (c : Line) (parts u : Nat) : Bool :=
  let p := unitPos c parts u
  let ks := partKs c parts p.part
  let (ha, hb) := (handleAt c 8, handleAt c 11)
  s.lostElems ha (unitA (s.desc ha) c p ks).flatten || s.lostElems hb (unitB (s.desc hb) c p ks).flatten

/-- R194: a tile has passed its operands: what the pager holds of them for it is released. -/
def State.passOperands (s : State) (c : Nat) (t : Tile) (streams : Bool) : State :=
  let gone := fun (f : Fetch) => f.of t && (f.h != 0) == streams
  s.onCluster c (fun k => { k with buffers := k.buffers.filter (fun f => !gone f), fetches := k.fetches.filter (fun f => !gone f) })

/-- A MATMUL that memory stops, or whose input is lost, ends with a status (R162, R227, R229). -/
def State.matmulEnds (s : State) (q : Nat) (st : Started) (status : Nat) : State := s.engineEnds q st status

/-- R93, R109: an array's tile is computed and left in its bank; counters of R109, and the array goes on. A buffer of the pager
that no array still needs is released (R194). -/
def State.finishTile (s : State) (c a : Nat) : State :=
  let x := s.array c a
  match x.cur with
  | none => s
  | some t =>
    let idle := fun (s : State) => (s.relieve c t.cost).onRegion c (fun r => { r with idleSince := s.now })
    let out := fun (s : State) => idle ((s.passOperands c t false).passOperands c t true)
    match s.tileJob t with
    | none => (((out s).onCluster c (fun k => { k with workPages := k.workPages - 1 })).setArray c a
        { x with cur := none, waits := false }).feedArrays c
    | some (st, w) =>
      if x.waits || !s.regionRuns c || !s.operandsHere c t st then s
      else if s.ingressFull (handlesAt st.cmd [8, 11]) then s.beginIngress t.q t.id 0x400700
      else
        let s := s.endHolds t.q st
        let cmd := st.cmd
        let r := s.tileAcc cmd w.parts t.unit
        let p := unitPos cmd w.parts t.unit
        let ks := partKs cmd w.parts p.part
        let (ha, hb) := (handleAt cmd 8, handleAt cmd 11)
        let stop := s.engineStop [ha, hb] []
        let s0 := if stop = St.memoryOffline ∨ stop = St.memoryCritical then s.matmulEnds t.q st stop else s
        let s1 := (s0.drawn.bump 0xA01000 1).bump 0xA01200 (s.correctionSlots cmd w.parts t.unit)
        let s2 := ((s1.bump 0xA01400 (if mmPrec cmd = 1 then 1 else 0)).bump 0xA01500 (if mmPrec cmd = 2 then 1 else 0)).bump
          0xA01300 (s.outlierTiles cmd w.parts t.unit)
        let s3 := (s2.takeElems ha 1 (unitA (s.desc ha) cmd p ks).flatten).takeElems hb 1 (unitB (s.desc hb) cmd p ks).flatten
        let s4 := if s.unitLost cmd w.parts t.unit then s3.meet t.q t.id St.latentLost else s3
        let s5 := ((idle (s4.passOperands c t false)).fallBy c (s.tileStep c t)).onCluster c (fun k => { k with lastTile := s.now })
        ((s5.endStall c a).setArray c a { s5.array c a with
          cur := none, stallSince := none,
          full := x.full ++ [{ tile := t, acc := r.acc, flags := flagWord r.fl, poisoned := r.bad }] }).feedArrays c

/-- R422: a finished tile one of whose words fails its parity: the element it feeds goes on as NaN, the command is poisoned. -/
def State.failParity (s : State) (f : FinTile) (e : Nat) : FinTile :=
  let wide := match s.tileJob f.tile with | some (st, _) => mmPrec st.cmd == 2 | none => false
  let x := if wide then convert .fp64 false .rn .nan else convert .fp32 false .rn .nan
  { f with acc := f.acc.set e (BitVec.ofNat 64 x.code), flags := f.flags ||| flagWord Flag.nonFinite, poisoned := true }

/-- R422: a DATAPATH_PARITY record: structure 1 accumulator, 2 finished-tile queue, 3 latch, 4 adder entry. -/
def State.parityRecord (s : State) (structure' unit region n : Nat) : State :=
  s.recordOf 0xA007 unit region (structure' + n * 2 ^ 8)

/-- R422: the tile that just left an array, one of whose accumulators (or a latch on their way) failed its parity. -/
def State.failTile (s : State) (c a e : Nat) (latch : Bool) : State :=
  let x := s.array c a
  match x.full.getLast? with
  | none => s
  | some f => (s.setArray c a { x with full := x.full.dropLast ++ [s.failParity f e] }).parityRecord (if latch then 3 else 1) 1 c a

/-- TILE_FINISH (R93); an accumulator of the tile, or a latch, whose parity fails (R422). -/
def execTileFinish (c : Fin 32) (a : TileEnd) (s : State) : Host.Outcome State Fault Refusal :=
  let s1 := s.finishTile c a.array
  .next (match a.parity with
    | some p => if (s.array c a.array).full.length < (s1.array c a.array).full.length then s1.failTile c a.array p.1 p.2 else s1
    | none => s1)

/-- R95: a finished tile that stays in its drain bank for an in-place program. -/
def State.staysInBank (s : State) (f : FinTile) : Bool :=
  match s.tileJob f.tile with
  | some (_, w) => w.inPlace && !w.fallback
  | none => false

/-- R70, R113, R194: whether a stream or the mask of a MATMUL's epilogue has a staged block, or has not been fetched: its tiles are
held. -/
def State.epilogueHeld (s : State) (t : Tile) : Bool :=
  match s.tileJob t with
  | some (st, w) => (epiNamed w.prog [0, 1, 2, 4]).any (fun x => s.anyStaged x.2) ||
      s.segmentsOpen t.q st ((epiNamed w.prog [0, 1, 2, 4]).map (·.2)) ||
      s.clusters.any (fun e => e.2.fetches.any (fun f => f.of t && f.h != 0))
  | none => false

/-- Whether a finished tile is to leave its bank through the queue. -/
def State.drains (s : State) (f : FinTile) : Bool := !f.held && !s.staysInBank f

/-- R94: the arrays with a finished tile that waits for the queue. -/
def State.drainers (s : State) (c : Nat) : List Nat := (List.range 32).filter (fun a => (s.array c a).full.any s.drains)

/-- R94: the array whose stall count is highest, the lowest number on a tie. -/
def State.mostStalled (s : State) (c : Nat) (as : List Nat) : Nat :=
  as.foldl (fun best a => if (s.array c best).stalls < (s.array c a).stalls then a else best) (as.headD 0)

/-- R94: one drained tile enters the finished-tile queue, and its bank is free. -/
def State.admitTile (s : State) (c : Nat) : State :=
  let as := s.drainers c
  if as.isEmpty ∨ 8 ≤ (s.cluster c).finished.length then s
  else
    let a := s.mostStalled c as
    match (s.array c a).full.find? s.drains with
    | none => s
    | some f =>
      let s1 := s.onCluster c (fun k => { k with finished := k.finished ++ [f] })
      (s1.setArray c a { s1.array c a with full := (s1.array c a).full.erase f }).feedArrays c

/-- FINISHED_TILE_ADMIT (R94). -/
def execFinishedTileAdmit (c : Fin 32) (s : State) : Host.Outcome State Fault Refusal := .next (s.admitTile c)

/-! ### Epilogues (R132 to R134) -/

/-- What the rows of a tile, or of a group of columns, evaluate a MATMUL's program with. -/
def epilogueEnv (s : State) (st : Started) (w : MatmulWork) (cluster : Nat) (dc : Line) : VecEnv :=
  { prog := w.prog, d := dc, h := handleAt st.cmd 14, streams := epiStreams w.prog, mask := pHandle w.prog 4,
    add := mmAdd st.cmd, w := { field := st.rounding (mmRound st.cmd), cluster := cluster }, seed := s.fresh,
    defer := (descFmt dc).scaled && !descBook dc, split := descBook dc && decide (1 < w.parts) }

/-- The number of a row of C among C's rows. -/
def rowOfC (dc c : Line) (b m : Nat) : Nat := mmMOff c + m + descExt dc 1 * (mmBOff c + b)

/-- The work units that hold one tile of C, and whether one of them has been written (R62, R99). -/
def tileCleared (w : MatmulWork) (u : Nat) : Bool := (look none w.out (u / w.parts)).isSome

/-- R114: the results of a run staged in a cluster's scratchpad until every block of C they fall in is complete; elements of its rows
that are not written are marked. -/
def keepWrites (c : Nat) (w : MatmulWork) (x : VecRun) : MatmulWork :=
  let tag := 2 ^ 34 * (c + 1)
  let o0 := x.rows.foldl (fun o r => r.idxs.foldl (fun o i => put none o i (some (tag + 2 ^ 33))) o) w.out
  let o1 := x.evs.foldl (fun o p => put none o p.1 (some (tag + (toFp32 p.2).code))) o0
  { w with out := x.fills.foldl (fun o p => put none o p.1 (some (tag + 2 ^ 32 + (toFp32 p.2).code))) o1 }

/-- Whether an element of C lies in the extents of a MATMUL. -/
def inExtents (dc c : Line) (i : Nat) : Bool :=
  let (n, m, b) := (coord dc 0 i, coord dc 1 i, coord dc 2 i)
  decide (mmNOff c ≤ n) && decide (n < mmNOff c + mmN c) && decide (mmMOff c ≤ m) && decide (m < mmMOff c + mmM c) &&
    decide (mmBOff c ≤ b) && decide (b < mmBOff c + mmBatch c)

/-- R114: the staged blocks of C, among those of some elements, whose every element is there are converted and written; their frames
are bound by the clusters that ran them (R191). -/
def State.flushStaged (s : State) (q id c : Nat) (idxs : List Nat) : State :=
  match s.startedOf q id with
  | none => s
  | some st =>
    match st.work with
    | .matmul w =>
      let hc := handleAt st.cmd 14
      let dc := s.desc hc
      let blocks := ((idxs.map (fun i => (blockOf dc i).1)).eraseDups).filter (fun b =>
        ((blockElems dc b).filter (inExtents dc st.cmd)).all (fun i => (look none w.out i).isSome))
      let els := (blocks.flatMap (blockElems dc)).filterMap (fun i => (look none w.out i).map (fun x => (i, x)))
      let val := fun (fill : Bool) => els.filterMap (fun e =>
        if !e.2.testBit 33 && e.2.testBit 32 == fill then some (e.1, f32 (e.2 % 2 ^ 32)) else none)
      let s1 := els.foldl (fun s e => s.bindElems hc (e.2 / 2 ^ 34 - 1) [e.1]) s
      let a := s1.writeResults hc { field := st.rounding (mmRound st.cmd), cluster := c } false true false (val false) (val true)
      if els.isEmpty then s
      else (a.s.onMatmul q id (fun w => { w with out := w.out.filter (fun e => !(els.map (·.1)).contains e.1) })).onStarted q id (fun x =>
        { x with flags := x.flags ||| flagWord a.fl, status := if a.bad then worse x.status St.dataPoisoned else x.status })
    | _ => s

/-- What a run of a program leaves in the started command. -/
def State.afterRun (s : State) (q id : Nat) (x : VecRun) (fl : BitVec 32) (bad : Bool) (f : MatmulWork → MatmulWork) : State :=
  let e := if emptyRows x.rows = 0 then 0 else Flag.empty
  (s.onMatmul q id f).onStarted q id (fun st => { st with
    flags := st.flags ||| fl ||| flagWord (x.fl ||| e), status := if bad || x.bad then worse st.status St.dataPoisoned else st.status })

/-- R132: a word of a finished tile as ACC: an FP32 code. For an FP64 split the spec does not say what ACC is: the binary64 result
rounded with RN, without a flag (DESIGN CHOICE, log entry 181). -/
def accCode (cmd : Line) (x : BitVec 64) : Nat :=
  if mmPrec cmd = 2 then (toFp32 (Fmt.fp64.decode x.toNat)).code else x.toNat

/-- R162: a stream or the mask of an epilogue of which some rows need a lost tile. -/
def State.streamLost (s : State) (v : VecEnv) (rows : List Row) : Bool :=
  ((v.mask :: v.streams).filter (· != 0)).any (fun h =>
    s.lostElems h (rows.flatMap (fun r => r.idxs.map (streamIdx (s.desc h) v.d))))

/-- What an epilogue has read before it runs on some rows (R38, R162, R205). -/
def State.enterEpilogue (s : State) (q id : Nat) (v : VecEnv) (rows : List Row) : State :=
  let s1 := s.recordStreams v rows
  if s.streamLost v rows then s1.meet q id St.latentLost else s1

/-- R132: the program run on a finished tile that is not in place; of an FP64 split ACC is rounded to FP32 (DESIGN CHOICE, log entry
181). -/
def State.epilogueTile (s : State) (c : Nat) (f : FinTile) (st : Started) (w : MatmulWork) : State :=
  let cmd := st.cmd
  let p := unitPos cmd w.parts f.tile.unit
  let dc := s.desc (handleAt cmd 14)
  let v := epilogueEnv s st w c dc
  let plain := mmPrec cmd == 2 && v.prog == plainProg true
  let code := fun (i j : Nat) =>
    let x := f.acc.getD (32 * i + j) 0
    if plain then x.toNat else accCode cmd x
  let cols := List.range (unitCols cmd p)
  let rows := (List.range (unitRows cmd p)).map (fun i =>
    s.startRow v (rowOfC dc cmd p.b (32 * p.mt + i)) (cols.map (fun j => elemC dc cmd p.b (32 * p.mt + i) (32 * p.nt + j)))
      (cols.map (code i)))
  if plain then
    let evs := rows.flatMap (fun r => (List.zip r.idxs r.acc).map (fun e => (e.1, Fmt.fp64.decode e.2)))
    let a := s.writeResults v.h v.w false true false evs []
    a.s.afterRun f.tile.q st.id { s := a.s, rows := [], fl := a.fl } f.flags f.poisoned id
  else
    let x := VecRun.run { s := (s.enterEpilogue f.tile.q st.id v rows).drawn, rows := rows } v (!v.split || !tileCleared w f.tile.unit)
    let s1 := (((x.s.writeRowScalars (pHandle w.prog 3) (fun _ => c) (qWritten w.prog) x.rows).countBeats c
      (4 * pPasses w.prog)).bump 0xA02400 (emptyRows x.rows)).bump 0xA02600 (if v.defer && descRed dc != 0 then 1 else 0)
    (s1.afterRun f.tile.q st.id x f.flags f.poisoned (fun w =>
      if v.defer then keepWrites c w x
      else if !v.split then w else { w with out := put none w.out (f.tile.unit / w.parts) (some 1) })).flushStaged f.tile.q st.id c
        (if v.defer then rows.flatMap (·.idxs) else [])

/-- R133: the accumulators of an in-place tile put with the other banks of its rows. -/
def bankTile (w : MatmulWork) (cmd dc : Line) (f : FinTile) : MatmulWork :=
  let p := unitPos cmd w.parts f.tile.unit
  { w with banks := (List.range (unitRows cmd p)).foldl (fun o i => (List.range (unitCols cmd p)).foldl (fun o j =>
      put none o (elemC dc cmd p.b (32 * p.mt + i) (32 * p.nt + j)) (some (accCode cmd (f.acc.getD (32 * i + j) 0)))) o) w.banks }

/-- R133, R134: the column groups of one row of tiles, of at most 1,024 columns: first column and length. -/
def columnGroups (c : Line) : List (Nat × Nat) :=
  (List.range (ceilDiv (mmN c) 1024)).map (fun g => (1024 * g, min 1024 (mmN c - 1024 * g)))

/-- The elements of C in row `m` of batch `b`, of a column group. -/
def groupRow (dc c : Line) (b m : Nat) (g : Nat × Nat) : List Nat :=
  (List.range g.2).map (fun j => elemC dc c b m (g.1 + j))

/-- R134: a row of a later group starts from Q0–Q3 as the row tensor holds them. -/
def State.carryRow (s : State) (row : Nat) (r : Row) : Row :=
  match s.tensor row with
  | some t => { r with q := (List.range 4).map (fun n => s.rdCode t.desc 0 (4 * r.number + n)) }
  | none => r

/-- R133, R134: one group of columns of an M range run in place; its banks are converted into C. Under row carry a row of a group is
taken as a row of its own, so a group whose columns are all masked is an empty row (R129) though others of its row are not (DESIGN
CHOICE, log entry 183). -/
def State.runGroup (s : State) (q : Nat) (st : Started) (w : MatmulWork) (c b mt : Nat) (g : Nat × Nat) : State :=
  let cmd := st.cmd
  let dc := s.desc (handleAt cmd 14)
  let v := epilogueEnv s st w c dc
  let ms := (List.range (min 32 (mmM cmd - 32 * mt))).map (32 * mt + ·)
  let row := pHandle w.prog 3
  let rows := ms.map (fun m =>
    let idxs := groupRow dc cmd b m g
    let r := s.startRow v (rowOfC dc cmd b m) idxs (idxs.map (fun i => (look none w.banks i).getD 0))
    if pCarry w.prog && g.1 != 0 then s.carryRow row r else r)
  let x0 := VecRun.run { s := (s.enterEpilogue q st.id v rows).drawn, rows := rows } v true
  let banked := (pAll w.prog).any (fun y => wWrite y.2 == 2)
  let evs := if banked then x0.rows.flatMap (fun r =>
    ((List.zip r.idxs (List.zip r.act r.acc)).filter (fun e => e.2.1)).map (fun e => (e.1, f32 e.2.2))) else []
  let fills := if banked then fillsOf v x0.rows else []
  let a : Acc := if v.defer || !banked then ⟨x0.s, 0, false⟩
    else x0.s.writeResults v.h v.w v.add (!v.add) false evs fills
  let x := { x0 with s := a.s, fl := x0.fl ||| a.fl, bad := x0.bad || a.bad,
                     evs := if v.defer then x0.evs ++ evs else [], fills := if v.defer then x0.fills ++ fills else [] }
  let qs := if pCarry w.prog then [0, 1, 2, 3] else qWritten w.prog
  let s1 := (((x.s.writeRowScalars row (fun _ => c) qs x.rows).countBeats c
    (pPasses w.prog * beatsPerPass (pPacked w.prog) g.2 rows.length)).bump 0xA02400 (emptyRows x.rows)).bump 0xA02600
      (if v.defer && descRed dc != 0 then 1 else 0)
  let used := rows.flatMap (·.idxs)
  (s1.afterRun q st.id x 0 false (fun w =>
    let w1 := if v.defer then keepWrites c w x else w
    { w1 with banks := w1.banks.filter (fun e => !used.contains e.1) })).flushStaged q st.id c (if v.defer then used else [])

/-- R134: whether another started command that carries into the same row tensor, and arrived earlier, still runs. -/
def State.carryBehind (s : State) (q : Nat) (st : Started) (w : MatmulWork) : Bool :=
  pCarry w.prog && s.queues.any (fun e => e.2.started.any (fun x => match x.work with
    | .matmul y => !x.done && pCarry y.prog && pHandle y.prog 3 == pHandle w.prog 3 &&
        (decide (x.since < st.since) || (x.since == st.since && decide (e.1 < q)) || (e.1 == q && decide (x.id < st.id)))
    | _ => false))

/-- R114: the work of a finished MATMUL is over; its results are all in C. -/
def State.closeMatmul (s : State) (q : Nat) (st : Started) : State :=
  ((if st.covers.isEmpty then s else s.coverTensor (handleAt st.cmd 14)).dropFetches q st.id).onStarted q st.id (fun x =>
    { x with done := true, work := .none })

/-- More units of a MATMUL are finished at a cluster; their working pages are free; the last unit ends the command's work. -/
def State.unitsDone (s : State) (q id c n : Nat) : State :=
  let s1 := (s.onMatmul q id (fun w => { w with finished := w.finished + n })).onCluster c (fun k =>
    { k with workPages := k.workPages - n })
  let s2 := s1.onRegion c (fun r => { r with idleSince := s.now })
  match s2.startedOf q id with
  | none => s2
  | some st => match st.work with
    | .matmul w => if w.finished = w.total then s2.closeMatmul q st else s2
    | _ => s2

/-- The mark of a group of columns of an M range that has run. -/
def groupMark (c : Line) (b mt : Nat) (g : Nat × Nat) : Nat := 2 ^ 48 + (b * mTiles c + mt) * 2 ^ 24 + g.1

/-- R95, R133: the banks of a cluster that hold a group which has run are released: their tiles leave the arrays. -/
def State.releaseBanks (s : State) (q c : Nat) (st : Started) (b mt : Nat) (g : Nat × Nat) : State :=
  let ran := fun (f : FinTile) => f.held && f.tile.q == q && f.tile.id == st.id &&
    (let p := unitPos st.cmd 1 f.tile.unit
     p.b == b && p.mt == mt && p.nt / 32 == g.1 / 1024)
  ((List.range 32).foldl (fun s a => let x := s.array c a
    if x.full.any ran then s.setArray c a { x with full := x.full.filter (fun f => !ran f) } else s) s).feedArrays c

/-- R133, R134: the groups of an M range whose tiles are all in their banks run at cluster `c`, in column order; their tiles are then
finished. A group runs once; an earlier group that has not run holds back the later ones. -/
def State.runGroups (s : State) (q id c b mt : Nat) (groups : List (Nat × Nat)) : State :=
  match groups with
  | [] => s
  | g :: gs =>
    match s.startedOf q id with
    | none => s
    | some st =>
      match st.work with
      | .matmul w =>
        let dc := s.desc (handleAt st.cmd 14)
        let firstRow := groupRow dc st.cmd b (32 * mt) g
        let here := firstRow.filter (fun i => (look none w.banks i).isSome)
        if (look none w.out (groupMark st.cmd b mt g)).isSome then s.runGroups q id c b mt gs
        else if here.length = firstRow.length && !s.carryBehind q st w then
          let s1 := (s.runGroup q st w c b mt g).onMatmul q id (fun w =>
            { w with out := put none w.out (groupMark st.cmd b mt g) (some 1) })
          ((s1.releaseBanks q c st b mt g).unitsDone q id c (ceilDiv g.2 32)).runGroups q id c b mt gs
        else s
      | _ => s

/-- R133: an in-place tile is put with the others of its rows, and the groups that are complete run. -/
def State.takeInPlace (s : State) (c : Nat) (f : FinTile) (st : Started) (w : MatmulWork) : State :=
  let (q, id) := (f.tile.q, f.tile.id)
  let p := unitPos st.cmd w.parts f.tile.unit
  let s1 := ((s.onMatmul q id (fun w => bankTile w st.cmd (s.desc (handleAt st.cmd 14)) f)).onStarted q id (fun x => { x with
    flags := x.flags ||| f.flags, status := if f.poisoned then worse x.status St.dataPoisoned else x.status }))
  s1.runGroups q id c p.b p.mt (columnGroups st.cmd)

/-- R99: parts of K that wait for the others of their tile are merged pairwise once all are there, in an order the scheduler
chooses (R92). -/
def mergeTile (seed : Nat) (wide : Bool) (fs : List FinTile) (last : FinTile) : FinTile :=
  let xs := shuffle seed fs.length fs
  let ms := (List.range 1024).map (fun i => mergeParts wide (xs.map (fun f => (f.acc.getD i 0).toNat)))
  { last with acc := ms.map (fun m => BitVec.ofNat 64 m.1), poisoned := fs.any (·.poisoned),
              flags := fs.foldl (fun b f => b ||| f.flags) (flagWord (ms.foldl (fun b m => b ||| m.2) 0)) }

/-- R99, R132, R133: the vector engine takes one finished tile from the queue. -/
def State.takeFinished (s : State) (c : Nat) (f : FinTile) : State :=
  let (q, id) := (f.tile.q, f.tile.id)
  match s.tileJob f.tile with
  | none => s.onCluster c (fun k => { k with workPages := k.workPages - 1 })
  | some (st, w) =>
    let s := s.passOperands c f.tile true
    if w.inPlace then s.takeInPlace c f st w
    else if w.parts = 1 || descBook (s.desc (handleAt st.cmd 14)) then (s.epilogueTile c f st w).unitsDone q id c 1
    else
      let mine := w.parked.filter (fun x => x.tile.unit / w.parts == f.tile.unit / w.parts) ++ [f]
      if mine.length < w.parts then
        (s.onMatmul q id (fun w => { w with parked := w.parked ++ [f] })).unitsDone q id c 1
      else
        let s1 := s.onMatmul q id (fun w => { w with
          parked := w.parked.filter (fun x => x.tile.unit / w.parts != f.tile.unit / w.parts) })
        (s1.drawn.epilogueTile c (mergeTile s.fresh (mmPrec st.cmd == 2) mine f) st w).unitsDone q id c 1

/-- R95: the vector engine works on an in-place tile in its bank, which it holds until the tile's group has run. -/
def State.holdBank (s : State) (c a : Nat) (f : FinTile) : State :=
  match s.tileJob f.tile with
  | none => (s.setArray c a { s.array c a with full := (s.array c a).full.erase f }).feedArrays c
  | some (st, w) =>
    let s1 := s.setArray c a { s.array c a with full := (s.array c a).full.map (fun x => if x = f then { x with held := true } else x) }
    (s1.passOperands c f.tile true).takeInPlace c f st w

/-- The MATMULs that carry row scalars, row range by row range, of those that run at a cluster: queue, command, batch, M range, groups. -/
def State.readyCarries (s : State) (c : Nat) : List (Nat × Nat × Nat × Nat × List (Nat × Nat)) :=
  s.queues.flatMap (fun e => e.2.started.flatMap (fun st => match st.work with
    | .matmul w => if pCarry w.prog && !w.banks.isEmpty then
        ((List.range (mmBatch st.cmd)).flatMap (fun b => (List.range (mTiles st.cmd)).map (fun mt =>
          (e.1, st.id, b, mt, columnGroups st.cmd)))).filter (fun x =>
            look none w.homes (x.2.2.1 * mTiles st.cmd + x.2.2.2.1) == some c)
      else []
    | _ => []))

/-- The elements of C that the epilogue of a tile writes: the tile's, or in place those of its rows' group (R133). -/
def tileElems (dc cmd : Line) (w : MatmulWork) (p : UnitPos) : List Nat :=
  let rows := (List.range (min 32 (mmM cmd - 32 * p.mt))).map (32 * p.mt + ·)
  let g := if w.inPlace then (p.nt / 32 * 1024, min 1024 (mmN cmd - p.nt / 32 * 1024)) else (32 * p.nt, min 32 (mmN cmd - 32 * p.nt))
  rows.flatMap (fun m => groupRow dc cmd p.b m g)

/-- R114, R192: pages that a cluster must still find to stage the results of more elements of C. -/
def stageNeed (w : MatmulWork) (c n : Nat) : Nat :=
  ceilDiv (4 * (stagedOn w.out c + n)) 0x10000 - ceilDiv (4 * stagedOn w.out c) 0x10000

/-- The waits of an epilogue end; that for a page is counted (R192). -/
def State.endEpilogueHolds (s : State) (q : Nat) (st : Started) (w : MatmulWork) : State :=
  let s1 := s.endHolds q st
  match w.pageSince with
  | some a => (s1.surge 0xA04700 a).onMatmul q st.id (fun w => { w with pageSince := none })
  | none => s1

/-- What holds the epilogue of a tile at cluster `c`, with the wait begun: staged or unfetched inputs (R70, R113, R194), a critical
package (R227), a barrier over its outputs (R332), no staging frame for its contributions (R69), no page to stage its results (R192);
false when nothing does, its waits counted. A command whose package is out of service ends (R229). -/
def State.holdEpilogue (s : State) (c : Nat) (t : Tile) : State × Bool :=
  match s.tileJob t with
  | none => (s, false)
  | some (st, w) =>
    let hc := handleAt st.cmd 14
    let dc := s.desc hc
    let outs := hc :: (epiNamed w.prog [3]).map (·.2)
    let ins := (epiNamed w.prog [0, 1, 2, 4]).map (·.2)
    let v := epilogueEnv s st w c dc
    let els := tileElems dc st.cmd w (unitPos st.cmd w.parts t.unit)
    let stop := s.engineStop ins outs
    if s.epilogueHeld t then (s, true)
    else if stop = St.memoryOffline ∨ stop = St.memoryCritical then (s.matmulEnds t.q st stop, false)
    else if s.memoryWaits (ins ++ outs) then (s.beginHot t.q st.id, true)
    else if outs.any s.tensorBarred then (s.barAct t.q st outs, true)
    else if s.stageHeld hc (((els.filter (fun i => s.active v i || (pFill w.prog && !v.add))).map (fun i => (blockOf dc i).1)).eraseDups) then
      (s.beginStaging t.q st.id, true)
    else if s.ingressHold (hc :: ins) [(hc, els)] ≠ 0 then (s.beginIngress t.q st.id (s.ingressHold (hc :: ins) [(hc, els)]), true)
    else if v.defer && decide (s.pagesLeft c < stageNeed w c els.length) then
      (s.onMatmul t.q st.id (fun w => { w with pageSince := some (w.pageSince.getD s.now) }), true)
    else (s.endEpilogueHolds t.q st w, false)

/-- R134: groups that waited for a command ahead of theirs run at the cluster of their row, where it is over and nothing holds them. -/
def State.retryGroups (s : State) (c : Nat) : State :=
  (s.readyCarries c).foldl (fun s x =>
    match s.startedOf x.1 x.2.1 with
    | none => s
    | some st => match st.work with
      | .matmul w =>
        (match x.2.2.2.2.find? (fun g => (look none w.out (groupMark st.cmd x.2.2.1 x.2.2.2.1 g)).isNone) with
          | none => s
          | some g =>
            let t : Tile := {
              q := x.1, id := x.2.1, unit := (x.2.2.1 * mTiles st.cmd + x.2.2.2.1) * nTiles st.cmd + g.1 / 32, since := st.since }
            let r := s.holdEpilogue c t
            if r.2 then r.1 else r.1.runGroups x.1 x.2.1 c x.2.2.1 x.2.2.2.1 x.2.2.2.2)
      | _ => s) s

/-- R94, R95: the tile the vector engine takes next: the oldest of the finished-tile queue, else one in its bank. -/
def State.runEpilogue (s : State) (c : Nat) : State :=
  if !s.regionRuns c then s
  else match (s.cluster c).finished with
    | f :: rest =>
      let r := s.holdEpilogue c f.tile
      if r.2 then r.1 else (r.1.onCluster c (fun k => { k with finished := rest })).takeFinished c f
    | [] =>
      let next := (List.range 32).findSome? (fun a => ((s.array c a).full.find? (fun f =>
        !f.held && s.staysInBank f && !s.epilogueHeld f.tile)).map (fun f => (a, f)))
      match next with
      | some x =>
        let r := s.holdEpilogue c x.2.tile
        if r.2 then r.1 else r.1.holdBank c x.1 x.2
      | none => s.retryGroups c

/-- R422: the entry at the head of the finished-tile queue fails its parity when it is read. -/
def State.failHead (s : State) (c e : Nat) : State :=
  match (s.cluster c).finished with
  | f :: rest =>
    if (s.holdEpilogue c f.tile).2 then s
    else (s.onCluster c (fun k => { k with finished := s.failParity f e :: rest })).parityRecord 2 1 c 0
  | [] => s

/-- EPILOGUE (R94, R95, R132 to R134); a word of the queue's head whose parity fails (R422). -/
def execEpilogue (c : TileTaken) (s : State) : Host.Outcome State Fault Refusal :=
  .next (match c.parity with
    | some e => (if s.regionRuns c.cluster then s.failHead c.cluster e else s).runEpilogue c.cluster
    | none => s.runEpilogue c.cluster)

/-! ### Pages (R192) -/

/-- The tile of a page wait. -/
def State.waitingTile (s : State) (w : Waiter) : Tile :=
  let t : Tile := { q := w.source, id := w.id, unit := w.unit, since := w.since }
  { t with cost := (s.tileJob t).elim 0 (fun j => s.unitCost j.1.cmd j.2.parts w.unit) }

/-- R192: the oldest tile that waits for a page takes one; its wait is counted. -/
def State.grantPage (s : State) (c : Nat) : State :=
  let k := s.cluster c
  match k.pageWait with
  | [] => s
  | w :: rest =>
    if 0 < s.pagesLeft c then
      ((s.surge 0xA04700 w.since).setCluster c { k with
        pageWait := rest, workPages := k.workPages + 1, slots := k.slots ++ [s.waitingTile w] }).feedArrays c
    else s

/-- SCRATCH_PAGE_GRANT (R192). -/
def execScratchPageGrant (c : Fin 32) (t : Nat) (s : State) : Host.Outcome State Fault Refusal :=
  .next ((s.tick t).grantPage c)

end Sys2Proof.Machine
end

