-- ==== Sys2Proof/Machine/Update.lean ====
section
/-!
DEFINITION. The UPDATE command (R142 to R151), its action on the final verdict (R156) and the tee to the twin (R158).
-/

namespace Sys2Proof.Machine

/-! ### Program entry (R145) -/

def upCount (p : BitVec 1024) : Nat := bitsAt p 0 0 5
def upWord (p : BitVec 1024) (k : Nat) : Nat := fld p (8 + 4 * k) 4
def uOp (w : Nat) : Nat := w % 64
def uDst (w : Nat) : Nat := w / 2 ^ 6 % 32
def uA (w : Nat) : Nat := w / 2 ^ 11 % 32
def uB (w : Nat) : Nat := w / 2 ^ 16 % 32
def uC (w : Nat) : Nat := w / 2 ^ 21 % 32

/-- R145: whether an opcode uses sources b and c; none for an unknown opcode. -/
def uUses (op : Nat) : Option (Bool × Bool) :=
  if op = 0x04 ∨ op = 0x0D then some (true, true)
  else if op = 0x0C then some (false, true)
  else if op = 0x01 ∨ op = 0x02 ∨ op = 0x03 ∨ op = 0x05 ∨ op = 0x08 ∨ op = 0x09 then some (true, false)
  else if op = 0x06 ∨ op = 0x07 ∨ op = 0x0A ∨ op = 0x0B ∨ op = 0x10 then some (false, false)
  else none

/-- The operations of a program with their numbers. -/
def upAll (p : BitVec 1024) : List (Nat × Nat) := (List.range (min 24 (upCount p))).map (fun k => (k, upWord p k))

/-- The sources an operation uses. -/
def uSources (w : Nat) : List Nat :=
  match uUses (uOp w) with
  | some (b, c) => uA w :: (if b then [uB w] else []) ++ (if c then [uC w] else [])
  | none => []

/-- R145: the tensor destinations: W, M1, M2, C1, C2, with the byte of their handle in the command. -/
def storeHandles : List (Nat × Nat) := [(0x08, 8), (0x0A, 14), (0x0B, 17), (0x0E, 20), (0x0F, 23)]

/-- R147: whether source `x` of operation `k` is wrong. -/
def upSourceBad (c : Line) (feedback : Bool) (p : BitVec 1024) (k x : Nat) : Bool :=
  x == 0x0F || (decide (x < 8) && !(upAll p).any (fun y => decide (y.1 < k) && uDst y.2 == x && uOp y.2 != 0x10)) ||
  (x == 0x0A && handleAt c 14 == 0) || (x == 0x0B && handleAt c 17 == 0) || (x == 0x0C && !feedback)

/-- R146, R147: whether operation `k` fails the check. -/
def upOpBad (c : Line) (feedback : Bool) (p : BitVec 1024) (k : Nat) : Bool :=
  let w := upWord p k
  let d := uDst w
  match uUses (uOp w) with
  | none => true
  | some (b, cc) =>
    decide (2 ^ 26 ≤ w) || (!b && uB w != 0) || (!cc && uC w != 0) || (uSources w).any (upSourceBad c feedback p k) ||
    (if uOp w = 0x10 then
      (match storeHandles.find? (fun h => h.1 == d) with
        | some h => handleAt c h.2 == 0
        | none => true) ||
      (upAll p).any (fun y => decide (y.1 < k) && uOp y.2 == 0x10 && uDst y.2 == d)
     else decide (8 ≤ d))

/-- R147: the operation a program fails its check at, if any; a reserved field that is not 0 is one of R147's failures, where R14
names RESERVED_SET (DEDUCED, log entry 141). A failure of no one operation names operation 0, a handle never stored the last
operation (DESIGN CHOICE, log entry 147). -/
def upFail (c : Line) (feedback : Bool) (p : BitVec 1024) : Option Nat :=
  if upCount p = 0 ∨ 24 < upCount p ∨ bitsAt p 0 5 3 ≠ 0 ∨ fld p 1 7 ≠ 0 ∨ fld p 104 24 ≠ 0 then some 0
  else
    match (upAll p).find? (fun x => upOpBad c feedback p x.1) with
    | some x => some x.1
    | none =>
      if storeHandles.any (fun h => handleAt c h.2 != 0 && !(upAll p).any (fun y => uOp y.2 == 0x10 && uDst y.2 == h.1)) then
        some (upCount p - 1)
      else none

/-- R145: the program an UPDATE names, or what stops it. -/
def State.fetchUpdate (s : State) (index : Nat) : BitVec 1024 × Option Fail :=
  if index = 0 ∨ s.dv 0xA03100 ≤ index then (0, some { st := St.fieldRange, byte := 26, value := index })
  else
    let a := s.dv 0xA03000 + 128 * index
    let st := s.memStatus a 128 .command false
    if st ≠ 0 then (0, some (s.rangeFail st a 128 26 index false))
    else if s.badRange a 128 then (0, some { st := St.dataPoisoned, byte := 26, addr := a, value := index })
    else (BitVec.ofNat 1024 (s.rdNat a 128), none)

/-! ### Checks (R143, R144) -/

def updateReserved : List (Nat × Nat × Nat) := [(28, 4, 4), (29, 0, 24), (44, 0, 160)]

/-- R144: the formats of the operands, by handle byte. -/
def updateFormats (s : State) (c : Line) : Option Fail :=
  let bad := fun (byte : Nat) (ok : Line → Bool) =>
    let h := handleAt c byte
    failIf (h != 0 && !ok (s.desc h)) { st := St.formatPair, byte := byte, handle := h, value := h }
  let moment := fun (d : Line) => (descFmtCode d == 1 || descFmtCode d == 2) && !descBook d
  firstFail [
    bad 8 (fun d => descFmtCode d == 3), bad 14 moment, bad 17 moment,
    bad 11 (fun d => descFmtCode d == 1 || descFmtCode d == 2 || descFmtCode d == 3 || descFmtCode d == 5),
    bad 20 (fun d => decide (descFmtCode d ≤ 4)), bad 23 (fun d => decide (descFmtCode d ≤ 4)) ]

/-- Whether two tensors have the same shape. -/
def sameShape (x d : Line) : Bool := (List.range 5).all (fun k => descExt x k == descExt d k)

/-- R144: shapes, axes and distinctness. -/
def updateShapes (s : State) (c : Line) : Option Fail :=
  let ops := namedAt c [8, 11, 14, 17, 20, 23]
  let dw := s.desc (handleAt c 8)
  let scaled := ops.filter (fun p => (descFmt (s.desc p.2)).scaled)
  let copies := namedAt c [20, 23]
  firstFail [
    (ops.find? (fun p => !sameShape (s.desc p.2) dw)).map (fun p => { st := St.shapeMismatch, byte := p.1, handle := p.2, value := p.2 }),
    (match scaled with
      | [] => none
      | x :: xs => (xs.find? (fun p => descRed (s.desc p.2) != descRed (s.desc x.2))).map (fun p =>
          { st := St.scaleAxis, byte := p.1, handle := p.2, value := descRed (s.desc p.2) })),
    (copies.find? (fun p => (handlesAt c [8, 11, 14, 17]).contains p.2 || (p.1 == 23 && handleAt c 20 == p.2))).map (fun p =>
      { st := St.shapeMismatch, byte := p.1, handle := p.2, value := p.2 }) ]

/-- R144, R146, R175: the residual a program reads: the feedback plane of G's tensor, where an operation names source R. -/
def State.residualRead (s : State) (c : Line) (p : BitVec 1024) : List (Nat × Nat) :=
  let d := s.desc (handleAt c 11)
  if descFeedback d && (upAll p).any (fun y => (uSources y.2).contains 0x0C) then [(11, descResidual d)] else []

/-- R142 to R147, R155, R175, R335: what stops an UPDATE. -/
def State.updateFail (s : State) (q : Nat) (c : Line) : Option Fail :=
  let ins := namedAt c [8, 11, 14, 17]
  let outs := namedAt c [8, 14, 17, 20, 23]
  let prog := s.fetchUpdate (fld c 26 2)
  firstFail [
    s.headerFail q c updateReserved,
    failIf (bitsAt c 28 0 2 == 3) { st := St.reservedSet, byte := 28, value := 3 },
    s.neededFail c [8, 11], s.liveFail c [14, 17, 20, 23],
    s.suspectFail (ins ++ s.residualRead c prog.1), s.lostFail (ins ++ s.residualRead c prog.1), s.outputFail outs, s.verdictFail outs,
    failIf (fld c 32 8 % 64 != 0) { st := St.misaligned, byte := 32, addr := fld c 32 8, value := fld c 32 8 },
    failIf (fld c 40 4 != s.dv 0xA03200 % 2 ^ 32) { st := St.stepMismatch, byte := 40, value := fld c 40 4 },
    failIf s.step.overdue { st := St.sheetOverdue, named := false },
    updateFormats s c, updateShapes s c,
    prog.2,
    (upFail c (descFeedback (s.desc (handleAt c 11))) prog.1).map (fun k => { st := St.updateProgramInvalid, byte := 26, value := k }),
    s.memoryFail ins outs ]

/-! ### Elements (R142, R145, R146, R150) -/

/-- What an UPDATE evaluates its program with: program, command, scalars L0–L15 (FP32 codes), draw. -/
structure UpEnv where
  prog : BitVec 1024
  c : Line
  scalars : List Nat
  seed : Nat

/-- R145: the value of one operation. -/
def upRes (op : Nat) (a b c : Val) (seed pos : Nat) : Res :=
  let via := fun (v : Nat) => vecOp v a b c seed pos
  if op ≤ 0x04 then via op
  else if op = 0x05 then via 0x10
  else if op = 0x06 then via 0x12
  else if op = 0x07 then via 0x13
  else if op = 0x08 then via 0x05
  else if op = 0x09 then via 0x06
  else if op = 0x0A then via 0x07
  else if op = 0x0B then
    let v := match a with
      | .nan => .nan
      | x => if x.isZero then x else .fin x.isNeg 1 0
    (⟨v, 0⟩ : Res).read [a]
  else if op = 0x0C then
    let v := match a, c with
      | .nan, _ => .nan
      | _, .nan => .nan
      | x, y => if Val.lt y.abs x.abs then (if x.isNeg then y.abs.neg else y.abs) else x
    (⟨v, 0⟩ : Res).read [a, c]
  else if op = 0x0D then
    let d := vecOp 0x02 b a .zero seed pos
    let r := vecOp 0x04 c d.v a seed pos
    ⟨r.v, d.fl ||| r.fl⟩
  else (⟨a, 0⟩ : Res).read [a]

/-- R145: a source of an element; temporaries as they stand. -/
def State.upSource (s : State) (u : UpEnv) (temps : List Val) (idx x : Nat) : Read :=
  let elem := fun (h : Nat) => match s.tensor h with
    | none => (⟨.zero, 0, false⟩ : Read)
    | some t => let e := s.rdElem t (s.readPlane t) idx; ⟨e.v, e.fl, e.bad⟩
  if x < 8 then ⟨temps.getD x .zero, 0, false⟩
  else if x = 0x08 then elem (handleAt u.c 8)
  else if x = 0x09 then elem (handleAt u.c 11)
  else if x = 0x0A then elem (handleAt u.c 14)
  else if x = 0x0B then elem (handleAt u.c 17)
  else if x = 0x0C then elem (descResidual (s.desc (handleAt u.c 11)))
  else if x = 0x0D then ⟨.zero, 0, false⟩
  else if x = 0x0E then ⟨.fin false 1 0, 0, false⟩
  else let v := f32 (u.scalars.getD (x - 16) 0); ⟨v, v.nf, false⟩

/-- One element's run: temporaries, stores by destination, flags, poison met. -/
structure UpElem where
  temps : List Val
  stores : List (Nat × Val) := []
  fl : Nat := 0
  bad : Bool := false

/-- R146: the operations of an element, in order. -/
def State.upElem (s : State) (u : UpEnv) (idx : Nat) : UpElem :=
  (upAll u.prog).foldl (fun e k =>
    let w := k.2
    let (ub, uc) := (uUses (uOp w)).getD (false, false)
    let a := s.upSource u e.temps idx (uA w)
    let b := if ub then s.upSource u e.temps idx (uB w) else ⟨.zero, 0, false⟩
    let c := if uc then s.upSource u e.temps idx (uC w) else ⟨.zero, 0, false⟩
    let r := upRes (uOp w) a.v b.v c.v u.seed (32 * idx + k.1)
    { temps := if uOp w = 0x10 then e.temps else e.temps.set (uDst w) r.v,
      stores := if uOp w = 0x10 then e.stores ++ [(uDst w, a.v)] else e.stores,
      fl := e.fl ||| r.fl ||| a.fl ||| b.fl ||| c.fl, bad := e.bad || a.bad || b.bad || c.bad })
    { temps := List.replicate 8 .zero }

/-- R150: whether an element is guarded. -/
def UpElem.guarded (e : UpElem) : Bool := e.stores.any (fun p => !p.2.isFinite)

/-- R150: the value an element writes to a destination: its result, or the kept input where it is guarded. -/
def State.upValue (s : State) (c : Line) (idx dst : Nat) (e : UpElem) : Val :=
  if e.guarded then
    let src := if dst = 0x0A then handleAt c 14 else if dst = 0x0B then handleAt c 17 else handleAt c 8
    match s.tensor src with
    | some t => (s.rdElem t 0 idx).v
    | none => .zero
  else ((e.stores.find? (fun p => p.1 == dst)).map (·.2)).getD .zero

/-! ### The tee (R158) -/

/-- R158: the update unit's writes of a mirrored tensor teed to the twin: scale and state arrays; with class whole the data, the
whole scale plane and the outlier store too. -/
def State.teeTensor (s : State) (h : Nat) : State :=
  match s.tensor h with
  | none => s
  | some t =>
    let d := t.desc
    if descMirror d = 0 || !s.paired then s
    else
      let arrays := planeArrays d
      let which := if descMirror d = 2 then [0, 1, 2, 3, 4, 5] else [0, 1]
      let s1 := if descMirror d = 2 then
          (List.range (ceilDiv (descBytes d) (mapUnit d))).foldl (fun s i =>
            match s.dataAddr d (i * mapUnit d) with
            | some a => s.teeRange a (min (mapUnit d) (descBytes d - i * mapUnit d))
            | none => s) (if descClass d = 3 then s else s.teeRange (descLoc d) (8 * mapLen d (descBytes d)))
        else s
      if (descFmt d).scaled then
        which.foldl (fun s k => if arrays.getD k 0 = 0 then s else s.teeRange (s.arr (descHdr d) k) (arrays.getD k 0)) s1
      else s1

/-! ### The action (R148 to R150, R156) -/

/-- R148: the shared reduction dimension of an UPDATE's block-scaled operands; 0 where it has none. -/
def State.upDim (s : State) (c : Line) : Nat :=
  (((handlesAt c [8, 11, 14, 17, 20, 23]).map s.desc).find? (fun d => (descFmt d).scaled)).elim 0 descRed

/-- R148: the runs of 128 along that dimension: how many, and the elements of run `k`. -/
def State.upRuns (s : State) (c : Line) : Nat :=
  let d := s.desc (handleAt c 8)
  let x := descExt d (s.upDim c)
  descElems d / x * ceilDiv x 128
def State.upRun (s : State) (c : Line) (k : Nat) : List Nat :=
  let d := s.desc (handleAt c 8)
  let x := descExt d (s.upDim c)
  let st := descStride d (s.upDim c)
  let o := k / ceilDiv x 128
  let k0 := k % ceilDiv x 128 * 128
  (List.range (min 128 (x - k0))).map (fun p => o % st + (k0 + p) * st + o / st * (st * x))

/-- R38, R146, R150: the tensors an UPDATE reads: those its operations name as sources, and what a guarded element keeps. -/
def State.upReads (s : State) (c : Line) (prog : BitVec 1024) (guards : Bool) : List Nat :=
  let used := fun (x : Nat) => (upAll prog).any (fun y => (uSources y.2).contains x)
  ([(0x08, handleAt c 8, guards), (0x09, handleAt c 11, false), (0x0A, handleAt c 14, guards), (0x0B, handleAt c 17, guards),
    (0x0C, descResidual (s.desc (handleAt c 11)), false)].filter (fun (x : Nat × Nat × Bool) => x.2.1 != 0 && (x.2.2 || used x.1))).map (·.2.1)

/-- R148 to R150: every element read, computed and written; a guarded element's plain W stays as it is, and its guard raises nothing
in the verdict latch. -/
def State.applyUpdate' (s : State) (q : Nat) (st : Started) (prog : BitVec 1024) (shares : List Share) : State :=
  let (id, c, cluster) := (st.id, st.cmd, st.work.mainCluster)
  let u : UpEnv := {
    prog := prog, c := c, scalars := (List.range 16).map (fun k => s.rdNat (fld c 32 8 + 4 * k) 4), seed := s.fresh }
  let idxs := List.range (descElems (s.desc (handleAt c 8)))
  let es := idxs.map (fun i => (i, s.upElem u i))
  let guarded := (es.filter (fun e => e.2.guarded)).map (·.1)
  let s0 := shares.foldl (fun s x => (handlesAt c [8, 14, 17, 20, 23]).foldl (fun s h =>
      s.bindElems h x.cluster (x.parts.flatMap (s.upRun c))) s)
    ((s.upReads c prog (!guarded.isEmpty)).foldl (fun s h => s.takeElems h 3 idxs) s.drawn)
  let write := fun (a : Acc) (d : Nat × Nat) =>
    let h := handleAt c d.2
    if h = 0 then a
    else
      let state := d.1 == 0x08 || d.1 == 0x0A || d.1 == 0x0B
      let vals := (es.filter (fun e => !e.2.guarded || d.1 != 0x08)).map (fun e => (e.1, s.upValue c e.1 d.1 e.2))
      let r := a.s.writeResults h { field := st.rounding (bitsAt c 28 0 2), sr := state, fixer := true, cluster := cluster } false true false
        (vals.filter (fun v => !guarded.contains v.1)) (vals.filter (fun v => guarded.contains v.1))
      ⟨(r.s.coverTensor h).teeTensor h, a.fl ||| r.fl, a.bad || r.bad⟩
  let a := storeHandles.foldl write ⟨s0, es.foldl (fun f e => f ||| e.2.fl) 0, es.any (fun e => e.2.bad)⟩
  let open' := es.foldl (fun f e => if e.2.guarded then f else f ||| e.2.fl) 0
  let latched := (handlesAt c [8, 14, 17, 20, 23]).foldl (fun s h => s.latchVerdict h open') a.s
  let s1 := ((latched.bump 0xA03600 guarded.length).relieveShares st.work).teeRun
  let fl := a.fl ||| (if guarded.isEmpty then 0 else Flag.nonFinite)
  s1.onStarted q id (fun st => { st with
    done := s1.twin.tees.isEmpty, teeing := !s1.twin.tees.isEmpty, flags := st.flags ||| flagWord fl, work := .none,
    status := worse (if guarded.isEmpty then st.status else worse st.status St.elementsGuarded)
      (if a.bad then St.dataPoisoned else 0) })

/-- R156: whether the verdict of the step is final for an UPDATE. -/
def State.verdictFinal (s : State) (c : Line) : Bool := bitAt c 28 3 || s.step.final

/-- R156: NF or VOID of the verdict that an UPDATE acts on; one with the local-verdict bit acted on its latch at its start. -/
def State.verdictSkips (s : State) (c : Line) : Bool := !bitAt c 28 3 && (s.step.fold.nf || s.step.fold.void)

/-- R156: whether a verdict collective of the step has not completed, for an UPDATE that needs them all. -/
def State.verdictOpen (s : State) (c : Line) : Bool :=
  !bitAt c 28 3 && s.collectives.any (fun x => x.verdict && x.shard.tag == BitVec.ofNat 32 (s.dv 0xA03200))

/-- R151, R158: whether the action waits: its shares' grants and regions, staged inputs, or a tee that has fallen behind. -/
def State.updateHeld (s : State) (q : Nat) (st : Started) : Bool :=
  !s.twin.tees.isEmpty || !st.work.shares.all (fun x => x.granted && s.regionRuns x.cluster) ||
    (handlesAt st.cmd [11]).any s.anyStaged || s.segmentsOpen q st (handlesAt st.cmd [11])

/-- R69: whether a narrow copy in book mode must wait for a staging frame. -/
def State.updateStages (s : State) (c : Line) : Bool :=
  (handlesAt c [20, 23]).any (fun h => s.stageHeld h (List.range (blockCount (s.desc h))))

/-- R217, R222: the counter to which an UPDATE's requests wait now, or 0. -/
def State.updateIngress (s : State) (c : Line) : Nat :=
  s.ingressHold (handlesAt c [8, 11, 14, 17, 20, 23]) ((handlesAt c [20, 23]).map (fun h => (h, List.range (descElems (s.desc h)))))

/-- R156: the wait for the verdict is counted once it is final, from the start of the UPDATE. -/
def State.countVerdict (s : State) (st : Started) : State :=
  if bitAt st.cmd 28 3 then s else s.bump 0xA03A00 (s.step.finalAt - st.since)

/-- R142, R149: an UPDATE whose runs have all passed reads its 16 scalars, then its elements. -/
def State.finishUpdate (s : State) (q : Nat) (st : Started) (prog : BitVec 1024) : State :=
  let a := fld st.cmd 32 8
  let bad := s.memStatus a 64 .command false
  let s1 := s.countVerdict st
  if bad = St.memoryDenied then
    let s2 := s1.faultOf (s1.originOf q st.id) 1 a 3 bad
    (s2.onStarted q st.id (fun x => { x with failSlot := some s2.logSlot })).engineEnds q st bad
  else if bad ≠ 0 then s1.engineEnds q st bad
  else if s.badRange a 64 then s1.engineEnds q st St.dataPoisoned
  else (s1.applyUpdate' q st prog st.work.shares).slotShares

/-- R148 to R151, R156: an UPDATE whose verdict lets it proceed goes on as far as it can: one whose tensors lie in a package out of
service, or whose inputs lost a tile, ends (R162, R227, R229); a critical package (R227), a barrier (R332) or want of a staging frame
(R69) holds it; its runs pass their engines, and then it runs. -/
def State.runUpdate (s : State) (q : Nat) (st : Started) (prog : BitVec 1024) : State :=
  let c := st.cmd
  let outs := handlesAt c [8, 14, 17, 20, 23]
  let ins := handlesAt c [8, 11, 14, 17] ++ (s.residualRead c prog).map (·.2)
  if s.updateHeld q st then s
  else if s.engineStop ins outs ≠ 0 then (s.countVerdict st).engineEnds q st (s.engineStop ins outs)
  else if s.memoryWaits (ins ++ outs) then s.beginHot q st.id
  else if outs.any s.tensorBarred then s.barAct q st outs
  else if s.updateStages c then s.beginStaging q st.id
  else if s.updateIngress c ≠ 0 then s.beginIngress q st.id (s.updateIngress c)
  else
    let s1 := State.runShares q st.id st.work.rounds (s.endHolds q st)
    match s1.startedOf q st.id with
    | none => s1
    | some st1 => if st1.sharesRan && !s1.fetchesFor q st1.id then s1.finishUpdate q st1 prog else s1

/-- The same of the command as the queue holds it. -/
def State.goUpdate (s : State) (q id : Nat) : State :=
  match s.startedOf q id with
  | none => s
  | some st => match st.work with
    | .update prog _ => s.runUpdate q st prog
    | _ => s

/-- R156: the action of an UPDATE on the final verdict: the first row of the table that matches; with none it waits. -/
def State.actUpdate (s : State) (q : Nat) (st : Started) : State :=
  let c := st.cmd
  if !s.verdictFinal c then s
  else if !bitAt c 28 3 && s.step.broken then (s.countVerdict st).engineEnds q st St.verdictIncomplete
  else if s.verdictSkips c then (s.countVerdict st).engineEnds q st St.stepSkipped
  else if s.verdictOpen c then s
  else s.slotShares.goUpdate q st.id

/-- UPDATE_VERDICT_ACTION (R156). -/
def execUpdateVerdictAction (q : Fin 256) (id : Nat) (s : State) : Host.Outcome State Fault Refusal :=
  let s := s.teeRun
  .next (match s.startedOf q id with
    | none => s
    | some st => match st.work with
      | .update _ _ => if st.done then s else s.actUpdate q st
      | _ => s)

/-! ### The start (R151) -/

/-- R151: an UPDATE that runs names a common W, M1, M2, C1 or C2. -/
def State.updateRuns (s : State) (c : Line) : Bool :=
  let mine := handlesAt c [8, 14, 17, 20, 23]
  s.queues.any (fun e => e.2.started.any (fun st => st.op == 0x30 && st.writes.any mine.contains))

/-- R148, R195: the runs of 128 elements of an UPDATE as parts to be dealt: by W, which every run writes. -/
def State.updateParts (s : State) (c : Line) (prog : BitVec 1024) : List (Nat × Nat × List (Line × Nat) × Nat) :=
  (List.range (s.upRuns c)).map (fun r =>
    let idxs := s.upRun c r
    (r, idxs.headD 0, (handlesAt c [8, 11, 14, 17]).flatMap (fun h => idxs.map (fun i => (s.desc h, i))), upCount prog))

/-- R156, R193: an UPDATE that passed its checks is dealt over the clusters, asks for its operands and waits for its verdict; under the
local-verdict bit the latch at its start decides. -/
def State.startUpdate (s : State) (q : Nat) (l : ListRun) (c : Line) : State :=
  let prog := (s.fetchUpdate (fld c 26 2)).1
  let id := (s.queue q).serial + 1
  let outs := handlesAt c [8, 14, 17, 20, 23]
  let dealt := s.dealParts (handleAt c 8) (s.updateParts c prog)
  let a := dealt.1.callShares q id 3 3 (sharesOf s.now (fun r => [r]) dealt.2)
  let s1 := a.1.enter q { s.asStarted q l c with
    clusters := shareBits a.2, reads := handlesAt c [8, 11, 14, 17], writes := outs, covers := outs,
    opens := (handlesAt c [20, 23]).filter (fun h => descBook (s.desc h)), work := .update prog a.2 }
  if bitAt c 28 3 && (s.step.nf || s.step.void) then
    match s1.startedOf q id with
    | some st => s1.engineEnds q st St.stepSkipped
    | none => s1
  else (s1.fetchParts q id (dealt.2.map (fun x => (x.1, x.2.1))) (fun r =>
    (handlesAt c [8, 11, 14, 17]).map (fun h => (h, s.upRun c r)))).slotShares

/-- The meaning of UPDATE, with the words and lines in error that it reads (R210, R421). -/
def State.update (s : State) (q : Nat) (c : Line) (rd : CmdRead) : State :=
  s.take q c (handlesAt c [8, 11, 14, 17]) (handlesAt c [8, 14, 17, 20, 23]) (fun _ => s.updateFail q c)
    (fun l => if s.updateRuns c || (handlesAt c [20, 23]).any s.epochOwed || s.memoryWaits (handlesAt c [8, 11, 14, 17, 20, 23]) then
        s.waitHot q (s.memoryWaits (handlesAt c [8, 11, 14, 17, 20, 23]))
      else s.coherent (handlesAt c [8, 11, 14, 17]) (handlesAt c [8, 14, 17, 20, 23]) (fun s => (s.readErrors rd).startUpdate q l c))

/-- UPDATE (R143, R144, R151). -/
def execUpdate (q : Fin 256) (c : CmdRead) (s : State) : Host.Outcome State Fault Refusal := .next (s.update q c.line c)

end Sys2Proof.Machine
end

