-- ==== Sys2Proof/Machine/Snapshot.lean ====
section
/-!
DEFINITION. The stop bath (R325, R326), the contact sheet (R328 to R335) and the commands over them (R327), and the pairing
records a detach sends (R311).
-/

namespace Sys2Proof.Machine

/-! ### Pairing records (R310, R311) -/

/-- The serial of the identity area (0x1004:00). -/
def serialBytes : List Byte := leBytes 16 (Config.identity 0x1004)

/-- R311: CRC-64 over the domain list in entry order. -/
def State.domainDigest (s : State) : Nat := crc64 ((List.range 8).flatMap (fun k => leBytes 4 (s.dv (0x500301 + k))))

/-- R311: the nonce of a pairing attempt, 32 bytes. -/
def nonceOf (attempt : Nat) : List Byte := ((Config.pairingNonce attempt) ++ List.replicate 32 0).take 32

/-- R311: the 256 bytes of a pairing record of this module. -/
def State.pairingRecord (s : State) (kind status step evidence : Nat) : List Byte :=
  leBytes 4 0x314E5754 ++ leBytes 1 kind ++ leBytes 1 1 ++ leBytes 2 s.node ++ leBytes 4 s.twin.attempt ++ leBytes 2 status ++
  leBytes 1 (s.dv 0x600700) ++ leBytes 1 (s.dv 0x600500) ++ serialBytes ++ leBytes 16 (s.dv 0x600900) ++
  nonceOf s.twin.attempt ++ leBytes 8 s.domainDigest ++ leBytes 8 step ++ leBytes 4 evidence ++ leBytes 4 s.mirrorF ++
  leBytes 4 s.mirrorH ++ leBytes 148 0

/-- R310: bytes stored into the twin's mailbox as flagged stores. -/
def State.toMailbox (s : State) (off : Nat) (bytes : List Byte) : State :=
  (List.range (ceilDiv bytes.length 65536)).foldl (fun s i =>
    let part := (bytes.drop (65536 * i)).take 65536
    (s.ask (s.dv 0x600200) 0 {
      op := 0x02, flag := true, addr := 0x300080000000 + off + 65536 * i, lines := ceilDiv part.length 64, data := part }).1) s

/-- A pairing record sent. -/
def State.sendRecord (s : State) (kind : Nat) (status : Nat := 0) (step : Nat := 0) (evidence : Nat := 0) : State :=
  s.toMailbox 0 (s.pairingRecord kind status step evidence)

/-! ### Snapshot sets (R320) -/

/-- One entry of a snapshot set. -/
structure SetEntry where
  handle : Nat
  kind : Nat
  rsvd : Bool
  desc : Nat
deriving DecidableEq, Repr

/-- The entries of a set in memory. -/
def State.readSet (s : State) (a n : Nat) : List SetEntry :=
  (List.range n).map (fun i =>
    let e := s.rdNat (a + 16 * i) 16
    { handle := natFld e 0 3, kind := natFld e 3 1 % 4, rsvd := natFld e 3 1 / 4 != 0 || natFld e 4 4 != 0 || natFld e 3 1 % 4 == 0,
      desc := natFld e 8 8 })

/-- Whether a kind 1 or 3 entry's live tensor may not be held: SCRATCH, LATENT or remote PINNED. -/
def State.notHeld (s : State) (e : SetEntry) : Bool :=
  e.kind != 2 && (match s.tensor e.handle with
    | some t => descClass t.desc == 2 || descClass t.desc == 4 || s.isRemote t.desc
    | none => false)

/-- R320: whether an entry is wrong, as the `i`-th of the set. -/
def State.entryBad (s : State) (es : List SetEntry) (sheet : Bool) (i : Nat) (e : SetEntry) : Bool :=
  ((es.take i).any (fun x => x.handle == e.handle)) || (match s.tensor e.handle with | some t => t.owner != 0 | none => sheet) ||
    s.notHeld e

/-- R14, R320: what is wrong with a set. -/
def State.setFail (s : State) (a n : Nat) (sheet : Bool) : Option Fail :=
  let st := s.memStatus a (16 * n) .command false
  if a % 64 ≠ 0 then some { st := St.misaligned, byte := 8, addr := a, value := a }
  else if n = 0 ∨ 65536 < n then some { st := St.fieldRange, byte := 16, value := n }
  else if st ≠ 0 then some (s.rangeFail st a (16 * n) 8 a false)
  else if s.badRange a (16 * n) then some { st := St.dataPoisoned, byte := 8, addr := a, value := a }
  else
    let es := s.readSet a n
    match (List.zip (List.range n) es).find? (fun p => p.2.rsvd) with
    | some p => some { st := St.reservedSet, byte := 8, handle := p.2.handle, value := p.1 }
    | none => ((List.zip (List.range n) es).find? (fun p => s.entryBad es sheet p.1 p.2)).map (fun p =>
        { st := St.setInvalid, byte := 8, handle := p.2.handle, value := p.1 })

/-! ### Layout of a sheet (R329 to R331) -/

/-- R331: bytes of the planes an image holds: header and arrays, each at a 64-byte boundary as the run has them. -/
def planeImage (d : Line) (kind : Nat) : Nat :=
  if (descFmt d).scaled = false ∨ kind = 2 then 0
  else ((planeArrays d).take (if kind = 3 then 3 else 6)).foldl (fun n a => n + pad64 a) 64

/-- The lengths of an image's parts: data, planes, residual. -/
def State.imageParts (s : State) (e : SetEntry) : Nat × Nat × Nat :=
  let d := s.desc e.handle
  let r := s.desc (descResidual d)
  (if e.kind = 1 then descBytes d else 0, planeImage d e.kind,
   if e.kind = 1 ∧ descFeedback d = true then planeBytes r + planeImage r 1 else 0)

/-- A length rounded up to a 64 KiB boundary. -/
def pad64K (n : Nat) : Nat := ceilDiv n 65536 * 65536

/-- R329: the offsets of the images, and the end of the last. -/
def State.layout (s : State) (es : List SetEntry) : List (SetEntry × Nat) × Nat :=
  es.foldl (fun (x : List (SetEntry × Nat) × Nat) e =>
    let p := s.imageParts e
    let a := pad64K x.2
    (x.1 ++ [(e, a)], if p.1 + p.2.1 + p.2.2 = 0 then x.2 else a + p.1 + p.2.1 + p.2.2)) ([], 0x9000 + 128 * es.length)

/-- The byte ranges of a tensor's data from `off` on: `none` for a frame that is not bound. -/
def State.dataRanges (s : State) (d : Line) (off len : Nat) : List (Option Nat × Nat) :=
  let u := 65536
  (List.range (ceilDiv len u)).map (fun i => (s.dataAddr d (off + i * u), min u (len - i * u)))

/-- The parts of an image in memory, in image order. -/
def State.imageRanges (s : State) (e : SetEntry) : List (Option Nat × Nat) :=
  let d := s.desc e.handle
  let p := s.imageParts e
  let data := s.dataRanges d 0 p.1
  let planes := if p.2.1 = 0 then [] else [(some (descHdr d), p.2.1)]
  let res := match s.tensor (descResidual d) with
    | some r =>
      if p.2.2 = 0 then []
      else
        let cp := if descCommitted d then 1 else 0
        s.dataRanges r.desc (cp * planeBytes r.desc) (planeBytes r.desc) ++ [(some (r.hdr cp), planeImage r.desc 1)]
    | none => []
  data ++ planes ++ res

/-- The bytes of an image. -/
def State.imageBytes (s : State) (e : SetEntry) : List Byte :=
  (s.imageRanges e).flatMap (fun r => match r.1 with
    | some a => s.rdBytes a r.2
    | none => List.replicate r.2 0)

/-- R333: the digest of an image. -/
def imageDigest (bytes : List Byte) : Nat :=
  (List.range (ceilDiv bytes.length 65536)).foldl (fun x i =>
    x ^^^ crc64 (leBytes 8 i ++ (bytes.drop (65536 * i)).take 65536)) 0

/-- R330: a directory entry. -/
def State.dirEntry (s : State) (x : SetEntry × Nat) : List Byte :=
  let d := s.desc x.1.handle
  let p := s.imageParts x.1
  let off := fun (len at' : Nat) => if len = 0 then 0 else at'
  leBytes 64 d.toNat ++ leBytes 8 (off p.1 x.2) ++ leBytes 8 p.1 ++ leBytes 8 (off p.2.1 (x.2 + p.1)) ++ leBytes 8 p.2.1 ++
  leBytes 8 (off p.2.2 (x.2 + p.1 + p.2.1)) ++ leBytes 8 p.2.2 ++ leBytes 8 (imageDigest (s.imageBytes x.1)) ++ leBytes 8 0

/-- The counter image: the 4,096 counters. -/
def counterImage (cs : Tbl (BitVec 64)) : List Byte := (List.range 4096).flatMap (fun n => leBytes 8 (look 0 cs n).toNat)

/-! ### Pieces of images in memory (R332) -/

/-- A local range cut where its 64 KiB segments change: every 256 bytes in the striped alias. -/
def cutRange (h a n off : Nat) : List SheetPiece :=
  let u := match place a with
    | .lpddr _ => if a < 0x20000000000 then 65536 else 256
    | _ => 65536
  (List.range (ceilDiv (a % u + n) u)).map (fun i =>
    let lo := max a (a / u * u + i * u)
    let hi := min (a + n) (a / u * u + (i + 1) * u)
    { handle := h, seg := memKey lo / 65536, addr := lo, off := off + (lo - a), len := hi - lo })

/-- Pieces in order of their segments. -/
def insertPiece (p : SheetPiece) : List SheetPiece → List SheetPiece
  | [] => [p]
  | x :: xs => if p.seg ≤ x.seg then p :: x :: xs else x :: insertPiece p xs

/-- The bound parts of an image as pieces, in address order, and its unbound ones as ranges of the slot. -/
def State.imagePieces (s : State) (x : SetEntry × Nat) : List SheetPiece × List (Nat × Nat) :=
  let r := (s.imageRanges x.1).foldl (fun (acc : List SheetPiece × List (Nat × Nat) × Nat) g =>
    match g.1 with
    | some a => (acc.1 ++ cutRange x.1.handle a g.2 acc.2.2, acc.2.1, acc.2.2 + g.2)
    | none => (acc.1, acc.2.1 ++ [(acc.2.2, g.2)], acc.2.2 + g.2)) ([], [], x.2)
  (r.1.foldr insertPiece [], r.2.1)

/-! ### The board snapshot store (R329) -/

/-- Bytes stored at an offset of a slot, at most 64 lines a message, and counted (R333): the status that stopped it, 0 for none. -/
def State.slotStore (s : State) (q id slot off : Nat) (bytes : List Byte) : State × Nat :=
  let base := s.dv 0x601000 + slot * s.dv 0x601100 + off
  let r := (List.range (ceilDiv bytes.length 4096)).foldl (fun (x : State × Nat) i =>
    if x.2 ≠ 0 then x
    else
      let part := (bytes.drop (4096 * i)).take 4096
      match x.1.resolve (base + 4096 * i) with
      | .companion n a => x.1.ask n 0 { op := 0x02, addr := a, lines := ceilDiv part.length 64, data := part, owner := some (q, id), why := .sheet }
      | .away n a => x.1.ask n 0 { op := 0x02, addr := a, lines := ceilDiv part.length 64, data := part, owner := some (q, id), why := .sheet }
      | .here a =>
        let st := x.1.memStatus a part.length .command true
        if st = 0 then (x.1.storeBytes a part, 0)
        else if st = St.memoryDenied then (x.1.faultOf (x.1.originOf q id) 2 (x.1.deniedAt a part.length true) 5 st, st)
        else (x.1, st)
      | .nowhere => (x.1, St.addressUnmapped)) (s, 0)
  (if r.2 = 0 then r.1.bump 0x601B00 bytes.length else r.1, r.2)

/-- The line at an offset of a slot read back (R333). -/
def State.slotReadBack (s : State) (q id slot off : Nat) : State × Nat :=
  match s.resolve (s.dv 0x601000 + slot * s.dv 0x601100 + off) with
  | .companion n a => s.ask n 0 { op := 0x01, addr := a / 64 * 64, lines := 1, owner := some (q, id), why := .sheetBack }
  | .away n a => s.ask n 0 { op := 0x01, addr := a / 64 * 64, lines := 1, owner := some (q, id), why := .sheetBack }
  | _ => (s, 0)

/-- Requests of a snapshot to the store that are not yet answered. -/
def State.sheetReqs (s : State) (q id : Nat) : Bool :=
  s.reqs.any (fun r => r.owner == some (q, id) && (r.why == .sheet || r.why == .sheetBack)) ||
  s.streamsOut.any (fun e => (e.2.unacked ++ e.2.held).any (fun p => p.ofOwner (· == some (q, id))))

/-- Whether a read-back of a snapshot is not yet answered. -/
def State.backOut (s : State) (q id : Nat) : Bool := s.reqs.any (fun r => r.owner == some (q, id) && r.why == .sheetBack)

/-- R329: the 4 KiB header of a slot. -/
def State.sheetHeader (s : State) (h : Sheet) (state : Nat) : List Byte :=
  leBytes 4 0x31544853 ++ leBytes 1 1 ++ leBytes 1 state ++ leBytes 2 s.node ++ leBytes 8 h.boundary ++ leBytes 8 h.applied ++
  leBytes 8 h.skipped ++ leBytes 8 h.jobKey ++ leBytes 4 h.count ++ leBytes 4 0 ++ serialBytes ++ leBytes 8 h.capture ++
  leBytes 8 (if state = 2 then s.now else 0) ++ leBytes 8 h.total ++ leBytes 8 h.digest ++ leBytes 16 h.verdict ++ leBytes 3984 0

/-- 0x6016: step and header state of a slot. -/
def slotKey (slot : Nat) : Nat := 0x601601 + slot
def State.setSlot (s : State) (slot step state : Nat) : State := s.setDv (slotKey slot) (step % 2 ^ 64 + state * 2 ^ 64)
def State.slotState (s : State) (slot : Nat) : Nat := natFld (s.dv (slotKey slot)) 8 1

/-- R329: the slot a sheet writes: not the one with the latest complete sheet; slot 0 when neither is complete. -/
def State.nextSlot (s : State) : Nat :=
  if s.slotState 0 ≠ 2 then 0
  else if s.slotState 1 ≠ 2 then 1
  else 1 - s.step.lastSlot

/-! ### Ends of snapshot commands -/

/-- A snapshot command's work is over with a status; the module's own sheet (queue 256) leaves an error record when it
failed. -/
def State.snapshotEnds (s : State) (q id status : Nat) (h addr value : Nat := 0) : State :=
  if q < 256 then s.onStarted q id (fun st => { st with
    done := true, status := worse st.status status, failHandle := h, failAddr := addr, failValue := value, work := .none })
  else if refusedStatus status then s.record { s.mkRec 0xA001 5 47 (h + addr * 2 ^ 64 + value % 2 ^ 64 * 2 ^ 128) with status := status }
  else s

/-- R332: the writes held on copied segments go on; their waits are counted. -/
def State.releaseHeld (s : State) : State :=
  s.channels.foldl (fun s e =>
    let go := e.2.held.filter (fun w => !s.barredRange w.addr w.bytes.length)
    if go.isEmpty then s
    else
      let s1 := s.onChannel e.1 (fun c => { c with held := c.held.filter (fun w => !go.contains w) })
      go.foldl (fun s w => (s.storeMem w.addr w.bytes).surge 0x601900 w.since) s1) s

/-- What waited for the barrier goes on. -/
def State.afterBarrier (s : State) : State := (s.releaseHeld).runTransfers.settled

/-- R334: a running sheet ends without completing: the barrier is disarmed; its header is written 3 where the store is
reached; `value` is the cause in its record. -/
def State.sheetFails (s : State) (status : Nat) (writeHeader : Bool) (h addr value : Nat := 0) : State :=
  match s.step.sheet with
  | none => s
  | some sh =>
    let s1 := { s with step := { s.step with sheet := none } }
    let s2 := if writeHeader then (s1.slotStore sh.q sh.id sh.slot 0 (s1.sheetHeader sh 3)).1.setSlot sh.slot sh.boundary 3 else s1
    let s3 := (s2.setDv 0x601D00 0).snapshotEnds sh.q sh.id status h addr value
    s3.afterBarrier

/-! ### Stages of the bath (R325) -/

/-- The control command that a core waits on: its index, its bytes, its start. -/
def CoreWait.cmd : CoreWait → Option (Nat × Line × Nat)
  | .none => Option.none
  | .counter idx hdr _ _ since _ => some (idx, hdr, since)
  | .fence idx hdr since => some (idx, hdr, since)
  | .signal idx hdr since => some (idx, hdr, since)
  | .remoteSignal idx hdr _ _ since => some (idx, hdr, since)

/-- Started commands other than the bath: those of the engines, and those that the control cores of other queues wait on; the bath's
own queue goes on (log entry 77). -/
def State.otherStarted (s : State) (b : Bath) : List (Nat × Started) :=
  s.queues.flatMap (fun e => (e.2.started.filter (fun x => e.1 != b.q || x.id != b.id)).map (fun x => (e.1, x)) ++
    (match e.2.run with
      | some l => if e.1 = b.q then [] else (l.wait.cmd.map (fun x => (e.1, e.2.waiting l x.1 x.2.1 x.2.2))).toList
      | none => []))

/-- R65, R221, R223: every epoch with no adder left is closed, adder entries and partial lines written back. -/
def State.closeEverything (s : State) : State :=
  let s1 := s.tensors.foldl (fun s e => match e.2 with
    | some t => if t.opens = 0 ∧ t.touched ≠ [] ∧ s.tensorBarred e.1 = false then (s.closeBlocks e.1 t.touched).1 else s
    | none => s) s
  s1.channels.foldl (fun s e => (e.2.wc.foldl (fun s w => s.retireWc w {}) s).onChannel e.1 (fun c => { c with entries := [] })) s1

/-- R276: every gateway shipped. -/
def State.shipAll (s : State) : State :=
  s.ports.foldl (fun s e => ((e.2.gateway.map (·.node)).eraseDups).foldl (fun s n => s.shipGateway e.1 n) s) s

/-- Whether some stream or gateway holds an unacknowledged packet of the module. -/
def State.streamsBusy (s : State) : Bool :=
  s.streamsOut.any (fun e => !e.2.unacked.isEmpty || !e.2.held.isEmpty) ||
  s.ports.any (fun e => !e.2.gateway.isEmpty || !e.2.gatewayWait.isEmpty)

/-- What a stage does as it is tried. -/
def State.stageAct (s : State) (stage : Nat) : State :=
  if stage = 3 then s.closeEverything else if stage = 4 then s.shipAll else s

/-- R325: whether a stage's end condition holds. -/
def State.bathStageOver (s : State) (b : Bath) : Bool :=
  if b.stage = 1 then !s.backOut b.q b.id
  else if b.stage = 2 then (s.otherStarted b).isEmpty
  else if b.stage = 3 then
    s.tensors.all (fun e => match e.2 with | some t => t.touched.isEmpty && t.shadows.isEmpty | none => true) &&
      s.channels.all (fun e => e.2.entries.isEmpty && e.2.wc.isEmpty)
  else if b.stage = 4 then
    !s.streamsBusy && s.twin.tees.isEmpty && s.reqs.all (fun r => match r.why with | .time _ => true | .sheet => true | .sheetBack => true | .relay _ _ _ => true | _ => false)
  else if b.stage = 5 then s.ingress.isEmpty
  else if b.stage = 6 then !s.streamsBusy && s.collectives.isEmpty
  else if b.stage = 7 then !b.mirror || s.twin.peerApplied == b.boundary + 1
  else true

/-- The set and share a bath's sheet uses: the command's, or those of the latest sheet (0x601F:00). -/
def State.sheetSet (s : State) (b : Bath) : Nat × Nat :=
  match s.startedOf b.q b.id with
  | some st => (fld st.cmd 8 8, fld st.cmd 16 4)
  | none => (natFld (s.dv 0x601F00) 0 8, natFld (s.dv 0x601F00) 8 4)

/-- R320, R329: what stops a sheet over a set. -/
def State.sheetFail (s : State) (a n : Nat) : Option Fail :=
  match s.setFail a n true with
  | some f => some f
  | none => failIf (decide (s.dv 0x601100 < (s.layout (s.readSet a n)).2)) { st := St.sheetSpace, byte := 8, value := n }

/-- The bath is over with a status: the hold is lifted unless it is kept, its time is reported, and the next one begins. -/
def State.dropBath (s : State) (b : Bath) (keep : Bool) : State :=
  (s.setDv 0x601800 (s.now - b.since)) |> fun s =>
    let s1 := { s with step := { s.step with bath := none } }
    if keep then s1 else s1.liftHold

/-- R325 stage 5, R329, R332: the sheet captured: its header fields, its pieces in copy order; counter image, directory and
unbound data stored. -/
def State.armSheet (s : State) (b : Bath) : State × Nat :=
  let g := s.sheetSet b
  match s.sheetFail g.1 g.2 with
  | some f => (s, f.st)
  | none =>
    let es := s.readSet g.1 g.2
    let lay := s.layout es
    let pieces := lay.1.map s.imagePieces
    let meta0 := counterImage s.step.image ++ lay.1.flatMap s.dirEntry
    let slot := b.slot.getD s.nextSlot
    let zeros := pieces.flatMap (·.2)
    let stored := 4096 + meta0.length + (zeros.map (·.2)).sum
    let sh : Sheet := {
      q := b.q, id := b.id, slot := slot, count := g.2, boundary := b.boundary, segments := pieces.flatMap (·.1),
      capture := s.now, applied := s.dv 0xA03300, skipped := s.dv 0xA03400, jobKey := s.dv 0x800200, verdict := s.dv 0xA03500,
      total := lay.2, digest := crc64 meta0, stored := stored }
    let r0 := s.slotStore b.q b.id slot 0x1000 meta0
    let r := zeros.foldl (fun (x : State × Nat) z =>
      if x.2 ≠ 0 then x else x.1.slotStore b.q b.id slot z.1 (List.replicate z.2 0)) r0
    ((r.1.setDv 0x601D00 stored) |> fun s => { s with step := { s.step with sheet := some sh } }, r.2)

/-! ### Starting a bath (R326) -/

/-- R326: the boundary of a bath: its tag, or the one before the step that runs. -/
def State.bathBoundary (s : State) (b : Bath) : Nat := b.tag.getD (s.dv 0xA03200 - 1)

/-- R333 step 1, R334: the header of a sheet's slot with state 1 or 3. -/
def State.slotHeader (s : State) (b : Bath) (slot state : Nat) : State × Nat :=
  let sh : Sheet := { q := b.q, id := b.id, slot := slot, count := (s.sheetSet b).2, boundary := s.bathBoundary b, segments := [] }
  let r := s.slotStore b.q b.id slot 0 (s.sheetHeader sh state)
  (if r.2 = 0 then r.1.setSlot slot (s.bathBoundary b) state else r.1, r.2)

/-- R333 step 1: the header of a sheet with state 1, and its read-back. -/
def State.openSheet (s : State) (b : Bath) (slot : Nat) : State × Nat :=
  let r := s.slotHeader b slot 1
  if r.2 ≠ 0 then r else r.1.slotReadBack b.q b.id slot 0

/-- Whether a waiting bath may begin: its step has crossed, or it is immediate and a sheet's header has been read back. -/
def State.bathDue (s : State) (b : Bath) : Bool :=
  match b.tag with
  | none => !s.backOut b.q b.id
  | some t => decide (t < s.dv 0xA03200)

/-- A bath that waits is dropped. -/
def State.unwait (s : State) (b : Bath) : State :=
  { s with step := { s.step with bathWait := s.step.bathWait.filter (fun x => x.q != b.q || x.id != b.id) } }

/-- R325 stage 1, R334, R339: a bath begins to hold; a second sheet is refused, a RESTORE aborts a running sheet. A sheet that could not
write its header at its start, because another one was under way, writes it now (log entry 72). -/
def State.holdBath (s : State) (b : Bath) : State :=
  let s0 := s.unwait b
  if b.purpose = 1 ∧ s0.step.sheet.isSome = true then s0.snapshotEnds b.q b.id St.sheetBusy
  else
    let s1 := if b.purpose = 2 then s0.sheetFails St.sheetAborted true else s0
    let slot := s1.nextSlot
    let b1 : Bath := { b with
      stage := 1, since := s1.now, boundary := s1.bathBoundary b, slot := if b.purpose = 1 then some slot else none }
    let s2 := { s1 with step := { s1.step with hold := some b.q, bath := some b1 } }
    if b.purpose = 1 ∧ b.slot ≠ some slot then
      let r := s2.openSheet b1 slot
      if r.2 ≠ 0 then (r.1.dropBath b1 false).snapshotEnds b.q b.id r.2 else r.1
    else s2

/-- The next bath that may begin does, when none runs. -/
def State.nextBath (s : State) : State :=
  s.step.bathWait.foldl (fun s b => if s.step.bath.isNone && s.bathDue b then s.holdBath b else s) s

/-- A bath is asked for. -/
def State.askBath (s : State) (b : Bath) : State :=
  ({ s with step := { s.step with bathWait := s.step.bathWait ++ [b] } }).nextBath

/-- The bath is over without its purpose: status, hold lifted. -/
def State.bathFails (s : State) (b : Bath) (status : Nat) (h addr value : Nat := 0) : State :=
  (((s.dropBath b false).snapshotEnds b.q b.id status h addr value).nextBath).settled

/-! ### The commands (R327, R328) -/

/-- R326: what stops a bath at its start. -/
def State.bathFail (s : State) (immediate needsStep : Bool) (tag byte : Nat) : Option Fail :=
  failIf (if immediate then s.step.updated || (needsStep && s.dv 0xA03200 == 0) else tag != s.dv 0xA03200 % 2 ^ 32)
    { st := St.stepMismatch, byte := byte, value := tag }

/-- R334: whether a sheet runs, or has written its header and waits for its hold. -/
def State.sheetUnderWay (s : State) : Bool :=
  s.step.sheet.isSome || (s.step.bath.toList ++ s.step.bathWait).any (fun b => b.purpose == 1)

/-- R333 step 1: a sheet that starts writes its header at once, unless another one is under way; then its bath waits. -/
def State.askSheet (s : State) (b : Bath) : State :=
  let slot := s.nextSlot
  if s.sheetUnderWay then s.askBath b
  else
    let r := s.openSheet b slot
    if r.2 ≠ 0 then (r.1.snapshotEnds b.q b.id r.2).settled else r.1.askBath { b with slot := some slot }

/-- A snapshot command started, its bath asked for. -/
def State.startBath (s : State) (q : Nat) (l : ListRun) (c : Line) (purpose : Nat) (immediate mirror keep : Bool)
    (source : SourceRead) : State :=
  let id := (s.queue q).serial + 1
  let tag := if immediate then none else some (s.dv 0xA03200)
  let b : Bath :=
    { q := q, id := id, purpose := purpose, tag := tag, mirror := mirror, keep := keep, stage := 0, since := s.now, boundary := 0 }
  let s1 := s.enter q { s.asStarted q l c with work := .snapshot source }
  if purpose = 1 then s1.askSheet b else s1.askBath b

def bathReserved : List (Nat × Nat × Nat) := [(12, 3, 5), (13, 0, 408)]

/-- STOP_BATH (R325 to R327). -/
def execStopBath (q : Fin 256) (c : Line) (s : State) : Host.Outcome State Fault Refusal :=
  .next (s.take q c [] [] (fun _ => firstFail [s.headerFail q c bathReserved, s.bathFail (bitAt c 12 0) true (fld c 8 4) 8])
    (fun l => s.startBath q l c 0 (bitAt c 12 0) (bitAt c 12 1) (bitAt c 12 2) { bytes := [] }))

def sheetReserved : List (Nat × Nat × Nat) := [(24, 2, 6), (26, 0, 304)]

/-- SHEET (R328 to R334); 0x601F:00 records the latest to start. -/
def execSheet (q : Fin 256) (c : Line) (s : State) : Host.Outcome State Fault Refusal :=
  .next (s.take q c [] []
    (fun _ => firstFail [s.headerFail q c sheetReserved, s.bathFail (bitAt c 24 0) true (fld c 20 4) 20,
      s.sheetFail (fld c 8 8) (fld c 16 4)])
    (fun l =>
      let s1 := s.setDv 0x601F00 (fld c 8 8 + fld c 16 4 * 2 ^ 64 + fld c 25 1 * 2 ^ 96)
      ({ s1 with step := { s1.step with sheetSeen := true } }).startBath q l c 1 (bitAt c 24 0) (bitAt c 24 1) false { bytes := [] }))

/-- R334: the running sheet, or one still in its bath, is ended. -/
def State.abortSheet (s : State) : State :=
  let s1 := s.sheetFails St.sheetAborted true
  match s1.step.bath with
  | some b =>
    if b.purpose = 1 then (s1.slotHeader b (b.slot.getD s1.nextSlot) 3).1.bathFails b St.sheetAborted else s1
  | none => s1

/-- SHEET_ABORT (R327, R334). -/
def execSheetAbort (q : Fin 256) (c : Line) (s : State) : Host.Outcome State Fault Refusal :=
  .next (s.take q c [] [] (fun _ => s.headerFail q c [(8, 0, 448)]) (fun l => s.atOnce q l c .ok State.abortSheet))

/-! ### The copy (R332 to R334) -/

/-- R332: the segment copied next: held ones in the order of their first hold, then copy order. -/
def Sheet.nextSeg (sh : Sheet) : Option Nat :=
  match sh.heldFirst.find? (fun g => sh.segments.any (fun p => p.seg == g)) with
  | some g => some g
  | none => sh.segments.head?.map (·.seg)

/-- R334: the cause that stops the copy of a piece, 0 for none. -/
def State.pieceCause (s : State) (p : SheetPiece) : Nat :=
  let st := s.memStatus p.addr p.len .command false
  if st = St.memoryOffline ∨ st = St.memoryCritical ∨ st = St.memoryDenied then st
  else if s.badRange p.addr p.len then St.dataPoisoned else 0

/-- R334: the status of a sheet whose store did not go out. -/
def storeStatus (st : Nat) : Nat := if st = St.hostLinkDown ∨ st = St.hostDenied then st else St.sheetFailed

/-- R333, R334: the first header of a sheet could not be written or read back: the command ends with a status, its header written 3 where
the store is reached. -/
def State.headerFails (s : State) (o : Nat × Nat) (st : Nat) (back : Bool) : State :=
  match (s.step.bath.toList ++ s.step.bathWait).find? (fun b => b.purpose == 1 && b.q == o.1 && b.id == o.2) with
  | none => s
  | some b =>
    let s1 := if back then (s.slotHeader b (b.slot.getD s.nextSlot) 3).1 else s
    if s.step.bath = some b then s1.bathFails b st else (((s1.unwait b).snapshotEnds b.q b.id st).nextBath).settled

/-- The pieces of one segment stored to the slot: the status that stops it, 0 for none. -/
def State.storePieces (s : State) (sh : Sheet) (g : Nat) : State × Nat :=
  (sh.segments.filter (fun p => p.seg == g)).foldl (fun (x : State × Nat) p =>
    if x.2 ≠ 0 then x else x.1.slotStore sh.q sh.id sh.slot p.off (s.rdBytes p.addr p.len)) (s, 0)

/-- One segment copied: its pieces stored to the slot, its held writes released. -/
def State.copySegment (s : State) (sh : Sheet) (g : Nat) : State :=
  let mine := sh.segments.filter (fun p => p.seg == g)
  match mine.find? (fun p => s.pieceCause p != 0) with
  | some p =>
    (if s.pieceCause p = St.memoryDenied then s.faultOf (s.originOf sh.q sh.id) 1 (s.deniedAt p.addr p.len false) 5 St.memoryDenied
      else s).sheetFails St.sheetFailed true 0 p.addr (s.pieceCause p)
  | none =>
    let r := s.storePieces sh g
    if r.2 ≠ 0 then r.1.sheetFails (storeStatus r.2) false
    else
      let n := mine.foldl (fun n p => n + p.len) 0
      let rest := sh.segments.filter (fun p => p.seg != g)
      let sh1 := { sh with segments := rest, stored := sh.stored + n, heldFirst := sh.heldFirst.filter (· != g) }
      let s1 := (r.1.setDv 0x601D00 sh1.stored) |> fun s => { s with step := { s.step with sheet := some sh1 } }
      s1.afterBarrier

/-- R333 step 3: everything is stored: the last line is read back. -/
def State.sheetReadBack (s : State) (sh : Sheet) : State :=
  let r := s.slotReadBack sh.q sh.id sh.slot (sh.total - 1)
  if r.2 ≠ 0 then r.1.sheetFails (storeStatus r.2) false
  else { r.1 with step := { r.1.step with sheet := some { sh with phase := 1 } } }

/-- R333: behind the last segment of the sheet that was being copied the read-back is sent. -/
def State.readBackCopied (s : State) (id : Nat) : State :=
  match s.step.sheet with
  | some x => if x.segments.isEmpty && x.phase == 0 && x.id == id then s.sheetReadBack x else s
  | none => s

/-- SEGMENT_COPIED (R332): after the last segment the read-back is sent. -/
def execSegmentCopied (t : Nat) (s : State) : Host.Outcome State Fault Refusal :=
  let s1 := s.tick t
  .next (match s1.step.sheet with
    | none => s1
    | some sh => match sh.nextSeg with
      | some g => (s1.copySegment sh g).readBackCopied sh.id
      | none => if sh.phase = 0 then s1.sheetReadBack sh else s1)

/-- R333 step 4: the header with state 2, and its read-back. -/
def State.closeSheet (s : State) (sh : Sheet) : State :=
  let r := s.slotStore sh.q sh.id sh.slot 0 (s.sheetHeader sh 2)
  if r.2 ≠ 0 then r.1.sheetFails (storeStatus r.2) false
  else
    let b := r.1.slotReadBack sh.q sh.id sh.slot 0
    if b.2 ≠ 0 then b.1.sheetFails (storeStatus b.2) false
    else
      let sh1 := { sh with phase := 2, stored := sh.stored + 4096 }
      (b.1.setDv 0x601D00 sh1.stored) |> fun s => { s with step := { s.step with sheet := some sh1 } }

/-- R333 step 5, R335: the sheet is complete. -/
def State.endSheet (s : State) (sh : Sheet) : State :=
  let s1 := { s with step := { s.step with sheet := none, overdue := false, lastSlot := sh.slot } }
  let s2 := (((s1.setSlot sh.slot sh.boundary 2).setDv 0x601D00 0).setDv 0x601700 (s1.dv 0xA03200 - 1 - sh.boundary))
  s2.snapshotEnds sh.q sh.id St.ok

/-- SHEET_COMPLETE (R333): first the final header, when its read-back has returned the completion. -/
def execSheetComplete (t : Nat) (s : State) : Host.Outcome State Fault Refusal :=
  let s1 := s.tick t
  .next (match s1.step.sheet with
    | none => s1
    | some sh =>
      if s1.sheetReqs sh.q sh.id then s1
      else if sh.phase = 1 then s1.closeSheet sh
      else if sh.phase = 2 then s1.endSheet sh
      else s1)

end Sys2Proof.Machine
end

