-- ==== Sys2Proof/Machine/Computed.lean ====
section
/-!
DEFINITION. The values of the object dictionary (R388): entries computed from other state, and what a master reads. The bytes of
an error record (R414).
-/

namespace Sys2Proof.Machine

/-! ### Error records (R414, R418) -/

/-- R414: the 64 bytes of a record, as a number. -/
def ErrRecord.toNat (r : ErrRecord) : Nat :=
  leNat (leBytes 8 r.time ++ leBytes 2 r.cls ++ leBytes 2 r.status ++ leBytes 1 r.queue ++ leBytes 1 r.region ++ leBytes 1 r.unit ++
    leBytes 1 r.flags ++ leBytes 4 r.listId ++ leBytes 4 r.index ++ leBytes 2 (toBits 16 r.celsius) ++ leBytes 2 r.milliVolt ++
    leBytes 1 r.fieldByte ++ leBytes 1 r.fieldBit ++ leBytes 2 r.repeats ++ leBytes 8 r.seq ++ leBytes 24 r.syndrome)

/-- R418: the record in a slot of the ring, 0 while none was written there. -/
def State.logSlotValue (s : State) (slot : Nat) : Nat :=
  match s.log.find? (fun r => (r.seq - 1) % 4096 == slot) with
  | some r => r.toNat
  | none => 0

/-! ### Identity and counts (R408, R409, R431) -/

/-- R10, R408: the physical position of a cluster. -/
def State.position (s : State) (c : Nat) : Nat := (s.cluster c).physical.getD (if c < 16 then c else 16 + c)

/-- R409, R431: the bytes of 0x1106:00. -/
def State.unitCounts (s : State) : List Nat :=
  let count := fun (n : Nat) (f : Nat → Bool) => ((List.range n).filter f).length
  [count 32 s.enabled, s.dv 0x400C00, count 8 s.portUp,
   (List.range 8).foldl (fun n p => n + (setBits 8 (s.port p).lanes.toNat).length) 0,
   (if s.traekUp then s.traek.width else 0), s.directClusters.length,
   (List.range 48).foldl (fun n r => n + (s.region r).failures) 0, count 48 (fun r => (s.region r).power == 3)]

/-- R409: a count below its full value, a failed slice or a dark region. -/
def State.degraded (s : State) : Bool :=
  let c := s.unitCounts
  (List.zip (c.take 6) [32, 32, 8, 64, 16, 4]).any (fun x => decide (x.1 < x.2)) || (c.drop 6).any (fun x => decide (0 < x))

/-- R409: the module state. -/
def State.moduleState (s : State) : Nat :=
  if s.boot.halted then 4 else if s.boot.state ≠ 8 then 0 else if s.cooling.stopped then 3 else if s.degraded then 2 else 1

/-- R408: the spare of a half: position, use, name served. -/
def State.spareValue (s : State) (east : Bool) : Nat :=
  let pos := if east then 0x30 else 0x10
  match (List.range 32).find? (fun c => s.position c == pos) with
  | some c => pos + 2 ^ 8 + c * 2 ^ 16
  | none => pos + 0xFF * 2 ^ 16

/-! ### Single entries -/

/-- R371: the state of a region, 0x2010. -/
def State.regionValue (s : State) (r : Nat) : Nat :=
  let x := s.region r
  x.point + s.allowedPoint r * 2 ^ 8 + x.power * 2 ^ 16 + x.failures * 2 ^ 24 + x.milliVolt % 65536 * 2 ^ 32 + x.deciAmp % 65536 * 2 ^ 48

/-- R386: a hot spot, 0x2820. -/
def State.spotValue (s : State) (h : Nat) : Nat :=
  let x := s.spot h
  let bits := (if x.suspectA then 1 else 0) + (if x.suspectB then 2 else 0) + (if x.estimated then 4 else 0) + (if x.tripped then 8 else 0)
  let lim := if regionOfSpot h < 32 then (s.region (regionOfSpot h)).thermal else 7
  toBits 16 x.temp + toBits 16 x.a * 2 ^ 16 + toBits 16 x.b * 2 ^ 32 + bits * 2 ^ 48 + lim * 2 ^ 56

/-- R386: the valid tray roles, bits of 0x2831:00. -/
def State.roleBits (s : State) : Nat :=
  (List.range 4).foldl (fun n k => n + (if (look {} s.cooling.roles k).valid then 2 ^ k else 0)) 0

/-- R292: a port, 0x5005. -/
def State.portValue (s : State) (p : Nat) : Nat :=
  let x := s.port p
  x.state + x.lanes.toNat * 2 ^ 8 + x.retrains % 2 ^ 32 * 2 ^ 32

/-- R318: the Traek link, 0x5030:00. -/
def State.traekValue (s : State) : Nat :=
  let t := s.traek
  t.state + t.width * 2 ^ 8 + (if t.width = 0 then 0 else if t.half then 2 else 1) * 2 ^ 16 + t.group * 2 ^ 24 + t.retrains % 2 ^ 32 * 2 ^ 32

/-- R433: a cluster's test state, 0x7010. -/
def State.testValue (s : State) (c : Nat) : Nat :=
  let k := s.cluster c
  k.state + s.position c * 2 ^ 8 + k.failPattern * 2 ^ 16 + k.passes % 2 ^ 32 * 2 ^ 32

/-- A MAC address as the number of its bytes in transmission order. -/
def macNat (m : BitVec 48) : Nat := leNat ((leBytes 6 m.toNat).reverse)

/-- R412: the hold state, 0xF020:00. -/
def State.holdValue (s : State) : Nat :=
  let m := s.mgmt
  if m.hold2000 || m.hold2800 then
    (if m.hold2000 then 1 else 0) + (if m.hold2800 then 2 else 0) + macNat m.holder * 2 ^ 16 + m.takenAt % 2 ^ 64 * 2 ^ 64
  else 0

/-- R405: the lead half: 0 west, 1 east; where both hold the lead, the half with the higher epoch, west on a tie (R407). -/
def State.leadHalf (s : State) : Nat :=
  let m := s.mgmt
  if m.west.lead && m.east.lead then (if m.west.epoch < m.east.epoch then 1 else 0) else if m.east.lead then 1 else 0

/-- R412: leadership, 0xF030:00. -/
def State.leadValue (s : State) : Nat :=
  let m := s.mgmt
  let e := if s.leadHalf = 1 then m.east.epoch else m.west.epoch
  s.leadHalf + m.follower * 2 ^ 8 + e % 2 ^ 32 * 2 ^ 32 + m.changedAt % 2 ^ 64 * 2 ^ 64

/-- R412: subscriptions in use, 0xF050:00. -/
def State.subsValue (s : State) : Nat :=
  let host := (s.mgmt.subs.filter (fun x => x.master == .host)).length
  host + (s.mgmt.subs.length - host) * 2 ^ 8

/-- R443: every WB field of the protection digest in entry:field order: entry, field, value; 0x9041:00 excluded. -/
def protectionFields : List Nat :=
  (List.range 8).map (0x900201 + ·) ++ [0x900301, 0x900302, 0x900401, 0x900402] ++ (List.range 64).map (0x901001 + ·) ++
  (List.range 16).map (0x902001 + ·) ++ (List.range 16).map (0x903001 + ·) ++ (List.range 8).map (0x903101 + ·) ++
  [0x903200, 0x905000, 0xF00300]

/-- The value of a WB field; key digests are set at manufacture, rollback counters are the fuses. -/
def State.wbValue (s : State) (key : Nat) : Nat :=
  if key = 0x900301 ∨ key = 0x900302 then Config.identity key
  else if key = 0x900401 then s.boot.fuseStage
  else if key = 0x900402 then s.boot.fuseConfig
  else s.dv key

/-- R443: the protection digest, 0x9005:00. -/
def State.protectionDigest (s : State) : List Byte :=
  Config.sha384 (protectionFields.flatMap (fun k =>
    leBytes 2 (k / 256) ++ leBytes 1 (k % 256) ++ leBytes (entrySize k) (s.wbValue k)))

/-- The evidence buffer of a master (R442). -/
def State.evidenceOf (s : State) (m : Master) : EvidenceBuf :=
  match m with | .host => s.mgmt.hostEvidence | .mgmt _ => s.mgmt.mgmtEvidence

/-- R371: the current a region is rated for, in A; the manual gives 42 for the cluster regions and no number for the others. -/
def ratedAmps (r : Nat) : Nat := if r < 32 then 42 else Config.identity (0x201801 + r)

/-! ### The value a master reads -/

/-- Entries of area 0x1000 and 0x1100. -/
def State.identityValue (s : State) (m : Master) (key : Nat) : Option Nat :=
  let e := key / 256
  let f := key % 256
  match e with
  | 0x1004 => some (Config.identity 0x1004)
  | 0x1005 => some (Config.identity 0x1005 % 2 ^ 48)
  | 0x1006 => some (Config.identity 0x1006)
  | 0x1008 => some (leNat s.boot.stageDigest)
  | 0x1009 => some (Config.identity key)
  | 0x1010 => some (s.position (f - 1))
  | 0x1011 => some (s.spareValue (f == 2))
  | 0x1021 => some (s.evidenceOf m).state
  | 0x1022 => some (leNat (((s.evidenceOf m).bytes.drop (1024 * (f - 1))).take 1024))
  | 0x1101 => some s.moduleState
  | 0x1102 => some s.boot.state
  | 0x1106 => some (leNat ((s.unitCounts).map (BitVec.ofNat 8)))
  | _ => none

/-- Entries of areas 0x2000 to 0x4000. -/
def State.powerValue (s : State) (key : Nat) : Option Nat :=
  let e := key / 256
  let f := key % 256
  match e with
  | 0x2008 => some (s.power.ceiling + (if s.power.intervalOn then s.power.k else 32) * 2 ^ 8)
  | 0x2009 => some (s.dv key + (List.range 48).foldl (fun n r => n + (s.region r).fillerTime (s.dv 0x200600) s.now) 0)
  | 0x2010 => some (s.regionValue (f - 1))
  | 0x2011 => some ((s.region (f - 1)).minVolt % 65536 + (s.region (f - 1)).minAt % 2 ^ 64 * 2 ^ 64)
  | 0x2017 => some (Config.landRegions (f - 1))
  | 0x2018 => some (f32RatioInt (ratedAmps (f - 1)) 1)
  | 0x2019 => some (Config.neighbours (f - 1))
  | 0x2820 => some (s.spotValue (f - 1))
  | 0x2831 => some (s.dv key / 16 * 16 + s.roleBits)
  | 0x3001 => some s.now
  | _ => none

/-- Entries of areas 0x5000 to 0x9000. -/
def State.linkValue (s : State) (key : Nat) : Option Nat :=
  let e := key / 256
  let f := key % 256
  match e with
  | 0x5005 => some (s.portValue (f - 1))
  | 0x5010 => some s.directory.length
  | 0x5030 => some s.traekValue
  | 0x7001 => some s.logSeq
  | 0x7002 => some (if s.logSeq = 0 then 0 else s.logSeq - s.log.length + 1)
  | 0x7010 => some (s.testValue (f - 1))
  | 0x7031 => some (Config.idcode (f - 1))
  | 0x8012 => some s.stagingFrames
  | 0x9003 => some (s.wbValue key)
  | 0x9004 => some (s.wbValue key)
  | 0x9005 => some (leNat s.protectionDigest)
  | 0x9041 => some 0
  | _ => none

/-- Entries of areas 0xA000 and 0xF000. -/
def State.engineValue (s : State) (key : Nat) : Option Nat :=
  match key / 256 with
  | 0xA001 => some (s.queues.filter (fun e => qEnabled e.2.entry)).length
  | 0xA005 => some (s.tensors.filter (fun e => match e.2 with | some t => descSuspect t.desc | none => false)).length
  | 0xA018 => some s.directClusters.length
  | 0xA040 => some ((List.range 32).filter s.enabled).length
  | 0xA041 => some s.tensors.length
  | 0xA042 => some s.freeFrames
  | 0xF020 => some s.holdValue
  | 0xF030 => some s.leadValue
  | 0xF050 => some s.subsValue
  | _ => none

/-- R388, R418: the value of entry:field as a master reads it. -/
def State.value (s : State) (m : Master) (key : Nat) : Nat :=
  let area := key / 2 ^ 20
  if 0x710000 ≤ key ∧ key < 0x720000 then s.logSlotValue (16 * (key / 256 - 0x7100) + key % 256 - 1)
  else
    (if area = 1 then s.identityValue m key
     else if area ≤ 4 then s.powerValue key
     else if area ≤ 9 then s.linkValue key
     else s.engineValue key).getD (s.dv key)

/-! ### Evidence (R441) -/

/-- R441: the evidence body, 512 bytes. -/
def State.evidenceBody (s : State) (nonce : List Byte) : List Byte :=
  let b := s.boot
  leBytes 4 0x31445645 ++ leBytes 1 1 ++ leBytes 1 (s.dv 0x100300) ++ leBytes 2 s.node ++ serialBytes ++ (nonce ++ List.replicate 32 0).take 32 ++
  leBytes 8 s.now ++ leBytes 4 (Config.identity 0x1006) ++ leBytes 4 (s.dv 0x100700) ++
  leBytes 1 ((if b.stageB then 1 else 0) + (if b.config = 1 then 2 else 0) + (if b.config = 2 then 4 else 0)) ++
  leBytes 1 b.state ++ leBytes 1 (s.dv 0x900100) ++ leBytes 5 0 ++ (b.stageDigest ++ List.replicate 48 0).take 48 ++
  (b.configDigest ++ List.replicate 48 0).take 48 ++ (s.protectionDigest ++ List.replicate 48 0).take 48 ++ leBytes 16 (s.dv 0x701200) ++
  (s.unitCounts).map (BitVec.ofNat 8) ++ leBytes 8 0 ++ leBytes 256 0

/-- R441: the 34,240 bytes of evidence over a nonce. -/
def State.evidenceFor (s : State) (nonce : List Byte) : List Byte := Config.signEvidence (s.evidenceBody nonce)

end Sys2Proof.Machine
end

