-- ==== Sys2Proof/Machine/Restore.lean ====
section
/-!
DEFINITION. RESTORE (R337 to R340), the stages' row and timeout of the stop bath (R325, R326), and the negative a module holds
(R316, R323).
-/

namespace Sys2Proof.Machine

/-! ### The tee mark (R159) and the verdict's reset -/

/-- R159: the mark of a step, a flagged store of 16 bytes behind the step's tee stores; the manual gives it no address (a free
value). -/
def State.sendMark (s : State) (step : Nat) (applied : Bool) : State :=
  if s.paired then
    let x : TeeStore := {
      addr := freeAt s.fresh 0 % 2 ^ 48, mark := step + 1,
      data := leBytes 8 step ++ leBytes 1 (if applied then 1 else 0) ++ leBytes 7 0 }
    ({ s.drawn with twin := { s.twin with tees := s.twin.tees ++ [x] } } : State).teeRun
  else s

/-- R153, R157: what a step boundary or a restore clears. -/
def StepState.cleared (x : StepState) : StepState :=
  { x with nf := false, void := false, fold := {}, broken := false, closed := false, final := false, updated := false,
           lastDone := none, feedback := [] }

/-! ### Reading a source (R329, R330, R323) -/

/-- `len` bytes at an offset of a byte string; bytes beyond its end are zero. -/
def slice (src : List Byte) (off len : Nat) : List Byte :=
  let x := (src.drop off).take len
  x ++ List.replicate (len - x.length) 0

def sliceNat (src : List Byte) (off len : Nat) : Nat := leNat (slice src off len)

/-- One tensor to be restored: its handle, its kind, its descriptor image, and the bytes its parts are rebuilt from: data, then
plane header image and the arrays in order, then the residual's committed plane with its header image and arrays; whether
its image digest verified. -/
structure Rebuilt where
  handle : Nat
  kind : Nat
  desc : Line
  data : List Byte := []
  header : List Byte := []
  arrays : List (List Byte) := []
  resData : List Byte := []
  resHeader : List Byte := []
  resArrays : List (List Byte) := []
  good : Bool := true

/-- The arrays of a plane as they lie behind its header, each from a 64-byte boundary. -/
def planeParts (d : Line) (n : Nat) (bytes : List Byte) : List (List Byte) :=
  (((planeArrays d).take n).foldl (fun (x : List (List Byte) × Nat) a => (x.1 ++ [slice bytes x.2 a], x.2 + pad64 a)) ([], 64)).1

/-- R330: what a slot holds for the `i`-th entry of a set: the directory names no handle and stands in the order of the set
(log entry 33). -/
def fromSlot (src : List Byte) (base i : Nat) (e : SetEntry) : Rebuilt :=
  let o := base + 0x9000 + 128 * i
  let d : Line := BitVec.ofNat 512 (sliceNat src o 64)
  let part := fun (k : Nat) => let off := sliceNat src (o + k) 8; slice src (base + off) (if off = 0 then 0 else sliceNat src (o + k + 8) 8)
  let data := part 64
  let planes := part 80
  let res := part 96
  let rd := residualDesc d
  let n := planeBytes rd
  { handle := e.handle, kind := e.kind, desc := d, data := data, header := slice planes 0 64,
    arrays := planeParts d (if e.kind = 3 then 3 else 6) planes, resData := slice res 0 n, resHeader := slice res n 64,
    resArrays := planeParts rd 6 (res.drop n), good := imageDigest (data ++ planes ++ res) == sliceNat src (o + 112) 8 }

/-- The offset in the bytes of a mirror half, package by package, of a near-home address in it. -/
def halfOff (lo h a : Nat) : Nat := a / 2 ^ 36 * (h * 2 ^ 21) + (a % 2 ^ 36 - lo * 2 ^ 21)

/-- R323: the offset of record `i` of the negative directory, which begins the half. -/
def recordOff (i : Nat) : Nat := 0x1000 + 128 * i

/-- R323, R336: what a negative holds for a tensor whose record is `i`: a PINNED tensor's data at its own address, another's
through its frame map, which travels with the data of class whole (log entry 71). -/
def fromHalf (src : List Byte) (lo h i : Nat) (e : SetEntry) : Rebuilt :=
  let o := recordOff i
  let d : Line := BitVec.ofNat 512 (sliceNat src o 64)
  let hdr := slice src (o + 64) 64
  let at' := fun (a len : Nat) => match place a with
    | .lpddr near => slice src (halfOff lo h near) len
    | _ => List.replicate len 0
  let whole := decide (descMirror d = 2)
  let arr := (List.zip (List.range 6) (planeArrays d)).map (fun p =>
    if p.2 = 0 ∨ (whole = false ∧ 2 ≤ p.1) ∨ (e.kind = 3 ∧ 3 ≤ p.1) then []
    else at' (leNat ((hdr.drop (8 * p.1)).take 8) % 2 ^ 48) p.2)
  let u := mapUnit d
  let data := if e.kind ≠ 1 then []
    else if descClass d = 3 then
      (List.range (ceilDiv (descBytes d) 64)).flatMap (fun k => at' (descLoc d % 2 ^ 48 + 64 * k) (min 64 (descBytes d - 64 * k)))
    else (List.range (mapLen d (descBytes d))).flatMap (fun k =>
      let a := leNat (at' (descLoc d + 8 * k) 8) % 2 ^ 48
      let len := min u (descBytes d - k * u)
      if a = 0 then List.replicate len 0 else at' a len)
  { handle := e.handle, kind := e.kind, desc := d, data := data, header := hdr, arrays := arr }

/-- R320: an entry restored from its descriptor only. -/
def fromDesc (e : SetEntry) (d : Line) : Rebuilt := { handle := e.handle, kind := 2, desc := d }

/-! ### The checks of R338 -/

/-- R338: the slot in state 2 with step S whose directory digest verifies. -/
def State.goodSlot (s : State) (src : List Byte) (step : Nat) : Option Nat :=
  [0, 1].find? (fun k =>
    let b := k * s.dv 0x601100
    let n := sliceNat src (b + 40) 4
    sliceNat src b 4 == 0x31544853 && sliceNat src (b + 5) 1 == 2 && sliceNat src (b + 8) 8 == step &&
      crc64 (slice src (b + 0x1000) (0x8000 + 128 * n)) == sliceNat src (b + 88) 8)

/-- The handles whose records a directory may hold: the set's kind 1 and kind 3 entries and the module's own mirrored tensors. -/
def State.recordHandles (s : State) (es : List SetEntry) : List Nat :=
  ((es.filter (·.kind != 2)).map (·.handle) ++ s.mirrored.map (·.1)).eraseDups

/-- R323, R324: the record of a handle in a directory of `n`. The owner lists its mirrored tensors in rising order of handle; where
the handles known here are as many as the records, a handle's place among them is its record, else the record is a free value: the
records name no handle (log entry 33). -/
def State.recordIndex (s : State) (es : List SetEntry) (n h : Nat) : Nat :=
  let hs := s.recordHandles es
  if hs.length = n then (hs.filter (fun x => decide (x < h))).length else Config.directoryRecord n h

/-- R324, R338: whether the holder's negative is consistent at S for the set and this module. -/
def State.negativeGood (s : State) (src : List Byte) (es : List SetEntry) (step : Nat) : Bool :=
  let n := sliceNat src 0x28 4
  let desc := fun (e : SetEntry) => (BitVec.ofNat 512 (sliceNat src (recordOff (s.recordIndex es n e.handle)) 64) : Line)
  sliceNat src 0 4 == 0x3147454E && (sliceNat src 0x48 1) % 4 == 1 && sliceNat src 0x40 8 == step && sliceNat src 8 8 == step &&
    sliceNat src 6 2 == s.node &&
    es.all (fun e => e.kind == 2 || (decide (s.recordIndex es n e.handle < n) &&
      (if e.kind = 1 then descMirror (desc e) == 2 && !descFeedback (desc e) else descMirror (desc e) != 0)))

/-- The descriptor of a kind 2 entry of a negative's set: in memory, or for an address at another node behind the half in the
bytes read, in set order. -/
def State.kindTwoDesc (s : State) (src : List Byte) (es : List SetEntry) (e : SetEntry) : Line :=
  match s.resolve e.desc with
  | .here a => BitVec.ofNat 512 (s.rdNat a 64)
  | _ =>
    let before := (es.takeWhile (fun x => x.handle != e.handle)).filter (fun x => x.kind == 2 && (match s.resolve x.desc with | .here _ => false | _ => true))
    BitVec.ofNat 512 (sliceNat src (32 * s.mirrorH * 2 ^ 21 + 64 * before.length) 64)

/-- R263, R337, R338: a restore from the negative loads the half of the node its command names: NO_ROUTE without a way there, else
the status with which that node refused a load. -/
def State.holderFail (s : State) (c : Line) (src : SourceRead) : Nat :=
  let n := fld c 22 2
  if bitsAt c 20 0 2 ≠ 1 then 0
  else if !s.localNode n && (s.route n).isNone then St.noRoute
  else src.status.toNat

/-- R338: the status that refuses a restore, or the tensors it rebuilds. -/
def State.restoreSource (s : State) (c : Line) (read : SourceRead) : Nat × List Rebuilt :=
  let src := read.bytes
  let es := s.readSet (fld c 8 8) (fld c 16 4)
  let idx := List.zip (List.range es.length) es
  let step := fld c 24 8
  let from' := bitsAt c 20 0 2
  if from' = 0 then
    match s.goodSlot src step with
    | none => (St.sheetAbsent, [])
    | some k =>
      let b := k * s.dv 0x601100
      if sliceNat src (b + 40) 4 < es.length then (St.setInvalid, [])
      else (0, idx.map (fun p => fromSlot src b p.1 p.2))
  else if from' = 1 then
    let n := sliceNat src 0x28 4
    if s.holderFail c read ≠ 0 then (s.holderFail c read, [])
    else if !s.negativeGood src es step then (St.negativeUnusable, [])
    else if es.any (fun e => e.kind == 2 && e.desc == 0) then (St.setInvalid, [])
    else (0, es.map (fun e => if e.kind = 2 then fromDesc e (s.kindTwoDesc src es e)
      else fromHalf src s.outboundLow s.mirrorH (s.recordIndex es n e.handle) e))
  else if s.dv 0xA03200 ≠ step + 1 ∨ s.step.updated = true then (St.stepMismatch, [])
  else (0, [])

/-! ### Rebuilding (R339) -/

/-- A plane rebuilt: the counts and median of its header image, and its arrays at their new places. -/
def State.fillPlane (s : State) (hdr : Nat) (image : List Byte) (arrays : List (List Byte)) : State :=
  if hdr = 0 ∨ image = [] then s
  else
    (List.zip (List.range arrays.length) arrays).foldl (fun s p =>
      if p.2 = [] ∨ s.arr hdr p.1 = 0 then s else s.wrBytes (s.arr hdr p.1) p.2) (s.wrBytes (hdr + 56) (slice image 56 8))

/-- Data of a plane from `off` on. -/
def State.fillData (s : State) (d : Line) (off : Nat) (bytes : List Byte) : State :=
  (List.range (ceilDiv bytes.length 65536)).foldl (fun s i => match s.dataAddr d (off + 65536 * i) with
    | some a => s.wrBytes a ((bytes.drop (65536 * i)).take 65536)
    | none => s) s

/-- R190, R339: a tensor created anew; where only unscrubbed frames remain the scrub goes first (log entry 173). -/
def State.createScrubbed (s : State) (h : Nat) (d : Line) : Option State :=
  match s.create h d with
  | some s1 => some s1
  | none => ((List.range 32).foldl (fun s p => s.scrubMany p (s.alloc.dirty.length + pkgFrames)) s).create h d

/-- R320, R339: the data a tensor is filled with: those of its image; a PINNED one without is written with zero codes. -/
def Rebuilt.fill (r : Rebuilt) (d : Line) : List Byte :=
  if r.kind ≠ 1 ∧ descClass d = 3 then List.replicate (descBytes d) 0 else r.data

/-- R339 steps 3 and 4: one tensor created anew and filled; the status that stops it. -/
def State.rebuild (s : State) (r : Rebuilt) : State × Nat :=
  let d := descSetBit (descSetBit (descSetBit r.desc 2 7 false) 3 0 false) 3 1 false
  match s.createFail r.handle (setFld d 40 16 0) with
  | some f => (s, f.st)
  | none =>
    match s.createScrubbed r.handle (setFld d 40 16 0) with
    | none => (s, St.noCapacity)
    | some s1 =>
      let k := s1.idlestCluster
      let s2 := if r.kind = 1 then s1.bindAll r.handle k else s1
      let nd := s2.desc r.handle
      let s3 := (s2.fillData nd 0 (r.fill nd)).fillPlane (descHdr nd) r.header r.arrays
      let cp := descCommitted r.desc
      let s4 := if r.kind = 1 ∧ descFeedback r.desc = true ∧ r.resHeader ≠ [] then
          let rh := descResidual r.desc
          let s5 := s3.bindAll rh k
          match s5.tensor rh with
          | some t => (s5.fillData t.desc (if cp then planeBytes t.desc else 0) r.resData).fillPlane (t.hdr (if cp then 1 else 0)) r.resHeader r.resArrays
          | none => s5
        else s3
      let s6 := s4.onTensor r.handle (fun t => { t with
        desc := descSetBit (descSetBit t.desc 2 7 cp) 3 0 (descSuspect r.desc || (r.kind != 2 && !r.good)) })
      (s6, if r.kind ≠ 2 ∧ r.good = false then St.sheetDigest else 0)

/-- R339 steps 3 and 4 over the set: the first status other than a digest's stops it. -/
def State.rebuildAll (s : State) (rs : List Rebuilt) : State × Nat :=
  rs.foldl (fun (x : State × Nat) r =>
    if x.2 ≠ 0 ∧ x.2 ≠ St.sheetDigest then x
    else
      let y := x.1.rebuild r
      (y.1, if y.2 = 0 then x.2 else y.2)) (rs.foldl (fun s r => s.release r.handle) s, 0)

/-- R339 step 5: counters, keys and verdict of the restore point. -/
def State.restorePoint (s : State) (c : Line) (src : List Byte) : State :=
  let step := fld c 24 8
  let s0 : State := { s with step := { s.step.cleared with pend := put none s.step.pend 0x800200 none } }
  let base := (s0.goodSlot src step).getD 0 * s0.dv 0x601100
  if bitsAt c 20 0 2 = 0 then
    let s1 := ((((s0.setDv 0xA03200 (step + 1)).setDv 0xA03300 (sliceNat src (base + 16) 8)).setDv 0xA03400
      (sliceNat src (base + 24) 8)).setDv 0x800200 (sliceNat src (base + 32) 8)).setDv 0xA03500 (sliceNat src (base + 96) 16)
    (List.range 4096).foldl (fun s n => s.setCounter n (BitVec.ofNat 64 (sliceNat src (base + 0x1000 + 8 * n) 8))) s1
  else if bitsAt c 20 0 2 = 1 then
    let s1 := ((((s0.setDv 0xA03200 (step + 1)).setDv 0xA03300 (sliceNat src 0x10 8)).setDv 0xA03400
      (sliceNat src 0x18 8)).setDv 0x800200 (sliceNat src 0x20 8)).setDv 0xA03500 0
    { s1 with counters := [] }
  else { s with step := { s.step with nf := false, void := false } }

/-- R339: the restore's result recorded (0x601E:00), its hold lifted, the command done. -/
def State.endRestore (s : State) (b : Bath) (c : Line) (status : Nat) : State :=
  (s.setDv 0x601E00 (fld c 24 8 + bitsAt c 20 0 2 * 2 ^ 64 + status * 2 ^ 80)).bathFails b status

/-- R338, R339: the restore after its bath. -/
def State.restoreNow (s : State) (b : Bath) : State :=
  match s.startedOf b.q b.id with
  | none => s.bathFails b 0
  | some st =>
    let c := st.cmd
    let src := match st.work with | .snapshot x => x | _ => { bytes := [] }
    let chk := s.restoreSource c src
    if chk.1 ≠ 0 then s.endRestore b c chk.1
    else
      let r := s.rebuildAll chk.2
      if r.2 ≠ 0 ∧ r.2 ≠ St.sheetDigest then r.1.endRestore b c r.2
      else
        let s1 := r.1.restorePoint c src.bytes
        let s2 := if s1.paired then
            (chk.2.foldl (fun s x => s.teeTensor x.handle) s1).sendMark (fld c 24 8) (freeAt s1.fresh 1 % 2 == 1)
          else s1
        s2.endRestore b c r.2

/-! ### RESTORE (R337) -/

def restoreReserved : List (Nat × Nat × Nat) := [(20, 2, 6), (21, 0, 8), (33, 0, 248)]

/-- R306, R338: the contact sheet is read over the Traek link. -/
def State.storeReach (s : State) (c : Line) : Option Fail :=
  if bitsAt c 20 0 2 ≠ 0 then none
  else match s.resolve (s.dv 0x601000) with
    | .companion _ a =>
      let st := s.hostAccess a (2 * s.dv 0x601100) 0
      failIf (st != 0) { st := st, byte := 20, addr := s.dv 0x601000 }
    | _ => none

/-- RESTORE (R337 to R340). `source` is what the module reads from its source (log entry 82). -/
def execRestore (q : Fin 256) (c : Line) (source : SourceRead) (s : State) : Host.Outcome State Fault Refusal :=
  .next (s.take q c [] []
    (fun _ => firstFail [s.headerFail q c restoreReserved,
      failIf (bitsAt c 20 0 2 == 3) { st := St.reservedSet, byte := 20, value := 3 },
      s.bathFail true false 0 24,
      if bitsAt c 20 0 2 = 2 then none else s.setFail (fld c 8 8) (fld c 16 4) false,
      s.storeReach c])
    (fun l => s.startBath q l c 2 true false true source))

/-! ### The bath's rows (R325, R326) -/

/-- R317: the pair is over: UNPAIRED, nothing sent or awaited any more. -/
def State.unpair (s : State) : State :=
  let t := s.twin
  (({ s.setDv 0x600100 0 with twin := { attempt := t.attempt, teed := t.teed } }) : State).teeSettle t.teeSince

/-- R317: the detach's bath is over: DETACH is sent with the step of the final mirror. The peer's own DETACH, when it has come
already, is its RELEASE. -/
def State.detachSend (s : State) (step : Nat) : State :=
  let s1 := s.teeFlush.sendRecord 5 0 step
  if s.twin.detachGot then s1.unpair else { s1 with twin := { s1.twin with detachSent := true } }

/-- What follows the last stage: the hold is lifted or kept; a sheet goes on copying, a detach goes on, a STOP_BATH is done. -/
def State.bathEnds (s : State) (b : Bath) : State :=
  let s1 := s.dropBath b b.keep
  let s2 := if b.purpose = 0 then s1.snapshotEnds b.q b.id St.ok
    else if b.purpose = 3 then s1.detachSend b.boundary
    else s1
  (s2.nextBath).settled

/-- R325: the stage in progress ends when its condition holds, and the next one begins. -/
def State.endStage (s : State) (b0 : Bath) : State :=
  let s1 := s.stageAct b0.stage
  if !s1.bathStageOver b0 then s1
  else if b0.stage = 5 then
    let s2 := { s1 with step := { s1.step with image := s1.counters } }
    let r := if b0.purpose = 1 then s2.armSheet b0 else (s2, 0)
    if r.2 ≠ 0 then
      let s3 := r.1.sheetFails (storeStatus r.2) false
      s3.bathFails b0 r.2
    else { r.1 with step := { r.1.step with bath := some { b0 with stage := 6 }, quiet := true } }
  else if b0.stage = 6 ∧ b0.purpose = 2 then s1.restoreNow b0
  else if b0.stage = 8 then s1.bathEnds b0
  else { s1 with step := { s1.step with bath := some { b0 with stage := b0.stage + 1 } } }

/-- R326: a bath has run for longer than 0x6014:00. -/
def State.bathOverdue (s : State) (b : Bath) : Bool := decide (b.since + s.dv 0x601400 * 1000000 ≤ s.now)

/-- R326: an overdue bath, and a sheet of its, fail with BATH_TIMEOUT; the record names a command it waited for. -/
def State.timeoutBath (s : State) (b : Bath) : State :=
  let v := match s.otherStarted b with
    | x :: _ => x.1 * 2 ^ 32 + x.2.index
    | [] => 0
  let mine := match s.step.sheet with | some sh => sh.q == b.q && sh.id == b.id && b.purpose == 1 | none => false
  (if mine then s.sheetFails St.bathTimeout false else s).bathFails b St.bathTimeout 0 0 v

/-! ### The negative held for the twin (R316, R317, R323) -/

/-- R316, R322, R323: the negative held is frozen at a step: 0x600B:00, where a torn bit set before stays, and the holder's bytes
of its directory. -/
def State.freezeNegative (s : State) (step : Nat) (torn released : Bool) : State :=
  let torn' := torn || (s.dv 0x600B00).testBit 65
  let bits := 1 + (if torn' then 2 else 0) + (if released then 4 else 0)
  let s1 := s.setDv 0x600B00 (step % 2 ^ 64 + bits * 2 ^ 64)
  if s.mirrorH = 0 then s1
  else
    let a := s.inboundLow * 2 ^ 21
    (s1.wrNat (a + 0x40) 8 step).wrNat (a + 0x48) 1 bits

/-- R317: RELEASE, the answer to a DETACH, with the step of the final mark. -/
def State.answerDetach (s : State) : State := let s := s.teeFlush; (s.sendRecord 6 0 (s.twin.markSent - 1)).unpair

/-- DETACH_RELEASE_ANSWER (R317): half of 0x600D:00 after DETACH with no boundary. -/
def execDetachReleaseAnswer (t : Nat) (s : State) : Host.Outcome State Fault Refusal :=
  let s1 := s.tick t
  .next (match s1.twin.detachAt with
    | some a =>
      if s1.dv 0x600100 == 3 && s1.twin.detachGot && !s1.twin.detachOwn && decide (a + s1.dv 0x600D00 * 500000 ≤ s1.now) then
        s1.answerDetach
      else s1
    | none => s1)

/-- R317: the detach acts without a boundary: an immediate bath, or DETACH with step 0 before the first boundary. -/
def State.actDetach (s : State) : State :=
  if s.dv 0xA03200 = 0 then s.detachSend 0
  else if s.step.updated then s
  else s.askBath { q := 256, id := 0, purpose := 3, tag := none, mirror := true, keep := false, stage := 0, since := s.now, boundary := 0 }

/-- Whether a bath of the detach runs or waits. -/
def State.detachBath (s : State) : Bool :=
  s.step.bathWait.any (fun b => b.purpose == 3) || (match s.step.bath with | some b => b.purpose == 3 | none => false)

/-- DETACH_ACT (R317): half of 0x600D:00 after the command. -/
def execDetachAct (t : Nat) (s : State) : Host.Outcome State Fault Refusal :=
  let s1 := s.tick t
  .next (match s1.twin.detachAt with
    | some a =>
      if s1.dv 0x600100 == 3 && s1.twin.detachOwn && !s1.twin.detachSent && !s1.detachBath &&
          decide (a + s1.dv 0x600D00 * 500000 ≤ s1.now) then s1.actDetach
      else s1
    | none => s1)

end Sys2Proof.Machine
end

