-- ==== Sys2Proof/Machine/Rights.lean ====
section
/-!
DEFINITION. Who may read and write an entry of the object dictionary: start-up (R447), existence (R388), rights (R390), overrides
(R391), the management hold (R403, R404) and lengths (R389).
-/

namespace Sys2Proof.Machine

/-- Whether a master is the host. -/
def Master.isHost : Master → Bool
  | .host => true
  | .mgmt _ => false

/-- The master's kind and the namespace's own name for it. -/
def fromHost (m : Master) : Bool := Master.isHost m

/-- R388: whether entry:field exists; field 0 of an array gives the number of its fields. -/
def exists' (key : Nat) : Bool := (entryDef key).isSome || (key % 256 == 0 && arrayFields (key / 256) != 0)

/-- R388: whether a key is the count field of an array. -/
def isCount (key : Nat) : Bool := (entryDef key).isNone && key % 256 == 0

/-- The right of entry:field. -/
def rightOf (key : Nat) : Right := ((entryDef key).map (·.right)).getD .ro

/-- R390: WO fields written by management only. -/
def mgmtOnly (entry : Nat) : Bool := [0x1030, 0x1031, 0x1110, 0x7040, 0xF021].contains entry

/-- R391: the rights that overrides remove from an entry: bit 0 host write, 1 management write, 2 host read, 3 management
read. -/
def State.removed (s : State) (entry bit : Nat) : Bool :=
  let spared := decide (0xF020 ≤ entry) && decide (entry ≤ 0xF03F) || bit == 3 && decide (0x1100 ≤ entry) && decide (entry < 0x2000)
  !spared && (List.range 64).any (fun k =>
    let o := s.dv (0x901001 + k)
    (natFld o 4 1).testBit 7 && (natFld o 4 1).testBit bit && decide (natFld o 0 2 ≤ entry) && decide (entry ≤ natFld o 2 2))

/-- R403: whether management holds the area of an entry. -/
def State.areaHeld (s : State) (entry : Nat) : Bool :=
  (s.mgmt.hold2000 && decide (0x2000 ≤ entry) && decide (entry < 0x2800)) ||
  (s.mgmt.hold2800 && decide (0x2800 ≤ entry) && decide (entry < 0x3000))

/-- R447: what is read before READY: areas 0x1000, 0x1100 and 0x7000, and 0x9001:00. -/
def readAtStart (entry : Nat) : Bool :=
  (decide (0x1000 ≤ entry) && decide (entry < 0x2000)) || (decide (0x7000 ≤ entry) && decide (entry < 0x8000)) || entry == 0x9001

/-- R446: READY. -/
def State.ready (s : State) : Bool := s.boot.state == 8

/-- The status of a read of entry:field by a master. -/
def State.readStatus (s : State) (m : Master) (key : Nat) : Nat :=
  let e := key / 256
  if !s.ready && !readAtStart e then St.starting
  else if !exists' key then St.noEntry
  else if rightOf key = .wo ∨ s.removed e (if fromHost m then 2 else 3) = true then St.accessDenied
  else St.ok

/-- R390, R404: whether a right lets a master write. -/
def State.mayWrite (s : State) (m : Master) (key : Nat) : Bool :=
  match rightOf key with
  | .ro => false
  | .wb => false
  | .rwH => fromHost m || s.areaHeld (key / 256)
  | .rwM => !fromHost m
  | .rwHM => true
  | .wo => !(fromHost m && mgmtOnly (key / 256))

/-- The status of a write of `len` bytes to entry:field by a master, before the entry's own checks. -/
def State.writeStatus (s : State) (m : Master) (key len : Nat) : Nat :=
  let e := key / 256
  if !s.ready && key != 0x111000 then St.starting
  else if !exists' key then St.noEntry
  else if isCount key || !s.mayWrite m key || s.removed e (if fromHost m then 0 else 1) then St.accessDenied
  else if fromHost m && s.areaHeld e && rightOf key != .rwM then St.held
  else if len ≠ entrySize key then St.length
  else St.ok

/-! ### What a write leaves (R392, R407) -/

/-- R407: a write applied while the halves cannot hear each other is kept by the half that applied it: the west one while it
leads, since both masters reach it first. WO commands are not replayed. -/
def State.keepLone (s : State) (m : Master) (key value : Nat) : State :=
  let w : LoneWrite := { master := m, key := key, value := value, time := s.now }
  if s.mgmt.linkUp || rightOf key == .wo then s
  else if s.mgmt.west.lead then { s with mgmt := { s.mgmt with west := { s.mgmt.west with lone := s.mgmt.west.lone ++ [w] } } }
  else { s with mgmt := { s.mgmt with east := { s.mgmt.east with lone := s.mgmt.east.lone ++ [w] } } }

/-- R392: the writer tag of an RW-HM field. -/
def State.tagWrite (s : State) (m : Master) (key : Nat) : State :=
  let tag : WriterTag := match m with
    | .host => { writer := 1, time := s.now }
    | .mgmt mac => { writer := 2, mac := mac, time := s.now }
  if rightOf key == .rwHM then { s with tags := put {} s.tags key tag } else s

/-- R404: any management frame that is taken renews a hold. -/
def State.renewHold (s : State) (m : Master) : State :=
  if !fromHost m && (s.mgmt.hold2000 || s.mgmt.hold2800) then { s with mgmt := { s.mgmt with renewedAt := s.now } } else s

/-- R406: the lead waits for the acknowledgement of a present follower, which its next heartbeat shows. -/
def State.awaitFollower (s : State) : State :=
  if s.mgmt.follower = 0 then { s with mgmt := { s.mgmt with ackWait := some (s.mgmt.ackWait.getD s.now) } } else s

/-- A write of a value by a master: its checks (R390, R403), the entry's own check and effect `f`, and what it leaves when it was
applied. The state, and the item's status. -/
def State.masterWrite (s : State) (m : Master) (key len value : Nat) (f : State → State × Nat) : State × Nat :=
  let s1 := s.renewHold m
  let st := s1.writeStatus m key len
  if st ≠ 0 then (s1, st)
  else
    let r := f s1
    if refusedStatus r.2 then r else (((r.1.tagWrite m key).keepLone m key value).awaitFollower, r.2)

end Sys2Proof.Machine
end

