-- ==== Sys2Proof/Machine/Twin.lean ====
section
/-!
DEFINITION. The twin (R310 to R317): the pairing handshake and its checks, heartbeats, loss, detach, and the pairing mailbox.
-/

namespace Sys2Proof.Machine

/-! ### Records (R311) -/

/-- A number in a byte string. -/
def numAt (bs : List Byte) (off len : Nat) : Nat := leNat ((bs.drop off).take len)

/-- The node of the twin, 0x6002:00, and the twin state, 0x6001:00. -/
def State.peer (s : State) : Nat := s.dv 0x600200
def State.twinState (s : State) : Nat := s.dv 0x600100
def State.onTwin (s : State) (f : Twin → Twin) : State := { s with twin := f s.twin }

/-- The address of the pairing mailbox (R310), and of the evidence area in it. -/
def mailboxBase : Nat := 0x300080000000
def evidenceBase : Nat := mailboxBase + 0x10000

/-! ### The checks (R313) -/

/-- R310, R313: P0 and P1 are UP and each reaches the twin directly: its route is of class 1 over both ports. -/
def State.twinPorts (s : State) : Bool :=
  s.portUp 0 && s.portUp 1 &&
  (match s.route s.peer with | some e => natFld e 4 1 == 1 && natFld e 5 1 % 4 == 3 | none => false)

/-- R271, R313: the twin is a module of the domain. -/
def State.twinInDomain (s : State) : Bool :=
  (List.range 8).any (fun k => natFld (s.dv (0x500301 + k)) 0 2 == s.peer && natFld (s.dv (0x500301 + k)) 2 1 == 1)

/-- R313: the feed identities differ and neither is zero. -/
def feedsDiffer (own peer : List Byte) : Bool :=
  numAt own 32 16 != numAt peer 32 16 && numAt own 32 16 != 0 && numAt peer 32 16 != 0

/-- R313: both records have the override set. -/
def bothOverride (own peer : List Byte) : Bool := (numAt own 15 1).testBit 0 && (numAt peer 15 1).testBit 0

/-- R313: the first failing check, else OK or FEED_OVERRIDDEN. -/
def State.pairingStatus (s : State) (peer : List Byte) (evidence : Nat) : Nat :=
  let own := s.twin.own
  if !s.twinPorts then St.twinPorts
  else if !s.twinInDomain || numAt own 80 8 != numAt peer 80 8 then St.twinNotDomain
  else if !Config.evidenceVerifies (s.rdBytes evidenceBase evidence) ((own.drop 48).take 32) then St.attestationFailed
  else if !feedsDiffer own peer && !bothOverride own peer then St.feedShared
  else if numAt own 100 8 != numAt peer 100 8 then St.mirrorAreaMismatch
  else if feedsDiffer own peer then St.ok else St.feedOverridden

/-! ### The handshake (R312) -/

/-- R312: a refusal sent or received, or a timeout: UNPAIRED, with the status. -/
def State.endPairing (s : State) (status : Nat) : State := (s.setDv 0x600400 status).unpair

/-- R312, R314: both ACCEPTs: the pair holds. -/
def State.enterPaired (s : State) (peer : List Byte) (status : Nat) : State :=
  let s1 := ((s.setDv 0x600100 2).setDv 0x600400 status).setDv 0x600800 (min (numAt s.twin.own 14 1) (numAt peer 14 1))
  let s2 := (s1.setDv 0x600A00 (numAt peer 32 16)).setDv 0x600B00 0
  { s2 with twin := {
      attempt := s.twin.attempt, since := s.twin.since, offer := some peer, own := s.twin.own, lastBeat := s.now, lastSentAt := s.now,
      overridden := status == St.feedOverridden, teed := s.twin.teed, creditAt := s.now } }

/-- R312: the module acts on what it holds: evidence over the peer's nonce, then the checks, then the pair. -/
def State.handshake (s : State) : State :=
  match s.twin.offer with
  | none => s
  | some peer =>
    let s1 :=
      if s.twin.sentEvidence then s
      else
        let ev := s.evidenceFor ((peer.drop 48).take 32)
        ((s.toMailbox 0x10000 ev).sendRecord 2 0 0 34240).onTwin (fun t => { t with sentEvidence := true })
    match s1.twin.peerEvidence with
    | none => s1
    | some n =>
      let status := s1.pairingStatus peer n
      if refusedStatus status then (s1.sendRecord 4 status).endPairing status
      else
        let s2 := if s1.twin.sentAccept then s1 else (s1.sendRecord 3).onTwin (fun t => { t with sentAccept := true })
        if s2.twin.gotAccept then s2.enterPaired peer status else s2

/-- Whether a master may write the twin command 0x6003:00. -/
def State.twinCommand (s : State) (m : Master) : Bool := s.writeStatus m 0x600300 1 == 0

/-- R312, R316: the status of a pair command. -/
def State.pairStatus (s : State) : Nat :=
  if s.twinState = 0 ∧ (s.dv 0x600B00).testBit 64 = false then St.ok else St.twinState

/-- R312: a pair command: OFFER. -/
def State.pairNow (s : State) : State :=
  let s1 := (s.setDv 0x600100 1).onTwin (fun t => { attempt := (t.attempt + 1) % 2 ^ 32, since := s.now, offer := t.offer, teed := t.teed })
  let own := s1.pairingRecord 1 0 (s1.dv 0xA03200) 0
  ((s1.toMailbox 0 own).onTwin (fun t => { t with own := own })).handshake

/-- PAIR (R312). -/
def execPair (m : Master) (t : Nat) (s : State) : Host.Outcome State Fault Refusal :=
  let s1 := s.tick t
  .next (if s1.twinCommand m && s1.pairStatus == 0 then s1.pairNow else s1)

/-- PAIRING_TIMEOUT (R312): 1 s after the pair command. -/
def execPairingTimeout (t : Nat) (s : State) : Host.Outcome State Fault Refusal :=
  let s1 := s.tick t
  .next (if s1.twinState = 1 ∧ s1.twin.since + 1000000000 ≤ s1.now then
      (s1.sendRecord 4 St.twinTimeout).endPairing St.twinTimeout
    else s1)

/-! ### Loss (R316) -/

/-- A packet with another number in its stream. -/
def Egress.withSeq (e : Egress) (seq : Nat) : Egress :=
  match e with
  | .packet op dst src flag poison hops epoch _ addr lines tag status data =>
    .packet op dst src flag poison hops epoch seq addr lines tag status data
  | e => e

/-- R159: tee stores of the step that wait behind a re-route are discarded; the packets behind them take their numbers. Those that
have gone keep their place in the stream until they are acknowledged (R264). -/
def StreamOut.dropTees (r : StreamOut) : StreamOut :=
  let keep := r.held.filter (fun o => o.why != .tee)
  let base := (r.next + 2 ^ 32 - r.held.length) % 2 ^ 32
  { r with
    held := (List.zip (List.range keep.length) keep).map (fun x =>
      { x.2 with seq := (base + x.1) % 2 ^ 32, msg := x.2.msg.withSeq ((base + x.1) % 2 ^ 32) }),
    next := (base + keep.length) % 2 ^ 32 }

/-- R316: the twin is lost: the negative frozen at the last mark applied, no tee, no mark, LOST. -/
def State.loseTwin (s : State) : State :=
  let s := s.onStreamOut (streamKey false s.peer) StreamOut.dropTees
  let t := s.twin
  let s1 := if t.markApplied = 0 then s else s.freezeNegative (t.markApplied - 1) t.teeAfterMark false
  let torn := (s1.dv 0x600B00).testBit 65
  let s2 := (s1.setDv 0x600100 4).onTwin (fun t => { attempt := t.attempt, teed := t.teed, markApplied := t.markApplied })
  (s2.recordOf 0x6001 9 47 (s.peer + (if torn then 2 ^ 16 else 0) + (t.markApplied - 1) % 2 ^ 64 * 2 ^ 64)).teeSettle t.teeSince

/-- Whether heartbeats pass between the twins (R315). -/
def State.beating (s : State) : Bool := s.twinState == 2 || s.twinState == 3

/-- TWIN_LOST (R316): 3 ms without a heartbeat counted. -/
def execTwinLost (t : Nat) (s : State) : Host.Outcome State Fault Refusal :=
  let s1 := s.tick t
  .next (if s1.beating && decide (s1.twin.lastBeat + 3000000 ≤ s1.now) then s1.loseTwin else s1)

/-- R316: the status of a release of the frozen negative. -/
def State.releaseStatus (s : State) : Nat :=
  if (s.dv 0x600B00).testBit 64 ∨ s.twinState = 4 then St.ok else St.twinState

/-- R312, R316: the frozen negative is discarded; LOST ends. -/
def State.releaseNegative (s : State) : State :=
  let s1 := s.setDv 0x600B00 0
  let s2 := if s.mirrorH = 0 then s1 else s1.wrNat (s.inboundLow * 2 ^ 21 + 0x48) 1 0
  if s.twinState = 4 then s2.unpair else s2

/-- RELEASE_FROZEN_NEGATIVE (R316). -/
def execReleaseFrozenNegative (m : Master) (s : State) : Host.Outcome State Fault Refusal :=
  .next (if s.twinCommand m && s.releaseStatus == 0 then s.releaseNegative else s)

/-! ### Detach (R317) -/

/-- R317: a detach command on a PAIRED module. -/
def State.detachNow (s : State) : State :=
  (s.setDv 0x600100 3).onTwin (fun t => { t with detachAt := some s.now, detachOwn := true })

/-- R317: the status of a detach command. -/
def State.detachStatus (s : State) : Nat := if s.twinState = 2 then St.ok else St.twinState

/-- DETACH_COMMAND (R317). -/
def execDetachCommand (m : Master) (t : Nat) (s : State) : Host.Outcome State Fault Refusal :=
  let s1 := s.tick t
  .next (if s1.twinCommand m && s1.detachStatus == 0 then s1.detachNow else s1)

/-- DETACH_TIMEOUT (R317): no RELEASE within 0x600D:00, counted from the detach command (DESIGN CHOICE, log entry 191). -/
def execDetachTimeout (t : Nat) (s : State) : Host.Outcome State Fault Refusal :=
  let s1 := s.tick t
  .next (match s1.twin.detachAt with
    | some a =>
      if s1.twinState == 3 && s1.twin.detachOwn && decide (a + s1.dv 0x600D00 * 1000000 ≤ s1.now) then s1.loseTwin else s1
    | none => s1)

/-- R317: a DETACH received: the peer's negative is released and complete at its step. -/
def State.gotDetach (s : State) (step : Nat) : State :=
  if s.twinState = 2 then
    ((s.freezeNegative step false true).setDv 0x600100 3).onTwin (fun t => { t with detachGot := true, detachAt := some s.now })
  else if s.twinState = 3 ∧ s.twin.detachOwn = true then
    let s1 := (s.freezeNegative step false true).onTwin (fun t => { t with detachGot := true })
    if s.twin.detachSent then s1.unpair else s1
  else s

/-- R317: a RELEASE received by the sender of a DETACH. -/
def State.gotRelease (s : State) (step : Nat) : State :=
  if s.twinState = 3 ∧ s.twin.detachSent = true then (s.freezeNegative step false true).unpair else s

/-! ### Records received (R311, R312) -/

/-- R311: whether a record keeps its layout: magic, version, kind, and zeros in the reserved fields. -/
def recordGood (r : List Byte) : Bool :=
  numAt r 0 4 == 0x314E5754 && numAt r 5 1 == 1 && decide (1 ≤ numAt r 4 1) && decide (numAt r 4 1 ≤ 6) && decide (numAt r 15 1 ≤ 1) &&
    (r.drop 108).all (· == 0)

/-- R3, R310, R416: a store into the mailbox that breaks its rules is recorded. -/
def State.rejectMail (s : State) (src addr : Nat) : State := s.recordOf 0x6003 9 47 (src + addr * 2 ^ 64)

/-- R311, R312: a pairing record that has been stored into the mailbox. An OFFER opens the peer's attempt, also while this module is still
to pair, until the peer refuses or releases it; a record of another attempt is ignored, one that breaks the layout is a fault of the interface (R3, log entry 152). -/
def State.gotRecord (s : State) (src : Nat) (r : List Byte) : State :=
  let kind := numAt r 4 1
  let step := numAt r 88 8
  let same := match s.twin.offer with | some o => numAt o 8 4 == numAt r 8 4 | none => false
  let waits := s.twinState == 0 || s.twinState == 4
  if !recordGood r then s.rejectMail src mailboxBase
  else if kind = 1 then
    if waits then s.onTwin (fun t => { t with offer := some r })
    else if s.twinState = 1 then (s.onTwin (fun t => { t with offer := some r })).handshake
    else s
  else if !same then s
  else if kind = 2 then
    if s.twinState = 1 then (s.onTwin (fun t => { t with peerEvidence := some (numAt r 96 4) })).handshake else s
  else if kind = 3 then
    if s.twinState = 1 then (s.onTwin (fun t => { t with gotAccept := true })).handshake else s
  else if waits && (kind == 4 || kind == 6) then s.onTwin (fun t => { t with offer := none })
  else if kind = 4 then (if s.twinState = 1 then s.endPairing (numAt r 12 2) else s)
  else if kind = 5 then s.gotDetach step
  else if kind = 6 then s.gotRelease step
  else s

/-! ### Heartbeats (R315) -/

/-- R315: the heartbeat line; before the first mark sent or applied its field is 0 (DESIGN CHOICE, log entry 198). -/
def State.beatLine (s : State) (port : Nat) : List Byte :=
  let t := s.twin
  leBytes 4 0x314E5754 ++ leBytes 1 7 ++ leBytes 1 port ++ leBytes 2 s.node ++ leBytes 8 t.sent ++ leBytes 8 s.now ++
    leBytes 8 (t.markSent - 1) ++ leBytes 8 (t.markApplied - 1) ++ leBytes 1 s.twinState ++ leBytes 23 0

/-- R315: a heartbeat on P0 and on P1, each where it is UP. -/
def State.sendBeat (s : State) : State :=
  let s1 := s.onTwin (fun t => { t with sent := t.sent + 1, lastSentAt := s.now })
  [0, 1].foldl (fun x p =>
    if x.portUp p then
      x.egressPort p (.packet 0x33 x.peer x.node false false 0 (x.streamOut x.peer).epoch.toNat 0 0 1 0 0 (x.beatLine p))
    else x) s1

/-- HEARTBEAT_SEND (R315): every 1 ms. -/
def execHeartbeatSend (t : Nat) (s : State) : Host.Outcome State Fault Refusal :=
  let s1 := (s.tick t).teeRun
  .next (if s1.beating && decide (s1.twin.lastSentAt + 1000000 ≤ s1.now) then s1.sendBeat else s1)

/-- R315: a heartbeat line written into the mailbox counts when its count is higher than the last one received. -/
def State.countBeat (s : State) (port : Nat) : State :=
  let line := s.rdBytes (mailboxBase + 0x100 + 64 * port) 64
  if s.beating && decide (s.twin.lastCount < numAt line 8 8) then
    s.onTwin (fun t => { t with lastCount := numAt line 8 8, lastBeat := s.now, peerApplied := numAt line 32 8 + 1 })
  else s

/-- R315, R316: a heartbeat line from the twin on a port: written into the mailbox, counted when its count is higher; in LOST
ignored and counted in 0x600C:00. -/
def State.gotBeat (s : State) (port : Nat) (line : List Byte) : State :=
  if s.twinState = 4 then s.bump 0x600C00 1
  else
    (s.wrBytes (mailboxBase + 0x100 + 64 * port) (line.take 64)).countBeat port

/-! ### Stores into the mailbox (R310) -/

/-- R310: whether the peer may write an offset of the mailbox. -/
def mailArea (off : Nat) : Bool := decide (off < 0x180) || (decide (0x10000 ≤ off) && decide (off < 0x20000))

/-- R310, R315: a store into the mailbox from byte `off` on: what falls in the peer's areas (its pairing record, heartbeat lines and
evidence) is written; the rest is ignored, and recorded. -/
def State.mailboxStore (s : State) (src off : Nat) (bs : List (Option Byte)) : State :=
  let named := (List.zip (List.range bs.length) bs).filterMap (fun p => p.2.map (fun b => (off + p.1, b)))
  let mine := if src = s.peer then named.filter (fun p => mailArea p.1) else []
  let s1 := mine.foldl (fun (x : State) p => x.wrBytes (mailboxBase + p.1) [p.2]) s
  let at' := mine.map (·.1)
  let s2 := if (List.range 256).all at'.contains then s1.gotRecord src (s1.rdBytes mailboxBase 256) else s1
  let s3 := [0, 1].foldl (fun (x : State) n => if at'.any (fun a => a / 64 == 4 + n) then x.countBeat n else x) s2
  if src = s.peer ∧ mine.length = named.length then s3 else s3.rejectMail src (mailboxBase + off)

/-! ### The tee received (R158, R159, R322) -/

/-- R316: whether stores of the twin are applied as tee stores. -/
def State.teeOpen (s : State) : Bool := s.beating

/-- R322: whether a range lies in the inbound half of the mirror area. -/
def State.inboundHalf (s : State) (a n : Nat) : Bool :=
  match place a with
  | .lpddr near =>
    let i := near % 2 ^ 36 / 2 ^ 21
    decide (0 < s.mirrorH) && decide (s.inboundLow ≤ i) && decide ((near + n - 1) % 2 ^ 36 / 2 ^ 21 < s.inboundLow + s.mirrorH) &&
      near / 2 ^ 36 == (near + n - 1) / 2 ^ 36
  | _ => false

/-- R322: a tee store outside the inbound half is discarded; recorded, and the negative held is torn. -/
def State.rejectTee (s : State) (src a : Nat) : State :=
  let v := s.dv 0x600B00
  (s.setDv 0x600B00 (if v.testBit 65 then v else v + 2 ^ 65)).recordOf 0x6002 9 47 (src + a * 2 ^ 64)

/-- R159: the mark of a step is applied: every tee store before it has been. -/
def State.applyMark (s : State) (step : Nat) : State :=
  if s.teeOpen then s.onTwin (fun t => { t with markApplied := step + 1, teeAfterMark := false }) else s

end Sys2Proof.Machine
end

