-- ==== Sys2Proof/Machine/Inbound.lean ====
section
/-!
DEFINITION. What arrives: packets and their forwarding (R257, R262), rights of peers and of the companion (R263, R307, R309),
streams (R264, R265, R303) and the requests' effect at every place of the address map (R165, R168, R177, R185, R213, R258, R273,
R302).
-/

namespace Sys2Proof.Machine

/-! ### Packets -/

/-- The opcode of a request kind (R258, R302); a tee mark is a STORE. -/
def kindOp (k : ReqKind) : Nat :=
  match k with
  | .load => 0x01 | .store => 0x02 | .atomic => 0x03 | .add => 0x04 | .get => 0x05
  | .rdShared => 0x08 | .rdOwn => 0x09 | .writeback => 0x0A | .evict => 0x0B | .mark => 0x02

/-- The right a request needs: 0 read, 1 store, 2 add and atomic, 3 coherent (R263, R307). -/
def kindBit (k : ReqKind) : Nat :=
  match k with
  | .load => 0 | .get => 0 | .store => 1 | .mark => 1 | .atomic => 2 | .add => 2
  | .rdShared => 3 | .rdOwn => 3 | .writeback => 3 | .evict => 3

/-- The access kind in an ADDRESS_FAULT record: 1 read, 2 write, 3 add or atomic (R416). -/
def kindAccess (k : ReqKind) : Nat := if kindBit k = 2 then 3 else if k = .store ∨ k = .mark ∨ k = .writeback then 2 else 1

/-- The data as they go on to another node: a partial store's byte mask stands before its line (R302). -/
def wireData (p : Packet) : List Byte := if p.mask = BitVec.allOnes 64 then p.data else leBytes 8 p.mask.toNat ++ p.data

/-- The bytes a store names, from its first address on (R258, R302): a masked line, or the data as they are. -/
def storedOf (p : Packet) : Nat × List (Option Byte) :=
  let a := p.addr.toNat % 2 ^ 48
  if p.mask = BitVec.allOnes 64 then (a, (p.data.take (pktBytes p)).map some)
  else (a / 64 * 64, maskedBytes p.mask p.data)

/-- R257, R263, R301: a packet that is not taken: NAK, and a record of class FABRIC_DENIED. -/
def State.refusePacket (s : State) (p : Packet) (op st : Nat) : State :=
  let at' := match p.via with | .fabric n => (9, 40 + n.val / 2) | .traek => (10, 46)
  let r := s.mkRec 0x5004 at'.1 at'.2 (s.requester p + op * 2 ^ 16 + p.addr.toNat * 2 ^ 64)
  (s.record { r with status := st }).nakTo p st

/-! ### Forwarding (R262) -/

/-- R271: whether a node is in the domain list. -/
def State.inDomain (s : State) (n : Nat) : Bool :=
  (List.range 8).any (fun k => natFld (s.dv (0x500301 + k)) 2 1 != 0 && natFld (s.dv (0x500301 + k)) 0 2 == n)

/-- R262: a packet for another member of the domain goes on by this module's routes; a fourth forward, or one outside the
domain, is NAKed. -/
def State.forward (s : State) (p : Packet) (op : Nat) : State :=
  let dst := p.dst.toNat
  if p.hops.toNat < 3 && s.inDomain dst && (s.routeFrom p.src.toNat dst).isSome then
    s.sendFrom p.src.toNat op dst p.flag p.poison (p.hops.toNat + 1) p.epoch.toNat p.seq.toNat p.addr.toNat p.length.toNat p.tag.toNat
      p.op.toNat (wireData p)
  else s.nakTo p St.noRoute

/-- R304: a packet for this module's companion: snoops go to it over the Traek link, by the line's global address; responses
answer what was relayed for it. -/
def State.forCompanion (s : State) (p : Packet) (op : Nat) (go : State → State) : State :=
  if op = 0x10 ∨ op = 0x11 then
    (if s.traekUp then s.sendTraek op 0 (p.src.toNat * 2 ^ 48 + p.addr.toNat % 2 ^ 48) 0 0 false [] else s)
  else if 0x80 ≤ op ∨ op ≤ 0x05 then go s
  else s.nakTo p St.noRoute

/-- The bytes a packet or message took in the receive buffer (R257, R301): header, mask of a partial line, data. -/
def pktSize (p : Packet) : Nat := (match p.via with | .fabric _ => 24 | .traek => 16) + (wireData p).length

/-- R254, R284: whether a packet still holds its receive buffer: a collective one that waits for the holdback, a request that waits for
its line (R273). -/
def State.withheld (s : State) (p : Packet) : Bool :=
  s.parked.any (fun x => x.key == 0x501900 && x.pkt == p) || s.lineWait.any (fun r => r.pkt == p && !r.owes)

/-- A request that waits for its line gives its receive buffer back when it goes on. -/
def State.keepBuffer (s : State) (p : Packet) : State :=
  { s with lineWait := s.lineWait.map (fun r => if r.pkt == p then { r with owes := true } else r) }

/-- R254, R300: the receive buffer of a packet or message is free. -/
def State.freeBuffer (s : State) (p : Packet) (op : Nat) : State :=
  match p.via with
  | .fabric n => s.creditBack n op (pktSize p)
  | .traek => s.traekBack op (pktSize p)

/-- R255, R256, R297: whether a link brings a packet now: it is up, traffic is not held for a retrain, and its port carries more than
idle flits. -/
def State.linkTakes (s : State) (p : Packet) : Bool :=
  match p.via with
  | .traek => s.traek.state == 2
  | .fabric n => s.portUp n && !(s.port n).retraining && s.node != 0xFFFF

/-- A packet or message arrives: on a link that is not up nothing does; a set reserved field is refused (R257, R301); packets
of others are forwarded. Its receive buffer is free again (R254, R300), but for one that still waits in it. -/
def State.arrive (s : State) (p : Packet) (op : Nat) (go : State → State) : State :=
  if !s.linkTakes p then s
  else
    let s1 := if p.rsvd then s.refusePacket p op St.reservedSet
      else match p.via with
        | .traek => go s
        | .fabric _ =>
          if p.dst.toNat = s.node then go s
          else if s.isCompanion p.dst.toNat then s.forCompanion p op go
          else s.forward p op
    if s1.withheld p then s1.keepBuffer p else s1.freeBuffer p op

/-! ### Rights (R263, R307, R309) -/

/-- R263: whether the first inbound rule that holds a request's node and addresses grants its kind. -/
def State.inboundGrants (s : State) (src a n bit : Nat) : Bool :=
  match ((List.range 16).map (fun k => s.dv (0x902001 + k))).find? (fun r =>
    (natFld r 16 1).testBit 7 && decide (natFld r 0 2 ≤ src) && decide (src ≤ natFld r 2 2) && decide (natFld r 4 6 ≤ a) &&
      decide (a + n ≤ natFld r 10 6)) with
  | some r => (natFld r 16 1).testBit bit
  | none => false

/-- R307: the window that holds the `n` bytes of a companion access. -/
def State.traekWindow (s : State) (a n : Nat) : Option Nat :=
  ((List.range 16).map (fun k => s.dv (0x903001 + k))).find? (fun w =>
    (natFld w 24 1).testBit 7 && natFld w 8 8 != 0 && decide (natFld w 0 8 ≤ a) && decide (a + n ≤ natFld w 0 8 + natFld w 8 8))

/-- R307, R309, R402: the local address of a companion request, or the status that stops it. -/
def State.traekTarget (s : State) (a n bit : Nat) : Nat ⊕ Nat :=
  match s.traekWindow a n with
  | none => .inr St.addressUnmapped
  | some w =>
    if (natFld w 24 1).testBit 4 then .inr St.dictOnly
    else if (natFld w 24 1).testBit bit then .inl ((natFld w 16 8 % 2 ^ 48 + (a - natFld w 0 8)) % 2 ^ 48)
    else .inr St.fabricDenied

/-! ### Lines and channels -/

/-- A read or store that memory stops (R227, R229, R445). -/
def State.nakMem (s : State) (r : ChanReq) (st : Nat) : State :=
  if st = St.memoryDenied ∨ st = St.addressUnmapped then s.nakFault r.pkt (kindAccess r.kind) r.line st else s.nakTo r.pkt st

/-- R217, R350: a read goes to its channel; the region of the controller is called. -/
def State.readLine (s : State) (r : ChanReq) : State :=
  match place r.line with
  | .lpddr near => (s.callRegion (ctrlRegion (pkgOf near))).toChannel r
  | _ => s.serveRead r.pkt r.line

/-- R273: RD_SHARED and RD_OWN of a line: an entry, the directory's action, the data. -/
def State.readCoherent (s : State) (r : ChanReq) (line : Nat) : State × Option Nat :=
  if s.dirFull line then (s.recall line, some 0x500F00)
  else
    let x := s.dirStep r.kind (s.requester r.pkt) line
    if x.2 then (x.1.readLine r, none) else (x.1, some 0)

/-- R273: WRITEBACK by the owner of a line writes it and leaves the line U; by another, NAK (its status is not stated: a free
value). `write` stores the line. -/
def State.writeBack (s : State) (r : ChanReq) (line : Nat) (write : State → State) : State × Option Nat :=
  if s.snooping line then (s, some 0)
  else match s.dirState line with
    | .e o _ => if o = s.requester r.pkt then (write (s.setDir line .u), none)
      else (s.drawn.nakTo r.pkt (freeAt s.fresh 0 % 65536), none)
    | _ => (s.drawn.nakTo r.pkt (freeAt s.fresh 0 % 65536), none)

/-- R273: EVICT removes the agent's copy. -/
def State.evictLine (s : State) (r : ChanReq) (line : Nat) : State × Option Nat :=
  if s.snooping line then (s, some 0)
  else
    let a := s.requester r.pkt
    let d := match s.dirState line with
      | .u => DirState.u
      | .s hs t => if (hs.filter (· != a)).isEmpty then .u else .s (hs.filter (· != a)) t
      | .e o t => if o = a then .u else .e o t
    ((s.setDir line d).ackTo r.pkt, none)

/-! ### Stores to LPDDR (R223, R316, R322) -/

/-- A store to plain memory, line by line; it is acknowledged when nothing of it waits (R266). -/
def State.storeLines (s : State) (p : Packet) (a : Nat) (bs : List (Option Byte)) : State :=
  let first := a / 64
  let n := (a + bs.length - 1) / 64 + 1 - first
  let s1 := (List.range n).foldl (fun x i =>
    let l := lineBytes a bs (64 * (first + i))
    (x.partialStore (memKey (64 * (first + i))) l.1 l.2 (s.requester p) (some p) p.poison).1) s
  s1.ackWhenDone p

/-- R316, R322: whether a store is a tee store: the paired or lost twin's, into the mirror area (log entry 35). -/
def State.isTee (s : State) (p : Packet) (a : Nat) : Bool :=
  (match p.via with | .fabric _ => true | .traek => false) && p.src.toNat == s.peer && (s.beating || s.twinState == 4) &&
    decide (0 < s.mirrorH) &&
    (match place a with
      | .lpddr near => decide (s.mirrorF ≤ near % 2 ^ 36 / 2 ^ 21) && decide (near % 2 ^ 36 / 2 ^ 21 < s.mirrorF + 2 * s.mirrorH)
      | _ => false)

/-- A STORE to LPDDR. -/
def State.storeLpddr (s : State) (r : ChanReq) (a : Nat) (bs : List (Option Byte)) : State :=
  let st := s.memStatus a bs.length .outside true
  if s.isTee r.pkt a && !s.teeOpen then s.ackTo r.pkt
  else if s.isTee r.pkt a && !s.inboundHalf a bs.length then (s.rejectTee r.pkt.src.toNat a).ackTo r.pkt
  else if st ≠ 0 then s.nakMem r st
  else
    let s1 := if s.isTee r.pkt a then s.onTwin (fun t => { t with teeAfterMark := true }) else s
    s1.storeLines r.pkt a bs

/-- A request to LPDDR. -/
def State.lpddrReq (s : State) (r : ChanReq) (near : Nat) : State × Option Nat :=
  let n := pktBytes r.pkt
  let line := lineOf near
  match r.kind with
  | .load =>
    let st := s.memStatus r.line n .outside false
    if st ≠ 0 then (s.nakMem r st, none)
    else
      let x := s.accessRange r.line n false
      if x.2 then (x.1.readLine r, none) else (x.1, some 0)
  | .get =>
    let st := s.memStatus r.line n .outside false
    if st ≠ 0 then (s.nakMem r st, none)
    else
      let x := s.accessRange r.line n false
      if x.2 then (x.1.readLine r, none) else (x.1, some 0)
  | .rdShared =>
    let st := s.memStatus r.line n .outside false
    if st ≠ 0 then (s.nakMem r st, none) else s.readCoherent r line
  | .rdOwn =>
    let st := s.memStatus r.line n .outside false
    if st ≠ 0 then (s.nakMem r st, none) else s.readCoherent r line
  | .writeback =>
    let st := s.memStatus r.line 64 .outside true
    if st ≠ 0 then (s.nakMem r st, none)
    else s.writeBack r line (fun x => x.storeLines r.pkt (r.line / 64 * 64) (r.pkt.data.map some))
  | .evict => s.evictLine r line
  | _ => (s.storeLpddr r (storedOf r.pkt).1 (storedOf r.pkt).2, none)

/-! ### Adds and atomics (R220, R235) -/

/-- The atomic a packet carries: operation field bits 2:0 kind, bit 3 wide, bit 4 signed; operand and compare operand in its
line (log entry 36). `none`: a reserved kind. -/
def packetAtom (p : Packet) : Option Atom :=
  let k := p.op.toNat % 8
  let mk := fun kind => some ({
    kind := kind, wide := p.op.toNat.testBit 3, signed := p.op.toNat.testBit 4, operand := BitVec.ofNat 64 (numAt p.data 0 8),
    compare := BitVec.ofNat 64 (numAt p.data 8 8) } : Atom)
  match k with
  | 0 => mk .add | 1 => mk .min | 2 => mk .max | 3 => mk .swap | 4 => mk .cas
  | _ => none

/-- The element type of an ADD packet (R235, R258). -/
def packetAdd (p : Packet) : Option AddKind :=
  match p.op.toNat with
  | 0 => some .fp32 | 1 => some .bf16 | 2 => some .int32 | 3 => some .int64
  | _ => none

/-- An ATOMIC at a local address. -/
def State.atomicReq (s : State) (r : ChanReq) : State :=
  match packetAtom r.pkt with
  | none => s.refusePacket r.pkt 0x03 St.reservedSet
  | some x =>
    s.submitAdd (.atom (BitVec.ofNat 48 r.line) x) .outside (s.requester r.pkt) (sourceOf r.pkt.via) (some r.pkt)

/-- An ADD at a local address, line by line; data that carry poison store it (R211). -/
def State.addReq (s : State) (r : ChanReq) : State :=
  match packetAdd r.pkt with
  | none => s.refusePacket r.pkt 0x04 St.reservedSet
  | some k =>
    let inLpddr := match place r.line with | .lpddr _ => r.line % 64 == 0 | _ => false
    if r.pkt.poison && inLpddr then s.storeLpddr r r.line (r.pkt.data.map some)
    else
      let x := (List.range (max 1 r.pkt.length.toNat)).foldl (fun (x : State × Nat) i =>
        let o := AdderOp.line (BitVec.ofNat 48 (r.line + 64 * i)) k ((r.pkt.data.drop (64 * i)).take 64)
        match x.1.submitTry o .outside (s.requester r.pkt) (sourceOf r.pkt.via) (some r.pkt) with
        | (s1, some out) => (s1, worse x.2 out.status)
        | (s1, none) => (s1, x.2)) (s, 0)
      if x.2 ≠ 0 then x.1.nakTo r.pkt x.2 else x.1.ackWhenDone r.pkt

/-! ### Queue table and watch lines (R165 to R169, R305) -/

/-- R166: a field of a queue table entry that hardware writes. -/
def hardwareByte (i : Nat) : Bool :=
  i == 3 || (decide (16 ≤ i) && decide (i < 24)) || (decide (32 ≤ i) && decide (i < 42)) || (decide (44 ≤ i) && decide (i < 48))

/-- R168: a byte that the enable latches. -/
def latchedByte (i : Nat) : Bool :=
  (decide (1 ≤ i) && decide (i < 6)) || (decide (8 ≤ i) && decide (i < 16)) || (decide (24 ≤ i) && decide (i < 32))

/-- R165, R168: a store to bytes of a queue table entry, from byte `off` on: latched bytes of an enabled queue stay, with a
record; bytes hardware writes stay; then the enable bit acts. -/
def State.entryStore (s : State) (q off : Nat) (bs : List (Option Byte)) : State :=
  let e := (s.queue q).entry
  let named := (List.zip (List.range bs.length) bs).filterMap (fun x => x.2.map (fun b => (off + x.1, b.toNat)))
  let kept := named.filter (fun x => qEnabled e && latchedByte x.1)
  let put' := named.filter (fun x => x.1 != 0 && !hardwareByte x.1 && !(qEnabled e && latchedByte x.1))
  let e1 := put'.foldl (fun e x => setFld e x.1 1 x.2) e
  let s1 := s.onQueue q (fun r => { r with entry := e1 })
  let s2 := match kept with
    | x :: _ => s1.record { s1.mkRec 0xA002 0 47 x.1 with queue := q }
    | [] => s1
  match named.find? (fun x => x.1 == 0) with
  | none => s2
  | some b =>
    let s3 := s2.onQueue q (fun r => { r with entry := setFld r.entry 0 1 (fld r.entry 0 1 % 8 + b.2 / 8 * 8) })
    if b.2 % 2 = 1 then (if qEnabled e && !qFaulted e then s3 else s3.enableQueue q)
    else if qEnabled e then s3.disableQueue q else s3

/-- R167: a store to bytes of a watch line, from byte `off` on. -/
def State.watchMasked (s : State) (q off : Nat) (bs : List (Option Byte)) : State :=
  let w := (s.queue q).watch
  let w1 := (List.zip (List.range bs.length) bs).foldl (fun w x => match x.2 with
    | some b => setFld w (off + x.1) 1 b.toNat
    | none => w) w
  ((s.onQueue q (fun r => { r with watch := w1 })).wakeQueue q w).settled

/-- R165: a store to the queue window, line by line; outside entries and watch lines it changes nothing and is recorded. -/
def State.queueStore (s : State) (node off : Nat) (bs : List (Option Byte)) : State :=
  let n := (off + bs.length - 1) / 64 + 1 - off / 64
  (List.range n).foldl (fun x i =>
    let l := off / 64 + i
    let lo := max off (64 * l)
    let part := (bs.drop (lo - off)).take (64 * l + 64 - lo)
    if l < 256 then x.entryStore l (lo % 64) part
    else if 1024 ≤ l ∧ l < 1280 then x.watchMasked (l - 1024) (lo % 64) part
    else x.addressFault 2 node (0x200000000000 + lo) 0 0) s

/-- The queue whose watch line lies at a window offset. -/
def watchOf (off : Nat) : Option Nat := if 0x10000 ≤ off ∧ off < 0x14000 then some ((off - 0x10000) / 64) else none

/-- R305: the companion takes a watch line in E: the engine wakes and reads it, which snoops the companion. -/
def State.wakeOwner (s : State) (off line : Nat) : State :=
  match watchOf off, s.dirState line with
  | some _, .e o _ => if s.snooping line then s else s.snoop line o true
  | _, _ => s

/-- A request to the queue window. -/
def State.queueReq (s : State) (r : ChanReq) (off : Nat) : State × Option Nat :=
  let line := lineOf r.line
  match r.kind with
  | .load => let x := s.access line false; if x.2 then (x.1.serveRead r.pkt r.line, none) else (x.1, some 0)
  | .get => let x := s.access line false; if x.2 then (x.1.serveRead r.pkt r.line, none) else (x.1, some 0)
  | .rdShared => s.readCoherent r line
  | .rdOwn =>
    let x := s.readCoherent r line
    match x.2 with
    | none => (x.1.wakeOwner off line, none)
    | some k => (x.1, some k)
  | .writeback =>
    s.writeBack r line (fun x => (x.queueStore (s.requester r.pkt) (off / 64 * 64) (r.pkt.data.map some)).ackTo r.pkt)
  | .evict => s.evictLine r line
  | .atomic => (s.atomicReq r, none)
  | .add => (s.addReq r, none)
  | _ =>
    let x := s.access line true
    if x.2 then ((x.1.queueStore (s.requester r.pkt) ((storedOf r.pkt).1 % 2 ^ 32 + (off - off % 2 ^ 32)) (storedOf r.pkt).2).ackTo r.pkt, none)
    else (x.1, some 0)

/-! ### Arrival counters (R177) -/

/-- The one aligned 64-bit word a store names, with its offset in the stored bytes. -/
def wordOf (a : Nat) (bs : List (Option Byte)) : Option (Nat × Nat) :=
  let named := (List.zip (List.range bs.length) bs).filterMap (fun x => x.2.map (fun b => (a + x.1, b)))
  match named with
  | [] => none
  | (lo, _) :: _ =>
    if lo % 8 = 0 ∧ named.length = 8 ∧ named.map (·.1) = (List.range 8).map (lo + ·) then some (lo, leNat (named.map (·.2))) else none

/-- R177: a request to the counter window: 64-bit loads, stores (operation field 1: an addition, log entry 22) and ADD atomics;
every other width is recorded and changes nothing. -/
def State.counterReq (s : State) (r : ChanReq) (off : Nat) : State :=
  let node := s.requester r.pkt
  match r.kind with
  | .load =>
    if r.pkt.length = 0 ∧ off % 8 = 0 then s.serveRead r.pkt r.line
    else
      let n := pktBytes r.pkt
      (s.drawn.addressFault 1 node r.line 15 0).dataTo r.pkt ((List.range n).map (fun i => BitVec.ofNat 8 (freeAt s.fresh i)))
  | .store =>
    match wordOf (storedOf r.pkt).1 (storedOf r.pkt).2 with
    | some (a, v) =>
      let o := off + a - r.line
      if a % 8 = 0 ∧ o < 0x8000 then
        (s.counterUpdate { counter := o / 8, set := r.pkt.op != 1, value := BitVec.ofNat 64 v, source := sourceOf r.pkt.via, since := s.now }).ackTo r.pkt
      else (s.addressFault 2 node r.line 15 0).ackTo r.pkt
    | none => (s.addressFault 2 node r.line 15 0).ackTo r.pkt
  | .atomic => s.atomicReq r
  | .add => s.addReq r
  | .get =>
    let n := pktBytes r.pkt
    (s.drawn.addressFault 1 node r.line 15 0).dataTo r.pkt ((List.range n).map (fun i => BitVec.ofNat 8 (freeAt s.fresh i)))
  | _ => s.nakFault r.pkt (kindAccess r.kind) r.line St.addressUnmapped

/-! ### Relayed requests (R260, R304) -/

/-- R301, R302: whether a request goes to the companion in pieces of 64 lines: a load, GET or store. -/
def piecewise (k : ReqKind) : Bool := k == .load || k == .get || k == .store || k == .mark

/-- The request that a piece of a relayed one is, from its line `done` on: whole to another module, a LOAD or STORE of at most 64
lines to the companion (R301, R302). -/
def State.relayAsk (s : State) (k : ReqKind) (p : Packet) (dst a done : Nat) : Ask :=
  let own := (match p.via with | .traek => true | .fabric _ => false)
  if s.isCompanion dst && piecewise k then
    let n := min 64 (p.length.toNat - done)
    { op := if kindBit k = 0 then 0x01 else 0x02, poison := p.poison, addr := a, lines := n,
      data := if kindBit k = 0 then [] else if p.length.toNat ≤ 64 then wireData p else (p.data.drop (64 * done)).take (64 * n),
      why := .relay k p (done + n), relayed := own }
  else
    { op := kindOp k, flag := p.flag, poison := p.poison, addr := a, lines := p.length.toNat, aop := p.op.toNat, data := wireData p,
      why := .relay k p p.length.toNat, relayed := own }

/-- A piece of a relayed request goes out, or its status answers the request. -/
def State.relayPiece (s : State) (k : ReqKind) (p : Packet) (dst a done : Nat) : State :=
  let x := s.ask dst (sourceOf p.via) (s.relayAsk k p dst a done)
  if x.2 = St.hostDenied then x.1.nakFault p (kindAccess k) a x.2
  else if x.2 ≠ 0 then x.1.nakTo p x.2 else x.1

/-- R260, R304: a request that a window sends on to another node; the companion's go out with its node ID as source. No adder serves
companion memory (R220). -/
def State.relay (s : State) (r : ChanReq) (dst a : Nat) : State :=
  if s.isCompanion dst ∧ r.kind = .add then s.nakFault r.pkt 3 a St.transferTarget
  else s.relayPiece r.kind { r.pkt with data := if kindBit r.kind = 0 then [] else r.pkt.data } dst a 0

/-- A request whose address goes on through a fabric window. -/
def State.windowReq (s : State) (r : ChanReq) (off : Nat) : State :=
  match s.window off with
  | .companion n a => if kindBit r.kind = 3 then s.nakFault r.pkt (kindAccess r.kind) r.line St.addressUnmapped else s.relay r n a
  | .away n a => s.relay r n a
  | _ => s.nakFault r.pkt (kindAccess r.kind) r.line St.addressUnmapped

/-! ### Every place of the map (R213) -/

/-- A request to a scratchpad. -/
def State.scratchReq (s : State) (r : ChanReq) : State :=
  match r.kind with
  | .load => s.serveRead r.pkt r.line
  | .get => s.serveRead r.pkt r.line
  | .store =>
    let b := (storedOf r.pkt)
    let s1 := s.storeMem b.1 b.2
    (if r.pkt.poison then s1.markRange b.1 b.2.length .poisoned else s1).ackTo r.pkt
  | .atomic => s.atomicReq r
  | .add => s.addReq r
  | _ => s.nakFault r.pkt (kindAccess r.kind) r.line St.addressUnmapped

/-- A request to a control block that is read and not stored: the descriptor window records a store (R185). -/
def State.controlReq (s : State) (r : ChanReq) (recorded : Bool) : State :=
  match r.kind with
  | .load => s.serveRead r.pkt r.line
  | .get => s.serveRead r.pkt r.line
  | .store => (if recorded then s.addressFault 2 (s.requester r.pkt) r.line 6 0 else s).ackTo r.pkt
  | .atomic => s.atomicReq r
  | .add => s.addReq r
  | _ => s.nakFault r.pkt (kindAccess r.kind) r.line St.addressUnmapped

/-- R350, R382: whether memory does not serve requests now: a coolant stop, or the controller's region asleep. -/
def State.memoryAsleep (s : State) (near : Nat) : Bool :=
  let p := (s.region (ctrlRegion (pkgOf near))).power
  s.cooling.stopped || p == 1 || p == 2

/-- A request at its local address: done and answered, or waiting for the counter given (0: none). One to memory that sleeps
asks its region to wake and waits at the ingress. -/
def State.tryReq (s : State) (r : ChanReq) : State × Option Nat :=
  match place r.line with
  | .lpddr near =>
    if s.memoryAsleep near then (s.callRegion (ctrlRegion (pkgOf near)), some 0)
    else if r.kind = .atomic then (s.atomicReq r, none)
    else if r.kind = .add then (s.addReq r, none)
    else s.lpddrReq r near
  | .scratch _ =>
    let c := (r.line - 0x100000000000) / 0x2000000
    if (s.region c).power = 1 ∨ (s.region c).power = 2 then (s.callRegion c, some 0)
    else if s.memStatus r.line (pktBytes r.pkt) .outside false ≠ 0 then (s.nakFault r.pkt (kindAccess r.kind) r.line St.addressUnmapped, none)
    else (s.scratchReq r, none)
  | .queues off => s.queueReq r off
  | .counters off => (s.counterReq r off, none)
  | .descs _ => (s.controlReq r true, none)
  | .mailbox off =>
    if r.kind = .store then
      ((s.mailboxStore (s.requester r.pkt) (off + (storedOf r.pkt).1 - r.line) (storedOf r.pkt).2).ackTo r.pkt, none)
    else (s.controlReq r false, none)
  | .csr => (s.controlReq r false, none)
  | .dictionary => (s.nakTo r.pkt St.dictOnly, none)
  | .fabric off => (s.windowReq r off, none)
  | .unmapped => (s.nakFault r.pkt (kindAccess r.kind) r.line St.addressUnmapped, none)

/-- R273: requests to one line are handled one at a time in arrival order. -/
def State.startReq (s : State) (r : ChanReq) : State :=
  if s.lineWait.any (fun x => lineOf x.line == lineOf r.line) then { s with lineWait := s.lineWait ++ [{ r with since := s.now }] }
  else
    let x := s.tryReq r
    match x.2 with
    | none => x.1
    | some k => { x.1 with lineWait := x.1.lineWait ++ [{ r with since := s.now, key := k }] }

/-- The waiting requests are tried again, in order. -/
def State.retryLines (s : State) : State :=
  s.lineWait.foldl (fun x r =>
    if x.lineWait.any (fun y => lineOf y.line == lineOf r.line) then { x with lineWait := x.lineWait ++ [r] }
    else
      let y := x.tryReq r
      match y.2 with
      | none =>
        let s1 := if r.key = 0 then y.1 else y.1.surge r.key r.since
        if r.owes then s1.freeBuffer r.pkt (kindOp r.kind) else s1
      | some k => { y.1 with lineWait := y.1.lineWait ++ [{ r with key := k }] }) { s with lineWait := [] }

/-! ### Streams (R264, R265, R303) -/

/-- R159: a tee mark of the twin: bytes 0–7 its step. -/
def State.markReq (s : State) (p : Packet) : State :=
  if p.src.toNat = s.peer then (s.applyMark (numAt p.data 0 8)).ackTo p else s.refusePacket p 0x02 St.fabricDenied

/-- R263, R307, R309: a request of the stream reaches the module: checked, and started at its local address. A GET of fewer than 64
lines breaks R258 and is refused as a malformed packet (R3, log entry 175). -/
def State.applyReq (s : State) (kind : ReqKind) (p : Packet) : State :=
  match p.via with
    | .fabric _ =>
      let a := p.addr.toNat % 2 ^ 48
      if kind = .get ∧ p.length.toNat < 64 then s.refusePacket p 0x05 St.reservedSet
      else if s.isCompanion p.dst.toNat then s.relay { kind := kind, pkt := p, line := a, since := s.now } p.dst.toNat a
      else if s.inboundGrants p.src.toNat a (pktBytes p) (kindBit kind) then
        (if kind = .mark then s.markReq p else s.startReq { kind := kind, pkt := p, line := a, since := s.now })
      else s.refusePacket p (kindOp kind) St.fabricDenied
    | .traek =>
      if kind = .mark then s.refusePacket p 0x02 St.fabricDenied
      else match s.traekTarget p.addr.toNat (pktBytes p) (kindBit kind) with
      | .inl a =>
        let q := { p with addr := BitVec.ofNat 64 a }
        s.startReq { kind := kind, pkt := q, line := a, since := s.now }
      | .inr st => if st = St.dictOnly then s.nakTo p st else s.nakFault p (kindAccess kind) p.addr.toNat st

/-- R265, R303: a request that waits for every earlier one of its stream: flagged, or the companion's store or atomic to the
queue table, a watch line or a counter. -/
def State.flaggedReq (s : State) (kind : ReqKind) (p : Packet) : Bool :=
  match p.via with
  | .fabric _ => p.flag || kind == .mark
  | .traek =>
    (kind == .store || kind == .atomic) &&
    (match s.traekTarget p.addr.toNat (pktBytes p) (kindBit kind) with
      | .inl a => (match place a with | .queues _ => true | .counters _ => true | _ => false)
      | .inr _ => false)

/-- The wait of a packet in the holdback goes to its port's counter (R264). -/
def State.endHoldback (s : State) (p : Packet) (since : Nat) : State :=
  match p.via with
  | .fabric n => if since < s.now then s.surge (0x500C01 + n.val) since else s
  | .traek => s

/-- Whether a sequence number lies in a run. -/
def inRun (r : Nat × Nat) (n : Nat) : Bool := decide ((n + 2 ^ 32 - r.1) % 2 ^ 32 ≤ (r.2 + 2 ^ 32 - r.1) % 2 ^ 32)

/-- R264, R269: the packets of a stream that are next in sequence are applied, past runs declared lost. -/
def State.pump (key : Nat) : Nat → State → State
  | 0, s => s
  | fuel + 1, s =>
    let st := s.streamIn key
    match st.skipped.find? (fun x => inRun x st.next) with
    | some x =>
      State.pump key fuel (s.onStreamIn key (fun r => { r with next := (x.2 + 1) % 2 ^ 32, skipped := r.skipped.erase x }))
    | none =>
      match st.held.find? (fun h => h.2.1.seq.toNat == st.next) with
      | none => s
      | some h =>
        if s.flaggedReq h.1 h.2.1 && !(s.unapplied key).isEmpty then s
        else
          let s1 := (s.onStreamIn key (fun r => { r with next := (r.next + 1) % 2 ^ 32, held := r.held.erase h })).endHoldback h.2.1 h.2.2
          State.pump key fuel (s1.applyReq h.1 h.2.1)

/-- Every stream goes on as far as it can. -/
def State.pumpAll (s : State) : State :=
  s.streamsIn.foldl (fun x e => State.pump e.1 (e.2.held.length + e.2.skipped.length) x) s

/-- R264: packets in a port's holdback. -/
def State.holdback (s : State) (port : Fin 8) : Nat :=
  s.streamsIn.foldl (fun n e => n + (e.2.held.filter (fun h => h.2.1.via == .fabric port)).length) 0

/-- R264, R303: a request enters its stream: a duplicate or a lost one is acknowledged and discarded; one ahead of a gap waits
in the holdback, or is NAKed when that is full; the companion's are numbered as they arrive. -/
def State.offerReq (s : State) (kind : ReqKind) (p : Packet) : State :=
  let key := inKey p
  let st := s.streamIn key
  let hold := fun (p : Packet) => State.pump key (st.held.length + st.skipped.length + 1)
    (s.onStreamIn key (fun r => { r with held := r.held ++ [(kind, p, s.now)] }))
  match p.via with
  | .traek => hold { p with seq := BitVec.ofNat 32 (st.next + st.held.length) }
  | .fabric port =>
    let d := (p.seq.toNat + 2 ^ 32 - st.next) % 2 ^ 32
    if 2 ^ 31 ≤ d ∨ st.held.any (fun h => h.2.1.seq == p.seq) ∨
        st.skipped.any (fun x => inRun x p.seq.toNat) then s.ackTo p
    else if d ≠ 0 ∧ 256 ≤ s.holdback port then s.nakTo p St.fabricBusy
    else hold p

/-- What goes on after a change: streams, transfers, commands that wait for data or for a line, completions. -/
def State.goOn (s : State) : State := ((s.pumpAll.runTransfers).runEngines).settled

/-- A request packet of the fabric or message of the companion. -/
def State.request (s : State) (kind : ReqKind) (p : Packet) : State :=
  s.arrive p (kindOp kind) (fun s => (s.offerReq kind p).goOn)

/-- The same for opcodes the Traek link does not carry (R301, R302). -/
def State.fabricOnly (s : State) (kind : ReqKind) (p : Packet) : State :=
  match p.via with
  | .fabric _ => s.request kind p
  | .traek => s.arrive p (kindOp kind) (fun s => s.refusePacket p (kindOp kind) St.reservedSet)

end Sys2Proof.Machine
end

