-- ==== Sys2Proof/Machine/Responses.lean ====
section
/-!
DEFINITION. Responses to the module's own requests and to those it relays: DATA, ACK and NAK (R258, R264, R266, R302), and the
requests of peers and the companion as rows (R258, R302).
-/

namespace Sys2Proof.Machine

/-! ### The request a response answers -/

/-- The stream a response belongs to: this module's own, or the companion's that it relays (R304). -/
def State.answerKey (s : State) (p : Packet) : Nat := streamKey (s.isCompanion p.dst.toNat) p.src.toNat

/-- The requests a response answers, by its tag and its sender; loads that share a GET are several (R277). -/
def State.answered (s : State) (p : Packet) : List Req :=
  s.reqs.filter (fun r => r.tag == p.tag.toNat && r.node == s.requester p)

/-- They no longer wait, and their packet needs no replay. -/
def State.dropAnswered (s : State) (p : Packet) : State :=
  let s1 := { s with reqs := s.reqs.filter (fun r => !(r.tag == p.tag.toNat && r.node == s.requester p)) }
  match p.via with
  | .traek => s1
  | .fabric _ => s1.onStreamOut (s.answerKey p) (fun r => { r with
      unacked := r.unacked.filter (fun o => o.posted || o.tag != p.tag.toNat) })

/-! ### DATA -/

/-- The bytes of an answer that a request asked for: a shared GET returns its aligned 4 KiB (R277). -/
def Req.bytes (r : Req) (data : List Byte) : List Byte := if r.page then data.drop (r.addr % 4096) else data

/-- R245: a line of a transfer that came from another node. -/
def State.lineArrives (s : State) (q id line : Nat) (data : List Byte) (poison : Bool) : State :=
  match s.transferOf q id with
  | none => s
  | some (st, _) =>
    let n := s.xLine st.op st.cmd
    s.onTransfer q id (fun w => { w with arrived := w.arrived ++ [(line, data.take n ++ List.replicate (n - data.length) 0, poison)] })

/-- R333, R334: a store of a sheet was refused, or a read-back returned an error. -/
def State.sheetNak (s : State) (o : Nat × Nat) (back : Bool) : State :=
  let st := if back then St.readbackFailed else St.hostDenied
  match s.step.sheet with
  | some sh => if (sh.q, sh.id) = o then s.sheetFails st back else s.headerFails o st back
  | none => s.headerFails o st back

/-- R301: the relayed request that an answer serves: its next piece goes out, or it is answered with the data gathered. -/
def State.relayed (s : State) (k : ReqKind) (q : Packet) (done : Nat) (r : Req) (bytes : List Byte) (poison : Bool) : State :=
  let q1 := { q with data := q.data ++ bytes, poison := q.poison || poison }
  if s.isCompanion r.node && piecewise k && decide (done < q.length.toNat) then
    s.relayPiece k (if kindBit k = 0 then q1 else q) r.node (r.addr + 4096) done
  else if kindBit k = 1 then s.ackTo q
  else s.dataTo q ((if kindBit k = 0 then q1.data else bytes).take (pktBytes q)) (if kindBit k = 0 then q1.poison else poison)

/-- The data of one request. -/
def State.dataFor (s : State) (p : Packet) (r : Req) : State :=
  let bytes := r.bytes p.data
  match r.why, r.owner with
  | .xfer line, some (q, id) => s.lineArrives q id line bytes p.poison
  | .readback, some (q, id) => s.onTransfer q id (fun w => { w with back := some p.poison })
  | .fetch g _, o =>
    let s1 := s.wrBytes (remoteKey g) (bytes.take 4096)
    let s2 := s1.markRange (remoteKey g) 4096 (if p.poison then .poisoned else .good)
    match o with
    | some (q, id) => s2.askPages q id
    | none => s2
  | .relay k q done, _ => s.relayed k q done r bytes p.poison
  | .time sent, _ =>
    if p.poison then s
    else { s with power := { s.power with timeReplies := s.power.timeReplies ++
      [{ t1 := sent, t4 := s.now, source := leNat (bytes.take 8) }] } }
  | .sheetBack, some o => if p.poison then s.sheetNak o true else s.nextBath
  | _, _ => s

/-- R258: DATA: every request it answers goes on. -/
def State.gotData (s : State) (p : Packet) : State :=
  ((s.answered p).foldl (fun x r => x.dataFor p r) (s.dropAnswered p)).goOn

/-! ### ACK -/

/-- R266: the posted packets of a stream that a cumulative acknowledgement covers. -/
def coveredBy (ack : Nat) (o : OutPkt) : Bool := o.posted && decide ((ack + 2 ^ 32 - o.seq) % 2 ^ 32 < 2 ^ 31)

/-- R302: the companion's ACK of a message: what it relayed goes on, or is acknowledged. -/
def State.ackFor (s : State) (r : Req) : State :=
  match r.why with
  | .relay k q done => s.relayed k q done r [] false
  | _ => s

/-- R266: an ACK of the fabric is cumulative; the companion's answers one message (R302). -/
def State.gotAck (s : State) (p : Packet) : State :=
  match p.via with
  | .traek => ((s.answered p).foldl State.ackFor (s.dropAnswered p)).goOn
  | .fabric _ =>
    let key := s.answerKey p
    let done := (s.streamOut key).unacked.filter (coveredBy p.seq.toNat)
    let s1 := s.onStreamOut key (fun r => { r with unacked := r.unacked.filter (fun o => !coveredBy p.seq.toNat o) })
    ((done.flatMap (fun o => o.uses.filterMap (fun u => u.2.relayed))).foldl (fun x q => x.ackTo q) s1).goOn

/-! ### NAK -/

/-- R180: a SIGNAL_COUNTER whose store was refused completes with the status. -/
def State.signalNak (s : State) (q st : Nat) : State :=
  s.onQueue q (fun r => { r with run := r.run.map (fun l => match l.wait with
    | .remoteSignal idx hdr node _ since => { l with wait := .remoteSignal idx hdr node st since }
    | _ => l) })

/-- A request that failed with a status: what issued it learns it (R194, R245, R263, R299); a transfer goes on with its other units
after a lost path. -/
def State.requestFails (s : State) (why : ReqUse) (owner : Option (Nat × Nat)) (st : Nat) : State :=
  match why, owner with
  | .xfer line, some (q, id) => s.noteLine q id line { s := s, status := st, stop := st != St.pathLost }
  | .put line, some (q, id) => s.noteLine q id line { s := s, status := st, stop := st != St.pathLost }
  | .readback, some (q, id) => s.onTransfer q id (fun w => w.backFails st)
  | .signal, some (q, id) =>
    if id = 0 then s.signalNak q st else s.onTransfer q id (fun w => { w with fail := some (w.fail.getD (0, st)) })
  | .fetch g _, some (q, id) => ((s.markRange (remoteKey g) 4096 .poisoned).meet q id st).askPages q id
  | .relay _ q _, _ => s.nakTo q st
  | .sheet, some o => s.sheetNak o false
  | .sheetBack, some o => s.sheetNak o true
  | _, _ => s

/-- A packet sent again on its stream's port. -/
def State.resend (s : State) (o : OutPkt) : State :=
  match o.msg with
  | .packet _ dst src _ _ _ _ _ _ _ _ _ _ =>
    (match s.routeFrom src dst with
      | some port => s.egressPort port o.msg
      | none => s)
  | _ => s

/-- R264: a packet that found the holdback full is sent again; every other NAK fails its request. -/
def State.gotNak (s : State) (p : Packet) : State :=
  let st := p.op.toNat
  let key := s.answerKey p
  match p.via with
  | .traek => ((s.answered p).foldl (fun x r => x.requestFails r.why r.owner st) (s.dropAnswered p)).goOn
  | .fabric _ =>
    match (s.streamOut key).unacked.find? (fun o => o.tag == p.tag.toNat) with
    | none => s
    | some o =>
      if st = St.fabricBusy then s.resend o
      else
        let s1 := (s.dropAnswered p).onStreamOut key (fun r => { r with unacked := r.unacked.filter (fun x => x.seq != o.seq) })
        let s2 := if o.posted then o.uses.foldl (fun x u => x.requestFails u.2 u.1 st) s1
          else (s.answered p).foldl (fun x r => x.requestFails r.why r.owner st) s1
        s2.goOn

/-- DATA (R258, R302). -/
def execData (p : Packet) (s : State) : Host.Outcome State Fault Refusal := .next (s.arrive p 0x81 (fun s => s.gotData p))

/-- ACK (R258, R266, R302). -/
def execAck (p : Packet) (s : State) : Host.Outcome State Fault Refusal := .next (s.arrive p 0x82 (fun s => s.gotAck p))

/-- NAK (R258, R264, R302). -/
def execNak (p : Packet) (s : State) : Host.Outcome State Fault Refusal := .next (s.arrive p 0x83 (fun s => s.gotNak p))

/-! ### Requests as rows (R258, R302) -/

/-- LOAD. -/
def execLoad (p : Packet) (s : State) : Host.Outcome State Fault Refusal := .next (s.request .load p)

/-- STORE. -/
def execStore (p : Packet) (s : State) : Host.Outcome State Fault Refusal := .next (s.request .store p)

/-- ATOMIC. -/
def execAtomic (p : Packet) (s : State) : Host.Outcome State Fault Refusal := .next (s.request .atomic p)

/-- ADD, of the fabric only. -/
def execAddPacket (p : Packet) (s : State) : Host.Outcome State Fault Refusal := .next (s.fabricOnly .add p)

/-- GET, of the fabric only. -/
def execGet (p : Packet) (s : State) : Host.Outcome State Fault Refusal := .next (s.fabricOnly .get p)

/-- RD_OWN (R273, R305). -/
def execRdOwn (p : Packet) (s : State) : Host.Outcome State Fault Refusal := .next (s.request .rdOwn p)

/-- WRITEBACK (R273, R305). -/
def execWriteback (p : Packet) (s : State) : Host.Outcome State Fault Refusal := .next (s.request .writeback p)

/-- EVICT (R273). -/
def execEvict (p : Packet) (s : State) : Host.Outcome State Fault Refusal := .next (s.request .evict p)

/-- TEE_MARK_APPLY (R159): the twin's mark, a flagged store. -/
def execTeeMarkApply (p : Packet) (s : State) : Host.Outcome State Fault Refusal := .next (s.request .mark { p with flag := true })

/-! ### Pairing records and heartbeats as rows (R310 to R312, R315) -/

/-- R310, R311: a pairing record of a kind: a flagged store of its 256 bytes into the mailbox. A packet that carries another
kind is a plain store. -/
def State.recordStore (s : State) (kind : Nat) (p : Packet) : State :=
  if numAt p.data 4 1 = kind then s.request .store { p with flag := true } else s.request .store p

/-- OFFER (R312). -/
def execOffer (p : Packet) (s : State) : Host.Outcome State Fault Refusal := .next (s.recordStore 1 p)

/-- EVIDENCE (R312). -/
def execEvidence (p : Packet) (s : State) : Host.Outcome State Fault Refusal := .next (s.recordStore 2 p)

/-- ACCEPT (R312). -/
def execAccept (p : Packet) (s : State) : Host.Outcome State Fault Refusal := .next (s.recordStore 3 p)

/-- REFUSE (R312). -/
def execRefuse (p : Packet) (s : State) : Host.Outcome State Fault Refusal := .next (s.recordStore 4 p)

/-- DETACH (R317). -/
def execDetach (p : Packet) (t : Nat) (s : State) : Host.Outcome State Fault Refusal := .next ((s.tick t).recordStore 5 p)

/-- RELEASE of a detach (R317). -/
def execPairingRelease (p : Packet) (s : State) : Host.Outcome State Fault Refusal := .next (s.recordStore 6 p)

/-- R310, R315: a heartbeat: of the twin, on P0 or P1; any other is no store the mailbox takes. -/
def State.heartbeat (s : State) (p : Packet) : State :=
  match p.via with
  | .fabric n =>
    if p.src.toNat = s.peer ∧ n.val < 2 then s.gotBeat n p.data
    else s.recordOf 0x6003 9 47 (p.src.toNat + (mailboxBase + 0x100 + 64 * n.val) * 2 ^ 64)
  | .traek => s.refusePacket p 0x33 St.reservedSet

/-- HEARTBEAT (R315, R316). -/
def execHeartbeat (p : Packet) (t : Nat) (s : State) : Host.Outcome State Fault Refusal :=
  .next ((s.tick t).arrive p 0x33 (fun s => s.heartbeat p))

end Sys2Proof.Machine
end

