-- ==== Sys2Proof/Machine/Reroute.lean ====
section
/-!
DEFINITION. Re-routes (R268 to R270): route epochs, replay from the retry buffers, PROBE, PROBE_RSP and RESYNC. A stream whose port
by R261 changes is re-routed, whatever changed it (log entry 37).
-/

namespace Sys2Proof.Machine

/-! ### Messages -/

/-- The stream of a REQ packet: source, destination, sequence. -/
def Egress.stream : Egress → Option (Nat × Nat × Nat)
  | .packet op dst src _ _ _ _ seq _ _ _ _ _ => if op < 0x10 then some (src, dst, seq) else none
  | _ => none

/-- The source and destination of a packet. -/
def Egress.ends : Egress → Option (Nat × Nat)
  | .packet _ dst src _ _ _ _ _ _ _ _ _ _ => some (src, dst)
  | _ => none

/-- A packet with another route epoch (R257 byte 6). -/
def Egress.withEpoch (e : Egress) (epoch : Nat) : Egress :=
  match e with
  | .packet op dst src flag poison hops _ seq addr lines tag status data =>
    .packet op dst src flag poison hops epoch seq addr lines tag status data
  | e => e

/-- The stream of a source and a destination that this module numbers, if it does: its own or its companion's (R304). -/
def State.ownKey (s : State) (src dst : Nat) : Option Nat :=
  if src = s.node then some (streamKey false dst) else if s.isCompanion src then some (streamKey true dst) else none

/-! ### Steps 1 to 3 of R268 -/

/-- R268 step 1: a new route epoch; new packets are held. Queues with unacknowledged packets in the stream are marked for their
FENCE (R270). -/
def State.beginEpoch (s : State) (key : Nat) : State :=
  let qs := ((s.streamOut key).unacked.flatMap (fun o => o.uses.filterMap (fun u => u.1.map (·.1)))).eraseDups.filter (· < 256)
  let s1 := (s.onStreamOut key (fun r => { r with
    epoch := r.epoch + 1, probing := true, probeSent := false, replayed := [] })).bump 0x500900 1
  let s2 := { s1 with colSent := s1.colSent.map (fun x => if streamKey false x.node = key then { x with risk := true } else x) }
  qs.foldl (fun x q => x.onQueue q (fun r => { r with rerouted := true })) s2

/-- R268: a collective packet of this module that a retry buffer replays is not lost. -/
def State.replayedCol (s : State) (src dst : Nat) (e : Egress) : State :=
  match e with
  | .packet op _ _ _ _ _ _ _ _ _ tag _ _ => if src = s.node ∧ 0x20 ≤ op ∧ op ≤ 0x22 then
      { s with colSent := s.colSent.map (fun x => if x.tag = tag ∧ x.node = dst then { x with risk := false } else x) } else s
  | _ => s

/-- R268 step 2: one message of a port's retry buffer sent on its new path, or kept until there is one. -/
def State.replayMsg (s : State) (p : Nat) (m : BitVec 12 × Egress) : State :=
  match m.2.ends with
  | none => s
  | some (src, dst) =>
    match s.routeFrom src dst with
    | none => s.onPort p (fun r => { r with sent := r.sent ++ [m] })
    | some port =>
      match m.2.stream with
      | none => (s.replayedCol src dst m.2).egressPort port m.2
      | some (_, _, seq) =>
        (match s.ownKey src dst with
          | some key =>
            ((s.onStreamOut key (fun r => { r with replayed := r.replayed ++ [seq] })).egressPort port
              (m.2.withEpoch (s.streamOut key).epoch.toNat)).bump 0x500A00 1
          | none => (s.egressPort port m.2).bump 0x500A00 1)

/-- R268 step 2: the messages of a port's retry buffer, and those that wait there, that `hit` selects, in order. -/
def State.replayPort (s : State) (p : Nat) (hit : Egress → Bool) : State :=
  let msgs := (s.port p).sent ++ (s.port p).waiting.map (fun w => (0, w.msg))
  (msgs.filter (fun m => hit m.2)).foldl (fun x m => x.replayMsg p m)
    (s.onPort p (fun r => { r with
      sent := r.sent.filter (fun m => !hit m.2), waiting := r.waiting.filter (fun w => !hit w.msg) }))

/-- R268 step 3: the PROBE of a stream that has a path and has not sent it. -/
def State.probe (s : State) (key : Nat) : State :=
  let st := s.streamOut key
  let src := s.streamSrc key
  let dst := key % 65536
  if st.probing && !st.probeSent && (s.routeFrom src dst).isSome then
    (s.sendFrom src 0x30 dst false false 0 st.epoch.toNat 0 0 0 0 0 []).onStreamOut key (fun r => { r with probeSent := true })
  else s

/-- R268: what follows from a change of ports or routes since `before`: `hit` says which streams' route entries were rewritten. -/
def State.reroute (s before : State) (hit : Nat → Bool) : State :=
  let moved := s.streamsOut.filterMap (fun e =>
    let src := s.streamSrc e.1
    let dst := e.1 % 65536
    let old := before.routeFrom src dst
    if hit dst || (old.isSome && old != s.routeFrom src dst) then some (e.1, src, dst, old) else none)
  let s1 := moved.foldl (fun x m => x.beginEpoch m.1) s
  let s2 := moved.foldl (fun x m => match m.2.2.2 with
    | some p => if s.portUp p then x.replayPort p (fun e => e.stream.isSome && e.ends == some (m.2.1, m.2.2.1)) else x
    | none => x) s1
  let fresh := (List.range 8).filter (fun p => !s.portUp p || !before.portUp p)
  let s3 := fresh.foldl (fun x p => x.replayPort p (fun _ => true)) s2
  s3.streamsOut.foldl (fun x e => x.probe e.1) s3

/-! ### Step 4 and lost packets (R268, R269) -/

/-- R269: the contiguous runs of some sequence numbers, in order. -/
def runsOf : List Nat → List (Nat × Nat)
  | [] => []
  | n :: ns => match runsOf ns with
    | (a, b) :: rest => if a = (n + 1) % 2 ^ 32 then (n, b) :: rest else (n, n) :: (a, b) :: rest
    | [] => [(n, n)]

/-- R269, R270: the commands that issued lost packets fail with PATH_LOST, each with a record of class FABRIC_PATH; their queues'
stores were lost. -/
def State.losePackets (s : State) (dst : Nat) (lost : List OutPkt) : State :=
  let lo := lost.foldl (fun n o => min n o.lo) (2 ^ 64 - 1)
  let hi := lost.foldl (fun n o => max n o.hi) 0
  let syn := dst + lo * 2 ^ 64 + hi * 2 ^ 128
  let owners := (lost.flatMap (fun o => o.uses.filterMap (·.1))).eraseDups
  let s1 := owners.foldl (fun x o =>
    let y := if o.1 < 256 then x.onQueue o.1 (fun r => { r with lost := true }) else x
    match y.startedOf o.1 o.2 with
    | some st =>
      let z := y.record { y.mkRec 0x5003 9 47 syn with
        status := St.pathLost, queue := o.1, flags := 1, listId := st.listId, index := st.index }
      if (z.transferOf o.1 o.2).isSome then z
      else z.onStarted o.1 o.2 (fun x => { x with failSlot := some z.logSlot, status := worse x.status St.pathLost })
    | none => y.record { y.mkRec 0x5003 9 47 syn with status := St.pathLost, queue := min o.1 0xFF }) s
  let s2 := if owners.isEmpty then s1.record { s1.mkRec 0x5003 9 47 syn with status := St.pathLost } else s1
  lost.foldl (fun x o =>
    if o.posted then o.uses.foldl (fun x u => x.requestFails u.2 u.1 St.pathLost) x
    else
      let mine := x.reqs.filter (fun r => r.tag == o.tag && r.node == dst)
      mine.foldl (fun x r => x.requestFails r.why r.owner St.pathLost)
        { x with reqs := x.reqs.filter (fun r => !(r.tag == o.tag && r.node == dst)) }) s2

/-- R269, R288: the collective packets to a node that left on the old path, are not acknowledged and were not replayed are lost: their
members meet PATH_LOST on their own sends (DEDUCED, log entry 187: they have no sequence number for the PROBE to cover). -/
def State.loseCols (s : State) (dst : Nat) : State :=
  let lost := s.colSent.filter (fun x => x.risk && x.node == dst)
  if lost.isEmpty then s
  else
    let s1 : State := { s with
      colSent := s.colSent.filter (fun x => !(x.risk && x.node == dst)),
      collectives := s.collectives.map (fun c => if lost.any (fun x => x.collective == c.id) then
        { c with own := worse c.own St.pathLost } else c) }
    s1.record { s1.mkRec 0x5003 9 47 dst with status := St.pathLost }

/-- R268, R269: the PROBE is answered: what no retry buffer replayed above the sequence is lost and named by RESYNC; the held packets
are released. -/
def State.gotProbe (s : State) (p : Packet) : State :=
  let key := s.answerKey p
  let st := s.streamOut key
  let dst := key % 65536
  if !st.probing then s
  else
    let lost := st.unacked.filter (fun o =>
      let d := (o.seq + 2 ^ 32 - p.seq.toNat) % 2 ^ 32
      decide (0 < d) && decide (d < 2 ^ 31) && !st.replayed.contains o.seq)
    let s1 := s.onStreamOut key (fun r => { r with
      unacked := r.unacked.filter (fun o => !lost.contains o) ++ r.held, held := [], probing := false, replayed := [] })
    let s2 := (runsOf (lost.map (·.seq))).foldl (fun x r =>
      x.sendFrom (s.streamSrc key) 0x31 dst false false 0 st.epoch.toNat r.1 r.2 0 0 0 []) s1
    let cols := key == streamKey false dst && s2.colSent.any (fun x => x.risk && x.node == dst)
    let s2 := if cols then s2.loseCols dst else s2
    let s3 := if lost.isEmpty then (if cols then s2.bump 0x500B00 1 else s2) else (s2.bump 0x500B00 1).losePackets dst lost
    (st.held.foldl (fun x o => x.resend { o with msg := o.msg.withEpoch st.epoch.toNat }) s3).goOn

/-- PROBE_RSP (R268, R269). -/
def execProbeRsp (p : Packet) (s : State) : Host.Outcome State Fault Refusal :=
  .next (s.arrive p 0x86 (fun s => match p.via with
    | .fabric _ => s.gotProbe p
    | .traek => s.refusePacket p 0x86 St.reservedSet))

/-- R268: the target answers a PROBE with the highest sequence number it has applied without a gap. -/
def State.answerProbe (s : State) (p : Packet) : State :=
  s.sendBack p 0x86 (s.ackSeq (inKey p)) 0 0 0 false []

/-- PROBE (R268). -/
def execProbe (p : Packet) (s : State) : Host.Outcome State Fault Refusal :=
  .next (s.arrive p 0x30 (fun s => match p.via with
    | .fabric _ => s.answerProbe p
    | .traek => s.refusePacket p 0x30 St.reservedSet))

/-- R269: a run declared lost counts as filled; packets of it that wait are discarded and acknowledged. -/
def State.gotResync (s : State) (p : Packet) : State :=
  let key := inKey p
  let run := (p.seq.toNat, p.addr.toNat % 2 ^ 32)
  let gone := (s.streamIn key).held.filter (fun h => inRun run h.2.1.seq.toNat)
  let s1 := s.onStreamIn key (fun r => { r with
    held := r.held.filter (fun h => !inRun run h.2.1.seq.toNat), skipped := r.skipped ++ [run] })
  let s2 := s1.goOn.ackTo p
  gone.foldl (fun x h => x.ackTo h.2.1) s2

/-- RESYNC (R258, R269). -/
def execResync (p : Packet) (s : State) : Host.Outcome State Fault Refusal :=
  .next (s.arrive p 0x31 (fun s => match p.via with
    | .fabric _ => s.gotResync p
    | .traek => s.refusePacket p 0x31 St.reservedSet))

end Sys2Proof.Machine
end

