-- ==== Sys2Proof/Machine/Links.lean ====
section
/-!
DEFINITION. The links: flits (R251 to R254, R295, R296), lanes, light and training of the ports (R250, R255, R256), the edge
gateway (R276), the node ID (R259), the counter banks (R178), snoops (R273, R275, R304), and the Traek link (R297 to R299).
-/

namespace Sys2Proof.Machine

/-! ### Flits of a port (R251 to R254) -/

/-- The bytes of a flit, cut or filled to its size. -/
def flitBytes (n : Nat) (flit : List Byte) : List Byte := (flit ++ List.replicate n 0).take n

/-- R251: the lane that carried byte `i` of a flit, of the lanes in service. -/
def laneOf (lanes : List Nat) (i : Nat) : Nat := lanes.getD (i / 28 % max 1 lanes.length) 0

/-- The part of a retry buffer that an acknowledgement of flit `a` leaves. -/
def afterAck (a : Nat) (retry : List Flit) : List Flit :=
  if retry.any (fun f => f.seq == a) then (retry.dropWhile (fun f => f.seq != a)).drop 1 else retry

/-- R254: credits after a return, never more than the partner's buffer. -/
def moreCredit (buffers credits : Tbl Nat) (cls slots : Nat) : Tbl Nat :=
  change 0 credits cls (fun c => min (look 0 buffers cls) (c + slots))

/-- R251, R253, R254: link control of a flit that passed its CRC: acknowledgement, NAK, credit return; what waited goes. -/
def State.linkControl (s : State) (p ack : Nat) (nak : Bool) (vc slots : Nat) : State :=
  let s1 := s.onPort p (fun r =>
    let left := afterAck ack r.retry
    let has := fun (fs : List Flit) (n : BitVec 12) => fs.any (fun f => f.seq == n.toNat)
    { r with
      retry := left, sent := r.sent.filter (fun m => has left m.1 || !has r.retry m.1),
      credits := moreCredit freshCredits r.credits vc slots })
  (if nak then (s1.resendFlits p).bump (0x500801 + p) 1 else s1).portGoes p

/-- R3: a good flit that breaks the layout of R251, by a reserved type, bit or channel: recorded as a fault of the port, and not
taken (log entry 152). -/
def State.badFlit (s : State) (p : Nat) : State :=
  let r := s.mkRec 0x5004 9 (40 + p / 2) 0xFFFF
  s.record { r with status := St.reservedSet }

/-- The opcodes of R258. -/
def knownPacket (op : Nat) : Bool :=
  [0x01, 0x02, 0x03, 0x04, 0x05, 0x08, 0x09, 0x0A, 0x0B, 0x10, 0x11, 0x20, 0x21, 0x22, 0x30, 0x31, 0x32, 0x33, 0x81, 0x82, 0x83,
    0x86, 0x90, 0xA0].contains op

/-- The opcodes of R302. -/
def knownMessage (op : Nat) : Bool :=
  [0x01, 0x02, 0x03, 0x08, 0x09, 0x0A, 0x0B, 0x0C, 0x10, 0x11, 0x81, 0x82, 0x83, 0x8C, 0x90].contains op

/-- R258, R302: whether packets or messages of an opcode carry no data whatever their length field says. -/
def dataless (op : Nat) : Bool :=
  [0x01, 0x05, 0x08, 0x09, 0x0B, 0x10, 0x11, 0x30, 0x31, 0x32, 0x82, 0x83, 0x86, 0xA0].contains op

/-- The flits that a packet or message takes from the flit it starts (log entry 150): header, data, bytes of a payload. -/
def flitsOf (head lines size op : Nat) : Nat := ceilDiv (head + (if dataless op then 0 else 64 * lines)) size

/-- R257: a packet of an opcode that R258 does not have, by its header and as much of its data as its first flit holds. -/
def strangePacket (p : Nat) (load : List Byte) : Packet :=
  { via := .fabric (Fin.ofNat 8 p), flag := (numAt load 1 1).testBit 0, poison := (numAt load 1 1).testBit 1,
    hops := BitVec.ofNat 2 (numAt load 1 1 / 4), dst := BitVec.ofNat 16 (numAt load 2 2), src := BitVec.ofNat 16 (numAt load 4 2),
    epoch := BitVec.ofNat 8 (numAt load 6 1), seq := BitVec.ofNat 32 (numAt load 8 4), addr := BitVec.ofNat 64 (numAt load 12 6),
    length := BitVec.ofNat 16 (numAt load 18 2), tag := BitVec.ofNat 16 (numAt load 20 2), op := BitVec.ofNat 16 (numAt load 22 2),
    rsvd := true,
    data := (load.drop 24 ++ List.replicate (64 * numAt load 18 2) 0).take (64 * numAt load 18 2) }

/-- R251, R257: the payload of a flit taken in sequence: it goes on with the packet that is being received, or starts one; a packet
of an unknown opcode is NAKed. Packets of known opcodes arrive as commands of their own (log entry 38). -/
def State.payloadIn (s : State) (p : Nat) (load : List Byte) : State :=
  let op := numAt load 0 1
  if 0 < (s.port p).rxLeft then s.onPort p (fun r => { r with rxLeft := r.rxLeft - 1 })
  else if load.all (· == 0) then s
  else
    let s1 := s.onPort p (fun r => { r with rxLeft := flitsOf 24 (numAt load 18 2) 200 op - 1 })
    if knownPacket op then s1 else s1.arrive (strangePacket p load) op id

/-- R251 to R254: a received flit. One that fails its CRC is NAKed; a payload flit in sequence is acknowledged. Packets it completes
arrive as commands of their own (log entry 38). -/
def State.flitIn (s : State) (p : Nat) (flit : List Byte) : State :=
  let c := flitCorrect (flitBytes 224 flit)
  let lanes := setBits 8 (s.port p).lanes.toNat
  let s1 := c.1.foldl (fun x i => x.bump (0x500701 + 8 * p + laneOf lanes i) 1) s
  let b := c.2
  let kind := numAt b 200 2 / 4096
  let seq := BitVec.ofNat 12 (numAt b 200 2)
  let (link, credit) := (numAt b 202 2, numAt b 204 3)
  if crc32 (b.take 208) ≠ numAt b 208 4 then s1.idleOut p true
  else if 1 < kind ∨ 8192 ≤ link ∨ 4 < credit % 8 ∨ numAt b 207 1 ≠ 0 then s1.badFlit p
  else
    let s2 := s1.linkControl p (link % 4096) (link.testBit 12) (credit % 8) (credit / 8)
    if kind = 0 ∧ seq = (s2.port p).rxSeq + 1 then ((s2.onPort p (fun r => { r with rxSeq := seq })).idleOut p false).payloadIn p (b.take 200) else s2

/-- FLIT_RECEIVE (R251 to R253). While a port is not UP, or retrains (R255), it carries no traffic. -/
def execFlitReceive (p : Fin 8) (flit : List Byte) (s : State) : Host.Outcome State Fault Refusal :=
  .next (if (s.port p).state = 2 ∧ (s.port p).retraining = false then s.flitIn p flit else s)

/-! ### Lanes, light and training (R250, R255, R256) -/

/-- The region of a port (R19, R248). -/
def portRegion (p : Nat) : Nat := 40 + p / 2

/-- R255, R268: a port goes down: its streams are re-routed, its gateway's segments go with them. -/
def State.portDown (s : State) (p : Nat) : State :=
  if (s.port p).state = 2 then
    let s1 := s.onPort p (fun r => { r with
      state := 0, lanes := 0, retraining := false, retry := [], txSeq := 0, rxSeq := 4095, rxLeft := 0, owed := [], credits := [] })
    let s2 := s1.reroute s (fun _ => false)
    (((s.port p).gateway.map (·.node)).eraseDups.foldl (fun x n => x.shipGateway p n) s2).goOn
  else s.onPort p (fun r => { r with state := 0, lanes := 0, retraining := false })

/-- R255: lanes leave service, each with a record of its cause; the port retrains on those that remain, or is down. -/
def State.removeLanes (s : State) (p cause : Nat) (ls : List Nat) : State :=
  let out := ls.filter (fun l => (s.port p).lanes.getLsbD l)
  if out.isEmpty then s
  else
    let s1 := out.foldl (fun x l => x.recordOf 0x5001 9 (portRegion p) (p + l * 2 ^ 8 + cause * 2 ^ 16)) s
    let left := out.foldl (fun (v : BitVec 8) l => v &&& ~~~ (BitVec.ofNat 8 (2 ^ l))) (s.port p).lanes
    if left = 0 then s1.portDown p
    else s1.onPort p (fun r => { r with lanes := left, retraining := true, retrains := r.retrains + 1 })

/-- LANE_REMOVAL (R255): loss of lock, or too many corrections (`rate`). -/
def execLaneRemoval (p : Fin 8) (lane : Fin 8) (rate : Bool) (s : State) : Host.Outcome State Fault Refusal :=
  .next (s.removeLanes p (if rate then 2 else 1) [lane.val])

/-- LASER_INPUT_LOW (R250): the power of a laser input, in 0.01 dBm; low for 10 ms, its four lanes leave service. -/
def execLaserInputLow (p : Fin 8) (input : Fin 2) (centiDbm : Int) (t : Nat) (s : State) : Host.Outcome State Fault Refusal :=
  let s1 := (s.tick t).setDv (0x500601 + 2 * p + input) (f32RatioInt centiDbm 100)
  let since := if centiDbm < 1500 then some ((look none (s1.port p).laserLow input).getD s1.now) else none
  let s2 := s1.onPort p (fun r => { r with laserLow := put none r.laserLow input since })
  .next (match since with
    | some a => if a + 10000000 ≤ s2.now then s2.removeLanes p 3 ((List.range 4).map (4 * input.val + ·)) else s2
    | none => s2)

/-- PORT_RETRAIN_DONE (R255): traffic goes on with the unacknowledged flits, then with what waited. -/
def execPortRetrainDone (p : Fin 8) (s : State) : Host.Outcome State Fault Refusal :=
  .next (if (s.port p).retraining then ((s.onPort p (fun r => { r with retraining := false })).resendFlits p).portGoes p else s)

/-- R256, R350: a port reaches UP on all its lanes; its region, which stays ACTIVE while a port is UP, is called. -/
def State.portUpNow (s : State) (p : Nat) : State :=
  let s1 := (s.callRegion (portRegion p)).onPort p (fun r => { r with
    state := 2, lanes := 0xFF, retraining := false, retry := [], txSeq := 0, rxSeq := 4095, rxLeft := 0, owed := [],
    credits := freshCredits })
  (s1.reroute s (fun _ => false)).goOn

/-- PORT_TRAINING (R256): light and a partner are present, or no longer. Ports train from LINKS on (R446), and not in a dark
region. -/
def execPortTraining (p : Fin 8) (up : Bool) (s : State) : Host.Outcome State Fault Refusal :=
  .next (if up then
      (if (s.port p).state = 2 ∨ (s.region (portRegion p)).power = 3 ∨ s.boot.state < 7 then s else s.portUpNow p)
    else s.portDown p)

/-- R255: the ports named retrain on all lanes; one that is down trains. -/
def State.retrainPorts (s : State) (mask : Nat) : State :=
  (setBits 8 mask).foldl (fun x p => (x.callRegion (portRegion p)).onPort p (fun r =>
    if r.state = 2 then { r with lanes := 0xFF, retraining := true, retrains := r.retrains + 1 } else { r with state := 1 })) s

/-- The write of 0x501A:00. -/
def State.retrainWrite (s : State) (mask : Nat) : State × Nat :=
  if 256 ≤ mask then (s, St.reservedSetDict) else (s.retrainPorts mask, St.ok)

/-- PORT_RETRAIN (R255). -/
def execPortRetrain (m : Master) (ports : BitVec 32) (s : State) : Host.Outcome State Fault Refusal :=
  .next (s.masterWrite m 0x501A00 4 ports.toNat (fun s => s.retrainWrite ports.toNat)).1

/-! ### The edge gateway (R276) -/

/-- R276: the next source unit's oldest store is admitted when it fits; its wait is counted. -/
def State.admitGateway (s : State) (p : Nat) : State :=
  let r := s.port p
  match roundRobin r.gatewayLast (r.gatewayWait.map (·.source)) with
  | none => s
  | some src =>
    match r.gatewayWait.find? (fun g => g.source == src) with
    | none => s
    | some g =>
      if 0x100000 < r.gatewayBytes + g.bytes then s
      else
        let s1 := s.onPort p (fun r => { r with gatewayWait := r.gatewayWait.erase g, gatewayLast := src })
        let s2 := if g.bytes = 0 then s1 else s1.surge (0x500D01 + p) g.since
        g.parts.foldl (fun x q => if q.ask.gathers then x.placeGateway p g.node g.source q else x.askBeyond p g.node q.ask) s2

/-- GATEWAY_ADMIT (R276). -/
def execGatewayAdmit (p : Fin 8) (t : Nat) (s : State) : Host.Outcome State Fault Refusal := .next ((s.tick t).admitGateway p)

/-- GATEWAY_FLUSH (R276): segments whose oldest byte has waited 0x500E:00. -/
def execGatewayFlush (p : Fin 8) (t : Nat) (s : State) : Host.Outcome State Fault Refusal :=
  let s1 := s.tick t
  .next ((((s1.port p).gateway.filter (fun g => decide (g.since + s1.dv 0x500E00 ≤ s1.now))).map (·.node)).eraseDups.foldl
    (fun x n => x.shipGateway p n) s1)

/-! ### Node ID (R259) and configuration that needs closed streams (R271) -/

/-- R259: whether a stream is open at a port: packets sent and not acknowledged, held, or received and not yet applied. -/
def State.streamOpen (s : State) : Bool :=
  s.streamsBusy || s.streamsIn.any (fun e => !e.2.held.isEmpty) || s.reqs.any (fun r => !s.isCompanion r.node)

/-- The write of 0x5001:00. -/
def State.nodeWrite (s : State) (v : Nat) : State × Nat := if s.streamOpen then (s, St.fabricBusy) else (s.setDv 0x500100 v, St.ok)

/-- NODE_ID_WRITE (R259). -/
def execNodeIdWrite (m : Master) (node : BitVec 16) (s : State) : Host.Outcome State Fault Refusal :=
  .next (s.masterWrite m 0x500100 2 node.toNat (fun s => s.nodeWrite node.toNat)).1

/-- The write of a domain agent (R271). -/
def State.agentWrite (s : State) (key v : Nat) : State × Nat :=
  if s.streamOpen then (s, St.fabricBusy)
  else if 2 < natFld v 2 1 ∨ natFld v 3 1 ≠ 0 then (s, St.reservedSetDict)
  else (s.setDv key v, St.ok)

/-- The write of a route entry (R261, R268): streams that it routes, before or after, are re-routed. -/
def State.routeWrite (s : State) (key v : Nat) : State × Nat :=
  if natFld v 6 2 ≠ 0 ∨ 3 < natFld v 4 1 then (s, St.reservedSetDict)
  else
    let s1 := s.setDv key v
    let by' := fun (x : State) (n : Nat) => (List.range 64).find? (fun k =>
      let e := x.dv (0x500401 + k)
      decide (1 ≤ natFld e 4 1) && decide (natFld e 4 1 ≤ 3) && decide (natFld e 0 2 ≤ n) && decide (n ≤ natFld e 2 2))
    let mine := some (key - 0x500401)
    ((s1.reroute s (fun n => by' s n == mine || by' s1 n == mine)).goOn, St.ok)

/-! ### Counter banks (R178) -/

/-- R178: one waiting update of a bank, round-robin over sources, oldest first of each; its wait is counted. -/
def State.bankUpdate (s : State) (b : Nat) : State :=
  let mine := s.ingress.filter (fun u => u.counter / 256 == b)
  match roundRobin (look 0 s.bankLast b) (mine.map (·.source)) with
  | none => s
  | some src =>
    match mine.find? (fun u => u.source == src) with
    | none => s
    | some u =>
      let s1 := (s.applyUpdate u).surge 0xA04900 u.since
      ({ s1 with
          ingress := s1.ingress.erase u, bankLast := put 0 s1.bankLast b src, bankAt := put 0 s1.bankAt b (s1.now + 1) } : State).settled

/-- COUNTER_UPDATE (R178). -/
def execCounterUpdate (bank : Fin 16) (t : Nat) (s : State) : Host.Outcome State Fault Refusal := .next ((s.tick t).bankUpdate bank)

/-! ### Snoops (R273, R275, R304) -/

/-- A snoop of the fabric: for the companion it goes over the Traek link (`arrive`); this module itself holds no copies and answers
that it has none. -/
def State.snoopReq (s : State) (p : Packet) (op : Nat) : State :=
  match p.via with
  | .fabric _ => s.respond p 0x90 0 []
  | .traek => s.refusePacket p op St.reservedSet

/-- SNP_SHARE (R273, R304). -/
def execSnpShare (p : Packet) (s : State) : Host.Outcome State Fault Refusal := .next (s.arrive p 0x10 (fun s => s.snoopReq p 0x10))

/-- SNP_INVAL (R273, R304). -/
def execSnpInval (p : Packet) (s : State) : Host.Outcome State Fault Refusal := .next (s.arrive p 0x11 (fun s => s.snoopReq p 0x11))

/-- The directory key of a line's local address. -/
def lineKey (a : Nat) : Nat := lineOf (memKey a)

/-- R273: the copy an agent gives up: kept clean after a share, gone after an invalidation. -/
def DirState.without (d : DirState) (agent : Nat) (share : Bool) (now : Nat) : DirState :=
  match d with
  | .u => .u
  | .s hs t => if (hs.filter (· != agent)).isEmpty then .u else .s (hs.filter (· != agent)) t
  | .e o t => if o ≠ agent then .e o t else if share then .s [o] now else .u

/-- The dirty data a snooped agent returns, stored at its line ahead of every access that waits for them: memory, or the queue window,
where the engine wakes (R305). -/
def State.snoopData (s : State) (line agent : Nat) (share : Bool) (data : List Byte) (poison : Bool) : State :=
  match place line with
  | .queues off =>
    if data.isEmpty then (match watchOf off with
      | some q => if share then s.watchMasked q 0 [] else s
      | none => s)
    else s.queueStore agent off ((data.take 64).map some)
  | _ =>
    if data.isEmpty then s
    else
      let r := s.tryPartial line (BitVec.allOnes 64) (data.take 64) agent poison
      match r.2 with
      | none => r.1
      | some key =>
        let w : WcWaiter := {
          line := line, mask := BitVec.allOnes 64, data := data.take 64, source := agent, since := s.now, key := key, poison := poison }
        r.1.onChannel (chanOf line) (fun c => { c with wcWait := w :: c.wcWait })

/-- R273: a snoop of this module's directory is answered: data written, the state changed; what waited goes on. -/
def State.snoopDone (s : State) (line agent : Nat) (data : List Byte) (poison : Bool) : State :=
  match s.snoops.find? (fun x => x.line == line && x.agent == agent) with
  | none => s
  | some x =>
    let s1 := { s with snoops := s.snoops.erase x }
    let s2 := s1.setDir line ((s1.dirState line).without agent x.share s1.now)
    ((s2.snoopData line agent x.share data poison).retryLines).goOn

/-- R273, R304: a snoop response: of the companion for a line homed elsewhere, it goes on to its home. -/
def State.snoopRsp (s : State) (p : Packet) : State :=
  match p.via with
  | .fabric _ => s.snoopDone (lineKey (p.addr.toNat % 2 ^ 48)) p.src.toNat p.data p.poison
  | .traek =>
    let home := p.addr.toNat / 2 ^ 48
    if s.localNode home then s.snoopDone (lineKey (p.addr.toNat % 2 ^ 48)) s.companion p.data p.poison
    else s.sendFrom s.companion 0x90 home false p.poison 0 0 0 (p.addr.toNat % 2 ^ 48) (p.data.length / 64) 0 0 p.data

/-- SNP_RSP (R273, R304). -/
def execSnpRsp (p : Packet) (s : State) : Host.Outcome State Fault Refusal := .next (s.arrive p 0x90 (fun s => s.snoopRsp p))

/-- R275, R299: an agent failed for a line: its clean copy is dropped; a line it held in E is written as poisoned and named. -/
def State.failAgent (s : State) (line agent : Nat) : State :=
  match s.dirState line with
  | .e o _ =>
    if o = agent then
      let s1 := s.setDir line .u
      let s2 := match place line with | .lpddr _ => s1.poisonLine line | _ => s1
      s2.record { s2.mkRec 0x5005 16 47 (agent + line * 2 ^ 64) with status := St.snoopTimeout }
    else s
  | d => s.setDir line (d.without agent false s.now)

/-- R423: an error in the directory entry of a line: a corrected one leaves a record; an uncorrectable one is treated as the failure
of every agent it tracked (log entry 160). -/
def State.directoryError (s : State) (line entry : Nat) (corrected : Bool) : State :=
  let r := s.mkRec 0xA008 16 47 (2 + (if corrected then 0 else 1) * 2 ^ 8 + entry * 2 ^ 32)
  if corrected then s.recordCE r 47
  else
    let s1 := s.record r
    let s2 := s1.setDir line .u
    match s1.dirState line with
    | .e _ _ => (match place line with | .lpddr _ => s2.poisonLine line | _ => s2)
    | _ => s2

/-- R423: the directory entry of the line a packet names, where its home is here. -/
def State.entryError (s : State) (p : Packet) (ecc : Option (BitVec 32 × Bool)) : State :=
  let line := lineKey (p.addr.toNat % 2 ^ 48)
  match ecc with
  | some e => if s.dirState line == .u then s else s.directoryError line e.1.toNat e.2
  | none => s

/-- RD_SHARED (R273), with an error of the directory entry it reads (R423). -/
def execRdShared (p : DirRead) (s : State) : Host.Outcome State Fault Refusal :=
  let here := match p.packet.via with | .fabric _ => true | .traek => s.localNode (p.packet.addr.toNat / 2 ^ 48)
  .next ((if here then s.entryError p.packet p.ecc else s).request .rdShared p.packet)

/-- R275: a snoop past 0x5011:00, in µs; the waiting access goes on. -/
def State.timeoutSnoop (s : State) (x : Snoop) : State :=
  let held := match s.dirState x.line with | .e o _ => o == x.agent | _ => false
  let s1 := ({ s with snoops := s.snoops.erase x }).failAgent x.line x.agent
  let s2 := if held then s1 else s1.record { s1.mkRec 0x5005 16 47 (x.agent + x.line * 2 ^ 64) with status := St.snoopTimeout }
  (s2.retryLines).goOn

/-- SNOOP_TIMEOUT (R275). -/
def execSnoopTimeout (line : BitVec 48) (t : Nat) (s : State) : Host.Outcome State Fault Refusal :=
  let s1 := s.tick t
  .next (match s1.snoops.find? (fun x => x.line == lineKey line.toNat && decide (x.since + 1000 * s1.dv 0x501100 ≤ s1.now)) with
    | some x => s1.timeoutSnoop x
    | none => s1)

/-! ### The Traek link (R295 to R299) -/

/-- R295: the lane that carried byte `i` of a Traek flit. -/
def traekLane (t : Traek) (i : Nat) : Nat := t.width * t.group + i % max 1 t.width

/-- R301: a message of an opcode that R302 does not have. -/
def strangeMessage (load : List Byte) : Packet :=
  { via := .traek, poison := (numAt load 1 1).testBit 2, tag := BitVec.ofNat 16 (numAt load 2 2), addr := BitVec.ofNat 64 (numAt load 4 8),
    length := BitVec.ofNat 16 (numAt load 12 1), op := BitVec.ofNat 16 (numAt load 13 1), rsvd := true,
    data := (load.drop 16 ++ List.replicate (64 * numAt load 12 1) 0).take (64 * numAt load 12 1) }

/-- R295, R301: the payload of a Traek flit taken in sequence, as `payloadIn`. -/
def State.traekPayload (s : State) (load : List Byte) : State :=
  let op := numAt load 0 1
  if 0 < s.traek.rxLeft then s.onTraek (fun t => { t with rxLeft := t.rxLeft - 1 })
  else
    let s1 := s.onTraek (fun t => { t with rxLeft := flitsOf 16 (numAt load 12 1) 256 op - 1 })
    if knownMessage op then s1 else s1.arrive (strangeMessage load) op id

/-- R295, R296, R300: a received Traek flit. One that fails its CRC is NAKed; the layout has no mark of an idle flit, which is
taken to be one whose payload is zero (log entry 150). -/
def State.traekFlit (s : State) (flit : List Byte) : State :=
  let c := flitCorrect (flitBytes 276 flit)
  let s1 := c.1.foldl (fun x i => x.bump (0x503201 + traekLane s.traek i) 1) s
  let w := numAt c.2 256 4
  let seq := BitVec.ofNat 10 w
  if crc32 (c.2.take 260) ≠ numAt c.2 260 4 then s1.traekIdle true
  else
    let t := s1.traek
    let s2 := s1.onTraek (fun t => { t with
      retry := afterAck (w / 2 ^ 10 % 1024) t.retry, credits := moreCredit traekCredits t.credits (w / 2 ^ 21 % 4) (w / 2 ^ 23) })
    let s3 := (if w.testBit 20 then (s2.traekResend).bump 0x503300 1 else s2).traekGoes
    if seq = t.rxSeq + 1 then
      let s4 := s3.onTraek (fun t => { t with rxSeq := seq })
      if (c.2.take 256).all (· == 0) ∧ t.rxLeft = 0 then s4 else (s4.traekIdle false).traekPayload (c.2.take 256)
    else s3

/-- TRAEK_FLIT_RECEIVE (R295, R296). The link takes flits while it is UP (R297). -/
def execTraekFlitReceive (flit : List Byte) (s : State) : Host.Outcome State Fault Refusal :=
  .next (if s.traek.state = 2 then s.traekFlit flit else s)

/-- R416: a record of class TRAEK_LANE: the lane, 0xFF for the link, with the new state, width and rate. -/
def State.traekRecord (s : State) (lane : Nat) : State :=
  let t := s.traek
  s.recordOf 0x5002 10 46 (lane + t.state * 2 ^ 8 + t.width * 2 ^ 16 + (if t.half then 2 else 1) * 2 ^ 24)

/-- R299 step 2: the companion holds no copy any more; lines it held in E are poisoned and named. -/
def State.dropCompanion (s : State) : State :=
  let n := s.companion
  let s1 := { s with snoops := s.snoops.filter (fun x => x.agent != n) }
  s1.directory.foldl (fun x e => if e.2.agents.contains n then x.failAgent e.1 n else x) s1

/-- R299 step 1, R334: what waits on the link fails with HOST_LINK_DOWN. -/
def State.failHost (s : State) : State :=
  let s0 := if s.step.sheet.isSome && s.isCompanion (s.dv 0x601000 / 2 ^ 48) then s.sheetFails St.hostLinkDown false else s
  let s1 := ((s0.step.bath.toList ++ s0.step.bathWait).filter (fun b => b.purpose == 1 && s0.sheetReqs b.q b.id)).foldl
    (fun s b => s.headerFails (b.q, b.id) St.hostLinkDown false) s0
  let mine := s1.reqs.filter (fun r => s1.isCompanion r.node)
  mine.foldl (fun x r => x.requestFails r.why r.owner St.hostLinkDown)
    { s1 with reqs := s1.reqs.filter (fun r => !s1.isCompanion r.node) }

/-- R299: the link goes DOWN; it may train again when the companion drives its lanes. -/
def State.traekDown (s : State) : State :=
  let t := s.traek
  let s1 := { s with traek := { state := 0, retrains := t.retrains, released := t.released } }
  ((((s1.traekRecord 0xFF).failHost).dropCompanion).retryLines).goOn

/-- R297, R298: whether a combination is one of the table's, under the width limit 0x5034:00, and, in a retrain that excludes a lane,
without that lane and narrower than before (log entry 176). -/
def State.traekAllowed (s : State) (width group : Nat) : Bool :=
  (width == 16 || width == 8 || width == 4) && decide (group < 16 / width) && decide (width ≤ s.dv 0x503400) &&
    !(s.traek.exclude.any (fun l => decide (s.traek.width ≤ width) || (decide (width * group ≤ l) && decide (l < width * group + width))))

/-- The link takes a combination and is UP (R297). -/
def State.traekTake (s : State) (width : Nat) (half : Bool) (group : Nat) : State :=
  { s.callRegion 46 with traek := { s.traek with state := 2, width := width, half := half, group := group, exclude := none } }

/-- R297: the link takes the combination it trained on, or is DOWN. -/
def State.traekTrained (s : State) (width : Nat) (half : Bool) (group : Nat) : State :=
  if s.traekAllowed width group then
    ((s.callRegion 46).onTraek (fun t => { t with
      txSeq := 0, rxSeq := 1023, rxLeft := 0, retry := [], waiting := [], owed := [], credits := traekCredits })).traekTake width half group
  else s.traekDown

/-- TRAEK_TRAINING (R297): at a DOWN link, the companion drives its lanes and training begins; in training, the released link takes a
combination; `width` 0: none trained (log entry 176). -/
def execTraekTraining (width : Nat) (half : Bool) (group : Nat) (s : State) : Host.Outcome State Fault Refusal :=
  .next (
    if s.traek.state = 2 ∨ s.traek.state = 3 ∨ s.traek.released = false ∨ (s.region 46).power = 3 then s
    else if s.traek.state = 0 then (s.callRegion 46).onTraek (fun t => { t with state := 1 })
    else s.traekTrained width half group)

/-- R298: a retrain begins: traffic is held. -/
def State.traekRetrain (s : State) (lane : Nat) (exclude : Option Nat) : State :=
  ({ s with traek := { s.traek with state := 3, retrains := s.traek.retrains + 1, exclude := exclude } }).traekRecord lane

/-- Whether a lane is in service on the Traek link. -/
def State.traekHas (s : State) (lane : Nat) : Bool :=
  decide (s.traek.width * s.traek.group ≤ lane) && decide (lane < s.traek.width * s.traek.group + s.traek.width)

/-- TRAEK_LANE_RETRAIN (R298): a lane in service loses lock or exceeds the corrected-symbol rate. -/
def execTraekLaneRetrain (lane : Fin 16) (_ : Bool) (s : State) : Host.Outcome State Fault Refusal :=
  .next (if s.traek.state = 2 ∧ s.traekHas lane = true then s.traekRetrain lane (some lane.val) else s)

/-- TRAEK_RETRAIN_DONE (R298): a combination is taken and the unacknowledged flits are resent; with none, the link is DOWN. -/
def execTraekRetrainDone (width : Nat) (half : Bool) (group : Nat) (s : State) : Host.Outcome State Fault Refusal :=
  .next (
    if s.traek.state ≠ 3 then s
    else if s.traekAllowed width group then ((s.traekTake width half group).traekResend).traekGoes
    else s.traekDown)

/-- TRAEK_LINK_DOWN (R299): the companion stops driving its lanes for 100 µs. -/
def execTraekLinkDown (t : Nat) (s : State) : Host.Outcome State Fault Refusal :=
  let s1 := s.tick t
  .next (if s1.traek.state = 0 then s1 else s1.traekDown)

/-- The write of 0x5036:00: bit 0 retrains at the widest combination, bit 1 takes the link down. -/
def State.traekCommand (s : State) (v : Nat) : State × Nat :=
  if 4 ≤ v then (s, St.reservedSetDict)
  else if v.testBit 1 then ((if s.traek.state = 0 then s else s.traekDown), St.ok)
  else if v.testBit 0 ∧ s.traek.state = 2 then (s.traekRetrain 0xFF none, St.ok)
  else (s, St.ok)

/-- TRAEK_COMMAND_RETRAIN (R298). -/
def execTraekCommandRetrain (m : Master) (s : State) : Host.Outcome State Fault Refusal :=
  .next (s.masterWrite m 0x503600 4 1 (fun s => s.traekCommand 1)).1

/-- TRAEK_COMMAND_DOWN (R299). -/
def execTraekCommandDown (m : Master) (s : State) : Host.Outcome State Fault Refusal :=
  .next (s.masterWrite m 0x503600 4 2 (fun s => s.traekCommand 2)).1

end Sys2Proof.Machine
end

