-- ==== Sys2Proof/Machine/Dark.lean ====
section
/-!
DEFINITION. Degraded operation: states of a cluster (R428, R430), a region that goes dark and what follows (R360, R199 to R201,
R162), and the halt (R360).
-/

namespace Sys2Proof.Machine

/-! ### The halt (R360) -/

/-- R360: the started commands of a queue complete with CONTROL_LOST, the one its control core waits on among them. -/
def State.loseStarted (s : State) (q : Nat) : State :=
  let s1 := s.onQueue q (fun r => { r with started := r.started.map (fun st =>
    { st with status := St.controlLost, done := true, work := .none }) })
  let r := s1.queue q
  match r.run with
  | none => s1
  | some l =>
    match l.wait with
    | .none => s1
    | .counter idx hdr _ _ since _ => s1.endWait q (r.waiting l idx hdr since) St.controlLost
    | .fence idx hdr since => s1.endWait q (r.waiting l idx hdr since) St.controlLost
    | .signal idx hdr since => s1.endWait q (r.waiting l idx hdr since) St.controlLost
    | .remoteSignal idx hdr _ _ since => s1.endWait q (r.waiting l idx hdr since) St.controlLost

/-- What a cluster's engines hold of commands is dropped. -/
def Cluster.emptied (k : Cluster) : Cluster :=
  { k with slots := [], arrays := [], finished := [], fetches := [], buffers := [], occupancy := 0, txWait := [], pageWait := [], workPages := 0, chans := [],
           chanWait := [], pattern := none }

/-- R360: the module halts: no further command starts, every started one completes with CONTROL_LOST, and health bit 14 is
latched as an event of its own. -/
def State.halt (s : State) : State :=
  if s.boot.halted then s
  else
    let s1 : State := State.latch ({ s with boot := { s.boot with halted := true }, collectives := [], parked := [], colSent := [] }) 14
    let s2 := { s1 with clusters := s1.clusters.map (fun (e : Nat × Cluster) => (e.1, e.2.emptied)) }
    let s3 := (List.range 32).foldl (fun x c => x.setCluster c (x.cluster c)) s2
    s3.queues.foldl (fun (x : State) (e : Nat × Queue) => x.loseStarted e.1) s3

/-! ### States of a cluster (R428, R430) -/

/-- R428, R416: a change of a cluster's state writes CLUSTER_STATE; with no cluster enabled the module halts (R431). -/
def State.setClusterState (s : State) (c new : Nat) : State :=
  let old := (s.cluster c).state
  if old = new then s
  else (s.onCluster c (fun k => { k with state := new })).recordOf 0x7003 14 c
    (c + old * 2 ^ 8 + new * 2 ^ 16 + s.position c * 2 ^ 24)

/-! ### A cluster that goes dark (R199 to R201, R162, R245) -/

/-- The tiles a cluster holds. -/
def Cluster.tiles (k : Cluster) : List Tile :=
  k.slots ++ k.arrays.flatMap (fun e => e.2.cur.toList ++ e.2.full.map (·.tile)) ++ k.finished.map (·.tile) ++
    k.pageWait.map (fun w => { q := w.source, id := w.id, unit := w.unit, since := w.since })

/-- R199: the units of a MATMUL that are lost with a cluster: those it holds, those of rows that run in place there and have not run,
and those whose results it staged (DEDUCED, log entry 186); and how many of them were finished. -/
def State.lostUnits (s : State) (c : Nat) (tiles : List Tile) (q : Nat) (st : Started) (w : MatmulWork) : List Nat × Nat :=
  let dc := s.desc (handleAt st.cmd 14)
  let at' := fun (u : Nat) => unitPos st.cmd w.parts u
  let ran := fun (u : Nat) => (look none w.out (groupMark st.cmd (at' u).b (at' u).mt ((at' u).nt / 32 * 1024, 0))).isSome
  let staged := fun (u : Nat) => (tileElems dc st.cmd w (at' u)).any (fun i => (look none w.out i).any (fun x => x / 2 ^ 34 == c + 1))
  let us := (List.range w.next).filter (fun u => !w.redo.contains u)
  let done := us.filter staged
  (us.filter (fun u => staged u || tiles.any (fun t => t.q == q && t.id == st.id && t.unit == u) ||
    (w.inPlace && look none w.homes (homeKey st.cmd (at' u)) == some c && !ran u)), done.length)

/-- R199: the units that are lost are dealt again; what they left in banks and in staging is gone with the cluster. -/
def State.redealUnits (s : State) (c : Nat) (tiles : List Tile) (q : Nat) (st : Started) (w : MatmulWork) : State :=
  let dc := s.desc (handleAt st.cmd 14)
  let lost := s.lostUnits c tiles q st w
  let els := lost.1.flatMap (fun u => tileElems dc st.cmd w (unitPos st.cmd w.parts u))
  let marks := lost.1.map (fun u =>
    let p := unitPos st.cmd w.parts u
    groupMark st.cmd p.b p.mt (p.nt / 32 * 1024, 0))
  if lost.1.isEmpty then s
  else s.onMatmul q st.id (fun w => { w with
    redo := w.redo ++ lost.1, finished := w.finished - lost.2, homes := w.homes.filter (fun e => e.2 != some c),
    banks := w.banks.filter (fun e => !els.contains e.1),
    out := w.out.filter (fun e => !els.contains e.1 && !(w.inPlace && marks.contains e.1)) })

/-- R199: every MATMUL's units that are lost with a cluster are dealt again over the enabled ones. -/
def State.redeal (s : State) (c : Nat) (tiles : List Tile) : State :=
  s.queues.foldl (fun s e => e.2.started.foldl (fun s st => match st.work with
    | .matmul w => s.redealUnits c tiles e.1 st w
    | _ => s) s) s

/-- A share joined to that of its cluster. -/
def joinShare (xs : List Share) (x : Share) : List Share :=
  if xs.any (fun y => y.cluster == x.cluster) then xs.map (fun y => if y.cluster = x.cluster then
    { y with parts := y.parts ++ x.parts, tiles := y.tiles + x.tiles, cost := y.cost + x.cost, units := y.units ++ x.units } else y)
  else xs ++ [x]

def Work.withShares (xs : List Share) : Work → Work
  | .vector p _ => .vector p xs
  | .update p _ => .update p xs
  | w => w

/-- The parts of a VECTOR or UPDATE that were dealt, the elements its engines read for each, its engine and format (R195, R363). -/
def State.workParts (s : State) (st : Started) : List (Nat × Nat × List (Line × Nat) × Nat) × (Nat → List Nat) ×
    (Nat → List (Nat × List Nat)) × Nat × Nat :=
  match st.work with
  | .vector prog _ =>
    let d := s.desc (handleAt st.cmd 17)
    let gs := rowGroups (pPacked prog) (descExt d 0) (vecRows d).length
    (s.vectorParts st.cmd prog, fun k => gs.getD k [], s.vectorOperands st.cmd prog, 2, descFmtCode d)
  | .update prog _ => (s.updateParts st.cmd prog, fun k => [k],
      fun r => (handlesAt st.cmd [8, 11, 14, 17]).map (fun h => (h, s.upRun st.cmd r)), 3, 3)
  | _ => ([], fun _ => [], fun _ => [], 0, 0)

/-- R195, R199: a VECTOR or UPDATE with a share on a dark cluster: its parts there are dealt again. -/
def State.moveShare (s : State) (c q : Nat) (st : Started) : State :=
  match st.work.shares.find? (fun x => x.cluster == c) with
  | none => s
  | some x =>
    let p := s.workParts st
    let h := handleAt st.cmd (if st.op = 0x30 then 8 else 17)
    let dealt := s.dealParts h (p.1.filter (fun y => x.units.contains y.1))
    let a := dealt.1.callShares q st.id p.2.2.2.1 p.2.2.2.2 (sharesOf s.now p.2.1 dealt.2)
    let xs := a.2.foldl joinShare (st.work.shares.filter (fun y => y.cluster != c))
    (a.1.onStarted q st.id (fun y => { y with work := y.work.withShares xs, clusters := y.clusters ||| shareBits a.2 })).fetchParts q st.id
      (dealt.2.map (fun y => (y.1, y.2.1))) p.2.2.1

def State.moveShares (s : State) (c : Nat) : State :=
  s.queues.foldl (fun s e => e.2.started.foldl (fun s st => s.moveShare c e.1 st) s) s

/-- A cluster that is lost binds no more frames: the frames dealt to it are dealt again (R191, R199). -/
def State.dropDealt (s : State) (c : Nat) : State :=
  { s with tensors := s.tensors.map (fun e => (e.1, e.2.map (fun t => { t with dealt := t.dealt.filter (fun x => x.2 != some c) }))) }

/-- The frame-map entries of a tensor that name an address from `lo` to `hi − 1`. -/
def State.unitsIn (s : State) (d : Line) (lo hi : Nat) : List Nat :=
  (List.range (mapLen d (descBytes d))).filter (fun i =>
    let e := s.rdNat (descLoc d + 8 * i) 8
    decide (lo ≤ e) && decide (e < hi))

/-- R200, R162: the tiles of a tensor in a dark cluster's scratchpad are lost; a SCRATCH tensor is suspect and named. -/
def State.losePages (s : State) (c h : Nat) : State :=
  let lo := 0x100000000000 + c * 0x2000000
  match s.tensor h with
  | none => s
  | some t =>
    let gone := s.unitsIn t.desc lo (lo + 0x2000000)
    let s1 := gone.foldl (fun x i => x.wrNat (descLoc t.desc + 8 * i) 8 0) s
    let s2 := s1.onTensor h (fun t => { t with unbound := t.unbound + gone.length })
    if descClass t.desc = 4 then s2.onTensor h (fun t => { t with lost := t.lost ++ gone }) else s2.loseTensor h 7 c

/-- R199 to R201: what follows for a cluster whose region went dark. -/
def State.clusterGone (s : State) (c : Nat) : State :=
  let tiles := (s.cluster c).tiles
  let held := ((s.alloc.pages.filter (fun e => e.1 / 384 == c)).map (·.2)).eraseDups
  let s1 := (s.abortTransfers c).onCluster c Cluster.emptied
  let s2 := held.foldl (fun x h => x.losePages c h) s1
  let s3 := ({ s2 with alloc := { s2.alloc with pages := s2.alloc.pages.filter (fun e => e.1 / 384 != c) } }).clearRange
    (0x100000000000 + c * 0x2000000) 0x1800000
  let s4 := (s3.queues.filter (fun e => qEnabled e.2.entry && qHome e.2.entry == c)).foldl (fun x e => x.loseControl e.1) s3
  ((((s4.dropDealt c).redeal c tiles).moveShares c).runEngines).settled

/-! ### A dark region (R360) -/

/-- The requests of a region leave the slope governor. -/
def State.dropSlope (s : State) (r : Nat) : State :=
  let g := s.governor (eastRegion r)
  s.setGovernor (eastRegion r) { g with waiting := g.waiting.filter (fun x => x.region != r) }

/-- R360: a region goes dark: `cause` 1 slices, 2 test, 3 command. -/
def State.goDark (s : State) (r cause : Nat) : State :=
  if (s.region r).power = 3 then s
  else
    let s0 := if r < 32 then s.setClusterState r 2 else s
    let s1 := ((s0.settleFiller r).onRegion r (fun x => { x with
      power := 3, filler := 0, wake := false, staged := 0, stretch := false, change := none, retry := none, interval := false })).dropSlope r
    let s2 := s1.recordOf 0x2004 11 r (r + cause * 2 ^ 8)
    if r < 32 then
      let s3 := s2.clusterGone r
      if (List.range 32).any s3.enabled then s3 else s3.halt
    else if r < 40 then
      ((List.range 32).filter (fun p => ctrlRegion p == r)).foldl (fun x p => x.takeOffline p (4 * p) 2) s2
    else if r < 44 then (s2.portDown (2 * (r - 40))).portDown (2 * (r - 40) + 1)
    else if r = 46 then (if s2.traek.state = 0 then s2 else s2.traekDown)
    else s2.halt

end Sys2Proof.Machine
end

