-- ==== Sys2Proof/Machine/Clocks.lean ====
section
/-!
DEFINITION. Time alignment (R344, R345), sleep and wake (R350, R351), the slope governor's grants (R363), and changes of the
operating point (R346 to R348, R352 to R354).
-/

namespace Sys2Proof.Machine

def State.onPower (s : State) (f : Power → Power) : State := { s with power := f s.power }

/-! ### Device time (R344, R345) -/

/-- R345: a cycle at a slewed rate: 100 ppm of 40 ns more or less, until the offset is zero. -/
def State.slewCycle (s : State) : State :=
  let one : Int := if 0 < s.power.slew then 1 else -1
  let ps := s.power.slewPs + 4
  if ps < 1000 then { s with now := s.now + 40, power := { s.power with slewPs := ps } }
  else { s with now := (s.now + 40 + one).toNat, power := { s.power with slewPs := ps - 1000, slew := s.power.slew - one } }

/-- R344, R345: one cycle of the 25 MHz reference, 40 ns, slewed while an offset remains, unless device time stands until its
source catches up. -/
def State.idle (s : State) : State :=
  if s.power.standFor = 0 then (if s.power.slew = 0 then { s with now := s.now + 40 } else s.slewCycle)
  else s.onPower (fun p => { p with standFor := p.standFor - 40 })

/-- R345, R416: the state of time alignment; a change writes TIME_SYNC. -/
def State.setTimeState (s : State) (new : Nat) : State :=
  let old := s.dv 0x300400
  if old = new then s
  else (s.setDv 0x300400 new).recordOf 0x3002 13 0x30 (old + new * 2 ^ 8 + s.dv 0x300300 * 2 ^ 32)

/-- R345: what an offset does to device time: slewed within 10 µs, else a step forward or a stand. -/
def State.applyOffset (s : State) (off : Int) : State :=
  if off.natAbs ≤ 10000 then s.onPower (fun p => { p with slew := off })
  else if 0 < off then { s with now := s.now + off.toNat }.onPower (fun p => { p with slew := 0 })
  else s.onPower (fun p => { p with slew := 0, standFor := off.natAbs })

/-- R345: an exchange that succeeded with an offset. -/
def State.goodExchange (s : State) (off : Int) : State :=
  let good := if off.natAbs ≤ 5 then s.power.goodOffsets + 1 else 0
  let s1 := (s.onPower (fun p => { p with goodOffsets := good, failedExchanges := 0 })).setDv 0x300300 (toBits 32 off)
  (s1.applyOffset off).setTimeState (if 16 ≤ good then 2 else 1)

/-- R345: an exchange that failed: LOCKED ends in HOLDOVER after ten in a row. -/
def State.failedExchange (s : State) : State :=
  let n := s.power.failedExchanges + 1
  let s1 := s.onPower (fun p => { p with failedExchanges := n })
  if s1.dv 0x300400 = 2 ∧ 10 ≤ n then s1.setTimeState 3 else s1

/-- R345: whether a time source other than this module is named. -/
def State.timeSourced (s : State) : Bool := s.dv 0x300200 != 0xFFFF && !s.localNode (s.dv 0x300200)

/-- R345: of the samples of an exchange the one with the smallest round trip, the first of equals. -/
def bestSample : List TimeSample → Option TimeSample
  | [] => none
  | x :: xs => match bestSample xs with
    | some y => if y.t4 - y.t1 < x.t4 - x.t1 then some y else some x
    | none => some x

/-- R345: the replies to the eight loads of an exchange are judged: with none the exchange failed; none was made yet where no load was
sent. -/
def State.judgeExchange (s : State) (xs : List TimeSample) : State :=
  match bestSample xs with
  | some a => s.goodExchange ((a.source : Int) - ((a.t1 + a.t4 : Nat) : Int) / 2)
  | none => if s.power.timeSent then s.failedExchange else s

/-- R345: the eight loads of the source's device time go out; those of the exchange before are awaited no more. -/
def State.sendTimeLoads (s : State) : State :=
  let s1 := { s with
    power := { s.power with timeSent := true, timeReplies := [] }
    reqs := s.reqs.filter (fun r => match r.why with | .time _ => false | _ => true) }
  (List.range 8).foldl (fun s _ =>
    (s.ask (s.dv 0x300200) 0 { op := 0x01, addr := 0x300000000000, lines := 0, data := [], why := .time s.now }).1) s1

/-- TIME_ALIGN_EXCHANGE (R345): every 1 ms the replies to the loads of the exchange before are judged, those that came as DATA and those
the row brings (log entry 194), and the next loads go out. -/
def execTimeAlignExchange (xs : List TimeSample) (t : Nat) (s : State) : Host.Outcome State Fault Refusal :=
  let s1 := s.tick t
  .next (
    if !s1.timeSourced then s1.setTimeState 0
    else (s1.judgeExchange ((s1.power.timeReplies ++ xs).take 8)).sendTimeLoads)

/-- R345: a write of 0x3002:00 starts the alignment anew. -/
def State.timeSourceWrite (s : State) (v : Nat) : State × Nat :=
  let s1 := (s.setDv 0x300200 v).onPower (fun p => { p with goodOffsets := 0, failedExchanges := 0, slew := 0, standFor := 0, timeSent := false, timeReplies := [] })
  (s1.setTimeState (if s1.timeSourced then 1 else 0), St.ok)

/-! ### Sleep (R350) -/

/-- The packages a memory region serves. -/
def packagesOfRegion (r : Nat) : List Nat := (List.range 32).filter (fun p => ctrlRegion p == r)

/-- R350: whether requests wait at the units of a memory region. -/
def State.memoryWorks (s : State) (r : Nat) : Bool :=
  (packagesOfRegion r).any (fun p => [0, 1, 2, 3].any (fun i =>
    let c := s.channel (4 * p + i)
    !c.admitted.isEmpty || !c.ingress.isEmpty || !c.adderWait.isEmpty || !c.wcWait.isEmpty)) ||
  s.lineWait.any (fun q => match place q.line with | .lpddr a => ctrlRegion (pkgOf a) == r | _ => false)

/-- R350: whether a cluster region has work: tiles, transfers, vector work, a list its control core runs, a test pattern. -/
def State.clusterActive (s : State) (c : Nat) : Bool :=
  s.clusterWorks c || (s.cluster c).pattern.isSome || s.queues.any (fun e => qHome e.2.entry == c && (s.fetching e.1).isSome)

/-- R350: whether a region holds no work and may sleep at all. -/
def State.mayGate (s : State) (r : Nat) : Bool :=
  if r < 32 then !s.clusterActive r
  else if r < 40 then !s.memoryWorks r
  else if r < 44 then (s.port (2 * (r - 40))).state == 0 && (s.port (2 * (r - 40) + 1)).state == 0
  else if r < 46 then !(List.range 32).any s.clusterWorks && !(List.range 8).any (fun k => s.memoryWorks (32 + k))
  else if r = 46 then s.traek.state == 0
  else false

/-- The channels of a memory region follow it into and out of self-refresh (R350). -/
def State.syncRegion (s : State) (r : Nat) : State :=
  if 32 ≤ r ∧ r < 40 then (packagesOfRegion r).foldl State.syncRefresh s else s

/-- R350: a region that was idle for the gate delay enters GATED. -/
def State.gateRegion (s : State) (r : Nat) : State :=
  let x := s.region r
  if x.power = 0 ∧ x.tripped = false ∧ x.coolant = false ∧ x.interval = false ∧ x.change.isNone = true ∧
      s.mayGate r = true ∧ x.filler * 2 ≤ (s.now - x.fillerAt) * s.dv 0x200600 ∧ x.idleSince + s.dv 0x301000 ≤ s.now then
    ((s.settleFiller r).setRegion r { (s.settleFiller r).region r with power := 1, wake := false, gatedSince := s.now, stretch := false }).syncRegion r
  else s

/-- REGION_GATE (R350). -/
def execRegionGate (r : Fin 48) (t : Nat) (s : State) : Host.Outcome State Fault Refusal :=
  .next (s.timed t (fun s => s.gateRegion r))

/-- R350: a region GATED for the PLL-off delay turns its PLL off. -/
def State.pllOff (s : State) (r : Nat) : State :=
  let x := s.region r
  if x.power = 1 ∧ x.wake = false ∧ x.staged = 0 ∧ x.gatedSince + 1000 * s.dv 0x301100 ≤ s.now then
    s.setRegion r { x with power := 2 }
  else s

/-- REGION_PLL_OFF (R350). -/
def execRegionPllOff (r : Fin 48) (t : Nat) (s : State) : Host.Outcome State Fault Refusal :=
  .next (s.timed t (fun s => s.pllOff r))

/-! ### Wake (R350, R351) -/

/-- R351: whether a neighbour draws more than 80 % of its rated current. -/
def State.heavyNeighbour (s : State) (r : Nat) : Bool :=
  (List.range 48).any (fun n =>
    (Config.neighbours r).testBit n && (s.region n).power == 0 && decide (8 * ratedAmps n < (s.region n).deciAmp))

/-- R350, R366: a region is awake, at the preferred point of the work that woke it. -/
def State.wakeUp (s : State) (r : Nat) : State :=
  let s1 := s.onRegion r (fun x => { x with power := 0, wake := false, staged := 0, idleSince := s.now, change := none, retry := none })
  let s2 := (s1.onRegion r (fun x => { x with point := s1.wantedPoint r })).syncRegion r
  ((s2.setRail (max s2.power.setpoint s2.railNeed)).retryLines).goOn

/-- Whether a request of a kind waits for a region. -/
def State.slopeWaits (s : State) (kind r : Nat) : Bool :=
  (s.governor (eastRegion r)).waiting.any (fun x => x.kind == kind && x.region == r)

/-- R351: one slice of a staged wake is enabled; after the last the region is awake. -/
def State.enableSlice (s : State) (r : Nat) : State :=
  let x := s.region r
  if x.staged ≤ 1 then s.wakeUp r else s.setRegion r { x with staged := x.staged - 1, stagedAt := s.now }

/-- R351: the next slice of a staged wake, at least 20 ns after the one before, asks the governor. -/
def State.stageNext (s : State) (r : Nat) : State :=
  let x := s.region r
  if s.slopeWaits 0 r || decide (x.staged < 16 ∧ s.now < x.stagedAt + 20) then s
  else
    let a := s.askSlope 0 r (s.currentStep 0 0 r) (0, 0)
    if a.2 then a.1.enableSlice r else a.1

/-- R351: the wake of a sleeping region begins or goes on: at once through the governor from GATED, else in stages. -/
def State.wakeRegion (s : State) (r : Nat) : State :=
  let x := s.region r
  if (x.power ≠ 1 ∧ x.power ≠ 2) ∨ x.wake = false then s
  else if 0 < x.staged then s.stageNext r
  else if s.slopeWaits 2 r then s
  else if x.power = 1 ∧ s.heavyNeighbour r = false then
    let a := s.askSlope 2 r (s.currentStep 0 1 r) (0, 0)
    if a.2 then a.1.wakeUp r else a.1
  else ((s.setRegion r { x with staged := 16, stagedAt := s.now }).bump 0x300900 1).stageNext r

/-- REGION_WAKE (R350, R351). -/
def execRegionWake (r : Fin 48) (t : Nat) (s : State) : Host.Outcome State Fault Refusal :=
  .next (s.timed t (fun s => s.wakeRegion r))

/-! ### Grants of the slope governor (R363) -/

/-- R363: whether a request is granted before another: staged slices first, then the oldest, then the lowest region. -/
def SlopeReq.before (a b : SlopeReq) : Bool :=
  if (a.kind == 0) != (b.kind == 0) then a.kind == 0
  else if a.since ≠ b.since then decide (a.since < b.since)
  else decide (a.region < b.region)

/-- The request granted next. -/
def Governor.first (g : Governor) : Option SlopeReq :=
  match g.waiting with
  | [] => none
  | x :: xs => some (xs.foldl (fun b y => if y.before b then y else b) x)

/-- What a granted request does. -/
def State.slopeGranted (s : State) (x : SlopeReq) : State :=
  if x.kind = 0 then s.enableSlice x.region
  else if x.kind = 1 then (s.setArray x.region x.who.1 { s.array x.region x.who.1 with waits := false }).noteLate
    x.region x.who.1 |>.feedArrays x.region
  else if x.kind = 2 then s.wakeUp x.region
  else if x.kind = 3 then
    (s.onRegion x.region (fun r => if x.who.1 = 1 then { r with coolant := false } else { r with interval := false })).goOn
  else
    (s.onStarted x.who.1 x.who.2 (fun st => { st with
      work := st.work.mapShares (fun y => if y.cluster = x.region then { y with granted := true } else y) })).goOn

/-- R363, R370: the first request of a half is granted when the allowance holds its step; its wait is counted. -/
def State.grantSlope (s : State) (east : Bool) : State :=
  let g := (s.governor east).grown (s.dv 0x200600) s.now
  match g.first with
  | none => s.setGovernor east g
  | some x =>
    if x.step ≤ g.allowance then
      ((s.setGovernor east { g with allowance := g.allowance - x.step, waiting := g.waiting.erase x }).throttleTime 4
        (s.now - x.since)).slopeGranted x
    else s.setGovernor east g

/-- SLOPE_GRANT (R363). -/
def execSlopeGrant (half : Fin 2) (t : Nat) (s : State) : Host.Outcome State Fault Refusal :=
  .next (s.timed t (fun s => s.grantSlope (half == 1)))

/-! ### Changes of the operating point (R347, R352, R354) -/

/-- R352: a change to the point the region is to run at is asked for; a raise raises the rail first, and waits for AVSBus while
it is silent (R358). -/
def State.askPoint (s : State) (r : Nat) : State :=
  let x := s.region r
  let w := s.wantedPoint r
  if x.power ≠ 0 ∨ x.change.isSome = true ∨ x.retry.isSome = true ∨ w = x.point ∨ (x.point < w ∧ s.power.avsSilent = true) then s
  else
    let s1 := s.setRegion r { x with change := some { target := w, since := s.now } }
    if x.point < w then s1.setRail (max s1.power.setpoint s1.railNeed) else s1

/-- POINT_CHANGE (R347, R352). -/
def execPointChange (r : Fin 48) (t : Nat) (s : State) : Host.Outcome State Fault Refusal :=
  .next (s.timed t (fun s => s.askPoint r))

/-- R346: a number of cycles at a point, in ns, rounded up. -/
def cyclesNs (n point : Nat) : Nat := ceilDiv (n * 10 * [12, 10, 9, 8, 7, 6, 5, 4].getD point 4) 108

/-- R354, R365: whether a region stretches. -/
def State.stretches (s : State) (r : Nat) : Bool := (s.region r).stretch || (decide (r < 32) && s.power.overcurrent)

/-- R354: the droop has been clear for 64 cycles at the current point. -/
def State.shutterReady (s : State) (r : Nat) : Bool :=
  let x := s.region r
  !s.stretches r && decide (x.clearSince = 0 ∨ x.clearSince + cyclesNs 64 x.point ≤ s.now)

/-- R352, R354: the shutter stop of a change asked for: the divider switches; after a lowering the voltage falls. -/
def State.shutterStop (s : State) (r : Nat) : State :=
  let x := s.region r
  match x.change with
  | none => s
  | some c =>
    if s.shutterReady r && x.power == 0 then
      let p := if x.point < c.target then max x.point (min c.target (s.allowedPoint r)) else c.target
      let s1 := (s.setRegion r { x with point := p, change := none }).bump 0x300500 (if p = x.point then 0 else 1)
      s1.setRail s1.railNeed
    else s

/-- SHUTTER_STOP (R352, R354). -/
def execShutterStop (r : Fin 48) (t : Nat) (s : State) : Host.Outcome State Fault Refusal :=
  .next (s.timed t (fun s => s.shutterStop r))

/-- R354, R416: a change that found no gap in 10 µs is abandoned and recorded. -/
def State.abandonPoint (s : State) (r : Nat) : State :=
  let x := s.region r
  match x.change with
  | none => s
  | some c =>
    if c.since + 10000 ≤ s.now ∧ s.shutterReady r = false then
      ((s.setRegion r { x with change := none, retry := some { c with since := s.now } }).bump 0x300600 1).recordOf 0x3001 11 r
        (r + c.target * 2 ^ 8)
    else s

/-- FREQ_CHANGE_ABANDON (R354). -/
def execFreqChangeAbandon (r : Fin 48) (t : Nat) (s : State) : Host.Outcome State Fault Refusal :=
  .next (s.timed t (fun s => s.abandonPoint r))

/-- R354: a change still wanted is asked for again after 100 µs. -/
def State.retryPoint (s : State) (r : Nat) : State :=
  match (s.region r).retry with
  | none => s
  | some c =>
    if c.since + 100000 ≤ s.now then (s.onRegion r (fun x => { x with retry := none })).askPoint r else s

/-- FREQ_CHANGE_RETRY (R354). -/
def execFreqChangeRetry (r : Fin 48) (t : Nat) (s : State) : Host.Outcome State Fault Refusal :=
  .next (s.timed t (fun s => s.retryPoint r))

/-! ### Monitors and droops (R348, R353, R365) -/

/-- R365: the current of all slices, in 0.1 A; above 1,560 A every cluster region stretches, until it falls below 1,500 A. The
cycles stretched count in 0x3007:00. -/
def State.checkOvercurrent (s : State) : State :=
  let total := (List.range 48).foldl (fun n r => n + (if (s.region r).power = 3 then 0 else (s.region r).deciAmp)) 0
  if !s.power.overcurrent && decide (15600 < total) then s.onPower (fun p => { p with overcurrent := true, overSince := s.now })
  else if s.power.overcurrent && decide (total < 15000) then
    let cycles := (List.range 32).foldl (fun n r =>
      n + (if (s.region r).power = 0 then cyclesOf (s.now - s.power.overSince) (s.region r).point / 2 else 0)) 0
    (((List.range 32).foldl (fun x r => x.onRegion r (fun y => { y with clearSince := s.now })) s).bump 0x300700 cycles).onPower
      (fun p => { p with overcurrent := false })
  else s

/-- R348: a report of the critical-path monitors: the least margin, in per mille of a cycle. -/
def State.sampleMonitor (s : State) (r margin deciAmp : Nat) : State :=
  let x := { s.region r with deciAmp := deciAmp }
  if x.power ≠ 0 then s
  else
    let y :=
      if margin < 60 then { x with monitor := x.point - 1, marginSince := none }
      else if margin < 120 then { x with marginSince := none }
      else match x.marginSince with
        | none => { x with marginSince := some s.now }
        | some a => if a + 1000000 ≤ s.now then { x with monitor := min 7 (x.monitor + 1), marginSince := some s.now } else x
    (s.setRegion r y).checkOvercurrent

/-- MONITOR_SAMPLE (R348); the region's current comes with it. -/
def execMonitorSample (r : Fin 48) (marginPermille : Nat) (deciAmp : Nat) (t : Nat) (s : State) : Host.Outcome State Fault Refusal :=
  .next (s.timed t (fun s => s.sampleMonitor r marginPermille deciAmp))

/-- R353, R357, R361: a detector's voltage: the lowest is recorded; more than 25 mV below the setpoint stretches the clock, and
after the guard band the predictor learns a margin of 0 to 20 mV (free). -/
def State.detectDroop (s : State) (r mv : Nat) : State :=
  let x := s.region r
  if x.power ≠ 0 then s
  else
    let low := x.minVolt = 0 ∨ mv < x.minVolt
    let y := { x with milliVolt := mv, minVolt := if low then mv else x.minVolt, minAt := if low then s.now else x.minAt }
    if mv + 25 < s.regionVolt r x.point then
      if s.dv 0x300B00 = 0 then (s.setRegion r { y with stretch := true, margin := Config.freeNat s.fresh % 21 }).drawn
      else s.setRegion r { y with stretch := true }
    else s.setRegion r y

/-- DROOP_DETECT (R353, R361). -/
def execDroopDetect (r : Fin 48) (milliVolt : Nat) (t : Nat) (s : State) : Host.Outcome State Fault Refusal :=
  .next (s.timed t (fun s => s.detectDroop r milliVolt))

/-- R353: a stretch ends after the voltage was above the threshold for 8 cycles. -/
def State.endStretch (s : State) (r cycles : Nat) : State :=
  if (s.region r).stretch then
    (s.onRegion r (fun x => { x with stretch := false, clearSince := s.now })).bump 0x300700 cycles
  else s

/-- STRETCH_END (R353). -/
def execStretchEnd (r : Fin 48) (cycles : Nat) (t : Nat) (s : State) : Host.Outcome State Fault Refusal :=
  .next (s.timed t (fun s => s.endStretch r cycles))

end Sys2Proof.Machine
end

