-- ==== Sys2Proof/Machine/Boundary.lean ====
section
/-!
DEFINITION. The step boundary (R157) with the residual flip (R79), the median pass of outlier channels (R76, R80),
the negative directory (R323) and the sheet interval (R335).
-/

namespace Sys2Proof.Machine

/-! ### Residual planes (R79) -/

/-- R79: a block of a residual carried from the committed plane into the working one, with its scale and state. -/
def State.carryBlock (s : State) (r : Tensor) (cp b : Nat) : State :=
  let d := r.desc
  let s1 := (blockElems d b).foldl (fun s i => s.wrCode d (1 - cp) i (s.rdCode d cp i)) s
  (s1.setScale (r.hdr (1 - cp)) b (s1.scaleOf (r.hdr cp) b)).setState (r.hdr (1 - cp)) b (s1.stateOf (r.hdr cp) b)

/-- R79: the flip of a gradient's committed plane, after the blocks no feedback write touched were carried over. -/
def State.flipResidual (s : State) (g : Nat) : State :=
  match s.tensor g with
  | none => s
  | some t =>
    let rh := descResidual t.desc
    let cp := if descCommitted t.desc then 1 else 0
    let s1 := s.bindAll rh s.idlestCluster
    let s2 := match s1.tensor rh with
      | some r => ((List.range (blockCount r.desc)).filter (fun b => !t.fbWritten.contains b)).foldl (fun (s : State) b => s.carryBlock r cp b) s1
      | none => s1
    s2.onTensor g (fun t => { t with desc := descSetBit t.desc 2 7 (cp == 0) })

/-! ### Outlier channels (R76, R77, R80) -/

/-- A channel as the median pass sees it: number, record. -/
abbrev ChanRow := Nat × Nat

def recValid (r : Nat) : Bool := r.testBit 8
def recMax (r : Nat) : Nat := r % 256
def recWith (r run : Nat) (promoted : Bool) : Nat :=
  r / 2 ^ 40 * 2 ^ 40 + run % 64 * 2 ^ 34 + (if recStored r then 2 ^ 33 else 0) + (if promoted then 2 ^ 32 else 0) + r % 2 ^ 32

/-- A list of numbers put in rising order. -/
def insertNat (x : Nat) : List Nat → List Nat
  | [] => [x]
  | y :: ys => if x ≤ y then x :: y :: ys else y :: insertNat x ys

/-- R76: the ⌈n/2⌉-th smallest of the maxima. -/
def medianOf (rows : List ChanRow) : Option Nat :=
  let xs := ((rows.filter (fun r => recValid r.2)).map (fun r => recMax r.2)).foldr insertNat []
  if xs.isEmpty then none else some (xs.getD (ceilDiv xs.length 2 - 1) 0)

/-- R76: RUN and PROMOTED of one record against the median. -/
def stepRecord (median r : Nat) : Nat :=
  if !recValid r then r
  else
    let excess := recMax r - median
    if recPromoted r then
      if excess ≤ 4 then (if recRun r + 1 = 32 then recWith r 0 false else recWith r (recRun r + 1) true) else recWith r 0 true
    else if 7 ≤ excess then recWith r (min 16 (recRun r + 1)) false else recWith r 0 false

/-- R76: the order of promotion: VALID ones by largest maximum, then the others, lowest index first. -/
def insertCand (x : ChanRow) : List ChanRow → List ChanRow
  | [] => [x]
  | y :: ys =>
    let key := fun (r : ChanRow) => if recValid r.2 then 1 + recMax r.2 else 0
    if key y ≤ key x then x :: y :: ys else y :: insertCand x ys

/-- R77: the lowest slot no channel holds; a slot is held while its channel is promoted or stored. -/
def freeSlot (slots : Nat) (rows : List ChanRow) : Option Nat :=
  (List.range slots).find? (fun k => !rows.any (fun r => (recPromoted r.2 || recStored r.2) && recSlot r.2 == k))

/-- R76: channels promoted while slots remain. -/
def promote (slots : Nat) : List ChanRow → List ChanRow → List ChanRow
  | [], rows => rows
  | c :: cs, rows =>
    match freeSlot slots rows with
    | none => rows
    | some k => promote slots cs (rows.map (fun r =>
        if r.1 = c.1 then (r.1, recWith (r.2 % 2 ^ 48) 0 true + k * 2 ^ 48) else r))

/-- R76: the median pass over the records of a tensor. -/
def medianPass (slots : Nat) (rows : List ChanRow) : List ChanRow :=
  match medianOf rows with
  | none => rows
  | some m =>
    let r1 := rows.map (fun r => (r.1, stepRecord m r.2))
    let cands := (r1.filter (fun r => !recPromoted r.2 && recRun r.2 == 16)).foldr insertCand []
    promote slots cands r1

/-- R76, R80, R83: the records of a tensor at a boundary: the median pass for an applied step, its promotions and demotions
counted; bits 31:0 cleared. -/
def State.channelPass (s : State) (h : Nat) (applied : Bool) : State :=
  match s.tensor h with
  | none => s
  | some t =>
    let d := t.desc
    if !descOutlier d || !(descFmt d).scaled then s
    else
      let hdr := t.hdr 0
      let rows := (List.range (descExt d (descChanDim d))).map (fun c => (c, s.chanRec hdr c))
      let out := if applied then medianPass (slotCount d) rows else rows
      let s1 := out.foldl (fun s r => s.setChanRec hdr r.1 (r.2 / 2 ^ 32 * 2 ^ 32)) s
      if applied then
        let changed := fun (was now : Bool) => ((List.zip rows out).filter (fun x =>
          recPromoted x.1.2 == was && recPromoted x.2.2 == now)).length
        let s2 := ((s1.wrNat (hdr + 60) 2 (out.filter (fun r => recPromoted r.2)).length).bump 0x801801 (changed false true)).bump
          0x801802 (changed true false)
        match medianOf rows with
        | some m => s2.wrNat (hdr + 62) 1 m
        | none => s2
      else s1

/-! ### The negative directory (R323) -/

/-- Bytes 0x0000–0x003F of the directory after the boundary of `step`. -/
def State.dirHead (s : State) (step applied skipped key count : Nat) : List Byte :=
  leBytes 4 0x3147454E ++ leBytes 1 1 ++ leBytes 1 0 ++ leBytes 2 s.node ++ leBytes 8 step ++ leBytes 8 applied ++ leBytes 8 skipped ++
  leBytes 8 key ++ leBytes 4 count ++ leBytes 20 0

/-- The record of a mirrored tensor. -/
def State.dirRecord (s : State) (t : Tensor) : List Byte :=
  leBytes 64 t.desc.toNat ++ (if descHdr t.desc = 0 then leBytes 64 0 else s.rdBytes (descHdr t.desc) 64)

/-- R323: the directory's lines, with their offsets; lines of records that are gone are zero. -/
def State.dirLines (s : State) (step applied skipped key : Nat) : List (Nat × List Byte) :=
  let ms := s.mirrored
  let base := s.outboundLow * 2 ^ 21
  let old := s.rdNat (base + 0x28) 4
  let recs := (List.zip (List.range ms.length) ms).flatMap (fun p =>
    let b := s.dirRecord p.2.2
    [(0x1000 + 128 * p.1, b.take 64), (0x1040 + 128 * p.1, b.drop 64)])
  let gone := (List.range (2 * (old - ms.length))).map (fun i => (0x1000 + 128 * ms.length + 64 * i, List.replicate 64 0))
  (0, s.dirHead step applied skipped key ms.length) :: (recs ++ gone)

/-- R323: the parts of the directory that have changed are written and teed; all of it before the first mark of a pairing. -/
def State.teeDirectory (s : State) (step applied skipped key : Nat) : State :=
  if s.mirrorH = 0 || !s.paired then s
  else
    let base := s.outboundLow * 2 ^ 21
    (s.dirLines step applied skipped key).foldl (fun s x =>
      if s.rdBytes (base + x.1) 64 = x.2 ∧ s.twin.markSent ≠ 0 then s
      else (s.wrBytes (base + x.1) x.2).teeRange (base + x.1) 64) s

/-! ### The boundary (R157) -/

/-- R188: attributes that take effect at the boundary. -/
def applyAttrs (t : Tensor) : Tensor :=
  let d1 := match t.verdictNext with | some v => descSetBit t.desc 2 4 v | none => t.desc
  let d2 := match t.mirrorNext with
    | some m => descSetBit (descSetBit d1 2 5 (m % 2 == 1)) 2 6 (m / 2 == 1)
    | none => d1
  { t with desc := d2, verdictNext := none, mirrorNext := none, fbWritten := [] }

/-- The 16 bytes of a verdict header (R152), as 0xA035:00 reports them. -/
def verdictWord (v : Verdict) : Nat :=
  v.tag.toNat + ((if v.nf then 1 else 0) + (if v.void then 2 else 0)) * 2 ^ 32 + v.ovf % 2 ^ 32 * 2 ^ 64 + v.contributors % 2 ^ 32 * 2 ^ 96

/-- R156: the final folded header; under a local verdict the latch alone (log entry 34). -/
def State.finalVerdict (s : State) : Verdict :=
  if s.step.final then s.step.fold
  else { tag := BitVec.ofNat 32 (s.dv 0xA03200), nf := s.step.nf, void := s.step.void, contributors := 1 }

/-- Whether the boundary may be crossed: the last-of-step UPDATE is done and no other UPDATE runs; planes it writes are not
barred (R332). -/
def State.boundaryDue (s : State) : Bool :=
  s.step.lastDone.isSome && !s.queues.any (fun e => e.2.started.any (fun x => x.op == 0x30)) &&
    !s.tensors.any (fun e => match e.2 with
      | some t => (descOutlier t.desc && s.tensorBarred e.1) || (s.step.feedback.contains e.1 && s.tensorBarred (descResidual t.desc))
      | none => false)

/-- R335: the interval limit in force, 0 for none. -/
def State.sheetLimit (s : State) : Nat :=
  let l := s.dv 0x601500
  if s.twin.overridden ∧ s.paired then (if l = 0 then s.dv 0x600600 else min l (s.dv 0x600600)) else l

/-- R335: whether a sheet runs or waits at its hold. -/
def State.sheetBusy (s : State) : Bool :=
  s.step.sheet.isSome || (match s.step.bath with | some b => b.purpose == 1 | none => false) ||
    s.step.bathWait.any (fun b => b.purpose == 1 && s.bathDue b)

/-- R335: the count of steps since the last sheet, and what reaching the limit brings. -/
def State.countSheet (s : State) (step : Nat) : State :=
  let n := s.dv 0x601700 + 1
  let s1 := s.setDv 0x601700 n
  if s.sheetLimit ≠ 0 ∧ s.sheetLimit ≤ n ∧ s.sheetBusy = false then
    if s.step.sheetSeen then
      match s1.sheetFail (natFld (s1.dv 0x601F00) 0 8) (natFld (s1.dv 0x601F00) 8 4) with
      | some f => s1.snapshotEnds 256 0 f.st f.handle f.addr f.value
      | none => s1.askSheet { q := 256, id := 1, purpose := 1, tag := some step, mirror := false, keep := false, stage := 0, since := s.now, boundary := 0 }
    else { s1 with step := { s1.step with overdue := true } }
  else s1

/-- R317: what a detach does at the boundary: the bath of the sender, the RELEASE of the receiver. -/
def State.detachAtBoundary (s : State) (step : Nat) : State :=
  if s.dv 0x600100 ≠ 3 then s
  else if s.twin.detachOwn then
    (if s.twin.detachSent || s.detachBath then s
     else s.askBath { q := 256, id := 0, purpose := 3, tag := some step, mirror := true, keep := false, stage := 0, since := s.now, boundary := 0 })
  else if s.twin.detachGot then s.answerDetach
  else s

/-- Dictionary writes that waited for the boundary take effect (R50, R230). -/
def State.applyPend (s : State) : State :=
  let s1 := s.step.pend.foldl (fun s e => match e.2 with | some v => s.setDv e.1 v | none => s) s
  { s1 with step := { s1.step with pend := [] } }

/-- R157: the boundary of a step, in its order. -/
def State.crossStep (s : State) (applied : Bool) : State :=
  let step := s.dv 0xA03200
  let key := (look none s.step.pend 0x800200).getD (s.dv 0x800200)
  let a := s.dv 0xA03300 + (if applied then 1 else 0)
  let k := s.dv 0xA03400 + (if applied then 0 else 1)
  let s1 := if applied then s.step.feedback.foldl State.flipResidual s else s
  let s2 := s1.tensors.foldl (fun s e => s.channelPass e.1 applied) s1
  let s3 := (s2.teeDirectory step a k key).sendMark step applied
  let s4 := ((s3.setDv 0xA03300 a).setDv 0xA03400 k).setDv 0xA03500 (verdictWord s.finalVerdict)
  let s5 := s4.setDv 0xA03200 (step + 1)
  let s6 : State := { s5 with
    step := s5.step.cleared,
    tensors := s5.tensors.map (fun e => (e.1, e.2.map applyAttrs)),
    twin := { s5.twin with teed := 0 } }
  let s7 := (s6.setDv 0x601C00 s5.twin.teed).applyPend
  -- the hold of a tagged bath is applied in the act of step 5
  (((s7.nextBath).countSheet step).detachAtBoundary step).settled

/-- STEP_BOUNDARY (R157). -/
def execStepBoundary (s : State) : Host.Outcome State Fault Refusal :=
  .next (match s.step.lastDone with
    | some applied => if s.boundaryDue then s.crossStep applied else s
    | none => s)

end Sys2Proof.Machine
end

