-- ==== Sys2Proof/Machine/Chunks.lean ====
section
/-!
DEFINITION. Shards and chunks of collectives (R280, R283 to R287): their layout, digest, sums and headers, and how they are sent. A chunk is
sent when its collective starts; the pace of sending is time alone.
-/

namespace Sys2Proof.Machine

/-! ### Groups, shards and chunks (R280, R283, R284) -/

/-- R283: reduce kinds, and kinds with one owner. -/
def Collective.reduces (c : Collective) : Bool := c.kind == 0x50 || c.kind == 0x51 || c.kind == 0x52
def Collective.single (c : Collective) : Bool := c.count == 0 || c.kind == 0x50 || c.kind == 0x54

/-- R283: the shards of a collective and the rank that owns one. -/
def Collective.shardCount (c : Collective) : Nat := if c.single then 1 else c.members.length
def Collective.owner (c : Collective) (r : Nat) : Nat := if c.count = 0 then 0 else if c.single then c.root else r

/-- R283: the shard this member owns, where it owns one. -/
def Collective.mine (c : Collective) : Option Nat := (List.range c.shardCount).find? (fun r => c.owner r == c.rank)

/-- R283: first elements of the units of a range: destination blocks, or 128 elements of an unscaled tensor. -/
def unitStarts (d : Line) (first count : Nat) : List Nat :=
  if (descFmt d).scaled then
    ((List.range count).map (first + ·)).filter (fun i => i == first || i % descExt d 0 % descGrain d == 0)
  else (List.range (ceilDiv count 128)).map (first + 128 * ·)

/-- R283: first element and length of shard `r` of `g`. -/
def shardRange (d : Line) (first count g r : Nat) : Nat × Nat :=
  let us := unitStarts d first count
  let lo := us.getD (r * us.length / g) (first + count)
  (lo, us.getD ((r + 1) * us.length / g) (first + count) - lo)

/-- R284: elements of a full chunk of a format. -/
def chunkElems (f : Fmt) : Nat := if f.bits = 32 then 16256 else if f.bits = 64 then 8064 else 16384

/-- R284: the chunks of a range, first element and length; a range without data travels as one header. -/
def chunkPlan (f : Fmt) (range : Nat × Nat) : List (Nat × Nat) :=
  if range.2 = 0 then [(range.1, 0)]
  else (List.range (ceilDiv range.2 (chunkElems f))).map (fun k =>
    (range.1 + k * chunkElems f, min (chunkElems f) (range.2 - k * chunkElems f)))

/-- The range of shard `r`. -/
def State.shardOf (s : State) (c : Collective) (r : Nat) : Nat × Nat :=
  shardRange (s.desc c.dst) c.first c.count c.shardCount r

/-- The chunks in which shard `r` travels: contributions in the source's format, a gather in the destination's (R283, R284). -/
def State.planOf (s : State) (c : Collective) (gather : Bool) (r : Nat) : List (Nat × Nat) :=
  chunkPlan (descFmt (s.desc (if gather then c.dst else c.src))) (s.shardOf c r)

/-! ### Chunk data (R66, R71, R285) -/

/-- The blocks some consecutive elements lie in, in order. -/
def blocksIn (d : Line) (first n : Nat) : List Nat := ((List.range n).map (fun i => (blockOf d (first + i)).1)).eraseDups

/-- Element codes in storage order, 4-bit codes two to a byte, the first in the low half. -/
def packCodes (f : Fmt) : List Nat → List Byte
  | [] => []
  | [a] => leBytes (ceilDiv f.bits 8) a
  | a :: b :: rest =>
    if f.bits = 4 then BitVec.ofNat 8 (a % 16 + b % 16 * 16) :: packCodes f rest
    else leBytes (f.bits / 8) a ++ leBytes (f.bits / 8) b ++ packCodes f rest

/-- The code of element `i` of packed data. -/
def codeAt (f : Fmt) (data : List Byte) (i : Nat) : Nat :=
  numAt data (i * f.bits / 8) (ceilDiv f.bits 8) / 2 ^ (i * f.bits % 8) % 2 ^ f.bits

/-- Bytes of `n` packed codes, and of a chunk's elements and scale bytes (R284). -/
def codeBytes (f : Fmt) (n : Nat) : Nat := ceilDiv (n * f.bits) 8
def chunkBytes (d : Line) (first n : Nat) : Nat :=
  codeBytes (descFmt d) n + (if (descFmt d).scaled then (blocksIn d first n).length else 0)

/-- R71, R285: lines of a chunk packet: its header, elements and scale bytes, and in a gather states and history words. -/
def chunkLines (d : Line) (gather : Bool) (first n : Nat) : Nat :=
  let k := if (descFmt d).scaled then (blocksIn d first n).length else 0
  ceilDiv (64 + chunkBytes d first n + (if gather then ceilDiv k 4 + 2 * k else 0)) 64

/-- R27, R38: a code under a scale byte. -/
def scaledVal (f : Fmt) (code e : Nat) : Val := if e = 0xFF then .nan else (f.decode code).shift (ue8 e)

/-- What a module reads of a range for a chunk: element codes, scale bytes, values, whether storage did not decode, and flags. -/
structure ChunkSrc where
  codes : List Nat := []
  scales : List Nat := []
  vals : List Val := []
  bad : Bool := false
  fl : Nat := 0

/-- R66: the part of a source block in a contribution: its own codes and scale where they give its values, else the values
converted anew by R63 (log entry 43). -/
def State.contribBlock (s : State) (t : Tensor) (b : Nat) (idxs : List Nat) : ChunkSrc :=
  let d := t.desc
  let f := descFmt d
  let hdr := t.hdr 0
  let es := idxs.map (s.rdElem t 0)
  let vals := es.map (·.v)
  let bad := es.any (·.bad)
  let nf := es.foldl (fun n e => n ||| e.fl) 0
  let off := !s.storedElem d hdr (idxs.headD 0) && (s.stateOf hdr b == 0 || s.stateOf hdr b == 3)
  let own := idxs.map (fun i => if s.stateOf hdr b == 0 then 0 else s.rdCode d 0 i)
  let e := if off then 0 else s.scaleOf hdr b
  if bad || own.map (fun c => scaledVal f c e) == vals || off then
    { codes := own, scales := [e], vals := vals, bad := bad, fl := nf }
  else match jitScale f vals with
    | none => { codes := vals.map (fun v => if Val.isNeg v then f.withSign true 0 else 0), scales := [0x7F], vals := vals, fl := nf }
    | some x =>
      let rs := vals.map (fun v => convert f false .rn (v.shift (-(ue8 x))))
      { codes := rs.map (·.code), scales := [x], vals := rs.map (fun r => scaledVal f r.code x), fl := rs.foldl (fun n r => n ||| r.fl) nf }

/-- The elements of a contribution chunk. -/
def State.contribSrc (s : State) (h first n : Nat) : ChunkSrc :=
  match s.tensor h with
  | none => {}
  | some t =>
    let d := t.desc
    let idxs := (List.range n).map (first + ·)
    if (descFmt d).scaled then
      let parts := (blocksIn d first n).map (fun b =>
        let mine := idxs.filter (fun i => (blockOf d i).1 == b)
        (b, mine, s.contribBlock t b mine))
      let at' := fun (i : Nat) => (parts.find? (fun p => p.1 == (blockOf d i).1)).map (fun p => (p.2.1.idxOf i, p.2.2))
      { codes := idxs.map (fun i => match at' i with | some (k, x) => x.codes.getD k 0 | none => 0),
        scales := parts.map (fun p => p.2.2.scales.headD 0),
        vals := idxs.map (fun i => match at' i with | some (k, x) => x.vals.getD k .zero | none => .zero),
        bad := parts.any (fun p => p.2.2.bad), fl := parts.foldl (fun n p => n ||| p.2.2.fl) 0 }
    else
      let es := idxs.map (s.rdElem t 0)
      { codes := idxs.map (s.rdCode d 0), vals := es.map (·.v), bad := es.any (·.bad), fl := es.foldl (fun n e => n ||| e.fl) 0 }

/-- R60: the value of a code under a block's state and scale. -/
def stateVal (f : Fmt) (code st e : Nat) : Val :=
  if st = 0 then .zero else if st = 3 then f.decode code else scaledVal f code e

/-- What a gather chunk carries of a block-scaled tensor: codes, scale bytes, states, history words (R71). -/
structure GatherData where
  codes : List Nat
  scales : List Nat := []
  states : List Nat := []
  hists : List Nat := []

/-- The values of a gather chunk. -/
def GatherData.vals (g : GatherData) (d : Line) (first : Nat) : List Val :=
  let f := descFmt d
  let bs := blocksIn d first g.codes.length
  (List.zip (List.range g.codes.length) g.codes).map (fun x =>
    if f.scaled then
      let k := bs.idxOf (blockOf d (first + x.1)).1
      stateVal f x.2 (g.states.getD k 0) (g.scales.getD k 0)
    else f.decode x.2)

/-- R27, R71: what this module holds of a range. A block whose values its codes do not give (a channel in the outlier store, an element
in the sidecar) goes as codes under a scale R63 gives it (log entry 97). -/
def State.gatherSrc (s : State) (h first n : Nat) : GatherData × Bool :=
  match s.tensor h with
  | none => (⟨[], [], [], []⟩, false)
  | some t =>
    let d := t.desc
    let hdr := t.hdr 0
    let idxs := (List.range n).map (first + ·)
    let bs := if (descFmt d).scaled then blocksIn d first n else []
    let mine := fun (b : Nat) => idxs.filter (fun i => (blockOf d i).1 == b)
    let slot := fun (b : Nat) => s.storedElem d hdr ((blockElems d b).headD 0) || (!descBook d && (mine b).any (fun i =>
      (s.rdElem t 0 i).v != stateVal (descFmt d) (s.rdCode d 0 i) (s.stateOf hdr b) (s.scaleOf hdr b)))
    let part := fun (b : Nat) => s.contribBlock t b (mine b)
    let code := fun (i : Nat) => let b := (blockOf d i).1
      if (descFmt d).scaled && slot b then
        (part b).codes.getD ((mine b).idxOf i) 0 else s.rdCode d 0 i
    ({ codes := idxs.map code,
       scales := bs.map (fun b => if slot b then (part b).scales.headD 0 else s.scaleOf hdr b),
       states := bs.map (fun b => if slot b then (if (part b).vals.all Val.isZero then 3 else 1) else s.stateOf hdr b),
       hists := bs.map (fun b => if descBook d then s.histOf hdr b else 0) },
     idxs.any (s.badElem d 0) || bs.any (s.badScale hdr))

/-- A gather chunk's bytes: elements and scale bytes, then states, two bits each, and history words. -/
def GatherData.bytes (g : GatherData) (f : Fmt) : List Byte :=
  packCodes f g.codes ++ g.scales.flatMap (leBytes 1) ++
    (List.range (ceilDiv g.states.length 4)).map (fun k =>
      BitVec.ofNat 8 ([0, 1, 2, 3].foldl (fun n j => n + g.states.getD (4 * k + j) 0 % 4 * 4 ^ j) 0)) ++
    g.hists.flatMap (leBytes 2)

/-- A gather chunk read back from its bytes. -/
def gatherOf (d : Line) (first n : Nat) (data : List Byte) : GatherData :=
  let f := descFmt d
  let k := if f.scaled then (blocksIn d first n).length else 0
  let e := codeBytes f n
  { codes := (List.range n).map (codeAt f data), scales := (List.range k).map (fun j => numAt data (e + j) 1),
    states := (List.range k).map (fun j => numAt data (e + k + j / 4) 1 / 4 ^ (j % 4) % 4),
    hists := (List.range k).map (fun j => numAt data (e + k + ceilDiv k 4 + 2 * j) 2) }

/-- The values of a contribution chunk of a source like `d`. -/
def contribVals (d : Line) (first n : Nat) (data : List Byte) : List Val :=
  let f := descFmt d
  let bs := blocksIn d first n
  (List.range n).map (fun i =>
    if f.scaled then scaledVal f (codeAt f data i) (numAt data (codeBytes f n + bs.idxOf (blockOf d (first + i)).1) 1)
    else f.decode (codeAt f data i))

/-- R287: a sum in element order, in FP32 with RN, as its code. -/
def sumOf : List Val → Nat
  | [] => 0
  | v :: vs => (vs.foldl (fun a x => (toFp32 (Val.add (f32 a) (f32 (toFp32 x).code)).v).code) (toFp32 v).code)

/-! ### Headers (R152, R257, R285, R286) -/

/-- R152: the 16 bytes of a verdict header. -/
def Verdict.bytes (v : Verdict) : List Byte :=
  leBytes 4 v.tag.toNat ++ leBytes 4 ((if v.nf then 1 else 0) + (if v.void then 2 else 0)) ++ leBytes 4 v.ovf ++ leBytes 4 v.contributors

/-- A verdict header read from bytes. -/
def verdictAt (data : List Byte) (off : Nat) : Verdict :=
  { tag := BitVec.ofNat 32 (numAt data off 4), nf := (numAt data (off + 4) 1).testBit 0, void := (numAt data (off + 4) 1).testBit 1,
    ovf := numAt data (off + 8) 4, contributors := numAt data (off + 12) 4 }

/-- R154: headers combined, the counts with saturation. -/
def Verdict.join (a b : Verdict) : Verdict :=
  { a with nf := a.nf || b.nf, void := a.void || b.void, ovf := min (2 ^ 32 - 1) (a.ovf + b.ovf),
           contributors := min (2 ^ 32 - 1) (a.contributors + b.contributors) }

/-- R152: bits 31:0 of the step counter. -/
def State.stepTag (s : State) : BitVec 32 := BitVec.ofNat 32 (s.dv 0xA03200)

/-- R286: the digest of a chunk: packet header, bytes 0–39 and 48–63 of the chunk header, elements and scale bytes. -/
def chunkDigest (header data : List Byte) (n : Nat) : Nat :=
  crc64 (header ++ data.take 40 ++ (data.drop 48).take 16 ++ (data.drop 64).take n)

/-- R285: a chunk header with the digest field 0. -/
def chunkHeader (digest gseq index first rank kind abs sum : Nat) (v : List Byte) : List Byte :=
  leBytes 8 digest ++ leBytes 4 gseq ++ leBytes 4 index ++ leBytes 8 first ++ leBytes 2 rank ++ leBytes 1 kind ++ leBytes 1 0 ++
    leBytes 4 abs ++ leBytes 8 sum ++ leBytes 8 0 ++ v

/-- Data with the digest put into bytes 40–47 of its chunk header. -/
def withDigest (data : List Byte) (x : Nat) : List Byte := data.take 40 ++ leBytes 8 x ++ data.drop 48

/-- Data filled up to whole lines. -/
def padLines (data : List Byte) : List Byte := data ++ List.replicate (ceilDiv data.length 64 * 64 - data.length) 0

/-! ### The running collectives -/

def State.collective (s : State) (id : Nat) : Option Collective := s.collectives.find? (fun c => c.id == id)
def State.onCollective (s : State) (id : Nat) (f : Collective → Collective) : State :=
  { s with collectives := s.collectives.map (fun c => if c.id == id then f c else c) }

/-- R279: the region of a collective engine, two in each of CR40–CR43. -/
def Collective.region (c : Collective) : Nat := 40 + c.engine / 2

/-- R288: a status that this member, or the shard it owns, met. -/
def State.meetOwn (s : State) (id st : Nat) : State := s.onCollective id (fun c => { c with own := worse c.own st })
def State.meetShard (s : State) (id st : Nat) : State := s.onCollective id (fun c => { c with shardStatus := worse c.shardStatus st })

/-! ### Sending -/

/-- R258, R261: a collective packet sent to another member; without a route the member meets NO_ROUTE. The digest is
formed here; a close notice has none. -/
def State.sendCol (s : State) (x : ColSent) : State :=
  match s.routePort x.node with
  | none => s.meetOwn x.collective St.noRoute
  | some _ =>
    let lines := ceilDiv x.data.length 64
    let hdr := packetHead x.op x.node s.node x.flag x.poison 0 (s.streamOut x.node).epoch.toNat 0 x.handle lines x.tag 0
    let data := if x.op = 0x22 then x.data else withDigest x.data (chunkDigest hdr x.data x.covered)
    { s.sendPacket x.op x.node x.flag x.poison 0 x.handle lines x.tag 0 data with colSent := s.colSent ++ [{ x with data := data, risk := false }] }

/-- The answer to a collective packet; none to this module itself. -/
def State.colAck (s : State) (p : Packet) (st : Nat) : State :=
  if p.src.toNat = s.node then s else s.sendBack p 0xA0 0 0 0 st false []

/-- A packet of the module to itself. -/
def State.ownPacket (s : State) (handle : Nat) (poison : Bool) (data : List Byte) : Packet :=
  { via := .fabric 0, src := BitVec.ofNat 16 s.node, dst := BitVec.ofNat 16 s.node, poison := poison,
    addr := BitVec.ofNat 64 handle, length := BitVec.ofNat 16 (ceilDiv data.length 64), data := data }

end Sys2Proof.Machine
end

