-- ==== Sys2Proof/Machine/Collective.lean ====
section
/-!
DEFINITION. Collectives (R279 to R290): the commands and their checks, the receipt of chunks and close notices, closing a shard,
the fold of statuses and verdicts, hints and timeouts; and the close of an epoch, on which a shard's close waits (R65).
-/

namespace Sys2Proof.Machine

/-! ### Waiting packets (R284) -/

/-- R284: bytes in the collective holdback. -/
def State.parkedBytes (s : State) : Nat :=
  (s.parked.filter (fun w => w.key == 0)).foldl (fun n w => n + 64 * ceilDiv w.pkt.data.length 64) 0

/-- A collective packet put by; past the 64 MiB of the holdback its credits are withheld, and it waits for room. `key` names
the counter of a wait at the adders, 0 that its collective has not started. -/
def State.park (s : State) (op : Nat) (p : Packet) (key since : Nat) : State :=
  let key := if key = 0 ∧ 0x4000000 < s.parkedBytes + 64 * ceilDiv p.data.length 64 then 0x501900 else key
  { s with parked := s.parked ++ [{ op := op, pkt := p, key := key, since := since }] }

/-- The wait of a packet that goes on is counted where R69, R227, R284 and R332 say. -/
def State.unpark (s : State) (key since : Nat) : State := if key = 0 then s else s.surge key since

/-! ### Receiving a chunk (R286 to R288) -/

/-- R424, R288: a suspected silent error: recorded and counted; one that names this module asks for a recovery test of the units
that handled the chunk. -/
def State.noteSuspect (s : State) (c : Collective) (node cause index : Nat) : State :=
  let s1 := (s.recordOf 0x5006 9 c.region
    (node + cause * 2 ^ 16 + c.digest * 2 ^ 64 + c.gseq * 2 ^ 128 + index * 2 ^ 160)).bump 0x501600 1
  if node = s.node then
    let mem := match (s.dataAddr (s.desc c.dst) (elemOff (s.desc c.dst) 0 c.first).1).map place with
      | some (.lpddr n) => [ctrlRegion (pkgOf n)]
      | _ => []
    { s1 with test := { s1.test with regionTests := s1.test.regionTests ++ (mem ++ [c.region]).filter (fun r =>
      !s1.test.regionTests.contains r) } }
  else s1

/-- Whether a chunk needs no further arrival: applied, or given up (its digest tries are then 4). -/
def ChunkSeen.ended (x : ChunkSeen) : Bool := x.applied || decide (4 ≤ x.digestTries)
def ChunkSeen.givenUp (x : ChunkSeen) : ChunkSeen := { x with digestTries := 4 }

/-- What the member holds of a chunk, put in place of what it held. -/
def State.see (s : State) (id : Nat) (gather : Bool) (x : ChunkSeen) : State :=
  let same := fun (y : ChunkSeen) => y.rank == x.rank && y.index == x.index
  s.onCollective id (fun c =>
    if gather then { c with gathered := c.gathered.filter (fun y => !same y) ++ [x] }
    else { c with seen := c.seen.filter (fun y => !same y) ++ [x] })

/-- R282, R285: the member's view of an arriving chunk: what it holds of it so far, or a new record. -/
def Collective.chunkFor (c : Collective) (gather : Bool) (data : List Byte) (n : Nat) : ChunkSeen :=
  let rank := numAt data 24 2
  let index := numAt data 12 4
  ((if gather then c.gathered else c.seen).find? (fun y => y.rank == rank && y.index == index)).getD
    { rank := rank, index := index, first := numAt data 16 8, count := n, sum := numAt data 32 4, abs := numAt data 28 4,
      applied := false, last := (numAt data 26 1).testBit 0 }

/-- R282: the length of the chunk in the plan of this member, `none` when handle, sender, kind or range differ. -/
def State.planned (s : State) (c : Collective) (gather : Bool) (p : Packet) : Option Nat :=
  let data := p.data
  let rank := numAt data 24 2
  let shard := if gather then (List.range c.shardCount).find? (fun r => c.owner r == rank) else c.mine
  match shard with
  | none => none
  | some r =>
    let plan := s.planOf c gather r
    let index := numAt data 12 4
    match plan[index]? with
    | none => none
    | some (first, n) =>
      if p.addr.toNat % 2 ^ 24 = c.dst ∧ first = numAt data 16 8 ∧
          p.length.toNat = chunkLines (s.desc (if gather then c.dst else c.src)) gather first n ∧ c.members[rank]? = some p.src.toNat ∧
          (gather || c.reduces) ∧ (!gather || c.kind != 0x50 && c.kind != 0x52) ∧
          (numAt data 26 1).testBit 0 = decide (index + 1 = plan.length) then some n else none

/-- R153, R154: a header of another step than this module's is recorded and sets VOID in the latch. -/
def State.checkTag (s : State) (c : Collective) (node : Nat) (v : Verdict) : State :=
  if v.tag != s.stepTag then
    let s1 := s.recordOf 0xA004 9 c.region (node + v.tag.toNat * 2 ^ 32 + s.stepTag.toNat * 2 ^ 64)
    { s1 with step := { s1.step with void := true } }
  else s

/-- R154: a header as it enters the combined one: another step's sets VOID. -/
def State.tagged (s : State) (v : Verdict) : Verdict := { v with void := v.void || v.tag != s.stepTag }

/-- R154: the verdict header of a contribution folded by the owner. -/
def State.foldHeader (s : State) (c : Collective) (node : Nat) (v : Verdict) : State :=
  (s.checkTag c node v).onCollective c.id (fun c => { c with shard := c.shard.join (s.tagged v) })

/-- R220, R45: FP32 or narrow contributions added to unscaled data; a line that does not decode takes none. -/
def State.addPlain (s : State) (h first : Nat) (vals : List Val) : Acc :=
  let d := s.desc h
  let f := descFmt d
  (List.zip (List.range vals.length) vals).foldl (fun (a : Acc) x =>
    let i := first + x.1
    if a.s.badElem d 0 i then
      match a.s.dataAddr d (elemOff d 0 i).1 with
      | some ad => { a with
          s := a.s.poisonRead ad, bad := true }
      | none => { a with bad := true }
    else
      let old := f.decode (a.s.rdCode d 0 i)
      let r := Val.add old x.2
      let k := convert f false .rn r.v
      { a with s := a.s.wrCode d 0 i k.code, fl := a.fl ||| r.fl ||| k.fl ||| old.nf ||| x.2.nf }) ⟨s, 0, false⟩

/-- A contribution chunk applied to the destination (R66, R69, R220, R221). -/
def State.addChunk (s : State) (c : Collective) (first : Nat) (vals : List Val) : Acc :=
  match s.tensor c.dst with
  | none => ⟨s, 0, false⟩
  | some t =>
    let a := if descBook t.desc then
        State.storeBook ⟨s, 0, false⟩ c.dst t none c.round false false
          (List.zip ((List.range vals.length).map (first + ·)) vals)
      else s.addPlain c.dst first vals
    { a with s := (a.s.latchVerdict c.dst a.fl).useEntries t.desc ((List.range vals.length).map (first + ·)) }

/-- What stops a chunk at the destination's memory now: a status (R226, R229), or the counter its wait goes to. -/
def State.chunkStop (s : State) (c : Collective) (gather : Bool) (first n : Nat) : Option (Nat ⊕ Nat) :=
  if n = 0 then none
  else match s.memoryFail [] [(0, c.dst)] with
    | some f => some (.inl f.st)
    | none =>
      if s.memoryWaits [c.dst] then some (.inr 0x400D00)
      else if s.tensorBarred c.dst then some (.inr 0x601900)
      else if !gather && s.bookWaits c.dst first n then some (.inr 0x801300)
      else
        let key := s.ingressHold [c.dst] (if gather then [] else [(c.dst, (List.range n).map (first + ·))])
        if key ≠ 0 then some (.inr key) else none

/-- R211: poison of whole lines of a tensor's data that were overwritten. -/
def State.freshenBytes (s : State) (d : Line) (off n : Nat) : State :=
  let u := mapUnit d
  (List.range ((off + n - 1) / u + 1 - off / u)).foldl (fun s i =>
    let lo := max off ((off / u + i) * u)
    let hi := min (off + n) ((off / u + i + 1) * u)
    let lo := ceilDiv lo 64 * 64
    let hi := hi / 64 * 64
    match s.dataAddr d lo with
    | some a => if lo < hi then s.freshen a (hi - lo) else s
    | none => s) s

/-- R71: a gather chunk written into the member's own copy, its plane unchanged. -/
def State.writeGather (s : State) (c : Collective) (first : Nat) (g : GatherData) : State :=
  match s.tensor c.dst with
  | none => s
  | some t =>
    let d := t.desc
    let hdr := t.hdr 0
    let n := g.codes.length
    let off := (elemOff d 0 first).1
    let len := codeBytes (descFmt d) n
    let s1 := (s.bindBytes c.dst s.idlestCluster off len).freshenBytes d off len
    let idxs := (List.range n).map (first + ·)
    let vs := List.zip idxs (g.vals d first)
    let s1 := (State.moveChannels ⟨s1, 0, false⟩ c.dst t idxs).s
    let slot := fun (i : Nat) => s1.storedElem d hdr i
    let s2 := (List.zip idxs g.codes).foldl (fun s x => if slot x.1 then s else s.wrCode d 0 x.1 x.2) (s1.noteElems d 0 idxs)
    let bs := blocksIn d first n
    let s3 := (List.zip bs (List.zip g.scales (List.zip g.states g.hists))).foldl (fun s x =>
      let mine := vs.filter (fun y => (blockOf d y.1).1 == x.1)
      if slot ((blockElems d x.1).headD 0) then
        let a := State.wrSlotElems ⟨s, 0, false⟩ c.dst d hdr { field := 1 } (chanOfElem d ((blockElems d x.1).headD 0)) mine
        a.s.slotMax d hdr x.1 (a.s.blockVals t 0 x.1)
      else
        let s1 := ((s.clearSide d hdr x.1).setScale hdr x.1 x.2.1).setState hdr x.1 x.2.2.1
        let s2 := if descBook d then s1.setHist hdr x.1 x.2.2.2 else s1
        if descOutlier d && (x.2.2.1 == 1 || x.2.2.1 == 2) then
          s2.chanMax hdr (chanOfElem d ((blockElems d x.1).headD 0)) x.2.1 else s2) s2
    let fl := if (g.vals d first).all Val.isFinite then 0 else Flag.nonFinite
    ((if descClass d = 4 then s3.bump 0xA03800 len else s3).latchVerdict c.dst fl).raise c.q c.cmdId fl

/-- R288: a chunk given up with a status, for this member's copy or for the shard it owns. -/
def State.giveUp (s : State) (c : Collective) (gather : Bool) (x : ChunkSeen) (st : Nat) : State :=
  let s1 := s.see c.id gather x.givenUp
  if gather then s1.meetOwn c.id st else s1.meetShard c.id st

/-- R287, R288: a chunk whose sum is not its sender's: asked for once more, then a suspected silent error of the sender. -/
def State.sumFails (s : State) (c : Collective) (gather : Bool) (p : Packet) (x : ChunkSeen) : State :=
  if x.sumTries = 0 ∧ p.src.toNat ≠ s.node then (s.see c.id gather { x with sumTries := 1 }).colAck p St.sumCheckFailed
  else
    let s1 := (s.noteSuspect c p.src.toNat 1 x.index).giveUp c gather x St.sumCheckFailed
    (s1.onCollective c.id (fun c => { c with suspect := p.src.toNat })).colAck p 0

/-- R287: a member's written copy of a gather chunk, read back: whether it decodes, and its sum. -/
def State.copySum (s : State) (c : Collective) (first n : Nat) : Bool × Nat :=
  match s.tensor c.dst with
  | none => (true, 0)
  | some t =>
    let es := (List.range n).map (fun i => s.rdElem t 0 (first + i))
    (!es.any (·.bad), sumOf (es.map (·.v)))

/-- R154, R287: a gather chunk written and its copy's sum checked; the header of its last one checked. -/
def State.takeGather (s : State) (c : Collective) (p : Packet) (x : ChunkSeen) : State :=
  let n := x.count
  let s1 := if n = 0 then s else s.writeGather c x.first (gatherOf (s.desc c.dst) x.first n (p.data.drop 64))
  let r := s1.copySum c x.first n
  if n ≠ 0 ∧ r.1 = true ∧ r.2 ≠ x.sum then s1.sumFails c true p x
  else
    let v := verdictAt p.data 48
    let s2 := if r.1 then s1 else s1.meetOwn c.id St.dataPoisoned
    let s3 := if c.verdict && x.last then
        (s2.checkTag c p.src.toNat v).onCollective c.id (fun c => { c with void := c.void || v.tag != s2.stepTag }) else s2
    (s3.see c.id true { x with applied := true }).colAck p 0

/-- R287: a chunk that passed its checks: applied, or put by until its memory takes it. -/
def State.applyChunk (s : State) (c : Collective) (op : Nat) (p : Packet) (x : ChunkSeen) (key since : Nat) : State :=
  let gather := op == 0x21
  let first := x.first
  let n := x.count
  match s.chunkStop c gather first n with
  | some (.inr k) => s.park op p k (if k = key then since else s.now)
  | some (.inl st) => ((s.unpark key since).giveUp c gather x st).colAck p 0
  | none =>
    let r := if n = 0 then (s, true) else s.accessTensors [] [c.dst]
    if !r.2 then r.1.park op p 0 (if key = 0 then since else s.now)
    else
      let s0 := r.1.unpark key since
      if gather then s0.takeGather c p x
      else
        let data := p.data.drop 64
        let a : Acc := if n = 0 then ⟨s0, 0, false⟩
          else s0.addChunk c first (contribVals (s.desc c.src) first n data)
        let s1 := (a.s.raise c.q c.cmdId a.fl).see c.id false { x with applied := true }
        let s2 := if a.bad then s1.meetShard c.id St.dataPoisoned else s1
        let s3 := if c.verdict && x.last then s2.foldHeader c p.src.toNat (verdictAt p.data 48) else s2
        s3.colAck p 0

/-- R286 to R288: a chunk of a running collective: duplicate, digest, poison, sum, application. -/
def State.checkChunk (s : State) (c : Collective) (op : Nat) (p : Packet) (n key since : Nat) : State :=
  let gather := op == 0x21
  let d := s.desc (if gather then c.dst else c.src)
  let x := c.chunkFor gather p.data n
  let x := { x with sum := numAt p.data 32 4, abs := numAt p.data 28 4 }
  let first := x.first
  let hdr := packetHead op p.dst.toNat p.src.toNat p.flag p.poison 0 p.epoch.toNat p.seq.toNat (p.addr.toNat % 2 ^ 48)
    p.length.toNat p.tag.toNat p.op.toNat
  let mine := p.src.toNat == s.node
  if x.ended then s.colAck p 0
  else if !mine && chunkDigest hdr p.data (chunkBytes d first n) != numAt p.data 40 8 then
    if x.digestTries < 3 then
      ((s.see c.id gather { x with digestTries := x.digestTries + 1 }).bump 0x501500 1).colAck p St.crcResendLimit
    else (s.giveUp c gather x St.crcResendLimit).colAck p 0
  else if p.poison then (s.giveUp c gather x St.dataPoisoned).colAck p 0
  else
    let vals := contribVals d first n (p.data.drop 64)
    if !gather && sumOf vals != x.sum then s.sumFails c gather p x
    else s.applyChunk c op p x key since

/-! ### Closing a shard (R287, R288) -/

/-- R287: the top-binade step of a format. -/
def topStep : Fmt → Nat
  | .e4m3 => 32 | .e5m2 => 8192 | .fp4 => 2 | _ => 1

/-- R287: the bound of the reduced-sum check of a chunk range. -/
def State.sumBound (s : State) (c : Collective) (first n : Nat) (abs : Val) : Val :=
  match s.tensor c.dst with
  | none => .zero
  | some t =>
    let d := t.desc
    let g := c.members.length
    let k := Val.ofInt (g + 2 * ceilDiv n 256 + 24 : Nat)
    let base := (Val.mul (k.shift (if descFmt d = .bf16 then -8 else -24)) abs).v
    if (descFmt d).scaled then
      let idxs := (List.range n).map (first + ·)
      (blocksIn d first n).foldl (fun acc b =>
        let nb := (idxs.filter (fun i => (blockOf d i).1 == b)).length
        (Val.add acc ((Val.ofInt ((g + 1) * nb * topStep (descFmt d) : Nat)).shift (ue8 (s.scaleOf (t.hdr 0) b)))).v) base
    else base

/-- R287: the reduced-sum check of one chunk range of the closed shard. -/
def State.checkRange (s : State) (c : Collective) (index first n : Nat) : State :=
  match s.tensor c.dst with
  | none => s
  | some t =>
    let xs := (List.range c.members.length).map (fun r => c.seen.find? (fun x => x.rank == r && x.index == index && x.applied))
    if n = 0 ∨ xs.any Option.isNone then s
    else if descBook t.desc && (blocksIn t.desc first n).any c.closedBad.contains then s.bump 0x501700 1
    else
      let ys := xs.filterMap id
      let r := f32 (sumOf (((List.range n).map (first + ·)).map (fun i => (s.rdElem t 0 i).v)))
      let sum := f32 (sumOf (ys.map (fun x => f32 x.sum)))
      let abs := (Val.sum (ys.map (fun x => f32 x.abs))).v
      if !(r.isFinite && sum.isFinite && abs.isFinite) then s.bump 0x501700 1
      else if Val.le (Val.add r sum.neg).v.abs (s.sumBound c first n abs) then s
      else ((s.noteSuspect c s.node 2 index).meetShard c.id St.sumCheckFailed).onCollective c.id (fun c =>
        { c with suspect := s.node })

/-- R287: the reduced-sum checks of the shard; those of gathers and broadcasts are skipped and counted. -/
def State.checkShard (s : State) (c : Collective) (r : Nat) : State :=
  let plan := s.planOf c (!c.reduces) r
  if c.reduces then
    (List.zip (List.range plan.length) plan).foldl (fun s x => s.checkRange c x.1 x.2.1 x.2.2) s
  else s.bump 0x501700 plan.length

/-- R288: the line of a close notice. -/
def closeLine (v : Verdict) (st suspect : Nat) : List Byte :=
  Verdict.bytes { v with void := v.void || refusedStatus st } ++ leBytes 2 st ++ leBytes 2 suspect ++ leBytes 44 0

/-- R282, R288: a close notice at a member: of the earliest started collective on its tensor that still misses it. -/
def State.closeFor (s : State) (p : Packet) : Option (Collective × Nat) :=
  (s.collectives.filter (fun c => decide (c.engine < 8) && c.dst == p.addr.toNat % 2 ^ 24)).findSome? (fun c =>
    (List.range c.shardCount).findSome? (fun r =>
      if c.members[c.owner r]? = some p.src.toNat ∧ !c.closes.any (fun x => x.rank == c.owner r) then some (c, c.owner r)
      else none))

/-- R288: a close notice held; one whose collective this member has not started is put by. -/
def State.takeClose (s : State) (p : Packet) (since : Nat) (again : Bool := false) : State :=
  match s.closeFor p with
  | none => s.park 0x22 p 0 since
  | some (c, rank) =>
    let v := verdictAt p.data 0
    let s1 := if c.verdict then s.checkTag c p.src.toNat v else s
    (s1.onCollective c.id (fun c => { c with
      progress := if again then c.progress else s.now,
      closes := c.closes ++ [{ rank := rank, hdr := if c.verdict then s.tagged v else v, status := numAt p.data 16 2, suspect := numAt p.data 18 2 }] })).colAck
      p 0

/-! ### Collective packets (R282, R284) -/

/-- R282: a collective running here by its group digest and sequence. -/
def State.collectiveFor (s : State) (data : List Byte) : Option Collective :=
  s.collectives.find? (fun c => decide (c.engine < 8) && c.digest == numAt data 0 8 && c.gseq == numAt data 8 4)

/-- R280, R282: whether a chunk is of a collective that this module started and that is over. -/
def State.colStale (s : State) (data : List Byte) : Bool :=
  (List.range (s.dv 0x501300)).any (fun g =>
    let e := s.dv 0x501200 + 64 * g
    s.rdNat (e + 16) 8 == numAt data 0 8 && decide (numAt data 8 4 < s.rdNat (e + 12) 4))

/-- R71, R283: a shard of a tensor sent to one member in gather chunks, the verdict header on the last. -/
def State.sendGather (s : State) (c : Collective) (r node : Nat) (h : Nat) (v : List Byte)
    (deliver : State → Packet → State) : State :=
  let d := s.desc h
  let plan := chunkPlan (descFmt d) (s.shardOf c r)
  (List.zip (List.range plan.length) plan).foldl (fun s x =>
    let (first, n) := x.2
    let g := s.gatherSrc h first n
    let vals := g.1.vals d first
    let last := x.1 + 1 == plan.length
    let data := padLines (chunkHeader c.digest c.gseq x.1 first c.rank (if last then 1 else 0) (sumOf (vals.map Val.abs)) (sumOf vals)
      (if last then v else leBytes 16 0) ++ g.1.bytes (descFmt d))
    let s := if g.2 then s.meetShard c.id St.dataPoisoned else s
    if node = s.node then deliver s (s.ownPacket c.dst g.2 data)
    else { s with nextTag := (s.nextTag + 1) % 65536 }.sendCol {
      collective := c.id, tag := s.nextTag, node := node, op := 0x21, handle := c.dst, flag := false, poison := g.2,
      data := data, covered := chunkBytes d first n }) s

/-- R154: the combined verdict header of the shard a member owns, with the blocks it closed with OVF or NF. -/
def State.shardHeader (s : State) (c : Collective) : Verdict :=
  if c.verdict then { c.shard with tag := s.stepTag, ovf := min (2 ^ 32 - 1) (c.shard.ovf + c.closedBad.length) } else {}

/-- R226, R288: the status of the shard a member owns. -/
def Collective.ownerStatus (c : Collective) : Nat := worse c.shardStatus (if c.derated then St.memoryDerated else St.ok)

/-- R288: the CLOSE of the member's shard, to every member. -/
def State.sendClose (s : State) (id : Nat) : State :=
  match s.collective id with
  | none => s
  | some c =>
    let line := closeLine (s.shardHeader c) c.ownerStatus c.suspect
    let s1 := s.onCollective id (fun c => { c with shardClosed := true })
    c.members.foldl (fun s n =>
      if n = s.node then s.takeClose (s.ownPacket c.dst false line) s.now
      else { s with nextTag := (s.nextTag + 1) % 65536 }.sendCol {
        collective := id, tag := s.nextTag, node := n, op := 0x22, handle := c.dst, flag := true, poison := false, data := line,
        covered := 0 }) s1

/-- R282: both ends complete with COLLECTIVE_MISMATCH; R284: a member gives its collective up. The member's own shard closes with
the status, so that every member folds it. -/
def State.abandon (s : State) (id st : Nat) : State :=
  match s.collective id with
  | none => s
  | some c =>
    let s1 := s.meetOwn id st
    let s2 := if c.entered then (s1.leaveEpoch c.dst).onCollective id (fun c => { c with entered := false }) else s1
    let s3 := if c.mine.isSome && !c.shardClosed then (s2.meetShard id st).sendClose id else s2
    s3.onCollective id (fun c => { c with kind := c.kind + 0x100 })

/-- Whether a collective was given up; it then completes with what it holds. -/
def Collective.abandoned (c : Collective) : Bool := decide (0x100 ≤ c.kind)

/-- R282, R284: a chunk: of a collective not started here it is put by; one of a collective that is over is acknowledged; one
that differs from this member's command ends both. -/
def State.takeChunk (s : State) (op : Nat) (p : Packet) (key since : Nat) (again : Bool := false) : State :=
  match s.collectiveFor p.data with
  | none => if s.colStale p.data then s.colAck p 0 else s.park op p 0 since
  | some c =>
    let s1 := if again then s else s.onCollective c.id (fun c => { c with progress := s.now })
    match s.planned c (op == 0x21) p with
    | none => (s1.abandon c.id St.collectiveMismatch).colAck p St.collectiveMismatch
    | some n => s1.checkChunk c op p n key since

/-- A collective packet, new or put by: one that is tried again is no chunk or notice seen anew (R284). -/
def State.takeCol (s : State) (op : Nat) (p : Packet) (key since : Nat) (again : Bool := false) : State :=
  if op = 0x22 then s.takeClose p since again else s.takeChunk op p key since again

/-- R278: the order in which packets that were put by are tried again: arrival order, but those that wait for room in the holdback take
it by turns over their groups. -/
def colOrder (ws : List ColWait) : List ColWait :=
  let mine := ws.filter (fun w => w.key == 0x501900)
  ws.filter (fun w => w.key != 0x501900) ++ rrOrder (fun w => numAt w.pkt.data 0 8) mine.length 0 mine

/-- Packets that were put by are tried again; one that finds room in the holdback frees its receive buffer (R254, R284). -/
def State.retryCols (s : State) : State :=
  (colOrder s.parked).foldl (fun s w =>
    let s1 := s.takeCol w.op w.pkt w.key w.since true
    match w.pkt.via with
    | .fabric n =>
      if w.key = 0x501900 ∧ w.pkt.src.toNat ≠ s.node ∧ !s1.parked.any (fun x => x.key == 0x501900 && x.pkt == w.pkt) then
        s1.creditBack n w.op (pktSize w.pkt) else s1
    | .traek => s1) { s with parked := [] }

/-! ### Phase 1 (R283, R287) -/

/-- R283, R287: phase 1 of the member's shard is over: every contribution to it has been applied, or given up; in ALL_GATHER and BROADCAST
every member has the shard (log entry 188). -/
def State.phaseDone (s : State) (c : Collective) : Bool :=
  match c.mine with
  | none => true
  | some r =>
    let n := (s.planOf c (!c.reduces) r).length
    if c.reduces then
      (List.range c.members.length).all (fun k => (List.range n).all (fun j =>
        c.seen.any (fun x => x.rank == k && x.index == j && x.ended)))
    else
      !s.colSent.any (fun x => x.collective == c.id && x.op == 0x21) &&
        (List.range n).all (fun j => c.gathered.any (fun x => x.rank == c.rank && x.index == j && x.ended))

/-- R65, R283: the reduce phase lowers the destination's open count when it is over. -/
def State.endPhases (s : State) : State :=
  s.collectives.foldl (fun s c =>
    if c.entered && s.phaseDone c then (s.leaveEpoch c.dst).onCollective c.id (fun c => { c with entered := false }) else s) s

/-- R287, R288: whether the member's shard may close: phase 1 over, and the epoch of its blocks closed. -/
def State.shardDue (s : State) (c : Collective) : Bool :=
  match c.mine with
  | none => false
  | some r =>
    decide (c.engine < 8) && !c.shardClosed && s.phaseDone c &&
      (!c.reduces || (match s.tensor c.dst with
        | none => true
        | some t =>
          let x := s.shardOf c r
          !descBook t.desc || x.2 == 0 ||
            (t.opens == 0 && !(blocksIn t.desc x.1 x.2).any t.touched.contains)))

/-! ### Starting (R279 to R283) -/

/-- R279: places taken on an engine, and in all. -/
def State.engineLoad (s : State) (e : Nat) : Nat := (s.collectives.filter (fun c => c.engine == e)).length
def State.running (s : State) : Nat := (s.collectives.filter (fun c => decide (c.engine < 8))).length

/-- R279: the engine with the fewest running collectives, the lowest number on a tie. -/
def State.freeEngine (s : State) : Nat :=
  (List.range 8).foldl (fun best e => if s.engineLoad e < s.engineLoad best then e else best) 0

/-- R280: the address of a group entry, its node list. -/
def State.groupAt (s : State) (g : Nat) : Nat := s.dv 0x501200 + 64 * g
def State.groupNodes (s : State) (g : Nat) : List Nat :=
  let e := s.groupAt g
  (List.range (s.rdNat (e + 8) 2)).map (fun i => s.rdNat (s.rdNat e 8 + 2 * i) 2)

/-- R273, R280: the directory grants the group's node list, and its entry to be written. -/
def State.accessGroup (s : State) (g : Nat) : State × Bool :=
  let r := s.accessRange (s.groupAt g) 64 true
  let x := r.1.accessRange (s.rdNat (s.groupAt g) 8) (2 * s.rdNat (s.groupAt g + 8) 2) false
  (x.1, r.2 && x.2)

/-- R280: whether a group can be used: in the table, readable, of 1 to 16,384 members, with this node in it once. -/
def State.groupGood (s : State) (g : Nat) : Bool :=
  let e := s.groupAt g
  let list := s.rdNat e 8
  let n := s.rdNat (e + 8) 2
  decide (g < s.dv 0x501300) && s.memStatus e 64 .command false == 0 && !s.badRange e 64 && list % 64 == 0 && decide (1 ≤ n) &&
    decide (n ≤ 16384) && s.memStatus list (2 * n) .command false == 0 && !s.badRange list (2 * n) &&
    (s.groupNodes g).count s.node == 1

/-- R445: a reservation that refuses the read of a group entry, or of its node list, stops the command. -/
def State.groupDenied (s : State) (g : Nat) : Option Fail :=
  let e := s.groupAt g
  let (list, n) := (s.rdNat e 8, s.rdNat (e + 8) 2)
  if s.dv 0x501300 ≤ g then none
  else if s.memStatus e 64 .command false = St.memoryDenied then some (s.rangeFail St.memoryDenied e 64 14 g false)
  else if 1 ≤ n ∧ n ≤ 16384 ∧ s.memStatus list (2 * n) .command false = St.memoryDenied then
    some (s.rangeFail St.memoryDenied list (2 * n) 14 g false)
  else none

/-- R280: first use finds the own rank and the digest; the sequence counts the collectives started. -/
def State.joinGroup (s : State) (id : Nat) : State :=
  match s.collective id with
  | none => s
  | some c =>
    let e := s.groupAt c.group
    let nodes := s.groupNodes c.group
    let old := s.rdNat (e + 16) 8
    let digest := if old = 0 then crc64 (s.rdBytes (s.rdNat e 8) (2 * nodes.length)) else old
    let rank := if old = 0 then nodes.idxOf s.node else s.rdNat (e + 10) 2
    let seq := s.rdNat (e + 12) 4
    let engine := s.freeEngine
    let s1 := ((s.wrNat (e + 10) 2 rank).wrNat (e + 12) 4 (seq + 1)).wrNat (e + 16) 8 digest
    s1.onCollective id (fun c => { c with
      engine := engine, members := nodes, digest := digest, rank := rank, gseq := seq, progress := s.now,
      holders := (s.cooling.holds.map (·.1)).filter nodes.contains,
      suspendedAt := if (s.cooling.holds.map (·.1)).any nodes.contains then some s.now else none })

/-- R65, R283: the owner opens the destination's epoch, which closes one that is over, and clears its shard to zero codes. -/
def State.openShard (s : State) (id : Nat) : State :=
  match s.collective id with
  | none => s
  | some c =>
    match c.mine, s.tensor c.dst with
    | some r, some t =>
      let x := s.shardOf c r
      if !c.reduces ∨ x.2 = 0 then s
      else
        let d := t.desc
        let off := (elemOff d 0 x.1).1
        let len := codeBytes (descFmt d) x.2
        let s0 := s.openEpoch c.dst
        let s1 := (s0.bindBytes c.dst s0.idlestCluster off len).freshenBytes d off len
        let s2 := (List.range x.2).foldl (fun s i =>
          if s.storedElem d (t.hdr 0) (x.1 + i) then s.wrNat (s.slotAddr d (t.hdr 0) (chanOfElem d (x.1 + i)) (x.1 + i)) 2 0
          else s.wrCode d 0 (x.1 + i) 0) s1
        s2.onCollective id (fun c => { c with entered := true })
    | _, _ => s

/-- R153: blocks of a contribution that hold a saturated or non-finite element: doubled blocks of a book-mode source, and blocks
or 128-element units with a non-finite value. -/
def State.ovfBlocks (s : State) (h : Nat) (x : Nat × Nat) (vals : List Val) : Nat :=
  match s.tensor h with
  | none => 0
  | some t =>
    let bad := ((List.zip (List.range vals.length) vals).filter (fun v => !v.2.isFinite)).map (x.1 + ·.1)
    if (descFmt t.desc).scaled then
      ((blocksIn t.desc x.1 x.2).filter (fun b =>
        (descBook t.desc && s.stateOf (t.hdr 0) b == 2) || bad.any (fun i => (blockOf t.desc i).1 == b))).length
    else ((bad.map (fun i => (i - x.1) / 128)).eraseDups).length

/-- R153: this module's header of a contribution. -/
def State.ownHeader (s : State) (h : Nat) (x : Nat × Nat) (vals : List Val) : Verdict :=
  { tag := s.stepTag, nf := s.step.nf || vals.any (fun v => !v.isFinite), void := s.step.void, ovf := s.ovfBlocks h x vals,
    contributors := 1 }

/-- R283, R284: the member's contribution to shard `r`, chunk by chunk, to its owner. -/
def State.sendContrib (s : State) (id r : Nat) : State :=
  match s.collective id with
  | none => s
  | some c =>
    let range := s.shardOf c r
    let plan := s.planOf c false r
    let d := s.desc c.src
    let xs := plan.map (fun x => s.contribSrc c.src x.1 x.2)
    let s := s.takeElems c.src 9 ((List.range range.2).map (range.1 + ·))
    let v := (s.ownHeader c.src range (xs.flatMap (·.vals))).bytes
    let node := c.members.getD (c.owner r) s.node
    (List.zip (List.range plan.length) (List.zip plan xs)).foldl (fun s y =>
      let (first, n) := y.2.1
      let x := y.2.2
      let last := y.1 + 1 == plan.length
      let data := padLines (chunkHeader c.digest c.gseq y.1 first c.rank (if last then 1 else 0) (sumOf (x.vals.map Val.abs))
        (sumOf x.vals) (if last && c.verdict then v else leBytes 16 0) ++ packCodes (descFmt d) x.codes ++ x.scales.flatMap (leBytes 1))
      let s := (if x.bad then s.meetOwn id St.dataPoisoned else s).raise c.q c.cmdId x.fl
      if node = s.node then s.takeChunk 0x20 (s.ownPacket c.dst x.bad data) 0 s.now
      else { s with nextTag := (s.nextTag + 1) % 65536 }.sendCol {
        collective := id, tag := s.nextTag, node := node, op := 0x20, handle := c.dst, flag := false, poison := x.bad, data := data,
        covered := chunkBytes d first n }) s

/-- R283: ALL_GATHER and BROADCAST: the owner sends its shard of the source to every member. -/
def State.sendOwnShard (s : State) (id : Nat) : State :=
  match s.collective id with
  | none => s
  | some c =>
    match c.mine with
    | none => s
    | some r =>
      let x := s.shardOf c r
      let es := match s.tensor c.src with
        | some t => ((List.range x.2).map (x.1 + ·)).map (s.rdElem t 0)
        | none => []
      let v := s.ownHeader c.src x (es.map (·.v))
      let s1 := ((s.takeElems c.src 9 ((List.range x.2).map (x.1 + ·))).raise c.q c.cmdId (es.foldl (fun n e => n ||| e.fl) 0)).onCollective id
        (fun c => { c with shard := v })
      c.members.foldl (fun s n => s.sendGather c r n c.src (if c.verdict then v.bytes else leBytes 16 0)
        (fun s p => s.takeChunk 0x21 p 0 s.now)) s1

/-- R226: whether a collective uses a package in state 1 or above. -/
def State.usesWarm (s : State) (c : Collective) : Bool :=
  [c.src, c.dst].any (fun h => (s.packagesUsed h).any (fun p => (s.package p).derate != 0))

/-- R280, R283: a collective has its place, its members and its shard's epoch; one that used a package in state 2 or 3 reports it (R226). -/
def State.placeCollective (s : State) (id : Nat) : State :=
  ((s.joinGroup id).openShard id).onCollective id (fun c => { c with
    derated := c.derated || s.deratedStatus ([c.src, c.dst].filter (· != 0)) != 0 })

/-- R279, R283: a collective takes its place on an engine and sends what it contributes; it hints where a package it uses is
derated (R226, R290). One whose package went out of service or into self-refresh meanwhile is given up with that status. -/
def State.beginCollective (s : State) (id : Nat) : State :=
  let s0 := s.placeCollective id
  match s0.collective id with
  | none => s0
  | some c =>
    let stop := s.engineStop ([c.src].filter (· != 0)) ([c.dst].filter (· != 0))
    if stop ≠ 0 then (s0.abandon id stop).retryCols
    else
    let s1 := if s0.usesWarm c then s0.hintMembers c else s0
    let s2 := if c.reduces then (List.range c.shardCount).foldl (fun s r => s.sendContrib id r) s1 else s1.sendOwnShard id
    let s3 := if c.closing then { s2 with step := { s2.step with closed := true } } else s2
    s3.retryCols

/-! ### Completing (R288, R289) -/

/-- R288: whether the member holds every CLOSE and, for ALL_REDUCE, every gathered chunk. -/
def State.colComplete (s : State) (c : Collective) : Bool :=
  decide (c.engine < 8) && (c.abandoned ||
    (decide (c.shardCount ≤ c.closes.length) &&
      (c.kind != 0x51 || (List.range c.shardCount).all (fun r =>
        c.owner r == c.rank ||
          (List.range (s.planOf c true r).length).all (fun j =>
            c.gathered.any (fun x => x.rank == c.owner r && x.index == j && x.ended))))))

/-- R288: the highest-ranked status among the close notices, the member's own and R226's. -/
def Collective.status (c : Collective) : Nat :=
  worse (c.closes.foldl (fun st x => worse st x.status) c.own) (if c.derated then St.memoryDerated else St.ok)

/-- R289: the collective's combined header. -/
def Collective.combined (c : Collective) : Verdict :=
  match c.closes with
  | [] => {}
  | x :: xs =>
    let v := xs.foldl (fun v y => { v.join y.hdr with contributors := min v.contributors y.hdr.contributors }) x.hdr
    { v with void := v.void || c.void }

/-- R156: a verdict collective's outcome enters the verdict of the step. -/
def State.foldVerdict (s : State) (c : Collective) : State :=
  if !c.verdict then s
  else
    let v := c.combined
    { s with step := { s.step with
        fold := { s.step.fold.join v with tag := s.stepTag },
        broken := s.step.broken || refusedStatus c.status || c.closes.any (fun x => x.suspect != 0xFFFF) || c.suspect != 0xFFFF,
        final := s.step.final || c.closing,
        finalAt := if c.closing && !s.step.final then s.now else s.step.finalAt } }

/-- R288: a collective is over: its command's work is done, its place is free. -/
def State.endCollective (s : State) (c : Collective) : State :=
  let s1 := (s.foldVerdict c).onStarted c.q c.cmdId (fun st => { st with
    done := true, status := worse st.status c.status, work := .none, engine := some (50 + c.engine) })
  { s1 with collectives := s1.collectives.filter (fun x => x.id != c.id) }

/-- R65, R70, R226, R325: whether a collective that waits for its place may begin: no hold keeps the fabric quiet, its source has no staged block, no package it uses is critical
without being in self-refresh, and its destination's last epoch has closed. -/
def State.colReady (s : State) (c : Collective) : Bool :=
  c.engine == 8 && !s.step.quiet && !s.anyStaged c.src && !(s.startedOf c.q c.cmdId).any (fun st => s.segmentsOpen c.q st [c.src]) && !s.memoryWaits [c.src, c.dst] && !(c.reduces && s.epochOwed c.dst)

/-- Collectives that are complete end, and those that wait for a place begin. -/
def State.runCollectives : Nat → State → State
  | 0, s => s
  | n + 1, s =>
    let s := s.endPhases
    match s.collectives.find? s.colComplete with
    | some c => State.runCollectives n (s.endCollective c)
    | none =>
      match s.collectives.find? s.colReady with
      | some c =>
        if s.running < 32 then
          let r := s.accessGroup c.group
          if r.2 then State.runCollectives n ((r.1.surge 0xA04700 c.progress).beginCollective c.id) else r.1
        else s
      | none => s

/-- What goes on after a collective event. -/
def State.goOnCol (s : State) : State := (State.runCollectives (2 * s.collectives.length + 2) s).goOn

/-! ### The hold's rows (R325 to R327): collectives go on when it is lifted -/

/-- RELEASE (R327): a kept hold is lifted. -/
def execRelease (q : Fin 256) (c : Line) (s : State) : Host.Outcome State Fault Refusal :=
  .next (s.take q c [] [] (fun _ => s.headerFail q c [(8, 0, 448)])
    (fun l => (s.atOnce q l c .ok (fun s => if s.step.bath.isNone then s.liftHold else s)).goOnCol))

/-- BATH_STAGE_END (R325). -/
def execBathStageEnd (t : Nat) (s : State) : Host.Outcome State Fault Refusal :=
  let s1 := s.tick t
  .next (match s1.step.bath with
    | some b => (s1.endStage b).goOnCol
    | none => s1)

/-- BATH_TIMEOUT (R326). -/
def execBathTimeout (t : Nat) (s : State) : Host.Outcome State Fault Refusal :=
  let s1 := s.tick t
  .next (match s1.step.bath with
    | some b => if s1.bathOverdue b then (s1.timeoutBath b).goOnCol else s1
    | none => s1)

/-! ### The commands (R281, R282) -/

def colCount (c : Line) : Nat := fld c 32 8
def colFirst (c : Line) : Nat := fld c 24 8
def colReserved : List (Nat × Nat × Nat) := [(16, 4, 4), (21, 0, 24), (40, 0, 192)]

/-- R282: reduce kinds: a destination the adders can add into. -/
def reduceDst (d : Line) : Bool := descBook d || (descClass d == 3 && (descFmtCode d == 5 || descFmtCode d == 3))

/-- R281: handles are 0 only where there are no data. -/
def State.colHandles (s : State) (c : Line) : Option Fail :=
  if colCount c = 0 ∧ handleAt c 8 = 0 ∧ handleAt c 11 = 0 then none else s.neededFail c [8, 11]

/-- R282: the checks in the order of the table. -/
def State.colFail (s : State) (q : Nat) (c : Line) : Option Fail :=
  let op := cmdOp c
  let red := op == 0x50 || op == 0x51 || op == 0x52
  let (hs, hd) := (handleAt c 8, handleAt c 11)
  let (ds, dd) := (s.desc hs, s.desc hd)
  let none' := hs == 0 && hd == 0
  let g := fld c 14 2
  let last := colFirst c + colCount c
  firstFail [
    s.headerFail q c colReserved,
    failIf (bitsAt c 16 0 2 == 3) { st := St.reservedSet, byte := 16, value := 3 },
    failIf (decide (2 < fld c 17 1)) { st := St.fieldRange, byte := 17, value := fld c 17 1 },
    failIf (bitAt c 16 3 && !bitAt c 16 2) { st := St.fieldRange, byte := 16, bit := 3, value := 1 },
    s.liveFail c [8, 11], s.colHandles c,
    s.suspectFail (namedAt c [8]), s.lostFail (namedAt c [8]), s.outputFail (namedAt c [11]),
    failIf (s.isRemote ds) { st := St.remoteTensor, byte := 8, handle := hs, value := hs },
    s.verdictFail (namedAt c [11]),
    failIf (red && !none' && !reduceDst dd) { st := St.bookRequired, byte := 11, handle := hd, value := hd },
    failIf ((descFmt ds).scaled && descRed ds != 0) { st := St.scaleAxis, byte := 8, handle := hs, value := hs },
    failIf ((descFmt dd).scaled && descRed dd != 0) { st := St.scaleAxis, byte := 11, handle := hd, value := hd },
    failIf (!none' && ((red && hs == hd) || !sameShape ds dd)) { st := St.shapeMismatch, byte := 11, handle := hd, value := hd },
    failIf (fld c 17 1 != 0) { st := St.formatPair, byte := 17, value := fld c 17 1 },
    failIf (!none' && (if red then !(descFmtCode ds == 5 || (descFmt ds).scaled) else descFmtCode ds != descFmtCode dd))
      { st := St.formatPair, byte := 8, handle := hs, value := hs },
    s.groupDenied g,
    failIf (!s.groupGood g) { st := St.groupInvalid, byte := 14, value := g },
    failIf ((op == 0x50 || op == 0x54) && decide ((s.groupNodes g).length ≤ fld c 18 2))
      { st := St.groupInvalid, byte := 18, value := fld c 18 2 },
    failIf (colFirst c % 128 != 0) { st := St.misaligned, byte := 24, value := colFirst c },
    failIf (!none' && decide (descElems dd < last)) { st := St.shapeMismatch, byte := 32, value := colCount c },
    failIf (!none' && colCount c % 128 != 0 && last != descElems dd) { st := St.misaligned, byte := 32, value := colCount c },
    s.memoryFail (namedAt c [8]) (namedAt c [11]) ]

/-- Waits before the start: staged inputs (R70), barred segments (R332), a critical package (R227). -/
def State.colWaits (s : State) (c : Line) : Bool :=
  (handlesAt c [8]).any s.anyStaged || (handlesAt c [11]).any s.tensorBarred || s.memoryWaits (handlesAt c [8, 11])

/-- R50, R279: the collective of a command, waiting for its place; its rounding is the default as it stands now where the command names
none. -/
def State.newCollective (s : State) (q id : Nat) (c : Line) : Collective :=
  { id := s.nextCollective, q := q, cmdId := id, engine := 8, kind := cmdOp c, group := fld c 14 2, digest := 0, gseq := 0,
    members := [], rank := 0, root := fld c 18 2, src := handleAt c 8, dst := handleAt c 11, first := colFirst c,
    count := colCount c, operator := fld c 17 1, verdict := bitAt c 16 2, closing := bitAt c 16 3, round := if bitsAt c 16 0 2 = 0 then s.dv 0x800100 % 4 else bitsAt c 16 0 2,
    shard := { tag := s.stepTag }, progress := s.now }

/-- A collective command that passed its checks starts. -/
def State.startCollective (s : State) (q : Nat) (l : ListRun) (c : Line) : State :=
  let k := s.newCollective q ((s.queue q).serial + 1) c
  let s1 := s.enter q { s.asStarted q l c with
    reads := handlesAt c [8], writes := handlesAt c [11], work := .collective k.id,
    covers := if (cmdOp c == 0x53 || cmdOp c == 0x54) && colFirst c == 0 && colCount c == descElems (s.desc k.dst) then
      handlesAt c [11] else [] }
  { s1 with collectives := s1.collectives ++ [k], nextCollective := s1.nextCollective + 1 }.goOnCol

/-- The row of every collective command; its opcode is the command's. -/
def State.collectiveRow (s : State) (q : Nat) (c : Line) : State :=
  s.take q c (handlesAt c [8]) (handlesAt c [11]) (fun _ => s.colFail q c)
    (fun l => if s.colWaits c then s.waitHot q (s.memoryWaits (handlesAt c [8, 11]))
      else s.coherent (handlesAt c [8]) (handlesAt c [11]) (fun s =>
        let r := s.accessGroup (fld c 14 2)
        if r.2 then r.1.startCollective q l c else r.1))

/-- REDUCE (R283). -/
def execReduce (q : Fin 256) (c : Line) (s : State) : Host.Outcome State Fault Refusal := .next (s.collectiveRow q c)

/-- ALL_REDUCE (R283). -/
def execAllReduce (q : Fin 256) (c : Line) (s : State) : Host.Outcome State Fault Refusal := .next (s.collectiveRow q c)

/-- REDUCE_SCATTER (R283). -/
def execReduceScatter (q : Fin 256) (c : Line) (s : State) : Host.Outcome State Fault Refusal := .next (s.collectiveRow q c)

/-- ALL_GATHER (R283). -/
def execAllGather (q : Fin 256) (c : Line) (s : State) : Host.Outcome State Fault Refusal := .next (s.collectiveRow q c)

/-- BROADCAST (R283). -/
def execBroadcast (q : Fin 256) (c : Line) (s : State) : Host.Outcome State Fault Refusal := .next (s.collectiveRow q c)

/-! ### Collective packets as rows (R258, R284, R287, R288) -/

/-- A collective packet: the fabric alone carries it. -/
def State.colPacket (s : State) (op : Nat) (p : Packet) : State :=
  match p.via with
  | .fabric _ => s.arrive p op (fun s => (s.takeCol op p 0 s.now).goOnCol)
  | .traek => s.arrive p op (fun s => s.refusePacket p op St.reservedSet)

/-- CONTRIB (R287). -/
def execContrib (p : Packet) (s : State) : Host.Outcome State Fault Refusal := .next (s.colPacket 0x20 p)

/-- GATHER (R287). -/
def execGather (p : Packet) (s : State) : Host.Outcome State Fault Refusal := .next (s.colPacket 0x21 p)

/-- CLOSE (R288). -/
def execClose (p : Packet) (s : State) : Host.Outcome State Fault Refusal := .next (s.colPacket 0x22 p)

/-- R286, R287: a packet sent again as a resend: bit 1 of byte 26, its digest formed anew. -/
def ColSent.again (x : ColSent) : ColSent :=
  if x.op = 0x22 then x
  else { x with data := x.data.take 26 ++ leBytes 1 (numAt x.data 26 1 / 4 * 4 + numAt x.data 26 1 % 2 + 2) ++ x.data.drop 27 }

/-- R258: a COL_ACK frees the packet it answers; a status asks for a resend, or says that the owner's command differs (R282;
log entry 39). -/
def State.gotColAck (s : State) (p : Packet) : State :=
  match s.colSent.find? (fun x => x.tag == p.tag.toNat && x.node == p.src.toNat) with
  | none => s
  | some x =>
    let s1 := { s with colSent := s.colSent.filter (fun y => !(y.tag == x.tag && y.node == x.node)) }
    let st := p.op.toNat
    if st = St.crcResendLimit ∨ st = St.sumCheckFailed then s1.sendCol x.again
    else if st = St.collectiveMismatch then s1.abandon x.collective st
    else s1

/-- COL_ACK (R258). -/
def execColAck (p : Packet) (s : State) : Host.Outcome State Fault Refusal :=
  .next (s.arrive p 0xA0 (fun s => (s.gotColAck p).goOnCol))

/-! ### Closes and timeouts -/

/-- R65, R154: every block touched in an epoch whose count is 0 closes, once the barrier lets the plane be written; the blocks
closed with OVF or NF are counted by the collectives whose shard holds them. -/
def State.closeEpoch (s : State) (h : Nat) : State :=
  match s.tensor h with
  | none => s
  | some t =>
    if t.opens ≠ 0 ∨ t.touched = [] ∨ s.tensorBarred h = true then s
    else
      let bad := t.touched.filter (fun b => (s.histOf (t.hdr 0) b).testBit 7 || (s.histOf (t.hdr 0) b).testBit 8)
      let s1 := { s with collectives := s.collectives.map (fun (c : Collective) =>
        match c.mine with
        | some r =>
          if c.reduces && c.dst == h && decide (c.engine < 8) && !c.shardClosed then
            let x := s.shardOf c r
            { c with closedBad := c.closedBad ++ bad.filter (blocksIn t.desc x.1 x.2).contains }
          else c
        | none => c) }
      ((s1.closeBlocks h t.touched).1.retryCols).goOnCol

/-- EPOCH_CLOSE (R65). -/
def execEpochClose (handle : BitVec 24) (s : State) : Host.Outcome State Fault Refusal := .next (s.closeEpoch handle.toNat)

/-- R71, R287, R288: the member's shard closes: the reduced sum is checked, CLOSE goes to every member, and in ALL_REDUCE the
closed shard to every other one. -/
def State.closeShard (s : State) (id : Nat) : State :=
  match s.collective id with
  | none => s
  | some c =>
    match c.mine with
    | none => s
    | some r =>
      if !s.shardDue c then s
      else
        let s1 := s.checkShard c r
        let s2 := if c.kind = 0x51 then
            (c.members.filter (· != s.node)).foldl (fun s n => s.sendGather c r n c.dst (if c.verdict then (s1.shardHeader c).bytes else leBytes 16 0)
              (fun s _ => s)) (s1.takeElems c.dst 9 ((List.range (s.shardOf c r).2).map ((s.shardOf c r).1 + ·)))
          else s1
        s2.sendClose id

/-- SHARD_CLOSE (R288). -/
def execShardClose (collective : Nat) (s : State) : Host.Outcome State Fault Refusal :=
  .next (((s.retryCols).endPhases.closeShard collective).goOnCol)

/-- R284, R290, R383: whether a collective has seen no chunk and no close notice for its timeout. -/
def State.colOverdue (s : State) (c : Collective) : Bool :=
  decide (c.engine < 8) && c.holders.isEmpty &&
    decide (c.progress + s.dv 0x501400 * 1000000 * (if c.extended then 2 else 1) ≤ s.now)

/-- COLLECTIVE_TIMEOUT (R284). -/
def execCollectiveTimeout (collective : Nat) (t : Nat) (s : State) : Host.Outcome State Fault Refusal :=
  let s := s.tick t
  .next (match s.collective collective with
    | none => s
    | some c => if s.colOverdue c then (s.abandon collective St.collectiveTimeout).goOnCol else s)

/-! ### Hints (R290, R383) -/

/-- R383: the holds of a node end: the timeouts they suspended go on. -/
def State.releaseHold (s : State) (node : Nat) : State :=
  { s with
    cooling := { s.cooling with holds := s.cooling.holds.filter (fun h => h.1 != node) },
    collectives := s.collectives.map (fun c =>
      let hs := c.holders.filter (· != node)
      if c.holders.contains node then
        { c with holders := hs,
                 progress := if hs.isEmpty then c.progress + (s.now - c.suspendedAt.getD s.now) else c.progress,
                 suspendedAt := if hs.isEmpty then none else c.suspendedAt }
      else c) }

/-- R383: HOLD from a node suspends the timeout of every collective it is a member of. -/
def State.takeHold (s : State) (node : Nat) : State :=
  { s with
    cooling := { s.cooling with holds := s.cooling.holds.filter (fun h => h.1 != node) ++ [(node, s.now)] },
    collectives := s.collectives.map (fun c =>
      if c.members.contains node && !c.holders.contains node then
        { c with holders := c.holders ++ [node], suspendedAt := some (c.suspendedAt.getD s.now) }
      else c) }

/-- R290: a slow-contributor hint: counted; it extends the timeout of the sender's collectives, once each. -/
def State.takeSlow (s : State) (node : Nat) : State :=
  let s1 := s.bump 0x501800 1
  { s1 with collectives := s1.collectives.map (fun c => if c.members.contains node then { c with extended := true } else c) }

/-- R258, R290, R383: a HINT does what its operation field says. -/
def State.gotHint (s : State) (p : Packet) : State :=
  let node := p.src.toNat
  if p.op = 1 then s.takeSlow node else if p.op = 2 then s.takeHold node else if p.op = 3 then s.releaseHold node
  else s.recordOf 0x5004 9 (match p.via with | .fabric n => 40 + n.val / 2 | .traek => 46) (node + 0x32 * 2 ^ 16)

/-- HINT_SLOW_CONTRIBUTOR (R290). -/
def execHintSlowContributor (p : Packet) (s : State) : Host.Outcome State Fault Refusal :=
  .next (s.arrive p 0x32 (fun s => s.gotHint p))

/-- HINT_HOLD (R383). -/
def execHintHold (p : Packet) (t : Nat) (s : State) : Host.Outcome State Fault Refusal :=
  .next ((s.tick t).arrive p 0x32 (fun s => s.gotHint p))

/-- HINT_HOLD_RELEASE (R383). -/
def execHintHoldRelease (p : Packet) (t : Nat) (s : State) : Host.Outcome State Fault Refusal :=
  .next ((s.tick t).arrive p 0x32 (fun s => s.gotHint p))

/-- HOLD_LIMIT_EXPIRY (R383). -/
def execHoldLimitExpiry (node : BitVec 16) (t : Nat) (s : State) : Host.Outcome State Fault Refusal :=
  let s := s.tick t
  .next (if s.cooling.holds.any (fun h => h.1 == node.toNat && decide (h.2 + s.dv 0x281700 * 1000000000 ≤ s.now)) then
    s.releaseHold node.toNat else s)

end Sys2Proof.Machine
end

