-- ==== Sys2Proof/Machine/Complete.lean ====
section
/-!
DEFINITION. The end of a started command (R175, R176), with the records of the uncorrectable lines it read (R210).
-/

namespace Sys2Proof.Machine

/-- Whether a line reads as uncorrectable without holding the poison syndrome. -/
def LineMark.fails (m : LineMark) : Bool := m == .bad || m == .badAddress

/-- The failing LPDDR lines among some local addresses. -/
def State.badLines (s : State) (addrs : List Nat) : List Nat :=
  (addrs.filterMap (fun a => match place a with | .lpddr n => some (lineOf n) | _ => none)).eraseDups.filter (fun l =>
    (s.mark (markKey l)).fails)

/-- The addresses a command read: its operands' elements and scale bytes, or a transfer's source in this module. -/
def State.readAddrs (s : State) (st : Started) : List Nat :=
  if st.op / 16 = 4 then
    (if st.op = 0x42 then []
     else (List.range (s.xLines st.op st.cmd)).filterMap (fun i =>
      match s.resolve (s.xPos st.op st.cmd i).1 with
      | .here a => some a
      | _ => none))
  else st.reads.flatMap (fun h =>
    match s.tensor h with
    | none => []
    | some t =>
      let d := t.desc
      (List.range (descElems d)).filterMap (fun i => (s.codeAt d (s.readPlane t) i).map (·.1)) ++
        (if (descFmt d).scaled then (List.range (blockCount d)).map (s.arr (t.hdr (s.readPlane t)) 0 + ·) else []))

/-- R60: the unseeded blocks among a command's operands, which read as +0. -/
def State.unseededReads (s : State) (st : Started) : Nat :=
  if st.op / 16 = 4 then 0
  else (st.reads.map (fun h => match s.tensor h with
    | none => 0
    | some t => if (descFmt t.desc).scaled then
        ((List.range (blockCount t.desc)).filter (fun b => s.stateOf (t.hdr (s.readPlane t)) b == 0)).length
      else 0)).sum

/-- R60, R210: the unseeded blocks a command read are counted, and its uncorrectable lines counted and recorded, each once (log
entry 137). -/
def State.recordReads (s : State) (st : Started) : State :=
  let s1 := s.bump 0x800600 (s.unseededReads st)
  if s.marks.any (fun m => m.2.fails) then (s.badLines (s.readAddrs st)).foldl State.readBad s1 else s1

/-- R175, R176: a started command whose work is over completes, or the queue waits for room in its ring. -/
def State.completeStarted (s : State) (q id : Nat) : State :=
  match s.startedOf q id with
  | none => s
  | some st =>
    if !st.done then s
    else if (s.queue q).blocked (cmdRecord st.cmd) (withEmpty st.status st.flags) then s.stampRing q
    else ((s.recordReads st).finish q st st.report (signal := s.signalsHere st)).settled

/-- COMMAND_COMPLETE (R175); the tee of an UPDATE goes on first (R158). -/
def execCommandComplete (q : Fin 256) (id : Nat) (s : State) : Host.Outcome State Fault Refusal :=
  .next (s.teeRun.completeStarted q id)

end Sys2Proof.Machine
end

