-- ==== Sys2Proof/Machine/Control.lean ====
section
/-!
DEFINITION. The control and synchronisation commands: END, FENCE, WAIT_COUNTER, SIGNAL_COUNTER, BRANCH_IF_SUMMARY, LOOP and
CALL (R139, R179 to R183).
-/

namespace Sys2Proof.Machine

/-! ### END (R183) -/

/-- The stack below the innermost return entry, with that entry. -/
def popReturn : List StackEntry → Option (List StackEntry × Nat × Nat × Nat)
  | [] => none
  | .ret a l n :: rest => some (rest, a, l, n)
  | .loop _ _ _ :: rest => popReturn rest

/-- R183: END pops the return of a called list, or ends the top-level list. The control stack is kept innermost first. -/
def State.endEffect (s : State) (q : Nat) : State :=
  s.onQueue q (fun r =>
    match popReturn r.stack with
    | some (rest, a, l, n) => { r with stack := rest, run := r.run.map (fun x => { x with addr := a, listId := l, pc := n }) }
    | none => { r with stack := [], run := r.run.map (fun x => { x with ended := true }) })

/-- END (R183). -/
def execEndCmd (q : Fin 256) (c : Line) (s : State) : Host.Outcome State Fault Refusal :=
  .next (s.take q c [] [] (fun _ => s.headerFail q c []) (fun l => s.atOnce q l c .ok (fun s => s.endEffect q)))

/-! ### Waits (R179, R181) -/

/-- The control core of a queue starts to wait on the command it took. -/
def State.waitOn (s : State) (q : Nat) (w : CoreWait) : State :=
  s.onQueue q (fun r => { r with run := r.run.map (fun l => { l with wait := w }) })

/-- R276: a FENCE flushes the edge gateways that hold stores of the queue. -/
def State.flushGateways (s : State) (q : Nat) : State :=
  (List.range 8).foldl (fun s p =>
    let nodes := ((s.port p).gateway.filter (fun g => g.parts.any (fun x =>
      match x.owner with | some o => o.1 == q | none => false))).map (·.node)
    nodes.eraseDups.foldl (fun s n => s.shipGateway p n) s) s

/-- FENCE (R181, R270). -/
def execFence (q : Fin 256) (c : Line) (s : State) : Host.Outcome State Fault Refusal :=
  .next (s.take q c [] [] (fun _ => s.headerFail q c [])
    (fun l => ((s.flushGateways q).waitOn q (.fence l.pc c s.now)).settled))

/-- R179: the operands of WAIT_COUNTER. -/
def waitReserved : List (Nat × Nat × Nat) := [(9, 4, 4), (10, 0, 48), (32, 0, 256)]

/-- WAIT_COUNTER (R179): checked at start, and after every update of the counter while it waits. -/
def execWaitCounter (q : Fin 256) (c : Line) (s : State) : Host.Outcome State Fault Refusal :=
  .next (s.take q c [] [] (fun _ => s.headerFail q c waitReserved)
    (fun l => (s.waitOn q (.counter l.pc c (bitsAt c 8 0 12) (BitVec.ofNat 64 (fld c 16 8)) s.now (fld c 24 8))).settled))

/-- R179: the timeout of a WAIT_COUNTER passes first. -/
def State.waitTimeout (s : State) (q : Nat) : State :=
  let r := s.queue q
  match r.run with
  | none => s
  | some l =>
    match l.wait with
    | .counter idx hdr n v since timeout =>
      if timeout ≠ 0 ∧ since + timeout ≤ s.now ∧ passed (s.counter n) v = false then
        if r.blocked (cmdRecord hdr) St.waitTimeout then s.stampRing q
        else
          let s1 := s.onQueue q (fun r => { r with
            serial := r.serial + 1, run := r.run.map (fun l => { l with wait := .none, pc := l.pc + 1 }) })
          (s1.finish q (r.waiting l idx hdr since) { st := St.waitTimeout, byte := 24, value := timeout }).settled
      else s
    | _ => s

/-- WAIT_COUNTER_TIMEOUT (R179). -/
def execWaitCounterTimeout (q : Fin 256) (t : Nat) (s : State) : Host.Outcome State Fault Refusal :=
  .next ((s.tick t).waitTimeout q)

/-! ### SIGNAL_COUNTER (R180) -/

def signalReserved : List (Nat × Nat × Nat) := [(9, 4, 4), (10, 1, 15), (14, 0, 16), (24, 0, 320)]

/-- R165, R177: the local address of arrival counter n. -/
def counterAddr (n : Nat) : Nat := 0x210000000000 + 8 * n

/-- R180: the update of a SIGNAL_COUNTER. -/
def signalUpdate (s : State) (q : Nat) (c : Line) : CtrUpdate :=
  { counter := bitsAt c 8 0 12, set := bitAt c 10 0, value := BitVec.ofNat 64 (fld c 16 8),
    source := qHome (s.queue q).entry, since := s.now, owner := some q }

/-- R180: local, the update goes to the counter unit; remote, it travels as a flagged store of the value, operation field 1
for an addition and 0 for a set (log entry 22). The command completes when the counter is updated or the store acknowledged. -/
def State.signalStart (s : State) (q : Nat) (l : ListRun) (c : Line) : State :=
  let node := fld c 12 2
  if s.localNode node then
    ((s.counterUpdate (signalUpdate s q c)).waitOn q (.signal l.pc c s.now)).settled
  else
    let r := s.ask node 0 {
      op := 0x02, flag := true, addr := counterAddr (bitsAt c 8 0 12), lines := 1, aop := if bitAt c 10 0 then 0 else 1,
      data := leBytes 8 (fld c 16 8), owner := some ((q : Nat), 0), why := .signal }
    if r.2 ≠ 0 then s.atOnce q l c { st := r.2, byte := 12, value := node }
    else (r.1.waitOn q (.remoteSignal l.pc c node 0 s.now)).settled

/-- SIGNAL_COUNTER (R180): it starts after every earlier command of its list has completed. -/
def execSignalCounter (q : Fin 256) (c : Line) (s : State) : Host.Outcome State Fault Refusal :=
  .next (s.take q c [] [] (fun _ => s.headerFail q c signalReserved)
    (fun l => if (s.queue q).started.isEmpty then s.signalStart q l c else s))

/-! ### Branches and loops (R139, R182, R183) -/

/-- The signed 32-bit offset at a byte of a command. -/
def i32At (c : Line) (off : Nat) : Int := signed 32 (fld c off 4)

/-- R182: a branch to a command before a loop's target, or after its LOOP, pops its entry. -/
def popLoops (dest : Int) : List StackEntry → List StackEntry
  | .loop at' target left :: rest =>
    if dest < target ∨ at' < dest then popLoops dest rest else .loop at' target left :: rest
  | st => st

/-- The list goes on at command `dest`. -/
def State.jump (s : State) (q : Nat) (dest : Int) : State :=
  s.onQueue q (fun r => { r with
    stack := popLoops dest r.stack, run := r.run.map (fun l => { l with pc := dest.toNat }) })

def branchReserved : List (Nat × Nat × Nat) := [(8, 4, 4), (10, 0, 16), (24, 0, 320)]

/-- R139: whether the test of a branch holds for a slot; `none` for an unset slot. -/
def branchTest (c : Line) (v : SlotVal) : Bool :=
  let t := fld c 9 1
  let kind := v.kind.toNat
  if t = 6 then decide (v.value.toNat % 2 ^ 32 &&& fld c 16 4 ≠ 0)
  else if t = 7 then decide (v.value.toNat % 2 ^ 32 &&& fld c 16 4 = 0)
  else if kind ≤ 5 ∨ kind = 7 then
    let a := f32 (v.value.toNat % 2 ^ 32)
    let b := f32 (fld c 16 4)
    if t = 0 then Val.eq a b else if t = 1 then !Val.eq a b else if t = 2 then Val.lt a b
    else if t = 3 then Val.le a b else if t = 4 then Val.lt b a else Val.le b a
  else
    let a := v.value.toNat
    let b := fld c 16 8
    if t = 0 then decide (a = b) else if t = 1 then decide (a ≠ b) else if t = 2 then decide (a < b)
    else if t = 3 then decide (a ≤ b) else if t = 4 then decide (b < a) else decide (b ≤ a)

/-- R138: the latest earlier command of the same list that names the slot has not completed. -/
def Queue.slotBusy (r : Queue) (l : ListRun) (k : Nat) : Bool :=
  match look none r.slotUses (k + 16 * r.depth) with
  | some u => u.1 == l.listId && r.started.any (fun x => x.id == u.2)
  | none => false

/-- R139: the branch, its producer complete. -/
def State.branchNow (s : State) (q : Nat) (l : ListRun) (c : Line) : State :=
  let v := look {} (s.queue q).slots (bitsAt c 8 0 4)
  if v.kind = 0 then s.atOnce q l c { st := St.summaryUnset, named := false }
  else if branchTest c v then s.atOnce q l c .ok (fun s => s.jump q ((l.pc : Int) + i32At c 12))
  else s.atOnce q l c .ok

/-- BRANCH_IF_SUMMARY (R138, R139). A branch, taken or not, whose target lies before command 0 completes with FIELD_RANGE (DESIGN CHOICE, log
entry 162). -/
def execBranchIfSummary (q : Fin 256) (c : Line) (s : State) : Host.Outcome State Fault Refusal :=
  .next (s.take q c [] []
    (fun l => firstFail [s.headerFail q c branchReserved,
      failIf (decide (7 < fld c 9 1)) { st := St.fieldRange, byte := 9, value := fld c 9 1 },
      failIf (decide ((l.pc : Int) + i32At c 12 < 0)) { st := St.fieldRange, byte := 12, value := fld c 12 4 }])
    (fun l => if (s.queue q).slotBusy l (bitsAt c 8 0 4) then s else s.branchNow q l c))

/-- R182: the entry of the LOOP at command `pc`, where it is on top of the stack. -/
def topLoop (pc : Int) : List StackEntry → Option (Int × Nat × List StackEntry)
  | .loop at' target left :: rest => if at' = pc then some (target, left, rest) else none
  | _ => none

/-- R182: one arrival at a LOOP whose entry is on top: jump back while the remainder is not zero, else pop. -/
def State.loopStep (s : State) (q : Nat) (pc : Nat) : State :=
  s.onQueue q (fun r =>
    match topLoop pc r.stack with
    | some (target, left, rest) =>
      if left = 0 then { r with stack := rest }
      else { r with stack := .loop pc target (left - 1) :: rest, run := r.run.map (fun l => { l with pc := target.toNat }) }
    | none => r)

/-- R182: the entry a LOOP pushes when it is first reached: count − 1. -/
def State.loopPush (s : State) (q pc : Nat) (c : Line) : State :=
  s.onQueue q (fun r => { r with stack := .loop pc ((pc : Int) + i32At c 12) (fld c 8 4 - 1) :: r.stack })

/-- LOOP (R182). The body runs count times in all: the first arrival, which pushes the entry, is counted like the later ones
(DEDUCED, log entry 23). -/
def execLoop (q : Fin 256) (c : Line) (s : State) : Host.Outcome State Fault Refusal :=
  .next (s.take q c [] []
    (fun l => firstFail [s.headerFail q c [(16, 0, 384)],
      failIf (fld c 8 4 == 0) { st := St.fieldRange, byte := 8 },
      failIf (decide (i32At c 12 < -65535) || decide (-1 < i32At c 12) || decide ((l.pc : Int) + i32At c 12 < 0))
        { st := St.fieldRange, byte := 12, value := fld c 12 4 },
      failIf ((topLoop l.pc (s.queue q).stack).isNone && decide (8 ≤ (s.queue q).stack.length))
        { st := St.nestDepth, named := false }])
    (fun l => s.atOnce q l c .ok (fun s =>
      (if (topLoop l.pc (s.queue q).stack).isSome then s else s.loopPush q l.pc c).loopStep q l.pc)))

/-- R183: the return entry of a CALL, and the called list at its command 0. -/
def State.callEffect (s : State) (q : Nat) (c : Line) (pc : Nat) : State :=
  s.onQueue q (fun r => { r with
    stack := (match r.run with | some l => [.ret l.addr l.listId (pc + 1)] | none => []) ++ r.stack,
    run := r.run.map (fun l => { l with addr := fld c 8 8, listId := fld c 16 4, pc := 0 }) })

/-- CALL (R183). -/
def execCall (q : Fin 256) (c : Line) (s : State) : Host.Outcome State Fault Refusal :=
  .next (s.take q c [] []
    (fun _ => firstFail [s.headerFail q c [(20, 0, 352)],
      failIf (fld c 8 8 % 64 != 0) { st := St.misaligned, byte := 8, addr := fld c 8 8, value := fld c 8 8 },
      failIf (decide (8 ≤ (s.queue q).stack.length)) { st := St.nestDepth, named := false }])
    (fun l => s.atOnce q l c .ok (fun s => s.callEffect q c l.pc)))

end Sys2Proof.Machine
end

