-- ==== Sys2Proof/Machine/Power.lean ====
section
/-!
DEFINITION. The power module (R356 to R358), regulator slices (R359), minimum voltages (R361), land groups (R362), and capping
(R367 to R369) with keep-warm (R384).
-/

namespace Sys2Proof.Machine

/-- R416: a record of class POWER_SUPPLY: the row of R358, the rail and the last STATUS_WORD. -/
def State.supplyRecord (s : State) (row : Nat) : State :=
  s.recordOf 0x2001 11 0x30 (row + s.power.railMv % 2 ^ 32 * 2 ^ 32 + s.dv 0x203200 * 2 ^ 64)

/-! ### Land groups (R362) -/

/-- R362: the land-group limit holds the regions of every group limited. -/
def State.applyLand (s : State) : State :=
  (List.range 48).foldl (fun x r =>
    x.onRegion r (fun y => { y with land := s.power.landLimit.any (fun g => (Config.landRegions g).testBit r) })) s

/-- R362: the rise of a group's resistance, mean of 60 s, in 0.01 %: reported; above 30 % recorded, above 60 % limited, below
25 % both clear. -/
def State.landRise (s : State) (g rise : Nat) : State :=
  let f := f32RatioInt rise 100
  let s1 := s.setDv (0x201501 + g) f
  let p := s1.power
  if rise < 2500 then s1.onPower (fun p => { p with landHigh := p.landHigh.erase g, landLimit := p.landLimit.erase g })
  else
    let s2 := if 3000 < rise ∧ p.landHigh.contains g = false then
        (s1.onPower (fun p => { p with landHigh := p.landHigh ++ [g] })).recordOf 0x2003 11 0x30
          (g + f * 2 ^ 32 + Config.landRegions g % 2 ^ 64 * 2 ^ 64)
      else s1
    if 6000 < rise ∧ p.landLimit.contains g = false then s2.onPower (fun p => { p with landLimit := p.landLimit ++ [g] }) else s2

/-! ### AVSBus (R356, R358) -/

/-- R358: the reading of the core rail against its setpoint: when it became low, and when good again. -/
def State.judgeRail (s : State) (mv : Nat) : State :=
  s.onPower (fun p =>
    if mv + 30 < p.setpoint then { p with railLow := some (p.railLow.getD s.now), railGood := none }
    else { p with railLow := none, railGood := some (p.railGood.getD s.now), lowReported := false })

/-- A valid reply: voltage in mV, current in 10 mA. Above 0.70 V the rail is reported (R358); 0.10 V or more before the first setpoint
breaks R454 and is recorded (R3, log entry 193). -/
def State.avsReply (s : State) (mv centiAmp : Nat) : State :=
  let high := 700 < mv ∧ s.power.railMv ≤ 700
  let s1 := (s.setDv 0x200400 (f32RatioInt mv 1000)).setDv 0x200500 (f32RatioInt centiAmp 100)
  let s2 := (s1.onPower (fun p => { p with railMv := mv, avsFails := 0, avsSilent := false })).judgeRail mv
  let early := s.boot.state < 3 ∧ s.power.setpoint = 0 ∧ 100 ≤ mv ∧ s.power.railMv < 100
  if high then s2.supplyRecord 3 else if early then s2.supplyRecord 0 else s2

/-- R358: a transaction without a valid reply; the third in a row is recorded, and the setpoint stays. -/
def State.avsFailed (s : State) : State :=
  let n := s.power.avsFails + 1
  let s1 := s.onPower (fun p => { p with avsFails := n })
  if n = 3 then (s1.onPower (fun p => { p with avsSilent := true })).supplyRecord 1 else s1

/-- One reading. -/
def State.avsRead (s : State) (reply : Option (Nat × Nat)) : State :=
  let s1 := s.onPower (fun p => { p with avsAt := s.now })
  match reply with
  | some r => s1.avsReply r.1 r.2
  | none => s1.avsFailed

/-- AVSBUS_READ (R356, R358, R362, R365): the rail, the rises of land groups and the current of all slices. -/
def execAvsbusRead (reply : Option (Nat × Nat)) (rises : List (Fin 64 × Nat)) (t : Nat) (s : State) :
    Host.Outcome State Fault Refusal :=
  .next (s.timed t (fun s =>
    if s.power.avsSilent ∨ (s.power.avsAt ≠ 0 ∧ s.now < s.power.avsAt + 20000) then s
    else
      let s1 := rises.foldl (fun (x : State) g => x.landRise g.1 g.2) (s.avsRead reply)
      (if rises.isEmpty then s1 else s1.applyLand).checkOvercurrent))

/-- AVSBUS_RETRY (R358): every 100 µs while the bus is silent. -/
def execAvsbusRetry (reply : Option (Nat × Nat)) (t : Nat) (s : State) : Host.Outcome State Fault Refusal :=
  .next (s.timed t (fun s =>
    if s.power.avsSilent ∧ s.power.avsAt + 100000 ≤ s.now then
      let s1 := s.avsRead reply
      if s1.power.avsSilent then s1 else s1.setRail s1.railNeed
    else s))

/-- R358: the supply limit of every cluster region, lowered below its point or raised by one. -/
def State.supplyDown (s : State) : State :=
  (List.range 32).foldl (fun x r => x.onRegion r (fun y => { y with supply := min y.supply y.point - 1 })) s
def State.supplyUp (s : State) : State :=
  (List.range 32).foldl (fun x r => x.onRegion r (fun y => { y with supply := min 7 (y.supply + 1) })) s

/-- SUPPLY_LIMIT_STEP (R358): each 100 µs while the rail was low for 1 ms; each 1 ms once it was good for 10 ms. -/
def execSupplyLimitStep (t : Nat) (s : State) : Host.Outcome State Fault Refusal :=
  .next (s.timed t (fun s =>
    let p := s.power
    match p.railLow, p.railGood with
    | some a, _ =>
      if a + 1000000 ≤ s.now ∧ (p.supplyAt = 0 ∨ p.supplyAt + 100000 ≤ s.now) then
        let s1 := if p.lowReported then s else (s.onPower (fun p => { p with lowReported := true })).supplyRecord 2
        s1.supplyDown.onPower (fun p => { p with supplyAt := s.now })
      else s
    | none, some a =>
      if a + 10000000 ≤ s.now ∧ p.supplyAt + 1000000 ≤ s.now then s.supplyUp.onPower (fun p => { p with supplyAt := s.now }) else s
    | none, none => s))

/-! ### PMBus (R356, R358) -/

/-- R358: STATUS_WORD: a fault is recorded, and CLEAR_FAULTS written once. -/
def State.pmbusStatus (s : State) (w : Nat) : State :=
  let s1 := s.setDv 0x203200 w
  if w = 0 then s1.onPower (fun p => { p with pmbusFault := false })
  else if s1.power.pmbusFault then s1
  else ((s1.onPower (fun p => { p with pmbusFault := true })).supplyRecord 4).send .clearFaults

/-- R313, R356, R358: the feed identity: 16 bytes, or unreadable, which is recorded and reads all zero. -/
def State.pmbusFeed (s : State) (feed : List Byte) : State :=
  let s1 := s.onPower (fun p => { p with feedBad := feed.length != 16 })
  if feed.length = 16 then s1.setDv 0x600900 (leNat feed) else (s1.setDv 0x600900 0).supplyRecord 5

/-- PMBUS_READ (R356, R358); an empty `feed` was not asked for. -/
def execPmbusRead (status : Option (BitVec 16)) (feed : List Byte) (t : Nat) (s : State) : Host.Outcome State Fault Refusal :=
  .next (s.timed t (fun s =>
    let s1 := match status with | some w => s.pmbusStatus w.toNat | none => s
    if feed.isEmpty then s1 else s1.pmbusFeed feed))

/-! ### Guard band, slices, minimum voltages (R357, R359, R361) -/

/-- R357: the guard band ends: each region's margin is what the predictor learned (free). -/
def State.endGuard (s : State) : State :=
  let s1 := (List.range 48).foldl (fun x r => (x.onRegion r (fun y => { y with margin := Config.freeNat x.fresh % 21 })).drawn) s
  let s2 := s1.setDv 0x300B00 0
  s2.setRail s2.railNeed

/-- GUARD_BAND_END (R357): 10 ms after power-up. -/
def execGuardBandEnd (t : Nat) (s : State) : Host.Outcome State Fault Refusal :=
  .next (s.timed t (fun s =>
    if s.dv 0x300B00 = 1 ∧ s.dv 0x110800 ≠ 0 ∧ s.dv 0x110800 + 10000000 ≤ s.now then s.endGuard else s))

/-- R359, R416: a slice fails for good; a region with three failed goes dark. -/
def State.failSlice (s : State) (r slice : Nat) : State :=
  let x := s.region r
  if x.power = 3 ∨ x.failed.getLsbD slice = true then s
  else
    let s1 := s.setRegion r { x with failed := x.failed ||| BitVec.ofNat 16 (2 ^ slice) }
    let n := (s1.region r).failures
    let s2 := s1.recordOf 0x2002 11 r (slice + n * 2 ^ 8)
    if 3 ≤ n then s2.goDark r 1 else s2

/-- SLICE_FAILURE (R359, R360). -/
def execSliceFailure (r : Fin 48) (slice : Fin 16) (t : Nat) (s : State) : Host.Outcome State Fault Refusal :=
  .next (s.timed t (fun s => s.failSlice r slice))

/-- The write of 0x2012:00 (R361). -/
def State.clearVolt (s : State) (v : Nat) : State × Nat :=
  let clear := fun (x : State) (r : Nat) => x.onRegion r (fun y => { y with minVolt := 0, minAt := 0 })
  if v < 48 then (clear s v, St.ok) else if v = 0xFF then ((List.range 48).foldl clear s, St.ok) else (s, St.reservedSetDict)

/-- CLEAR_MINIMUM_VOLTAGE (R361). -/
def execClearMinimumVoltage (m : Master) (region : BitVec 8) (s : State) : Host.Outcome State Fault Refusal :=
  .next (s.masterWrite m 0x201200 1 region.toNat (fun s => s.clearVolt region.toNat)).1

/-! ### Capping (R367, R368) -/

/-- R381: the power the loop holds to: the effective cap, or the coolant power limit where it is smaller. -/
def State.powerLimit (s : State) : Nat := min (s.dv 0x200200) (s.dv 0x280600)

/-- R367: the highest point whose modelled power fits a cap. -/
def ceilingFor (cap : Nat) : Nat := ((List.range 8).filter (fun p => decide (Config.modelledPower p ≤ cap))).foldl max 0

/-- The write of 0x2001:00 (R368): above 1,250 W refused; below 90 W the floor applies and one FLOOR event counts. -/
def State.capWriteNow (s : State) (w : Nat) : State × Nat :=
  if 1250 < w then (s, St.reservedSetDict)
  else
    let again := decide (s.dv 0x200100 < 90 ∧ w < 90)
    let s1 := s.timed s.now (fun s =>
      let s1 := (s.setDv 0x200100 w).setDv 0x200200 (max 90 w)
      s1.onPower (fun p => { p with ceiling := ceilingFor s1.powerLimit }))
    let s2 := if again then s1.throttleEvent 2 else s1
    (s2, if w < 90 then St.capBelowFloor else St.ok)

/-- CAP_WRITE (R367, R368). -/
def execCapWrite (m : Master) (watts : BitVec 32) (s : State) : Host.Outcome State Fault Refusal :=
  .next (s.masterWrite m 0x200100 4 watts.toNat (fun s => s.capWriteNow watts.toNat)).1

/-! ### The power loop (R367, R369) -/

/-- R369: a region stopped by interval mode asks to restart. -/
def State.restartRegion (s : State) (r : Nat) : State :=
  if (s.region r).interval && !s.slopeWaits 3 r then
    let a := s.askSlope 3 r (s.currentStep 0 2 r) (0, 0)
    if a.2 then a.1.onRegion r (fun x => { x with interval := false }) else a.1
  else s

/-- R367, R369: average power above the limit: the ceiling falls; at OP0 interval mode begins at k = 32, and k falls. -/
def State.powerHigh (s : State) : State :=
  s.onPower (fun p =>
    let p := { p with lowSince := none }
    if p.intervalOn then { p with k := max 1 (p.k - 1) }
    else if 0 < p.ceiling then { p with ceiling := p.ceiling - 1 }
    else { p with intervalOn := true, k := 32, slotAt := s.now })

/-- R367, R369: below 95 % for 1 ms: k rises by one, at 32 interval mode ends; without it the ceiling rises by one. -/
def State.powerLow (s : State) : State :=
  match s.power.lowSince with
  | none => s.onPower (fun p => { p with lowSince := some s.now })
  | some a =>
    if s.now < a + 1000000 then s
    else if s.power.intervalOn then
      let s1 := s.onPower (fun p => { p with lowSince := some s.now })
      if s.power.k < 32 then s1.onPower (fun p => { p with k := p.k + 1 })
      else (List.range 32).foldl State.restartRegion (s1.onPower (fun p => { p with intervalOn := false }))
    else s.onPower (fun p => { p with ceiling := min 7 (p.ceiling + 1) })

/-! ### Keep-warm (R384) -/

/-- R384: whether keep-warm is not suspended: a floor, the coolant state normal, and a module that runs. -/
def State.keepsWarm (s : State) : Bool :=
  s.dv 0x281300 != 0 && s.dv 0x280700 == 0 && !s.cooling.stopped && s.boot.state == 8 && !s.boot.halted

/-- The cluster regions that run patterns. -/
def State.warmRegions (s : State) : List Nat := (List.range 32).filter (fun c => (s.cluster c).pattern.isSome)

/-- R384: one more idle cluster region runs patterns, at OP0; a sleeping one wakes first, one at a time. -/
def State.warmMore (s : State) : State :=
  if s.warmRegions.any (fun c => (s.region c).power != 0) then s
  else match (List.range 32).find? (fun c =>
      s.enabled c && (s.cluster c).pattern.isNone && !s.clusterActive c && (s.region c).power != 3 && !(s.region c).tripped) with
    | none => s
    | some c => (s.onCluster c (fun k => { k with pattern := some 1 })).onRegion c (fun x =>
        { x with preferred := 0, wake := x.wake || x.power == 1 || x.power == 2 })

/-- R384: a region that ran patterns may sleep again. -/
def State.warmLess (s : State) (c : Nat) : State :=
  (s.onCluster c (fun k => { k with pattern := none })).onRegion c (fun x => { x with idleSince := s.now, wake := false })

/-- R384: keep-warm against the floor, or the power limit where that is lower. -/
def State.keepWarm (s : State) (watts : Nat) : State :=
  if !s.keepsWarm then s.warmRegions.foldl State.warmLess s
  else
    let aim := min (s.dv 0x281300) s.powerLimit
    if watts < aim then s.warmMore
    else if aim + 20 < watts then
      (match s.warmRegions.reverse with
        | c :: _ => s.warmLess c
        | [] => s)
    else s

/-- One tick of the power loop with the 1 ms average (R367, R369). -/
def State.powerTick (s : State) (watts : Nat) : State :=
  let s1 := (s.setDv 0x200300 (f32RatioInt watts 1)).onPower (fun p => { p with
    watts := watts, tickAt := s.now,
    history := (p.history ++ [(s.now, watts)]).filter (fun x => decide (s.now < x.1 + 10000000000)) })
  let limit := s1.powerLimit
  let s2 := if limit < watts then s1.powerHigh
    else if 100 * watts < 95 * limit then s1.powerLow
    else s1.onPower (fun p => { p with lowSince := none })
  s2.keepWarm watts

/-- POWER_LOOP_TICK (R367, R369, R384): every 100 µs. -/
def execPowerLoopTick (watts : Nat) (t : Nat) (s : State) : Host.Outcome State Fault Refusal :=
  .next (s.timed t (fun s =>
    if s.power.tickAt = 0 ∨ s.power.tickAt + 100000 ≤ s.now then s.powerTick watts else s))

/-! ### Interval slots (R369) -/

/-- R369: whether a cluster region runs in the slot that starts at region `first`. -/
def runsInSlot (first k r : Nat) : Bool := decide ((r + 32 - first % 32) % 32 < k)

/-- R369: the running set rotates by k: the others stop, those of the set that were stopped ask to restart. -/
def State.rotateSlot (s : State) : State :=
  let p := s.power
  let first := (p.slot + p.k) % 32
  let s1 := s.onPower (fun p => { p with slot := first, slotAt := s.now })
  ((List.range 32).foldl (fun x r =>
    if runsInSlot first p.k r then x.restartRegion r
    else
      let g := x.governor (eastRegion r)
      let x1 := x.setGovernor (eastRegion r) { g with waiting := g.waiting.filter (fun q => !(q.kind == 3 && q.who.1 == 0 && q.region == r)) }
      if (x1.region r).power = 0 then x1.onRegion r (fun y => { y with interval := true }) else x1) s1).goOn

/-- INTERVAL_SLOT (R369): every 31.25 µs in interval mode. -/
def execIntervalSlot (t : Nat) (s : State) : Host.Outcome State Fault Refusal :=
  .next (s.timed t (fun s =>
    if s.power.intervalOn ∧ s.power.slotAt + 31250 ≤ s.now then s.rotateSlot else s))

end Sys2Proof.Machine
end

