-- ==== Sys2Proof/Machine/Cooling.lean ====
section
/-!
DEFINITION. Cooling: hot spots and their sensors (R374, R385), the thermal limit and trip (R380), the tray bus (R375, R376), the
coolant state and its power limit (R379, R381), the stop (R382, R383) and the requested flow (R377, R378).
-/

namespace Sys2Proof.Machine

def State.onCooling (s : State) (f : Cooling → Cooling) : State := { s with cooling := f s.cooling }

/-- A tray role: 0 inlet, 1 outlet, 2 flow meter, 3 flow controller. -/
def State.role (s : State) (k : Nat) : TrayRole := look {} s.cooling.roles k
def State.setRole (s : State) (k : Nat) (x : TrayRole) : State :=
  s.onCooling (fun c => { c with roles := put {} c.roles k x })

/-! ### The stop (R382, R383) -/

/-- R382: the fabric peers with an open stream to this module. -/
def State.streamPeers (s : State) : List Nat :=
  ((s.streamsIn.filter (fun e => decide (131072 * s.node ≤ e.1) && decide (e.1 < 131072 * s.node + 65536))).map
    (fun e => e.1 % 65536)).eraseDups

/-- R258, R383: a HINT with an operation to some nodes. -/
def State.hintAll (s : State) (op : Nat) (nodes : List Nat) : State :=
  nodes.foldl (fun x n => x.sendPacket 0x32 n false false 0 0 0 0 op []) s

/-- R381, R416: entry into a coolant state: recorded with the flow fraction. -/
def State.enterCoolant (s : State) (new : Nat) : State :=
  if s.dv 0x280700 = new then s
  else (s.setDv 0x280700 new).recordOf 0x2801 12 0x30 (new + f32RatioInt s.cooling.fraction 1000 * 2 ^ 32)

/-- R382: a stop is declared: `cause` 1 flow, 2 rate; `quick`: the fall took 200 ms or less. -/
def State.declareStop (s : State) (cause : Nat) (quick : Bool) (spot : Nat) : State :=
  if s.cooling.stopped then s
  else
    let s1 := (List.range 32).foldl (fun x r => x.onRegion r (fun y => { y with coolant := true })) s
    let s2 := s1.onCooling (fun c => { c with stopped := true, okSince := none, heldPeers := s.streamPeers })
    let s3 := ((List.range 32).foldl State.syncRefresh s2).hintAll 2 s.streamPeers
    (((s3.enterCoolant 3).recordOf 0x2802 12 0x30 (cause + (if quick then 2 ^ 8 else 0) + spot * 2 ^ 16)).bump 0x284000 1)

/-- R380, R385: the dodge threshold of a hot spot, in 0.1 °C: 5 °C lower where it is estimated. -/
def State.dodgeAt (s : State) (h : Nat) : Int := (10 * s.dv 0x281200 : Nat) - (if (s.spot h).estimated then 50 else 0)

/-- R383: the flow was at least 80 % for 1 s and every hot spot reads at least 10 °C below the dodge threshold. -/
def State.stopOver (s : State) : Bool :=
  (match s.cooling.okSince with | some a => decide (a + 1000000000 ≤ s.now) | none => false) &&
    (List.range 80).all (fun h => decide ((s.spot h).temp ≤ s.dodgeAt h - 100))

/-- R383: a region stopped by the coolant restarts through the slope governor; a dark one has nothing to restart. -/
def State.restartCoolant (s : State) (r : Nat) : State :=
  let x := s.region r
  if x.power = 3 then s.setRegion r { x with coolant := false }
  else
    let a := s.askSlope 3 r (s.currentStep 0 2 r) (1, 0)
    if a.2 then a.1.onRegion r (fun x => { x with coolant := false }) else a.1

/-- R383: the stop ends: channels leave self-refresh, thermal limits restart at OP4, regions restart, peers are released. -/
def State.endStop (s : State) : State :=
  let held := s.cooling.heldPeers
  let s1 := s.onCooling (fun c => { c with stopped := false, heldPeers := [], lowReads := 0 })
  let s2 := (List.range 32).foldl State.syncRefresh (s1.enterCoolant 0)
  let s3 := (List.range 32).foldl (fun x r => x.onRegion r (fun y => { y with thermal := 4, coolSince := none })) s2
  let s4 := ((List.range 32).foldl State.restartCoolant s3).hintAll 3 held
  (s4.retryLines).goOn

/-- R383: in automatic mode a stop ends as soon as its conditions hold. -/
def State.endIfOver (s : State) : State :=
  if s.cooling.stopped && s.stopOver && s.dv 0x281500 == 0 then s.endStop else s

/-! ### Hot spots (R374, R382, R385) -/

/-- R379: the mean of the 32 package temperatures, in 0.1 °C. -/
def State.packageMean (s : State) : Int := 10 * ((List.range 32).foldl (fun n p => n + (s.package p).celsius) (0 : Int)) / 32

/-- R379: the tray's flow meter is invalid: the fall-back source is in use. -/
def State.fallBack (s : State) : Bool := s.dv 0x280500 == 1

/-- R385: the model of a hot spot's temperature, in 0.1 °C: the outlet, or the package mean in fall-back, plus the calibrated
resistance times the region's power. -/
def State.spotModel (s : State) (h : Nat) : Int :=
  let r := regionOfSpot h
  let x := s.region r
  let mv := if x.milliVolt = 0 then s.regionVolt r x.point else x.milliVolt
  (if s.fallBack then s.packageMean else (s.role 1).reading / 10) +
    ((Config.thermalResistance h * mv * x.deciAmp / 100000 : Nat) : Int)

/-- R385: the highest valid reading among the other hot spots of a region and of its neighbours. -/
def State.nearbyTemp (s : State) (h : Nat) : Int :=
  let r := regionOfSpot h
  let rs := r :: (List.range 48).filter (fun n => (Config.neighbours r).testBit n)
  maxInt ((rs.flatMap hotSpotsOf).filterMap (fun k => if k = h ∨ (s.spot k).estimated = true then none else some (s.spot k).temp))

/-- R385: the marks of a hot spot after a reading. -/
def judgeSpot (x : HotSpot) (a b model : Int) (now : Nat) : HotSpot :=
  let apart := if 60 < (a - b).natAbs then some (x.apartSince.getD now) else none
  let near := fun (v : Int) => decide ((v - model).natAbs ≤ 200)
  let agree := if (a - b).natAbs ≤ 30 ∧ near a = true ∧ near b = true then some (x.agreeSince.getD now) else none
  let y := { x with a := a, b := b, apartSince := apart, agreeSince := agree, readAt := now }
  if apart.any (fun t => decide (t + 100000000 < now)) then
    let both := !near (max a b)
    { y with suspectA := x.suspectA || both || decide (a < b), suspectB := x.suspectB || both || decide (b < a) }
  else if agree.any (fun t => decide (t + 10000000000 ≤ now)) then { y with suspectA := false, suspectB := false }
  else y

/-- R374, R385: the temperature of a hot spot by its marks; `estimate` where both sensors are suspect. -/
def HotSpot.withTemp (x : HotSpot) (estimate : Int) : HotSpot :=
  { x with
    estimated := x.suspectA && x.suspectB,
    temp := if x.suspectA && x.suspectB then estimate else if x.suspectA then x.b else if x.suspectB then x.a else max x.a x.b }

/-- The mark bits of 0x2820 byte 6. -/
def HotSpot.marks (x : HotSpot) : Nat :=
  (if x.suspectA then 1 else 0) + (if x.suspectB then 2 else 0) + (if x.estimated then 4 else 0) + (if x.tripped then 8 else 0)

/-- R382: a rise faster than 2 °C/ms over the last 0.5 ms. -/
def risesFast (recent : List (Nat × Int)) (temp : Int) (now : Nat) : Bool :=
  match (recent.filter (fun x => decide (x.1 + 500000 ≤ now))).getLast? with
  | some x => decide (20 * ((now - x.1 : Nat) : Int) < (temp - x.2) * 1000000)
  | none => false

/-- R380: since when a region reads at or below its threshold less 3 °C. -/
def State.noteCool (s : State) (r : Nat) : State :=
  let cool := (hotSpotsOf r).all (fun h => decide ((s.spot h).temp ≤ s.dodgeAt h - 30))
  s.onRegion r (fun x => { x with coolSince := if cool then some (x.coolSince.getD s.now) else none })

/-- R374, R382, R385: one reading of both sensors of a hot spot, in 0.1 °C. -/
def State.sampleSpot (s : State) (h : Nat) (a b : Int) : State :=
  let old := s.spot h
  let model := s.spotModel h
  let x := (judgeSpot old a b model s.now).withTemp (max model (s.nearbyTemp h))
  let fast := risesFast old.recent x.temp s.now
  let y := { x with recent := (old.recent ++ [(s.now, x.temp)]).filter (fun e => decide (s.now ≤ e.1 + 600000)) }
  let s1 := s.setSpot h y
  let s2 := if old.suspectA != x.suspectA || old.suspectB != x.suspectB then
      s1.recordOf 0x2804 12 (regionOfSpot h)
        (h + x.marks * 2 ^ 8 + toBits 16 a * 2 ^ 16 + toBits 16 b * 2 ^ 32 + toBits 16 model * 2 ^ 48)
    else s1
  let s3 := s2.noteCool (regionOfSpot h)
  if fast then s3.declareStop 2 false h else s3.endIfOver

/-- HOT_SPOT_SAMPLE (R374, R382, R385). -/
def execHotSpotSample (h : Fin 80) (a : Int) (b : Int) (t : Nat) (s : State) : Host.Outcome State Fault Refusal :=
  .next (s.timed t (fun s => s.sampleSpot h a b))

/-! ### The thermal limit (R380) -/

/-- The hottest hot spot of a region. -/
def State.hottest (s : State) (r : Nat) : Nat :=
  (hotSpotsOf r).foldl (fun b h => if (s.spot b).temp < (s.spot h).temp then h else b) ((hotSpotsOf r).headD 0)

/-- R380: 110 °C stops a region's clock; 100 °C or less restarts it. -/
def State.tripStep (s : State) (r : Nat) : State :=
  let h := s.hottest r
  let temp := (s.spot h).temp
  if (s.region r).tripped then
    if temp ≤ 1000 then
      ((hotSpotsOf r).foldl (fun x k => x.onSpot k (fun y => { y with tripped := false }))
        (s.onRegion r (fun x => { x with tripped := false }))).goOn
    else s
  else if 1100 ≤ temp then
    ((s.onRegion r (fun x => { x with tripped := true })).onSpot h (fun y => { y with tripped := true })).recordOf 0x2803 12 r
      (h + toBits 16 temp * 2 ^ 16)
  else s

/-- R380: the thermal limit of a cluster region: down one point each 100 µs while hot, up one after 1 ms cool. -/
def State.thermalStep (s : State) (r : Nat) : State :=
  let s1 := s.noteCool r
  let x := s1.region r
  let hot := (hotSpotsOf r).any (fun h => decide (s.dodgeAt h < (s.spot h).temp))
  if hot then
    if x.thermalAt = 0 ∨ x.thermalAt + 100000 ≤ s.now then s1.setRegion r { x with thermal := x.thermal - 1, thermalAt := s.now } else s1
  else if x.coolSince.any (fun a => decide (a + 1000000 ≤ s.now)) then
    s1.setRegion r { x with thermal := min 7 (x.thermal + 1), coolSince := some s.now }
  else s1

/-- THERMAL_LIMIT_STEP (R380). -/
def execThermalLimitStep (r : Fin 48) (t : Nat) (s : State) : Host.Outcome State Fault Refusal :=
  .next (s.timed t (fun s => (if r.val < 32 then s.thermalStep r else s).tripStep r))

/-! ### The tray bus (R375, R376) -/

/-- R376, R416: a role's validity; a change writes TRAY_BUS. -/
def State.setValid (s : State) (k : Nat) (v : Bool) : State :=
  let x := s.role k
  if x.valid = v then s
  else (s.setRole k { x with valid := v }).recordOf 0x2805 12 0x30
    (k + (if v then 2 ^ 8 else 0) + s.dv (0x283001 + k) % 2 ^ 48 * 2 ^ 16)

/-- R376: a failed transfer of a role: counted; the third in a row makes it invalid. -/
def State.trayFails (s : State) (k : Nat) : State :=
  let x := s.role k
  let n := natFld (s.dv 0x283100) 4 4
  let s1 := (s.setRole k { x with fails := x.fails + 1, goods := 0 }).setDv 0x283100 (natSetFld (s.dv 0x283100) 4 4 (n + 1))
  if 3 ≤ x.fails + 1 then s1.setValid k false else s1

/-- R376: a good transfer with its reading: the tenth in a row makes the role valid. -/
def State.trayGood (s : State) (k : Nat) (v : Int) : State :=
  let x := s.role k
  let s1 := s.setRole k { x with fails := 0, goods := x.goods + 1, reading := v }
  if 10 ≤ x.goods + 1 then s1.setValid k true else s1

/-- R376: the range of a role's readings. -/
def trayInRange (k : Nat) (v : Int) : Bool := if k = 2 then decide (0 ≤ v ∧ v ≤ 10000) else decide (-1000 ≤ v ∧ v ≤ 9000)

/-- R376, R386: one private read of a role. -/
def State.trayRead (s : State) (k : Nat) (v : Option Int) : State :=
  if !(s.role k).bound then s
  else match v with
    | none => s.trayFails k
    | some v =>
      if trayInRange k v then (s.trayGood k v).setDv (0x280100 + 256 * k) (f32RatioInt v (if k = 2 then 1000 else 100))
      else (s.setRole k { s.role k with goods := 0, fails := 0 }).setValid k false

/-- R375: the bus is enumerated: addresses from 0x30 up in the order found, roles bound by PID; others are recorded. -/
def State.enumerateTray (s : State) (pids : List (BitVec 48)) : State :=
  let pidOf := fun (k : Nat) => s.dv (0x283001 + k) % 2 ^ 48
  let bind := fun (x : State) (k : Nat) =>
    match pids.findIdx? (fun p => p.toNat == pidOf k && p != 0) with
    | some i => x.setRole k { x.role k with bound := true, addr := 0x30 + i }
    | none => (x.setRole k { x.role k with bound := false, goods := 0, fails := 0 }).setValid k false
  let s1 := [0, 1, 2, 3].foldl bind (s.send .enumerate)
  (pids.filter (fun p => !(([0, 1, 2, 3] : List Nat).any (fun k => p.toNat == pidOf k && p != 0)))).foldl
    (fun x p => x.recordOf 0x2805 12 0x30 (0xFF + p.toNat * 2 ^ 16)) s1

/-- RE_ENUMERATE (R375): at boot (no master), or bit 1 of 0x2816:00. -/
def execReEnumerate (m : Option Master) (pids : List (BitVec 48)) (s : State) : Host.Outcome State Fault Refusal :=
  .next (match m with
    | none => s.enumerateTray pids
    | some m => (s.masterWrite m 0x281600 4 2 (fun s => (s.enumerateTray pids, St.ok))).1)

/-! ### The coolant state (R378, R379, R381) -/

/-- R378: the request the flow is taken against: for the grace after a raise, the one before it. -/
def State.flowBase (s : State) : Nat :=
  let c := s.cooling
  if c.before ≠ 0 ∧ s.now < c.raisedAt + 1000000 * s.dv 0x281800 then c.before else c.request

/-- R381: the coolant power limit at a flow of `v` against `base`, in W. -/
def coolantLimit (v base : Nat) : Nat :=
  if 800 * base ≤ 1000 * v then 1250 else if 400 * base ≤ 1000 * v then 1875 * v / base - 250 else 500

/-- R379: the limit by the package mean: 1,250 W at 70 °C, 500 W at 85 °C, linear between. -/
def fallBackLimit (mean : Int) : Nat :=
  if mean ≤ 700 then 1250 else if 850 ≤ mean then 500 else (1250 - 5 * (mean - 700)).toNat

/-- R382: the fall to below 20 % took 200 ms or less: from the last reading of 80 % on to the first below 20 %. -/
def fellQuickly (history : List (Nat × Nat)) : Bool :=
  match (history.filter (fun x => decide (800 ≤ x.2))).getLast? with
  | none => false
  | some top =>
    match history.find? (fun x => decide (top.1 < x.1) && decide (x.2 < 200)) with
    | some low => decide (low.1 ≤ top.1 + 200000000)
    | none => false

/-- R378, R381, R382: a valid flow reading, in mL/min. -/
def State.flowReading (s : State) (v : Nat) : State :=
  let base := s.flowBase
  if base = 0 then s.setDv 0x280500 0
  else
    let f := 1000 * v / base
    let low := if f < 200 then s.cooling.lowReads + 1 else 0
    let s1 := (s.setDv 0x280500 0).onCooling (fun c => { c with
      fraction := f, lowReads := low,
      history := (c.history ++ [(s.now, f)]).filter (fun x => decide (s.now ≤ x.1 + 10000000000)),
      okSince := if f < 800 then none else some (c.okSince.getD s.now) })
    let s2 := s1.setDv 0x280600 (coolantLimit v base)
    if s2.cooling.stopped then s2
    else if 2 ≤ low then s2.declareStop 1 (fellQuickly s2.cooling.history) 0
    else s2.enterCoolant (if 800 ≤ f then 0 else if 400 ≤ f then 1 else 2)

/-- R379: the coolant state in fall-back: normal at the full limit, held at the lowest, reduced between. -/
def State.fallBackState (s : State) : State :=
  let lim := fallBackLimit s.packageMean
  let s1 := ((s.setDv 0x280500 1).setDv 0x280600 lim).onCooling (fun c => { c with lowReads := 0, okSince := none })
  if s1.cooling.stopped then s1 else s1.enterCoolant (if lim = 1250 then 0 else if lim = 500 then 2 else 1)

/-- R381: the inlet above its maximum is recorded once; the check is not made while the inlet sensor is invalid (R379). -/
def State.checkInlet (s : State) : State :=
  let x := s.role 0
  let high := x.valid && decide (((100 * s.dv 0x281400 : Nat) : Int) < x.reading)
  let s1 := s.onCooling (fun c => { c with inletHigh := high })
  if high && !s.cooling.inletHigh then
    s1.recordOf 0x2801 12 0x30 (s.dv 0x280700 + f32RatioInt s.cooling.fraction 1000 * 2 ^ 32)
  else s1

/-- One poll of the tray (R376, R381, R383). -/
def State.pollTray (s : State) (p : TrayPoll) : State :=
  let s1 := ((s.trayRead 0 p.inlet).trayRead 1 p.outlet).trayRead 2 p.flow
  let s2 := s1.checkInlet
  (if !(s2.role 2).valid then s2.fallBackState
    else match p.flow with
      | some v => s2.flowReading v.toNat
      | none => s2).endIfOver

/-- TRAY_READ (R376, R379, R381 to R383). -/
def execTrayRead (p : TrayPoll) (t : Nat) (s : State) : Host.Outcome State Fault Refusal :=
  .next (s.timed t (fun s => s.pollTray p))

/-- R383: bit 0 of 0x2816:00 ends a stop when its conditions hold. -/
def State.resumeNow (s : State) : State × Nat :=
  if !s.cooling.stopped then (s, St.ok) else if s.stopOver then (s.endStop, St.ok) else (s, St.coolantNotReady)

/-- RESUME (R383). -/
def execResume (m : Master) (t : Nat) (s : State) : Host.Outcome State Fault Refusal :=
  .next (s.timed t (fun s => (s.masterWrite m 0x281600 4 1 State.resumeNow).1))

/-- The write of 0x2816:00 in a frame: resume, and the start of an enumeration, whose outcome is a RE_ENUMERATE (R375). -/
def State.coolantCommand (s : State) (v : Nat) : State × Nat :=
  if 4 ≤ v then (s, St.reservedSetDict)
  else
    let r := if v.testBit 0 then s.resumeNow else (s, St.ok)
    (if v.testBit 1 then r.1.send .enumerate else r.1, r.2)

/-! ### The requested flow (R376, R377) and the flow trend (R381) -/

/-- R377: module power averaged over 10 s, W. -/
def State.meanPower (s : State) : Nat :=
  let h := s.power.history
  if h.isEmpty then s.power.watts else (h.foldl (fun n x => n + x.2) 0) / h.length

/-- R377: the requested flow: nominal times P / 1,000 W, between the minimum and nominal; nominal below 80 % or stopped. -/
def State.wantedFlow (s : State) : Nat :=
  let n := s.dv 0x281000
  if s.cooling.stopped ∨ (s.fallBack = false ∧ s.cooling.fraction < 800) then n
  else min n (max (s.dv 0x281100) (n * s.meanPower / 1000))

/-- FLOW_REQUEST_WRITE (R376 to R378): every 100 ms, and at once on a change. -/
def execFlowRequestWrite (done : Bool) (t : Nat) (s : State) : Host.Outcome State Fault Refusal :=
  .next (s.timed t (fun s =>
    let w := s.wantedFlow
    let c := s.cooling
    if w = c.request ∧ s.now < c.requestAt + 100000000 then s
    else
      let raise := c.request < w ∧ c.request ≠ 0
      let s1 := (s.onCooling (fun c => { c with
        request := w, requestAt := s.now, before := if raise then c.request else c.before,
        raisedAt := if raise then s.now else c.raisedAt })).setDv 0x280400 (f32RatioInt w 1000)
      if (s1.role 3).bound then (if done then (s1.send (.flowRequest w)).trayGood 3 w else s1.trayFails 3) else s1))

/-- FLOW_TREND_UPDATE (R381): every 1 s in states 1 and 2: the change of f over the last 10 s, in % per second. -/
def execFlowTrendUpdate (t : Nat) (s : State) : Host.Outcome State Fault Refusal :=
  .next (s.timed t (fun s =>
    let st := s.dv 0x280700
    if (st = 1 ∨ st = 2) ∧ (s.cooling.trendAt = 0 ∨ s.cooling.trendAt + 1000000000 ≤ s.now) then
      let first := match s.cooling.history with | x :: _ => x.2 | [] => s.cooling.fraction
      (s.onCooling (fun c => { c with trendAt := s.now })).setDv 0x280800
        (f32RatioInt ((s.cooling.fraction : Int) - first) 100)
    else s))

end Sys2Proof.Machine
end

