-- ==== Sys2Proof/Machine/Testing.lean ====
section
/-!
DEFINITION. Coalescing windows of the error log (R417), errors of control memories (R423), structural test and its commands (R107, R424, R426 to R428, R432), and the
IEEE 1149.1 test access port (R425).
-/

namespace Sys2Proof.Machine

/-! ### Coalescing (R417) -/

/-- R416: unit and region of a coalesced class by its source: a channel, a scratchpad bank, a memory. -/
def ceUnit (cls source : Nat) : Nat × Nat :=
  if cls = 0x4001 then (8, ctrlRegion (source / 4)) else if cls = 0xA005 then (7, source / 32 % 32)
  else if 32 ≤ source then (16, 47) else (0, source)

/-- R417: a window ends; suppressed records leave one closing record. -/
def State.endWindow (s : State) (cls source : Nat) : State :=
  match s.windows.find? (fun w => w.cls == cls && w.source == source) with
  | none => s
  | some w =>
    if s.now < w.since + 1000 * s.dv 0x700400 then s
    else
      let s1 := { s with windows := s.windows.erase w }
      let u := ceUnit cls source
      if w.count = 0 then s1
      else s1.record { s1.mkRec cls u.1 u.2 w.last with flags := 4, repeats := min 0xFFFF w.count }

/-- COALESCING_WINDOW_END (R417). -/
def execCoalescingWindowEnd (cls : BitVec 16) (source : Nat) (t : Nat) (s : State) : Host.Outcome State Fault Refusal :=
  .next ((s.tick t).endWindow cls.toNat source)

/-! ### Runs of test patterns (R107, R426 to R428) -/

/-- R107: what an array makes of the known-answer kernel. -/
def kernelResult (k : Kernel) (a : Nat) : Nat :=
  let codes := fun (m : List (List Byte)) => m.map (fun r => r.map BitVec.toNat)
  let fault := k.faults.foldl (fun n f => if f.1.val = a then n ^^^ f.2.toNat else n) 0
  foldAccs (lnsTile (codes k.a) (codes k.b)) ^^^ fault

/-- R107, R426: the records of the arrays at a position whose known-answer kernel differs; a position that serves no name has none in
0xA017. -/
def State.kernelRecords (s : State) (c : Option Nat) (p : Nat) : Option Kernel → State
  | none => s
  | some k =>
    let rs := (List.range 32).map (fun a => (a, kernelResult k a))
    (rs.filter (fun r => r.2 != k.digest.toNat)).foldl (fun x r =>
      x.recordOf 0x7002 1 (c.getD 0x30) (p + r.1 * 2 ^ 8 + k.digest.toNat * 2 ^ 64 + r.2 * 2 ^ 128)) s

/-- R107, R416: the known-answer kernel on every array of a cluster: one bit per array in 0xA017, a record for each that differs. -/
def State.kernels (s : State) (c : Nat) : Option Kernel → State
  | none => s
  | some k =>
    let good := (List.range 32).foldl (fun n a => if kernelResult k a = k.digest.toNat then n + 2 ^ a else n) 0
    (s.setDv (0xA01701 + c) good).kernelRecords (some c) (s.position c) (some k)

/-- The failing unit of a run: the pattern's, or the matrix engine where the kernel's result differs on an array. -/
def runFails (r : TestRun) : Option Nat :=
  match r.fails with
  | some u => some u.val
  | none => match r.kernel with
    | some k => if (List.range 32).any (fun a => kernelResult k a != k.digest.toNat) then some 1 else none
    | none => none

/-- R416: a TEST_FAIL record: mode 1 boot, 2 rotation, 3 recovery. -/
def State.testFail (s : State) (mode region position pattern unit : Nat) : State :=
  s.recordOf 0x7001 14 region (mode + position * 2 ^ 8 + pattern * 2 ^ 16 + unit * 2 ^ 32)

/-- R428, R431: a cluster is quarantined; when none is enabled the module halts. -/
def State.quarantine (s : State) (c : Nat) : State :=
  let s1 := (s.setClusterState c 1).onCluster c (fun k => { k with pattern := none, rotateNow := false, testNow := true })
  if (List.range 32).any s1.enabled then s1 else s1.halt

/-- Whether the units of a region can run a test now: awake, not stopped, and idle. -/
def State.testable (s : State) (r : Nat) : Bool :=
  let x := s.region r
  x.power != 3 && !x.tripped && !x.coolant && s.ready && !s.boot.halted && (decide (32 ≤ r) || !s.clusterWorks r)

/-- R426, R427, R432: a rotation visit is due: keep-warm, the command, or no tile for the idle time. -/
def State.rotationDue (s : State) (c : Nat) : Bool :=
  let k := s.cluster c
  s.enabled c && s.testable c &&
    (k.pattern.isSome || k.rotateNow || decide (k.lastTile + 1000000 * s.dv 0x701100 ≤ s.now))

/-- R427: a pattern that completes adds a pass; one that fails quarantines the cluster. -/
def State.rotate (s : State) (c : Nat) (r : TestRun) : State :=
  let s1 := (s.onCluster c (fun k => { k with rotateNow := false })).kernels c r.kernel
  match runFails r with
  | none => s1.onCluster c (fun k => { k with passes := (k.passes + 1) % 2 ^ 32 })
  | some u =>
    ((s1.onCluster c (fun k => { k with failPattern := r.pattern.toNat })).testFail 2 c (s1.position c) r.pattern.toNat u).quarantine c

/-- ROTATION_PATTERN (R426, R427). -/
def execRotationPattern (c : Fin 32) (run : TestRun) (t : Nat) (s : State) : Host.Outcome State Fault Refusal :=
  .next (s.timed t (fun s => if s.rotationDue c then s.rotate c run else s))

/-- A recovery test of a cluster begins: it is no longer asked for. -/
def State.testMade (s : State) (c : Nat) : State :=
  { s with test := { s.test with regionTests := s.test.regionTests.filter (· != c) } }.onCluster c (fun k => { k with testNow := false })

/-- R428: the runs of a recovery test up to the first that fails. -/
def untilFail : List TestRun → List TestRun
  | [] => []
  | r :: rest => if (runFails r).isSome then [r] else r :: untilFail rest

/-- R428: a cluster's recovery test: the failing pattern four times, with the kernel on every array. Four passes return it to
ENABLED, any failure disables it; runs that were not all made decide nothing. -/
def State.recoverCluster (s : State) (c : Nat) (runs : List TestRun) : State :=
  let made := untilFail (runs.take 4)
  match made.findSome? (fun r => (runFails r).map (fun u => (r.pattern.toNat, u))) with
  | none =>
    if made.length = 4 ∧ made.all (fun r => r.kernel.isSome) then (made.foldl (fun x r => x.kernels c r.kernel) (s.testMade c)).setClusterState c 0
    else s
  | some x =>
    let s1 := made.foldl (fun x r => x.kernels c r.kernel) (s.testMade c)
    ((s1.onCluster c (fun k => { k with failPattern := x.1 })).testFail 3 c (s1.position c) x.1 x.2).goDark c 2

/-- R424, R428: the full set on the units of another region: a failure is recorded. -/
def State.recoverRegion (s : State) (r : Nat) (runs : List TestRun) : State :=
  let s1 := { s with test := { s.test with regionTests := s.test.regionTests.filter (· != r) } }
  match runs.findSome? (fun x => (runFails x).map (fun u => (x.pattern.toNat, u))) with
  | none => s1
  | some x => s1.testFail 3 r r x.1 x.2

/-- RECOVERY_TEST (R424, R428): a quarantined cluster, or a unit named, when it is idle. -/
def execRecoveryTest (u : Fin 48) (runs : List TestRun) (t : Nat) (s : State) : Host.Outcome State Fault Refusal :=
  .next (s.timed t (fun s =>
    if runs.isEmpty || !s.testable u then s
    else if u.val < 32 then
      (if (s.cluster u).state = 1 ∨ ((s.cluster u).state = 0 ∧ s.test.regionTests.contains u.val = true) then s.recoverCluster u runs else s)
    else if s.test.regionTests.contains u.val then s.recoverRegion u runs
    else s))

/-! ### Control memory (R423) -/

/-- R423: an error in a word of a control core's memory: a corrected one leaves a record; an uncorrectable one ends every list homed
there (R201) and quarantines the cluster (R428). -/
def State.controlError (s : State) (c word : Nat) (corrected : Bool) : State :=
  let r := s.mkRec 0xA008 0 c (1 + (if corrected then 0 else 1) * 2 ^ 8 + word * 2 ^ 32)
  if corrected then s.recordCE r c
  else
    let s1 := (s.record r).quarantine c
    (((s1.queues.filter (fun e => qEnabled e.2.entry && qHome e.2.entry == c)).map (·.1)).foldl State.loseControl s1).settled

/-- LIST_START (R170), with an error of a word of its control core's memory (R423). -/
def execListStart (q : Fin 256) (host : EntryRead) (s : State) : Host.Outcome State Fault Refusal :=
  let s1 := match host.ecc with
    | some e => if s.listDue q then s.controlError (qHome (s.queue q).entry) e.1.toNat e.2 else s
    | none => s
  .next (if s1.listDue q then s1.startList q host.entry else s1)

/-! ### Test commands (R432) -/

/-- The write of 0x7040:00: operation in byte 0, unit in byte 1. -/
def State.testCommand (s : State) (v : Nat) : State × Nat :=
  let u := v / 2 ^ 8 % 256
  let op := v % 256
  if v / 2 ^ 16 ≠ 0 ∨ op = 0 ∨ 5 < op ∨ (op ≤ 4 ∧ 32 ≤ u) ∨ (op = 5 ∧ (u < 32 ∨ 48 ≤ u)) then (s, St.reservedSetDict)
  else if op = 1 then (if s.enabled u then (s.quarantine u, St.ok) else (s, St.unitState))
  else if op = 2 then
    (if (s.cluster u).state = 1 then (s.onCluster u (fun k => { k with testNow := true }), St.ok) else (s, St.unitState))
  else if op = 3 then (if s.offline u then (s, St.unitState) else (s.takeOffline u (4 * u) 4, St.ok))
  else if op = 4 then
    (if s.enabled u then (s.onCluster u (fun k => { k with rotateNow := true }), St.ok) else (s, St.unitState))
  else if (s.region u).power = 3 then (s, St.unitState)
  else ({ s with test := { s.test with regionTests := s.test.regionTests.filter (· != u) ++ [u] } }, St.ok)

/-- One test command by a master. -/
def State.testBy (s : State) (m : Master) (op u : Nat) : State :=
  (s.masterWrite m 0x704000 8 (op + u * 2 ^ 8) (fun s => s.testCommand (op + u * 2 ^ 8))).1

/-- QUARANTINE (R432). -/
def execQuarantine (m : Master) (c : Fin 32) (s : State) : Host.Outcome State Fault Refusal := .next (s.testBy m 1 c)

/-- RUN_RECOVERY_TEST (R432). -/
def execRunRecoveryTest (m : Master) (c : Fin 32) (s : State) : Host.Outcome State Fault Refusal := .next (s.testBy m 2 c)

/-- TAKE_PACKAGE_OUT_OF_SERVICE (R228, R432). -/
def execTakePackageOutOfService (m : Master) (p : Fin 32) (s : State) : Host.Outcome State Fault Refusal := .next (s.testBy m 3 p)

/-- RUN_ROTATION_PATTERN (R432). -/
def execRunRotationPattern (m : Master) (c : Fin 32) (s : State) : Host.Outcome State Fault Refusal := .next (s.testBy m 4 c)

/-- RUN_REGION_TEST (R432). -/
def execRunRegionTest (m : Master) (r : Fin 48) (s : State) : Host.Outcome State Fault Refusal := .next (s.testBy m 5 r)

/-! ### The test access port (R425) -/

def State.onTest (s : State) (f : TestState → TestState) : State := { s with test := f s.test }

/-- An instruction of a die is selected; the interfaces are driven from its boundary register or not. -/
def State.selectIr (s : State) (die ir : Nat) (drive : Bool) : State :=
  s.onTest (fun t => { t with ir := put 1 t.ir die ir, driving := put false t.driving die drive })

/-- The number of a list of bits, the first lowest. -/
def bitsNat (bs : List Bool) : Nat := bs.foldr (fun b n => 2 * n + (if b then 1 else 0)) 0

/-- R425: EXTEST and RUNBIST act only while bit 0 of 0x9050:00 is set. -/
def State.testAccess (s : State) : Bool := (s.dv 0x905000).testBit 0

/-- R425: whether the interfaces of the module are driven from a boundary register. -/
def State.extestOn (s : State) : Bool := s.test.driving.any (fun e => e.2)

/-- BYPASS (R425). -/
def execBypass (die : Fin 2) (s : State) : Host.Outcome State Fault Refusal := .next (s.selectIr die 0 false)

/-- IDCODE (R425). -/
def execIdcode (die : Fin 2) (s : State) : Host.Outcome State Fault Refusal :=
  .next ((s.selectIr die 1 false).send (.tdo die (Config.idcode die % 2 ^ 32)))

/-- SAMPLE_PRELOAD (R425): the lands are captured and shifted out; a preload enters the boundary register. -/
def execSamplePreload (die : Fin 2) (preload : Option (List Bool)) (pins : List Bool) (s : State) : Host.Outcome State Fault Refusal :=
  let s1 := (s.selectIr die 2 false).send (.tdo die (bitsNat pins))
  .next (s1.onTest (fun t => { t with boundary := put [] t.boundary die (preload.getD pins) }))

/-- EXTEST (R425): the interfaces are driven from the boundary register; without test access it acts as BYPASS. -/
def execExtest (die : Fin 2) (pins : List Bool) (s : State) : Host.Outcome State Fault Refusal :=
  .next (if s.testAccess then (s.selectIr die 3 true).send (.tdo die (bitsNat pins)) else s.selectIr die 0 false)

/-- RUNBIST (R425, R426): the boot pattern set of the die: bit 0 pass, bits 31:1 the failing patterns; else BYPASS. -/
def execRunbist (die : Fin 2) (failing : Nat) (s : State) : Host.Outcome State Fault Refusal :=
  let r := (if failing = 0 then 1 else 0) + failing * 2 % 2 ^ 32
  .next (if s.testAccess then
      ((s.selectIr die 4 false).onTest (fun t => { t with captured := put 0 t.captured die r })).send (.tdo die r)
    else s.selectIr die 0 false)

end Sys2Proof.Machine
end

