-- ==== Sys2Proof/Machine/Reset.lean ====
section
/-!
DEFINITION. Resets (R448), attestation (R442), the flash (R435, R436, R449) and the board rails (R455).
-/

namespace Sys2Proof.Machine

def State.onBoot (s : State) (f : Boot → Boot) : State := { s with boot := f s.boot }

/-! ### Resets (R448) -/

/-- LPDDR keeps its bytes and marks over a reset (log entry 11); scratchpads and the mailbox are at their reset value. -/
def State.keptMem (s : State) : Tbl Byte := s.mem.filter (fun e => decide (e.1 < 0x20000000000))
def State.keptMarks (s : State) : Tbl LineMark := s.marks.filter (fun e => decide (e.1 < 2 ^ 42))

/-- What a full reset leaves: the flash and its fuses; the model's own queue, counter and record of messages. -/
def State.fullReset (s : State) : State :=
  { State.reset with
    pending := s.pending, fresh := s.fresh, egress := s.egress, mem := s.keptMem, marks := s.keptMarks,
    boot := { flash := s.boot.flash, erased := s.boot.erased, fuseStage := s.boot.fuseStage, fuseConfig := s.boot.fuseConfig } }

/-- R343, R448: whether the safelight domain holds an entry: areas 0x1100, 0x2000 to 0x3FFF, 0x7000 and 0xF000. -/
def safelightEntry (key : Nat) : Bool :=
  let e := key / 256
  (decide (0x1100 ≤ e) && decide (e < 0x4000)) || (decide (0x7000 ≤ e) && decide (e < 0x8000)) || decide (0xF000 ≤ e)

/-- R404, R448: a core reset: regions and the core rail off, device time, error log and the safelight domain's entries kept,
holds and subscriptions ended, start-up at FLASH with the lock cleared. -/
def State.coreReset (s : State) : State :=
  let kept := s.dict.filter (fun e => safelightEntry e.1 && !([0x110800, 0x300B00, 0x300400] : List Nat).contains e.1)
  let s1 : State := { State.reset with
    pending := s.pending, now := s.now, fresh := s.fresh, egress := s.egress, mem := s.keptMem, marks := s.keptMarks,
    dict := kept, tags := s.tags.filter (fun e => safelightEntry e.1),
    log := s.log, logSeq := s.logSeq, windows := s.windows, test := { ir := s.test.ir, boundary := s.test.boundary, captured := s.test.captured, driving := s.test.driving },
    mgmt := { s.mgmt with hold2000 := false, hold2800 := false, subs := [], hostEvidence := {}, mgmtEvidence := {} },
    boot := { state := 1, since := s.now, flash := s.boot.flash, erased := s.boot.erased, fuseStage := s.boot.fuseStage,
              fuseConfig := s.boot.fuseConfig, rails := s.boot.rails, railOut := s.boot.railOut } }
  s1.send (.railVoltage 0)

/-- The write of 0x1110:00. -/
def State.resetWrite (s : State) (v : Nat) : State × Nat :=
  if v = 1 then (s.fullReset, St.ok) else if v = 2 then (s.coreReset, St.ok) else (s, St.reservedSetDict)

/-- Whether a master may write the reset command (R447, R448). -/
def State.mayReset (s : State) (m : Master) : Bool := s.writeStatus m 0x111000 1 == 0

/-- FULL_RESET (R448): by 0x1110:00, or by RST_N or loss of the safelight rail (no master). -/
def execFullReset (m : Option Master) (s : State) : Host.Outcome State Fault Refusal :=
  .next (match m with
    | none => s.fullReset
    | some m => if s.mayReset m then s.fullReset else s)

/-- CORE_RESET (R448): by 0x1110:00, or by a board rail (no master, R455). -/
def execCoreReset (m : Option Master) (s : State) : Host.Outcome State Fault Refusal :=
  .next (match m with
    | none => s.coreReset
    | some m => if s.mayReset m then s.coreReset else s)

/-! ### Attestation (R442) -/

/-- The evidence buffer of a master changed. -/
def State.setEvidence (s : State) (m : Master) (b : EvidenceBuf) : State :=
  { s with mgmt := if fromHost m then { s.mgmt with hostEvidence := b } else { s.mgmt with mgmtEvidence := b } }

/-- The write of 0x1020:00: a new signing for the writing master. -/
def State.nonceWrite (s : State) (m : Master) (nonce : List Byte) : State × Nat :=
  (s.setEvidence m { state := 1, nonce := nonce, since := s.now }, St.ok)

/-- ATTESTATION_NONCE (R442). -/
def execAttestationNonce (m : Master) (nonce : List Byte) (t : Nat) (s : State) : Host.Outcome State Fault Refusal :=
  .next ((s.tick t).masterWrite m 0x102000 nonce.length (leNat nonce) (fun s => s.nonceWrite m nonce)).1

/-- EVIDENCE_READY (R442): signing takes at least 40 ms. -/
def execEvidenceReady (m : Master) (t : Nat) (s : State) : Host.Outcome State Fault Refusal :=
  let s1 := s.tick t
  let b := s1.evidenceOf m
  .next (if b.state = 1 ∧ b.since + 40000000 ≤ s1.now then
      s1.setEvidence m { b with state := 2, bytes := s1.evidenceFor b.nonce }
    else s1)

/-! ### The flash (R436, R449) -/

/-- R436, R449: base and size of a region: 1, 2 configuration, 3, 4 stage-one, 5 calibration, 6 patterns. -/
def flashRegion (r : Nat) : Nat × Nat :=
  [(0, 0), (0x100000, 0x100000), (0x200000, 0x100000), (0x1000000, 0x2000000), (0x3000000, 0x2000000), (0x5000000, 0x1000000),
    (0x6000000, 416 * 0x100000)].getD r (0, 0)

/-- R449: whether a region is in use: the running stage-one, the applied configuration, calibration, patterns. -/
def State.flashActive (s : State) (r : Nat) : Bool :=
  r == 5 || r == 6 || r == (if s.boot.stageB then 4 else 3) || (s.boot.config == 0 && r == 1) || (s.boot.config == 1 && r == 2)

/-- R449: a region is erased and opened at an offset. -/
def State.openFlash (s : State) (r off : Nat) : State × Nat :=
  let b := flashRegion r
  if r = 0 ∨ 6 < r ∨ b.2 ≤ off then (s, St.reservedSetDict)
  else if s.flashActive r then (s, St.flashActive)
  else
    (s.onBoot (fun x => { x with
      region := r, offset := off, erased := x.erased.filter (· != r) ++ [r], flash := x.flash.filter (fun e => !(decide (b.1 ≤ e.1) && decide (e.1 < b.1 + b.2))) }), St.ok)

/-- R449: 1,024 bytes are programmed into the open region; the offset advances. -/
def State.programFlash (s : State) (bytes : List Byte) : State × Nat :=
  let x := s.boot
  let b := flashRegion x.region
  if x.region = 0 ∨ b.2 < x.offset + 1024 then (s, St.reservedSetDict)
  else
    let flash := (List.zip (List.range 1024) bytes).foldl (fun f e => put none f (b.1 + x.offset + e.1) (some e.2)) x.flash
    (s.onBoot (fun x => { x with flash := flash, offset := x.offset + 1024 }), St.ok)

/-! ### Signed blocks (R437, R438) -/

/-- R437: a signed block: its header and its body. -/
structure Block where
  head : List Byte
  body : List Byte

/-- A field of the header, as a number. -/
def Block.num (b : Block) (off len : Nat) : Nat := leNat ((b.head.drop off).take len)

def Block.version (b : Block) : Nat := b.num 4 4
def Block.rollback (b : Block) : Nat := b.num 8 4
def Block.length (b : Block) : Nat := b.num 16 8
def Block.digest (b : Block) : List Byte := (b.head.drop 24).take 48

/-- A byte of a region of the flash: as programmed, 0xFF where it was erased, else what the read shows. -/
def State.flashAt (s : State) (r off : Nat) (shown : Byte) : Byte :=
  match look none s.boot.flash ((flashRegion r).1 + off) with
  | some b => b
  | none => if s.boot.erased.contains r then 0xFF else shown

/-- R437: the block in a region of the flash; a body longer than its slot is read to the slot's end. -/
def State.flashBlock (s : State) (r : Nat) (x : BlockScan) : Block :=
  let head := (List.range 17120).map (fun i => s.flashAt r i (x.header.getD i 0xFF))
  let len := min (leNat ((head.drop 16).take 8)) ((flashRegion r).2 - 0x10000)
  { head := head, body := (List.range len).map (fun i => s.flashAt r (0x10000 + i) (x.body.getD i 0xFF)) }

/-- R437: the magic of a region's blocks. -/
def regionMagic (r : Nat) : Nat :=
  if r = 1 ∨ r = 2 then 0x31474643 else if r = 3 ∨ r = 4 then 0x31475453 else if r = 5 then 0x314C4143 else 0x31545354

/-- R438: the trusted digests of the keys of a region's blocks: RSA, SLH-DSA. -/
def trustedKey (r k : Nat) : Nat := if r = 1 ∨ r = 2 then Config.identity (0x900301 + k) else Config.identity (0x1000001 + k)

/-- R438: the rollback counter of a region's blocks; calibration and patterns have none. -/
def State.rollbackFuse (s : State) (r : Nat) : Nat :=
  if r = 1 ∨ r = 2 then s.boot.fuseConfig else if r = 3 ∨ r = 4 then s.boot.fuseStage else 0

/-- R438, R450: every check of a block, a bit for each that fails: 0 magic, reserved fields and body length, 1 keys, 2 RSA,
3 SLH-DSA, 4 digest, 5 rollback. -/
def State.blockResult (s : State) (r : Nat) (b : Block) : Nat :=
  let signed := b.head.take 512
  let bit := fun (k : Nat) (ok : Bool) => if ok then 0 else 2 ^ k
  bit 0 (b.num 0 4 == regionMagic r && b.num 12 4 == 0 && b.num 508 4 == 0 && decide (b.length ≤ (flashRegion r).2 - 0x10000) &&
      (decide (r ≤ 4) || b.rollback == 0)) +
    bit 1 (leNat (Config.sha384 ((b.head.drop 72).take 388)) == trustedKey r 0 &&
      leNat (Config.sha384 ((b.head.drop 460).take 48)) == trustedKey r 1) +
    bit 2 (Config.rsaVerifies ((b.head.drop 72).take 388) signed ((b.head.drop 512).take 384)) +
    bit 3 (Config.slhVerifies ((b.head.drop 460).take 48) signed ((b.head.drop 896).take 16224)) +
    bit 4 (Config.sha384 b.body == b.digest) +
    bit 5 (decide (s.rollbackFuse r ≤ b.rollback))

/-- R449: a commit verifies a region and reports the result in 0x1032:00. -/
def State.commitFlash (s : State) (r : Nat) (x : BlockScan) : State × Nat :=
  if r = 0 ∨ 6 < r then (s, St.reservedSetDict)
  else
    let b := s.flashBlock r x
    ((s.setDv 0x103200 (r + s.blockResult r b * 2 ^ 8 + b.version * 2 ^ 32)).onBoot (fun x => { x with region := 0, offset := 0 }), St.ok)

/-- R437: the block a region left manufacture with, for a commit in a frame, which shows none. -/
def madeBlock (r : Nat) : BlockScan :=
  let bytes := fun (off n : Nat) => (List.range n).map (fun i => Config.flashByte ((flashRegion r).1 + off + i))
  { header := bytes 0 17120, body := bytes 0x10000 (leNat (bytes 16 8)) }

/-- The write of 0x1030:00 in a frame (R449). -/
def State.flashCommand (s : State) (v : Nat) : State × Nat :=
  if v / 2 ^ 16 % 2 ^ 48 ≠ 0 then (s, St.reservedSetDict)
  else if v % 256 = 1 then s.openFlash (v / 2 ^ 8 % 256) (v / 2 ^ 64)
  else if v % 256 = 2 then s.commitFlash (v / 2 ^ 8 % 256) (madeBlock (v / 2 ^ 8 % 256))
  else (s, St.reservedSetDict)

/-- FLASH_OPEN (R449). -/
def execFlashOpen (m : Master) (region : BitVec 8) (offset : BitVec 64) (s : State) : Host.Outcome State Fault Refusal :=
  .next (s.masterWrite m 0x103000 16 (1 + region.toNat * 2 ^ 8 + offset.toNat * 2 ^ 64) (fun s => s.openFlash region.toNat offset.toNat)).1

/-- FLASH_DATA (R449). -/
def execFlashData (m : Master) (bytes : List Byte) (s : State) : Host.Outcome State Fault Refusal :=
  .next (s.masterWrite m 0x103100 bytes.length (leNat bytes) (fun s => s.programFlash bytes)).1

/-- FLASH_COMMIT (R449): the open region is verified. -/
def execFlashCommit (m : Master) (scan : BlockScan) (s : State) : Host.Outcome State Fault Refusal :=
  .next (s.masterWrite m 0x103000 16 (2 + s.boot.region * 2 ^ 8) (fun s => s.commitFlash s.boot.region scan)).1

/-! ### Board rails (R453, R455) -/

/-- R453: the range of a board rail, in mV: VSAFE, VIO, VMEM1, VMEM2, VMEMQ, VOPT. -/
def railRange (k : Nat) : Nat × Nat :=
  [(730, 770), (1710, 1890), (1710, 1890), (1020, 1080), (485, 515), (873, 927)].getD k (0, 0)

/-- R455: readings of the board rails; VSAFE below its range is a full reset, one that rises above it is recorded (R3, R453, log entry
193). -/
def State.readRails (s : State) (mv : List Nat) : State :=
  let s1 := (List.zip (List.range 6) mv).foldl (fun (x : State) e =>
    let r := railRange e.1
    (x.setDv (0x204001 + e.1) (f32RatioInt e.2 1000)).onBoot (fun b => { b with
      rails := put 0 b.rails e.1 e.2,
      railOut := put none b.railOut e.1
        (if e.2 < r.1 ∨ r.2 < e.2 then some ((look none b.railOut e.1).getD x.now) else none) })) s
  match mv with
  | v :: _ =>
    if v < 730 then s1.fullReset
    else if 770 < v ∧ look 0 s.boot.rails 0 ≤ 770 then s1.recordOf 0x2001 11 0x30 (v % 2 ^ 32 * 2 ^ 32 + s.dv 0x203200 * 2 ^ 64)
    else s1
  | [] => s1

/-- RAIL_MONITOR (R455): every 20 µs. -/
def execRailMonitor (milliVolt : List Nat) (t : Nat) (s : State) : Host.Outcome State Fault Refusal :=
  .next ((s.tick t).readRails milliVolt)

/-- R455: whether another board rail was out of range for 100 µs, from STAGE1 on. -/
def State.railFault (s : State) (k : Nat) : Bool :=
  k != 0 && decide (2 ≤ s.boot.state) &&
    (match look none s.boot.railOut k with | some a => decide (a + 100000 ≤ s.now) | none => false)

/-- BOARD_RAIL_FAULT (R455): the rail and the time are recorded in 0x2041:00, and the core is reset. -/
def execBoardRailFault (rail : Fin 6) (t : Nat) (s : State) : Host.Outcome State Fault Refusal :=
  let s1 := s.tick t
  .next (if s1.railFault rail then
      (s1.setDv 0x204100 (rail.val + 1 + f32RatioInt (look 0 s1.boot.rails rail : Nat) 1000 * 2 ^ 32 + s1.now % 2 ^ 64 * 2 ^ 64)).coreReset
    else s1)

end Sys2Proof.Machine
end

