-- ==== Sys2Proof/Machine/Writes.lean ====
section
/-!
DEFINITION. What a write of each register of the object dictionary checks and does (R388 to R412 and the entries' own tables), the
management hold (R403, R404), health (R409) and the host event ring (R412).
-/

namespace Sys2Proof.Machine

/-! ### Ranges of values (the entries' tables) -/

/-- A register's range of values; other values change nothing and return RESERVED_SET_DICT. -/
def writeRange (key : Nat) : Option (Nat × Nat) :=
  match key with
  | 0x110501 => some (0, 2 ^ 32 - 1)
  | 0x200600 => some (50, 800)
  | 0x200700 => some (20, 60)
  | 0x201301 => some (0, 7)
  | 0x201302 => some (0, 7)
  | 0x201303 => some (0, 7)
  | 0x201304 => some (0, 7)
  | 0x281000 => some (500, 3000)
  | 0x281200 => some (80, 105)
  | 0x281400 => some (20, 50)
  | 0x281500 => some (0, 1)
  | 0x281700 => some (1, 3600)
  | 0x281800 => some (100, 10000)
  | 0x301000 => some (100, 1000000)
  | 0x301100 => some (10, 1000000)
  | 0x400A00 => some (3600, 604800)
  | 0x401200 => some (16, 4096)
  | 0x500E00 => some (100, 1000000)
  | 0x501100 => some (10, 10000)
  | 0x501300 => some (0, 256)
  | 0x501400 => some (10, 600000)
  | 0x600500 => some (0, 1)
  | 0x600600 => some (1, 10000)
  | 0x600700 => some (1, 255)
  | 0x600D00 => some (100, 60000)
  | 0x601400 => some (1, 60000)
  | 0x700400 => some (100, 1000000)
  | 0x701100 => some (1, 3600000)
  | 0x800100 => some (1, 2)
  | 0x801000 => some (0, 3)
  | 0xA02100 => some (0, 4096)
  | 0xA03100 => some (0, 1024)
  | 0xA04300 => some (1, 8)
  | 0xA04500 => some (1000, 10000000)
  | 0xF00200 => some (0x600, 0xFFFF)
  | 0xF01100 => some (1, 255)
  | 0xF01200 => some (1, 255)
  | 0xF01400 => some (1, 255)
  | _ => none

/-- A register's own condition on a value, beside its range. -/
def State.writeFits (s : State) (key v : Nat) : Bool :=
  match key with
  | 0x281100 => decide (500 ≤ v) && decide (v ≤ s.dv 0x281000)
  | 0x281300 => v == 0 || (decide (90 ≤ v) && decide (v ≤ 400))
  | 0x283001 => decide (v < 2 ^ 48)
  | 0x283002 => decide (v < 2 ^ 48)
  | 0x283003 => decide (v < 2 ^ 48)
  | 0x283004 => decide (v < 2 ^ 48)
  | 0x501200 => v % 64 == 0 && decide (v < 2 ^ 48)
  | 0x503400 => v == 16 || v == 8 || v == 4
  | 0x601000 => v % 2 ^ 21 == 0
  | 0x601100 => v % 2 ^ 21 == 0
  | 0xA02000 => v % 128 == 0 && decide (v < 2 ^ 48)
  | 0xA03000 => v % 128 == 0 && decide (v < 2 ^ 48)
  | 0xF02200 => v == 0 || (decide (1000 ≤ v) && decide (v ≤ 86400000))
  | _ => true

/-! ### The management hold (R403, R404) -/

/-- The write of 0xF021:00. -/
def State.holdKeyWrite (s : State) (m : Master) (v : Nat) : State × Nat :=
  let mac := match m with | .mgmt a => a | .host => 0
  let g := s.mgmt
  let (a, b) := (v.testBit 0, v.testBit 1)
  if v = 1 ∨ v = 2 ∨ v = 3 then
    if (a && !g.hold2000) || (b && !g.hold2800) then
      ({ s with mgmt := { g with
          hold2000 := g.hold2000 || a, hold2800 := g.hold2800 || b, holder := mac, takenAt := s.now, renewedAt := s.now } }, St.ok)
    else (s, St.ok)
  else if v = 0x81 ∨ v = 0x82 ∨ v = 0x83 then
    ({ s with mgmt := { g with hold2000 := g.hold2000 && !a, hold2800 := g.hold2800 && !b } }, St.ok)
  else (s, St.reservedSetDict)

/-- HOLD_TAKE (R403). -/
def execHoldTake (m : Master) (areas : Fin 4) (s : State) : Host.Outcome State Fault Refusal :=
  .next (s.masterWrite m 0xF02100 1 areas.val (fun s => s.holdKeyWrite m areas.val)).1

/-- HOLD_RELEASE (R403). -/
def execHoldRelease (m : Master) (areas : Fin 4) (s : State) : Host.Outcome State Fault Refusal :=
  .next (s.masterWrite m 0xF02100 1 (0x80 + areas.val) (fun s => s.holdKeyWrite m (0x80 + areas.val))).1

/-- R404, R416: the lease passed without a management frame: the hold ends and is recorded. -/
def State.expireHold (s : State) : State :=
  let g := s.mgmt
  let lease := s.dv 0xF02200
  if (g.hold2000 || g.hold2800) ∧ lease ≠ 0 ∧ g.renewedAt + 1000000 * lease ≤ s.now then
    let areas := (if g.hold2000 then 1 else 0) + (if g.hold2800 then 2 else 0)
    ({ s with mgmt := { g with hold2000 := false, hold2800 := false } }).recordOf 0xF002 13 0x30 (macNat g.holder + areas * 2 ^ 48)
  else s

/-- HOLD_EXPIRY (R404). -/
def execHoldExpiry (t : Nat) (s : State) : Host.Outcome State Fault Refusal := .next ((s.tick t).expireHold)

/-! ### Health (R409) -/

/-- R409: whether the condition behind a health bit persists. -/
def State.healthPersists (s : State) (bit : Nat) : Bool :=
  match bit with
  | 0 => s.dv 0x280700 != 0
  | 1 => (List.range 48).any (fun r => (s.region r).tripped)
  | 2 => s.twinState == 4
  | 3 => !s.power.landHigh.isEmpty
  | 4 => (List.range 48).any (fun r => decide (0 < (s.region r).failures) || (s.region r).power == 3)
  | 5 => (List.range 32).any (fun p => s.offline p || (s.package p).derate != 0)
  | 6 => (List.range 8).any (fun p => (s.port p).state == 2 && (s.port p).lanes != 0xFF)
  | 7 => s.traek.released && (s.traek.state != 2 || s.traek.width != 16)
  | 10 => s.supplyFault
  | 11 => (List.range 80).any (fun h => (s.spot h).suspectA || (s.spot h).suspectB)
  | 12 => s.dv 0x300400 == 3
  | 14 => s.boot.halted
  | _ => false

/-- The write of 0x1104:00: named bits clear; a condition that persists latches again at once. -/
def State.clearHealth (s : State) (v : Nat) : State × Nat :=
  if 2 ^ 15 ≤ v then (s, St.reservedSetDict)
  else
    let old := s.dv 0x110300
    let s1 := s.setDv 0x110300 (old - (old &&& v))
    (((List.range 15).filter (fun b => (old &&& v).testBit b && s.healthPersists b)).foldl State.latch s1, St.ok)

/-- CLEAR_HEALTH_EVENTS (R409). -/
def execClearHealthEvents (m : Master) (bits : BitVec 32) (s : State) : Host.Outcome State Fault Refusal :=
  .next (s.masterWrite m 0x110400 4 bits.toNat (fun s => s.clearHealth bits.toNat)).1

/-! ### The host event ring (R412) -/

/-- R412: a write of the ring's base or size applies while the ring is idle. -/
def State.ringWrite (s : State) (key v : Nat) : State × Nat :=
  if (key = 0xF04000 ∧ v % 64 ≠ 0) ∨ (key = 0xF04100 ∧ v ≠ 0 ∧ (v < 4 ∨ 12 < v)) then (s, St.reservedSetDict)
  else if s.dv 0xF04200 ≠ s.dv 0xF04300 then (s, St.dictBusy)
  else (s.setDv key v, St.ok)

/-- HOST_EVENT_RING_CONFIG (R412). -/
def execHostEventRingConfig (m : Master) (base : Option (BitVec 64)) (size : Option (BitVec 8)) (s : State) :
    Host.Outcome State Fault Refusal :=
  let s1 := match base with
    | some b => (s.masterWrite m 0xF04000 8 b.toNat (fun s => s.ringWrite 0xF04000 b.toNat)).1
    | none => s
  .next (match size with
    | some b => (s1.masterWrite m 0xF04100 1 b.toNat (fun s => s.ringWrite 0xF04100 b.toNat)).1
    | none => s1)

/-! ### Other registers with an effect -/

/-- The write of 0x6003:00 (R312, R316, R317). -/
def State.twinWrite (s : State) (v : Nat) : State × Nat :=
  if v = 1 then (if s.pairStatus = 0 then s.pairNow else s, s.pairStatus)
  else if v = 2 then (if s.detachStatus = 0 then s.detachNow else s, s.detachStatus)
  else if v = 3 then (if s.releaseStatus = 0 then s.releaseNegative else s, s.releaseStatus)
  else (s, St.reservedSetDict)

/-- The writes of 0x6002:00, 0x6012:00 and 0x6013:00: outside UNPAIRED refused; F + 2H at most 32,768 (R318, R322, R341). -/
def State.pairSetting (s : State) (key v : Nat) : State × Nat :=
  let f := if key = 0x601200 then v else s.dv 0x601200
  let h := if key = 0x601300 then v else s.dv 0x601300
  if s.twinState ≠ 0 then (s, St.twinState)
  else if 32768 < f + 2 * h then (s, St.reservedSetDict)
  else (s.setDv key v, St.ok)

/-- R43, R50, R230: a value that takes effect at the next step boundary. -/
def State.pendWrite (s : State) (key v : Nat) : State × Nat :=
  ({ s with step := { s.step with pend := put none s.step.pend key (some v) } }, St.ok)

/-- The write of 0xF010:00 (R394): 255 turns PLCA off. -/
def State.plcaWrite (s : State) (v : Nat) : State × Nat :=
  ((s.setDv 0xF01000 v).setDv 0xF01500 (natSetFld (s.dv 0xF01500) 0 1 (if v = 255 then 0 else 1)), St.ok)

/-- The fabric windows (R260): bits other than node, base and valid are reserved. -/
def State.windowWrite (s : State) (key v : Nat) : State × Nat :=
  if 2 ^ 25 ≤ v then (s, St.reservedSetDict) else (s.setDv key v, St.ok)

/-- What a write of entry:field by a master does once its right, hold and length allow it: the register's own checks and effect. -/
def State.applyWrite (s : State) (m : Master) (key v : Nat) : State × Nat :=
  let e := key / 256
  if (match writeRange key with | some r => decide (v < r.1 ∨ r.2 < v) | none => false) = true ∨ s.writeFits key v = false then (s, St.reservedSetDict)
  else if key = 0x102000 then s.nonceWrite m (leBytes 32 v)
  else if key = 0x103000 then s.flashCommand v
  else if key = 0x103100 then s.programFlash (leBytes 1024 v)
  else if key = 0x110400 then s.clearHealth v
  else if key = 0x111000 then s.resetWrite v
  else if key = 0x200100 then s.capWriteNow v
  else if key = 0x200700 then ((s.setDv key v).setRail (s.setDv key v).railNeed, St.ok)
  else if key = 0x201200 then s.clearVolt v
  else if key = 0x281600 then s.coolantCommand v
  else if key = 0x300200 then s.timeSourceWrite v
  else if key = 0x401200 ∨ key = 0x800200 then s.pendWrite key v
  else if key = 0x500100 then s.nodeWrite v
  else if e = 0x5002 then s.windowWrite key v
  else if e = 0x5003 ∨ key = 0x503100 then s.agentWrite key v
  else if e = 0x5004 then s.routeWrite key v
  else if key = 0x501A00 then s.retrainWrite v
  else if key = 0x503600 then s.traekCommand v
  else if key = 0x600200 ∨ key = 0x601200 ∨ key = 0x601300 then s.pairSetting key v
  else if key = 0x600300 then s.twinWrite v
  else if key = 0x704000 then s.testCommand v
  else if key = 0xF01000 then s.plcaWrite v
  else if key = 0xF02100 then s.holdKeyWrite m v
  else if key = 0xF04000 ∨ key = 0xF04100 then s.ringWrite key v
  else (s.setDv key v, St.ok)

/-- One item of a WRITE (R389, R390, R404). -/
def State.writeItem (s : State) (m : Master) (key : Nat) (value : List Byte) : State × Nat :=
  s.masterWrite m key value.length (leNat value) (fun s => s.applyWrite m key (leNat value))

end Sys2Proof.Machine
end

