-- ==== Sys2Proof/Machine/Dictionary.lean ====
section
/-!
DEFINITION. Dictionary frames: their acceptance (R393, R399), the request cache (R398), the operations on their items (R396,
R400), and the responses (R395, R397, R401, R402).
-/

namespace Sys2Proof.Machine

/-! ### Bytes of a frame (R395, R397) -/

/-- A list padded with zeros to a multiple of 8. -/
def pad8 (bs : List Byte) : List Byte := bs ++ List.replicate ((8 - bs.length % 8) % 8) 0

/-- The header of a PDU: kind, sequence, operation, flags, items, frame status, fragment, device time. -/
def pduHeader (kind seq op flags count status fragment time : Nat) : List Byte :=
  leBytes 1 1 ++ leBytes 1 kind ++ leBytes 2 seq ++ leBytes 1 op ++ leBytes 1 flags ++ leBytes 2 count ++ leBytes 2 status ++
    leBytes 2 fragment ++ leBytes 4 0 ++ leBytes 8 time

/-- One item of a response or an event. -/
structure Reply where
  entry : Nat
  field : Nat
  status : Nat
  value : List Byte := []
  tag : List Byte := []

/-- The bytes of an item: request form has status 0. -/
def Reply.bytes (r : Reply) : List Byte :=
  leBytes 2 r.entry ++ leBytes 1 r.field ++ leBytes 1 0 ++ leBytes 2 r.value.length ++ leBytes 2 r.status ++ pad8 r.value ++ r.tag

/-- The request PDU of a frame, without its signature (R395). -/
def requestPdu (f : Frame) (op : Nat) : List Byte :=
  leBytes 1 f.version.toNat ++ (pduHeader 1 f.seq.toNat op
    ((if f.signature.isSome then 1 else 0) + (if f.meta' then 2 else 0) + (if f.allOrNothing then 8 else 0)) f.items.length 0 0 0).drop 1 ++
    f.items.flatMap (fun i => Reply.bytes { entry := i.entry.toNat, field := i.field.toNat, status := 0, value := i.value })

/-- R399: the frame signature of a PDU. -/
def State.sign (s : State) (pdu : List Byte) : List Byte := (Config.hmac (leBytes 48 (s.dv 0x904100)) pdu).take 16

/-- A PDU with its signature where it is to be signed. -/
def State.signed (s : State) (sig : Bool) (pdu : List Byte) : List Byte := if sig then pdu ++ s.sign pdu else pdu

/-! ### Items -/

/-- The key of an item. -/
def itemKey (i : Item) : Nat := i.entry.toNat * 256 + i.field.toNat

/-- R392, R397: the tag of an RW-HM field, 16 bytes; default elsewhere. -/
def State.tagBytes (s : State) (key : Nat) : List Byte :=
  let t := look {} s.tags key
  leBytes 1 t.writer ++ leBytes 1 0 ++ leBytes 6 (macNat t.mac) ++ leBytes 8 t.time

/-- R388: the value of a readable entry:field as bytes. -/
def State.valueBytes (s : State) (m : Master) (key : Nat) : List Byte :=
  if isCount key then leBytes 1 (arrayFields (key / 256)) else leBytes (entrySize key) (s.value m key)

/-- The answer for one field: its value where it may be read. -/
def State.replyFor (s : State) (m : Master) (withTag : Bool) (key status : Nat) : Reply :=
  { entry := key / 256, field := key % 256, status := status,
    value := if s.readStatus m key = 0 then s.valueBytes m key else [],
    tag := if withTag then s.tagBytes key else [] }

/-- READ (R396). -/
def State.readItem (s : State) (m : Master) (withTag : Bool) (i : Item) : Reply :=
  s.replyFor m withTag (itemKey i) (s.readStatus m (itemKey i))

/-- BLOCK_READ (R396): one item per field, from the first to the last named. -/
def State.blockItems (s : State) (m : Master) (withTag : Bool) (i : Item) : List Reply :=
  match i.value with
  | [last] =>
    if last.toNat < i.field.toNat then [{ entry := i.entry.toNat, field := i.field.toNat, status := St.reservedSetDict }]
    else (List.range (last.toNat - i.field.toNat + 1)).map (fun k =>
      let key := i.entry.toNat * 256 + i.field.toNat + k
      s.replyFor m withTag key (s.readStatus m key))
  | _ => [{ entry := i.entry.toNat, field := i.field.toNat, status := St.length }]

/-- R396: the items of a WRITE in order, each with its own status. -/
def State.writeItems (m : Master) (withTag : Bool) : State → List Item → State × List Reply
  | s, [] => (s, [])
  | s, i :: is =>
    let r := s.writeItem m (itemKey i) i.value
    let a := r.1.replyFor m withTag (itemKey i) r.2
    let rest := State.writeItems m withTag r.1 is
    (rest.1, a :: rest.2)

/-- R396: all or nothing: every item is checked first, none written if a check fails. The frame status is the first failure. -/
def State.writeAll (s : State) (m : Master) (withTag : Bool) (is : List Item) : State × List Reply × Nat :=
  let sts := is.map (fun i => (i, (s.writeItem m (itemKey i) i.value).2))
  match sts.find? (fun x => refusedStatus x.2) with
  | none => let r := State.writeItems m withTag s is; (r.1, r.2, 0)
  | some x => (s, sts.map (fun y => s.replyFor m withTag (itemKey y.1) (if refusedStatus y.2 then y.2 else 0)), x.2)

/-! ### Subscriptions (R400) -/

/-- Whether two subscribers share their 64 subscriptions: the host, or management (0xF050:00). -/
def sameSide (a b : Master) : Bool := fromHost a == fromHost b

/-- R409: what a subscriber sees change: of 0x1103:00 only the bits of its mask. -/
def State.watched (s : State) (m : Master) (key : Nat) : Nat :=
  let v := s.value m key
  if key = 0x110300 then v &&& s.dv (if fromHost m then 0x110501 else 0x110502) else v

/-- R400: the status of a SUBSCRIBE. -/
def State.subscribeStatus (s : State) (m : Master) (key : Nat) (v : List Byte) : Nat :=
  let n := leNat v
  let old := s.mgmt.subs.any (fun x => x.master == m && x.key == key)
  let periodic := n.testBit 1
  if s.readStatus m key ≠ 0 then s.readStatus m key
  else if v.length ≠ 12 ∨ 48 < entrySize key then St.length
  else if n % 2 ^ 32 = 0 ∨ 4 ≤ n % 2 ^ 32 then St.reservedSetDict
  else if periodic = true ∧ (natFld n 4 4 < 10 ∨ 3600000 < natFld n 4 4) then St.reservedSetDict
  else if 60000 < natFld n 8 4 then St.reservedSetDict
  else if old = false ∧ 64 ≤ (s.mgmt.subs.filter (fun x => sameSide x.master m)).length then St.tooManySubscriptions
  else St.ok

/-- SUBSCRIBE of one item. -/
def State.subscribeItem (s : State) (m : Master) (sig : Bool) (i : Item) : State × Reply :=
  let key := itemKey i
  let st := s.subscribeStatus m key i.value
  let n := leNat i.value
  let a : Reply := { entry := i.entry.toNat, field := i.field.toNat, status := st }
  if st ≠ 0 then (s, a)
  else
    let x : Sub := {
      master := m, key := key, onChange := n.testBit 0, periodic := n.testBit 1, periodMs := natFld n 4 4, spacingMs := natFld n 8 4,
      signed := sig, sentValue := s.watched m key, periodAt := s.now }
    ({ s with mgmt := { s.mgmt with subs := s.mgmt.subs.filter (fun y => !(y.master == m && y.key == key)) ++ [x] } }, a)

/-- UNSUBSCRIBE of one item. -/
def State.unsubscribeItem (s : State) (m : Master) (i : Item) : State × Reply :=
  let key := itemKey i
  let st := if !s.ready then St.starting else if exists' key then St.ok else St.noEntry
  ({ s with mgmt := { s.mgmt with subs := s.mgmt.subs.filter (fun y => !(y.master == m && y.key == key)) } },
    { entry := i.entry.toNat, field := i.field.toNat, status := st })

/-- Items handled one after the other. -/
def State.eachItem (f : State → Item → State × Reply) : State → List Item → State × List Reply
  | s, [] => (s, [])
  | s, i :: is =>
    let r := f s i
    let rest := State.eachItem f r.1 is
    (rest.1, r.2 :: rest.2)

/-! ### Operations (R396) -/

/-- Bytes of a response of some items, with its signature. -/
def responseSize (sig : Bool) (is : List Reply) : Nat :=
  24 + (is.foldl (fun n r => n + r.bytes.length) 0) + (if sig then 16 else 0)

/-- R397: the size a WRITE's response would have if every item were applied. -/
def writeSize (f : Frame) : Nat :=
  24 + (f.items.foldl (fun n i => n + 8 + ceilDiv (entrySize (itemKey i)) 8 * 8 + (if f.meta' then 16 else 0)) 0) +
    (if f.signature.isSome then 16 else 0)

/-- The items of a response and its frame status; `none` where it cannot fit one frame (R397). -/
def State.runOp (s : State) (m : Master) (f : Frame) (op : Nat) : State × Option (List Reply × Nat) :=
  let sig := f.signature.isSome && !fromHost m
  if op = 1 then
    let rs := f.items.map (s.readItem m f.meta')
    if 1500 < responseSize sig rs then (s, none) else (s, some (rs, 0))
  else if op = 2 then
    if 1500 < writeSize f then (s, none)
    else if f.allOrNothing then let r := s.writeAll m f.meta' f.items; (r.1, some (r.2.1, r.2.2))
    else let r := State.writeItems m f.meta' s f.items; (r.1, some (r.2, 0))
  else if op = 3 then (s, some (f.items.flatMap (s.blockItems m f.meta'), 0))
  else if op = 4 then let r := State.eachItem (fun s i => s.subscribeItem m sig i) s f.items; (r.1, some (r.2, 0))
  else if op = 5 then let r := State.eachItem (fun s i => s.unsubscribeItem m i) s f.items; (r.1, some (r.2, 0))
  else (s, none)

/-! ### Responses (R397) -/

/-- Items cut into frames of at most 1,500 bytes: `room` left in the frame `cur` (reversed). -/
def cutItems (full : Nat) : Nat → List Reply → List Reply → List (List Reply)
  | _, cur, [] => [cur.reverse]
  | room, cur, r :: rs =>
    if r.bytes.length ≤ room ∨ cur.isEmpty = true then cutItems full (room - r.bytes.length) (r :: cur) rs
    else cur.reverse :: cutItems full (full - r.bytes.length) [r] rs

/-- The PDUs of a response: fragments share the sequence, all but the last set the more flag. -/
def State.responsePdus (s : State) (f : Frame) (op : Nat) (sig : Bool) (rs : List Reply) (status : Nat) : List (List Byte) :=
  let full := 1500 - 24 - (if sig then 16 else 0)
  let frags := cutItems full full [] rs
  (List.range frags.length).map (fun k =>
    let is := frags.getD k []
    let flags := (if sig then 1 else 0) + (if f.meta' then 2 else 0) + (if k + 1 < frags.length then 4 else 0)
    s.signed sig (pduHeader 2 f.seq.toNat op flags is.length status k s.now ++ is.flatMap Reply.bytes))

/-- R396, R397, R413: what a frame is answered with. -/
def State.answerFrame (s : State) (m : Master) (f : Frame) (op : Nat) : State × List (List Byte) :=
  let sig := f.signature.isSome && !fromHost m
  if f.version ≠ 1 then (s, s.responsePdus f op sig [] St.version)
  else if f.malformed || f.items.any (·.rsvd) then (s, s.responsePdus f op sig [] St.frameMalformed)
  else
    let r := s.runOp m f op
    match r.2 with
    | some x => (r.1, r.1.responsePdus f op sig x.1 x.2)
    | none => (s, s.responsePdus f op sig [] St.frameMalformed)

/-- R398: a request is answered from the cache where its source sent the same one among its last 16. -/
def State.cachedFor (s : State) (m : Master) (f : Frame) (op : Nat) : Option Cached :=
  s.mgmt.cache.find? (fun c => c.master == m && c.seq == f.seq && c.crc == crc64 (requestPdu f op))

/-- R398: the cache with a new request of its source, the last 16 kept; one of the same sequence is replaced. -/
def remember (cache : List Cached) (c : Cached) : List Cached :=
  let mine := (cache.filter (fun x => x.master == c.master && x.seq != c.seq)) ++ [c]
  cache.filter (fun x => x.master != c.master) ++ mine.drop (mine.length - 16)

/-- A request that was accepted: its PDUs, from the cache or executed (R392, R398). -/
def State.serveFrame (s : State) (m : Master) (f : Frame) (op : Nat) : State × List (List Byte) :=
  match s.cachedFor m f op with
  | some c => (s.bump 0xF00800 1, c.response)
  | none =>
    let r := s.answerFrame m f op
    let c : Cached := { master := m, seq := f.seq, crc := crc64 (requestPdu f op), response := r.2 }
    ({ r.1 with mgmt := { r.1.mgmt with cache := remember r.1.mgmt.cache c } }, r.2)

/-! ### The management port (R393, R399) -/

/-- R399, R416: a request dropped for its signature: 1 bad, 2 missing, 3 unexpected. -/
def State.dropSigned (s : State) (mac : BitVec 48) (why : Nat) : State :=
  (s.bump 0xF00702 1).recordOf 0xF001 13 0x30 (macNat mac + why * 2 ^ 48)

/-- R399: why a frame is dropped for its signature, 0 where it passes. -/
def State.signatureFault (s : State) (f : Frame) (op : Nat) : Nat :=
  let mode := s.dv 0xF00300
  match f.signature with
  | some x => if mode = 0 then 3 else if x = s.sign (requestPdu f op) then 0 else 1
  | none => if mode = 2 then 2 else 0

/-- R393: the drop counter of a frame the port does not accept, 0 where it does. -/
def State.portFault (s : State) (f : Frame) (op : Nat) : Nat :=
  if f.tagged ∨ f.etherType.toNat ≠ s.dv 0xF00200 then 3
  else if 1500 < (requestPdu f op).length then 1
  else if f.broadcast ∧ (op ≠ 1 ∨ f.items.any (fun i => decide (i.entry.toNat < 0x1000 ∨ 0x1100 ≤ i.entry.toNat)) = true) then 4
  else 0

/-- R392, R393, R399, R425: a frame on the management port; a port driven by EXTEST takes none. -/
def State.portFrame (s : State) (mac : BitVec 48) (f : Frame) (op : Nat) : State :=
  if s.extestOn then s
  else
    let s1 := s.bump 0xF00500 1
    if s1.portFault f op ≠ 0 then s1.bump (0xF00700 + s1.portFault f op) 1
    else if s1.signatureFault f op ≠ 0 then s1.dropSigned mac (s1.signatureFault f op)
    else
      let r := (s1.renewHold (.mgmt mac)).serveFrame (.mgmt mac) f op
      r.2.foldl (fun x p => (x.send (.dictionary (.mgmt mac) p)).bump 0xF00600 1) r.1

/-- A request frame of a master. -/
def State.frame (s : State) (m : Master) (f : Frame) (op : Nat) : State :=
  match m with
  | .mgmt mac => s.portFrame mac f op
  | .host =>
    let r := s.serveFrame .host f op
    r.2.foldl (fun x p => (x.send (.dictionary .host p)).bump 0xF00600 1) r.1

/-- READ (R396). -/
def execRead (m : Master) (f : Frame) (s : State) : Host.Outcome State Fault Refusal := .next (s.frame m f 1)

/-- WRITE (R396). -/
def execWrite (m : Master) (f : Frame) (s : State) : Host.Outcome State Fault Refusal := .next (s.frame m f 2)

/-- BLOCK_READ (R396). -/
def execBlockRead (m : Master) (f : Frame) (s : State) : Host.Outcome State Fault Refusal := .next (s.frame m f 3)

/-- SUBSCRIBE (R396, R400). -/
def execSubscribe (m : Master) (f : Frame) (s : State) : Host.Outcome State Fault Refusal := .next (s.frame m f 4)

/-- UNSUBSCRIBE (R396, R400). -/
def execUnsubscribe (m : Master) (f : Frame) (s : State) : Host.Outcome State Fault Refusal := .next (s.frame m f 5)

/-! ### The host side (R302, R402) -/

/-- R307, R402: a DICT message through a window with the dictionary attribute is served as a request of the host. -/
def State.hostDict (s : State) (p : Packet) (f : Frame) (op : Nat) : State :=
  match s.traekWindow p.addr.toNat 1 with
  | none => s.nakFault p 3 p.addr.toNat St.addressUnmapped
  | some w =>
    if (natFld w 24 1).testBit 4 then
      let r := s.serveFrame .host f op
      r.2.foldl (fun x d => (x.respond p 0x8C 0 d).bump 0xF00600 1) r.1
    else s.nakFault p 3 p.addr.toNat St.fabricDenied

/-- DICT (R302, R402): `kind` is the operation of the request frame; the fabric carries no DICT. -/
def execDict (p : Packet) (f : Frame) (kind : BitVec 8) (s : State) : Host.Outcome State Fault Refusal :=
  .next (s.arrive p 0x0C (fun s => match p.via with
    | .traek => s.hostDict p f kind.toNat
    | .fabric _ => s.refusePacket p 0x0C St.reservedSet))

/-! ### Events (R400) -/

/-- R400, R306: an event of the host: a 64-byte record into its ring. -/
def State.hostEvent (s : State) (key v : Nat) : State :=
  let n := s.dv 0xF04200
  let size := entrySize key
  let rec' := leBytes 2 (key / 256) ++ leBytes 1 (key % 256) ++ leBytes 1 size ++ leBytes 4 s.mgmt.hostSeq ++ leBytes 8 s.now ++
    (leBytes size v ++ List.replicate 48 0).take 48
  let s1 := (s.storeGlobal (s.dv 0xF04000 + 64 * (n % 2 ^ s.dv 0xF04100)) rec').1
  ({ s1 with mgmt := { s1.mgmt with hostSeq := (s1.mgmt.hostSeq + 1) % 2 ^ 32 } }).setDv 0xF04200 (n + 1)

/-- R395, R399, R400: an event of management: a frame of kind 3 with the MAC's own sequence. -/
def State.portEvent (s : State) (mac : BitVec 48) (sig : Bool) (key v : Nat) : State :=
  let seq := ((s.mgmt.eventSeq.find? (fun (e : BitVec 48 × Nat) => e.1 == mac)).map Prod.snd).getD 0
  let item : Reply := { entry := key / 256, field := key % 256, status := 0, value := leBytes (entrySize key) v }
  let pdu := s.signed sig (pduHeader 3 seq 0 (if sig then 1 else 0) 1 0 0 s.now ++ item.bytes)
  let s1 := { s with mgmt := { s.mgmt with
    eventSeq := s.mgmt.eventSeq.filter (fun (e : BitVec 48 × Nat) => e.1 != mac) ++ [(mac, (seq + 1) % 2 ^ 16)] } }
  s1.send (.dictionary (.mgmt mac) pdu)

/-- R412: whether the host event ring has no room; without a ring there are no host events. -/
def State.ringFull (s : State) : Bool := decide (2 ^ s.dv 0xF04100 ≤ s.dv 0xF04200 - s.dv 0xF04300)
def State.hasRing (s : State) : Bool := s.dv 0xF04000 != 0 && s.dv 0xF04100 != 0

/-- A subscription changed in place. -/
def State.setSub (s : State) (x y : Sub) : State :=
  { s with mgmt := { s.mgmt with subs := s.mgmt.subs.map (fun z => if z == x then y else z) } }

/-- R400: whether the period of a subscription is over. -/
def Sub.periodOver (x : Sub) (now : Nat) : Bool := x.periodic && decide (x.periodAt + 1000000 * x.periodMs ≤ now)

/-- R400: a subscription's event: sent when due and the minimum spacing has passed; else it waits with the latest value. A full
host ring coalesces. -/
def State.offerEvent (s : State) (x : Sub) : State :=
  let v := s.watched x.master x.key
  let passed := x.periodOver s.now
  let due := passed || (x.onChange && v != x.sentValue)
  let y := if passed then { x with periodAt := s.now } else x
  if !due && x.held.isNone then s
  else if x.sent ∧ s.now < x.last + 1000000 * x.spacingMs then s.setSub x { y with held := some (v, s.now) }
  else
    let done := { y with sent := true, last := s.now, sentValue := v, held := none }
    match x.master with
    | .mgmt mac => if s.extestOn then s else (s.setSub x done).portEvent mac x.signed x.key v
    | .host =>
      if !s.hasRing then s.setSub x { y with sentValue := v, held := none }
      else if s.ringFull then
        let again := match x.held with | some h => passed || h.1 != v | none => false
        (s.setSub x { y with held := some (v, s.now) }).bump 0xF04500 (if again then 1 else 0)
      else (s.setSub x done).hostEvent x.key v

/-- SUBSCRIPTION_EVENT (R400). -/
def execSubscriptionEvent (m : Master) (key : BitVec 24) (t : Nat) (s : State) : Host.Outcome State Fault Refusal :=
  let s1 := s.tick t
  .next (match s1.mgmt.subs.find? (fun x => x.master == m && x.key == key.toNat) with
    | some x => s1.offerEvent x
    | none => s1)

end Sys2Proof.Machine
end

