-- ==== Sys2Proof/Machine/Leads.lean ====
section
/-!
DEFINITION. The two safelight controllers: heartbeats, leadership and replay (R405 to R407, R419), and the PLCA of the management
port (R394).
-/

namespace Sys2Proof.Machine

/-! ### Halves (R405) -/

/-- The controller of a half: 0 west, 1 east. -/
def State.half (s : State) (h : Nat) : Half := if h = 0 then s.mgmt.west else s.mgmt.east

/-- The controller of a half changed. -/
def State.onHalf (s : State) (h : Nat) (f : Half → Half) : State :=
  { s with mgmt := if h = 0 then { s.mgmt with west := f s.mgmt.west } else { s.mgmt with east := f s.mgmt.east } }

/-- The leadership record changes: the follower's state, and the device time of the change (R412). -/
def State.setFollower (s : State) (x : Nat) : State := { s with mgmt := { s.mgmt with follower := x, changedAt := s.now } }

/-- R405, R419: a heartbeat heard shows that the link between the halves carries traffic; records held on the east half reach the
lead. -/
def State.linkBack (s : State) : State :=
  if s.mgmt.linkUp then s else ({ s with mgmt := { s.mgmt with linkUp := true } }).deliverEast

/-- R405, R406: a controller's heartbeat reaches the other half: its epoch, its lead flag, and the last write it applied, which
acknowledges the lead's writes. -/
def State.heartbeatFrom (s : State) (h : Nat) : State :=
  let me := s.half h
  let s1 := (s.onHalf h (fun x => { x with sentAt := s.now })).onHalf (1 - h) (fun x =>
    { x with heard := s.now, epoch := if x.lead then x.epoch else max x.epoch me.epoch })
  let s2 := if me.lead then s1 else { s1 with mgmt := { s1.mgmt with ackWait := none } }
  s2.linkBack

/-- SAFELIGHT_HEARTBEAT (R405): every 1 ms. -/
def execSafelightHeartbeat (half : Fin 2) (t : Nat) (s : State) : Host.Outcome State Fault Refusal :=
  let s1 := s.tick t
  let x := s1.half half
  .next (if x.alive ∧ (x.sentAt = 0 ∨ x.sentAt + 1000000 ≤ s1.now) then s1.heartbeatFrom half else s1)

/-- R405: 3 ms without a heartbeat: a follower takes the lead with an epoch one above the highest it has seen; a lead marks the
follower absent. -/
def State.missHeartbeats (s : State) (h : Nat) : State :=
  let x := s.half h
  let s0 : State := { s with mgmt := { s.mgmt with linkUp := false } }
  if x.lead then { s0.setFollower 2 with mgmt := { (s0.setFollower 2).mgmt with ackWait := none } }
  else ((s0.onHalf h (fun x => { x with lead := true, epoch := x.epoch + 1 })).setFollower 2).bump 0xF03100 1

/-- LEADERSHIP_CLAIM (R405). -/
def execLeadershipClaim (half : Fin 2) (t : Nat) (s : State) : Host.Outcome State Fault Refusal :=
  let s1 := s.tick t
  let x := s1.half half
  .next (if x.alive ∧ x.heard + 3000000 ≤ s1.now ∧ ¬(x.lead ∧ s1.mgmt.follower = 2) then s1.missHeartbeats half else s1)

/-! ### Two leads (R407) -/

/-- R407: one write replayed at the winner under the rights and holds in force there, with its original tag. A write older than
the winner's own write to the field is skipped. -/
def State.replayWrite (s : State) (own : List LoneWrite) (w : LoneWrite) : State × Nat :=
  let st := s.writeStatus w.master w.key (entrySize w.key)
  if own.any (fun x => x.key == w.key && decide (w.time < x.time)) ∨ st ≠ 0 then (s, 0)
  else
    let r := s.applyWrite w.master w.key w.value
    if refusedStatus r.2 then (s, 0)
    else
      let tag : WriterTag := match w.master with
        | .host => { writer := 1, time := w.time }
        | .mgmt mac => { writer := 2, mac := mac, time := w.time }
      (if rightOf w.key == .rwHM then { r.1 with tags := put {} r.1.tags w.key tag } else r.1, 1)

/-- R407: all of them in device-time order; the state, and how many applied. -/
def State.replayAll (s : State) (own ws : List LoneWrite) : State × Nat :=
  ws.foldl (fun x w => let r := x.1.replayWrite own w; (r.1, x.2 + r.2)) (s, 0)

/-- R407, R416: the loser becomes follower, its writes are replayed, and it copies the winner's image. -/
def State.resolveLeads (s : State) : State :=
  let win := if s.mgmt.west.epoch < s.mgmt.east.epoch then 1 else 0
  let (w, l) := (s.half win, s.half (1 - win))
  let s1 := s.onHalf (1 - win) (fun x => { x with lead := false })
  let r := s1.replayAll w.lone l.lone
  let s2 := (r.1.bump 0xF03200 r.2).bump 0xF03100 1
  let s3 := s2.recordOf 0xF003 13 0x30 (w.epoch % 2 ^ 32 + l.epoch % 2 ^ 32 * 2 ^ 32 + win * 2 ^ 64 + r.2 % 2 ^ 32 * 2 ^ 96)
  ((s3.onHalf win (fun x => { x with lone := [] })).onHalf (1 - win) (fun x => { x with lone := [], epoch := w.epoch })).setFollower 0

/-- LEADERSHIP_CONFLICT (R407). -/
def execLeadershipConflict (t : Nat) (s : State) : Host.Outcome State Fault Refusal :=
  let s1 := s.tick t
  .next (if s1.mgmt.west.lead ∧ s1.mgmt.east.lead ∧ s1.mgmt.linkUp then s1.resolveLeads else s1)

/-! ### The follower (R406) -/

/-- FOLLOWER_STALE (R406): the lead waited 1 ms for an acknowledgement. -/
def execFollowerStale (t : Nat) (s : State) : Host.Outcome State Fault Refusal :=
  let s1 := s.tick t
  .next (match s1.mgmt.ackWait with
    | some a => if a + 1000000 ≤ s1.now then ({ s1 with mgmt := { s1.mgmt with ackWait := none } }).setFollower 1 else s1
    | none => s1)

/-- FOLLOWER_RESYNC (R406): the follower copies the lead's whole image and counts as present. -/
def execFollowerResync (t : Nat) (s : State) : Host.Outcome State Fault Refusal :=
  let s1 := s.tick t
  let m := s1.mgmt
  .next (if m.follower ≠ 0 ∧ m.linkUp ∧ m.west.alive ∧ m.east.alive ∧ ((m.west.lead || m.east.lead) && !(m.west.lead && m.east.lead)) then
      ((s1.onHalf 0 (fun x => { x with lone := [] })).onHalf 1 (fun x => { x with lone := [] })).setFollower 0
    else s1)

/-! ### PLCA (R394) -/

/-- PLCA_FALLBACK (R394): no beacon for 4 beacon periods; the coordinator sends the beacons itself. -/
def execPlcaFallback (periodNs : Nat) (t : Nat) (s : State) : Host.Outcome State Fault Refusal :=
  let s1 := s.tick t
  let id := s1.dv 0xF01000
  .next (if id ≠ 255 ∧ id ≠ 0 ∧ natFld (s1.dv 0xF01500) 0 1 = 1 ∧ s1.mgmt.beaconAt + 4 * periodNs ≤ s1.now then
      s1.setDv 0xF01500 (natSetFld (s1.dv 0xF01500) 0 1 2)
    else s1)

/-- BEACON (R394): the port is back on PLCA; a coordinator, or a port with PLCA off, did not expect it. -/
def execBeacon (t : Nat) (s : State) : Host.Outcome State Fault Refusal :=
  let s1 := s.tick t
  let id := s1.dv 0xF01000
  let s2 : State := { s1 with mgmt := { s1.mgmt with beaconAt := s1.now } }
  let v := s2.dv 0xF01500
  .next (s2.setDv 0xF01500 (if id ≠ 255 ∧ id ≠ 0 then natSetFld v 0 1 1 else natSetFld v 4 4 (natFld v 4 4 + 1)))

end Sys2Proof.Machine
end

