-- ==== Sys2Proof/Machine/MemoryRows.lean ====
section
/-!
DEFINITION. Rows of the memory system that let streams go on: channels (R217, R218), the write-combining buffer and the adders'
ingress (R222, R223), patrol scrub (R212) and self-refresh of a critical package (R227).
-/

namespace Sys2Proof.Machine

/-- R217, R222, R226, R227: collective packets that wait at a memory's ingress go on, or are answered. -/
def State.resumeCols (s : State) : State := if s.parked.isEmpty then s else s.retryCols.goOnCol

/-- CHANNEL_ADMIT (R217). -/
def execChannelAdmit (ch : Fin 128) (t : Nat) (s : State) : Host.Outcome State Fault Refusal := .next ((s.tick t).admitOne ch)

/-- R217, R218: a request is issued, which makes room at the controller: transfers that wait there go on. Nothing is issued in a
coolant stop (R382); a request issued at its ceiling is counted. -/
def State.issueAt (s : State) (ch : Nat) (q : ChanReq) (starved : Bool) (reads : List LineRead) : State :=
  if s.cooling.stopped then s
  else ((if starved then s.bump 0x400600 1 else s).issueReq ch q reads).runTransfers.resumeCols

/-- CHANNEL_REQUEST (R218): the oldest request, or a younger one that hits an open row (`pick`); a starved one goes first. -/
def execChannelRequest (ch : Fin 128) (pick : Nat) (reads : List LineRead) (t : Nat) (s : State) :
    Host.Outcome State Fault Refusal :=
  let s1 := s.tick t
  let c := s1.channel ch
  .next (match c.starved s1.now with
    | some q => s1.issueAt ch q true reads
    | none => match c.admitted[pick]?, c.admitted.head? with
      | some q, _ => s1.issueAt ch q false reads
      | none, some q => s1.issueAt ch q false reads
      | none, none => s1)

/-- STARVATION_CEILING (R218). -/
def execStarvationCeiling (ch : Fin 128) (reads : List LineRead) (t : Nat) (s : State) : Host.Outcome State Fault Refusal :=
  let s1 := s.tick t
  .next (match (s1.channel ch).starved s1.now with
    | some q => s1.issueAt ch q true reads
    | none => s1)

/-- WC_ADMIT (R223). -/
def execWcAdmit (ch : Fin 128) (t : Nat) (s : State) : Host.Outcome State Fault Refusal :=
  let s1 := s.tick t
  .next ((s1.admitPartial ch (s1.channel ch).storeOrder).retryLines).goOn

/-- ADDER_ADMIT (R222). -/
def execAdderAdmit (ch : Fin 128) (t : Nat) (s : State) : Host.Outcome State Fault Refusal :=
  let s1 := s.tick t
  .next ((s1.admitAdd ch (s1.channel ch).adderOrder).retryLines).goOn

/-- R212: whether patrol scrub may read a line of a channel: nothing else waits there (its priority is the lowest), the package
admits requests (R227), and a new pass begins no sooner than the interval (0x400A:00, in s) after the last one began. -/
def State.mayScrub (s : State) (ch : Nat) : Bool :=
  let c := s.channel ch
  s.chanServes ch && (s.package (ch / 4)).derate != 3 && c.admitted.isEmpty && c.ingress.isEmpty && c.adderWait.isEmpty &&
    c.wcWait.isEmpty &&
    (c.patrolNext != 0 || (match c.patrolSince with | some t => decide (t + s.dv 0x400A00 * 1000000000 ≤ s.now) | none => true))

/-- PATROL_SCRUB (R212): the next line of the channel is read. -/
def execPatrolScrub (ch : Fin 128) (r : LineRead) (t : Nat) (s : State) : Host.Outcome State Fault Refusal :=
  let s1 := s.tick t
  .next (
    if s1.mayScrub ch then
      let c := s1.channel ch
      let s2 := s1.setChannel ch { c with
        patrolNext := (c.patrolNext + 1) % 2 ^ 28, patrolSince := if c.patrolNext = 0 then some s1.now else c.patrolSince }
      (s2.wakeChannel ch).decodeLine (chanAddr ch (64 * c.patrolNext)) r
    else s1)

/-- CRITICAL_SELF_REFRESH (R227). -/
def execCriticalSelfRefresh (p : Fin 32) (t : Nat) (s : State) : Host.Outcome State Fault Refusal :=
  let s1 := s.tick t
  let k := s1.package p
  .next (match k.critSince with
    | some c => if k.derate = 3 && !k.critical && !k.offline && decide (c + 1000000000 ≤ s1.now) then (s1.enterCritical p).resumeCols else s1
    | none => s1)

/-- ADDER_WRITE_BACK (R221, R222). -/
def execAdderWriteBack (ch : Fin 128) (t : Nat) (s : State) : Host.Outcome State Fault Refusal :=
  .next (((s.tick t).writeBackEntries ch).runTransfers).resumeCols

/-- STAGING_FRAME_GRANT (R69). -/
def execStagingFrameGrant (t : Nat) (s : State) : Host.Outcome State Fault Refusal :=
  let s1 := s.tick t
  .next (((s1.grantStaging s1.stageWait).runTransfers).runEngines).settled.resumeCols

/-- DERATING_EXIT (R225). -/
def execDeratingExit (p : Fin 32) (t : Nat) (s : State) : Host.Outcome State Fault Refusal :=
  let s1 := s.tick t
  .next (if s1.mayExitDerate p then (s1.exitDerate p).resumeCols else s1)

end Sys2Proof.Machine
end

