-- ==== Sys2Proof/Machine/Startup.lean ====
section
/-!
DEFINITION. Start-up (R446): ROM, FLASH, STAGE1, CORE_RAMP, TEST, MEMORY, PROTECT and LINKS; the choice of flash slots (R438,
R439), boot test and the mapping of spares (R426, R429), and the configuration (R443, R444).
-/

namespace Sys2Proof.Machine

/-- R446: a start-up state is entered. -/
def State.enterBoot (s : State) (st : Nat) : State := s.onBoot (fun b => { b with state := st, since := s.now })

/-- A row of start-up acts in its own state. -/
def State.inBoot (s : State) (st : Nat) (f : State → State) : State := if s.boot.state = st then f s else s

/-! ### ROM (R405) -/

/-- R405: west takes the lead with epoch 1, or east where west failed its self-test. -/
def State.romDone (s : State) (westPasses : Bool) : State :=
  let base : Half := { heard := s.now }
  ({ s with mgmt := { s.mgmt with
      west := { base with alive := westPasses, lead := westPasses, epoch := 1 },
      east := { base with alive := true, lead := !westPasses, epoch := 1 },
      linkUp := true, ackWait := none, follower := if westPasses then 0 else 2, changedAt := s.now } }).enterBoot 1

/-- ROM (R446). -/
def execRom (westPasses : Bool) (t : Nat) (s : State) : Host.Outcome State Fault Refusal :=
  .next ((s.tick t).inBoot 0 (fun s => s.romDone westPasses))

/-! ### FLASH (R438, R439) -/

/-- R439: the valid slot with the higher version, A on equal versions: 0 A, 1 B, 2 none; by the results of their checks. -/
def chooseSlot (a b : Block) (ra rb : Nat) : Nat :=
  match ra, rb with
  | 0, 0 => if a.version < b.version then 1 else 0
  | 0, _ => 0
  | _, 0 => 1
  | _, _ => 2

/-- A digest as a field of 48 bytes. -/
def digest48 (b : List Byte) : List Byte := (b ++ List.replicate 48 0).take 48

/-- R446: FLASH_FAIL: EXTEST reaches the xSPI lands, the core rail stays off. -/
def State.flashFail (s : State) : State := (s.setDv 0x905000 (s.dv 0x905000 ||| 1)).enterBoot 0xE

/-- R439, R450: the slots are chosen, counters raised and stage-one is loaded. -/
def State.flashDone (s : State) (f : FlashScan) : State :=
  let (ca, cb, sa, sb) := (s.flashBlock 1 f.configA, s.flashBlock 2 f.configB, s.flashBlock 3 f.stageA, s.flashBlock 4 f.stageB)
  let (rca, rcb, rsa, rsb) := (s.blockResult 1 ca, s.blockResult 2 cb, s.blockResult 3 sa, s.blockResult 4 sb)
  let stage := chooseSlot sa sb rsa rsb
  let conf := chooseSlot ca cb rca rcb
  let s1 := s.setDv 0x100A00 ((if stage = 1 then 1 else 0) + (if conf = 1 then 2 else 0) + (if conf = 2 then 4 else 0) +
    rsa * 2 ^ 8 + rsb * 2 ^ 16 + rca * 2 ^ 24 + rcb * 2 ^ 32)
  let confBlock := if conf = 1 then cb else ca
  let s2 := s1.onBoot (fun b => { b with
    config := conf, configDigest := if conf = 2 then [] else digest48 confBlock.digest,
    fuseConfig := if conf = 2 then b.fuseConfig else max b.fuseConfig confBlock.rollback })
  if stage = 2 then s2.flashFail
  else
    let block := if stage = 1 then sb else sa
    (((s2.onBoot (fun b => { b with
        stageB := stage == 1, stageDigest := digest48 block.digest, fuseStage := max b.fuseStage block.rollback })).setDv
      0x100700 block.version).setDv 0x100800 (leNat (digest48 block.digest))).enterBoot 2

/-- FLASH (R446). -/
def execFlash (f : FlashScan) (t : Nat) (s : State) : Host.Outcome State Fault Refusal :=
  .next ((s.tick t).inBoot 1 (fun s => s.flashDone f))

/-! ### STAGE1 and CORE_RAMP -/

/-- R446: CORE_FAIL: the core rail is commanded off and the module halts. -/
def State.coreFail (s : State) : State :=
  let s1 := (s.onPower (fun p => { p with setpoint := 0 })).send (.railVoltage 0)
  s1.halt.enterBoot 0xF

/-- R356, R358: the identity of the power module, three names of 20 bytes; unreadable is recorded. -/
def State.pmbusIdentity (s : State) : Option (List Byte) → State
  | some b => s.setDv 0x203000 (leNat (b.take 60))
  | none => s.supplyRecord 5

/-- R455: a board rail is out of its range. -/
def State.railsBad (s : State) : Bool := s.boot.railOut.any (fun e => e.2.isSome)

/-- R446, R455: with AVSBus contact and the board rails in range, the identities are read and the core rail is commanded to
0.55 V plus headroom; after 20 ms without, CORE_FAIL. -/
def State.stage1 (s : State) (avsReply : Bool) (identity : Option (List Byte)) (feed : List Byte) : State :=
  if avsReply && !s.railsBad then
    let s1 := (s.pmbusIdentity identity).pmbusFeed feed
    (s1.setRail (550 + s1.dv 0x200700)).enterBoot 3
  else if s.boot.since + 20000000 ≤ s.now then s.coreFail
  else s

/-- STAGE1 (R446). -/
def execStage1 (avsReply : Bool) (identity : Option (List Byte)) (feed : List Byte) (t : Nat) (s : State) :
    Host.Outcome State Fault Refusal :=
  .next ((s.tick t).inBoot 2 (fun s => s.stage1 avsReply identity feed))

/-- R357, R380, R446: power-up: every region runs at OP4 under the guard band, with thermal limits at OP4. -/
def State.powerUp (s : State) : State :=
  let s1 := (s.setDv 0x110800 s.now).setDv 0x300B00 1
  let on : Region := { power := 0, point := 4, thermal := 4, margin := 20, idleSince := s.now }
  ((List.range 48).foldl (fun x r => x.setRegion r on) s1).enterBoot 4

/-- CORE_RAMP (R446). -/
def execCoreRamp (reached : Bool) (t : Nat) (s : State) : Host.Outcome State Fault Refusal :=
  .next ((s.tick t).inBoot 3 (fun s => if reached then s.powerUp else s.coreFail))

/-! ### TEST (R426, R429) -/

/-- The positions of a half's own clusters by name. -/
def namePosition (c : Nat) : Nat := if c < 16 then c else 16 + c

/-- Whether a physical position failed boot test. -/
def positionFails (runs : List (Fin 49 × TestRun)) (p : Nat) : Bool := runs.any (fun x => x.1.val == p && (runFails x.2).isSome)

/-- R429: of the names of a half whose clusters failed, the one its spare serves: a direct-access name first, else the lowest. -/
def spareServes (runs : List (Fin 49 × TestRun)) (east : Bool) : Option Nat :=
  let names := ((List.range 16).map (fun k => if east then 16 + k else k)).filter (fun c => positionFails runs (namePosition c))
  if positionFails runs (if east then 0x30 else 0x10) then none
  else match names.find? (fun c => c % 8 == 0) with
    | some c => some c
    | none => names.head?

/-- R429, R430: the name of a cluster: its own position, the spare of its half, or absent. Its region is then gated. -/
def State.mapCluster (s : State) (runs : List (Fin 49 × TestRun)) (c : Nat) : State :=
  if !positionFails runs (namePosition c) then s
  else if spareServes runs (decide (16 ≤ c)) = some c then
    s.onCluster c (fun k => { k with physical := some (if c < 16 then 0x10 else 0x30) })
  else (s.onCluster c (fun k => { k with state := 3 })).onRegion c (fun x => { x with power := 1, gatedSince := s.now })

/-- R426, R416: the records of boot test at one position, in its cluster's region, and the kernels of the cluster's name. -/
def State.bootRun (s : State) (p : Nat) (r : TestRun) : State :=
  let s1 := match (List.range 32).find? (fun c => s.position c == p) with
    | some c => s.kernels c r.kernel
    | none => s.kernelRecords ((List.range 32).find? (fun c => namePosition c == p)) p r.kernel
  let region := ((List.range 32).find? (fun c => namePosition c == p)).getD 0x30
  match runFails r with
  | some u => s1.testFail 1 region p r.pattern.toNat u
  | none => s1

/-- R433: boot test result: the failing positions and the number of failing patterns. -/
def testResult (runs : List (Fin 49 × TestRun)) : Nat :=
  (List.range 49).foldl (fun n p => n + (if positionFails runs p then 2 ^ p else 0)) 0 +
    (runs.filter (fun x => (runFails x.2).isSome)).length % 65536 * 2 ^ 64

/-- R446: scratchpads, queue table and counters written to zero with valid check bits. -/
def State.zeroOnDie (s : State) : State :=
  { s.clearRange 0x100000000000 0x40000000 with queues := [], counters := [], ingress := [], bankLast := [] }

/-- R446: boot test, spare mapping and land-group calibration; the module halts when no cluster is left (R431). -/
def State.bootTest (s : State) (runs : List (Fin 49 × TestRun)) (regions : List (Fin 48 × TestRun)) (calibration : List (BitVec 32)) :
    State :=
  let s1 := (List.range 32).foldl (fun x c => x.mapCluster runs c) s.zeroOnDie
  let s2 := runs.foldl (fun x r => x.bootRun r.1 r.2) s1
  let s3 := regions.foldl (fun (x : State) r => match runFails r.2 with
    | some u => x.testFail 1 r.1 r.1 r.2.pattern.toNat u
    | none => x) s2
  let s4 := (List.zip (List.range 64) calibration).foldl (fun (x : State) e => x.setDv (0x201601 + e.1) e.2.toNat)
    (s3.setDv 0x701200 (testResult runs))
  (if (List.range 32).any s4.enabled then s4 else s4.halt).enterBoot 5

/-- TEST (R446). -/
def execTest (runs : List (Fin 49 × TestRun)) (regions : List (Fin 48 × TestRun)) (calibration : List (BitVec 32)) (t : Nat) (s : State) :
    Host.Outcome State Fault Refusal :=
  .next ((s.tick t).inBoot 4 (fun s => s.bootTest runs regions calibration))

/-! ### MEMORY (R206, R190) -/

/-- R206: the trained rate of a channel, in Mb/s; a channel that fails every bin is out of service with its package. -/
def State.trainChannel (s : State) (c rate : Nat) : State :=
  let s1 := s.setDv (0x401101 + c) (rate % 65536)
  if rate = 0 then (s1.onChannel c (fun k => { k with failed := true })).takeOffline (c / 4) c 1 else s1

/-- R446: every channel trains, every frame is marked unscrubbed; a channel the list does not name trains at 14.4 Gb/s. -/
def State.trainMemory (s : State) (rates : List Nat) : State :=
  let s1 := (List.range 128).foldl (fun x c => x.trainChannel c (rates.getD c 14400)) s
  ({ s1 with alloc := { s1.alloc with scrubbed := [], dirty := [] } }).enterBoot 6

/-- MEMORY (R446). -/
def execMemory (rates : List Nat) (t : Nat) (s : State) : Host.Outcome State Fault Refusal :=
  .next ((s.tick t).inBoot 5 (fun s => s.trainMemory rates))

/-! ### PROTECT (R443, R444) -/

/-- The reserved bits and the ranges of the fields of the protection set (R263, R306, R307, R391, R399, R425, R445). -/
def protectFits (key v : Nat) : Bool :=
  match key / 256 with
  | 0x9002 => natFld v 0 8 % 2 ^ 21 == 0 && natFld v 8 8 % 2 ^ 21 == 0 && (natFld v 16 1 &&& 0x70) == 0 && natFld v 17 15 == 0
  | 0x9010 => (natFld v 4 1 &&& 0x70) == 0 && natFld v 5 3 == 0
  | 0x9020 => natFld v 4 6 % 2 ^ 21 == 0 && natFld v 10 6 % 2 ^ 21 == 0
  | 0x9030 => natFld v 0 8 % 2 ^ 21 == 0 && natFld v 8 8 % 2 ^ 21 == 0 && (natFld v 24 1 &&& 0x60) == 0 && natFld v 25 7 == 0
  | 0x9031 => natFld v 0 8 % 4096 == 0 && natFld v 8 8 % 4096 == 0
  | 0x9032 => v % 2 ^ 21 == 0
  | 0x9050 => decide (v < 2)
  | 0xF003 => decide (v ≤ 2)
  | _ => true

/-- R443: whether the configuration may set a field: a WB field but the key digests and the fuses, or a field a master writes. -/
def configurable (key : Nat) : Bool :=
  exists' key && !isCount key && !([0x9003, 0x9004] : List Nat).contains (key / 256) &&
    (match rightOf key with | .ro => false | .wo => false | _ => true)

/-- R443: one item of the configuration: the value, or skipped and counted in 0x100A:00. -/
def State.configItem (s : State) (i : Item) : State :=
  let key := i.entry.toNat * 256 + i.field.toNat
  let v := leNat i.value
  let skip := s.setDv 0x100A00 (natSetFld (s.dv 0x100A00) 8 2 (natFld (s.dv 0x100A00) 8 2 + 1))
  if i.rsvd ∨ configurable key = false ∨ i.value.length ≠ entrySize key ∨ protectFits key v = false then skip
  else if rightOf key = .wb then s.setDv key v
  else
    let r := s.applyWrite .host key v
    if refusedStatus r.2 then skip
    else
      let s1 := if key = 0x401200 ∨ key = 0x800200 then s.setDv key v else r.1
      if rightOf key = .rwHM then { s1 with tags := put {} s1.tags key { writer := 3, time := s1.now } } else s1

/-- One Traek window entry (R307). -/
def windowEntry (base size mod attr : Nat) : Nat := base % 2 ^ 64 + size * 2 ^ 64 + mod * 2 ^ 128 + attr * 2 ^ 192

/-- R308: the standard Traek window map over the companion base. -/
def State.standardMap (s : State) (b : Nat) : State :=
  let t := 2 ^ 40
  let ws := [windowEntry b (2 * t) 0 0x8F, windowEntry (b + 2 * t) (2 * t) 0x20000000000 0x87,
    windowEntry (b + 4 * t) (64 * 2 ^ 20) 0x200000000000 0x8B, windowEntry (b + 4 * t + 64 * 2 ^ 20) (2 * 2 ^ 20) 0x210000000000 0x87,
    windowEntry (b + 4 * t + 128 * 2 ^ 20) (2 ^ 30) 0x300040000000 0x81, windowEntry (b + 4 * t + 2 ^ 31) (2 * 2 ^ 20) 0 0x90]
  (List.zip (List.range 6) ws).foldl (fun (x : State) e => x.setDv (0x903001 + e.1) e.2) s

/-- R308, R443: without a window item the standard map is written where there is a companion base. -/
def State.defaultWindows (s : State) (config : List Item) : State :=
  if s.dv 0x903200 = 0 ∨ config.any (fun i => i.entry == 0x9030) = true then s else s.standardMap (s.dv 0x903200)

/-- R443, R444: the configuration is applied in the order of its items, and the set is locked. -/
def State.protect (s : State) (config : List Item) : State :=
  let items := if s.boot.config = 2 then [] else config
  let s1 := (items.foldl State.configItem s).defaultWindows items
  (s1.setDv 0x900100 1).enterBoot 7

/-- PROTECT (R446). -/
def execProtect (config : List Item) (t : Nat) (s : State) : Host.Outcome State Fault Refusal :=
  .next ((s.tick t).inBoot 6 (fun s => s.protect config))

/-! ### LINKS -/

/-- R256, R297, R446: the Traek link and the fabric ports are released to train; a port or link of a dark region stays down. -/
def State.releaseLinks (s : State) : State :=
  let s1 := (List.range 8).foldl (fun x p =>
    if (x.region (portRegion p)).power = 3 ∨ (x.port p).state ≠ 0 then x else x.onPort p (fun r => { r with state := 1 })) s
  { s1 with traek := { s1.traek with
      released := true, state := if s1.traek.state = 0 ∧ (s1.region 46).power ≠ 3 then 1 else s1.traek.state } }

/-- R446: LINKS begins by releasing the links, and ends in READY when the Traek link is UP or DOWN. -/
def State.links (s : State) : State :=
  let s1 := if s.traek.released then s else s.releaseLinks
  if s1.traek.state = 1 ∨ s1.traek.state = 3 then s1 else s1.enterBoot 8

/-- LINKS (R446): offered once when the state begins, and when the Traek link has trained or not. -/
def execLinks (t : Nat) (s : State) : Host.Outcome State Fault Refusal := .next ((s.tick t).inBoot 7 State.links)

end Sys2Proof.Machine
end

