-- ==== Sys2Proof/Machine/Dispatch.lean ====
section
/-!
DEFINITION. The dispatch: one arm per command, each a direct call of that command's meaning.
-/

namespace Sys2Proof.Machine

def exec (i : Instr) (s : State) : Host.Outcome State Fault Refusal :=
  match i with
  | .endCmd q c => Sys2Proof.Machine.execEndCmd q c s
  | .fence q c => Sys2Proof.Machine.execFence q c s
  | .waitCounter q c => Sys2Proof.Machine.execWaitCounter q c s
  | .waitCounterTimeout q t => Sys2Proof.Machine.execWaitCounterTimeout q t s
  | .signalCounter q c => Sys2Proof.Machine.execSignalCounter q c s
  | .branchIfSummary q c => Sys2Proof.Machine.execBranchIfSummary q c s
  | .loop q c => Sys2Proof.Machine.execLoop q c s
  | .call q c => Sys2Proof.Machine.execCall q c s
  | .tensorCreate q c hostDesc => Sys2Proof.Machine.execTensorCreate q c hostDesc s
  | .tensorFree q c => Sys2Proof.Machine.execTensorFree q c s
  | .tensorAttr q c => Sys2Proof.Machine.execTensorAttr q c s
  | .matmul q c => Sys2Proof.Machine.execMatmul q c s
  | .vector q c => Sys2Proof.Machine.execVector q c s
  | .update q c => Sys2Proof.Machine.execUpdate q c s
  | .updateVerdictAction q id => Sys2Proof.Machine.execUpdateVerdictAction q id s
  | .copy q c => Sys2Proof.Machine.execCopy q c s
  | .add q c => Sys2Proof.Machine.execAdd q c s
  | .fill q c => Sys2Proof.Machine.execFill q c s
  | .transferReadback q id t => Sys2Proof.Machine.execTransferReadback q id t s
  | .transferRemoteSignal q id => Sys2Proof.Machine.execTransferRemoteSignal q id s
  | .reduce q c => Sys2Proof.Machine.execReduce q c s
  | .allReduce q c => Sys2Proof.Machine.execAllReduce q c s
  | .reduceScatter q c => Sys2Proof.Machine.execReduceScatter q c s
  | .allGather q c => Sys2Proof.Machine.execAllGather q c s
  | .broadcast q c => Sys2Proof.Machine.execBroadcast q c s
  | .stopBath q c => Sys2Proof.Machine.execStopBath q c s
  | .release q c => Sys2Proof.Machine.execRelease q c s
  | .sheet q c => Sys2Proof.Machine.execSheet q c s
  | .sheetAbort q c => Sys2Proof.Machine.execSheetAbort q c s
  | .restore q c source => Sys2Proof.Machine.execRestore q c source s
  | .commandComplete q id => Sys2Proof.Machine.execCommandComplete q id s
  | .watchLineStore q offset bytes => Sys2Proof.Machine.execWatchLineStore q offset bytes s
  | .queueEnable q => Sys2Proof.Machine.execQueueEnable q s
  | .queueDisable q => Sys2Proof.Machine.execQueueDisable q s
  | .listStart q host => Sys2Proof.Machine.execListStart q host s
  | .queueRehome q => Sys2Proof.Machine.execQueueRehome q s
  | .tileDispatch t => Sys2Proof.Machine.execTileDispatch t s
  | .dispatchAgeCeiling t => Sys2Proof.Machine.execDispatchAgeCeiling t s
  | .pagerFetchArrival c => Sys2Proof.Machine.execPagerFetchArrival c s
  | .tileFinish c a => Sys2Proof.Machine.execTileFinish c a s
  | .finishedTileAdmit c => Sys2Proof.Machine.execFinishedTileAdmit c s
  | .epilogue c => Sys2Proof.Machine.execEpilogue c s
  | .transactionGrant c t => Sys2Proof.Machine.execTransactionGrant c t s
  | .scratchPageGrant c t => Sys2Proof.Machine.execScratchPageGrant c t s
  | .transferChannelGrant c t => Sys2Proof.Machine.execTransferChannelGrant c t s
  | .apertureRelease c ch t => Sys2Proof.Machine.execApertureRelease c ch t s
  | .scrub p frames => Sys2Proof.Machine.execScrub p frames s
  | .channelAdmit ch t => Sys2Proof.Machine.execChannelAdmit ch t s
  | .channelRequest ch pick reads t => Sys2Proof.Machine.execChannelRequest ch pick reads t s
  | .starvationCeiling ch reads t => Sys2Proof.Machine.execStarvationCeiling ch reads t s
  | .adderOperation o t => Sys2Proof.Machine.execAdderOperation o t s
  | .adderAdmit ch t => Sys2Proof.Machine.execAdderAdmit ch t s
  | .adderWriteBack ch t => Sys2Proof.Machine.execAdderWriteBack ch t s
  | .stagingFrameGrant t => Sys2Proof.Machine.execStagingFrameGrant t s
  | .wcPartialStore addr mask data t => Sys2Proof.Machine.execWcPartialStore addr mask data t s
  | .wcAdmit ch t => Sys2Proof.Machine.execWcAdmit ch t s
  | .wcRetireTimeout ch r t => Sys2Proof.Machine.execWcRetireTimeout ch r t s
  | .patrolScrub ch r t => Sys2Proof.Machine.execPatrolScrub ch r t s
  | .refresh ch => Sys2Proof.Machine.execRefresh ch s
  | .channelPowerDown ch t => Sys2Proof.Machine.execChannelPowerDown ch t s
  | .temperatureReadout p celsius t => Sys2Proof.Machine.execTemperatureReadout p celsius t s
  | .deratingExit p t => Sys2Proof.Machine.execDeratingExit p t s
  | .criticalSelfRefresh p t => Sys2Proof.Machine.execCriticalSelfRefresh p t s
  | .epochClose handle => Sys2Proof.Machine.execEpochClose handle s
  | .stepBoundary => Sys2Proof.Machine.execStepBoundary s
  | .teeMarkApply p => Sys2Proof.Machine.execTeeMarkApply p s
  | .flitReceive p flit => Sys2Proof.Machine.execFlitReceive p flit s
  | .laneRemoval p lane rate => Sys2Proof.Machine.execLaneRemoval p lane rate s
  | .laserInputLow p input centiDbm t => Sys2Proof.Machine.execLaserInputLow p input centiDbm t s
  | .portRetrainDone p => Sys2Proof.Machine.execPortRetrainDone p s
  | .portTraining p up => Sys2Proof.Machine.execPortTraining p up s
  | .portRetrain m ports => Sys2Proof.Machine.execPortRetrain m ports s
  | .load p => Sys2Proof.Machine.execLoad p s
  | .store p => Sys2Proof.Machine.execStore p s
  | .atomic p => Sys2Proof.Machine.execAtomic p s
  | .addPacket p => Sys2Proof.Machine.execAddPacket p s
  | .get p => Sys2Proof.Machine.execGet p s
  | .rdShared p => Sys2Proof.Machine.execRdShared p s
  | .rdOwn p => Sys2Proof.Machine.execRdOwn p s
  | .writeback p => Sys2Proof.Machine.execWriteback p s
  | .evict p => Sys2Proof.Machine.execEvict p s
  | .snpShare p => Sys2Proof.Machine.execSnpShare p s
  | .snpInval p => Sys2Proof.Machine.execSnpInval p s
  | .snpRsp p => Sys2Proof.Machine.execSnpRsp p s
  | .snoopTimeout line t => Sys2Proof.Machine.execSnoopTimeout line t s
  | .contrib p => Sys2Proof.Machine.execContrib p s
  | .gather p => Sys2Proof.Machine.execGather p s
  | .close p => Sys2Proof.Machine.execClose p s
  | .shardClose collective => Sys2Proof.Machine.execShardClose collective s
  | .collectiveTimeout collective t => Sys2Proof.Machine.execCollectiveTimeout collective t s
  | .probe p => Sys2Proof.Machine.execProbe p s
  | .probeRsp p => Sys2Proof.Machine.execProbeRsp p s
  | .resync p => Sys2Proof.Machine.execResync p s
  | .hintSlowContributor p => Sys2Proof.Machine.execHintSlowContributor p s
  | .hintHold p t => Sys2Proof.Machine.execHintHold p t s
  | .hintHoldRelease p t => Sys2Proof.Machine.execHintHoldRelease p t s
  | .holdLimitExpiry node t => Sys2Proof.Machine.execHoldLimitExpiry node t s
  | .heartbeat p t => Sys2Proof.Machine.execHeartbeat p t s
  | .data p => Sys2Proof.Machine.execData p s
  | .ack p => Sys2Proof.Machine.execAck p s
  | .nak p => Sys2Proof.Machine.execNak p s
  | .colAck p => Sys2Proof.Machine.execColAck p s
  | .gatewayAdmit p t => Sys2Proof.Machine.execGatewayAdmit p t s
  | .gatewayFlush p t => Sys2Proof.Machine.execGatewayFlush p t s
  | .nodeIdWrite m node => Sys2Proof.Machine.execNodeIdWrite m node s
  | .counterUpdate bank t => Sys2Proof.Machine.execCounterUpdate bank t s
  | .traekFlitReceive flit => Sys2Proof.Machine.execTraekFlitReceive flit s
  | .traekTraining width half group => Sys2Proof.Machine.execTraekTraining width half group s
  | .traekLaneRetrain lane rate => Sys2Proof.Machine.execTraekLaneRetrain lane rate s
  | .traekLinkDown t => Sys2Proof.Machine.execTraekLinkDown t s
  | .traekCommandRetrain m => Sys2Proof.Machine.execTraekCommandRetrain m s
  | .traekCommandDown m => Sys2Proof.Machine.execTraekCommandDown m s
  | .dict p f kind => Sys2Proof.Machine.execDict p f kind s
  | .pair m t => Sys2Proof.Machine.execPair m t s
  | .detachCommand m t => Sys2Proof.Machine.execDetachCommand m t s
  | .detachAct t => Sys2Proof.Machine.execDetachAct t s
  | .releaseFrozenNegative m => Sys2Proof.Machine.execReleaseFrozenNegative m s
  | .offer p => Sys2Proof.Machine.execOffer p s
  | .evidence p => Sys2Proof.Machine.execEvidence p s
  | .accept p => Sys2Proof.Machine.execAccept p s
  | .refuse p => Sys2Proof.Machine.execRefuse p s
  | .detach p t => Sys2Proof.Machine.execDetach p t s
  | .pairingRelease p => Sys2Proof.Machine.execPairingRelease p s
  | .pairingTimeout t => Sys2Proof.Machine.execPairingTimeout t s
  | .detachTimeout t => Sys2Proof.Machine.execDetachTimeout t s
  | .heartbeatSend t => Sys2Proof.Machine.execHeartbeatSend t s
  | .twinLost t => Sys2Proof.Machine.execTwinLost t s
  | .bathStageEnd t => Sys2Proof.Machine.execBathStageEnd t s
  | .bathTimeout t => Sys2Proof.Machine.execBathTimeout t s
  | .segmentCopied t => Sys2Proof.Machine.execSegmentCopied t s
  | .sheetComplete t => Sys2Proof.Machine.execSheetComplete t s
  | .timeAlignExchange a0 t => Sys2Proof.Machine.execTimeAlignExchange a0 t s
  | .regionGate r t => Sys2Proof.Machine.execRegionGate r t s
  | .regionPllOff r t => Sys2Proof.Machine.execRegionPllOff r t s
  | .regionWake r t => Sys2Proof.Machine.execRegionWake r t s
  | .slopeGrant half t => Sys2Proof.Machine.execSlopeGrant half t s
  | .pointChange r t => Sys2Proof.Machine.execPointChange r t s
  | .shutterStop r t => Sys2Proof.Machine.execShutterStop r t s
  | .monitorSample r marginPermille deciAmp t => Sys2Proof.Machine.execMonitorSample r marginPermille deciAmp t s
  | .droopDetect r milliVolt t => Sys2Proof.Machine.execDroopDetect r milliVolt t s
  | .stretchEnd r cycles t => Sys2Proof.Machine.execStretchEnd r cycles t s
  | .freqChangeAbandon r t => Sys2Proof.Machine.execFreqChangeAbandon r t s
  | .freqChangeRetry r t => Sys2Proof.Machine.execFreqChangeRetry r t s
  | .avsbusRead reply rises t => Sys2Proof.Machine.execAvsbusRead reply rises t s
  | .avsbusRetry reply t => Sys2Proof.Machine.execAvsbusRetry reply t s
  | .supplyLimitStep t => Sys2Proof.Machine.execSupplyLimitStep t s
  | .pmbusRead status feed t => Sys2Proof.Machine.execPmbusRead status feed t s
  | .guardBandEnd t => Sys2Proof.Machine.execGuardBandEnd t s
  | .sliceFailure r slice t => Sys2Proof.Machine.execSliceFailure r slice t s
  | .clearMinimumVoltage m region => Sys2Proof.Machine.execClearMinimumVoltage m region s
  | .capWrite m watts => Sys2Proof.Machine.execCapWrite m watts s
  | .powerLoopTick watts t => Sys2Proof.Machine.execPowerLoopTick watts t s
  | .intervalSlot t => Sys2Proof.Machine.execIntervalSlot t s
  | .hotSpotSample h a b t => Sys2Proof.Machine.execHotSpotSample h a b t s
  | .thermalLimitStep r t => Sys2Proof.Machine.execThermalLimitStep r t s
  | .reEnumerate m pids => Sys2Proof.Machine.execReEnumerate m pids s
  | .trayRead p t => Sys2Proof.Machine.execTrayRead p t s
  | .resume m t => Sys2Proof.Machine.execResume m t s
  | .flowRequestWrite done t => Sys2Proof.Machine.execFlowRequestWrite done t s
  | .flowTrendUpdate t => Sys2Proof.Machine.execFlowTrendUpdate t s
  | .read m f => Sys2Proof.Machine.execRead m f s
  | .write m f => Sys2Proof.Machine.execWrite m f s
  | .blockRead m f => Sys2Proof.Machine.execBlockRead m f s
  | .subscribe m f => Sys2Proof.Machine.execSubscribe m f s
  | .unsubscribe m f => Sys2Proof.Machine.execUnsubscribe m f s
  | .subscriptionEvent m key t => Sys2Proof.Machine.execSubscriptionEvent m key t s
  | .hostEventRingConfig m base size => Sys2Proof.Machine.execHostEventRingConfig m base size s
  | .holdTake m areas => Sys2Proof.Machine.execHoldTake m areas s
  | .holdRelease m areas => Sys2Proof.Machine.execHoldRelease m areas s
  | .holdExpiry t => Sys2Proof.Machine.execHoldExpiry t s
  | .clearHealthEvents m bits => Sys2Proof.Machine.execClearHealthEvents m bits s
  | .safelightHeartbeat half t => Sys2Proof.Machine.execSafelightHeartbeat half t s
  | .leadershipClaim half t => Sys2Proof.Machine.execLeadershipClaim half t s
  | .leadershipConflict t => Sys2Proof.Machine.execLeadershipConflict t s
  | .followerStale t => Sys2Proof.Machine.execFollowerStale t s
  | .followerResync t => Sys2Proof.Machine.execFollowerResync t s
  | .plcaFallback periodNs t => Sys2Proof.Machine.execPlcaFallback periodNs t s
  | .beacon t => Sys2Proof.Machine.execBeacon t s
  | .coalescingWindowEnd cls source t => Sys2Proof.Machine.execCoalescingWindowEnd cls source t s
  | .rotationPattern c run t => Sys2Proof.Machine.execRotationPattern c run t s
  | .recoveryTest u runs t => Sys2Proof.Machine.execRecoveryTest u runs t s
  | .quarantine m c => Sys2Proof.Machine.execQuarantine m c s
  | .runRecoveryTest m c => Sys2Proof.Machine.execRunRecoveryTest m c s
  | .takePackageOutOfService m p => Sys2Proof.Machine.execTakePackageOutOfService m p s
  | .runRotationPattern m c => Sys2Proof.Machine.execRunRotationPattern m c s
  | .runRegionTest m r => Sys2Proof.Machine.execRunRegionTest m r s
  | .bypass die => Sys2Proof.Machine.execBypass die s
  | .idcode die => Sys2Proof.Machine.execIdcode die s
  | .samplePreload die preload pins => Sys2Proof.Machine.execSamplePreload die preload pins s
  | .extest die pins => Sys2Proof.Machine.execExtest die pins s
  | .runbist die failing => Sys2Proof.Machine.execRunbist die failing s
  | .rom westPasses t => Sys2Proof.Machine.execRom westPasses t s
  | .flash a0 t => Sys2Proof.Machine.execFlash a0 t s
  | .stage1 avsReply identity feed t => Sys2Proof.Machine.execStage1 avsReply identity feed t s
  | .coreRamp reached t => Sys2Proof.Machine.execCoreRamp reached t s
  | .test runs regions calibration t => Sys2Proof.Machine.execTest runs regions calibration t s
  | .memory rates t => Sys2Proof.Machine.execMemory rates t s
  | .protect config t => Sys2Proof.Machine.execProtect config t s
  | .links t => Sys2Proof.Machine.execLinks t s
  | .attestationNonce m nonce t => Sys2Proof.Machine.execAttestationNonce m nonce t s
  | .evidenceReady m t => Sys2Proof.Machine.execEvidenceReady m t s
  | .flashOpen m region offset => Sys2Proof.Machine.execFlashOpen m region offset s
  | .flashData m bytes => Sys2Proof.Machine.execFlashData m bytes s
  | .flashCommit m a1 => Sys2Proof.Machine.execFlashCommit m a1 s
  | .fullReset m => Sys2Proof.Machine.execFullReset m s
  | .coreReset m => Sys2Proof.Machine.execCoreReset m s
  | .railMonitor milliVolt t => Sys2Proof.Machine.execRailMonitor milliVolt t s
  | .boardRailFault rail t => Sys2Proof.Machine.execBoardRailFault rail t s
  | .traekRetrainDone width half group => Sys2Proof.Machine.execTraekRetrainDone width half group s
  | .detachReleaseAnswer t => Sys2Proof.Machine.execDetachReleaseAnswer t s

end Sys2Proof.Machine
end

