-- ==== Sys2Proof/Safety.lean ====
section
/-!
DEFINITION. The words claims are stated in: an answer of the block, equal memory, what every state of a run keeps, and, for each
command, the fields of the state it may change.
-/

namespace Sys2Proof.Machine

/-- The block executes a command and goes on in state `t`. -/
def Answers (c : Instr) (s t : State) : Prop := exec c s = .next t

/-- Every byte of memory reads as before. -/
def SameMemory (s t : State) : Prop := ∀ a, t.rd a = s.rd a

/-- Memory has its canonical form, and the error log is within its ring of 4,096 records (R418). -/
def State.Sound (s : State) : Prop := Memory.wf s.mem ∧ s.log.length ≤ 4096

/-! ### Commands of a list (R174, R175) -/

/-- Queue `q`'s control core takes the command `c` of the list `l` now: the list is being fetched, its next command can be read,
and hazards, order and the window of 16 let it start. -/
def Takes (s : State) (q : Nat) (l : ListRun) (c : Line) (reads writes : List Nat) : Prop :=
  s.fetching q = some l ∧ s.fetchStatus l.next 64 = 0 ∧ s.mayStart q c reads writes = true

/-- The completion ring has room for a completion of `c` with a status (R176). -/
def HasRoom (s : State) (q : Nat) (c : Line) (status : Nat) : Prop := (s.queue q).blocked (cmdRecord c) status = false

/-- The queue goes on behind the command `c` of list `l`, which counts as the latest to name its summary slot (R138, R174). -/
def State.passed (s : State) (q : Nat) (l : ListRun) (c : Line) : State := (s.advance q).nameSlot q (s.asStarted q l c)

/-- The state `s` after its command `c` of list `l`, taken in state `s0`, completes with what `f` reports; its signal takes effect here
unless it goes to another node (R244). -/
def State.completed (s s0 : State) (q : Nat) (l : ListRun) (c : Line) (f : Fail) : State :=
  (s.finish q (s0.asStarted q l c) f (s0.signalsHere (s0.asStarted q l c))).settled

/-- What a started command keeps from its start: its number, its 64 bytes, its place, the handles it reads and writes. -/
def Started.brief (x : Started) : Nat × Line × Nat × Nat × List Nat × List Nat :=
  (x.id, x.cmd, x.index, x.listId, x.reads, x.writes)

/-- `u` has, behind the started commands of `s`, the command `c` of list `l` with these handles; the list goes on behind it. -/
def StartsIn (s u : State) (q : Nat) (l : ListRun) (c : Line) (reads writes : List Nat) (st : Started) : Prop :=
  (u.queue q).run = some { l with pc := l.pc + 1 } ∧ (u.queue q).started.getLast? = some st ∧
  (u.queue q).started.map Started.brief =
    (s.queue q).started.map Started.brief ++ [((s.queue q).serial + 1, c, l.pc, l.listId, reads, writes)]

/-- No entry of a control stack is the return of a CALL. -/
def noReturn (st : List StackEntry) : Prop := ∀ e ∈ st, ∀ a i n, e ≠ .ret a i n

/-! ### Frames -/

/-- The fields of the state, in the order the state declares them. -/
inductive Field where
  | pending | now | fresh | egress | mem | marks | dict | tags | log | logSeq | windows | queues | counters | ingress |
    bankLast | bankAt | tensors | alloc | step | clusters | lastQueue | channels | packages | stageWait | ports |
    streamsOut | streamsIn | reqs | nextTag | directory | snoops | lineWait | arrivals | collectives | nextCollective |
    parked | colSent | traek | twin | regions | power | spots | cooling | mgmt | test | boot
deriving DecidableEq, Repr

/-- Every field. -/
def Field.all : List Field :=
  [.pending, .now, .fresh, .egress, .mem, .marks, .dict, .tags, .log, .logSeq, .windows, .queues, .counters, .ingress,
    .bankLast, .bankAt, .tensors, .alloc, .step, .clusters, .lastQueue, .channels, .packages, .stageWait, .ports,
    .streamsOut, .streamsIn, .reqs, .nextTag, .directory, .snoops, .lineWait, .arrivals, .collectives, .nextCollective,
    .parked, .colSent, .traek, .twin, .regions, .power, .spots, .cooling, .mgmt, .test, .boot]

/-- Every field but some. -/
def Field.allBut (fs : List Field) : List Field := Field.all.filter (fun f => !fs.contains f)

/-- A field holds the same in two states. -/
def State.same (s t : State) : Field → Prop
  | .pending => t.pending = s.pending
  | .now => t.now = s.now
  | .fresh => t.fresh = s.fresh
  | .egress => t.egress = s.egress
  | .mem => t.mem = s.mem
  | .marks => t.marks = s.marks
  | .dict => t.dict = s.dict
  | .tags => t.tags = s.tags
  | .log => t.log = s.log
  | .logSeq => t.logSeq = s.logSeq
  | .windows => t.windows = s.windows
  | .queues => t.queues = s.queues
  | .counters => t.counters = s.counters
  | .ingress => t.ingress = s.ingress
  | .bankLast => t.bankLast = s.bankLast
  | .bankAt => t.bankAt = s.bankAt
  | .tensors => t.tensors = s.tensors
  | .alloc => t.alloc = s.alloc
  | .step => t.step = s.step
  | .clusters => t.clusters = s.clusters
  | .lastQueue => t.lastQueue = s.lastQueue
  | .channels => t.channels = s.channels
  | .packages => t.packages = s.packages
  | .stageWait => t.stageWait = s.stageWait
  | .ports => t.ports = s.ports
  | .streamsOut => t.streamsOut = s.streamsOut
  | .streamsIn => t.streamsIn = s.streamsIn
  | .reqs => t.reqs = s.reqs
  | .nextTag => t.nextTag = s.nextTag
  | .directory => t.directory = s.directory
  | .snoops => t.snoops = s.snoops
  | .lineWait => t.lineWait = s.lineWait
  | .arrivals => t.arrivals = s.arrivals
  | .collectives => t.collectives = s.collectives
  | .nextCollective => t.nextCollective = s.nextCollective
  | .parked => t.parked = s.parked
  | .colSent => t.colSent = s.colSent
  | .traek => t.traek = s.traek
  | .twin => t.twin = s.twin
  | .regions => t.regions = s.regions
  | .power => t.power = s.power
  | .spots => t.spots = s.spots
  | .cooling => t.cooling = s.cooling
  | .mgmt => t.mgmt = s.mgmt
  | .test => t.test = s.test
  | .boot => t.boot = s.boot

/-- `t` differs from `s` in no field outside `fs`. -/
def OnlyChanges (fs : List Field) (s t : State) : Prop := ∀ f, f ∉ fs → s.same t f

/-! ### Rows at a device time, packets, writes of a master -/

/-- The state a row of clocks, power or cooling acts in: device time has come to `t`, or stays where it is past that
(R344) or while it stands (R345), and the time under each throttle reason is counted up to it (R370). -/
def State.atTime (s : State) (t : Nat) : State := (s.accrue (s.tick t).now).tick t

/-- `u` is `v` with the events of throttle reasons counted in 0x2020 (R370). -/
def Throttled (v u : State) : Prop := OnlyChanges [.dict] v u ∧ ∀ k, k / 256 ≠ 0x2020 → u.dv k = v.dv k

/-- Row `e` goes on in `v`, with the events of throttle reasons counted (R370). -/
def EndsIn (e : Instr) (s v : State) : Prop := ∃ u, exec e s = .next u ∧ Throttled v u

/-- A packet or message reaches this module: its link is up and not in a retrain, no reserved field is set, and a packet is for this
module (R255, R257, R301). -/
def Reaches (s : State) (p : Packet) : Prop :=
  p.rsvd = false ∧ match p.via with
    | .traek => s.traek.state = 2
    | .fabric n => s.portUp n = true ∧ (s.port n).retraining = false ∧ s.node ≠ 0xFFFF ∧ p.dst.toNat = s.node

/-- The receive buffer of a packet is free again; while the packet waits in it, its credits are owed (R254, R278, R300, R383). -/
def State.bufferFreed (s : State) (p : Packet) (op : Nat) : State :=
  if s.withheld p then s.keepBuffer p else s.freeBuffer p op

/-- A request is the next of its stream, which holds nothing and lets it be applied; its rights are checked and its local address is
`a`, for whose line no other request waits (R263, R264, R265, R273, R303, R307). -/
def Arrives (s : State) (p : Packet) (k : ReqKind) (a : Nat) : Prop :=
  Reaches s p ∧ (s.streamIn (inKey p)).held = [] ∧ (s.streamIn (inKey p)).skipped = [] ∧ (s.streamIn (inKey p)).next < 2 ^ 32 ∧
    (s.flaggedReq k p = false ∨ s.unapplied (inKey p) = []) ∧ (∀ x ∈ s.lineWait, lineOf x.line ≠ lineOf a) ∧
    match p.via with
    | .fabric _ => p.seq.toNat = (s.streamIn (inKey p)).next ∧ s.isCompanion p.dst.toNat = false ∧
        s.inboundGrants p.src.toNat a (pktBytes p) (kindBit k) = true ∧ a = p.addr.toNat % 2 ^ 48
    | .traek => s.traekTarget p.addr.toNat (pktBytes p) (kindBit k) = .inl a

/-- The request as it is applied: the companion's with the number of its arrival, at its local address `a` (R303, R307). -/
def State.carried (s : State) (p : Packet) (a : Nat) : Packet :=
  match p.via with
  | .fabric _ => p
  | .traek => { p with seq := BitVec.ofNat 32 (s.streamIn (inKey p)).next, addr := BitVec.ofNat 64 a }

/-- Nothing holds the line of the LPDDR address `near` up: its controller's region serves, no snoop of the line is out, and no access that
came before waits at it (R219, R273, R350). -/
def State.FreeLine (s : State) (near : Nat) : Prop :=
  s.memoryAsleep near = false ∧ s.snooping (lineOf near) = false ∧ s.waitsAt (lineOf near) s.arrivals = false

/-- A master may write `len` bytes to entry:field now (R390, R403). -/
def MayWrite (s : State) (m : Master) (key len : Nat) : Prop := (s.renewHold m).writeStatus m key len = 0

/-- What a write that was applied leaves behind: its writer tag, its copy for the follower (R392, R406, R407). -/
def State.written (s : State) (m : Master) (key value : Nat) : State := ((s.tagWrite m key).keepLone m key value).awaitFollower

/-- Only the record of region `r` differs, and it is `x`. -/
def RegionIs (s u : State) (r : Nat) (x : Region) : Prop := u.region r = x ∧ ∀ j, j ≠ r → u.region j = s.region j

/-- The fields a command may change; every other field it leaves as it was. No command changes the queue of waiting commands. -/
def mayChange : Instr → List Field
  | .endCmd .. | .fence .. | .waitCounter .. | .signalCounter .. | .branchIfSummary .. | .loop .. | .call ..
      | .tensorAttr .. | .watchLineStore .. | .queueEnable .. | .queueDisable .. | .queueRehome .. =>
    [.egress, .mem, .marks, .dict, .log, .logSeq, .windows, .queues, .counters, .ingress, .bankAt, .tensors, .step,
      .channels, .packages, .ports, .streamsOut, .reqs, .nextTag, .snoops, .arrivals, .traek, .mgmt]
  | .waitCounterTimeout .. =>
    Field.allBut [.pending, .fresh, .tags, .bankLast, .alloc, .clusters, .lastQueue, .stageWait, .streamsIn, .directory,
      .lineWait, .collectives, .nextCollective, .parked, .colSent, .twin, .regions, .power, .spots, .cooling, .test, .boot]
  | .tensorCreate .. =>
    Field.allBut [.pending, .now, .tags, .bankLast, .clusters, .lastQueue, .stageWait, .streamsIn, .directory, .lineWait,
      .collectives, .nextCollective, .parked, .colSent, .twin, .regions, .power, .spots, .cooling, .test, .boot]
  | .tensorFree .. =>
    Field.allBut [.pending, .now, .fresh, .tags, .bankLast, .clusters, .lastQueue, .stageWait, .streamsIn, .directory,
      .lineWait, .collectives, .nextCollective, .parked, .colSent, .twin, .regions, .power, .spots, .cooling, .test, .boot]
  | .matmul .. =>
    Field.allBut [.pending, .now, .tags, .bankLast, .stageWait, .streamsIn, .directory, .lineWait, .collectives,
      .nextCollective, .parked, .colSent, .twin, .power, .spots, .cooling, .test, .boot]
  | .vector .. =>
    Field.allBut [.pending, .now, .tags, .bankLast, .stageWait, .streamsIn, .directory, .lineWait, .collectives,
      .nextCollective, .parked, .colSent, .twin, .spots, .cooling, .test, .boot]
  | .update .. =>
    Field.allBut [.pending, .now, .fresh, .tags, .bankLast, .alloc, .stageWait, .streamsIn, .directory, .lineWait,
      .collectives, .nextCollective, .parked, .colSent, .twin, .spots, .cooling, .test, .boot]
  | .updateVerdictAction .. =>
    Field.allBut [.pending, .now, .tags, .counters, .ingress, .bankLast, .bankAt, .stageWait, .streamsIn, .directory,
      .snoops, .lineWait, .arrivals, .collectives, .nextCollective, .parked, .colSent, .power, .spots, .cooling, .test,
      .boot]
  | .copy .. | .add .. | .fill .. | .stopBath .. | .sheet .. | .sheetAbort .. | .restore .. =>
    Field.allBut [.pending, .now, .tags, .bankLast, .lastQueue, .stageWait, .streamsIn, .directory, .lineWait,
      .collectives, .nextCollective, .parked, .colSent, .twin, .power, .spots, .cooling, .test, .boot]
  | .transferReadback .. =>
    [.now, .egress, .marks, .dict, .log, .logSeq, .queues, .tensors, .clusters, .channels, .packages, .ports, .traek,
      .regions, .mgmt]
  | .transferRemoteSignal .. =>
    [.egress, .dict, .queues, .step, .clusters, .ports, .streamsOut, .reqs, .nextTag, .traek, .regions]
  | .reduce .. | .allReduce .. | .reduceScatter .. | .allGather .. | .broadcast .. =>
    Field.allBut [.pending, .now, .tags, .bankLast, .power, .spots, .cooling, .boot]
  | .release .. | .epochClose .. | .contrib .. | .gather .. | .close .. | .shardClose .. | .colAck .. =>
    Field.allBut [.pending, .now, .tags, .bankLast, .nextCollective, .power, .spots, .cooling, .boot]
  | .commandComplete .. =>
    Field.allBut [.pending, .now, .fresh, .tags, .bankLast, .alloc, .clusters, .lastQueue, .stageWait, .streamsIn,
      .directory, .lineWait, .collectives, .nextCollective, .parked, .colSent, .regions, .power, .spots, .cooling, .test,
      .boot]
  | .listStart .. =>
    Field.allBut [.pending, .now, .fresh, .tags, .bankLast, .alloc, .lastQueue, .stageWait, .streamsIn, .directory,
      .lineWait, .nextCollective, .twin, .regions, .power, .spots, .cooling, .test]
  | .tileDispatch .. | .dispatchAgeCeiling .. =>
    [.now, .egress, .marks, .dict, .queues, .tensors, .step, .clusters, .lastQueue, .ports, .streamsOut, .reqs, .nextTag,
      .traek, .regions, .power]
  | .pagerFetchArrival .. =>
    [.fresh, .egress, .mem, .marks, .dict, .log, .logSeq, .windows, .queues, .tensors, .alloc, .step, .clusters,
      .lastQueue, .channels, .packages, .ports, .streamsOut, .reqs, .nextTag, .traek, .regions, .mgmt]
  | .tileFinish .. =>
    [.fresh, .dict, .log, .logSeq, .queues, .clusters, .channels, .regions, .power, .mgmt]
  | .finishedTileAdmit .. =>
    [.dict, .clusters, .regions, .power]
  | .epilogue .. =>
    [.fresh, .egress, .mem, .marks, .dict, .log, .logSeq, .windows, .queues, .tensors, .alloc, .step, .clusters, .channels,
      .packages, .ports, .traek, .regions, .power, .mgmt]
  | .transactionGrant .. | .transferChannelGrant .. =>
    Field.allBut [.pending, .tags, .counters, .ingress, .bankLast, .bankAt, .lastQueue, .stageWait, .streamsIn, .directory,
      .lineWait, .arrivals, .collectives, .nextCollective, .parked, .colSent, .twin, .power, .spots, .cooling, .test,
      .boot]
  | .scratchPageGrant .. | .powerLoopTick .. =>
    [.now, .dict, .clusters, .regions, .power]
  | .apertureRelease .. =>
    Field.allBut [.pending, .tags, .counters, .ingress, .bankLast, .bankAt, .lastQueue, .stageWait, .streamsIn, .directory,
      .lineWait, .arrivals, .collectives, .nextCollective, .parked, .colSent, .power, .spots, .cooling, .test, .boot]
  | .scrub .. =>
    [.fresh, .mem, .marks, .dict, .queues, .tensors, .alloc]
  | .channelAdmit .. =>
    [.now, .dict, .channels]
  | .channelRequest .. | .starvationCeiling .. | .adderWriteBack .. | .stagingFrameGrant .. | .deratingExit ..
      | .criticalSelfRefresh .. | .collectiveTimeout .. | .bathStageEnd .. | .bathTimeout .. =>
    Field.allBut [.pending, .tags, .bankLast, .nextCollective, .power, .spots, .cooling, .boot]
  | .adderOperation .. =>
    Field.allBut [.pending, .tags, .bankLast, .clusters, .lastQueue, .streamsIn, .directory, .lineWait, .collectives,
      .nextCollective, .parked, .colSent, .twin, .regions, .power, .spots, .cooling, .test, .boot]
  | .adderAdmit .. | .wcAdmit .. | .snoopTimeout .. | .traekLinkDown .. | .detach .. =>
    Field.allBut [.pending, .tags, .bankLast, .collectives, .nextCollective, .parked, .colSent, .power, .spots, .cooling,
      .test, .boot]
  | .wcPartialStore .. =>
    [.now, .egress, .mem, .marks, .dict, .log, .logSeq, .windows, .tensors, .step, .channels, .packages, .ports, .snoops,
      .arrivals, .traek, .mgmt]
  | .wcRetireTimeout .. | .patrolScrub .. =>
    [.now, .egress, .mem, .marks, .dict, .log, .logSeq, .windows, .tensors, .channels, .packages, .ports, .traek, .mgmt]
  | .refresh .. =>
    [.channels]
  | .channelPowerDown .. =>
    [.now, .channels]
  | .temperatureReadout .. =>
    [.now, .egress, .dict, .log, .logSeq, .queues, .channels, .packages, .ports, .collectives, .mgmt]
  | .stepBoundary =>
    Field.allBut [.pending, .now, .tags, .bankLast, .lastQueue, .stageWait, .streamsIn, .directory, .lineWait,
      .collectives, .nextCollective, .parked, .colSent, .power, .spots, .cooling, .test, .boot]
  | .teeMarkApply .. | .load .. | .store .. | .atomic .. | .addPacket .. | .get .. | .rdShared .. | .rdOwn ..
      | .writeback .. | .evict .. | .snpRsp .. | .resync .. | .ack .. | .nak .. | .traekTraining .. | .offer ..
      | .evidence .. | .accept .. | .refuse .. | .pairingRelease .. | .traekRetrainDone .. =>
    Field.allBut [.pending, .now, .tags, .bankLast, .collectives, .nextCollective, .parked, .colSent, .power, .spots,
      .cooling, .test, .boot]
  | .flitReceive .. | .snpShare .. | .snpInval .. | .probe .. | .traekFlitReceive .. =>
    [.egress, .dict, .log, .logSeq, .ports, .lineWait, .traek, .mgmt]
  | .laneRemoval .. | .portTraining .. =>
    Field.allBut [.pending, .now, .tags, .bankLast, .collectives, .nextCollective, .parked, .power, .spots, .cooling,
      .test, .boot]
  | .laserInputLow .. =>
    Field.allBut [.pending, .tags, .bankLast, .collectives, .nextCollective, .parked, .power, .spots, .cooling, .test,
      .boot]
  | .portRetrainDone .. =>
    [.egress, .dict, .ports]
  | .portRetrain .. =>
    [.dict, .tags, .clusters, .ports, .regions, .mgmt]
  | .probeRsp .. =>
    Field.allBut [.pending, .now, .tags, .bankLast, .nextCollective, .parked, .power, .spots, .cooling, .test, .boot]
  | .hintSlowContributor .. =>
    [.egress, .dict, .log, .logSeq, .ports, .lineWait, .collectives, .traek, .cooling, .mgmt]
  | .hintHold .. | .hintHoldRelease .. =>
    [.now, .egress, .dict, .log, .logSeq, .ports, .lineWait, .collectives, .traek, .cooling, .mgmt]
  | .holdLimitExpiry .. =>
    [.now, .collectives, .cooling]
  | .heartbeat .. =>
    [.now, .egress, .mem, .dict, .log, .logSeq, .ports, .lineWait, .traek, .twin, .mgmt]
  | .data .. =>
    Field.allBut [.pending, .now, .tags, .bankLast, .collectives, .nextCollective, .parked, .colSent, .spots, .cooling,
      .test, .boot]
  | .gatewayAdmit .. | .gatewayFlush .. =>
    [.now, .egress, .dict, .ports, .streamsOut, .reqs, .nextTag]
  | .nodeIdWrite .. | .hostEventRingConfig .. | .clearHealthEvents .. =>
    [.dict, .tags, .mgmt]
  | .counterUpdate .. =>
    Field.allBut [.pending, .fresh, .tags, .alloc, .clusters, .lastQueue, .stageWait, .streamsIn, .directory, .lineWait,
      .collectives, .nextCollective, .parked, .colSent, .twin, .regions, .power, .spots, .cooling, .test, .boot]
  | .traekLaneRetrain .. =>
    [.dict, .log, .logSeq, .traek, .mgmt]
  | .traekCommandRetrain .. | .traekCommandDown .. =>
    Field.allBut [.pending, .now, .bankLast, .collectives, .nextCollective, .parked, .colSent, .power, .spots, .cooling,
      .test, .boot]
  | .dict .. | .read .. | .write .. | .blockRead .. | .subscribe .. | .unsubscribe .. | .leadershipConflict ..
      | .protect .. =>
    Field.allBut [.pending]
  | .pair .. | .pairingTimeout .. | .heartbeatSend .. | .detachReleaseAnswer .. =>
    [.now, .egress, .dict, .queues, .step, .ports, .streamsOut, .reqs, .nextTag, .traek, .twin]
  | .detachCommand .. =>
    [.now, .dict, .twin]
  | .detachAct .. =>
    Field.allBut [.pending, .tags, .bankLast, .lastQueue, .stageWait, .streamsIn, .directory, .lineWait, .collectives,
      .nextCollective, .parked, .colSent, .power, .spots, .cooling, .test, .boot]
  | .releaseFrozenNegative .. =>
    [.mem, .dict, .queues, .twin]
  | .detachTimeout .. | .twinLost .. =>
    [.now, .mem, .dict, .log, .logSeq, .queues, .streamsOut, .twin, .mgmt]
  | .segmentCopied .. | .sheetComplete .. =>
    Field.allBut [.pending, .tags, .bankLast, .lastQueue, .stageWait, .streamsIn, .directory, .lineWait, .collectives,
      .nextCollective, .parked, .colSent, .twin, .power, .spots, .cooling, .test, .boot]
  | .timeAlignExchange .. =>
    [.now, .egress, .dict, .log, .logSeq, .step, .ports, .streamsOut, .reqs, .nextTag, .traek, .power, .mgmt]
  | .regionGate .. =>
    [.now, .dict, .channels, .regions, .power]
  | .regionPllOff .. | .monitorSample .. | .stretchEnd .. =>
    [.now, .dict, .regions, .power]
  | .regionWake .. | .slopeGrant .. | .intervalSlot .. =>
    Field.allBut [.pending, .tags, .bankLast, .collectives, .nextCollective, .parked, .colSent, .spots, .cooling, .test,
      .boot]
  | .pointChange .. | .shutterStop .. | .freqChangeRetry .. =>
    [.now, .egress, .dict, .regions, .power]
  | .droopDetect .. =>
    [.now, .fresh, .dict, .regions, .power]
  | .freqChangeAbandon .. | .avsbusRead .. | .supplyLimitStep .. =>
    [.now, .dict, .log, .logSeq, .regions, .power, .mgmt]
  | .avsbusRetry .. | .pmbusRead .. =>
    [.now, .egress, .dict, .log, .logSeq, .power, .mgmt]
  | .guardBandEnd .. =>
    [.now, .fresh, .egress, .dict, .regions, .power]
  | .sliceFailure .. =>
    Field.allBut [.pending, .tags, .bankLast, .nextCollective, .spots, .cooling, .test]
  | .clearMinimumVoltage .. =>
    [.tags, .regions, .mgmt]
  | .capWrite .. =>
    [.now, .dict, .tags, .power, .mgmt]
  | .hotSpotSample .. =>
    Field.allBut [.pending, .tags, .bankLast, .collectives, .nextCollective, .parked, .colSent, .test, .boot]
  | .thermalLimitStep .. =>
    Field.allBut [.pending, .tags, .bankLast, .collectives, .nextCollective, .parked, .colSent, .cooling, .test, .boot]
  | .reEnumerate .. =>
    [.egress, .dict, .tags, .log, .logSeq, .cooling, .mgmt]
  | .trayRead .. =>
    Field.allBut [.pending, .tags, .bankLast, .collectives, .nextCollective, .parked, .colSent, .spots, .test, .boot]
  | .resume .. =>
    Field.allBut [.pending, .bankLast, .collectives, .nextCollective, .parked, .colSent, .spots, .test, .boot]
  | .flowRequestWrite .. =>
    [.now, .egress, .dict, .log, .logSeq, .power, .cooling, .mgmt]
  | .flowTrendUpdate .. =>
    [.now, .dict, .power, .cooling]
  | .subscriptionEvent .. =>
    [.now, .egress, .mem, .marks, .dict, .log, .logSeq, .windows, .tensors, .step, .channels, .packages, .ports,
      .streamsOut, .reqs, .nextTag, .snoops, .arrivals, .traek, .mgmt]
  | .holdTake .. | .holdRelease .. =>
    [.tags, .mgmt]
  | .holdExpiry .. | .safelightHeartbeat .. =>
    [.now, .dict, .log, .logSeq, .mgmt]
  | .leadershipClaim .. | .beacon .. =>
    [.now, .dict, .mgmt]
  | .followerStale .. | .followerResync .. | .evidenceReady .. =>
    [.now, .mgmt]
  | .plcaFallback .. =>
    [.now, .dict]
  | .coalescingWindowEnd .. =>
    [.now, .dict, .log, .logSeq, .windows, .mgmt]
  | .rotationPattern .. | .stage1 .. =>
    Field.allBut [.pending, .fresh, .tags, .bankLast, .alloc, .lastQueue, .stageWait, .streamsIn, .directory, .lineWait,
      .nextCollective, .twin, .regions, .spots, .cooling, .test]
  | .recoveryTest .. =>
    Field.allBut [.pending, .tags, .bankLast, .nextCollective, .spots, .cooling]
  | .quarantine .. | .runRecoveryTest .. | .takePackageOutOfService .. | .runRotationPattern .. | .runRegionTest .. =>
    Field.allBut [.pending, .now, .fresh, .bankLast, .alloc, .lastQueue, .stageWait, .streamsIn, .directory, .lineWait,
      .nextCollective, .twin, .regions, .power, .spots, .cooling]
  | .bypass .. =>
    [.test]
  | .idcode .. | .samplePreload .. | .extest .. | .runbist .. =>
    [.egress, .test]
  | .rom .. =>
    [.now, .mgmt, .boot]
  | .flash .. =>
    [.now, .dict, .boot]
  | .coreRamp .. =>
    Field.allBut [.pending, .fresh, .tags, .bankLast, .alloc, .lastQueue, .stageWait, .streamsIn, .directory, .lineWait,
      .nextCollective, .twin, .spots, .cooling, .test]
  | .test .. =>
    Field.allBut [.pending, .fresh, .tags, .alloc, .lastQueue, .stageWait, .streamsIn, .directory, .lineWait,
      .nextCollective, .twin, .power, .spots, .cooling, .test]
  | .memory .. =>
    [.now, .egress, .dict, .log, .logSeq, .tensors, .alloc, .channels, .packages, .ports, .traek, .mgmt, .boot]
  | .links .. =>
    [.now, .ports, .traek, .boot]
  | .attestationNonce .. =>
    [.now, .tags, .mgmt]
  | .flashOpen .. | .flashData .. =>
    [.tags, .mgmt, .boot]
  | .flashCommit .. =>
    [.dict, .tags, .mgmt, .boot]
  | .fullReset .. =>
    Field.allBut [.pending, .fresh, .egress, .boot]
  | .coreReset .. =>
    Field.allBut [.pending, .now, .fresh, .log, .logSeq, .windows, .boot]
  | .railMonitor .. =>
    Field.allBut [.pending, .fresh, .egress]
  | .boardRailFault .. =>
    Field.allBut [.pending, .fresh, .log, .logSeq, .windows, .boot]

end Sys2Proof.Machine
end

