-- ==== Sys2Proof/Certificates/Slice0/Obligations.lean ====
section
/-!
DEFINITION. The statements for the provers: what the commands and the machine do, from the rules of spec/.
-/

open Sys2Proof Sys2Proof.Machine

/-- A step takes the command at the front of the queue and answers what `exec` answers for it on the queue's rest. The queue
is the model's own form of the block's commands. -/
def Obligations.StepRunsFrontCommand : Prop :=
  ∀ (c : Instr) (rest : List Instr) (s : State), step { s with pending := c :: rest } = exec c { s with pending := rest }

/-- An idle step is one cycle of the reference clock: 40 ns (R344), unless device time is slewed or stands until its source
catches up (R345). That the empty queue lets one cycle pass is the model's choice, log entry 10. -/
def Obligations.EmptyQueuePassesOneCycle : Prop :=
  ∀ s : State, s.pending = [] →
    (s.power.standFor = 0 → s.power.slew = 0 → ∃ t, step s = .next t ∧ t.now = s.now + 40 ∧ OnlyChanges [.now] s t) ∧
    (s.power.standFor = 0 → s.power.slew ≠ 0 → ∃ t, step s = .next t ∧ OnlyChanges [.now, .power] s t ∧
      (∃ ps, t.power = { s.power with slew := t.power.slew, slewPs := ps }) ∧
      (s.power.slewPs + 4 < 1000 → t.power.slewPs = s.power.slewPs + 4 ∧ t.power.slew = s.power.slew) ∧
      (1000 ≤ s.power.slewPs + 4 → t.power.slew.natAbs + 1 = s.power.slew.natAbs) ∧
      (t.now : Int) + t.power.slew = s.now + 40 + s.power.slew) ∧
    (s.power.standFor ≠ 0 → ∃ t, step s = .next t ∧ t.power = { s.power with standFor := s.power.standFor - 40 } ∧
      OnlyChanges [.power] s t)

/-- The reset state has canonical memory and an error log within its ring -/
def Obligations.ResetStateIsSound : Prop := State.reset.Sound

/-- Every step keeps memory canonical and the error log within its ring of 4,096 records -/
def Obligations.EveryStepKeepsSound : Prop :=
  ∀ s t : State, s.Sound → step s = .next t → t.Sound

/-- Each command changes no field of the state outside its own set -/
def Obligations.CommandsChangeOnlyTheirFields : Prop :=
  ∀ (c : Instr) (s t : State), exec c s = .next t → OnlyChanges (mayChange c) s t

/-- No command changes the queue of waiting commands -/
def Obligations.CommandsLeaveTheQueue : Prop :=
  ∀ (c : Instr) (s t : State), exec c s = .next t → t.pending = s.pending

/-- Every command in every state ends in a next state -/
def Obligations.EveryCommandAnswers : Prop := ∀ (c : Instr) (s : State), ∃ t, exec c s = .next t

/-- END pops the return of a called list, or ends the top-level list -/
def Obligations.EndReturnsOrEndsTheList : Prop :=
  ∀ (q : Fin 256) (c : Line) (l : ListRun) (s : State),
    Takes s q l c [] [] → s.headerFail q c [] = none → HasRoom s q c 0 →
    ∃ u, exec (.endCmd q c) s = .next (u.completed s q l c .ok) ∧ OnlyChanges [.queues] s u ∧
      (∀ pre a i n rest, (s.queue q).stack = pre ++ .ret a i n :: rest → noReturn pre →
        (u.queue q).stack = rest ∧ (u.queue q).run = some { l with addr := a, listId := i, pc := n }) ∧
      (noReturn (s.queue q).stack →
        (u.queue q).stack = [] ∧ (u.queue q).run = some { l with pc := l.pc + 1, ended := true })

/-- CALL pushes a return entry and goes on at command 0 of the called list; a full stack or a misaligned address stops it -/
def Obligations.CallGoesToTheCalledList : Prop :=
  ∀ (q : Fin 256) (c : Line) (l : ListRun) (s : State),
    Takes s q l c [] [] → s.headerFail q c [(20, 0, 352)] = none →
    (fld c 8 8 % 64 = 0 → (s.queue q).stack.length < 8 → HasRoom s q c 0 →
      ∃ u, exec (.call q c) s = .next (u.completed s q l c .ok) ∧ OnlyChanges [.queues] s u ∧
        (u.queue q).stack = .ret l.addr l.listId (l.pc + 1) :: (s.queue q).stack ∧
        (u.queue q).run = some { l with addr := fld c 8 8, listId := fld c 16 4, pc := 0 }) ∧
    (fld c 8 8 % 64 ≠ 0 → HasRoom s q c St.misaligned →
      ∃ f : Fail, f.st = St.misaligned ∧ exec (.call q c) s = .next ((s.passed q l c).completed s q l c f)) ∧
    (fld c 8 8 % 64 = 0 → 8 ≤ (s.queue q).stack.length → HasRoom s q c St.nestDepth →
      ∃ f : Fail, f.st = St.nestDepth ∧ exec (.call q c) s = .next ((s.passed q l c).completed s q l c f))

/-- LOOP: first arrival, later arrivals with a remainder, and the last one -/
def Obligations.LoopRunsItsBody : Prop :=
  ∀ (q : Fin 256) (c : Line) (l : ListRun) (s : State),
    Takes s q l c [] [] → s.headerFail q c [(16, 0, 384)] = none → HasRoom s q c 0 →
    1 ≤ fld c 8 4 → -65535 ≤ i32At c 12 → i32At c 12 ≤ -1 → 0 ≤ (l.pc : Int) + i32At c 12 →
    ((∀ t n rest, (s.queue q).stack ≠ .loop l.pc t n :: rest) → (s.queue q).stack.length < 8 →
      ∃ u, exec (.loop q c) s = .next (u.completed s q l c .ok) ∧ OnlyChanges [.queues] s u ∧
        (fld c 8 4 = 1 → (u.queue q).stack = (s.queue q).stack ∧ (u.queue q).run = some { l with pc := l.pc + 1 }) ∧
        (2 ≤ fld c 8 4 →
          (u.queue q).stack = .loop l.pc ((l.pc : Int) + i32At c 12) (fld c 8 4 - 2) :: (s.queue q).stack ∧
          (u.queue q).run = some { l with pc := ((l.pc : Int) + i32At c 12).toNat })) ∧
    (∀ t n rest, (s.queue q).stack = .loop l.pc t n :: rest →
      ∃ u, exec (.loop q c) s = .next (u.completed s q l c .ok) ∧ OnlyChanges [.queues] s u ∧
        (n = 0 → (u.queue q).stack = rest ∧ (u.queue q).run = some { l with pc := l.pc + 1 }) ∧
        (n ≠ 0 → (u.queue q).stack = .loop l.pc t (n - 1) :: rest ∧ (u.queue q).run = some { l with pc := t.toNat }))

/-- BRANCH_IF_SUMMARY waits for its producer, goes to the target when its test holds, and completes with SUMMARY_UNSET on an
unset slot -/
def Obligations.BranchFollowsItsSlot : Prop :=
  ∀ (q : Fin 256) (c : Line) (l : ListRun) (s : State) (v : SlotVal),
    Takes s q l c [] [] → s.headerFail q c branchReserved = none → fld c 9 1 ≤ 7 → 0 ≤ (l.pc : Int) + i32At c 12 →
    v = look {} (s.queue q).slots (bitsAt c 8 0 4) →
    ((s.queue q).slotBusy l (bitsAt c 8 0 4) = true → exec (.branchIfSummary q c) s = .next s) ∧
    ((s.queue q).slotBusy l (bitsAt c 8 0 4) = false → v.kind = 0 → HasRoom s q c St.summaryUnset →
      ∃ f : Fail, f.st = St.summaryUnset ∧ exec (.branchIfSummary q c) s = .next ((s.passed q l c).completed s q l c f)) ∧
    ((s.queue q).slotBusy l (bitsAt c 8 0 4) = false → v.kind ≠ 0 → HasRoom s q c 0 →
      ∃ u, exec (.branchIfSummary q c) s = .next (u.completed s q l c .ok) ∧ OnlyChanges [.queues] s u ∧
        (branchTest c v = true → (u.queue q).stack = popLoops ((l.pc : Int) + i32At c 12) (s.queue q).stack ∧
          (u.queue q).run = some { l with pc := ((l.pc : Int) + i32At c 12).toNat }) ∧
        (branchTest c v = false → (u.queue q).stack = (s.queue q).stack ∧
          (u.queue q).run = some { l with pc := l.pc + 1 }))

/-- The branch tests: NaN, unsigned comparisons, and the two mask tests -/
def Obligations.BranchTestsFollowTheTable : Prop :=
  ∀ (c : Line) (v : SlotVal),
    ((v.kind.toNat ≤ 5 ∨ v.kind.toNat = 7) → f32 (v.value.toNat % 2 ^ 32) = .nan → fld c 9 1 ≤ 5 →
      (branchTest c v = true ↔ fld c 9 1 = 1)) ∧
    (5 < v.kind.toNat → v.kind.toNat ≠ 7 →
      (fld c 9 1 = 0 → (branchTest c v = true ↔ v.value.toNat = fld c 16 8)) ∧
      (fld c 9 1 = 1 → (branchTest c v = true ↔ v.value.toNat ≠ fld c 16 8)) ∧
      (fld c 9 1 = 2 → (branchTest c v = true ↔ v.value.toNat < fld c 16 8)) ∧
      (fld c 9 1 = 3 → (branchTest c v = true ↔ v.value.toNat ≤ fld c 16 8)) ∧
      (fld c 9 1 = 4 → (branchTest c v = true ↔ fld c 16 8 < v.value.toNat)) ∧
      (fld c 9 1 = 5 → (branchTest c v = true ↔ fld c 16 8 ≤ v.value.toNat))) ∧
    (fld c 9 1 = 6 → (branchTest c v = true ↔ ∃ b, v.value.toNat.testBit b = true ∧ (fld c 16 4).testBit b = true)) ∧
    (fld c 9 1 = 7 → (branchTest c v = true ↔ ∀ b, b < 32 → v.value.toNat.testBit b = true → (fld c 16 4).testBit b = false))

/-- WAIT_COUNTER waits until the counter has passed its value; FENCE until the queue's commands and stores are done -/
def Obligations.WaitsOfTheControlCore : Prop :=
  ∀ (q : Fin 256) (c : Line) (l : ListRun) (s : State), Takes s q l c [] [] →
    (s.headerFail q c waitReserved = none →
      ∃ u, exec (.waitCounter q c) s = .next u.settled ∧ OnlyChanges [.queues] s u ∧
        (u.queue q).run =
          some { l with wait := .counter l.pc c (bitsAt c 8 0 12) (BitVec.ofNat 64 (fld c 16 8)) s.now (fld c 24 8) } ∧
        ((u.waitEnd q).isSome = true ↔ (s.counter (bitsAt c 8 0 12) - BitVec.ofNat 64 (fld c 16 8)).toNat < 2 ^ 63)) ∧
    (s.headerFail q c [] = none →
      ∃ u, exec (.fence q c) s = .next u.settled ∧
        OnlyChanges [.queues, .egress, .dict, .ports, .streamsOut, .reqs, .nextTag] s u ∧
        (u.queue q).run = some { l with wait := .fence l.pc c s.now } ∧
        ((u.waitEnd q).isSome = true ↔ (s.queue q).started = [] ∧ u.storesOut q = false))

/-- A WAIT_COUNTER whose timeout passes first completes with WAIT_TIMEOUT; before that nothing happens -/
def Obligations.WaitCounterTimesOut : Prop :=
  ∀ (q : Fin 256) (t : Nat) (s : State) (l : ListRun) (idx : Nat) (hdr : Line) (n : Nat) (v : BitVec 64) (since timeout : Nat),
    (s.queue q).run = some l → l.wait = .counter idx hdr n v since timeout →
    (timeout ≠ 0 → since + timeout ≤ (s.tick t).now → ¬ (s.counter n - v).toNat < 2 ^ 63 → HasRoom s q hdr St.waitTimeout →
      ∃ (u : State) (f : Fail), f.st = St.waitTimeout ∧
        exec (.waitCounterTimeout q t) s = .next (u.finish q ((s.queue q).waiting l idx hdr since) f).settled ∧
        OnlyChanges [.queues, .now] s u ∧ u.now = (s.tick t).now ∧
        (u.queue q).run = some { l with wait := .none, pc := l.pc + 1 }) ∧
    ((timeout = 0 ∨ (s.tick t).now < since + timeout) → exec (.waitCounterTimeout q t) s = .next (s.tick t))

/-- SIGNAL_COUNTER of this module adds to or sets its counter, after every earlier command of its queue -/
def Obligations.SignalUpdatesItsCounter : Prop :=
  ∀ (q : Fin 256) (c : Line) (l : ListRun) (s : State),
    Takes s q l c [] [] → s.headerFail q c signalReserved = none →
    ((s.queue q).started ≠ [] → exec (.signalCounter q c) s = .next s) ∧
    ((s.queue q).started = [] → s.localNode (fld c 12 2) = true →
      ∃ u, exec (.signalCounter q c) s = .next u.settled ∧ OnlyChanges [.queues, .counters, .ingress, .bankAt] s u ∧
        (u.queue q).run = some { l with wait := .signal l.pc c s.now } ∧
        (s.bankFree (bitsAt c 8 0 12 / 256) = true → u.ingress = s.ingress ∧
          (u.counter (bitsAt c 8 0 12) = if bitAt c 10 0 then BitVec.ofNat 64 (fld c 16 8)
            else s.counter (bitsAt c 8 0 12) + BitVec.ofNat 64 (fld c 16 8)) ∧
          ∀ m, m ≠ bitsAt c 8 0 12 → u.counter m = s.counter m) ∧
        (s.bankFree (bitsAt c 8 0 12 / 256) = false → u.counters = s.counters ∧
          u.ingress = s.ingress ++ [signalUpdate s q c]))

/-- Every FP4 code has the value of its sign, exponent and mantissa -/
def Obligations.Fp4CodesHaveTheirValues : Prop :=
  ∀ c : Nat, c < 16 →
    (c / 2 % 4 = 0 → Fmt.decode .fp4 c = .fin (c.testBit 3) (c % 2) (-1)) ∧
    (c / 2 % 4 ≠ 0 → Fmt.decode .fp4 c = .fin (c.testBit 3) (2 + c % 2) (((c / 2 % 4 : Nat) : Int) - 2))

/-- Every E4M3 and E5M2 code has the value its rule gives -/
def Obligations.Fp8CodesHaveTheirValues : Prop :=
  ∀ c : Nat, c < 256 →
    (c % 128 = 0x7F → Fmt.decode .e4m3 c = .nan) ∧
    (c / 8 % 16 = 0 → Fmt.decode .e4m3 c = .fin (c.testBit 7) (c % 8) (-9)) ∧
    (c / 8 % 16 ≠ 0 → c % 128 ≠ 0x7F →
      Fmt.decode .e4m3 c = .fin (c.testBit 7) (8 + c % 8) (((c / 8 % 16 : Nat) : Int) - 10)) ∧
    (c / 4 % 32 = 0 → Fmt.decode .e5m2 c = .fin (c.testBit 7) (c % 4) (-16)) ∧
    (c / 4 % 32 ≠ 0 → c / 4 % 32 ≠ 31 →
      Fmt.decode .e5m2 c = .fin (c.testBit 7) (4 + c % 4) (((c / 4 % 32 : Nat) : Int) - 17)) ∧
    (c / 4 % 32 = 31 → c % 4 = 0 → Fmt.decode .e5m2 c = .inf (c.testBit 7)) ∧
    (c / 4 % 32 = 31 → c % 4 ≠ 0 → Fmt.decode .e5m2 c = .nan)

/-- Conversion to INT8 and INT4 under RN: nearest integer, ties to even, saturation at 127 and 7 -/
def Obligations.IntegerConversionIsNearest : Prop :=
  ∀ (f : Fmt) (sat neg : Bool) (m : Nat) (e : Int), f = .int8 ∨ f = .int4 →
    (f.exceeds m e = true → convert f sat .rn (.fin neg m e) = ⟨f.withSign neg f.maxCode, Flag.saturated⟩) ∧
    (f.exceeds m e = false → ∃ n, n ≤ f.maxCode ∧ (convert f sat .rn (.fin neg m e)).code = f.withSign neg n ∧
      f.decode (f.withSign neg n) = Val.ofInt (if neg then -(n : Int) else n) ∧
      (0 ≤ e → n = m * 2 ^ e.toNat) ∧
      (e < 0 → 2 * (n * 2 ^ (-e).toNat - m) ≤ 2 ^ (-e).toNat ∧ 2 * (m - n * 2 ^ (-e).toNat) ≤ 2 ^ (-e).toNat ∧
        (2 * (n * 2 ^ (-e).toNat - m) = 2 ^ (-e).toNat ∨ 2 * (m - n * 2 ^ (-e).toNat) = 2 ^ (-e).toNat → n % 2 = 0)))

/-- A product of LNS8 codes: L = La + Lb - 64, XOR of the signs, underflow to zero, saturation, zero and NaR -/
def Obligations.LnsProductsFollowTheirRule : Prop :=
  ∀ a b : Nat, a < 256 → b < 256 →
    (a = 0x80 ∨ b = 0x80 → (lnsMul a b).code = 0x80) ∧
    (a ≠ 0x80 → b ≠ 0x80 → a = 0 ∨ b = 0 → lnsMul a b = ⟨0, 0⟩) ∧
    (a % 128 ≠ 0 → b % 128 ≠ 0 →
      (65 ≤ a % 128 + b % 128 → a % 128 + b % 128 ≤ 191 →
        lnsMul a b = ⟨a % 128 + b % 128 - 64 + (if a / 128 = b / 128 then 0 else 128), 0⟩) ∧
      (a % 128 + b % 128 ≤ 64 → lnsMul a b = ⟨0, Flag.underflow⟩) ∧
      (192 ≤ a % 128 + b % 128 → lnsMul a b = ⟨127 + (if a / 128 = b / 128 then 0 else 128), Flag.saturated⟩))

/-- A creation makes its handle live, with its residual where error feedback is on, and touches no other handle -/
def Obligations.CreationMakesItsTensors : Prop :=
  ∀ (s u : State) (h : Nat) (d : Line), s.create h d = some u →
    OnlyChanges [.fresh, .mem, .marks, .tensors, .alloc] s u ∧
    (descFeedback d = false → (∃ t, u.tensor h = some t ∧ t.owner = 0) ∧ ∀ j, j ≠ h → u.tensor j = s.tensor j) ∧
    (descFeedback d = true → descResidual d ≠ h → (∃ t, u.tensor h = some t ∧ t.owner = 0) ∧
      (∃ t, u.tensor (descResidual d) = some t ∧ t.owner = h) ∧
      ∀ j, j ≠ h → j ≠ descResidual d → u.tensor j = s.tensor j)

/-- TENSOR_CREATE, TENSOR_FREE and TENSOR_ATTR: what each does when it is taken -/
def Obligations.TensorCommandsComplete : Prop :=
  ∀ (q : Fin 256) (c host d : Line) (l : ListRun) (s : State) (h : Nat), h = handleAt c 8 → Takes s q l c [] [h] →
    (s.headerFail q c [] = none → s.fetchDesc (fld c 16 8) host = (d, none) →
      (s.createFail h d = none → s.unscrubbed h d = true →
        ∃ u st, exec (.tensorCreate q c host) s = .next u ∧ OnlyChanges [.queues, .dict] s u ∧
          (u.queue q).run = some { l with pc := l.pc + 1 } ∧ (u.queue q).started = (s.queue q).started ++ [st] ∧
          st.cmd = c ∧ st.index = l.pc ∧ st.reads = [] ∧ st.writes = [h] ∧ st.work = .create d s.now ∧ st.done = false) ∧
      (s.createFail h d = none → s.unscrubbed h d = false → ∀ u, (s.passed q l c).create h d = some u → HasRoom s q c 0 →
        exec (.tensorCreate q c host) s = .next (u.completed s q l c .ok)) ∧
      (h ≠ 0 → (s.tensor h).isSome = true → HasRoom s q c St.handleInUse →
        ∃ f : Fail, f.st = St.handleInUse ∧ f.handle = h ∧
          exec (.tensorCreate q c host) s = .next ((s.passed q l c).completed s q l c f))) ∧
    (∀ t, s.headerFail q c [] = none → s.tensor h = some t → t.owner = 0 →
      (s.freeWaits h = true → exec (.tensorFree q c) s = .next s) ∧
      (s.freeWaits h = false → HasRoom s q c 0 →
        ∃ u : State, exec (.tensorFree q c) s = .next (u.completed s q l c .ok) ∧ OnlyChanges [.queues, .tensors, .alloc] s u ∧
          u.tensor h = none ∧ (descFeedback t.desc = true → u.tensor (descResidual t.desc) = none) ∧
          ∀ j, j ≠ h → (descFeedback t.desc = true → j ≠ descResidual t.desc) → u.tensor j = s.tensor j)) ∧
    (∀ t b, b = fld c 11 1 → s.headerFail q c [(11, 6, 2)] = none → s.tensor h = some t → t.owner = 0 →
      (b.testBit 2 = true → b / 8 % 4 ≠ 3 ∧ (b / 8 % 4 = 0 ∨ s.mayMirror h (b / 8 % 4) = true)) → HasRoom s q c 0 →
      ∃ u : State, exec (.tensorAttr q c) s = .next (u.completed s q l c .ok) ∧ OnlyChanges [.queues, .tensors] s u ∧
        (∀ j, j ≠ h → u.tensor j = s.tensor j) ∧
        u.tensor h = some { t with
          desc := if b.testBit 5 then descSetBit t.desc 3 0 false else t.desc,
          verdictNext := if b.testBit 0 then some (b.testBit 1) else t.verdictNext,
          mirrorNext := if b.testBit 2 then some (b / 8 % 4) else t.mirrorNext })

/-- SCRUB zeroes the released frames of its package and hands them out again -/
def Obligations.ScrubZeroesReleasedFrames : Prop :=
  ∀ (p : Fin 32) (n : Nat) (s : State), n ≤ 65536 →
    (s.alloc.dirty.filter (fun f => f / pkgFrames == p.val)).length ≤ n → s.alloc.dirty.Nodup →
    ∃ u : State, exec (.scrub p n) s = .next u.resumeCreates ∧ OnlyChanges [.mem, .marks, .alloc] s u ∧
      u.alloc.dirty = s.alloc.dirty.filter (fun f => f / pkgFrames != p.val) ∧
      (∀ f ∈ s.alloc.dirty, f / pkgFrames = p.val → s.frameUse f = .free →
        ∀ a, f * 2 ^ 21 ≤ a → a < (f + 1) * 2 ^ 21 → u.rd a = 0) ∧
      (∀ a, u.rd a = s.rd a ∨ u.rd a = 0)

/-- MATMUL, VECTOR and UPDATE that pass their checks start: numbered in list order, with the handles they read and write -/
def Obligations.EngineCommandsStart : Prop :=
  ∀ (q : Fin 256) (rd : CmdRead) (c : Line) (l : ListRun) (s : State), c = rd.line →
    (∀ p ins outs, p = (s.fetchProg (fld c 18 2) 18 true).1 →
      ins = handlesAt c [8, 11] ++ (epiNamed p [0, 1, 2, 4]).map (·.2) →
      outs = handlesAt c [14] ++ (epiNamed p [3]).map (·.2) →
      Takes s q l c ins outs → s.matmulFail q c = none →
      (s.matmulWaits c p = true → ∃ u : State, exec (.matmul q rd) s = .next u ∧ OnlyChanges [.queues] s u ∧
        (u.queue q).run = (s.queue q).run ∧ (u.queue q).started = (s.queue q).started) ∧
      (s.matmulWaits c p = false → s.accessTensors ins outs = (s, true) →
        mmTiles c ≠ 0 → mmK c ≠ 0 → ((s.readErrors rd).fetchProg (fld c 18 2) 18 true).1 = p →
        ∃ u st w, exec (.matmul q rd) s = .next u ∧
          StartsIn s u q l c ins (handleAt c 14 :: (epiNamed p [3]).map (·.2)) st ∧
          st.work = .matmul w ∧ w.next = 0 ∧ w.finished = 0 ∧ w.total = mmTiles c * w.parts)) ∧
    (Takes s q l c (handlesAt c [8, 11, 14, 23]) (handlesAt c [17, 20]) → s.vectorFail q c = none →
      (s.vectorWaits c = true → ∃ u : State, exec (.vector q rd) s = .next u ∧ OnlyChanges [.queues] s u ∧
        (u.queue q).run = (s.queue q).run ∧ (u.queue q).started = (s.queue q).started) ∧
      (s.vectorWaits c = false → s.accessTensors (handlesAt c [8, 11, 14, 23]) (handlesAt c [17, 20]) = (s, true) →
        ∃ u st prog xs, exec (.vector q rd) s = .next u.runVectors ∧
          StartsIn s u q l c (handlesAt c [8, 11, 14, 23]) (handlesAt c [17, 20]) st ∧
          st.clusters = shareBits xs ∧ st.work = .vector prog xs ∧ st.done = false)) ∧
    (Takes s q l c (handlesAt c [8, 11, 14, 17]) (handlesAt c [8, 14, 17, 20, 23]) → s.updateFail q c = none →
      ((s.updateRuns c = true ∨ (handlesAt c [20, 23]).any s.epochOwed = true ∨
          s.memoryWaits (handlesAt c [8, 11, 14, 17, 20, 23]) = true) →
        ∃ u : State, exec (.update q rd) s = .next u ∧ OnlyChanges [.queues] s u ∧
          (u.queue q).run = (s.queue q).run ∧ (u.queue q).started = (s.queue q).started) ∧
      (s.updateRuns c = false → (handlesAt c [20, 23]).any s.epochOwed = false →
        s.memoryWaits (handlesAt c [8, 11, 14, 17, 20, 23]) = false →
        s.accessTensors (handlesAt c [8, 11, 14, 17]) (handlesAt c [8, 14, 17, 20, 23]) = (s, true) →
        ∃ u st prog xs, exec (.update q rd) s = .next u ∧
          StartsIn s u q l c (handlesAt c [8, 11, 14, 17]) (handlesAt c [8, 14, 17, 20, 23]) st ∧ st.clusters = shareBits xs ∧
          (bitAt c 28 3 = true → (s.step.nf || s.step.void) = true → st.done = true) ∧
          ((bitAt c 28 3 = false ∨ (s.step.nf || s.step.void) = false) → st.done = false ∧ ∃ ys, st.work = .update prog ys ∧
            ys.map (fun y => y.cluster) = xs.map (fun y => y.cluster))))

/-- UPDATE acts on the final verdict: it waits, completes with VERDICT_INCOMPLETE or STEP_SKIPPED having written nothing, or
runs -/
def Obligations.VerdictDecidesTheUpdate : Prop :=
  ∀ (q : Fin 256) (id : Nat) (s : State) (st : Started) (prog : BitVec 1024) (shares : List Share), s.twin.tees = [] →
    s.startedOf q id = some st → st.work = .update prog shares → st.done = false →
    (s.verdictFinal st.cmd = false → exec (.updateVerdictAction q id) s = .next s) ∧
    (s.verdictFinal st.cmd = true → bitAt st.cmd 28 3 = false → s.step.broken = true →
      ∃ u st', exec (.updateVerdictAction q id) s = .next u ∧ OnlyChanges [.queues, .dict, .clusters, .regions] s u ∧
        u.startedOf q id = some st' ∧ st'.done = true ∧ st'.status = worse st.status St.verdictIncomplete) ∧
    (s.verdictFinal st.cmd = true → (bitAt st.cmd 28 3 = true ∨ s.step.broken = false) → s.verdictSkips st.cmd = true →
      ∃ u st', exec (.updateVerdictAction q id) s = .next u ∧ OnlyChanges [.queues, .dict, .clusters, .regions] s u ∧
        u.startedOf q id = some st' ∧ st'.done = true ∧ st'.status = worse st.status St.stepSkipped) ∧
    (s.verdictFinal st.cmd = true → (bitAt st.cmd 28 3 = true ∨ s.step.broken = false) → s.verdictSkips st.cmd = false →
      (s.verdictOpen st.cmd = true → exec (.updateVerdictAction q id) s = .next s) ∧
      (s.verdictOpen st.cmd = false → ∀ w st1 prog1 shares1 ins outs, w = s.slotShares → w.startedOf q id = some st1 →
        st1.work = .update prog1 shares1 → outs = handlesAt st1.cmd [8, 14, 17, 20, 23] →
        ins = handlesAt st1.cmd [8, 11, 14, 17] ++ (w.residualRead st1.cmd prog1).map (·.2) →
        (w.updateHeld q st1 = true → exec (.updateVerdictAction q id) s = .next w) ∧
        (w.updateHeld q st1 = false → w.engineStop ins outs ≠ 0 →
          ∃ u st', exec (.updateVerdictAction q id) s = .next u ∧ OnlyChanges [.queues, .dict, .clusters, .regions] w u ∧
            u.startedOf q id = some st' ∧ st'.done = true ∧ st'.status = worse st1.status (w.engineStop ins outs)) ∧
        (w.updateHeld q st1 = false → w.engineStop ins outs = 0 → w.memoryWaits (ins ++ outs) = false →
          (outs.any w.tensorBarred = true → exec (.updateVerdictAction q id) s = .next (w.barAct q st1 outs)) ∧
          (outs.any w.tensorBarred = false → w.updateStages st1.cmd = false → w.updateIngress st1.cmd = 0 →
            ∀ x st2, x = State.runShares q st1.id st1.work.rounds (w.endHolds q st1) → x.startedOf q st1.id = some st2 →
            ((st2.sharesRan = false ∨ x.fetchesFor q st2.id = true) → exec (.updateVerdictAction q id) s = .next x) ∧
            (st2.sharesRan = true → x.fetchesFor q st2.id = false → x.memStatus (fld st2.cmd 32 8) 64 .command false = 0 →
              x.badRange (fld st2.cmd 32 8) 64 = false →
              ∃ u st', exec (.updateVerdictAction q id) s = .next u ∧ u.startedOf q id = some st' ∧ st'.work = .none ∧
                (st'.done = true ∨ st'.teeing = true))))))

/-- A channel admits its reads by round robin, and issues the oldest, one chosen, or one that has starved -/
def Obligations.ReadsAreAdmittedAndIssued : Prop :=
  ∀ (ch : Fin 128) (t : Nat) (s s1 : State) (reads : List LineRead), s1 = s.tick t → s1.cooling.stopped = false →
    ((s1.channel ch).admitted.length < 128 → (s1.package (ch / 4)).derate ≠ 3 → ∀ free src r,
      free = (s1.channel ch).ingress.filter (fun x => !s1.readBehind x) →
      roundRobin (s1.channel ch).lastSource (free.map (fun x => sourceOf x.pkt.via)) = some src →
      free.find? (fun x => sourceOf x.pkt.via == src) = some r →
      ∃ u : State, exec (.channelAdmit ch t) s = .next u ∧ OnlyChanges [.now, .dict, .channels] s u ∧
        u.dv 0x400700 = (s.dv 0x400700 + (s1.now - r.since)) % 256 ^ entrySize 0x400700 ∧
        (u.channel ch).admitted = (s1.channel ch).admitted ++ [s1.captured { r with since := s1.now }] ∧
        (u.channel ch).ingress = (s1.channel ch).ingress.erase r ∧ (u.channel ch).lastSource = src ∧
        ∀ j, j ≠ ch.val → u.channel j = s.channel j) ∧
    (128 ≤ (s1.channel ch).admitted.length → exec (.channelAdmit ch t) s = .next s1) ∧
    (∀ q rest, (s1.channel ch).admitted = q :: rest →
      (s1.now < q.since + 2000 → exec (.starvationCeiling ch reads t) s = .next s1 ∧
        ∀ (pick : Nat) x, (q :: rest)[pick]? = some x →
          exec (.channelRequest ch pick reads t) s = .next (s1.issueReq ch x reads).runTransfers.resumeCols) ∧
      (q.since + 2000 ≤ s1.now →
        exec (.starvationCeiling ch reads t) s = .next ((s1.bump 0x400600 1).issueReq ch q reads).runTransfers.resumeCols ∧
        ∀ pick, exec (.channelRequest ch pick reads t) s = .next ((s1.bump 0x400600 1).issueReq ch q reads).runTransfers.resumeCols)) ∧
    ∀ (v : State) (x : ChanReq), ∃ w, OnlyChanges [.channels] v w ∧ (w.channel ch).admitted = (v.channel ch).admitted.erase x ∧
      (v.offline (ch / 4) = true → v.issueReq ch x reads = w.nakTo x.pkt St.memoryOffline) ∧
      (v.offline (ch / 4) = false → (v.package (ch / 4)).critical = true →
        v.issueReq ch x reads = w.nakTo x.pkt St.memoryCritical) ∧
      (v.offline (ch / 4) = false → (v.package (ch / 4)).critical = false → ∃ (y : State) (bytes : List Byte) (bad : Bool),
        v.issueReq ch x reads = y.dataTo x.pkt bytes bad ∧ (x.bad = true → bad = true) ∧
        (bad = true → bytes = List.replicate (pktBytes x.pkt) 0) ∧
        (bad = false → bytes = x.data ∨ bytes = y.localBytes x.line (pktBytes x.pkt)))

/-- The adders: an operation is performed and uses its entry, or waits at the ingress; waiters go on; idle entries write
back -/
def Obligations.AddersPerformOrQueue : Prop :=
  ∀ (t : Nat) (rd : LineRead) (s s1 : State), s1 = s.tick t →
    (∀ (a : BitVec 48) (near : Nat) (o : AdderOp) (n : Nat) (v : State), place a.toNat = .lpddr near →
      s1.behindOthers o = false → s1.memStatus near n .command true = 0 → s1.adderHold near = none → s1.access near true = (s1, true) →
      v = (s1.retireLine (lineOf near) rd).wakeChannel (chanOf near) → v.badRange (lineOf near) 64 = false →
      (∀ k data, o = .line a k data → n = 64 → a.toNat % 64 = 0 → data.length = 64 →
        ∃ u : State, exec (.adderOperation ⟨o, rd, none⟩ t) s = .next u.settled ∧
          u.mem = (v.wrBytes (lineOf near) (addBytes k (v.rdBytes (lineOf near) 64) data).1).mem ∧
          ∃ e ∈ (u.channel (chanOf near)).entries, e.line = lineOf near ∧ e.last = v.now) ∧
      (∀ x, o = .atom a x → n = atomBytes x → a.toNat % atomBytes x = 0 →
        ∃ u : State, exec (.adderOperation ⟨o, rd, none⟩ t) s = .next u.settled ∧
          u.mem = (v.wrNat near (atomBytes x) (atomNew x (v.rdNat near (atomBytes x)))).mem ∧
          ∃ e ∈ (u.channel (chanOf near)).entries, e.line = lineOf near ∧ e.last = v.now)) ∧
    (∀ o, s1.behindOthers o = true → ∃ u : State, exec (.adderOperation ⟨o, rd, none⟩ t) s = .next u.settled ∧
      OnlyChanges [.channels, .arrivals] s1 u ∧ (u.channel (s1.opChannel o)).adderWait = (s1.channel (s1.opChannel o)).adderWait ++
        [{ op := o, source := 0, since := s1.now, reply := none, key := if s1.behindEntries o then 0x400800 else 0,
           ord := s1.arrivals }]) ∧
    (∀ (o : AdderOp) (n : Fin 256) e, s1.behindOthers o = true → (s1.channel (s1.opChannel o)).entries[n.val]? = some e →
      chanOf e.line = s1.opChannel o →
      ∃ (u : State) (r : ErrRecord), exec (.adderOperation ⟨o, rd, some n⟩ t) s = .next (u.record r).settled ∧ r.cls = 0xA007 ∧
        (∀ x ∈ (u.channel (chanOf e.line)).entries, x.line ≠ e.line) ∧ (e.line % 64 = 0 → e.line < 2 ^ 41 → u.badRange e.line 64 = true)) ∧
    (∀ (ch : Fin 128) w ws x, (s1.channel ch).adderOrder = w :: ws → w.reply = none → w.key ≠ 0 →
      (s1.opLines w.op).any (fun l => s1.waitsAt l w.ord) = false →
      s1.tryOp w.op .command s1.node w.source = .done x →
      ∃ u : State, exec (.adderAdmit ch t) s = .next (u.retryLines).goOn ∧ OnlyChanges [.dict, .channels] x.s u ∧
        (u.channel ch).adderWait = (x.s.channel ch).adderWait.erase w ∧ (u.channel ch).adderLast = w.source ∧
        u.dv w.key = (x.s.dv w.key + (x.s.now - w.since)) % 256 ^ entrySize w.key) ∧
    (∀ (ch : Fin 128) (idle : AdderEntry → Prop),
      (∀ e, idle e ↔ 256 * 10 * [12, 10, 9, 8, 7, 6, 5, 4].getD (s.region (ctrlRegion (ch / 4))).point 4 ≤ (s1.now - e.last) * 108) →
      ((∃ e ∈ (s.channel ch).entries, idle e) → ∃ u : State, exec (.adderWriteBack ch t) s = .next u.runTransfers.resumeCols ∧
        OnlyChanges [.now, .channels] s u ∧ ∀ e, e ∈ (u.channel ch).entries ↔ e ∈ (s.channel ch).entries ∧ ¬ idle e) ∧
      ((∀ e ∈ (s.channel ch).entries, ¬ idle e) → (s.channel ch).entries.length < 256 →
        exec (.adderWriteBack ch t) s = .next s1.runTransfers.resumeCols)) ∧
    (∀ w ws x, s1.stageWait = w :: ws → s1.tryOp w.1 .command s1.node 0 = .done x →
      ∃ u : State, exec (.stagingFrameGrant t) s = .next (((u.runTransfers).runEngines).settled).resumeCols ∧
        OnlyChanges [.dict, .stageWait] x.s u ∧
        u.stageWait = x.s.stageWait.erase w ∧ u.dv 0x801300 = (x.s.dv 0x801300 + (x.s.now - w.2)) % 256 ^ entrySize 0x801300)

/-- Partial stores: applied and combined in the buffer of their channel, waiting where it is full, retired after 500 ns -/
def Obligations.PartialStoresCombine : Prop :=
  ∀ (t : Nat) (s s1 : State), s1 = s.tick t →
    (∀ (addr : BitVec 48) (mask : BitVec 64) (data : List Byte) (near : Nat), place addr.toNat = .lpddr near →
      s1.memStatus addr.toNat 1 .command true = 0 → s1.waitsAt (lineOf near) s1.arrivals = false →
      (s1.wcHold (lineOf near) mask false = none → s1.barred (lineOf near) = false → s1.access (lineOf near) true = (s1, true) →
        ∃ u : State, exec (.wcPartialStore addr mask data t) s = .next u ∧
          (mask = BitVec.allOnes 64 → u.mem = (s1.wrMasked (lineOf near) (maskedBytes mask data)).mem ∧
            ∀ e ∈ (u.channel (chanOf (lineOf near))).wc, e.line ≠ lineOf near) ∧
          (mask ≠ BitVec.allOnes 64 → (s1.channel (chanOf (lineOf near))).wc.length < 64 →
            (∀ e ∈ (s1.channel (chanOf (lineOf near))).wc, e.line ≠ lineOf near) →
            u.mem = (s1.wrMasked (lineOf near) (maskedBytes mask data)).mem ∧
            (u.channel (chanOf (lineOf near))).wc = (s1.channel (chanOf (lineOf near))).wc ++
              [{ line := lineOf near, mask := mask, last := s1.now, source := s1.node }])) ∧
      (∀ key v, s1.wcHold (lineOf near) mask false = some key → key ≠ 0x400900 →
        v = (if key = 0x601900 then s1.meetBarrier (lineOf near) else s1) →
        ∃ u : State, exec (.wcPartialStore addr mask data t) s = .next u ∧ OnlyChanges [.channels, .arrivals] v u ∧
          (u.channel (chanOf (lineOf near))).wcWait = (s1.channel (chanOf (lineOf near))).wcWait ++
            [{ line := lineOf near, mask := mask, data := data, source := s1.node, since := s1.now, key := key, ord := s1.arrivals }])) ∧
    (∀ (addr : BitVec 48) (mask : BitVec 64) (data : List Byte), place addr.toNat = .unmapped →
      ∃ r : ErrRecord, exec (.wcPartialStore addr mask data t) s = .next (s1.record r) ∧ r.cls = 0x4006 ∧ r.status = St.addressUnmapped) ∧
    (∀ (ch : Fin 128) w ws v, (s1.channel ch).storeOrder = w :: ws → w.reply = none → w.key ≠ 0 → s1.waitsAt w.line w.ord = false →
      s1.tryPartial w.line w.mask w.data w.source w.poison = (v, none) →
      ∃ u : State, exec (.wcAdmit ch t) s = .next (u.retryLines).goOn ∧ OnlyChanges [.dict, .channels] v u ∧
        (u.channel ch).wcWait = (v.channel ch).wcWait.erase w ∧
        u.dv w.key = (v.dv w.key + (v.now - w.since)) % 256 ^ entrySize w.key) ∧
    (∀ (ch : Fin 128) (r : LineRead),
      (∀ e, (s1.channel ch).wc.find? (fun e => decide (e.last + 500 ≤ s1.now)) = some e →
        ∃ (u v : State) (o : LineOutcome), exec (.wcRetireTimeout ch r t) s = .next u ∧ OnlyChanges [.dict, .channels] s1 v ∧ o = v.lineOutcome e.line r ∧
          v.dv 0x400B00 = (s1.dv 0x400B00 + 1) % 256 ^ entrySize 0x400B00 ∧
          (∀ x, x ∈ (v.channel (chanOf e.line)).wc ↔ x ∈ (s1.channel (chanOf e.line)).wc ∧ x.line ≠ e.line) ∧
          (o = .clean → u = v.setMark (markKey e.line) .good) ∧
          (o = .poison ∨ o = .failed ∨ o = .address → u.mark (markKey e.line) = .poisoned)) ∧
      ((∀ e ∈ (s1.channel ch).wc, s1.now < e.last + 500) → exec (.wcRetireTimeout ch r t) s = .next s1))

/-- Refresh, power-down and patrol scrub of a channel -/
def Obligations.ChannelsAreKept : Prop :=
  ∀ (ch : Fin 128) (t : Nat) (r : LineRead) (s s1 : State), s1 = s.tick t →
    (s.chanServes ch = true → ∃ u : State, exec (.refresh ch) s = .next u ∧ OnlyChanges [.channels] s u ∧ (∀ j, j ≠ ch.val → u.channel j = s.channel j) ∧
      ((85 < (s.package (ch / 4)).celsius ∨ (s.package (ch / 4)).derate ≠ 0) →
        u.channel ch = { s.channel ch with fastRefreshes := (s.channel ch).fastRefreshes + 1 }) ∧
      ((s.package (ch / 4)).celsius ≤ 85 → (s.package (ch / 4)).derate = 0 →
        u.channel ch = { s.channel ch with refreshes := (s.channel ch).refreshes + 1 })) ∧
    (s.chanServes ch = false → exec (.refresh ch) s = .next s) ∧
    (s1.chanServes ch = true → (s1.channel ch).admitted = [] → (s1.channel ch).ingress = [] →
      ((s1.channel ch).lastUse + 1000 ≤ s1.now → ∃ u : State, exec (.channelPowerDown ch t) s = .next u ∧ OnlyChanges [.channels] s1 u ∧
        u.channel ch = { s1.channel ch with powerDown := true } ∧ ∀ j, j ≠ ch.val → u.channel j = s.channel j) ∧
      (s1.now < (s1.channel ch).lastUse + 1000 → exec (.channelPowerDown ch t) s = .next s1)) ∧
    (s1.mayScrub ch = true → ∃ u : State, exec (.patrolScrub ch r t) s = .next (u.decodeLine (chanAddr ch (64 * (s.channel ch).patrolNext)) r) ∧
      OnlyChanges [.channels] s1 u ∧ (∀ j, j ≠ ch.val → u.channel j = s.channel j) ∧
      (u.channel ch).patrolNext = ((s.channel ch).patrolNext + 1) % 2 ^ 28 ∧ (u.channel ch).powerDown = false ∧
      (u.channel ch).lastUse = s1.now ∧ ((s.channel ch).patrolNext = 0 → (u.channel ch).patrolSince = some s1.now)) ∧
    (s1.mayScrub ch = false → exec (.patrolScrub ch r t) s = .next s1)

/-- A reading derates its package at once; a state is left after 10 ms below its threshold; 1 s at 105 C is critical -/
def Obligations.PackagesDerateByTemperature : Prop :=
  ∀ (p : Fin 32) (celsius : Int) (t : Nat) (s s1 : State), s1 = s.tick t →
    ((s.package p).critical = false → ∃ u : State, OnlyChanges [.dict, .packages] s1 u ∧ (∀ j, j ≠ p.val → u.package j = s.package j) ∧
      exec (.temperatureReadout p celsius t) s =
        .next (if (s.package p).derate < derateLevel celsius then u.setDerate p (derateLevel celsius) else u) ∧
      (u.package p).celsius = celsius ∧ u.dv (0x400101 + p) = f32RatioInt celsius 1 ∧ (u.package p).derate = (s.package p).derate ∧
      (∀ l, l ∈ [1, 2, 3] → look none (u.package p).coolSince l =
        if celsius < exitBelow l then some ((look none (s.package p).coolSince l).getD s1.now) else none) ∧
      (u.package p).critSince = if 105 ≤ celsius then some ((s.package p).critSince.getD s1.now) else none) ∧
    (∀ since, (s.package p).derate ≠ 0 → look none (s.package p).coolSince (s.package p).derate = some since →
      (since + 10000000 ≤ s1.now → exec (.deratingExit p t) s =
        .next (((if (s.package p).derate = 3 then s1.countCritical p else s1).setDerate p ((s.package p).derate - 1)).runTransfers).settled.resumeCols) ∧
      (s1.now < since + 10000000 → exec (.deratingExit p t) s = .next s1)) ∧
    ((s.package p).derate = 0 → exec (.deratingExit p t) s = .next s1) ∧
    (∀ since, (s.package p).critSince = some since → (s.package p).derate = 3 → (s.package p).critical = false →
      (s.package p).offline = false →
      (since + 1000000000 ≤ s1.now → ∃ u : State, exec (.criticalSelfRefresh p t) s =
          .next ((u.failWaiting p St.memoryCritical).runTransfers).settled.resumeCols ∧
        OnlyChanges [.dict, .packages, .channels] s1 u ∧ (u.package p).critical = true ∧
        ∀ i, i < 4 → (u.channel (4 * p + i)).selfRefresh = true) ∧
      (s1.now < since + 1000000000 → exec (.criticalSelfRefresh p t) s = .next s1))

/-- COPY, ADD and FILL that pass their checks start on their cluster: on its first free channel, or last among those that
wait -/
def Obligations.TransfersStart : Prop :=
  ∀ (q : Fin 256) (rd : CmdRead) (c : Line) (l : ListRun) (op : Nat) (e : Instr) (s w : State) (hs : List Nat), c = rd.line →
    (op = 0x40 ∧ e = .copy q rd ∨ op = 0x41 ∧ e = .add q rd ∨ op = 0x42 ∧ rd = { line := c } ∧ e = .fill q c) →
    w = s.readErrors rd → hs = (if xBook op c then [xHandle c] else []) → Takes s q l c [] hs → s.transferFail q op c = none →
    (hs.any s.epochOwed = true → exec e s = .next s) ∧
    (hs.any s.epochOwed = false → ∃ (v : State) (st : Started), StartsIn s v q l c [] hs st ∧ st.op = op ∧ st.done = false ∧
      st.work = .transfer { cluster := w.transferCluster op c } ∧ st.opens = hs ∧
      (∀ n, w.freeChan (w.transferCluster op c) = some n → (w.cluster (w.transferCluster op c)).chanWait = [] →
        exec e s = .next (v.takeChan q ((s.queue q).serial + 1) (w.transferCluster op c) n)) ∧
      (w.freeChan (w.transferCluster op c) = none ∨ (w.cluster (w.transferCluster op c)).chanWait ≠ [] →
        ∃ u : State, exec e s = .next u ∧ OnlyChanges [.clusters] v u ∧ (u.cluster (w.transferCluster op c)).chanWait =
          (w.cluster (w.transferCluster op c)).chanWait ++ [{ source := q, id := (s.queue q).serial + 1, since := s.now }]))

/-- A free channel goes to the first transfer that waits, a transaction to the next requester; the aperture lets its
transfer go on -/
def Obligations.TransferResourcesAreGranted : Prop :=
  ∀ (c : Fin 32) (t : Nat) (s s1 : State), s1 = s.tick t →
    (∀ n w, s1.freeChan c = some n → s1.firstWaiter (s1.cluster c).chanWait = some w →
      ∃ u : State, exec (.transferChannelGrant c t) s = .next (u.takeChan w.source w.id c n) ∧ OnlyChanges [.dict, .clusters] s1 u ∧
        u.dv 0xA05200 = (s1.dv 0xA05200 + (s1.now - w.since)) % 256 ^ entrySize 0xA05200 ∧
        ∀ x, x ∈ (u.cluster c).chanWait ↔ x ∈ (s1.cluster c).chanWait ∧ ¬ (x.source = w.source ∧ x.id = w.id)) ∧
    (s1.freeChan c = none → exec (.transferChannelGrant c t) s = .next s1) ∧
    (s1.inFlight c < 1536 → ∀ n w, roundRobin (s1.cluster c).txLast ((s1.cluster c).txWait.map (·.source)) = some n →
      (s1.cluster c).txWait.find? (fun x => x.source == n) = some w →
      ∃ u : State, OnlyChanges [.dict, .clusters] s1 u ∧ u.dv 0xA04800 = (s1.dv 0xA04800 + (s1.now - w.since)) % 256 ^ entrySize 0xA04800 ∧
        (u.cluster c).txLast = n ∧ (∀ x, x ∈ (u.cluster c).txWait ↔ x ∈ (s1.cluster c).txWait ∧ x.source ≠ n) ∧
        (n = 8 → exec (.transactionGrant c t) s = .next (u.pagerGrant c)) ∧
        (∀ q id, n ≠ 8 → (s1.chan c n).job = some (q, id) → exec (.transactionGrant c t) s = .next (u.runTransfer q id true))) ∧
    (1536 ≤ s1.inFlight c → exec (.transactionGrant c t) s = .next s1) ∧
    (∀ ch : Fin 8, s.twin.tees = [] →
      (∀ q id, (s.chan c ch).job = some (q, id) → exec (.apertureRelease c ch t) s = .next (s1.runTransfer q id)) ∧
      ((s.chan c ch).job = none → exec (.apertureRelease c ch t) s = .next s1))

/-- The read-back that returns ends a transfer, or lets its remote signal be sent; a signal's status ends it -/
def Obligations.TransfersEndDurable : Prop :=
  ∀ (q : Fin 256) (id t : Nat) (s s1 : State) (st : Started) (w : TransferWork), s1 = s.tick t → s.transferOf q id = some (st, w) →
    (w.phase = 1 → s1.backStatus st w = none → exec (.transferReadback q id t) s = .next s1) ∧
    (∀ bad, w.phase = 1 → s1.backStatus st w = some bad →
      ∃ v x : State, OnlyChanges [.egress, .marks, .dict, .log, .logSeq, .tensors, .channels, .packages, .ports, .traek, .mgmt] s1 v ∧ v = x.surge 0xA05400 w.since ∧
        exec (.transferReadback q id t) s = .next (
          if bad then v.endTransfer q id st.op st w (match w.fail with
            | some f => if f.2 = 0 then St.readbackFailed else f.2 | none => St.readbackFailed) true
          else if (s1.signalsAway st).isSome then v.onTransfer q id (fun y => { y with phase := 2 })
          else v.endTransfer q id st.op st w (match w.fail with | some f => f.2 | none => 0))) ∧
    (w.phase ≠ 1 → exec (.transferReadback q id t) s = .next s1) ∧
    (∀ n, w.phase = 2 → s.signalsAway st = some n → ∃ v status, s.ask n w.cluster {
          op := 0x02, flag := true, addr := 0x210000000000 + 8 * cmdCounter st.cmd, lines := 1, aop := 1, data := leBytes 8 1,
          owner := some (q.val, id), why := .signal } = (v, status) ∧
        (status ≠ 0 → exec (.transferRemoteSignal q id) s = .next (v.endTransfer q id st.op st w status)) ∧
        (status = 0 → exec (.transferRemoteSignal q id) s =
          .next ((v.onTransfer q id (fun y => { y with phase := 3 })).stageOver q id st.op))) ∧
    (w.phase ≠ 2 → exec (.transferRemoteSignal q id) s = .next s) ∧
    ∀ op status silent, ∃ st', (s.endTransfer q id op st w status silent).startedOf q id = some st' ∧ st'.done = true ∧ st'.work = .none ∧
      st'.silent = silent ∧ (st'.status = if status = 0 then st.status else status) ∧
      (s.endTransfer q id op st w status silent).dv 0xA05000 = (s.dv 0xA05000 + 1) % 256 ^ entrySize 0xA05000 ∧
      ∀ n, w.chan = some n → ((s.endTransfer q id op st w status silent).chan w.cluster n).job = none

/-- REDUCE, ALL_REDUCE, REDUCE_SCATTER, ALL_GATHER and BROADCAST that pass their checks start and wait for a place on an
engine -/
def Obligations.CollectivesStart : Prop :=
  ∀ (q : Fin 256) (c : Line) (l : ListRun) (e : Instr) (s : State),
    e ∈ [Instr.reduce q c, .allReduce q c, .reduceScatter q c, .allGather q c, .broadcast q c] →
    Takes s q l c (handlesAt c [8]) (handlesAt c [11]) → s.colFail q c = none →
    (s.colWaits c = true → ∃ u : State, exec e s = .next u ∧ OnlyChanges [.queues] s u ∧ (u.queue q).run = some l ∧
      (u.queue q).started = (s.queue q).started) ∧
    (s.colWaits c = false → s.accessTensors (handlesAt c [8]) (handlesAt c [11]) = (s, true) → s.accessGroup (fld c 14 2) = (s, true) →
      ∃ (v : State) (st : Started) (k : Collective), exec e s = .next v.goOnCol ∧
        StartsIn s v q l c (handlesAt c [8]) (handlesAt c [11]) st ∧ st.work = .collective k.id ∧
        v.collectives = s.collectives ++ [k] ∧ v.nextCollective = s.nextCollective + 1 ∧
        k.id = s.nextCollective ∧ k.q = q ∧ k.cmdId = (s.queue q).serial + 1 ∧ k.engine = 8 ∧ k.kind = cmdOp c ∧
        k.src = handleAt c 8 ∧ k.dst = handleAt c 11 ∧ k.first = fld c 24 8 ∧ k.count = fld c 32 8 ∧
        k.round = if bitsAt c 16 0 2 = 0 then s.dv 0x800100 % 4 else bitsAt c 16 0 2)

/-- CONTRIB and GATHER: put by, acknowledged as stale, refused as another command's, checked, and added to or written in the
destination -/
def Obligations.CollectiveChunksAreTaken : Prop :=
  ∀ (p : Packet) (op : Nat) (e : Instr) (s : State), (op = 0x20 ∧ e = .contrib p ∨ op = 0x21 ∧ e = .gather p) → Reaches s p →
    (p.via = .traek → exec e s = .next ((s.refusePacket p op St.reservedSet).bufferFreed p op)) ∧
    (∀ port, p.via = .fabric port →
      (s.collectiveFor p.data = none → s.colStale p.data = true → exec e s = .next ((s.colAck p 0).goOnCol.bufferFreed p op)) ∧
      (s.collectiveFor p.data = none → s.colStale p.data = false →
        exec e s = .next ((s.park op p 0 s.now).goOnCol.bufferFreed p op)) ∧
      (∀ (c : Collective) (w : State), s.collectiveFor p.data = some c →
        w = s.onCollective c.id (fun c => { c with progress := s.now }) →
        (s.planned c (op == 0x21) p = none → exec e s =
          .next (((w.abandon c.id St.collectiveMismatch).colAck p St.collectiveMismatch).goOnCol.bufferFreed p op)) ∧
        (∀ (n : Nat) (d : Line) (x : ChunkSeen), s.planned c (op == 0x21) p = some n → d = w.desc (if op = 0x21 then c.dst else c.src) →
          x = c.chunkFor (op == 0x21) p.data n →
          (x.ended = true → exec e s = .next ((w.colAck p 0).goOnCol.bufferFreed p op)) ∧
          (x.ended = false → p.poison = false → (p.src.toNat = w.node ∨ chunkDigest (packetHead op p.dst.toNat p.src.toNat p.flag
              p.poison 0 p.epoch.toNat p.seq.toNat (p.addr.toNat % 2 ^ 48) p.length.toNat p.tag.toNat p.op.toNat) p.data
                (chunkBytes d x.first n) = numAt p.data 40 8) →
            w.chunkStop c (op == 0x21) x.first x.count = none → w.accessTensors [] [c.dst] = (w, true) →
            ∀ z : State, z = (if x.count = 0 then w
              else if op = 0x20 then (w.addChunk c x.first (contribVals (w.desc c.src) x.first x.count (p.data.drop 64))).s
              else w.writeGather c x.first (gatherOf (w.desc c.dst) x.first x.count (p.data.drop 64))) →
            (op = 0x20 → sumOf (contribVals d x.first n (p.data.drop 64)) = numAt p.data 32 4) →
            (op = 0x21 → x.count = 0 ∨ (z.copySum c x.first x.count).1 = false ∨
              (z.copySum c x.first x.count).2 = numAt p.data 32 4) →
            ∃ (y : State) (k : Collective) (r : ChunkSeen), exec e s = .next ((y.colAck p 0).goOnCol.bufferFreed p op) ∧
              y.mem = z.mem ∧ y.tensors = z.tensors ∧ y.collective c.id = some k ∧
              r ∈ (if op = 0x21 then k.gathered else k.seen) ∧ r.rank = x.rank ∧ r.index = x.index ∧ r.applied = true))))

/-- CLOSE and COL_ACK: a notice is kept for its collective or put by; an acknowledgement frees, resends or ends -/
def Obligations.ClosesAndAcknowledgements : Prop :=
  ∀ (p : Packet) (port : Fin 8) (s : State), Reaches s p → p.via = .fabric port →
    (∀ (c : Collective) (rank : Nat), s.closeFor p = some (c, rank) →
      ∃ (v : State) (k : Collective) (x : CloseSeen), exec (.close p) s = .next ((v.colAck p 0).goOnCol.bufferFreed p 0x22) ∧
        v.collective c.id = some k ∧ k.progress = s.now ∧ k.closes.getLast? = some x ∧ x.rank = rank ∧
        x.status = numAt p.data 16 2 ∧ x.suspect = numAt p.data 18 2) ∧
    (s.closeFor p = none → exec (.close p) s = .next ((s.park 0x22 p 0 s.now).goOnCol.bufferFreed p 0x22)) ∧
    (∀ x, s.colSent.find? (fun x => x.tag == p.tag.toNat && x.node == p.src.toNat) = some x →
      ∃ v : State, OnlyChanges [.colSent] s v ∧ (∀ y, y ∈ v.colSent ↔ y ∈ s.colSent ∧ ¬ (y.tag = x.tag ∧ y.node = x.node)) ∧
        (p.op = 0 → exec (.colAck p) s = .next (v.goOnCol.bufferFreed p 0xA0)) ∧
        (p.op.toNat = St.crcResendLimit ∨ p.op.toNat = St.sumCheckFailed →
          exec (.colAck p) s = .next ((v.sendCol x.again).goOnCol.bufferFreed p 0xA0)) ∧
        (p.op.toNat = St.collectiveMismatch →
          exec (.colAck p) s = .next ((v.abandon x.collective St.collectiveMismatch).goOnCol.bufferFreed p 0xA0))) ∧
    ((∀ x ∈ s.colSent, ¬ (x.tag = p.tag.toNat ∧ x.node = p.src.toNat)) → exec (.colAck p) s = .next (s.goOnCol.bufferFreed p 0xA0))

/-- SHARD_CLOSE closes a shard that is due, EPOCH_CLOSE the blocks of an ended epoch, COLLECTIVE_TIMEOUT gives up one that
is overdue -/
def Obligations.ShardsEpochsAndTimeouts : Prop :=
  ∀ (t : Nat) (s s1 v : State), s1 = s.tick t → v = s.retryCols.endPhases →
    (∀ (id : Nat) (c : Collective) (r : Nat), v.collective id = some c → c.mine = some r →
      (v.shardDue c = true → exec (.shardClose id) s = .next (((if c.kind = 0x51 then
          (c.members.filter (fun n => n != v.node)).foldl
            (fun s n => s.sendGather c r n c.dst
              (if c.verdict then ((v.checkShard c r).shardHeader c).bytes else leBytes 16 0) (fun s _ => s))
            ((v.checkShard c r).takeElems c.dst 9 ((List.range (v.shardOf c r).2).map ((v.shardOf c r).1 + ·)))
        else v.checkShard c r).sendClose id).goOnCol)) ∧
      (v.shardDue c = false → exec (.shardClose id) s = .next v.goOnCol)) ∧
    (∀ (h : BitVec 24) (x : Tensor), s.tensor h.toNat = some x →
      (x.opens = 0 → x.touched ≠ [] → s.tensorBarred h.toNat = false →
        ∃ u : State, OnlyChanges [.collectives] s u ∧ u.collectives.length = s.collectives.length ∧
          exec (.epochClose h) s = .next ((u.closeBlocks h.toNat x.touched).1.retryCols).goOnCol) ∧
      ((x.opens ≠ 0 ∨ x.touched = [] ∨ s.tensorBarred h.toNat = true) → exec (.epochClose h) s = .next s)) ∧
    (∀ (id : Nat) (c : Collective), s.collective id = some c → c.engine < 8 → c.holders = [] →
      (c.progress + s.dv 0x501400 * 1000000 * (if c.extended then 2 else 1) ≤ s1.now →
        exec (.collectiveTimeout id t) s = .next (s1.abandon id St.collectiveTimeout).goOnCol) ∧
      (s1.now < c.progress + s.dv 0x501400 * 1000000 * (if c.extended then 2 else 1) →
        exec (.collectiveTimeout id t) s = .next s1))

/-- HINT: a slow contributor extends timeouts, HOLD suspends them, its release or its limit lets them go on -/
def Obligations.HintsMoveTimeouts : Prop :=
  ∀ (p : Packet) (t : Nat) (s s1 : State), s1 = s.tick t →
    (Reaches s p → p.op = 1 → ∃ u : State, exec (.hintSlowContributor p) s = .next (u.bufferFreed p 0x32) ∧
      OnlyChanges [.dict, .collectives] s u ∧ u.dv 0x501800 = (s.dv 0x501800 + 1) % 256 ^ entrySize 0x501800 ∧
      u.collectives = s.collectives.map (fun c => { c with extended := c.extended || c.members.contains p.src.toNat })) ∧
    (Reaches s1 p → p.op = 2 → ∃ u : State, exec (.hintHold p t) s = .next (u.bufferFreed p 0x32) ∧
      OnlyChanges [.cooling, .collectives] s1 u ∧
      (∀ h, h ∈ u.cooling.holds ↔ h = (p.src.toNat, s1.now) ∨ h ∈ s.cooling.holds ∧ h.1 ≠ p.src.toNat) ∧
      u.collectives = s.collectives.map (fun c => if c.members.contains p.src.toNat && !c.holders.contains p.src.toNat then
        { c with holders := c.holders ++ [p.src.toNat], suspendedAt := some (c.suspendedAt.getD s1.now) } else c)) ∧
    (∀ (n : Nat) (u : State), u = s1.releaseHold n →
      (Reaches s1 p → p.op = 3 → p.src.toNat = n → exec (.hintHoldRelease p t) s = .next (u.bufferFreed p 0x32)) ∧
      (∀ node : BitVec 16, node.toNat = n → (∃ h ∈ s.cooling.holds, h.1 = n ∧ h.2 + s.dv 0x281700 * 1000000000 ≤ s1.now) →
        exec (.holdLimitExpiry node t) s = .next u) ∧
      (∀ node : BitVec 16, node.toNat = n → (∀ h ∈ s.cooling.holds, h.1 = n → s1.now < h.2 + s.dv 0x281700 * 1000000000) →
        exec (.holdLimitExpiry node t) s = .next s1) ∧
      OnlyChanges [.cooling, .collectives] s1 u ∧ (∀ h, h ∈ u.cooling.holds ↔ h ∈ s.cooling.holds ∧ h.1 ≠ n) ∧
      (∀ c ∈ u.collectives, n ∉ c.holders) ∧
      (∀ c ∈ s.collectives, c.holders = [n] → ∃ k ∈ u.collectives, k.id = c.id ∧ k.holders = [] ∧ k.suspendedAt = none ∧
        k.progress = c.progress + (s1.now - c.suspendedAt.getD s1.now)))

/-- Tiles are dispatched by age, priority and round robin, get their page, and their operands arrive once for a half -/
def Obligations.TilesAreDispatchedAndFetched : Prop :=
  ∀ (t : Nat) (c : Fin 32) (s s1 : State), s1 = s.tick t →
    (∀ e order, (e = .tileDispatch t ∧ order = s1.agedJobs s1.readyJobs ++ s1.dispatchOrder s1.readyJobs ∨
        e = .dispatchAgeCeiling t ∧ order = s1.agedJobs s1.readyJobs) →
      (s1.candidates = [] → exec e s = .next s1) ∧
      (s1.candidates ≠ [] → order = [] → exec e s = .next s1.pumpPagers) ∧
      (∀ q st w rest k moved, s1.candidates ≠ [] → order = (q, st, w) :: rest → s1.placeUnit st w w.nextUnit = some (k, moved) →
        (s1.cluster k).slotsUsed < 64 →
        ∃ (v : State) (x : Tile), x = ⟨q, st.id, w.nextUnit, s1.now, s1.unitCost st.cmd w.parts w.nextUnit⟩ ∧
          exec e s = .next (v.handTile st w x k).pumpPagers ∧ v.lastQueue = q ∧ v.now = s1.now ∧
          (s1.startedOf q st.id = some st → st.work = .matmul w → ∃ x y, v.startedOf q st.id = some x ∧
            x.work = .matmul y ∧ y.fullSince = none ∧ y.redo = w.redo.tail ∧
            y.next = if w.redo.isEmpty then w.next + 1 else w.next))) ∧
    (∀ w rest, (s1.cluster c).pageWait = w :: rest → 0 < s1.pagesLeft c →
      ∃ u : State, exec (.scratchPageGrant c t) s = .next (u.feedArrays c) ∧ OnlyChanges [.dict, .clusters] s1 u ∧
        u.dv 0xA04700 = (s1.dv 0xA04700 + (s1.now - w.since)) % 256 ^ entrySize 0xA04700 ∧ (u.cluster c).pageWait = rest ∧
        (u.cluster c).workPages = (s1.cluster c).workPages + 1 ∧ (u.cluster c).slots = (s1.cluster c).slots ++
          [s1.waitingTile w]) ∧
    ((s1.cluster c).pageWait = [] ∨ s1.pagesLeft c = 0 → exec (.scratchPageGrant c t) s = .next s1) ∧
    (∀ v, v = s.pumpPager c →
      (∀ f, (v.cluster c).fetches.find? v.mayFetch = some f →
        ∃ u : State, exec (.pagerFetchArrival c) s = .next (u.pumpPager c).runVectors ∧ OnlyChanges [.dict, .clusters] v u ∧
          u.dv 0xA04A00 = (v.dv 0xA04A00 + f.bytes * (((List.range 16).filter (fun k =>
            (v.cluster (k + c / 16 * 16)).fetches.any f.same)).length - 1)) % 256 ^ entrySize 0xA04A00 ∧
          ∀ k, k / 16 = c / 16 → (∀ x ∈ (u.cluster k).fetches, f.same x = false) ∧
            ((v.tileJob f.tile).isSome = true → ∀ x ∈ (v.cluster k).fetches, f.same x = true → x ∈ (u.cluster k).buffers)) ∧
      ((v.cluster c).fetches.find? v.mayFetch = none → exec (.pagerFetchArrival c) s = .next (v.pumpPager c).runVectors))

/-- A tile leaves its array into a bank, a drained bank enters the finished-tile queue, and the vector engine takes the
oldest tile -/
def Obligations.TilesAreFinished : Prop :=
  ∀ (c a : Fin 32) (s : State),
    (∀ (t : Tile) (st : Started) (w : MatmulWork), (s.array c a).cur = some t → s.tileJob t = some (st, w) →
      ((s.array c a).waits = false → s.regionRuns c = true → s.operandsHere c t st = true →
        s.ingressFull (handlesAt st.cmd [8, 11]) = false →
        ∃ u : State, (u.array c a).cur = none ∧ u.dv 0xA01000 = (s.dv 0xA01000 + 1) % 256 ^ entrySize 0xA01000 ∧
          (∃ f : FinTile, (u.array c a).full = (s.array c a).full ++ [f] ∧ f.tile = t ∧
            f.acc = ((s.endHolds t.q st).tileAcc st.cmd w.parts t.unit).acc ∧
            f.poisoned = ((s.endHolds t.q st).tileAcc st.cmd w.parts t.unit).bad) ∧
          exec (.tileFinish c ⟨a, none⟩) s = .next (u.feedArrays c) ∧
          ∀ e latch, exec (.tileFinish c ⟨a, some (e, latch)⟩) s = .next ((u.feedArrays c).failTile c a e latch)) ∧
      ((s.array c a).waits = true → exec (.tileFinish c ⟨a, none⟩) s = .next s)) ∧
    ((s.array c a).cur = none → ∀ par, exec (.tileFinish c ⟨a, par⟩) s = .next s) ∧
    (∀ f, s.drainers c ≠ [] → (s.cluster c).finished.length < 8 →
      (s.array c (s.mostStalled c (s.drainers c))).full.find? s.drains = some f →
      ∃ u : State, exec (.finishedTileAdmit c) s = .next (u.feedArrays c) ∧ OnlyChanges [.clusters] s u ∧
        (u.cluster c).finished = (s.cluster c).finished ++ [f] ∧ (u.array c (s.mostStalled c (s.drainers c))).full =
          (s.array c (s.mostStalled c (s.drainers c))).full.erase f) ∧
    (8 ≤ (s.cluster c).finished.length → exec (.finishedTileAdmit c) s = .next s) ∧
    (∀ (f : FinTile) (rest : List FinTile) (v : State), s.regionRuns c = true → (s.cluster c).finished = f :: rest →
      (s.holdEpilogue c f.tile = (v, true) → exec (.epilogue ⟨c, none⟩) s = .next v) ∧
      (s.holdEpilogue c f.tile = (v, false) → ∃ u : State, exec (.epilogue ⟨c, none⟩) s = .next (u.takeFinished c f) ∧
        OnlyChanges [.clusters] v u ∧ (u.cluster c).finished = rest ∧
        (∀ st w, u.tileJob f.tile = some (st, w) → w.inPlace = false → w.parts = 1 →
          u.takeFinished c f = ((u.passOperands c f.tile true).epilogueTile c f st w).unitsDone f.tile.q f.tile.id c 1) ∧
        ∀ e, ∃ (x : State) (g : FinTile), exec (.epilogue ⟨c, some e⟩) s = .next (x.runEpilogue c) ∧
          (x.cluster c).finished = g :: rest ∧ g.tile = f.tile ∧ g.poisoned = true)) ∧
    (s.regionRuns c = true → (s.cluster c).finished = [] →
      ((∀ a : Fin 32, (s.array c a).full = []) → exec (.epilogue ⟨c, none⟩) s = .next (s.retryGroups c)) ∧
      (∀ f v, (s.array c 0).full = [f] → f.held = false → s.staysInBank f = true → s.epilogueHeld f.tile = false →
        s.holdEpilogue c f.tile = (v, false) → exec (.epilogue ⟨c, none⟩) s = .next (v.holdBank c 0 f))) ∧
    (s.regionRuns c = false → exec (.epilogue ⟨c, none⟩) s = .next s)

/-- A watch-line store wakes, feeds or faults its queue; enabling checks the entry and latches it; disabling ends the list -/
def Obligations.QueuesWakeEnableAndDisable : Prop :=
  ∀ (q : Fin 256) (off : Fin 64) (bytes : List Byte) (s : State) (w : Line), w = storeWatch (s.queue q).watch off bytes →
    (∃ u : State, exec (.watchLineStore q off bytes) s = .next u.settled ∧ OnlyChanges [.dict, .log, .logSeq, .queues, .mgmt] s u ∧
      (u.queue q).watch = w ∧
      ((qEnabled (s.queue q).entry && !qFaulted (s.queue q).entry) = false → (u.queue q).entry = (s.queue q).entry) ∧
      ((qEnabled (s.queue q).entry && !qFaulted (s.queue q).entry) = true → ∀ st, st = ({ s.queue q with watch := w } : Queue).faultStatus →
        (st ≠ 0 → (u.queue q).entry = setFld (qSetBit (qSetBit (s.queue q).entry 1 true) 2 false) 40 2 st) ∧
        (st = 0 → (u.queue q).entry = qSetBit (s.queue q).entry 2 (wProducer w == qConsumer (s.queue q).entry)))) ∧
    ((qEnabled (s.queue q).entry && !qFaulted (s.queue q).entry) = true → exec (.queueEnable q) s = .next s) ∧
    ((qEnabled (s.queue q).entry && !qFaulted (s.queue q).entry) = false → ∀ st, st = s.enableStatus (s.queue q).entry →
      (st ≠ 0 → ∃ u : State, exec (.queueEnable q) s = .next u ∧ OnlyChanges [.queues] s u ∧ u.queue q = { s.queue q with
        entry := setFld (qSetBit (qSetBit (qSetBit (s.queue q).entry 0 false) 1 false) 2 false) 40 2 st }) ∧
      (st = 0 → ∃ u : State, exec (.queueEnable q) s = .next u.settled ∧ OnlyChanges [.queues] s u ∧
        (u.queue q).latched = latchBytes (s.queue q).entry ∧ (u.queue q).stack = [] ∧ (u.queue q).slots = [] ∧
        (u.queue q).ringWait = none ∧ (u.queue q).run = (s.queue q).run.map ListRun.left ∧ (u.queue q).watch = (s.queue q).watch ∧
        ∃ c, (u.queue q).entry = setFld (enabledEntry (s.queue q).entry (s.queue q).watch) 3 1 c ∧
          (qPreference (s.queue q).entry < 32 → s.enabled (qPreference (s.queue q).entry) = true →
            c = qPreference (s.queue q).entry))) ∧
    (qEnabled (s.queue q).entry = true → ∃ u : State, exec (.queueDisable q) s = .next u.settled ∧ OnlyChanges [.queues] s u ∧
      u.queue q = { s.queue q with
        entry := qSetBit (qSetBit (s.queue q).entry 0 false) 2 false, run := (s.queue q).run.map ListRun.disabled }) ∧
    (qEnabled (s.queue q).entry = false → exec (.queueDisable q) s = .next s)

/-- A due list starts from its submission entry, queues move home with their cluster, and finished commands complete -/
def Obligations.ListsStartMoveAndComplete : Prop :=
  ∀ (q : Fin 256) (e : BitVec 128) (id : Nat) (s : State),
    (s.listDue q = true → s.fetchStatus (s.queue q).submissionAddr 16 = 0 →
      ∃ u : State, exec (.listStart q ⟨e, none⟩) s = .next u.settled ∧ OnlyChanges [.queues] s u ∧
        u.queue q = { s.queue q with
          entry := qSetBit (s.queue q).entry 2 false, stack := [], run := some (listOf (s.submission q e) s.now) }) ∧
    (s.listDue q = false → ∀ ecc, exec (.listStart q ⟨e, ecc⟩) s = .next s) ∧
    (s.listDue q = true → ∀ wd corrected, ∃ u : State, u = s.controlError (qHome (s.queue q).entry) wd.toNat corrected ∧
      exec (.listStart q ⟨e, some (wd, corrected)⟩) s = exec (.listStart q ⟨e, none⟩) u) ∧
    ((qEnabled (s.queue q).entry = false ∨ s.enabled (qHome (s.queue q).entry) = true ∧ qSleeping (s.queue q).entry = false) →
      exec (.queueRehome q) s = .next s) ∧
    (qEnabled (s.queue q).entry = true → s.enabled (qHome (s.queue q).entry) = true → qSleeping (s.queue q).entry = true →
      ∃ u : State, exec (.queueRehome q) s = .next u ∧ OnlyChanges [.queues] s u ∧ u.queue q = { s.queue q with
        entry := setFld (s.queue q).entry 3 1 (s.homeFor q (qPreference (s.queue q).latched)) }) ∧
    (qEnabled (s.queue q).entry = true → s.enabled (qHome (s.queue q).entry) = false →
      ∃ u : State, exec (.queueRehome q) s = .next u.settled ∧ OnlyChanges [.queues] s u ∧ (u.queue q).stack = [] ∧ (u.queue q).slots = [] ∧
        ∀ l, (s.queue q).run = some l → (u.queue q).run =
          some { l with wait := .none, ended := true, bad := St.controlLost, badId := 0, badSlot := 0xFFFF }) ∧
    (s.twin.tees = [] →
      (s.startedOf q id = none → exec (.commandComplete q id) s = .next s) ∧
      ∀ st, s.startedOf q id = some st →
        (st.done = false → exec (.commandComplete q id) s = .next s) ∧
        (st.done = true → (s.queue q).blocked (cmdRecord st.cmd) (withEmpty st.status st.flags) = true →
          ∃ u : State, exec (.commandComplete q id) s = .next u ∧ OnlyChanges [.queues] s u ∧
            (u.queue q).ringWait = some ((s.queue q).ringWait.getD s.now)) ∧
        (st.done = true → (s.queue q).blocked (cmdRecord st.cmd) (withEmpty st.status st.flags) = false →
          ∃ u : State, exec (.commandComplete q id) s = .next u.settled ∧
            u = (s.recordReads st).finish q st st.report (signal := s.signalsHere st) ∧
            ∀ x ∈ (u.queue q).started, x.id ≠ id))

/-- STOP_BATH, SHEET and RESTORE start and ask for a bath; RELEASE lifts the hold; SHEET_ABORT ends the running sheet -/
def Obligations.SnapshotCommandsStart : Prop :=
  ∀ (q : Fin 256) (c : Line) (src : SourceRead) (l : ListRun) (s : State), Takes s q l c [] [] →
    (∀ (e : Instr) (p : Nat) (imm mirror keep : Bool) (work : SourceRead) (b : Bath),
      ((e = .stopBath q c ∧ p = 0 ∧ imm = bitAt c 12 0 ∧ mirror = bitAt c 12 1 ∧ keep = bitAt c 12 2 ∧ work = { bytes := [] } ∧
          s.headerFail q c bathReserved = none ∧ s.bathFail imm true (fld c 8 4) 8 = none) ∨
       (e = .sheet q c ∧ p = 1 ∧ imm = bitAt c 24 0 ∧ mirror = bitAt c 24 1 ∧ keep = false ∧ work = { bytes := [] } ∧
          s.headerFail q c sheetReserved = none ∧ s.bathFail imm true (fld c 20 4) 20 = none ∧
          s.sheetFail (fld c 8 8) (fld c 16 4) = none) ∨
       (e = .restore q c src ∧ p = 2 ∧ imm = true ∧ mirror = false ∧ keep = true ∧ work = src ∧
          s.headerFail q c restoreReserved = none ∧ bitsAt c 20 0 2 ≠ 3 ∧ s.bathFail true false 0 24 = none ∧
          (bitsAt c 20 0 2 = 2 ∨ s.setFail (fld c 8 8) (fld c 16 4) false = none) ∧ s.storeReach c = none)) →
      b = { q := q, id := (s.queue q).serial + 1, purpose := p, tag := if imm then none else some (s.dv 0xA03200),
            mirror := mirror, keep := keep, stage := 0, since := s.now, boundary := 0 } →
      ((p ≠ 1 ∨ s.sheetUnderWay = true) → (s.step.bath.isSome = true ∨ s.step.bathWait = [] ∧ imm = false) →
        ∃ u st, exec e s = .next u ∧ OnlyChanges [.queues, .dict, .step] s u ∧ StartsIn s u q l c [] [] st ∧
          st.work = .snapshot work ∧ st.done = false ∧ u.step.bath = s.step.bath ∧ u.step.bathWait = s.step.bathWait ++ [b] ∧
          (p = 1 → u.dv 0x601F00 = fld c 8 8 + fld c 16 4 * 2 ^ 64 + fld c 25 1 * 2 ^ 96)) ∧
      (p ≠ 1 → s.step.bath = none → s.step.bathWait = [] → imm = true → s.step.sheet = none →
        s.backOut q ((s.queue q).serial + 1) = false →
        ∃ u st, exec e s = .next u ∧ OnlyChanges [.queues, .dict, .step] s u ∧ StartsIn s u q l c [] [] st ∧
          st.work = .snapshot work ∧ st.done = false ∧ u.step.hold = some q.val ∧ u.step.bathWait = [] ∧
          u.step.bath = some { b with stage := 1, boundary := s.dv 0xA03200 - 1 }) ∧
      (p = 1 → s.sheetUnderWay = false → ∃ (w : State) (st : Started) (k : Nat),
        OnlyChanges [.queues, .dict, .step] s w ∧ StartsIn s w q l c [] [] st ∧
          st.work = .snapshot work ∧ st.done = false ∧ w.step = { s.step with sheetSeen := true } ∧ k = w.nextSlot ∧
          w.dv 0x601F00 = fld c 8 8 + fld c 16 4 * 2 ^ 64 + fld c 25 1 * 2 ^ 96 ∧
          ((w.openSheet b k).2 = 0 → exec e s = .next ((w.openSheet b k).1.askBath { b with slot := some k })))) ∧
    (s.headerFail q c [(8, 0, 448)] = none → HasRoom s q c 0 →
      (∃ u : State, exec (.release q c) s = .next (u.completed s q l c .ok).goOnCol ∧
        OnlyChanges [.queues, .egress, .dict, .step, .ports, .streamsOut, .reqs, .nextTag] s u ∧
        ((s.step.unsent = [] ∨ s.step.bath.isSome = true) → OnlyChanges [.queues, .step] s u) ∧
        u.step = if s.step.bath.isNone then { s.step with hold := none, quiet := false, unsent := [] } else s.step) ∧
      (∃ u : State, u = (s.passed q l c).abortSheet ∧ exec (.sheetAbort q c) s = .next (u.completed s q l c .ok) ∧
        (s.step.sheet = none → (∀ b, s.step.bath = some b → b.purpose ≠ 1) → OnlyChanges [.queues] s u)))

/-- A bath's stages end in order or by its timeout, a sheet is copied segment by segment and closed, a step boundary is
crossed -/
def Obligations.BathsSheetsAndStepsGoOn : Prop :=
  ∀ (t : Nat) (s s1 : State), s1 = s.tick t →
    (s1.step.bath = none → exec (.bathStageEnd t) s = .next s1 ∧ exec (.bathTimeout t) s = .next s1) ∧
    (∀ b w, s1.step.bath = some b → w = s1.stageAct b.stage →
      (w.bathStageOver b = false → exec (.bathStageEnd t) s = .next w.goOnCol) ∧
      (w.bathStageOver b = true →
        (b.stage ≠ 5 → b.stage ≠ 8 → (b.stage ≠ 6 ∨ b.purpose ≠ 2) → ∃ u : State, exec (.bathStageEnd t) s = .next u.goOnCol ∧
          OnlyChanges [.step] w u ∧ u.step = { w.step with bath := some { b with stage := b.stage + 1 } }) ∧
        (b.stage = 5 → b.purpose ≠ 1 → ∃ u : State, exec (.bathStageEnd t) s = .next u.goOnCol ∧ OnlyChanges [.step] w u ∧
          u.step = { w.step with image := w.counters, bath := some { b with stage := 6 }, quiet := true }) ∧
        (b.stage = 5 → b.purpose = 1 → ∃ v : State, OnlyChanges [.step] w v ∧ v.step = { w.step with image := w.counters } ∧
          ((v.armSheet b).2 = 0 → ∃ u : State, exec (.bathStageEnd t) s = .next u.goOnCol ∧ OnlyChanges [.step] (v.armSheet b).1 u ∧
            u.step = { (v.armSheet b).1.step with bath := some { b with stage := 6 }, quiet := true })) ∧
        (b.stage = 6 → b.purpose = 2 → exec (.bathStageEnd t) s = .next (w.restoreNow b).goOnCol) ∧
        (b.stage = 8 → exec (.bathStageEnd t) s = .next (w.bathEnds b).goOnCol)) ∧
      (s1.now < b.since + s1.dv 0x601400 * 1000000 → exec (.bathTimeout t) s = .next s1) ∧
      (b.since + s1.dv 0x601400 * 1000000 ≤ s1.now → s1.step.sheet = none →
        ∃ v : Nat, exec (.bathTimeout t) s = .next (s1.bathFails b St.bathTimeout 0 0 v).goOnCol ∧ (s1.otherStarted b = [] → v = 0) ∧
          ∀ x rest, s1.otherStarted b = x :: rest → v = x.1 * 2 ^ 32 + x.2.index)) ∧
    (s1.step.sheet = none → exec (.segmentCopied t) s = .next s1 ∧ exec (.sheetComplete t) s = .next s1) ∧
    (∀ sh, s1.step.sheet = some sh →
      (∀ g, sh.nextSeg = some g →
        (∀ p, (sh.segments.filter (fun p => p.seg == g)).find? (fun p => s1.pieceCause p != 0) = some p →
          s1.pieceCause p ≠ St.memoryDenied →
          exec (.segmentCopied t) s = .next ((s1.sheetFails St.sheetFailed true 0 p.addr (s1.pieceCause p)).readBackCopied sh.id)) ∧
        ((∀ p ∈ sh.segments, p.seg = g → s1.pieceCause p = 0) → (s1.storePieces sh g).2 = 0 →
          ∃ u sh1, exec (.segmentCopied t) s = .next (u.afterBarrier.readBackCopied sh.id) ∧ u.step.sheet = some sh1 ∧
            OnlyChanges [.dict, .step] (s1.storePieces sh g).1 u ∧ sh1.segments = sh.segments.filter (fun p => p.seg != g) ∧
            sh1.stored = sh.stored + ((sh.segments.filter (fun p => p.seg == g)).map (fun p => p.len)).sum ∧
            sh1.heldFirst = sh.heldFirst.filter (· != g))) ∧
      (sh.nextSeg = none → exec (.segmentCopied t) s = .next (if sh.phase = 0 then s1.sheetReadBack sh else s1)) ∧
      (s1.sheetReqs sh.q sh.id = true ∨ sh.phase ≠ 1 ∧ sh.phase ≠ 2 → exec (.sheetComplete t) s = .next s1) ∧
      (s1.sheetReqs sh.q sh.id = false → sh.phase = 1 → exec (.sheetComplete t) s = .next (s1.closeSheet sh)) ∧
      (s1.sheetReqs sh.q sh.id = false → sh.phase = 2 → ∃ u : State, exec (.sheetComplete t) s = .next (u.snapshotEnds sh.q sh.id St.ok) ∧
        OnlyChanges [.dict, .step] s1 u ∧ u.step = { s1.step with sheet := none, overdue := false, lastSlot := sh.slot } ∧
        u.dv 0x601700 = s1.dv 0xA03200 - 1 - sh.boundary)) ∧
    ((s.step.lastDone = none ∨ s.boundaryDue = false) → exec .stepBoundary s = .next s) ∧
    (∀ applied n, s.step.lastDone = some applied → s.boundaryDue = true → n = s.dv 0xA03200 →
      (∀ e ∈ s.step.pend, e.1 = 0x800200 ∨ e.1 = 0x401200) →
      ∃ u : State, exec .stepBoundary s = .next (((u.nextBath).countSheet n).detachAtBoundary n).settled ∧
        u.dv 0xA03200 = n + 1 ∧
        u.dv 0xA03300 = s.dv 0xA03300 + (if applied then 1 else 0) ∧
        u.dv 0xA03400 = s.dv 0xA03400 + (if applied then 0 else 1) ∧
        u.dv 0xA03500 = verdictWord s.finalVerdict ∧
        u.step = { s.step.cleared with pend := [], unsent := u.step.unsent } ∧ (s.step.quiet = false → u.step.unsent = s.step.unsent) ∧
        u.twin.teed = 0 ∧
        ∀ h x, u.tensor h = some x → x.verdictNext = none ∧ x.mirrorNext = none ∧ x.fbWritten = [])

/-- Flits, lanes, light and training of a port: what each event leaves -/
def Obligations.PortEventsComplete : Prop :=
  ∀ (p : Fin 8) (s : State),
    (∀ flit,
      (((s.port p).state ≠ 2 ∨ (s.port p).retraining = true) → exec (.flitReceive p flit) s = .next s) ∧
      (∀ c b, c = flitCorrect (flitBytes 224 flit) → b = c.2 → (s.port p).state = 2 → (s.port p).retraining = false →
        ∃ x : State, OnlyChanges [.dict] s x ∧ (c.1 = [] → x = s) ∧
          (crc32 (b.take 208) ≠ numAt b 208 4 → exec (.flitReceive p flit) s = .next (x.idleOut p true)) ∧
          (crc32 (b.take 208) = numAt b 208 4 →
            ((1 < numAt b 200 2 / 4096 ∨ 8192 ≤ numAt b 202 2 ∨ 4 < numAt b 204 3 % 8 ∨ numAt b 207 1 ≠ 0) →
              exec (.flitReceive p flit) s = .next (x.badFlit p)) ∧
            (numAt b 200 2 / 4096 ≤ 1 → numAt b 202 2 < 8192 → numAt b 204 3 % 8 ≤ 4 → numAt b 207 1 = 0 → ∀ y,
              y = x.linkControl p (numAt b 202 2 % 4096) ((numAt b 202 2).testBit 12) (numAt b 204 3 % 8) (numAt b 204 3 / 8) →
              ((numAt b 200 2 / 4096 = 0 ∧ BitVec.ofNat 12 (numAt b 200 2) = (y.port p).rxSeq + 1) →
                ∃ z : State, exec (.flitReceive p flit) s = .next ((z.idleOut p false).payloadIn p (b.take 200)) ∧ OnlyChanges [.ports] y z ∧
                  z.port p = { y.port p with rxSeq := (y.port p).rxSeq + 1 }) ∧
              ((numAt b 200 2 / 4096 ≠ 0 ∨ BitVec.ofNat 12 (numAt b 200 2) ≠ (y.port p).rxSeq + 1) →
                exec (.flitReceive p flit) s = .next y))))) ∧
    (∀ (lane : Fin 8) (rate : Bool),
      ((s.port p).lanes.getLsbD lane = false → exec (.laneRemoval p lane rate) s = .next s) ∧
      ((s.port p).lanes.getLsbD lane = true → ∀ left, left = (s.port p).lanes &&& ~~~(BitVec.ofNat 8 (2 ^ lane.val)) →
        (left ≠ 0 → ∃ u : State, exec (.laneRemoval p lane rate) s = .next u ∧ OnlyChanges [.dict, .log, .logSeq, .ports, .mgmt] s u ∧
          u.port p = { s.port p with lanes := left, retraining := true, retrains := (s.port p).retrains + 1 }) ∧
        (left = 0 → ∃ u : State, exec (.laneRemoval p lane rate) s = .next (u.portDown p) ∧
          OnlyChanges [.dict, .log, .logSeq, .mgmt] s u))) ∧
    (∀ (i : Fin 2) (power : Int) (t : Nat) (since : Nat), since = (look none ((s.tick t).port p).laserLow i).getD (s.tick t).now →
      ∃ u : State, OnlyChanges [.dict, .ports] (s.tick t) u ∧
        u.dv (0x500601 + 2 * p + i) = f32RatioInt power 100 ∧
        u.port p = { (s.tick t).port p with
          laserLow := put none ((s.tick t).port p).laserLow i (if power < 1500 then some since else none) } ∧
        ((1500 ≤ power ∨ (s.tick t).now < since + 10000000) → exec (.laserInputLow p i power t) s = .next u) ∧
        (power < 1500 → since + 10000000 ≤ (s.tick t).now → exec (.laserInputLow p i power t) s =
          .next (u.removeLanes p 3 [4 * i.val, 4 * i.val + 1, 4 * i.val + 2, 4 * i.val + 3]))) ∧
    ((s.port p).retraining = false → exec (.portRetrainDone p) s = .next s) ∧
    ((s.port p).retraining = true → ∃ u : State, exec (.portRetrainDone p) s = .next ((u.resendFlits p).portGoes p) ∧
      OnlyChanges [.ports] s u ∧ u.port p = { s.port p with retraining := false }) ∧
    (((s.port p).state = 2 ∨ (s.region (portRegion p)).power = 3 ∨ s.boot.state < 7) → exec (.portTraining p true) s = .next s) ∧
    ((s.port p).state ≠ 2 → (s.region (portRegion p)).power ≠ 3 → 7 ≤ s.boot.state →
      ∃ u : State, exec (.portTraining p true) s = .next ((u.reroute s (fun _ => false)).goOn) ∧ OnlyChanges [.ports, .regions] s u ∧
        u.port p = { s.port p with state := 2, lanes := 0xFF, retraining := false, retry := [], txSeq := 0, rxSeq := 4095,
                                   rxLeft := 0, owed := [], credits := freshCredits }) ∧
    ((s.port p).state ≠ 2 → ∃ u : State, exec (.portTraining p false) s = .next u ∧ OnlyChanges [.ports] s u ∧
      u.port p = { s.port p with state := 0, lanes := 0, retraining := false }) ∧
    ((s.port p).state = 2 → exec (.portTraining p false) s = .next (s.portDown p)) ∧
    (∀ (m : Master) (v : BitVec 32), MayWrite s m 0x501A00 4 →
      (256 ≤ v.toNat → exec (.portRetrain m v) s = .next (s.renewHold m)) ∧
      (v.toNat < 256 → ∃ u : State, exec (.portRetrain m v) s = .next (u.written m 0x501A00 v.toNat) ∧
        OnlyChanges [.ports, .regions] (s.renewHold m) u ∧ ∀ k : Fin 8, u.port k =
          if v.getLsbD k = false then s.port k
          else if (s.port k).state = 2 then { s.port k with lanes := 0xFF, retraining := true, retrains := (s.port k).retrains + 1 }
          else { s.port k with state := 1 }))

/-- The Traek link's flits, training and loss, the edge gateway, the node ID and the counter banks: what each event leaves -/
def Obligations.TraekGatewayAndBankEventsComplete : Prop :=
  ∀ s : State,
    (∀ flit,
      (s.traek.state ≠ 2 → exec (.traekFlitReceive flit) s = .next s) ∧
      (∀ c w, c = flitCorrect (flitBytes 276 flit) → w = numAt c.2 256 4 → s.traek.state = 2 →
        ∃ x : State, OnlyChanges [.dict] s x ∧
          (crc32 (c.2.take 260) ≠ numAt c.2 260 4 → exec (.traekFlitReceive flit) s = .next (x.traekIdle true)) ∧
          (crc32 (c.2.take 260) = numAt c.2 260 4 → ∃ y z : State, OnlyChanges [.traek] x y ∧
            y.traek = { s.traek with retry := afterAck (w / 2 ^ 10 % 1024) s.traek.retry,
                                     credits := moreCredit traekCredits s.traek.credits (w / 2 ^ 21 % 4) (w / 2 ^ 23) } ∧
            z = (if w.testBit 20 then (y.traekResend).bump 0x503300 1 else y).traekGoes ∧
            (BitVec.ofNat 10 w ≠ s.traek.rxSeq + 1 → exec (.traekFlitReceive flit) s = .next z) ∧
            (BitVec.ofNat 10 w = s.traek.rxSeq + 1 → ∃ u : State, OnlyChanges [.traek] z u ∧
              u.traek = { z.traek with rxSeq := s.traek.rxSeq + 1 } ∧ exec (.traekFlitReceive flit) s =
                .next (if (c.2.take 256).all (· == 0) ∧ s.traek.rxLeft = 0 then u
                  else (u.traekIdle false).traekPayload (c.2.take 256)))))) ∧
    (∀ (w : Nat) (half : Bool) (g : Nat),
      ((s.traek.state = 2 ∨ s.traek.state = 3 ∨ s.traek.released = false ∨ (s.region 46).power = 3) →
        exec (.traekTraining w half g) s = .next s) ∧
      (s.traek.state = 0 → s.traek.released = true → (s.region 46).power ≠ 3 → ∃ u : State,
        exec (.traekTraining w half g) s = .next u ∧ OnlyChanges [.traek, .regions] s u ∧ u.traek = { s.traek with state := 1 }) ∧
      (s.traek.state ≠ 0 → s.traek.state ≠ 2 → s.traek.state ≠ 3 → s.traek.released = true → (s.region 46).power ≠ 3 →
        (s.traekAllowed w g = true → ∃ u : State, exec (.traekTraining w half g) s = .next u ∧ OnlyChanges [.traek, .regions] s u ∧
          u.traek = { s.traek with state := 2, width := w, half := half, group := g, exclude := none, txSeq := 0, rxSeq := 1023,
                                   rxLeft := 0, retry := [], waiting := [], owed := [], credits := traekCredits }) ∧
        (s.traekAllowed w g = false → exec (.traekTraining w half g) s = .next s.traekDown)) ∧
      (s.traek.state ≠ 3 → exec (.traekRetrainDone w half g) s = .next s) ∧
      (s.traek.state = 3 → s.traekAllowed w g = true → ∃ u : State, exec (.traekRetrainDone w half g) s = .next (u.traekResend.traekGoes) ∧
        OnlyChanges [.traek, .regions] s u ∧ u.traek = { s.traek with state := 2, width := w, half := half, group := g, exclude := none }) ∧
      (s.traek.state = 3 → s.traekAllowed w g = false → exec (.traekRetrainDone w half g) s = .next s.traekDown)) ∧
    (∀ (v : State) (e : Instr) (out : Option Nat) (ends : State → State),
      ((∃ (k : Fin 16) (rate : Bool), e = .traekLaneRetrain k rate ∧ v = s ∧ s.traekHas k = true ∧ out = some k.val ∧ ends = id) ∨
        (∃ m, e = .traekCommandRetrain m ∧ MayWrite s m 0x503600 4 ∧ v = s.renewHold m ∧ out = none ∧
          ends = fun u => u.written m 0x503600 1)) →
      s.traek.state = 2 → ∃ u : State, exec e s = .next (ends u) ∧ OnlyChanges [.traek, .dict, .log, .logSeq, .mgmt] v u ∧
        u.traek = { s.traek with state := 3, retrains := s.traek.retrains + 1, exclude := out }) ∧
    (∀ (k : Fin 16) (rate : Bool), (s.traek.state ≠ 2 ∨ s.traekHas k = false) → exec (.traekLaneRetrain k rate) s = .next s) ∧
    (∃ u : State, OnlyChanges [.traek] s u ∧ u.traek = { state := 0, retrains := s.traek.retrains, released := s.traek.released } ∧
      s.traekDown = (((u.traekRecord 0xFF).failHost).dropCompanion).retryLines.goOn) ∧
    (∀ t, exec (.traekLinkDown t) s = .next (if s.traek.state = 0 then s.tick t else (s.tick t).traekDown)) ∧
    (∀ m, MayWrite s m 0x503600 4 →
      exec (.traekCommandDown m) s = .next ((if s.traek.state = 0 then s.renewHold m else (s.renewHold m).traekDown).written m 0x503600 2) ∧
      (s.traek.state ≠ 2 → exec (.traekCommandRetrain m) s = .next ((s.renewHold m).written m 0x503600 1))) ∧
    (∀ (p : Fin 8) (t : Nat) (v : State) (r : Port), v = s.tick t → r = v.port p →
      (r.gatewayWait = [] → exec (.gatewayAdmit p t) s = .next v) ∧
      (∀ src g, roundRobin r.gatewayLast (r.gatewayWait.map (·.source)) = some src →
        r.gatewayWait.find? (fun g => g.source == src) = some g →
        (0x100000 < r.gatewayBytes + g.bytes → exec (.gatewayAdmit p t) s = .next v) ∧
        (r.gatewayBytes + g.bytes ≤ 0x100000 → ∃ u : State, OnlyChanges [.dict, .ports] v u ∧
          u.port p = { r with gatewayWait := r.gatewayWait.erase g, gatewayLast := src } ∧
          (g.bytes ≠ 0 → u.dv (0x500D01 + p) = (v.dv (0x500D01 + p) + (v.now - g.since)) % 256 ^ entrySize (0x500D01 + p)) ∧
          exec (.gatewayAdmit p t) s = .next (g.parts.foldl (fun x q => if q.ask.gathers then x.placeGateway p g.node g.source q
            else x.askBeyond p g.node q.ask) u))) ∧
      exec (.gatewayFlush p t) s = .next (((r.gateway.filter (fun g => decide (g.since + v.dv 0x500E00 ≤ v.now))).map
        (·.node)).eraseDups.foldl (fun x n => x.shipGateway p n) v)) ∧
    (∀ (m : Master) (n : BitVec 16), MayWrite s m 0x500100 2 → ∀ v, v = s.renewHold m →
      (v.streamOpen = true → exec (.nodeIdWrite m n) s = .next v) ∧
      (v.streamOpen = false → ∃ u : State, exec (.nodeIdWrite m n) s = .next (u.written m 0x500100 n.toNat) ∧
        OnlyChanges [.dict] v u ∧ u.node = n.toNat)) ∧
    (∀ (b : Fin 16) (t : Nat) (v : State), v = s.tick t →
      (v.ingress.filter (fun u => u.counter / 256 == b.val) = [] → exec (.counterUpdate b t) s = .next v) ∧
      (∀ src x, roundRobin (look 0 v.bankLast b) ((v.ingress.filter (fun u => u.counter / 256 == b.val)).map (·.source)) = some src →
        (v.ingress.filter (fun u => u.counter / 256 == b.val)).find? (fun u => u.source == src) = some x →
        ∃ u : State, exec (.counterUpdate b t) s = .next u.settled ∧ OnlyChanges [.dict, .counters, .ingress, .bankLast, .bankAt] v u ∧
          u.counters = (v.applyUpdate x).counters ∧ u.ingress = v.ingress.erase x ∧ look 0 u.bankLast b = src ∧
          u.dv 0xA04900 = (v.dv 0xA04900 + (v.now - x.since)) % 256 ^ entrySize 0xA04900))

/-- A request in its stream's order is applied at once, ahead of a gap it waits, a duplicate is acknowledged; what applying
does -/
def Obligations.RequestsArriveAndTakeEffect : Prop :=
  ∀ (s : State) (p : Packet),
    (∀ (e : Instr) (k : ReqKind) (x : Packet),
      ((e = .load p ∧ k = .load ∧ x = p) ∨ (e = .store p ∧ k = .store ∧ x = p) ∨ (e = .atomic p ∧ k = .atomic ∧ x = p) ∨
        (e = .addPacket p ∧ k = .add ∧ x = p ∧ p.via ≠ .traek) ∨ (e = .get p ∧ k = .get ∧ x = p ∧ p.via ≠ .traek) ∨
        (e = .rdShared ⟨p, none⟩ ∧ k = .rdShared ∧ x = p) ∨ (e = .rdOwn p ∧ k = .rdOwn ∧ x = p) ∨
        (e = .writeback p ∧ k = .writeback ∧ x = p) ∨ (e = .evict p ∧ k = .evict ∧ x = p) ∨
        (e = .teeMarkApply p ∧ k = .mark ∧ x = { p with flag := true })) →
      Reaches s p → ∀ st, st = s.streamIn (inKey p) → st.held = [] → st.skipped = [] → st.next < 2 ^ 32 →
      (∀ n, p.via = .fabric n → ∀ d, d = (p.seq.toNat + 2 ^ 32 - st.next) % 2 ^ 32 →
        (2 ^ 31 ≤ d → exec e s = .next ((s.ackTo x).goOn.bufferFreed x (kindOp k))) ∧
        (d ≠ 0 → d < 2 ^ 31 → 256 ≤ s.holdback n → exec e s = .next ((s.nakTo x St.fabricBusy).goOn.bufferFreed x (kindOp k))) ∧
        (d ≠ 0 → d < 2 ^ 31 → s.holdback n < 256 → ∃ u : State, exec e s = .next (u.goOn.bufferFreed x (kindOp k)) ∧
          OnlyChanges [.streamsIn] s u ∧ u.streamIn (inKey p) = { st with held := [(k, x, s.now)] })) ∧
      (∀ y, ((∃ n, p.via = .fabric n ∧ p.seq.toNat = st.next ∧ y = x) ∨
          (p.via = .traek ∧ y = { x with seq := BitVec.ofNat 32 st.next })) →
        ∀ w, w = s.onStreamIn (inKey p) (fun r => { r with held := r.held ++ [(k, y, s.now)] }) →
          (s.flaggedReq k y = true → w.unapplied (inKey p) ≠ [] → exec e s = .next (w.goOn.bufferFreed x (kindOp k))) ∧
          ((s.flaggedReq k y = false ∨ w.unapplied (inKey p) = []) →
            ∃ u : State, exec e s = .next ((u.applyReq k y).goOn.bufferFreed x (kindOp k)) ∧
              OnlyChanges [.streamsIn] s u ∧ u.streamIn (inKey p) = { st with next := (st.next + 1) % 2 ^ 32 }))) ∧
    (p.via = .traek → Reaches s p →
      exec (.addPacket p) s = .next ((s.refusePacket p 0x04 St.reservedSet).bufferFreed p 0x04) ∧
      exec (.get p) s = .next ((s.refusePacket p 0x05 St.reservedSet).bufferFreed p 0x05)) ∧
    (∀ (ecc : Option (BitVec 32 × Bool)) n, p.via = .fabric n →
      exec (.rdShared ⟨p, ecc⟩) s = exec (.rdShared ⟨p, none⟩) (s.entryError p ecc)) ∧
    (∀ n a, p.via = .fabric n → a = p.addr.toNat % 2 ^ 48 →
      (p.length.toNat < 64 → s.applyReq .get p = s.refusePacket p 0x05 St.reservedSet) ∧
      (∀ k, (k = .get → 64 ≤ p.length.toNat) → s.isCompanion p.dst.toNat = false →
        (s.inboundGrants p.src.toNat a (pktBytes p) (kindBit k) = false →
          s.applyReq k p = s.refusePacket p (kindOp k) St.fabricDenied) ∧
        (s.inboundGrants p.src.toNat a (pktBytes p) (kindBit k) = true →
          (k = .mark → p.src.toNat = s.peer → s.applyReq .mark p = (s.applyMark (numAt p.data 0 8)).ackTo p) ∧
          (k = .mark → p.src.toNat ≠ s.peer → s.applyReq .mark p = s.refusePacket p 0x02 St.fabricDenied) ∧
          (k ≠ .mark → s.applyReq k p = s.startReq { kind := k, pkt := p, line := a, since := s.now })))) ∧
    (p.via = .traek → s.applyReq .mark p = s.refusePacket p 0x02 St.fabricDenied ∧ ∀ k, k ≠ .mark →
      (∀ a, s.traekTarget p.addr.toNat (pktBytes p) (kindBit k) = .inl a → s.applyReq k p =
        s.startReq { kind := k, pkt := { p with addr := BitVec.ofNat 64 a }, line := a, since := s.now }) ∧
      (∀ st, s.traekTarget p.addr.toNat (pktBytes p) (kindBit k) = .inr st →
        s.applyReq k p = if st = St.dictOnly then s.nakTo p st else s.nakFault p (kindAccess k) p.addr.toNat st)) ∧
    (∀ r : ChanReq, s.lineWait.any (fun x => lineOf x.line == lineOf r.line) = false → ∀ u, u = (s.tryReq r).1 →
      ((s.tryReq r).2 = none → s.startReq r = u) ∧
      (∀ k, (s.tryReq r).2 = some k → OnlyChanges [.lineWait] u (s.startReq r) ∧
        (s.startReq r).lineWait = u.lineWait ++ [{ r with since := s.now, key := k }])) ∧
    (∀ (r : ChanReq) (x c : Nat), place r.line = .scratch x → c = (r.line - 0x100000000000) / 0x2000000 →
      (s.region c).power ≠ 1 → (s.region c).power ≠ 2 → s.memStatus r.line (pktBytes r.pkt) .outside false = 0 →
      ((r.kind = .load ∨ r.kind = .get) → s.tryReq r = (s.serveRead r.pkt r.line, none)) ∧
      (r.kind = .store → r.pkt.poison = false →
        s.tryReq r = ((s.storeMem (storedOf r.pkt).1 (storedOf r.pkt).2).ackTo r.pkt, none)))

/-- DATA, ACK, NAK, snoops and their answers, probes, resyncs, heartbeats and DICT messages: what each leaves when it
arrives -/
def Obligations.ResponsesAndSnoopsTakeEffect : Prop :=
  ∀ (s : State) (p : Packet), Reaches s p →
    exec (.data p) s = .next (((s.answered p).foldl (fun x r => x.dataFor p r) (s.dropAnswered p)).goOn.bufferFreed p 0x81) ∧
    (p.via = .traek →
      exec (.ack p) s = .next (((s.answered p).foldl State.ackFor (s.dropAnswered p)).goOn.bufferFreed p 0x82) ∧
      exec (.nak p) s = .next (((s.answered p).foldl (fun x r => x.requestFails r.why r.owner p.op.toNat)
        (s.dropAnswered p)).goOn.bufferFreed p 0x83) ∧
      exec (.snpShare p) s = .next ((s.refusePacket p 0x10 St.reservedSet).bufferFreed p 0x10) ∧
      exec (.snpInval p) s = .next ((s.refusePacket p 0x11 St.reservedSet).bufferFreed p 0x11) ∧
      (s.localNode (p.addr.toNat / 2 ^ 48) = false →
        exec (.snpRsp p) s = .next ((s.sendFrom s.companion 0x90 (p.addr.toNat / 2 ^ 48) false p.poison 0 0 0
          (p.addr.toNat % 2 ^ 48) (p.data.length / 64) 0 0 p.data).bufferFreed p 0x90)) ∧
      exec (.probe p) s = .next ((s.refusePacket p 0x30 St.reservedSet).bufferFreed p 0x30) ∧
      exec (.probeRsp p) s = .next ((s.refusePacket p 0x86 St.reservedSet).bufferFreed p 0x86) ∧
      exec (.resync p) s = .next ((s.refusePacket p 0x31 St.reservedSet).bufferFreed p 0x31) ∧
      (∀ (f : Frame) (op : BitVec 8),
        (s.traekWindow p.addr.toNat 1 = none →
          exec (.dict p f op) s = .next ((s.nakFault p 3 p.addr.toNat St.addressUnmapped).bufferFreed p 0x0C)) ∧
        (∀ w, s.traekWindow p.addr.toNat 1 = some w →
          ((natFld w 24 1).testBit 4 = false →
            exec (.dict p f op) s = .next ((s.nakFault p 3 p.addr.toNat St.fabricDenied).bufferFreed p 0x0C)) ∧
          ((natFld w 24 1).testBit 4 = true → ∀ r, r = s.serveFrame .host f op.toNat → exec (.dict p f op) s =
            .next ((r.2.foldl (fun x d => (x.respond p 0x8C 0 d).bump 0xF00600 1) r.1).bufferFreed p 0x0C))))) ∧
    (∀ n key st, p.via = .fabric n → key = s.answerKey p → st = s.streamOut key →
      (∃ u : State, OnlyChanges [.streamsOut] s u ∧
        u.streamOut key = { st with unacked := st.unacked.filter (fun o => !coveredBy p.seq.toNat o) } ∧
        exec (.ack p) s = .next ((((st.unacked.filter (coveredBy p.seq.toNat)).flatMap (fun o => o.uses.filterMap (fun u => u.2.relayed))).foldl
          (fun x q => x.ackTo q) u).goOn.bufferFreed p 0x82)) ∧
      (st.unacked.find? (fun o => o.tag == p.tag.toNat) = none → exec (.nak p) s = .next (s.bufferFreed p 0x83)) ∧
      (∀ o, st.unacked.find? (fun o => o.tag == p.tag.toNat) = some o →
        (p.op.toNat = St.fabricBusy → exec (.nak p) s = .next ((s.resend o).bufferFreed p 0x83)) ∧
        (p.op.toNat ≠ St.fabricBusy → ∃ u : State, OnlyChanges [.streamsOut, .reqs] s u ∧ (∀ x ∈ (u.streamOut key).unacked, x.seq ≠ o.seq) ∧
          exec (.nak p) s = .next ((if o.posted then o.uses.foldl (fun x y => x.requestFails y.2 y.1 p.op.toNat) u
            else (s.answered p).foldl (fun x r => x.requestFails r.why r.owner p.op.toNat) u).goOn.bufferFreed p 0x83))) ∧
      exec (.snpShare p) s = .next ((s.respond p 0x90 0 []).bufferFreed p 0x10) ∧
      exec (.snpInval p) s = .next ((s.respond p 0x90 0 []).bufferFreed p 0x11) ∧
      exec (.probe p) s = .next ((s.sendBack p 0x86 (s.ackSeq (inKey p)) 0 0 0 false []).bufferFreed p 0x30) ∧
      (st.probing = false → exec (.probeRsp p) s = .next (s.bufferFreed p 0x86)) ∧
      (∀ lost kept, st.probing = true →
        lost = st.unacked.filter (fun o => decide (0 < (o.seq + 2 ^ 32 - p.seq.toNat) % 2 ^ 32) &&
          decide ((o.seq + 2 ^ 32 - p.seq.toNat) % 2 ^ 32 < 2 ^ 31) && !st.replayed.contains o.seq) →
        kept = st.unacked.filter (fun o => !lost.contains o) ++ st.held →
        ∃ (u w v : State) (cols : Bool), OnlyChanges [.streamsOut] s u ∧
          u.streamOut key = { st with unacked := kept, held := [], probing := false, replayed := [] } ∧
          w = (runsOf (lost.map (·.seq))).foldl (fun x r =>
            x.sendFrom (s.streamSrc key) 0x31 (key % 65536) false false 0 st.epoch.toNat r.1 r.2 0 0 0 []) u ∧
          cols = (key == streamKey false (key % 65536) && w.colSent.any (fun x => x.risk && x.node == key % 65536)) ∧
          (lost = [] → v = if cols then (w.loseCols (key % 65536)).bump 0x500B00 1 else w) ∧
          (lost ≠ [] → v = ((if cols then w.loseCols (key % 65536) else w).bump 0x500B00 1).losePackets (key % 65536) lost) ∧
          exec (.probeRsp p) s = .next ((st.held.foldl (fun x o => x.resend { o with msg := o.msg.withEpoch st.epoch.toNat })
            v).goOn.bufferFreed p 0x86)) ∧
      (∃ u : State, OnlyChanges [.streamsIn] s u ∧
        (u.streamIn (inKey p)).skipped = (s.streamIn (inKey p)).skipped ++ [(p.seq.toNat, p.addr.toNat % 2 ^ 32)] ∧
        exec (.resync p) s = .next ((((s.streamIn (inKey p)).held.filter (fun h =>
          inRun (p.seq.toNat, p.addr.toNat % 2 ^ 32) h.2.1.seq.toNat)).foldl (fun x h => x.ackTo h.2.1) (u.goOn.ackTo p)).bufferFreed p 0x31)) ∧
      (∀ t v, v = s.tick t →
        (p.src.toNat = s.peer ∧ n.val < 2 → exec (.heartbeat p t) s = .next ((v.gotBeat n p.data).bufferFreed p 0x33)) ∧
        (¬(p.src.toNat = s.peer ∧ n.val < 2) → ∃ u : State, OnlyChanges [.dict, .log, .logSeq, .mgmt] v u ∧
          exec (.heartbeat p t) s = .next (u.bufferFreed p 0x33)))) ∧
    (∀ line agent, line = lineKey (p.addr.toNat % 2 ^ 48) →
      ((∃ n, p.via = .fabric n ∧ agent = p.src.toNat) ∨
        (p.via = .traek ∧ s.localNode (p.addr.toNat / 2 ^ 48) = true ∧ agent = s.companion)) →
      (s.snoops.find? (fun x => x.line == line && x.agent == agent) = none → exec (.snpRsp p) s = .next (s.bufferFreed p 0x90)) ∧
      (∀ x, s.snoops.find? (fun x => x.line == line && x.agent == agent) = some x → ∃ u : State, OnlyChanges [.snoops, .directory] s u ∧
        u.snoops = s.snoops.erase x ∧ u.dirState line = (s.dirState line).without agent x.share s.now ∧
        exec (.snpRsp p) s = .next ((u.snoopData line agent x.share p.data p.poison).retryLines.goOn.bufferFreed p 0x90))) ∧
    (∀ (line : BitVec 48) t v, v = s.tick t →
      (v.snoops.find? (fun x => x.line == lineKey line.toNat && decide (x.since + 1000 * v.dv 0x501100 ≤ v.now)) = none →
        exec (.snoopTimeout line t) s = .next v) ∧
      (∀ x, v.snoops.find? (fun x => x.line == lineKey line.toNat && decide (x.since + 1000 * v.dv 0x501100 ≤ v.now)) = some x →
        ∃ u : State, OnlyChanges [.snoops, .directory, .marks, .dict, .log, .logSeq, .mgmt] v u ∧ u.snoops = v.snoops.erase x ∧
          x.agent ∉ (u.dirState x.line).agents ∧ exec (.snoopTimeout line t) s = .next (u.retryLines.goOn)))

/-- Pair and detach commands, their timeouts, loss, release of a frozen negative and heartbeats: what each leaves -/
def Obligations.PairRowsTakeEffect : Prop :=
  ∀ (m : Master) (t : Nat) (s v : State), v = s.tick t →
    ((v.twinCommand m && v.pairStatus == 0) = true → ∃ u : State, exec (.pair m t) s = .next u ∧
      OnlyChanges [.egress, .dict, .queues, .step, .ports, .streamsOut, .reqs, .nextTag, .traek, .twin] v u ∧ u.dv 0x600100 = 1 ∧
      u.twin.attempt = (v.twin.attempt + 1) % 2 ^ 32 ∧ u.twin.since = v.now) ∧
    ((v.twinCommand m && v.pairStatus == 0) = false → exec (.pair m t) s = .next v) ∧
    (v.twinState = 1 ∧ v.twin.since + 1000000000 ≤ v.now → ∃ u : State, exec (.pairingTimeout t) s = .next u ∧ u.dv 0x600100 = 0 ∧
      u.dv 0x600400 = St.twinTimeout ∧
      OnlyChanges [.egress, .dict, .queues, .step, .ports, .streamsOut, .reqs, .nextTag, .traek, .twin] v u) ∧
    (¬(v.twinState = 1 ∧ v.twin.since + 1000000000 ≤ v.now) → exec (.pairingTimeout t) s = .next v) ∧
    ((v.twinCommand m && v.detachStatus == 0) = true → ∃ u : State, exec (.detachCommand m t) s = .next u ∧
      OnlyChanges [.dict, .twin] v u ∧ u.dv 0x600100 = 3 ∧ u.twin = { v.twin with detachAt := some v.now, detachOwn := true }) ∧
    ((v.twinCommand m && v.detachStatus == 0) = false → exec (.detachCommand m t) s = .next v) ∧
    (∀ e : Instr, e = .detachAct t ∨ e = .detachReleaseAnswer t ∨ e = .detachTimeout t → v.twin.detachAt = none → exec e s = .next v) ∧
    (∀ a, v.twin.detachAt = some a →
      (∀ go, go = (v.dv 0x600100 == 3 && v.twin.detachOwn && !v.twin.detachSent && !v.detachBath &&
          decide (a + v.dv 0x600D00 * 500000 ≤ v.now)) →
        (go = false → exec (.detachAct t) s = .next v) ∧
        (go = true → v.dv 0xA03200 = 0 → exec (.detachAct t) s = .next (v.detachSend 0)) ∧
        (go = true → v.dv 0xA03200 ≠ 0 → v.step.updated = true → exec (.detachAct t) s = .next v) ∧
        (go = true → v.dv 0xA03200 ≠ 0 → v.step.updated = false → exec (.detachAct t) s = .next (v.askBath
          { q := 256, id := 0, purpose := 3, tag := none, mirror := true, keep := false, stage := 0, since := v.now, boundary := 0 }))) ∧
      (∀ go, go = (v.dv 0x600100 == 3 && v.twin.detachGot && !v.twin.detachOwn && decide (a + v.dv 0x600D00 * 500000 ≤ v.now)) →
        (go = false → exec (.detachReleaseAnswer t) s = .next v) ∧
        (go = true → ∃ u : State, exec (.detachReleaseAnswer t) s = .next u ∧ u.dv 0x600100 = 0 ∧
          OnlyChanges [.egress, .dict, .queues, .step, .ports, .streamsOut, .reqs, .nextTag, .traek, .twin] v u)) ∧
      ((v.twinState == 3 && v.twin.detachOwn && decide (a + v.dv 0x600D00 * 1000000 ≤ v.now)) = false →
        exec (.detachTimeout t) s = .next v)) ∧
    ((v.beating && decide (v.twin.lastBeat + 3000000 ≤ v.now)) = false → exec (.twinLost t) s = .next v) ∧
    (∀ e : Instr, (e = .twinLost t ∧ (v.beating && decide (v.twin.lastBeat + 3000000 ≤ v.now)) = true ∨
        e = .detachTimeout t ∧ ∃ a, v.twin.detachAt = some a ∧
          (v.twinState == 3 && v.twin.detachOwn && decide (a + v.dv 0x600D00 * 1000000 ≤ v.now)) = true) →
      ∃ u : State, exec e s = .next u ∧ u.dv 0x600100 = 4 ∧ u.twin.tees = [] ∧ u.twin.attempt = v.twin.attempt ∧
        u.twin.markApplied = v.twin.markApplied ∧
        OnlyChanges [.mem, .dict, .log, .logSeq, .queues, .streamsOut, .twin, .mgmt] v u) ∧
    (∀ w, w = v.teeRun →
      ((w.beating && decide (w.twin.lastSentAt + 1000000 ≤ w.now)) = false → exec (.heartbeatSend t) s = .next w) ∧
      ((w.beating && decide (w.twin.lastSentAt + 1000000 ≤ w.now)) = true → ∃ u : State, exec (.heartbeatSend t) s = .next u ∧
        OnlyChanges [.egress, .dict, .ports, .twin] w u ∧ u.twin = { w.twin with sent := w.twin.sent + 1, lastSentAt := w.now })) ∧
    ((s.twinCommand m && s.releaseStatus == 0) = true → ∃ u : State, exec (.releaseFrozenNegative m) s = .next u ∧ u.dv 0x600B00 = 0 ∧
      OnlyChanges [.mem, .dict, .queues, .twin] s u ∧ u.dv 0x600100 = if s.twinState = 4 then 0 else s.dv 0x600100) ∧
    ((s.twinCommand m && s.releaseStatus == 0) = false → exec (.releaseFrozenNegative m) s = .next s)

/-- OFFER, EVIDENCE, ACCEPT, REFUSE, DETACH and RELEASE of the twin are stored in the mailbox and acted on -/
def Obligations.PairingRecordsAreTaken : Prop :=
  (∀ (s s0 : State) (p : Packet) (e : Instr) (k t : Nat) (n : Fin 8),
    ((e = .offer p ∧ k = 1 ∧ s0 = s) ∨ (e = .evidence p ∧ k = 2 ∧ s0 = s) ∨ (e = .accept p ∧ k = 3 ∧ s0 = s) ∨
      (e = .refuse p ∧ k = 4 ∧ s0 = s) ∨ (e = .detach p t ∧ k = 5 ∧ s0 = s.tick t) ∨ (e = .pairingRelease p ∧ k = 6 ∧ s0 = s)) →
    Reaches s p → p.via = .fabric n → p.src.toNat = s.peer → p.addr.toNat % 2 ^ 48 = mailboxBase → p.length = 4 →
    p.mask = BitVec.allOnes 64 → p.data.length = 256 → numAt p.data 4 1 = k →
    s.inboundGrants p.src.toNat mailboxBase 256 1 = true → s.isCompanion p.dst.toNat = false →
    s.lineWait.any (fun x => lineOf x.line == lineOf mailboxBase) = false →
    (s.streamIn (inKey p)).held = [] → (s.streamIn (inKey p)).skipped = [] → p.seq.toNat = (s.streamIn (inKey p)).next →
    (s0.onStreamIn (inKey p) (fun r => { r with held := r.held ++ [(.store, { p with flag := true }, s0.now)] })).unapplied (inKey p) = [] →
    ∃ u v : State, OnlyChanges [.streamsIn] s0 u ∧ (u.streamIn (inKey p)).next = ((s.streamIn (inKey p)).next + 1) % 2 ^ 32 ∧
      OnlyChanges [.mem] u v ∧ exec e s = .next ((((v.gotRecord p.src.toNat p.data).ackTo { p with flag := true }).goOn).bufferFreed
        { p with flag := true } 0x02)) ∧
  (∀ (v : State) (src : Nat) (r : List Byte),
    (recordGood r = false → v.gotRecord src r = v.rejectMail src mailboxBase) ∧
    (recordGood r = true →
      (numAt r 4 1 = 1 →
        (v.twinState = 0 ∨ v.twinState = 4 → v.gotRecord src r = v.onTwin (fun x => { x with offer := some r })) ∧
        (v.twinState = 1 → v.gotRecord src r = (v.onTwin (fun x => { x with offer := some r })).handshake) ∧
        (v.twinState ≠ 0 → v.twinState ≠ 1 → v.twinState ≠ 4 → v.gotRecord src r = v)) ∧
      (numAt r 4 1 ≠ 1 →
        ((∀ o, v.twin.offer = some o → numAt o 8 4 ≠ numAt r 8 4) → v.gotRecord src r = v) ∧
        (∀ o, v.twin.offer = some o → numAt o 8 4 = numAt r 8 4 →
          (numAt r 4 1 = 2 → v.twinState = 1 →
            v.gotRecord src r = (v.onTwin (fun x => { x with peerEvidence := some (numAt r 96 4) })).handshake) ∧
          (numAt r 4 1 = 3 → v.twinState = 1 → v.gotRecord src r = (v.onTwin (fun x => { x with gotAccept := true })).handshake) ∧
          (numAt r 4 1 = 4 → v.twinState = 1 → (v.gotRecord src r).dv 0x600100 = 0 ∧
            (v.gotRecord src r).dv 0x600400 = numAt r 12 2) ∧
          (numAt r 4 1 ≤ 3 → v.twinState ≠ 1 → v.gotRecord src r = v) ∧
          ((numAt r 4 1 = 4 ∨ numAt r 4 1 = 6) → (v.twinState = 0 ∨ v.twinState = 4) →
            v.gotRecord src r = v.onTwin (fun x => { x with offer := none })) ∧
          (numAt r 4 1 = 4 → v.twinState ≠ 0 → v.twinState ≠ 1 → v.twinState ≠ 4 → v.gotRecord src r = v) ∧
          (numAt r 4 1 = 5 → v.twinState = 2 → (v.gotRecord src r).dv 0x600100 = 3 ∧
            (v.gotRecord src r).twin = { v.twin with detachGot := true, detachAt := some v.now }) ∧
          (numAt r 4 1 = 6 → v.twinState = 3 → v.twin.detachSent = true → (v.gotRecord src r).dv 0x600100 = 0)))))

/-- Sleep, wake, slope grants, point changes, monitors, droops and time alignment: what each row leaves, and when it does
nothing -/
def Obligations.ClockRowsTakeEffect : Prop :=
  ∀ (r : Fin 48) (t : Nat) (s s0 : State) (x : Region), s0 = s.atTime t → x = s0.region r →
    (∀ may, may = decide (x.power = 0 ∧ x.tripped = false ∧ x.coolant = false ∧ x.interval = false ∧ x.change.isNone = true ∧
        s0.mayGate r = true ∧ x.filler * 2 ≤ (s0.now - x.fillerAt) * s0.dv 0x200600 ∧ x.idleSince + s0.dv 0x301000 ≤ s0.now) →
      (may = false → EndsIn (.regionGate r t) s s0) ∧
      (may = true → ∃ (w : State) (y : Region), OnlyChanges [.dict, .regions] s0 w ∧ EndsIn (.regionGate r t) s (w.syncRegion r) ∧ RegionIs s0 w r y ∧
        y = { x with power := 1, wake := false, gatedSince := s0.now, stretch := false, filler := y.filler, fillerAt := y.fillerAt })) ∧
    (x.power = 1 ∧ x.wake = false ∧ x.staged = 0 ∧ x.gatedSince + 1000 * s0.dv 0x301100 ≤ s0.now → ∃ w : State, EndsIn (.regionPllOff r t) s w ∧
      OnlyChanges [.regions] s0 w ∧ RegionIs s0 w r { x with power := 2 }) ∧
    (¬(x.power = 1 ∧ x.wake = false ∧ x.staged = 0 ∧ x.gatedSince + 1000 * s0.dv 0x301100 ≤ s0.now) → EndsIn (.regionPllOff r t) s s0) ∧
    ((x.power ≠ 1 ∧ x.power ≠ 2) ∨ x.wake = false → EndsIn (.regionWake r t) s s0) ∧
    (x.power = 1 ∨ x.power = 2 → x.wake = true →
      (0 < x.staged → EndsIn (.regionWake r t) s (s0.stageNext r)) ∧
      (x.staged = 0 → s0.slopeWaits 2 r = true → EndsIn (.regionWake r t) s s0) ∧
      (x.staged = 0 → s0.slopeWaits 2 r = false → ∀ a, a = s0.askSlope 2 r (s0.currentStep 0 1 r) (0, 0) →
        (x.power = 1 → s0.heavyNeighbour r = false → a.2 = true → EndsIn (.regionWake r t) s (a.1.wakeUp r)) ∧
        (x.power = 1 → s0.heavyNeighbour r = false → a.2 = false → EndsIn (.regionWake r t) s a.1) ∧
        ((x.power = 2 ∨ s0.heavyNeighbour r = true) → ∃ w : State, EndsIn (.regionWake r t) s (w.stageNext r) ∧
          OnlyChanges [.dict, .regions] s0 w ∧ RegionIs s0 w r { x with staged := 16, stagedAt := s0.now } ∧
          w.dv 0x300900 = (s0.dv 0x300900 + 1) % 256 ^ entrySize 0x300900))) ∧
    (∀ v : State, ∃ w : State, v.wakeUp r = (w.setRail (max w.power.setpoint w.railNeed)).retryLines.goOn ∧ (w.region r).power = 0 ∧
      (w.region r).wake = false ∧ (w.region r).staged = 0 ∧ OnlyChanges [.regions, .channels] v w) ∧
    (∀ (half : Fin 2) g, g = (s0.governor (half == 1)).grown (s0.dv 0x200600) s0.now →
      ((g.first = none ∨ ∃ q, g.first = some q ∧ g.allowance < q.step) → EndsIn (.slopeGrant half t) s (s0.setGovernor (half == 1) g)) ∧
      (∀ q, g.first = some q → q.step ≤ g.allowance → EndsIn (.slopeGrant half t) s
        (((s0.setGovernor (half == 1) { g with allowance := g.allowance - q.step, waiting := g.waiting.erase q }).throttleTime 4
          (s0.now - q.since)).slopeGranted q))) ∧
    (∀ n, n = s0.wantedPoint r →
      (x.power ≠ 0 ∨ x.change.isSome = true ∨ x.retry.isSome = true ∨ n = x.point ∨ (x.point < n ∧ s0.power.avsSilent = true) →
        EndsIn (.pointChange r t) s s0) ∧
      (x.power = 0 → x.change = none → x.retry = none → n ≠ x.point → (n < x.point ∨ s0.power.avsSilent = false) →
        ∃ w : State, OnlyChanges [.regions] s0 w ∧ RegionIs s0 w r { x with change := some { target := n, since := s0.now } } ∧
          EndsIn (.pointChange r t) s (if x.point < n then w.setRail (max w.power.setpoint w.railNeed) else w))) ∧
    ((x.change = none ∨ s0.shutterReady r = false ∨ x.power ≠ 0) → EndsIn (.shutterStop r t) s s0) ∧
    (∀ c n, x.change = some c → n = (if x.point < c.target then max x.point (min c.target (s0.allowedPoint r)) else c.target) →
      (s0.shutterReady r = true → x.power = 0 → ∃ w : State, EndsIn (.shutterStop r t) s (w.setRail w.railNeed) ∧
        OnlyChanges [.dict, .regions] s0 w ∧ RegionIs s0 w r { x with point := n, change := none } ∧
        w.dv 0x300500 = (s0.dv 0x300500 + if n = x.point then 0 else 1) % 256 ^ entrySize 0x300500) ∧
      (c.since + 10000 ≤ s0.now → s0.shutterReady r = false → ∃ w : State, EndsIn (.freqChangeAbandon r t) s w ∧
        OnlyChanges [.dict, .regions, .log, .logSeq, .mgmt] s0 w ∧
        RegionIs s0 w r { x with change := none, retry := some { c with since := s0.now } }) ∧
      (s0.now < c.since + 10000 ∨ s0.shutterReady r = true → EndsIn (.freqChangeAbandon r t) s s0)) ∧
    (x.change = none → EndsIn (.freqChangeAbandon r t) s s0) ∧
    (x.retry = none → EndsIn (.freqChangeRetry r t) s s0) ∧
    (∀ c, x.retry = some c → (s0.now < c.since + 100000 → EndsIn (.freqChangeRetry r t) s s0) ∧
      (c.since + 100000 ≤ s0.now → ∃ w : State, OnlyChanges [.regions] s0 w ∧ RegionIs s0 w r { x with retry := none } ∧
        EndsIn (.freqChangeRetry r t) s (w.askPoint r))) ∧
    (∀ margin amp, (x.power ≠ 0 → EndsIn (.monitorSample r margin amp t) s s0) ∧
      (x.power = 0 → ∃ (w : State) (y : Region), EndsIn (.monitorSample r margin amp t) s w.checkOvercurrent ∧ OnlyChanges [.regions] s0 w ∧
        RegionIs s0 w r y ∧ y.deciAmp = amp ∧ y.point = x.point ∧
        (margin < 60 → y.monitor = x.point - 1 ∧ y.marginSince = none) ∧
        (60 ≤ margin → margin < 120 → y.monitor = x.monitor ∧ y.marginSince = none) ∧
        (120 ≤ margin → x.marginSince = none → y.monitor = x.monitor ∧ y.marginSince = some s0.now) ∧
        (∀ a, 120 ≤ margin → x.marginSince = some a → a + 1000000 ≤ s0.now → y.monitor = min 7 (x.monitor + 1)))) ∧
    (∀ mv, (x.power ≠ 0 → EndsIn (.droopDetect r mv t) s s0) ∧
      (x.power = 0 → ∃ (w : State) (y : Region), EndsIn (.droopDetect r mv t) s w ∧ OnlyChanges [.regions, .fresh] s0 w ∧ RegionIs s0 w r y ∧
        y.milliVolt = mv ∧ (x.minVolt = 0 ∨ mv < x.minVolt → y.minVolt = mv ∧ y.minAt = s0.now) ∧
        (x.minVolt ≠ 0 → x.minVolt ≤ mv → y.minVolt = x.minVolt ∧ y.minAt = x.minAt) ∧
        y.stretch = (x.stretch || decide (mv + 25 < s0.regionVolt r x.point)) ∧
        (s0.dv 0x300B00 ≠ 0 ∨ s0.regionVolt r x.point ≤ mv + 25 → y.margin = x.margin) ∧
        (s0.dv 0x300B00 = 0 → mv + 25 < s0.regionVolt r x.point → y.margin ≤ 20))) ∧
    (∀ n, (x.stretch = false → EndsIn (.stretchEnd r n t) s s0) ∧
      (x.stretch = true → ∃ w : State, EndsIn (.stretchEnd r n t) s w ∧ OnlyChanges [.dict, .regions] s0 w ∧
        RegionIs s0 w r { x with stretch := false, clearSince := s0.now } ∧
        w.dv 0x300700 = (s0.dv 0x300700 + n) % 256 ^ entrySize 0x300700)) ∧
    (∀ (a : List TimeSample) v l, v = s.tick t → l = (v.power.timeReplies ++ a).take 8 →
      (v.timeSourced = false → exec (.timeAlignExchange a t) s = .next (v.setTimeState 0)) ∧
      (v.timeSourced = true → l = [] → exec (.timeAlignExchange a t) s =
        .next (if v.power.timeSent then v.failedExchange else v).sendTimeLoads) ∧
      (∀ b, v.timeSourced = true → bestSample l = some b → b ∈ l ∧ (∀ c ∈ l, b.t4 - b.t1 ≤ c.t4 - c.t1) ∧
        exec (.timeAlignExchange a t) s = .next (v.goodExchange ((b.source : Int) - ((b.t1 + b.t4 : Nat) : Int) / 2)).sendTimeLoads) ∧
      (∀ u : State, OnlyChanges [.egress, .dict, .step, .ports, .streamsOut, .reqs, .nextTag, .traek, .power] u u.sendTimeLoads))

/-- Guard band, regulator slices, the power module's buses, the cap and interval slots: what each row leaves, and when it
does nothing -/
def Obligations.SupplyAndCapRowsTakeEffect : Prop :=
  ∀ (t : Nat) (s s0 : State), s0 = s.atTime t →
    (∀ due, due = decide (s0.dv 0x300B00 = 1 ∧ s0.dv 0x110800 ≠ 0 ∧ s0.dv 0x110800 + 10000000 ≤ s0.now) →
      (due = false → EndsIn (.guardBandEnd t) s s0) ∧
      (due = true → ∃ w : State, EndsIn (.guardBandEnd t) s (w.setRail w.railNeed) ∧ OnlyChanges [.fresh, .dict, .regions] s0 w ∧
        w.dv 0x300B00 = 0 ∧ ∀ r, r < 48 → (w.region r).margin ≤ 20)) ∧
    (∀ (r : Fin 48) (k : Fin 16) x, x = s0.region r →
      (x.power = 3 ∨ x.failed.getLsbD k = true → EndsIn (.sliceFailure r k t) s s0) ∧
      (x.power ≠ 3 → x.failed.getLsbD k = false → ∃ w y, y = { x with failed := x.failed ||| BitVec.ofNat 16 (2 ^ k.val) } ∧
        OnlyChanges [.regions, .dict, .log, .logSeq, .mgmt] s0 w ∧ RegionIs s0 w r y ∧
        (y.failures < 3 → EndsIn (.sliceFailure r k t) s w) ∧ (3 ≤ y.failures → EndsIn (.sliceFailure r k t) s (w.goDark r 1)))) ∧
    (∀ (m : Master) (b : BitVec 8), MayWrite s m 0x201200 1 →
      (48 ≤ b.toNat → b ≠ 0xFF → exec (.clearMinimumVoltage m b) s = .next (s.renewHold m)) ∧
      ((b.toNat < 48 ∨ b = 0xFF) → ∃ u : State, exec (.clearMinimumVoltage m b) s = .next (u.written m 0x201200 b.toNat) ∧
        OnlyChanges [.regions] (s.renewHold m) u ∧ ∀ j, j < 48 → u.region j =
          if j = b.toNat ∨ b = 0xFF then { s.region j with minVolt := 0, minAt := 0 } else s.region j)) ∧
    (∀ reply rises,
      (s0.power.avsSilent = true ∨ (s0.power.avsAt ≠ 0 ∧ s0.now < s0.power.avsAt + 20000) → EndsIn (.avsbusRead reply rises t) s s0) ∧
      (s0.power.avsSilent = false → (s0.power.avsAt = 0 ∨ s0.power.avsAt + 20000 ≤ s0.now) →
        ∃ w v : State, w.power = { s0.power with avsAt := s0.now } ∧ OnlyChanges [.power] s0 w ∧
          (∀ x, reply = some x → v = w.avsReply x.1 x.2) ∧ (reply = none → v = w.avsFailed) ∧
          EndsIn (.avsbusRead reply rises t) s (if rises = [] then v.checkOvercurrent
            else ((rises.foldl (fun (x : State) g => x.landRise g.1 g.2) v).applyLand).checkOvercurrent)) ∧
      (s0.power.avsSilent = false ∨ s0.now < s0.power.avsAt + 100000 → EndsIn (.avsbusRetry reply t) s s0) ∧
      (s0.power.avsSilent = true → s0.power.avsAt + 100000 ≤ s0.now → ∃ w : State, OnlyChanges [.dict, .log, .logSeq, .power, .mgmt] s0 w ∧
        w.power.avsAt = s0.now ∧ w.power.avsSilent = reply.isNone ∧
        EndsIn (.avsbusRetry reply t) s (if reply.isNone then w else w.setRail w.railNeed))) ∧
    (∀ p, p = s0.power →
      (∀ a, p.railLow = some a →
        (s0.now < a + 1000000 ∨ (p.supplyAt ≠ 0 ∧ s0.now < p.supplyAt + 100000) → EndsIn (.supplyLimitStep t) s s0) ∧
        (a + 1000000 ≤ s0.now → p.supplyAt = 0 ∨ p.supplyAt + 100000 ≤ s0.now → ∃ w : State, EndsIn (.supplyLimitStep t) s w ∧
          OnlyChanges [.regions, .power, .dict, .log, .logSeq, .mgmt] s0 w ∧
          w.power = { p with lowReported := true, supplyAt := s0.now } ∧
          ∀ r, r < 32 → w.region r = { s0.region r with supply := min (s0.region r).supply (s0.region r).point - 1 })) ∧
      (∀ a, p.railLow = none → p.railGood = some a →
        (s0.now < a + 10000000 ∨ s0.now < p.supplyAt + 1000000 → EndsIn (.supplyLimitStep t) s s0) ∧
        (a + 10000000 ≤ s0.now → p.supplyAt + 1000000 ≤ s0.now → ∃ w : State, EndsIn (.supplyLimitStep t) s w ∧
          OnlyChanges [.regions, .power] s0 w ∧ w.power = { p with supplyAt := s0.now } ∧
          ∀ r, r < 32 → w.region r = { s0.region r with supply := min 7 ((s0.region r).supply + 1) })) ∧
      (p.railLow = none → p.railGood = none → EndsIn (.supplyLimitStep t) s s0)) ∧
    (∀ (st : Option (BitVec 16)) (feed : List Byte), ∃ w : State, EndsIn (.pmbusRead st feed t) s w ∧
      OnlyChanges [.egress, .dict, .log, .logSeq, .power, .mgmt] s0 w ∧
      (∀ x, st = some x → w.dv 0x203200 = x.toNat ∧ w.power.pmbusFault = decide (x ≠ 0)) ∧
      (st = none → w.power = { s0.power with feedBad := w.power.feedBad } ∧ w.dv 0x203200 = s0.dv 0x203200) ∧
      (feed.length = 16 → w.dv 0x600900 = leNat feed) ∧ (feed ≠ [] → feed.length ≠ 16 → w.dv 0x600900 = 0) ∧
      (st = none → feed = [] → w = s0)) ∧
    (∀ (m : Master) (w : BitVec 32), MayWrite s m 0x200100 4 →
      (1250 < w.toNat → exec (.capWrite m w) s = .next (s.renewHold m)) ∧
      (w.toNat ≤ 1250 → ∃ u : State, exec (.capWrite m w) s = .next (u.written m 0x200100 w.toNat) ∧
        OnlyChanges [.dict, .power] (s.renewHold m) u ∧ u.dv 0x200100 = w.toNat ∧ u.dv 0x200200 = max 90 w.toNat ∧
        u.power.ceiling = ceilingFor (min (max 90 w.toNat) (s.dv 0x280600)))) ∧
    (∀ watts, (s0.power.tickAt ≠ 0 ∧ s0.now < s0.power.tickAt + 100000 → EndsIn (.powerLoopTick watts t) s s0) ∧
      (s0.power.tickAt = 0 ∨ s0.power.tickAt + 100000 ≤ s0.now → ∃ v w : State, EndsIn (.powerLoopTick watts t) s (w.keepWarm watts) ∧
        OnlyChanges [.dict, .power] s0 v ∧ v.power.watts = watts ∧ v.power.tickAt = s0.now ∧
        v.power = { s0.power with watts := watts, tickAt := s0.now, history := v.power.history } ∧
        (v.powerLimit < watts → OnlyChanges [.power] v w ∧ w.power.lowSince = none ∧
          (v.power.intervalOn = true → w.power.k = max 1 (v.power.k - 1)) ∧
          (v.power.intervalOn = false → 0 < v.power.ceiling → w.power.ceiling = v.power.ceiling - 1) ∧
          (v.power.intervalOn = false → v.power.ceiling = 0 → w.power.intervalOn = true ∧ w.power.k = 32)) ∧
        (100 * watts < 95 * v.powerLimit → w = v.powerLow) ∧
        (watts ≤ v.powerLimit → 95 * v.powerLimit ≤ 100 * watts → OnlyChanges [.power] v w ∧
          w.power = { v.power with lowSince := none }))) ∧
    (s0.power.intervalOn = false ∨ s0.now < s0.power.slotAt + 31250 → EndsIn (.intervalSlot t) s s0) ∧
    (s0.power.intervalOn = true → s0.power.slotAt + 31250 ≤ s0.now → ∃ w : State, EndsIn (.intervalSlot t) s w.goOn ∧
      OnlyChanges [.regions, .power, .dict] s0 w ∧ w.power.slot = (s0.power.slot + s0.power.k) % 32 ∧ w.power.slotAt = s0.now)

/-- Hot spots, the thermal limit, the tray bus, resume and the flow: what each row leaves, and when it does nothing -/
def Obligations.CoolingRowsTakeEffect : Prop :=
  ∀ (t : Nat) (s s0 : State), s0 = s.atTime t →
    (∀ (h : Fin 80) (a b : Int) (model : Int) (x : HotSpot), model = s0.spotModel h →
      x = (judgeSpot (s0.spot h) a b model s0.now).withTemp (max model (s0.nearbyTemp h)) →
      (∃ w : State, OnlyChanges [.spots, .regions, .dict, .log, .logSeq, .mgmt] s0 w ∧ (∀ j, j ≠ h.val → w.spot j = s0.spot j) ∧
        w.spot h = { x with recent := (w.spot h).recent } ∧
        EndsIn (.hotSpotSample h a b t) s (if risesFast (s0.spot h).recent x.temp s0.now then w.declareStop 2 false h else w.endIfOver)) ∧
      x.a = a ∧ x.b = b ∧ x.readAt = s0.now ∧
      ((s0.spot h).suspectA = false → (s0.spot h).suspectB = false → (a - b).natAbs ≤ 60 → x.temp = max a b ∧ x.estimated = false)) ∧
    (∀ v : State, v.cooling.stopped = false → ∀ cause quick h,
      (v.declareStop cause quick h).cooling.stopped = true ∧ (v.declareStop cause quick h).dv 0x280700 = 3 ∧
      ∀ r, r < 32 → ((v.declareStop cause quick h).region r).coolant = true) ∧
    (∀ (r : Fin 48) (hot : Bool) (v w : State), v = s0.noteCool r →
      hot = (hotSpotsOf r).any (fun h => decide (s0.dodgeAt h < (s0.spot h).temp)) →
      (r.val < 32 → hot = true → (v.region r).thermalAt = 0 ∨ (v.region r).thermalAt + 100000 ≤ v.now →
        ∃ w : State, EndsIn (.thermalLimitStep r t) s (w.tripStep r) ∧ OnlyChanges [.regions] v w ∧
          RegionIs v w r { v.region r with thermal := (v.region r).thermal - 1, thermalAt := v.now }) ∧
      (r.val < 32 → hot = true → (v.region r).thermalAt ≠ 0 → v.now < (v.region r).thermalAt + 100000 →
        EndsIn (.thermalLimitStep r t) s (v.tripStep r)) ∧
      (∀ a, r.val < 32 → hot = false → (v.region r).coolSince = some a → a + 1000000 ≤ v.now →
        ∃ w : State, EndsIn (.thermalLimitStep r t) s (w.tripStep r) ∧ OnlyChanges [.regions] v w ∧
          RegionIs v w r { v.region r with thermal := min 7 ((v.region r).thermal + 1), coolSince := some v.now }) ∧
      (32 ≤ r.val → EndsIn (.thermalLimitStep r t) s (s0.tripStep r)) ∧
      ((w.region r).tripped = false → (w.spot (w.hottest r)).temp < 1100 → w.tripStep r = w) ∧
      ((w.region r).tripped = false → 1100 ≤ (w.spot (w.hottest r)).temp → ((w.tripStep r).region r).tripped = true ∧
        OnlyChanges [.regions, .spots, .dict, .log, .logSeq, .mgmt] w (w.tripStep r)) ∧
      ((w.region r).tripped = true → 1000 < (w.spot (w.hottest r)).temp → w.tripStep r = w) ∧
      ((w.region r).tripped = true → (w.spot (w.hottest r)).temp ≤ 1000 → ∃ u : State, w.tripStep r = u.goOn ∧
        OnlyChanges [.regions, .spots] w u ∧ RegionIs w u r { w.region r with tripped := false })) ∧
    (∀ (m : Option Master) (pids : List (BitVec 48)) (v : State), (m = none ∧ v = s ∨ ∃ x, m = some x ∧ MayWrite s x 0x281600 4 ∧ v = s.renewHold x) →
      ∃ u : State, OnlyChanges [.egress, .dict, .log, .logSeq, .cooling, .mgmt] v u ∧
        (∀ k i, k < 4 → pids.findIdx? (fun p => p.toNat == v.dv (0x283001 + k) % 2 ^ 48 && p != 0) = some i →
          (u.role k).bound = true ∧ (u.role k).addr = 0x30 + i) ∧
        (∀ k, k < 4 → pids.findIdx? (fun p => p.toNat == v.dv (0x283001 + k) % 2 ^ 48 && p != 0) = none →
          (u.role k).bound = false ∧ (u.role k).valid = false) ∧
        (m = none → exec (.reEnumerate m pids) s = .next u) ∧
        (∀ x, m = some x → exec (.reEnumerate m pids) s = .next (u.written x 0x281600 2))) ∧
    (∀ (p : TrayPoll) (v w : State), v = (((s0.trayRead 0 p.inlet).trayRead 1 p.outlet).trayRead 2 p.flow).checkInlet →
      w = (if !(v.role 2).valid then v.fallBackState else match p.flow with | some x => v.flowReading x.toNat | none => v) →
      EndsIn (.trayRead p t) s w.endIfOver) ∧
    (∀ v : State, v.endIfOver = if v.cooling.stopped && v.stopOver && v.dv 0x281500 == 0 then v.endStop else v) ∧
    (∀ m, MayWrite s0 m 0x281600 4 → ∀ v, v = s0.renewHold m →
      (v.cooling.stopped = false → EndsIn (.resume m t) s (v.written m 0x281600 1)) ∧
      (v.cooling.stopped = true → v.stopOver = true → EndsIn (.resume m t) s (v.endStop.written m 0x281600 1)) ∧
      (v.cooling.stopped = true → v.stopOver = false → EndsIn (.resume m t) s v)) ∧
    (∀ (done : Bool) n c, n = s0.wantedFlow → c = s0.cooling →
      (n = c.request → s0.now < c.requestAt + 100000000 → EndsIn (.flowRequestWrite done t) s s0) ∧
      ((n ≠ c.request ∨ c.requestAt + 100000000 ≤ s0.now) → ∃ w : State, OnlyChanges [.dict, .cooling] s0 w ∧
        w.dv 0x280400 = f32RatioInt n 1000 ∧
        (c.request < n ∧ c.request ≠ 0 → w.cooling = { c with request := n, requestAt := s0.now, before := c.request, raisedAt := s0.now }) ∧
        (¬(c.request < n ∧ c.request ≠ 0) → w.cooling = { c with request := n, requestAt := s0.now }) ∧
        EndsIn (.flowRequestWrite done t) s (if (w.role 3).bound then
          (if done then (w.send (.flowRequest n)).trayGood 3 n else w.trayFails 3) else w))) ∧
    ((s0.dv 0x280700 ≠ 1 ∧ s0.dv 0x280700 ≠ 2) ∨ (s0.cooling.trendAt ≠ 0 ∧ s0.now < s0.cooling.trendAt + 1000000000) →
      EndsIn (.flowTrendUpdate t) s s0) ∧
    ((s0.dv 0x280700 = 1 ∨ s0.dv 0x280700 = 2) → (s0.cooling.trendAt = 0 ∨ s0.cooling.trendAt + 1000000000 ≤ s0.now) →
      ∃ w : State, EndsIn (.flowTrendUpdate t) s w ∧ OnlyChanges [.dict, .cooling] s0 w ∧ w.cooling = { s0.cooling with trendAt := s0.now } ∧
        w.dv 0x280800 = f32RatioInt ((s0.cooling.fraction : Int) - (match s0.cooling.history with
          | x :: _ => x.2
          | [] => s0.cooling.fraction)) 100)

/-- READ, WRITE, BLOCK_READ, SUBSCRIBE, UNSUBSCRIBE are dropped, answered from the cache or executed and answered; events
are sent -/
def Obligations.DictionaryRowsTakeEffect : Prop :=
  ∀ (m : Master) (f : Frame) (s v : State),
    (∀ (e : Instr) (op : Nat), ((e = .read m f ∧ op = 1) ∨ (e = .write m f ∧ op = 2) ∨ (e = .blockRead m f ∧ op = 3) ∨
        (e = .subscribe m f ∧ op = 4) ∨ (e = .unsubscribe m f ∧ op = 5)) →
      (∀ mac s1, m = .mgmt mac → s1 = s.bump 0xF00500 1 →
        (s.extestOn = true → exec e s = .next s) ∧
        (s.extestOn = false → s1.portFault f op ≠ 0 → exec e s = .next (s1.bump (0xF00700 + s1.portFault f op) 1)) ∧
        (s.extestOn = false → s1.portFault f op = 0 → s1.signatureFault f op ≠ 0 →
          exec e s = .next (s1.dropSigned mac (s1.signatureFault f op)))) ∧
      ((m = .host ∧ v = s ∨ ∃ mac s1, m = .mgmt mac ∧ s.extestOn = false ∧ s1 = s.bump 0xF00500 1 ∧ s1.portFault f op = 0 ∧
          s1.signatureFault f op = 0 ∧ v = s1.renewHold m) →
        (∀ c, v.cachedFor m f op = some c → exec e s =
          .next (c.response.foldl (fun x p => (x.send (.dictionary m p)).bump 0xF00600 1) (v.bump 0xF00800 1))) ∧
        (v.cachedFor m f op = none → ∀ a c, a = v.answerFrame m f op → c = (⟨m, f.seq, crc64 (requestPdu f op), a.2⟩ : Cached) →
          ∃ u : State, OnlyChanges [.mgmt] a.1 u ∧ u.mgmt = { a.1.mgmt with cache := remember a.1.mgmt.cache c } ∧
            exec e s = .next (a.2.foldl (fun x p => (x.send (.dictionary m p)).bump 0xF00600 1) u)))) ∧
    (∀ sig, sig = (f.signature.isSome && !fromHost m) →
      (∀ op, f.version ≠ 1 → v.answerFrame m f op = (v, v.responsePdus f op sig [] St.version)) ∧
      (∀ op, f.version = 1 → (f.malformed || f.items.any (·.rsvd)) = true →
        v.answerFrame m f op = (v, v.responsePdus f op sig [] St.frameMalformed)) ∧
      (f.version = 1 → (f.malformed || f.items.any (·.rsvd)) = false →
        (∀ rs, rs = f.items.map (v.readItem m f.meta') → v.answerFrame m f 1 =
          (v, if 1500 < responseSize sig rs then v.responsePdus f 1 sig [] St.frameMalformed else v.responsePdus f 1 sig rs 0)) ∧
        (1500 < writeSize f → v.answerFrame m f 2 = (v, v.responsePdus f 2 sig [] St.frameMalformed)) ∧
        (∀ r, writeSize f ≤ 1500 → f.allOrNothing = false → r = State.writeItems m f.meta' v f.items →
          v.answerFrame m f 2 = (r.1, r.1.responsePdus f 2 sig r.2 0)) ∧
        (∀ r, writeSize f ≤ 1500 → f.allOrNothing = true → r = v.writeAll m f.meta' f.items →
          v.answerFrame m f 2 = (r.1, r.1.responsePdus f 2 sig r.2.1 r.2.2)) ∧
        v.answerFrame m f 3 = (v, v.responsePdus f 3 sig (f.items.flatMap (v.blockItems m f.meta')) 0) ∧
        (∃ rs, OnlyChanges [.mgmt] v (v.answerFrame m f 4).1 ∧ rs.length = f.items.length ∧
          (v.answerFrame m f 4).2 = (v.answerFrame m f 4).1.responsePdus f 4 sig rs 0 ∧
          ∀ i, f.items = [i] → v.subscribeStatus m (itemKey i) i.value = 0 → ∃ x,
            (v.answerFrame m f 4).1.mgmt.subs.filter (fun y => y.master == m && y.key == itemKey i) = [x] ∧
            x.onChange = (leNat i.value).testBit 0 ∧ x.periodic = (leNat i.value).testBit 1 ∧ x.periodMs = natFld (leNat i.value) 4 4 ∧
            x.spacingMs = natFld (leNat i.value) 8 4 ∧ x.signed = sig ∧ x.sentValue = v.watched m (itemKey i) ∧
            x.periodAt = v.now ∧ x.sent = false ∧ x.held = none) ∧
        (∃ rs, OnlyChanges [.mgmt] v (v.answerFrame m f 5).1 ∧ rs.length = f.items.length ∧
          (v.answerFrame m f 5).2 = (v.answerFrame m f 5).1.responsePdus f 5 sig rs 0 ∧
          ∀ i ∈ f.items, (v.answerFrame m f 5).1.mgmt.subs.filter (fun y => y.master == m && y.key == itemKey i) = []))) ∧
    (∀ (key : BitVec 24) t w, w = s.tick t →
      (w.mgmt.subs.find? (fun x => x.master == m && x.key == key.toNat) = none → exec (.subscriptionEvent m key t) s = .next w) ∧
      (∀ x n y, w.mgmt.subs.find? (fun x => x.master == m && x.key == key.toNat) = some x → n = w.watched x.master x.key →
        y = (if x.periodOver w.now then { x with periodAt := w.now } else x) →
        ((x.periodOver w.now || (x.onChange && n != x.sentValue)) = false → x.held = none → exec (.subscriptionEvent m key t) s = .next w) ∧
        ((x.periodOver w.now || (x.onChange && n != x.sentValue)) = true ∨ x.held.isSome = true →
          (x.sent = true → w.now < x.last + 1000000 * x.spacingMs →
            exec (.subscriptionEvent m key t) s = .next (w.setSub x { y with held := some (n, w.now) })) ∧
          (x.sent = false ∨ x.last + 1000000 * x.spacingMs ≤ w.now →
            (∀ mac, m = .mgmt mac → w.extestOn = false → exec (.subscriptionEvent m key t) s =
              .next ((w.setSub x { y with sent := true, last := w.now, sentValue := n, held := none }).portEvent mac x.signed x.key n)) ∧
            (m = .host → w.hasRing = true → w.ringFull = false → exec (.subscriptionEvent m key t) s =
              .next ((w.setSub x { y with sent := true, last := w.now, sentValue := n, held := none }).hostEvent x.key n)) ∧
            (m = .host → w.hasRing = false →
              exec (.subscriptionEvent m key t) s = .next (w.setSub x { y with sentValue := n, held := none }))))))

/-- Holds, the event ring's registers, health, the two controllers' heartbeats and leads, and the management port's beacons -/
def Obligations.ControllerRowsTakeEffect : Prop :=
  ∀ (m : Master) (t : Nat) (s v : State), v = s.tick t →
    (∀ b : BitVec 64, MayWrite s m 0xF04000 8 → ∀ w, w = s.renewHold m →
      (b.toNat % 64 = 0 → w.dv 0xF04200 = w.dv 0xF04300 → ∃ u : State, exec (.hostEventRingConfig m (some b) none) s =
        .next (u.written m 0xF04000 b.toNat) ∧ OnlyChanges [.dict] w u ∧ u.dv 0xF04000 = b.toNat) ∧
      (b.toNat % 64 ≠ 0 ∨ w.dv 0xF04200 ≠ w.dv 0xF04300 → exec (.hostEventRingConfig m (some b) none) s = .next w)) ∧
    (∀ b : BitVec 8, MayWrite s m 0xF04100 1 → ∀ w, w = s.renewHold m →
      (b = 0 ∨ (4 ≤ b.toNat ∧ b.toNat ≤ 12) → w.dv 0xF04200 = w.dv 0xF04300 → ∃ u : State, exec (.hostEventRingConfig m none (some b)) s =
        .next (u.written m 0xF04100 b.toNat) ∧ OnlyChanges [.dict] w u ∧ u.dv 0xF04100 = b.toNat) ∧
      ((b ≠ 0 ∧ (b.toNat < 4 ∨ 12 < b.toNat)) ∨ w.dv 0xF04200 ≠ w.dv 0xF04300 →
        exec (.hostEventRingConfig m none (some b)) s = .next w)) ∧
    (exec (.hostEventRingConfig m none none) s = .next s) ∧
    (∀ b c u, exec (.hostEventRingConfig m (some b) none) s = .next u →
      exec (.hostEventRingConfig m (some b) (some c)) s = exec (.hostEventRingConfig m none (some c)) u) ∧
    (∀ (k : Fin 4) g, MayWrite s m 0xF02100 1 → g = (s.renewHold m).mgmt →
      (k = 0 → exec (.holdTake m k) s = .next (s.renewHold m) ∧ exec (.holdRelease m k) s = .next (s.renewHold m)) ∧
      (k ≠ 0 → (∃ u : State, exec (.holdTake m k) s = .next (u.written m 0xF02100 k.val) ∧ OnlyChanges [.mgmt] (s.renewHold m) u ∧
          u.mgmt.hold2000 = (g.hold2000 || k.val.testBit 0) ∧ u.mgmt.hold2800 = (g.hold2800 || k.val.testBit 1) ∧
          ((k.val.testBit 0 && !g.hold2000) = true ∨ (k.val.testBit 1 && !g.hold2800) = true →
            u.mgmt.takenAt = s.now ∧ u.mgmt.renewedAt = s.now ∧ ∀ mac, m = .mgmt mac → u.mgmt.holder = mac)) ∧
        (∃ u : State, exec (.holdRelease m k) s = .next (u.written m 0xF02100 (0x80 + k.val)) ∧ OnlyChanges [.mgmt] (s.renewHold m) u ∧
          u.mgmt = { g with hold2000 := g.hold2000 && !k.val.testBit 0, hold2800 := g.hold2800 && !k.val.testBit 1 }))) ∧
    (∀ b : BitVec 32, MayWrite s m 0x110400 4 →
      (2 ^ 15 ≤ b.toNat → exec (.clearHealthEvents m b) s = .next (s.renewHold m)) ∧
      (b.toNat < 2 ^ 15 → ∃ u : State, exec (.clearHealthEvents m b) s = .next (u.written m 0x110400 b.toNat) ∧
        OnlyChanges [.dict] (s.renewHold m) u ∧ ∀ k, k < 15 → (u.dv 0x110300).testBit k =
          ((s.dv 0x110300).testBit k && (!b.toNat.testBit k || (s.renewHold m).healthPersists k)))) ∧
    (∀ due, due = decide ((v.mgmt.hold2000 || v.mgmt.hold2800) = true ∧ v.dv 0xF02200 ≠ 0 ∧
        v.mgmt.renewedAt + 1000000 * v.dv 0xF02200 ≤ v.now) →
      (due = false → exec (.holdExpiry t) s = .next v) ∧
      (due = true → ∃ u : State, exec (.holdExpiry t) s = .next u ∧ OnlyChanges [.dict, .log, .logSeq, .mgmt] v u ∧
        u.mgmt.hold2000 = false ∧ u.mgmt.hold2800 = false)) ∧
    (∀ (h : Fin 2) x, x = v.half h →
      (x.alive = false ∨ (x.sentAt ≠ 0 ∧ v.now < x.sentAt + 1000000) → exec (.safelightHeartbeat h t) s = .next v) ∧
      (x.alive = true → x.sentAt = 0 ∨ x.sentAt + 1000000 ≤ v.now → ∃ u : State, exec (.safelightHeartbeat h t) s = .next u ∧
        OnlyChanges [.dict, .log, .logSeq, .mgmt] v u ∧ (u.half h).sentAt = v.now ∧ (u.half (1 - h.val)).heard = v.now ∧
        u.mgmt.linkUp = true ∧ (x.lead = false → u.mgmt.ackWait = none)) ∧
      (x.alive = false ∨ v.now < x.heard + 3000000 ∨ (x.lead = true ∧ v.mgmt.follower = 2) →
        exec (.leadershipClaim h t) s = .next v) ∧
      (x.alive = true → x.heard + 3000000 ≤ v.now → (x.lead = false ∨ v.mgmt.follower ≠ 2) →
        ∃ u : State, exec (.leadershipClaim h t) s = .next u ∧ OnlyChanges [.dict, .mgmt] v u ∧ u.mgmt.linkUp = false ∧
          u.mgmt.follower = 2 ∧ (u.half h).lead = true ∧ (u.half h).epoch = x.epoch + (if x.lead then 0 else 1))) ∧
    ((v.mgmt.west.lead = false ∨ v.mgmt.east.lead = false ∨ v.mgmt.linkUp = false) → exec (.leadershipConflict t) s = .next v) ∧
    (v.mgmt.west.lead = true → v.mgmt.east.lead = true → v.mgmt.linkUp = true →
      exec (.leadershipConflict t) s = .next v.resolveLeads ∧ v.resolveLeads.mgmt.follower = 0 ∧
      v.resolveLeads.mgmt.west.lone = [] ∧ v.resolveLeads.mgmt.east.lone = []) ∧
    ((v.mgmt.ackWait = none ∨ ∃ a, v.mgmt.ackWait = some a ∧ v.now < a + 1000000) → exec (.followerStale t) s = .next v) ∧
    (∀ a, v.mgmt.ackWait = some a → a + 1000000 ≤ v.now → ∃ u : State, exec (.followerStale t) s = .next u ∧ OnlyChanges [.mgmt] v u ∧
      u.mgmt = { v.mgmt with ackWait := none, follower := 1, changedAt := v.now }) ∧
    (∀ may, may = decide (v.mgmt.follower ≠ 0 ∧ v.mgmt.linkUp = true ∧ v.mgmt.west.alive = true ∧ v.mgmt.east.alive = true ∧
        (v.mgmt.west.lead != v.mgmt.east.lead) = true) →
      (may = false → exec (.followerResync t) s = .next v) ∧
      (may = true → ∃ u : State, exec (.followerResync t) s = .next u ∧ OnlyChanges [.mgmt] v u ∧ u.mgmt = { v.mgmt with
        follower := 0, changedAt := v.now, west := { v.mgmt.west with lone := [] }, east := { v.mgmt.east with lone := [] } })) ∧
    (∀ period, ∀ due, due = decide (v.dv 0xF01000 ≠ 255 ∧ v.dv 0xF01000 ≠ 0 ∧ natFld (v.dv 0xF01500) 0 1 = 1 ∧
        v.mgmt.beaconAt + 4 * period ≤ v.now) →
      (due = false → exec (.plcaFallback period t) s = .next v) ∧
      (due = true → ∃ u : State, exec (.plcaFallback period t) s = .next u ∧ OnlyChanges [.dict] v u ∧
        u.dv 0xF01500 = natSetFld (v.dv 0xF01500) 0 1 2)) ∧
    (∃ u : State, exec (.beacon t) s = .next u ∧ OnlyChanges [.dict, .mgmt] v u ∧ u.mgmt = { v.mgmt with beaconAt := v.now } ∧
      (v.dv 0xF01000 ≠ 255 → v.dv 0xF01000 ≠ 0 → u.dv 0xF01500 = natSetFld (v.dv 0xF01500) 0 1 1) ∧
      ((v.dv 0xF01000 = 255 ∨ v.dv 0xF01000 = 0) →
        u.dv 0xF01500 = natSetFld (v.dv 0xF01500) 4 4 (natFld (v.dv 0xF01500) 4 4 + 1)))

/-- Coalescing windows, rotation patterns, recovery tests, the five test commands and the test access port: what each row
leaves -/
def Obligations.TestRowsTakeEffect : Prop :=
  ∀ (t : Nat) (s s0 : State), s0 = s.atTime t →
    (∀ (cls : BitVec 16) (src : Nat) v, v = s.tick t →
      (v.windows.find? (fun w => w.cls == cls.toNat && w.source == src) = none → exec (.coalescingWindowEnd cls src t) s = .next v) ∧
      (∀ w, v.windows.find? (fun w => w.cls == cls.toNat && w.source == src) = some w →
        (v.now < w.since + 1000 * v.dv 0x700400 → exec (.coalescingWindowEnd cls src t) s = .next v) ∧
        (w.since + 1000 * v.dv 0x700400 ≤ v.now → ∃ v1 : State, OnlyChanges [.windows] v v1 ∧ v1.windows = v.windows.erase w ∧
          (w.count = 0 → exec (.coalescingWindowEnd cls src t) s = .next v1) ∧
          (w.count ≠ 0 → ∃ r : ErrRecord, r.cls = cls.toNat ∧ r.time = v.now ∧ r.flags = 4 ∧ r.repeats = min 0xFFFF w.count ∧
            exec (.coalescingWindowEnd cls src t) s = .next (v1.record r))))) ∧
    (∀ (c : Fin 32) (run : TestRun) k, k = s0.cluster c →
      (s0.rotationDue c = false → EndsIn (.rotationPattern c run t) s s0) ∧
      (s0.rotationDue c = true → runFails run = none → ∃ u : State, EndsIn (.rotationPattern c run t) s u ∧
        OnlyChanges [.dict, .log, .logSeq, .clusters, .mgmt] s0 u ∧
        u.cluster c = { k with rotateNow := false, passes := (k.passes + 1) % 2 ^ 32 } ∧ ∀ j, j ≠ c.val → u.cluster j = s0.cluster j) ∧
      (∀ p, s0.rotationDue c = true → runFails run = some p → ∃ u : State, OnlyChanges [.dict, .log, .logSeq, .clusters, .mgmt] s0 u ∧
        u.cluster c = { k with rotateNow := false, failPattern := run.pattern.toNat } ∧
        EndsIn (.rotationPattern c run t) s ((u.testFail 2 c (s0.position c) run.pattern.toNat p).quarantine c))) ∧
    (∀ (v : State) (c j : Nat), c < 32 → j < 32 → j ≠ c → v.enabled j = true →
      ((v.quarantine c).cluster c).state = 1 ∧ ((v.quarantine c).cluster c).testNow = true ∧ (v.quarantine c).cluster j = v.cluster j ∧
      OnlyChanges [.dict, .log, .logSeq, .clusters, .mgmt] v (v.quarantine c)) ∧
    (∀ (n : Fin 48) (runs : List TestRun) made, made = untilFail (runs.take 4) →
      (runs = [] ∨ s0.testable n = false ∨ (n.val < 32 ∧ (s0.cluster n).state ≠ 1 ∧ s0.test.regionTests.contains n.val = false) ∨
        (n.val < 32 ∧ (s0.cluster n).state ≠ 1 ∧ (s0.cluster n).state ≠ 0) ∨
        (32 ≤ n.val ∧ s0.test.regionTests.contains n.val = false) → EndsIn (.recoveryTest n runs t) s s0) ∧
      (runs ≠ [] → s0.testable n = true → n.val < 32 →
        (s0.cluster n).state = 1 ∨ ((s0.cluster n).state = 0 ∧ s0.test.regionTests.contains n.val = true) →
        (made.length = 4 → (∀ r ∈ made, runFails r = none ∧ r.kernel.isSome = true) → ∃ u : State,
          EndsIn (.recoveryTest n runs t) s u ∧ OnlyChanges [.dict, .log, .logSeq, .clusters, .mgmt, .test] s0 u ∧ u.enabled n = true ∧
          (u.cluster n).testNow = false) ∧
        (∀ r p, made.find? (fun r => (runFails r).isSome) = some r → runFails r = some p → ∃ v : State,
          OnlyChanges [.dict, .log, .logSeq, .clusters, .mgmt, .test] s0 v ∧ (v.cluster n).failPattern = r.pattern.toNat ∧
          EndsIn (.recoveryTest n runs t) s ((v.testFail 3 n (s0.position n) r.pattern.toNat p).goDark n 2)) ∧
        ((made.length ≠ 4 ∨ ∃ r ∈ made, r.kernel = none) → (∀ r ∈ made, runFails r = none) → EndsIn (.recoveryTest n runs t) s s0)) ∧
      (runs ≠ [] → s0.testable n = true → 32 ≤ n.val → s0.test.regionTests.contains n.val = true → ∃ v : State,
        OnlyChanges [.test] s0 v ∧ v.test = { s0.test with regionTests := s0.test.regionTests.filter (· != n.val) } ∧
        ((∀ r ∈ runs, runFails r = none) → EndsIn (.recoveryTest n runs t) s v) ∧
        (∀ r p, runs.find? (fun r => (runFails r).isSome) = some r → runFails r = some p →
          EndsIn (.recoveryTest n runs t) s (v.testFail 3 n n r.pattern.toNat p)))) ∧
    (∀ (m : Master) (c : Fin 32) (r : Fin 48) v, MayWrite s m 0x704000 8 → v = s.renewHold m →
      (exec (.quarantine m c) s = .next (if s.enabled c then (v.quarantine c).written m 0x704000 (1 + c.val * 256) else v)) ∧
      ((s.cluster c).state = 1 → ∃ u : State, exec (.runRecoveryTest m c) s = .next (u.written m 0x704000 (2 + c.val * 256)) ∧
        OnlyChanges [.clusters] v u ∧ u.cluster c = { s.cluster c with testNow := true }) ∧
      ((s.cluster c).state ≠ 1 → exec (.runRecoveryTest m c) s = .next v) ∧
      (exec (.takePackageOutOfService m c) s =
        .next (if s.offline c then v else (v.takeOffline c (4 * c.val) 4).written m 0x704000 (3 + c.val * 256))) ∧
      (s.enabled c = true → ∃ u : State, exec (.runRotationPattern m c) s = .next (u.written m 0x704000 (4 + c.val * 256)) ∧
        OnlyChanges [.clusters] v u ∧ u.cluster c = { s.cluster c with rotateNow := true }) ∧
      (s.enabled c = false → exec (.runRotationPattern m c) s = .next v) ∧
      (32 ≤ r.val → (s.region r).power ≠ 3 → ∃ u : State, exec (.runRegionTest m r) s = .next (u.written m 0x704000 (5 + r.val * 256)) ∧
        OnlyChanges [.test] v u ∧ u.test.regionTests = s.test.regionTests.filter (· != r.val) ++ [r.val]) ∧
      (r.val < 32 ∨ (s.region r).power = 3 → exec (.runRegionTest m r) s = .next v)) ∧
    (∀ (die : Fin 2) (pins : List Bool) (pre : Option (List Bool)) (failing : Nat) (v : Nat → Bool → State),
      (∀ ir drive, OnlyChanges [.test] s (v ir drive) ∧
        (v ir drive).test = { s.test with ir := put 1 s.test.ir die ir, driving := put false s.test.driving die drive }) →
      exec (.bypass die) s = .next (v 0 false) ∧
      (exec (.idcode die) s = .next ((v 1 false).send (.tdo die (Config.idcode die % 2 ^ 32)))) ∧
      (∃ u : State, exec (.samplePreload die pre pins) s = .next (u.send (.tdo die (bitsNat pins))) ∧ OnlyChanges [.test] s u ∧
        u.test = { (v 2 false).test with boundary := put [] s.test.boundary die (pre.getD pins) }) ∧
      (s.testAccess = true → exec (.extest die pins) s = .next ((v 3 true).send (.tdo die (bitsNat pins)))) ∧
      (s.testAccess = false → exec (.extest die pins) s = .next (v 0 false) ∧ exec (.runbist die failing) s = .next (v 0 false)) ∧
      (s.testAccess = true → ∃ (r : Nat) (u : State), r = (if failing = 0 then 1 else 0) + failing * 2 % 2 ^ 32 ∧
        exec (.runbist die failing) s = .next (u.send (.tdo die r)) ∧ OnlyChanges [.test] s u ∧
        u.test = { (v 4 false).test with captured := put 0 s.test.captured die r }))

/-- ROM, FLASH, STAGE1, CORE_RAMP, TEST, MEMORY, PROTECT and LINKS: each acts in its own start-up state and enters the next -/
def Obligations.StartUpRowsTakeEffect : Prop :=
  ∀ (t : Nat) (s w : State), w = s.tick t →
    (∀ b : Bool, (w.boot.state ≠ 0 → exec (.rom b t) s = .next w) ∧
      (w.boot.state = 0 → ∃ u : State, exec (.rom b t) s = .next u ∧ OnlyChanges [.mgmt, .boot] w u ∧
        u.boot = { w.boot with state := 1, since := w.now } ∧ u.mgmt.west.lead = b ∧ u.mgmt.east.lead = !b ∧
        u.mgmt.west.epoch = 1 ∧ u.mgmt.east.epoch = 1 ∧ u.mgmt.linkUp = true)) ∧
    (∀ (f : FlashScan) ca cb sa sb (rca rcb rsa rsb stage conf : Nat) x,
      ca = w.flashBlock 1 f.configA → cb = w.flashBlock 2 f.configB → sa = w.flashBlock 3 f.stageA → sb = w.flashBlock 4 f.stageB →
      rca = w.blockResult 1 ca → rcb = w.blockResult 2 cb → rsa = w.blockResult 3 sa → rsb = w.blockResult 4 sb →
      stage = chooseSlot sa sb rsa rsb → conf = chooseSlot ca cb rca rcb → x = (if stage = 1 then sb else sa) →
      (w.boot.state ≠ 1 → exec (.flash f t) s = .next w) ∧
      (w.boot.state = 1 → ∃ u : State, exec (.flash f t) s = .next u ∧ OnlyChanges [.dict, .boot] w u ∧ u.boot.config = conf ∧
        u.dv 0x100A00 = (if stage = 1 then 1 else 0) + (if conf = 1 then 2 else 0) + (if conf = 2 then 4 else 0) +
          rsa * 2 ^ 8 + rsb * 2 ^ 16 + rca * 2 ^ 24 + rcb * 2 ^ 32 ∧
        (stage = 2 → u.boot.state = 0xE ∧ (u.dv 0x905000).testBit 0 = true) ∧
        (stage ≠ 2 → u.boot.state = 2 ∧ u.boot.stageB = (stage == 1) ∧ u.boot.fuseStage = max w.boot.fuseStage x.rollback ∧
          u.dv 0x100700 = x.version))) ∧
    (∀ (avs : Bool) (id : Option (List Byte)) (feed : List Byte),
      (w.boot.state ≠ 2 → exec (.stage1 avs id feed t) s = .next w) ∧
      (w.boot.state = 2 → avs = true → w.railsBad = false → ∃ u : State, exec (.stage1 avs id feed t) s = .next u ∧
        OnlyChanges [.egress, .dict, .log, .logSeq, .power, .mgmt, .boot] w u ∧ u.boot = { w.boot with state := 3, since := w.now }) ∧
      (w.boot.state = 2 → avs = false ∨ w.railsBad = true → w.now < w.boot.since + 20000000 →
        exec (.stage1 avs id feed t) s = .next w) ∧
      (w.boot.state = 2 → avs = false ∨ w.railsBad = true → w.boot.since + 20000000 ≤ w.now →
        exec (.stage1 avs id feed t) s = .next w.coreFail)) ∧
    (w.coreFail.boot.state = 0xF ∧ w.coreFail.boot.halted = true) ∧
    ((w.boot.state ≠ 3 → ∀ b, exec (.coreRamp b t) s = .next w) ∧
      (w.boot.state = 3 → exec (.coreRamp false t) s = .next w.coreFail) ∧
      (w.boot.state = 3 → ∃ u : State, exec (.coreRamp true t) s = .next u ∧ OnlyChanges [.dict, .regions, .boot] w u ∧
        u.boot = { w.boot with state := 4, since := w.now } ∧ u.dv 0x110800 = w.now ∧ u.dv 0x300B00 = 1 ∧
        ∀ r, r < 48 → u.region r = { power := 0, point := 4, thermal := 4, margin := 20, idleSince := w.now })) ∧
    (∀ (runs : List (Fin 49 × TestRun)) (others : List (Fin 48 × TestRun)) (calibration : List (BitVec 32)),
      (w.boot.state ≠ 4 → exec (.test runs others calibration t) s = .next w) ∧
      (w.boot.state = 4 → ∃ u : State, exec (.test runs others calibration t) s = .next u ∧ u.boot.state = 5 ∧ u.queues = [] ∧
        u.counters = [] ∧
        ((∃ j, j < 32 ∧ w.enabled j = true ∧ positionFails runs (namePosition j) = false) → u.dv 0x701200 = testResult runs ∧
          u.boot.halted = w.boot.halted ∧ ∀ c, c < 32 →
            (positionFails runs (namePosition c) = false → u.cluster c = w.cluster c) ∧
            (positionFails runs (namePosition c) = true → spareServes runs (decide (16 ≤ c)) = some c →
              u.cluster c = { w.cluster c with physical := some (if c < 16 then 0x10 else 0x30) }) ∧
            (positionFails runs (namePosition c) = true → spareServes runs (decide (16 ≤ c)) ≠ some c →
              u.cluster c = { w.cluster c with state := 3 } ∧ (u.region c).power = 1)))) ∧
    (∀ rates : List Nat,
      (w.boot.state ≠ 5 → exec (.memory rates t) s = .next w) ∧
      (w.boot.state = 5 → ∃ u : State, exec (.memory rates t) s = .next u ∧ u.boot = { w.boot with state := 6, since := w.now } ∧
        u.alloc = { w.alloc with scrubbed := [], dirty := [] } ∧
        ((∀ c, c < 128 → rates.getD c 14400 ≠ 0) → OnlyChanges [.dict, .alloc, .boot] w u ∧
          ∀ c, c < 128 → u.dv (0x401101 + c) = rates.getD c 14400 % 65536))) ∧
    (∀ (config items : List Item) v, items = (if w.boot.config = 2 then [] else config) → v = items.foldl State.configItem w →
      (w.boot.state ≠ 6 → exec (.protect config t) s = .next w) ∧
      (w.boot.state = 6 → ∃ u : State, exec (.protect config t) s = .next u ∧ OnlyChanges [.dict, .boot] v u ∧
        u.boot = { v.boot with state := 7, since := v.now } ∧ u.dv 0x900100 = 1 ∧
        ∀ k, k ≠ 0x900100 → k / 256 ≠ 0x9030 → u.dv k = v.dv k)) ∧
    (∀ (v : State) (i : Item) key, key = i.entry.toNat * 256 + i.field.toNat →
      (i.rsvd = true ∨ configurable key = false ∨ i.value.length ≠ entrySize key ∨ protectFits key (leNat i.value) = false →
        OnlyChanges [.dict] v (v.configItem i) ∧ (∀ k, k ≠ 0x100A00 → (v.configItem i).dv k = v.dv k) ∧
        (v.configItem i).dv 0x100A00 = natSetFld (v.dv 0x100A00) 8 2 (natFld (v.dv 0x100A00) 8 2 + 1)) ∧
      (i.rsvd = false → configurable key = true → i.value.length = entrySize key → protectFits key (leNat i.value) = true →
        rightOf key = .wb → OnlyChanges [.dict] v (v.configItem i) ∧ (v.configItem i).dv key = leNat i.value ∧
        ∀ k, k ≠ key → (v.configItem i).dv k = v.dv k)) ∧
    ((w.boot.state ≠ 7 → exec (.links t) s = .next w) ∧
      (w.boot.state = 7 → ∀ v, (w.traek.released = true → v = w) →
        (w.traek.released = false → OnlyChanges [.ports, .traek] w v ∧
          v.traek = { w.traek with released := true, state := if w.traek.state = 0 ∧ (w.region 46).power ≠ 3 then 1 else w.traek.state } ∧
          v.ports = w.releaseLinks.ports) →
        (v.traek.state = 1 ∨ v.traek.state = 3 → exec (.links t) s = .next v) ∧
        (v.traek.state ≠ 1 → v.traek.state ≠ 3 → ∃ u : State, exec (.links t) s = .next u ∧ OnlyChanges [.boot] v u ∧
          u.boot = { v.boot with state := 8, since := v.now })) ∧
      ∀ p, p < 8 → w.releaseLinks.port p =
        if (w.region (portRegion p)).power = 3 ∨ (w.port p).state ≠ 0 then w.port p else { w.port p with state := 1 })

/-- Resets, attestation, the flash and the board rails: what each row leaves, and when it does nothing -/
def Obligations.ResetAndFlashRowsTakeEffect : Prop :=
  ∀ (m : Master) (t : Nat) (s w : State), w = s.tick t →
    (∀ (k : Option Master), k = none ∨ (∃ x, k = some x ∧ s.mayReset x = true) →
      (∃ u : State, exec (.fullReset k) s = .next u ∧ OnlyChanges [.pending, .fresh, .egress, .mem, .marks, .boot] State.reset u ∧
        u.pending = s.pending ∧ u.egress = s.egress ∧ u.mem = s.keptMem ∧ u.marks = s.keptMarks ∧
        u.boot = { flash := s.boot.flash, erased := s.boot.erased, fuseStage := s.boot.fuseStage, fuseConfig := s.boot.fuseConfig }) ∧
      (∃ u : State, exec (.coreReset k) s = .next u ∧
        OnlyChanges [.pending, .now, .fresh, .egress, .mem, .marks, .dict, .tags, .log, .logSeq, .windows, .test, .mgmt, .boot] State.reset u ∧
        u.pending = s.pending ∧ u.now = s.now ∧ u.egress = s.egress ++ [.railVoltage 0] ∧ u.mem = s.keptMem ∧ u.log = s.log ∧
        u.logSeq = s.logSeq ∧ u.mgmt.hold2000 = false ∧ u.mgmt.hold2800 = false ∧ u.mgmt.subs = [] ∧
        u.mgmt.west = s.mgmt.west ∧ u.mgmt.east = s.mgmt.east ∧ u.boot.state = 1 ∧ u.boot.since = s.now ∧ u.boot.halted = false ∧
        u.boot.flash = s.boot.flash ∧ u.boot.rails = s.boot.rails ∧
        (∀ key, safelightEntry key = true → key ≠ 0x110800 → key ≠ 0x300B00 → key ≠ 0x300400 → u.dv key = s.dv key) ∧
        ∀ key, safelightEntry key = false → u.dv key = State.reset.dv key)) ∧
    (s.mayReset m = false → exec (.fullReset (some m)) s = .next s ∧ exec (.coreReset (some m)) s = .next s) ∧
    (∀ nonce : List Byte, MayWrite w m 0x102000 nonce.length → ∃ u : State,
      exec (.attestationNonce m nonce t) s = .next (u.written m 0x102000 (leNat nonce)) ∧ OnlyChanges [.mgmt] (w.renewHold m) u ∧
      u.evidenceOf m = { state := 1, nonce := nonce, since := w.now }) ∧
    ((w.evidenceOf m).state ≠ 1 ∨ w.now < (w.evidenceOf m).since + 40000000 → exec (.evidenceReady m t) s = .next w) ∧
    ((w.evidenceOf m).state = 1 → (w.evidenceOf m).since + 40000000 ≤ w.now → ∃ u : State, exec (.evidenceReady m t) s = .next u ∧
      OnlyChanges [.mgmt] w u ∧
      u.evidenceOf m = { w.evidenceOf m with state := 2, bytes := w.evidenceFor (w.evidenceOf m).nonce }) ∧
    (∀ (r : BitVec 8) (off : BitVec 64) (b : Nat × Nat) v, MayWrite s m 0x103000 16 → v = s.renewHold m → b = flashRegion r.toNat →
      (r.toNat = 0 ∨ 6 < r.toNat ∨ b.2 ≤ off.toNat ∨ s.flashActive r.toNat = true → exec (.flashOpen m r off) s = .next v) ∧
      (1 ≤ r.toNat → r.toNat ≤ 6 → off.toNat < b.2 → s.flashActive r.toNat = false → ∃ u : State,
        exec (.flashOpen m r off) s = .next (u.written m 0x103000 (1 + r.toNat * 2 ^ 8 + off.toNat * 2 ^ 64)) ∧ OnlyChanges [.boot] v u ∧
        u.boot.region = r.toNat ∧ u.boot.offset = off.toNat ∧ (∀ o shown, o < b.2 → u.flashAt r.toNat o shown = 0xFF) ∧
        ∀ a, a < b.1 ∨ b.1 + b.2 ≤ a → look none u.boot.flash a = look none s.boot.flash a)) ∧
    (∀ (bytes : List Byte) (b : Nat × Nat) v, MayWrite s m 0x103100 bytes.length → v = s.renewHold m → b = flashRegion s.boot.region →
      (s.boot.region = 0 ∨ b.2 < s.boot.offset + 1024 → exec (.flashData m bytes) s = .next v) ∧
      (s.boot.region ≠ 0 → s.boot.offset + 1024 ≤ b.2 → ∃ u : State,
        exec (.flashData m bytes) s = .next (u.written m 0x103100 (leNat bytes)) ∧ OnlyChanges [.boot] v u ∧
        u.boot = { s.boot with flash := u.boot.flash, offset := s.boot.offset + 1024 } ∧
        (∀ i x, i < 1024 → bytes[i]? = some x → look none u.boot.flash (b.1 + s.boot.offset + i) = some x) ∧
        ∀ a, a < b.1 + s.boot.offset ∨ b.1 + s.boot.offset + 1024 ≤ a → look none u.boot.flash a = look none s.boot.flash a)) ∧
    (∀ (scan : BlockScan) (r : Nat) x v, MayWrite s m 0x103000 16 → v = s.renewHold m → r = s.boot.region → x = s.flashBlock r scan →
      (r = 0 ∨ 6 < r → exec (.flashCommit m scan) s = .next v) ∧
      (1 ≤ r → r ≤ 6 → ∃ u : State, exec (.flashCommit m scan) s = .next (u.written m 0x103000 (2 + r * 2 ^ 8)) ∧
        OnlyChanges [.dict, .boot] v u ∧ u.boot = { s.boot with region := 0, offset := 0 } ∧
        u.dv 0x103200 = r + s.blockResult r x * 2 ^ 8 + x.version * 2 ^ 32)) ∧
    (∀ mv : List Nat, ∃ v : State, OnlyChanges [.dict, .log, .logSeq, .mgmt, .boot] w v ∧
      exec (.railMonitor mv t) s = .next (if mv.head?.any (fun x => decide (x < 730)) then v.fullReset else v) ∧
      ∀ (k x : Nat), k < 6 → mv[k]? = some x → v.dv (0x204001 + k) = f32RatioInt x 1000 ∧ look 0 v.boot.rails k = x ∧
        look none v.boot.railOut k = if x < (railRange k).1 ∨ (railRange k).2 < x
          then some ((look none w.boot.railOut k).getD w.now) else none) ∧
    (∀ k : Fin 6, (w.railFault k = false → exec (.boardRailFault k t) s = .next w) ∧
      (w.railFault k = true → ∃ u : State, OnlyChanges [.dict] w u ∧ exec (.boardRailFault k t) s = .next u.coreReset ∧
        u.dv 0x204100 = k.val + 1 + f32RatioInt (look 0 w.boot.rails k : Nat) 1000 * 2 ^ 32 + w.now % 2 ^ 64 * 2 ^ 64))

/-- A partial store writes exactly the bytes its mask names, an atomic exactly its operand; every other byte reads as before -/
def Obligations.StoresChangeOnlyTheirBytes : Prop :=
  ∀ (a : BitVec 48) (t near : Nat) (s s1 : State), s1 = s.tick t → place a.toNat = .lpddr near →
    (∀ (mask : BitVec 64) (data : List Byte) (line : Nat), line = lineOf near → s1.memStatus a.toNat 1 .command true = 0 →
      s1.waitsAt line s1.arrivals = false → s1.wcHold line mask false = none →
      s1.barred line = false → s1.access line true = (s1, true) →
      ∃ u : State, exec (.wcPartialStore a mask data t) s = .next u ∧ OnlyChanges [.now, .mem, .marks, .channels] s u ∧
        (∀ i, i < 64 → mask.getLsbD i = true → u.rd (line + i) = data.getD i 0) ∧
        (∀ x, (∀ i, i < 64 → mask.getLsbD i = true → x ≠ line + i) → u.rd x = s.rd x)) ∧
    (∀ (x : Atom) (n : Nat) (rd : LineRead) (v : State), n = atomBytes x → a.toNat % n = 0 → s1.behindOthers (.atom a x) = false →
      s1.memStatus near n .command true = 0 → s1.adderHold near = none → s1.access near true = (s1, true) →
      v = s1.retireLine (lineOf near) rd → v.badRange (lineOf near) 64 = false →
      (∀ e ∈ (s1.channel (chanOf (lineOf near))).wc, e.line ≠ lineOf near) →
      (rd.errors = [] → ∀ y, v.rd y = s.rd y) ∧
      ∃ u : State, exec (.adderOperation ⟨.atom a x, rd, none⟩ t) s = .next u.settled ∧
        u.rdBytes near n = leBytes n (atomNew x (v.rdNat near n)) ∧ ∀ y, y < near ∨ near + n ≤ y → u.rd y = v.rd y)

/-- ATOMIC and ADD of another module or the companion: the location takes its new value, and the old value or an
acknowledgement goes back -/
def Obligations.AtomicsAndAddsComplete : Prop :=
  ∀ (s : State) (p : Packet) (a near : Nat), place a = .lpddr near → s.FreeLine near →
    s.adderHold near = none → s.dirState (lineOf near) = .u → (∀ e ∈ (s.channel (chanOf near)).wc, e.line ≠ lineOf near) →
    p.errors = [] → s.badRange (lineOf near) 64 = false →
    (∀ x, Arrives s p .atomic a → packetAtom p = some x → a % atomBytes x = 0 → s.memStatus near (atomBytes x) .outside true = 0 →
      s.behindOthers (.atom (BitVec.ofNat 48 a) x) = false → ∀ n old, n = atomBytes x → old = s.rdNat near n →
      ∃ v : State, exec (.atomic p) s = .next (((v.dataTo (s.carried p a) (leBytes n old ++ List.replicate (64 - n) 0)).goOn).bufferFreed p 0x03) ∧
        OnlyChanges [.mem, .channels, .streamsIn] s v ∧ v.mem = (s.wrNat near n (atomNew x old)).mem) ∧
    (p.via ≠ .traek → Arrives s p .add a →
      (∃ w : State, exec (.addPacket p) s =
          .next (((w.addReq { kind := .add, pkt := p, line := a, since := s.now }).goOn).bufferFreed p 0x04) ∧
        OnlyChanges [.streamsIn] s w) ∧
      (∀ k, packetAdd p = some k → p.length.toNat ≤ 1 → p.data.length = 64 → p.poison = false → a % 64 = 0 →
        s.memStatus near 64 .outside true = 0 → s.behindOthers (.line (BitVec.ofNat 48 a) k p.data) = false → p ∉ s.waitingPackets →
        ∃ v : State, exec (.addPacket p) s = .next (((v.ackTo p).goOn).bufferFreed p 0x04) ∧
          OnlyChanges [.mem, .channels, .streamsIn] s v ∧
          v.mem = (s.wrBytes (lineOf near) (addBytes k (s.rdBytes (lineOf near) 64) p.data).1).mem))

/-- RD_SHARED, RD_OWN, WRITEBACK and EVICT of a line of LPDDR: the directory's new state, and the read, the store or the
acknowledgement -/
def Obligations.CoherentRequestsComplete : Prop :=
  ∀ (s : State) (p : Packet) (a near line agent : Nat), place a = .lpddr near → line = lineOf near → agent = s.requester p →
    s.FreeLine near →
    (∀ (e : Instr) (k : ReqKind) (r : ChanReq), (e = .rdShared ⟨p, none⟩ ∧ k = .rdShared ∨ e = .rdOwn p ∧ k = .rdOwn) →
      r = { kind := k, pkt := s.carried p a, line := a, since := s.now } →
      Arrives s p k a → s.memStatus a (pktBytes p) .outside false = 0 → s.dirFull line = false →
      (∀ d, (((s.dirState line = .u ∨ ∃ t, s.dirState line = .e agent t) ∧ d = .e agent s.now) ∨
          (∃ us t, s.dirState line = .s us t ∧
            (k = .rdShared ∧ d = .s (if us.contains agent then us else us ++ [agent]) s.now ∨
             k = .rdOwn ∧ (∀ x ∈ us, x = agent) ∧ d = .e agent s.now))) →
        (∀ l ∈ r.lines, s.waitsAt l s.arrivals = false) → (s.channel (chanOf near)).admitted.length < 128 →
        (s.channel (chanOf near)).ingress = [] → (s.package (pkgOf near)).derate ≠ 3 → s.cooling.stopped = false →
        ∃ u : State, exec e s = .next (u.goOn.bufferFreed p (kindOp k)) ∧
          OnlyChanges [.directory, .streamsIn, .regions, .channels] s u ∧
          u.dirState line = d ∧ (∀ j, j ≠ line → u.dirState j = s.dirState j) ∧
          (u.channel (chanOf near)).admitted = (s.channel (chanOf near)).admitted ++ [s.captured r]) ∧
      (∀ o t, s.dirState line = .e o t → o ≠ agent → ∃ (u : State) (x : Snoop), exec e s = .next (u.goOn.bufferFreed p (kindOp k)) ∧
        u.lineWait = s.lineWait ++ [r] ∧ u.snoops = s.snoops ++ [x] ∧ x.line = line ∧ x.agent = o ∧ x.share = (k == .rdShared))) ∧
    (∀ t, Arrives s p .writeback a → s.memStatus a 64 .outside true = 0 → s.dirState line = .e agent t → p.data.length = 64 →
      p.poison = false → s.wcHold line (BitVec.allOnes 64) false = none → s.barred line = false → s.carried p a ∉ s.waitingPackets →
      ∃ u : State, exec (.writeback p) s = .next ((u.ackTo (s.carried p a)).goOn.bufferFreed p 0x0A) ∧
        OnlyChanges [.mem, .marks, .channels, .directory, .streamsIn] s u ∧ u.dirState line = .u ∧
        (∀ i, i < 64 → u.rd (line + i) = p.data.getD i 0) ∧ (∀ b, (b < line ∨ line + 64 ≤ b) → u.rd b = s.rd b)) ∧
    (Arrives s p .evict a → ∃ u : State, exec (.evict p) s = .next ((u.ackTo (s.carried p a)).goOn.bufferFreed p 0x0B) ∧
      OnlyChanges [.directory, .streamsIn] s u ∧ (∀ j, j ≠ line → u.dirState j = s.dirState j) ∧
      (s.dirState line = .u → u.dirState line = .u) ∧
      (∀ us t, s.dirState line = .s us t → u.dirState line =
        if (us.filter (· != agent)).isEmpty then .u else .s (us.filter (· != agent)) t) ∧
      (∀ o t, s.dirState line = .e o t → u.dirState line = if o = agent then .u else .e o t))
end

