-- ==== Sys2Proof/Laws/Tables.lean ====
section
/-!
SUPPORT. The laws of the sparse tables: what a table reads as after an update, and that updates keep its canonical form.
-/

namespace Sys2Proof.Machine

theorem look_enter {α : Type} (d : α) (m : Tbl α) (k : Nat) (v : α) (j : Nat) :
    look d (enter m k v) j = if j = k then v else look d m j := by
  induction m with
  | nil => simp only [enter, look, eq_comm (a := k)]
  | cons e m ih =>
    obtain ⟨n, w⟩ := e
    simp only [enter]
    by_cases h1 : k < n
    · simp only [h1, if_true, look, eq_comm (a := k)]
    · by_cases h2 : n = k
      · subst h2
        simp only [h1, if_false, if_true, look, eq_comm (a := n)]
        by_cases h : j = n <;> simp [h]
      · simp only [h1, h2, if_false, look, ih]
        by_cases h : n = j
        · subst h; simp [h2]
        · simp [h]

theorem look_drop {α : Type} (d : α) (m : Tbl α) (k j : Nat) :
    look d (m.filter (fun e => e.1 != k)) j = if j = k then d else look d m j := by
  induction m with
  | nil => simp [look]
  | cons e m ih =>
    obtain ⟨n, w⟩ := e
    by_cases h : n = k
    · subst h
      simp only [List.filter_cons, bne_self_eq_false, Bool.false_eq_true, if_false, ih, look]
      by_cases hj : j = n
      · simp [hj]
      · simp [hj, eq_comm (a := n)]
    · simp only [List.filter_cons, bne_iff_ne, ne_eq, h, not_false_eq_true, if_true, look, ih]
      by_cases hj : n = j
      · subst hj; simp [h]
      · simp [hj]

/-- A table after an update: the new value under its key, every other key as before. -/
theorem look_put {α : Type} [DecidableEq α] (d : α) (m : Tbl α) (k : Nat) (v : α) (j : Nat) :
    look d (put d m k v) j = if j = k then v else look d m j := by
  unfold put
  split
  · next h => rw [look_drop, h]
  · exact look_enter d m k v j

@[simp] theorem look_put_same {α : Type} [DecidableEq α] (d : α) (m : Tbl α) (k : Nat) (v : α) :
    look d (put d m k v) k = v := by simp [look_put]

theorem look_put_ne {α : Type} [DecidableEq α] (d : α) (m : Tbl α) {k j : Nat} (v : α) (h : j ≠ k) :
    look d (put d m k v) j = look d m j := by simp [look_put, h]

/-! ### Canonical form -/

theorem Tbl.wf_filter {α : Type} [DecidableEq α] (d : α) (p : Nat × α → Bool) (m : Tbl α) (h : Tbl.wf d m = true) :
    Tbl.wf d (m.filter p) = true := by
  induction m with
  | nil => rfl
  | cons e m ih =>
    obtain ⟨n, w⟩ := e
    simp only [Tbl.wf, Bool.and_eq_true, List.all_eq_true, decide_eq_true_eq] at h
    simp only [List.filter_cons]
    split
    · simp only [Tbl.wf, Bool.and_eq_true, List.all_eq_true, decide_eq_true_eq]
      exact ⟨⟨h.1.1, fun x hx => h.1.2 x (List.mem_filter.1 hx).1⟩, ih h.2⟩
    · exact ih h.2

theorem mem_enter {α : Type} {m : Tbl α} {k : Nat} {v : α} {e : Nat × α} (h : e ∈ enter m k v) : e = (k, v) ∨ e ∈ m := by
  induction m with
  | nil => simpa [enter] using h
  | cons x m ih =>
    obtain ⟨n, w⟩ := x
    simp only [enter] at h
    split at h
    · simpa using h
    · split at h
      · simp only [List.mem_cons] at h ⊢; tauto
      · simp only [List.mem_cons] at h ⊢
        rcases h with h | h
        · exact .inr (.inl h)
        · rcases ih h with h | h <;> tauto

theorem Tbl.wf_enter {α : Type} [DecidableEq α] (d : α) (m : Tbl α) (k : Nat) (v : α) (hv : v ≠ d) (h : Tbl.wf d m = true) :
    Tbl.wf d (enter m k v) = true := by
  induction m with
  | nil => simp [enter, Tbl.wf, hv]
  | cons e m ih =>
    obtain ⟨n, w⟩ := e
    simp only [Tbl.wf, Bool.and_eq_true, List.all_eq_true, decide_eq_true_eq] at h
    simp only [enter]
    split
    · next hk =>
      simp only [Tbl.wf, Bool.and_eq_true, List.all_eq_true, decide_eq_true_eq, List.mem_cons]
      exact ⟨⟨hv, fun x hx => by
        rcases hx with rfl | hx
        · exact hk
        · exact hk.trans (h.1.2 x hx)⟩, h⟩
    · next hk =>
      split
      · next hn =>
        subst hn
        simp only [Tbl.wf, Bool.and_eq_true, List.all_eq_true, decide_eq_true_eq]
        exact ⟨⟨hv, h.1.2⟩, h.2⟩
      · next hn =>
        simp only [Tbl.wf, Bool.and_eq_true, List.all_eq_true, decide_eq_true_eq]
        exact ⟨⟨h.1.1, fun x hx => by
          rcases mem_enter hx with rfl | hx
          · show n < k; omega
          · exact h.1.2 x hx⟩, ih h.2⟩

/-- An update keeps a table in canonical form. -/
theorem Tbl.wf_put {α : Type} [DecidableEq α] (d : α) (m : Tbl α) (k : Nat) (v : α) (h : Tbl.wf d m = true) :
    Tbl.wf d (put d m k v) = true := by
  unfold put
  split
  · exact Tbl.wf_filter d _ m h
  · next hv => exact Tbl.wf_enter d m k v hv h

end Sys2Proof.Machine
end

