-- ==== Sys2Proof/Laws/State.lean ====
section
/-!
SUPPORT. One lemma per field per basic update of the state, and what each record reads as after its update.
-/

namespace Sys2Proof.Machine

@[simp] theorem State.tick_pending (s : State) (t : Nat) : (s.tick t).pending = s.pending := rfl
@[simp] theorem State.tick_fresh (s : State) (t : Nat) : (s.tick t).fresh = s.fresh := rfl
@[simp] theorem State.tick_egress (s : State) (t : Nat) : (s.tick t).egress = s.egress := rfl
@[simp] theorem State.tick_mem (s : State) (t : Nat) : (s.tick t).mem = s.mem := rfl
@[simp] theorem State.tick_marks (s : State) (t : Nat) : (s.tick t).marks = s.marks := rfl
@[simp] theorem State.tick_dict (s : State) (t : Nat) : (s.tick t).dict = s.dict := rfl
@[simp] theorem State.tick_tags (s : State) (t : Nat) : (s.tick t).tags = s.tags := rfl
@[simp] theorem State.tick_log (s : State) (t : Nat) : (s.tick t).log = s.log := rfl
@[simp] theorem State.tick_logSeq (s : State) (t : Nat) : (s.tick t).logSeq = s.logSeq := rfl
@[simp] theorem State.tick_windows (s : State) (t : Nat) : (s.tick t).windows = s.windows := rfl
@[simp] theorem State.tick_queues (s : State) (t : Nat) : (s.tick t).queues = s.queues := rfl
@[simp] theorem State.tick_counters (s : State) (t : Nat) : (s.tick t).counters = s.counters := rfl
@[simp] theorem State.tick_ingress (s : State) (t : Nat) : (s.tick t).ingress = s.ingress := rfl
@[simp] theorem State.tick_bankLast (s : State) (t : Nat) : (s.tick t).bankLast = s.bankLast := rfl
@[simp] theorem State.tick_bankAt (s : State) (t : Nat) : (s.tick t).bankAt = s.bankAt := rfl
@[simp] theorem State.tick_tensors (s : State) (t : Nat) : (s.tick t).tensors = s.tensors := rfl
@[simp] theorem State.tick_alloc (s : State) (t : Nat) : (s.tick t).alloc = s.alloc := rfl
@[simp] theorem State.tick_step (s : State) (t : Nat) : (s.tick t).step = s.step := rfl
@[simp] theorem State.tick_clusters (s : State) (t : Nat) : (s.tick t).clusters = s.clusters := rfl
@[simp] theorem State.tick_lastQueue (s : State) (t : Nat) : (s.tick t).lastQueue = s.lastQueue := rfl
@[simp] theorem State.tick_channels (s : State) (t : Nat) : (s.tick t).channels = s.channels := rfl
@[simp] theorem State.tick_packages (s : State) (t : Nat) : (s.tick t).packages = s.packages := rfl
@[simp] theorem State.tick_stageWait (s : State) (t : Nat) : (s.tick t).stageWait = s.stageWait := rfl
@[simp] theorem State.tick_ports (s : State) (t : Nat) : (s.tick t).ports = s.ports := rfl
@[simp] theorem State.tick_streamsOut (s : State) (t : Nat) : (s.tick t).streamsOut = s.streamsOut := rfl
@[simp] theorem State.tick_streamsIn (s : State) (t : Nat) : (s.tick t).streamsIn = s.streamsIn := rfl
@[simp] theorem State.tick_reqs (s : State) (t : Nat) : (s.tick t).reqs = s.reqs := rfl
@[simp] theorem State.tick_nextTag (s : State) (t : Nat) : (s.tick t).nextTag = s.nextTag := rfl
@[simp] theorem State.tick_directory (s : State) (t : Nat) : (s.tick t).directory = s.directory := rfl
@[simp] theorem State.tick_snoops (s : State) (t : Nat) : (s.tick t).snoops = s.snoops := rfl
@[simp] theorem State.tick_lineWait (s : State) (t : Nat) : (s.tick t).lineWait = s.lineWait := rfl
@[simp] theorem State.tick_arrivals (s : State) (t : Nat) : (s.tick t).arrivals = s.arrivals := rfl
@[simp] theorem State.tick_collectives (s : State) (t : Nat) : (s.tick t).collectives = s.collectives := rfl
@[simp] theorem State.tick_nextCollective (s : State) (t : Nat) : (s.tick t).nextCollective = s.nextCollective := rfl
@[simp] theorem State.tick_parked (s : State) (t : Nat) : (s.tick t).parked = s.parked := rfl
@[simp] theorem State.tick_colSent (s : State) (t : Nat) : (s.tick t).colSent = s.colSent := rfl
@[simp] theorem State.tick_traek (s : State) (t : Nat) : (s.tick t).traek = s.traek := rfl
@[simp] theorem State.tick_twin (s : State) (t : Nat) : (s.tick t).twin = s.twin := rfl
@[simp] theorem State.tick_regions (s : State) (t : Nat) : (s.tick t).regions = s.regions := rfl
@[simp] theorem State.tick_power (s : State) (t : Nat) : (s.tick t).power = s.power := rfl
@[simp] theorem State.tick_spots (s : State) (t : Nat) : (s.tick t).spots = s.spots := rfl
@[simp] theorem State.tick_cooling (s : State) (t : Nat) : (s.tick t).cooling = s.cooling := rfl
@[simp] theorem State.tick_mgmt (s : State) (t : Nat) : (s.tick t).mgmt = s.mgmt := rfl
@[simp] theorem State.tick_test (s : State) (t : Nat) : (s.tick t).test = s.test := rfl
@[simp] theorem State.tick_boot (s : State) (t : Nat) : (s.tick t).boot = s.boot := rfl

@[simp] theorem State.drawn_pending (s : State)  : (s.drawn).pending = s.pending := rfl
@[simp] theorem State.drawn_now (s : State)  : (s.drawn).now = s.now := rfl
@[simp] theorem State.drawn_egress (s : State)  : (s.drawn).egress = s.egress := rfl
@[simp] theorem State.drawn_mem (s : State)  : (s.drawn).mem = s.mem := rfl
@[simp] theorem State.drawn_marks (s : State)  : (s.drawn).marks = s.marks := rfl
@[simp] theorem State.drawn_dict (s : State)  : (s.drawn).dict = s.dict := rfl
@[simp] theorem State.drawn_tags (s : State)  : (s.drawn).tags = s.tags := rfl
@[simp] theorem State.drawn_log (s : State)  : (s.drawn).log = s.log := rfl
@[simp] theorem State.drawn_logSeq (s : State)  : (s.drawn).logSeq = s.logSeq := rfl
@[simp] theorem State.drawn_windows (s : State)  : (s.drawn).windows = s.windows := rfl
@[simp] theorem State.drawn_queues (s : State)  : (s.drawn).queues = s.queues := rfl
@[simp] theorem State.drawn_counters (s : State)  : (s.drawn).counters = s.counters := rfl
@[simp] theorem State.drawn_ingress (s : State)  : (s.drawn).ingress = s.ingress := rfl
@[simp] theorem State.drawn_bankLast (s : State)  : (s.drawn).bankLast = s.bankLast := rfl
@[simp] theorem State.drawn_bankAt (s : State)  : (s.drawn).bankAt = s.bankAt := rfl
@[simp] theorem State.drawn_tensors (s : State)  : (s.drawn).tensors = s.tensors := rfl
@[simp] theorem State.drawn_alloc (s : State)  : (s.drawn).alloc = s.alloc := rfl
@[simp] theorem State.drawn_step (s : State)  : (s.drawn).step = s.step := rfl
@[simp] theorem State.drawn_clusters (s : State)  : (s.drawn).clusters = s.clusters := rfl
@[simp] theorem State.drawn_lastQueue (s : State)  : (s.drawn).lastQueue = s.lastQueue := rfl
@[simp] theorem State.drawn_channels (s : State)  : (s.drawn).channels = s.channels := rfl
@[simp] theorem State.drawn_packages (s : State)  : (s.drawn).packages = s.packages := rfl
@[simp] theorem State.drawn_stageWait (s : State)  : (s.drawn).stageWait = s.stageWait := rfl
@[simp] theorem State.drawn_ports (s : State)  : (s.drawn).ports = s.ports := rfl
@[simp] theorem State.drawn_streamsOut (s : State)  : (s.drawn).streamsOut = s.streamsOut := rfl
@[simp] theorem State.drawn_streamsIn (s : State)  : (s.drawn).streamsIn = s.streamsIn := rfl
@[simp] theorem State.drawn_reqs (s : State)  : (s.drawn).reqs = s.reqs := rfl
@[simp] theorem State.drawn_nextTag (s : State)  : (s.drawn).nextTag = s.nextTag := rfl
@[simp] theorem State.drawn_directory (s : State)  : (s.drawn).directory = s.directory := rfl
@[simp] theorem State.drawn_snoops (s : State)  : (s.drawn).snoops = s.snoops := rfl
@[simp] theorem State.drawn_lineWait (s : State)  : (s.drawn).lineWait = s.lineWait := rfl
@[simp] theorem State.drawn_arrivals (s : State)  : (s.drawn).arrivals = s.arrivals := rfl
@[simp] theorem State.drawn_collectives (s : State)  : (s.drawn).collectives = s.collectives := rfl
@[simp] theorem State.drawn_nextCollective (s : State)  : (s.drawn).nextCollective = s.nextCollective := rfl
@[simp] theorem State.drawn_parked (s : State)  : (s.drawn).parked = s.parked := rfl
@[simp] theorem State.drawn_colSent (s : State)  : (s.drawn).colSent = s.colSent := rfl
@[simp] theorem State.drawn_traek (s : State)  : (s.drawn).traek = s.traek := rfl
@[simp] theorem State.drawn_twin (s : State)  : (s.drawn).twin = s.twin := rfl
@[simp] theorem State.drawn_regions (s : State)  : (s.drawn).regions = s.regions := rfl
@[simp] theorem State.drawn_power (s : State)  : (s.drawn).power = s.power := rfl
@[simp] theorem State.drawn_spots (s : State)  : (s.drawn).spots = s.spots := rfl
@[simp] theorem State.drawn_cooling (s : State)  : (s.drawn).cooling = s.cooling := rfl
@[simp] theorem State.drawn_mgmt (s : State)  : (s.drawn).mgmt = s.mgmt := rfl
@[simp] theorem State.drawn_test (s : State)  : (s.drawn).test = s.test := rfl
@[simp] theorem State.drawn_boot (s : State)  : (s.drawn).boot = s.boot := rfl

@[simp] theorem State.send_pending (s : State) (e : Egress) : (s.send e).pending = s.pending := rfl
@[simp] theorem State.send_now (s : State) (e : Egress) : (s.send e).now = s.now := rfl
@[simp] theorem State.send_fresh (s : State) (e : Egress) : (s.send e).fresh = s.fresh := rfl
@[simp] theorem State.send_mem (s : State) (e : Egress) : (s.send e).mem = s.mem := rfl
@[simp] theorem State.send_marks (s : State) (e : Egress) : (s.send e).marks = s.marks := rfl
@[simp] theorem State.send_dict (s : State) (e : Egress) : (s.send e).dict = s.dict := rfl
@[simp] theorem State.send_tags (s : State) (e : Egress) : (s.send e).tags = s.tags := rfl
@[simp] theorem State.send_log (s : State) (e : Egress) : (s.send e).log = s.log := rfl
@[simp] theorem State.send_logSeq (s : State) (e : Egress) : (s.send e).logSeq = s.logSeq := rfl
@[simp] theorem State.send_windows (s : State) (e : Egress) : (s.send e).windows = s.windows := rfl
@[simp] theorem State.send_queues (s : State) (e : Egress) : (s.send e).queues = s.queues := rfl
@[simp] theorem State.send_counters (s : State) (e : Egress) : (s.send e).counters = s.counters := rfl
@[simp] theorem State.send_ingress (s : State) (e : Egress) : (s.send e).ingress = s.ingress := rfl
@[simp] theorem State.send_bankLast (s : State) (e : Egress) : (s.send e).bankLast = s.bankLast := rfl
@[simp] theorem State.send_bankAt (s : State) (e : Egress) : (s.send e).bankAt = s.bankAt := rfl
@[simp] theorem State.send_tensors (s : State) (e : Egress) : (s.send e).tensors = s.tensors := rfl
@[simp] theorem State.send_alloc (s : State) (e : Egress) : (s.send e).alloc = s.alloc := rfl
@[simp] theorem State.send_step (s : State) (e : Egress) : (s.send e).step = s.step := rfl
@[simp] theorem State.send_clusters (s : State) (e : Egress) : (s.send e).clusters = s.clusters := rfl
@[simp] theorem State.send_lastQueue (s : State) (e : Egress) : (s.send e).lastQueue = s.lastQueue := rfl
@[simp] theorem State.send_channels (s : State) (e : Egress) : (s.send e).channels = s.channels := rfl
@[simp] theorem State.send_packages (s : State) (e : Egress) : (s.send e).packages = s.packages := rfl
@[simp] theorem State.send_stageWait (s : State) (e : Egress) : (s.send e).stageWait = s.stageWait := rfl
@[simp] theorem State.send_ports (s : State) (e : Egress) : (s.send e).ports = s.ports := rfl
@[simp] theorem State.send_streamsOut (s : State) (e : Egress) : (s.send e).streamsOut = s.streamsOut := rfl
@[simp] theorem State.send_streamsIn (s : State) (e : Egress) : (s.send e).streamsIn = s.streamsIn := rfl
@[simp] theorem State.send_reqs (s : State) (e : Egress) : (s.send e).reqs = s.reqs := rfl
@[simp] theorem State.send_nextTag (s : State) (e : Egress) : (s.send e).nextTag = s.nextTag := rfl
@[simp] theorem State.send_directory (s : State) (e : Egress) : (s.send e).directory = s.directory := rfl
@[simp] theorem State.send_snoops (s : State) (e : Egress) : (s.send e).snoops = s.snoops := rfl
@[simp] theorem State.send_lineWait (s : State) (e : Egress) : (s.send e).lineWait = s.lineWait := rfl
@[simp] theorem State.send_arrivals (s : State) (e : Egress) : (s.send e).arrivals = s.arrivals := rfl
@[simp] theorem State.send_collectives (s : State) (e : Egress) : (s.send e).collectives = s.collectives := rfl
@[simp] theorem State.send_nextCollective (s : State) (e : Egress) : (s.send e).nextCollective = s.nextCollective := rfl
@[simp] theorem State.send_parked (s : State) (e : Egress) : (s.send e).parked = s.parked := rfl
@[simp] theorem State.send_colSent (s : State) (e : Egress) : (s.send e).colSent = s.colSent := rfl
@[simp] theorem State.send_traek (s : State) (e : Egress) : (s.send e).traek = s.traek := rfl
@[simp] theorem State.send_twin (s : State) (e : Egress) : (s.send e).twin = s.twin := rfl
@[simp] theorem State.send_regions (s : State) (e : Egress) : (s.send e).regions = s.regions := rfl
@[simp] theorem State.send_power (s : State) (e : Egress) : (s.send e).power = s.power := rfl
@[simp] theorem State.send_spots (s : State) (e : Egress) : (s.send e).spots = s.spots := rfl
@[simp] theorem State.send_cooling (s : State) (e : Egress) : (s.send e).cooling = s.cooling := rfl
@[simp] theorem State.send_mgmt (s : State) (e : Egress) : (s.send e).mgmt = s.mgmt := rfl
@[simp] theorem State.send_test (s : State) (e : Egress) : (s.send e).test = s.test := rfl
@[simp] theorem State.send_boot (s : State) (e : Egress) : (s.send e).boot = s.boot := rfl

@[simp] theorem State.setDv_pending (s : State) (k v : Nat) : (s.setDv k v).pending = s.pending := rfl
@[simp] theorem State.setDv_now (s : State) (k v : Nat) : (s.setDv k v).now = s.now := rfl
@[simp] theorem State.setDv_fresh (s : State) (k v : Nat) : (s.setDv k v).fresh = s.fresh := rfl
@[simp] theorem State.setDv_egress (s : State) (k v : Nat) : (s.setDv k v).egress = s.egress := rfl
@[simp] theorem State.setDv_mem (s : State) (k v : Nat) : (s.setDv k v).mem = s.mem := rfl
@[simp] theorem State.setDv_marks (s : State) (k v : Nat) : (s.setDv k v).marks = s.marks := rfl
@[simp] theorem State.setDv_tags (s : State) (k v : Nat) : (s.setDv k v).tags = s.tags := rfl
@[simp] theorem State.setDv_log (s : State) (k v : Nat) : (s.setDv k v).log = s.log := rfl
@[simp] theorem State.setDv_logSeq (s : State) (k v : Nat) : (s.setDv k v).logSeq = s.logSeq := rfl
@[simp] theorem State.setDv_windows (s : State) (k v : Nat) : (s.setDv k v).windows = s.windows := rfl
@[simp] theorem State.setDv_queues (s : State) (k v : Nat) : (s.setDv k v).queues = s.queues := rfl
@[simp] theorem State.setDv_counters (s : State) (k v : Nat) : (s.setDv k v).counters = s.counters := rfl
@[simp] theorem State.setDv_ingress (s : State) (k v : Nat) : (s.setDv k v).ingress = s.ingress := rfl
@[simp] theorem State.setDv_bankLast (s : State) (k v : Nat) : (s.setDv k v).bankLast = s.bankLast := rfl
@[simp] theorem State.setDv_bankAt (s : State) (k v : Nat) : (s.setDv k v).bankAt = s.bankAt := rfl
@[simp] theorem State.setDv_tensors (s : State) (k v : Nat) : (s.setDv k v).tensors = s.tensors := rfl
@[simp] theorem State.setDv_alloc (s : State) (k v : Nat) : (s.setDv k v).alloc = s.alloc := rfl
@[simp] theorem State.setDv_step (s : State) (k v : Nat) : (s.setDv k v).step = s.step := rfl
@[simp] theorem State.setDv_clusters (s : State) (k v : Nat) : (s.setDv k v).clusters = s.clusters := rfl
@[simp] theorem State.setDv_lastQueue (s : State) (k v : Nat) : (s.setDv k v).lastQueue = s.lastQueue := rfl
@[simp] theorem State.setDv_channels (s : State) (k v : Nat) : (s.setDv k v).channels = s.channels := rfl
@[simp] theorem State.setDv_packages (s : State) (k v : Nat) : (s.setDv k v).packages = s.packages := rfl
@[simp] theorem State.setDv_stageWait (s : State) (k v : Nat) : (s.setDv k v).stageWait = s.stageWait := rfl
@[simp] theorem State.setDv_ports (s : State) (k v : Nat) : (s.setDv k v).ports = s.ports := rfl
@[simp] theorem State.setDv_streamsOut (s : State) (k v : Nat) : (s.setDv k v).streamsOut = s.streamsOut := rfl
@[simp] theorem State.setDv_streamsIn (s : State) (k v : Nat) : (s.setDv k v).streamsIn = s.streamsIn := rfl
@[simp] theorem State.setDv_reqs (s : State) (k v : Nat) : (s.setDv k v).reqs = s.reqs := rfl
@[simp] theorem State.setDv_nextTag (s : State) (k v : Nat) : (s.setDv k v).nextTag = s.nextTag := rfl
@[simp] theorem State.setDv_directory (s : State) (k v : Nat) : (s.setDv k v).directory = s.directory := rfl
@[simp] theorem State.setDv_snoops (s : State) (k v : Nat) : (s.setDv k v).snoops = s.snoops := rfl
@[simp] theorem State.setDv_lineWait (s : State) (k v : Nat) : (s.setDv k v).lineWait = s.lineWait := rfl
@[simp] theorem State.setDv_arrivals (s : State) (k v : Nat) : (s.setDv k v).arrivals = s.arrivals := rfl
@[simp] theorem State.setDv_collectives (s : State) (k v : Nat) : (s.setDv k v).collectives = s.collectives := rfl
@[simp] theorem State.setDv_nextCollective (s : State) (k v : Nat) : (s.setDv k v).nextCollective = s.nextCollective := rfl
@[simp] theorem State.setDv_parked (s : State) (k v : Nat) : (s.setDv k v).parked = s.parked := rfl
@[simp] theorem State.setDv_colSent (s : State) (k v : Nat) : (s.setDv k v).colSent = s.colSent := rfl
@[simp] theorem State.setDv_traek (s : State) (k v : Nat) : (s.setDv k v).traek = s.traek := rfl
@[simp] theorem State.setDv_twin (s : State) (k v : Nat) : (s.setDv k v).twin = s.twin := rfl
@[simp] theorem State.setDv_regions (s : State) (k v : Nat) : (s.setDv k v).regions = s.regions := rfl
@[simp] theorem State.setDv_power (s : State) (k v : Nat) : (s.setDv k v).power = s.power := rfl
@[simp] theorem State.setDv_spots (s : State) (k v : Nat) : (s.setDv k v).spots = s.spots := rfl
@[simp] theorem State.setDv_cooling (s : State) (k v : Nat) : (s.setDv k v).cooling = s.cooling := rfl
@[simp] theorem State.setDv_mgmt (s : State) (k v : Nat) : (s.setDv k v).mgmt = s.mgmt := rfl
@[simp] theorem State.setDv_test (s : State) (k v : Nat) : (s.setDv k v).test = s.test := rfl
@[simp] theorem State.setDv_boot (s : State) (k v : Nat) : (s.setDv k v).boot = s.boot := rfl

@[simp] theorem State.bump_pending (s : State) (k v : Nat) : (s.bump k v).pending = s.pending := State.setDv_pending ..
@[simp] theorem State.bump_now (s : State) (k v : Nat) : (s.bump k v).now = s.now := State.setDv_now ..
@[simp] theorem State.bump_fresh (s : State) (k v : Nat) : (s.bump k v).fresh = s.fresh := State.setDv_fresh ..
@[simp] theorem State.bump_egress (s : State) (k v : Nat) : (s.bump k v).egress = s.egress := State.setDv_egress ..
@[simp] theorem State.bump_mem (s : State) (k v : Nat) : (s.bump k v).mem = s.mem := State.setDv_mem ..
@[simp] theorem State.bump_marks (s : State) (k v : Nat) : (s.bump k v).marks = s.marks := State.setDv_marks ..
@[simp] theorem State.bump_tags (s : State) (k v : Nat) : (s.bump k v).tags = s.tags := State.setDv_tags ..
@[simp] theorem State.bump_log (s : State) (k v : Nat) : (s.bump k v).log = s.log := State.setDv_log ..
@[simp] theorem State.bump_logSeq (s : State) (k v : Nat) : (s.bump k v).logSeq = s.logSeq := State.setDv_logSeq ..
@[simp] theorem State.bump_windows (s : State) (k v : Nat) : (s.bump k v).windows = s.windows := State.setDv_windows ..
@[simp] theorem State.bump_queues (s : State) (k v : Nat) : (s.bump k v).queues = s.queues := State.setDv_queues ..
@[simp] theorem State.bump_counters (s : State) (k v : Nat) : (s.bump k v).counters = s.counters := State.setDv_counters ..
@[simp] theorem State.bump_ingress (s : State) (k v : Nat) : (s.bump k v).ingress = s.ingress := State.setDv_ingress ..
@[simp] theorem State.bump_bankLast (s : State) (k v : Nat) : (s.bump k v).bankLast = s.bankLast := State.setDv_bankLast ..
@[simp] theorem State.bump_bankAt (s : State) (k v : Nat) : (s.bump k v).bankAt = s.bankAt := State.setDv_bankAt ..
@[simp] theorem State.bump_tensors (s : State) (k v : Nat) : (s.bump k v).tensors = s.tensors := State.setDv_tensors ..
@[simp] theorem State.bump_alloc (s : State) (k v : Nat) : (s.bump k v).alloc = s.alloc := State.setDv_alloc ..
@[simp] theorem State.bump_step (s : State) (k v : Nat) : (s.bump k v).step = s.step := State.setDv_step ..
@[simp] theorem State.bump_clusters (s : State) (k v : Nat) : (s.bump k v).clusters = s.clusters := State.setDv_clusters ..
@[simp] theorem State.bump_lastQueue (s : State) (k v : Nat) : (s.bump k v).lastQueue = s.lastQueue := State.setDv_lastQueue ..
@[simp] theorem State.bump_channels (s : State) (k v : Nat) : (s.bump k v).channels = s.channels := State.setDv_channels ..
@[simp] theorem State.bump_packages (s : State) (k v : Nat) : (s.bump k v).packages = s.packages := State.setDv_packages ..
@[simp] theorem State.bump_stageWait (s : State) (k v : Nat) : (s.bump k v).stageWait = s.stageWait := State.setDv_stageWait ..
@[simp] theorem State.bump_ports (s : State) (k v : Nat) : (s.bump k v).ports = s.ports := State.setDv_ports ..
@[simp] theorem State.bump_streamsOut (s : State) (k v : Nat) : (s.bump k v).streamsOut = s.streamsOut := State.setDv_streamsOut ..
@[simp] theorem State.bump_streamsIn (s : State) (k v : Nat) : (s.bump k v).streamsIn = s.streamsIn := State.setDv_streamsIn ..
@[simp] theorem State.bump_reqs (s : State) (k v : Nat) : (s.bump k v).reqs = s.reqs := State.setDv_reqs ..
@[simp] theorem State.bump_nextTag (s : State) (k v : Nat) : (s.bump k v).nextTag = s.nextTag := State.setDv_nextTag ..
@[simp] theorem State.bump_directory (s : State) (k v : Nat) : (s.bump k v).directory = s.directory := State.setDv_directory ..
@[simp] theorem State.bump_snoops (s : State) (k v : Nat) : (s.bump k v).snoops = s.snoops := State.setDv_snoops ..
@[simp] theorem State.bump_lineWait (s : State) (k v : Nat) : (s.bump k v).lineWait = s.lineWait := State.setDv_lineWait ..
@[simp] theorem State.bump_arrivals (s : State) (k v : Nat) : (s.bump k v).arrivals = s.arrivals := State.setDv_arrivals ..
@[simp] theorem State.bump_collectives (s : State) (k v : Nat) : (s.bump k v).collectives = s.collectives := State.setDv_collectives ..
@[simp] theorem State.bump_nextCollective (s : State) (k v : Nat) : (s.bump k v).nextCollective = s.nextCollective := State.setDv_nextCollective ..
@[simp] theorem State.bump_parked (s : State) (k v : Nat) : (s.bump k v).parked = s.parked := State.setDv_parked ..
@[simp] theorem State.bump_colSent (s : State) (k v : Nat) : (s.bump k v).colSent = s.colSent := State.setDv_colSent ..
@[simp] theorem State.bump_traek (s : State) (k v : Nat) : (s.bump k v).traek = s.traek := State.setDv_traek ..
@[simp] theorem State.bump_twin (s : State) (k v : Nat) : (s.bump k v).twin = s.twin := State.setDv_twin ..
@[simp] theorem State.bump_regions (s : State) (k v : Nat) : (s.bump k v).regions = s.regions := State.setDv_regions ..
@[simp] theorem State.bump_power (s : State) (k v : Nat) : (s.bump k v).power = s.power := State.setDv_power ..
@[simp] theorem State.bump_spots (s : State) (k v : Nat) : (s.bump k v).spots = s.spots := State.setDv_spots ..
@[simp] theorem State.bump_cooling (s : State) (k v : Nat) : (s.bump k v).cooling = s.cooling := State.setDv_cooling ..
@[simp] theorem State.bump_mgmt (s : State) (k v : Nat) : (s.bump k v).mgmt = s.mgmt := State.setDv_mgmt ..
@[simp] theorem State.bump_test (s : State) (k v : Nat) : (s.bump k v).test = s.test := State.setDv_test ..
@[simp] theorem State.bump_boot (s : State) (k v : Nat) : (s.bump k v).boot = s.boot := State.setDv_boot ..

@[simp] theorem State.surge_pending (s : State) (k v : Nat) : (s.surge k v).pending = s.pending := State.bump_pending ..
@[simp] theorem State.surge_now (s : State) (k v : Nat) : (s.surge k v).now = s.now := State.bump_now ..
@[simp] theorem State.surge_fresh (s : State) (k v : Nat) : (s.surge k v).fresh = s.fresh := State.bump_fresh ..
@[simp] theorem State.surge_egress (s : State) (k v : Nat) : (s.surge k v).egress = s.egress := State.bump_egress ..
@[simp] theorem State.surge_mem (s : State) (k v : Nat) : (s.surge k v).mem = s.mem := State.bump_mem ..
@[simp] theorem State.surge_marks (s : State) (k v : Nat) : (s.surge k v).marks = s.marks := State.bump_marks ..
@[simp] theorem State.surge_tags (s : State) (k v : Nat) : (s.surge k v).tags = s.tags := State.bump_tags ..
@[simp] theorem State.surge_log (s : State) (k v : Nat) : (s.surge k v).log = s.log := State.bump_log ..
@[simp] theorem State.surge_logSeq (s : State) (k v : Nat) : (s.surge k v).logSeq = s.logSeq := State.bump_logSeq ..
@[simp] theorem State.surge_windows (s : State) (k v : Nat) : (s.surge k v).windows = s.windows := State.bump_windows ..
@[simp] theorem State.surge_queues (s : State) (k v : Nat) : (s.surge k v).queues = s.queues := State.bump_queues ..
@[simp] theorem State.surge_counters (s : State) (k v : Nat) : (s.surge k v).counters = s.counters := State.bump_counters ..
@[simp] theorem State.surge_ingress (s : State) (k v : Nat) : (s.surge k v).ingress = s.ingress := State.bump_ingress ..
@[simp] theorem State.surge_bankLast (s : State) (k v : Nat) : (s.surge k v).bankLast = s.bankLast := State.bump_bankLast ..
@[simp] theorem State.surge_bankAt (s : State) (k v : Nat) : (s.surge k v).bankAt = s.bankAt := State.bump_bankAt ..
@[simp] theorem State.surge_tensors (s : State) (k v : Nat) : (s.surge k v).tensors = s.tensors := State.bump_tensors ..
@[simp] theorem State.surge_alloc (s : State) (k v : Nat) : (s.surge k v).alloc = s.alloc := State.bump_alloc ..
@[simp] theorem State.surge_step (s : State) (k v : Nat) : (s.surge k v).step = s.step := State.bump_step ..
@[simp] theorem State.surge_clusters (s : State) (k v : Nat) : (s.surge k v).clusters = s.clusters := State.bump_clusters ..
@[simp] theorem State.surge_lastQueue (s : State) (k v : Nat) : (s.surge k v).lastQueue = s.lastQueue := State.bump_lastQueue ..
@[simp] theorem State.surge_channels (s : State) (k v : Nat) : (s.surge k v).channels = s.channels := State.bump_channels ..
@[simp] theorem State.surge_packages (s : State) (k v : Nat) : (s.surge k v).packages = s.packages := State.bump_packages ..
@[simp] theorem State.surge_stageWait (s : State) (k v : Nat) : (s.surge k v).stageWait = s.stageWait := State.bump_stageWait ..
@[simp] theorem State.surge_ports (s : State) (k v : Nat) : (s.surge k v).ports = s.ports := State.bump_ports ..
@[simp] theorem State.surge_streamsOut (s : State) (k v : Nat) : (s.surge k v).streamsOut = s.streamsOut := State.bump_streamsOut ..
@[simp] theorem State.surge_streamsIn (s : State) (k v : Nat) : (s.surge k v).streamsIn = s.streamsIn := State.bump_streamsIn ..
@[simp] theorem State.surge_reqs (s : State) (k v : Nat) : (s.surge k v).reqs = s.reqs := State.bump_reqs ..
@[simp] theorem State.surge_nextTag (s : State) (k v : Nat) : (s.surge k v).nextTag = s.nextTag := State.bump_nextTag ..
@[simp] theorem State.surge_directory (s : State) (k v : Nat) : (s.surge k v).directory = s.directory := State.bump_directory ..
@[simp] theorem State.surge_snoops (s : State) (k v : Nat) : (s.surge k v).snoops = s.snoops := State.bump_snoops ..
@[simp] theorem State.surge_lineWait (s : State) (k v : Nat) : (s.surge k v).lineWait = s.lineWait := State.bump_lineWait ..
@[simp] theorem State.surge_arrivals (s : State) (k v : Nat) : (s.surge k v).arrivals = s.arrivals := State.bump_arrivals ..
@[simp] theorem State.surge_collectives (s : State) (k v : Nat) : (s.surge k v).collectives = s.collectives := State.bump_collectives ..
@[simp] theorem State.surge_nextCollective (s : State) (k v : Nat) : (s.surge k v).nextCollective = s.nextCollective := State.bump_nextCollective ..
@[simp] theorem State.surge_parked (s : State) (k v : Nat) : (s.surge k v).parked = s.parked := State.bump_parked ..
@[simp] theorem State.surge_colSent (s : State) (k v : Nat) : (s.surge k v).colSent = s.colSent := State.bump_colSent ..
@[simp] theorem State.surge_traek (s : State) (k v : Nat) : (s.surge k v).traek = s.traek := State.bump_traek ..
@[simp] theorem State.surge_twin (s : State) (k v : Nat) : (s.surge k v).twin = s.twin := State.bump_twin ..
@[simp] theorem State.surge_regions (s : State) (k v : Nat) : (s.surge k v).regions = s.regions := State.bump_regions ..
@[simp] theorem State.surge_power (s : State) (k v : Nat) : (s.surge k v).power = s.power := State.bump_power ..
@[simp] theorem State.surge_spots (s : State) (k v : Nat) : (s.surge k v).spots = s.spots := State.bump_spots ..
@[simp] theorem State.surge_cooling (s : State) (k v : Nat) : (s.surge k v).cooling = s.cooling := State.bump_cooling ..
@[simp] theorem State.surge_mgmt (s : State) (k v : Nat) : (s.surge k v).mgmt = s.mgmt := State.bump_mgmt ..
@[simp] theorem State.surge_test (s : State) (k v : Nat) : (s.surge k v).test = s.test := State.bump_test ..
@[simp] theorem State.surge_boot (s : State) (k v : Nat) : (s.surge k v).boot = s.boot := State.bump_boot ..

@[simp] theorem State.latch_pending (s : State) (b : Nat) : (s.latch b).pending = s.pending := by rw [State.latch, State.setDv_pending, State.setDv_pending]
@[simp] theorem State.latch_now (s : State) (b : Nat) : (s.latch b).now = s.now := by rw [State.latch, State.setDv_now, State.setDv_now]
@[simp] theorem State.latch_fresh (s : State) (b : Nat) : (s.latch b).fresh = s.fresh := by rw [State.latch, State.setDv_fresh, State.setDv_fresh]
@[simp] theorem State.latch_egress (s : State) (b : Nat) : (s.latch b).egress = s.egress := by rw [State.latch, State.setDv_egress, State.setDv_egress]
@[simp] theorem State.latch_mem (s : State) (b : Nat) : (s.latch b).mem = s.mem := by rw [State.latch, State.setDv_mem, State.setDv_mem]
@[simp] theorem State.latch_marks (s : State) (b : Nat) : (s.latch b).marks = s.marks := by rw [State.latch, State.setDv_marks, State.setDv_marks]
@[simp] theorem State.latch_tags (s : State) (b : Nat) : (s.latch b).tags = s.tags := by rw [State.latch, State.setDv_tags, State.setDv_tags]
@[simp] theorem State.latch_log (s : State) (b : Nat) : (s.latch b).log = s.log := by rw [State.latch, State.setDv_log, State.setDv_log]
@[simp] theorem State.latch_logSeq (s : State) (b : Nat) : (s.latch b).logSeq = s.logSeq := by rw [State.latch, State.setDv_logSeq, State.setDv_logSeq]
@[simp] theorem State.latch_windows (s : State) (b : Nat) : (s.latch b).windows = s.windows := by rw [State.latch, State.setDv_windows, State.setDv_windows]
@[simp] theorem State.latch_queues (s : State) (b : Nat) : (s.latch b).queues = s.queues := by rw [State.latch, State.setDv_queues, State.setDv_queues]
@[simp] theorem State.latch_counters (s : State) (b : Nat) : (s.latch b).counters = s.counters := by rw [State.latch, State.setDv_counters, State.setDv_counters]
@[simp] theorem State.latch_ingress (s : State) (b : Nat) : (s.latch b).ingress = s.ingress := by rw [State.latch, State.setDv_ingress, State.setDv_ingress]
@[simp] theorem State.latch_bankLast (s : State) (b : Nat) : (s.latch b).bankLast = s.bankLast := by rw [State.latch, State.setDv_bankLast, State.setDv_bankLast]
@[simp] theorem State.latch_bankAt (s : State) (b : Nat) : (s.latch b).bankAt = s.bankAt := by rw [State.latch, State.setDv_bankAt, State.setDv_bankAt]
@[simp] theorem State.latch_tensors (s : State) (b : Nat) : (s.latch b).tensors = s.tensors := by rw [State.latch, State.setDv_tensors, State.setDv_tensors]
@[simp] theorem State.latch_alloc (s : State) (b : Nat) : (s.latch b).alloc = s.alloc := by rw [State.latch, State.setDv_alloc, State.setDv_alloc]
@[simp] theorem State.latch_step (s : State) (b : Nat) : (s.latch b).step = s.step := by rw [State.latch, State.setDv_step, State.setDv_step]
@[simp] theorem State.latch_clusters (s : State) (b : Nat) : (s.latch b).clusters = s.clusters := by rw [State.latch, State.setDv_clusters, State.setDv_clusters]
@[simp] theorem State.latch_lastQueue (s : State) (b : Nat) : (s.latch b).lastQueue = s.lastQueue := by rw [State.latch, State.setDv_lastQueue, State.setDv_lastQueue]
@[simp] theorem State.latch_channels (s : State) (b : Nat) : (s.latch b).channels = s.channels := by rw [State.latch, State.setDv_channels, State.setDv_channels]
@[simp] theorem State.latch_packages (s : State) (b : Nat) : (s.latch b).packages = s.packages := by rw [State.latch, State.setDv_packages, State.setDv_packages]
@[simp] theorem State.latch_stageWait (s : State) (b : Nat) : (s.latch b).stageWait = s.stageWait := by rw [State.latch, State.setDv_stageWait, State.setDv_stageWait]
@[simp] theorem State.latch_ports (s : State) (b : Nat) : (s.latch b).ports = s.ports := by rw [State.latch, State.setDv_ports, State.setDv_ports]
@[simp] theorem State.latch_streamsOut (s : State) (b : Nat) : (s.latch b).streamsOut = s.streamsOut := by rw [State.latch, State.setDv_streamsOut, State.setDv_streamsOut]
@[simp] theorem State.latch_streamsIn (s : State) (b : Nat) : (s.latch b).streamsIn = s.streamsIn := by rw [State.latch, State.setDv_streamsIn, State.setDv_streamsIn]
@[simp] theorem State.latch_reqs (s : State) (b : Nat) : (s.latch b).reqs = s.reqs := by rw [State.latch, State.setDv_reqs, State.setDv_reqs]
@[simp] theorem State.latch_nextTag (s : State) (b : Nat) : (s.latch b).nextTag = s.nextTag := by rw [State.latch, State.setDv_nextTag, State.setDv_nextTag]
@[simp] theorem State.latch_directory (s : State) (b : Nat) : (s.latch b).directory = s.directory := by rw [State.latch, State.setDv_directory, State.setDv_directory]
@[simp] theorem State.latch_snoops (s : State) (b : Nat) : (s.latch b).snoops = s.snoops := by rw [State.latch, State.setDv_snoops, State.setDv_snoops]
@[simp] theorem State.latch_lineWait (s : State) (b : Nat) : (s.latch b).lineWait = s.lineWait := by rw [State.latch, State.setDv_lineWait, State.setDv_lineWait]
@[simp] theorem State.latch_arrivals (s : State) (b : Nat) : (s.latch b).arrivals = s.arrivals := by rw [State.latch, State.setDv_arrivals, State.setDv_arrivals]
@[simp] theorem State.latch_collectives (s : State) (b : Nat) : (s.latch b).collectives = s.collectives := by rw [State.latch, State.setDv_collectives, State.setDv_collectives]
@[simp] theorem State.latch_nextCollective (s : State) (b : Nat) : (s.latch b).nextCollective = s.nextCollective := by rw [State.latch, State.setDv_nextCollective, State.setDv_nextCollective]
@[simp] theorem State.latch_parked (s : State) (b : Nat) : (s.latch b).parked = s.parked := by rw [State.latch, State.setDv_parked, State.setDv_parked]
@[simp] theorem State.latch_colSent (s : State) (b : Nat) : (s.latch b).colSent = s.colSent := by rw [State.latch, State.setDv_colSent, State.setDv_colSent]
@[simp] theorem State.latch_traek (s : State) (b : Nat) : (s.latch b).traek = s.traek := by rw [State.latch, State.setDv_traek, State.setDv_traek]
@[simp] theorem State.latch_twin (s : State) (b : Nat) : (s.latch b).twin = s.twin := by rw [State.latch, State.setDv_twin, State.setDv_twin]
@[simp] theorem State.latch_regions (s : State) (b : Nat) : (s.latch b).regions = s.regions := by rw [State.latch, State.setDv_regions, State.setDv_regions]
@[simp] theorem State.latch_power (s : State) (b : Nat) : (s.latch b).power = s.power := by rw [State.latch, State.setDv_power, State.setDv_power]
@[simp] theorem State.latch_spots (s : State) (b : Nat) : (s.latch b).spots = s.spots := by rw [State.latch, State.setDv_spots, State.setDv_spots]
@[simp] theorem State.latch_cooling (s : State) (b : Nat) : (s.latch b).cooling = s.cooling := by rw [State.latch, State.setDv_cooling, State.setDv_cooling]
@[simp] theorem State.latch_mgmt (s : State) (b : Nat) : (s.latch b).mgmt = s.mgmt := by rw [State.latch, State.setDv_mgmt, State.setDv_mgmt]
@[simp] theorem State.latch_test (s : State) (b : Nat) : (s.latch b).test = s.test := by rw [State.latch, State.setDv_test, State.setDv_test]
@[simp] theorem State.latch_boot (s : State) (b : Nat) : (s.latch b).boot = s.boot := by rw [State.latch, State.setDv_boot, State.setDv_boot]

@[simp] theorem State.setQueue_pending (s : State) (q : Nat) (r : Queue) : (s.setQueue q r).pending = s.pending := rfl
@[simp] theorem State.setQueue_now (s : State) (q : Nat) (r : Queue) : (s.setQueue q r).now = s.now := rfl
@[simp] theorem State.setQueue_fresh (s : State) (q : Nat) (r : Queue) : (s.setQueue q r).fresh = s.fresh := rfl
@[simp] theorem State.setQueue_egress (s : State) (q : Nat) (r : Queue) : (s.setQueue q r).egress = s.egress := rfl
@[simp] theorem State.setQueue_mem (s : State) (q : Nat) (r : Queue) : (s.setQueue q r).mem = s.mem := rfl
@[simp] theorem State.setQueue_marks (s : State) (q : Nat) (r : Queue) : (s.setQueue q r).marks = s.marks := rfl
@[simp] theorem State.setQueue_dict (s : State) (q : Nat) (r : Queue) : (s.setQueue q r).dict = s.dict := rfl
@[simp] theorem State.setQueue_tags (s : State) (q : Nat) (r : Queue) : (s.setQueue q r).tags = s.tags := rfl
@[simp] theorem State.setQueue_log (s : State) (q : Nat) (r : Queue) : (s.setQueue q r).log = s.log := rfl
@[simp] theorem State.setQueue_logSeq (s : State) (q : Nat) (r : Queue) : (s.setQueue q r).logSeq = s.logSeq := rfl
@[simp] theorem State.setQueue_windows (s : State) (q : Nat) (r : Queue) : (s.setQueue q r).windows = s.windows := rfl
@[simp] theorem State.setQueue_counters (s : State) (q : Nat) (r : Queue) : (s.setQueue q r).counters = s.counters := rfl
@[simp] theorem State.setQueue_ingress (s : State) (q : Nat) (r : Queue) : (s.setQueue q r).ingress = s.ingress := rfl
@[simp] theorem State.setQueue_bankLast (s : State) (q : Nat) (r : Queue) : (s.setQueue q r).bankLast = s.bankLast := rfl
@[simp] theorem State.setQueue_bankAt (s : State) (q : Nat) (r : Queue) : (s.setQueue q r).bankAt = s.bankAt := rfl
@[simp] theorem State.setQueue_tensors (s : State) (q : Nat) (r : Queue) : (s.setQueue q r).tensors = s.tensors := rfl
@[simp] theorem State.setQueue_alloc (s : State) (q : Nat) (r : Queue) : (s.setQueue q r).alloc = s.alloc := rfl
@[simp] theorem State.setQueue_step (s : State) (q : Nat) (r : Queue) : (s.setQueue q r).step = s.step := rfl
@[simp] theorem State.setQueue_clusters (s : State) (q : Nat) (r : Queue) : (s.setQueue q r).clusters = s.clusters := rfl
@[simp] theorem State.setQueue_lastQueue (s : State) (q : Nat) (r : Queue) : (s.setQueue q r).lastQueue = s.lastQueue := rfl
@[simp] theorem State.setQueue_channels (s : State) (q : Nat) (r : Queue) : (s.setQueue q r).channels = s.channels := rfl
@[simp] theorem State.setQueue_packages (s : State) (q : Nat) (r : Queue) : (s.setQueue q r).packages = s.packages := rfl
@[simp] theorem State.setQueue_stageWait (s : State) (q : Nat) (r : Queue) : (s.setQueue q r).stageWait = s.stageWait := rfl
@[simp] theorem State.setQueue_ports (s : State) (q : Nat) (r : Queue) : (s.setQueue q r).ports = s.ports := rfl
@[simp] theorem State.setQueue_streamsOut (s : State) (q : Nat) (r : Queue) : (s.setQueue q r).streamsOut = s.streamsOut := rfl
@[simp] theorem State.setQueue_streamsIn (s : State) (q : Nat) (r : Queue) : (s.setQueue q r).streamsIn = s.streamsIn := rfl
@[simp] theorem State.setQueue_reqs (s : State) (q : Nat) (r : Queue) : (s.setQueue q r).reqs = s.reqs := rfl
@[simp] theorem State.setQueue_nextTag (s : State) (q : Nat) (r : Queue) : (s.setQueue q r).nextTag = s.nextTag := rfl
@[simp] theorem State.setQueue_directory (s : State) (q : Nat) (r : Queue) : (s.setQueue q r).directory = s.directory := rfl
@[simp] theorem State.setQueue_snoops (s : State) (q : Nat) (r : Queue) : (s.setQueue q r).snoops = s.snoops := rfl
@[simp] theorem State.setQueue_lineWait (s : State) (q : Nat) (r : Queue) : (s.setQueue q r).lineWait = s.lineWait := rfl
@[simp] theorem State.setQueue_arrivals (s : State) (q : Nat) (r : Queue) : (s.setQueue q r).arrivals = s.arrivals := rfl
@[simp] theorem State.setQueue_collectives (s : State) (q : Nat) (r : Queue) : (s.setQueue q r).collectives = s.collectives := rfl
@[simp] theorem State.setQueue_nextCollective (s : State) (q : Nat) (r : Queue) : (s.setQueue q r).nextCollective = s.nextCollective := rfl
@[simp] theorem State.setQueue_parked (s : State) (q : Nat) (r : Queue) : (s.setQueue q r).parked = s.parked := rfl
@[simp] theorem State.setQueue_colSent (s : State) (q : Nat) (r : Queue) : (s.setQueue q r).colSent = s.colSent := rfl
@[simp] theorem State.setQueue_traek (s : State) (q : Nat) (r : Queue) : (s.setQueue q r).traek = s.traek := rfl
@[simp] theorem State.setQueue_twin (s : State) (q : Nat) (r : Queue) : (s.setQueue q r).twin = s.twin := rfl
@[simp] theorem State.setQueue_regions (s : State) (q : Nat) (r : Queue) : (s.setQueue q r).regions = s.regions := rfl
@[simp] theorem State.setQueue_power (s : State) (q : Nat) (r : Queue) : (s.setQueue q r).power = s.power := rfl
@[simp] theorem State.setQueue_spots (s : State) (q : Nat) (r : Queue) : (s.setQueue q r).spots = s.spots := rfl
@[simp] theorem State.setQueue_cooling (s : State) (q : Nat) (r : Queue) : (s.setQueue q r).cooling = s.cooling := rfl
@[simp] theorem State.setQueue_mgmt (s : State) (q : Nat) (r : Queue) : (s.setQueue q r).mgmt = s.mgmt := rfl
@[simp] theorem State.setQueue_test (s : State) (q : Nat) (r : Queue) : (s.setQueue q r).test = s.test := rfl
@[simp] theorem State.setQueue_boot (s : State) (q : Nat) (r : Queue) : (s.setQueue q r).boot = s.boot := rfl

@[simp] theorem State.onQueue_pending (s : State) (q : Nat) (f : Queue → Queue) : (s.onQueue q f).pending = s.pending := State.setQueue_pending ..
@[simp] theorem State.onQueue_now (s : State) (q : Nat) (f : Queue → Queue) : (s.onQueue q f).now = s.now := State.setQueue_now ..
@[simp] theorem State.onQueue_fresh (s : State) (q : Nat) (f : Queue → Queue) : (s.onQueue q f).fresh = s.fresh := State.setQueue_fresh ..
@[simp] theorem State.onQueue_egress (s : State) (q : Nat) (f : Queue → Queue) : (s.onQueue q f).egress = s.egress := State.setQueue_egress ..
@[simp] theorem State.onQueue_mem (s : State) (q : Nat) (f : Queue → Queue) : (s.onQueue q f).mem = s.mem := State.setQueue_mem ..
@[simp] theorem State.onQueue_marks (s : State) (q : Nat) (f : Queue → Queue) : (s.onQueue q f).marks = s.marks := State.setQueue_marks ..
@[simp] theorem State.onQueue_dict (s : State) (q : Nat) (f : Queue → Queue) : (s.onQueue q f).dict = s.dict := State.setQueue_dict ..
@[simp] theorem State.onQueue_tags (s : State) (q : Nat) (f : Queue → Queue) : (s.onQueue q f).tags = s.tags := State.setQueue_tags ..
@[simp] theorem State.onQueue_log (s : State) (q : Nat) (f : Queue → Queue) : (s.onQueue q f).log = s.log := State.setQueue_log ..
@[simp] theorem State.onQueue_logSeq (s : State) (q : Nat) (f : Queue → Queue) : (s.onQueue q f).logSeq = s.logSeq := State.setQueue_logSeq ..
@[simp] theorem State.onQueue_windows (s : State) (q : Nat) (f : Queue → Queue) : (s.onQueue q f).windows = s.windows := State.setQueue_windows ..
@[simp] theorem State.onQueue_counters (s : State) (q : Nat) (f : Queue → Queue) : (s.onQueue q f).counters = s.counters := State.setQueue_counters ..
@[simp] theorem State.onQueue_ingress (s : State) (q : Nat) (f : Queue → Queue) : (s.onQueue q f).ingress = s.ingress := State.setQueue_ingress ..
@[simp] theorem State.onQueue_bankLast (s : State) (q : Nat) (f : Queue → Queue) : (s.onQueue q f).bankLast = s.bankLast := State.setQueue_bankLast ..
@[simp] theorem State.onQueue_bankAt (s : State) (q : Nat) (f : Queue → Queue) : (s.onQueue q f).bankAt = s.bankAt := State.setQueue_bankAt ..
@[simp] theorem State.onQueue_tensors (s : State) (q : Nat) (f : Queue → Queue) : (s.onQueue q f).tensors = s.tensors := State.setQueue_tensors ..
@[simp] theorem State.onQueue_alloc (s : State) (q : Nat) (f : Queue → Queue) : (s.onQueue q f).alloc = s.alloc := State.setQueue_alloc ..
@[simp] theorem State.onQueue_step (s : State) (q : Nat) (f : Queue → Queue) : (s.onQueue q f).step = s.step := State.setQueue_step ..
@[simp] theorem State.onQueue_clusters (s : State) (q : Nat) (f : Queue → Queue) : (s.onQueue q f).clusters = s.clusters := State.setQueue_clusters ..
@[simp] theorem State.onQueue_lastQueue (s : State) (q : Nat) (f : Queue → Queue) : (s.onQueue q f).lastQueue = s.lastQueue := State.setQueue_lastQueue ..
@[simp] theorem State.onQueue_channels (s : State) (q : Nat) (f : Queue → Queue) : (s.onQueue q f).channels = s.channels := State.setQueue_channels ..
@[simp] theorem State.onQueue_packages (s : State) (q : Nat) (f : Queue → Queue) : (s.onQueue q f).packages = s.packages := State.setQueue_packages ..
@[simp] theorem State.onQueue_stageWait (s : State) (q : Nat) (f : Queue → Queue) : (s.onQueue q f).stageWait = s.stageWait := State.setQueue_stageWait ..
@[simp] theorem State.onQueue_ports (s : State) (q : Nat) (f : Queue → Queue) : (s.onQueue q f).ports = s.ports := State.setQueue_ports ..
@[simp] theorem State.onQueue_streamsOut (s : State) (q : Nat) (f : Queue → Queue) : (s.onQueue q f).streamsOut = s.streamsOut := State.setQueue_streamsOut ..
@[simp] theorem State.onQueue_streamsIn (s : State) (q : Nat) (f : Queue → Queue) : (s.onQueue q f).streamsIn = s.streamsIn := State.setQueue_streamsIn ..
@[simp] theorem State.onQueue_reqs (s : State) (q : Nat) (f : Queue → Queue) : (s.onQueue q f).reqs = s.reqs := State.setQueue_reqs ..
@[simp] theorem State.onQueue_nextTag (s : State) (q : Nat) (f : Queue → Queue) : (s.onQueue q f).nextTag = s.nextTag := State.setQueue_nextTag ..
@[simp] theorem State.onQueue_directory (s : State) (q : Nat) (f : Queue → Queue) : (s.onQueue q f).directory = s.directory := State.setQueue_directory ..
@[simp] theorem State.onQueue_snoops (s : State) (q : Nat) (f : Queue → Queue) : (s.onQueue q f).snoops = s.snoops := State.setQueue_snoops ..
@[simp] theorem State.onQueue_lineWait (s : State) (q : Nat) (f : Queue → Queue) : (s.onQueue q f).lineWait = s.lineWait := State.setQueue_lineWait ..
@[simp] theorem State.onQueue_arrivals (s : State) (q : Nat) (f : Queue → Queue) : (s.onQueue q f).arrivals = s.arrivals := State.setQueue_arrivals ..
@[simp] theorem State.onQueue_collectives (s : State) (q : Nat) (f : Queue → Queue) : (s.onQueue q f).collectives = s.collectives := State.setQueue_collectives ..
@[simp] theorem State.onQueue_nextCollective (s : State) (q : Nat) (f : Queue → Queue) : (s.onQueue q f).nextCollective = s.nextCollective := State.setQueue_nextCollective ..
@[simp] theorem State.onQueue_parked (s : State) (q : Nat) (f : Queue → Queue) : (s.onQueue q f).parked = s.parked := State.setQueue_parked ..
@[simp] theorem State.onQueue_colSent (s : State) (q : Nat) (f : Queue → Queue) : (s.onQueue q f).colSent = s.colSent := State.setQueue_colSent ..
@[simp] theorem State.onQueue_traek (s : State) (q : Nat) (f : Queue → Queue) : (s.onQueue q f).traek = s.traek := State.setQueue_traek ..
@[simp] theorem State.onQueue_twin (s : State) (q : Nat) (f : Queue → Queue) : (s.onQueue q f).twin = s.twin := State.setQueue_twin ..
@[simp] theorem State.onQueue_regions (s : State) (q : Nat) (f : Queue → Queue) : (s.onQueue q f).regions = s.regions := State.setQueue_regions ..
@[simp] theorem State.onQueue_power (s : State) (q : Nat) (f : Queue → Queue) : (s.onQueue q f).power = s.power := State.setQueue_power ..
@[simp] theorem State.onQueue_spots (s : State) (q : Nat) (f : Queue → Queue) : (s.onQueue q f).spots = s.spots := State.setQueue_spots ..
@[simp] theorem State.onQueue_cooling (s : State) (q : Nat) (f : Queue → Queue) : (s.onQueue q f).cooling = s.cooling := State.setQueue_cooling ..
@[simp] theorem State.onQueue_mgmt (s : State) (q : Nat) (f : Queue → Queue) : (s.onQueue q f).mgmt = s.mgmt := State.setQueue_mgmt ..
@[simp] theorem State.onQueue_test (s : State) (q : Nat) (f : Queue → Queue) : (s.onQueue q f).test = s.test := State.setQueue_test ..
@[simp] theorem State.onQueue_boot (s : State) (q : Nat) (f : Queue → Queue) : (s.onQueue q f).boot = s.boot := State.setQueue_boot ..

@[simp] theorem State.setCluster_pending (s : State) (c : Nat) (r : Cluster) : (s.setCluster c r).pending = s.pending := rfl
@[simp] theorem State.setCluster_now (s : State) (c : Nat) (r : Cluster) : (s.setCluster c r).now = s.now := rfl
@[simp] theorem State.setCluster_fresh (s : State) (c : Nat) (r : Cluster) : (s.setCluster c r).fresh = s.fresh := rfl
@[simp] theorem State.setCluster_egress (s : State) (c : Nat) (r : Cluster) : (s.setCluster c r).egress = s.egress := rfl
@[simp] theorem State.setCluster_mem (s : State) (c : Nat) (r : Cluster) : (s.setCluster c r).mem = s.mem := rfl
@[simp] theorem State.setCluster_marks (s : State) (c : Nat) (r : Cluster) : (s.setCluster c r).marks = s.marks := rfl
@[simp] theorem State.setCluster_dict (s : State) (c : Nat) (r : Cluster) : (s.setCluster c r).dict = s.dict := rfl
@[simp] theorem State.setCluster_tags (s : State) (c : Nat) (r : Cluster) : (s.setCluster c r).tags = s.tags := rfl
@[simp] theorem State.setCluster_log (s : State) (c : Nat) (r : Cluster) : (s.setCluster c r).log = s.log := rfl
@[simp] theorem State.setCluster_logSeq (s : State) (c : Nat) (r : Cluster) : (s.setCluster c r).logSeq = s.logSeq := rfl
@[simp] theorem State.setCluster_windows (s : State) (c : Nat) (r : Cluster) : (s.setCluster c r).windows = s.windows := rfl
@[simp] theorem State.setCluster_queues (s : State) (c : Nat) (r : Cluster) : (s.setCluster c r).queues = s.queues := rfl
@[simp] theorem State.setCluster_counters (s : State) (c : Nat) (r : Cluster) : (s.setCluster c r).counters = s.counters := rfl
@[simp] theorem State.setCluster_ingress (s : State) (c : Nat) (r : Cluster) : (s.setCluster c r).ingress = s.ingress := rfl
@[simp] theorem State.setCluster_bankLast (s : State) (c : Nat) (r : Cluster) : (s.setCluster c r).bankLast = s.bankLast := rfl
@[simp] theorem State.setCluster_bankAt (s : State) (c : Nat) (r : Cluster) : (s.setCluster c r).bankAt = s.bankAt := rfl
@[simp] theorem State.setCluster_tensors (s : State) (c : Nat) (r : Cluster) : (s.setCluster c r).tensors = s.tensors := rfl
@[simp] theorem State.setCluster_alloc (s : State) (c : Nat) (r : Cluster) : (s.setCluster c r).alloc = s.alloc := rfl
@[simp] theorem State.setCluster_step (s : State) (c : Nat) (r : Cluster) : (s.setCluster c r).step = s.step := rfl
@[simp] theorem State.setCluster_lastQueue (s : State) (c : Nat) (r : Cluster) : (s.setCluster c r).lastQueue = s.lastQueue := rfl
@[simp] theorem State.setCluster_channels (s : State) (c : Nat) (r : Cluster) : (s.setCluster c r).channels = s.channels := rfl
@[simp] theorem State.setCluster_packages (s : State) (c : Nat) (r : Cluster) : (s.setCluster c r).packages = s.packages := rfl
@[simp] theorem State.setCluster_stageWait (s : State) (c : Nat) (r : Cluster) : (s.setCluster c r).stageWait = s.stageWait := rfl
@[simp] theorem State.setCluster_ports (s : State) (c : Nat) (r : Cluster) : (s.setCluster c r).ports = s.ports := rfl
@[simp] theorem State.setCluster_streamsOut (s : State) (c : Nat) (r : Cluster) : (s.setCluster c r).streamsOut = s.streamsOut := rfl
@[simp] theorem State.setCluster_streamsIn (s : State) (c : Nat) (r : Cluster) : (s.setCluster c r).streamsIn = s.streamsIn := rfl
@[simp] theorem State.setCluster_reqs (s : State) (c : Nat) (r : Cluster) : (s.setCluster c r).reqs = s.reqs := rfl
@[simp] theorem State.setCluster_nextTag (s : State) (c : Nat) (r : Cluster) : (s.setCluster c r).nextTag = s.nextTag := rfl
@[simp] theorem State.setCluster_directory (s : State) (c : Nat) (r : Cluster) : (s.setCluster c r).directory = s.directory := rfl
@[simp] theorem State.setCluster_snoops (s : State) (c : Nat) (r : Cluster) : (s.setCluster c r).snoops = s.snoops := rfl
@[simp] theorem State.setCluster_lineWait (s : State) (c : Nat) (r : Cluster) : (s.setCluster c r).lineWait = s.lineWait := rfl
@[simp] theorem State.setCluster_arrivals (s : State) (c : Nat) (r : Cluster) : (s.setCluster c r).arrivals = s.arrivals := rfl
@[simp] theorem State.setCluster_collectives (s : State) (c : Nat) (r : Cluster) : (s.setCluster c r).collectives = s.collectives := rfl
@[simp] theorem State.setCluster_nextCollective (s : State) (c : Nat) (r : Cluster) : (s.setCluster c r).nextCollective = s.nextCollective := rfl
@[simp] theorem State.setCluster_parked (s : State) (c : Nat) (r : Cluster) : (s.setCluster c r).parked = s.parked := rfl
@[simp] theorem State.setCluster_colSent (s : State) (c : Nat) (r : Cluster) : (s.setCluster c r).colSent = s.colSent := rfl
@[simp] theorem State.setCluster_traek (s : State) (c : Nat) (r : Cluster) : (s.setCluster c r).traek = s.traek := rfl
@[simp] theorem State.setCluster_twin (s : State) (c : Nat) (r : Cluster) : (s.setCluster c r).twin = s.twin := rfl
@[simp] theorem State.setCluster_regions (s : State) (c : Nat) (r : Cluster) : (s.setCluster c r).regions = s.regions := rfl
@[simp] theorem State.setCluster_power (s : State) (c : Nat) (r : Cluster) : (s.setCluster c r).power = s.power := rfl
@[simp] theorem State.setCluster_spots (s : State) (c : Nat) (r : Cluster) : (s.setCluster c r).spots = s.spots := rfl
@[simp] theorem State.setCluster_cooling (s : State) (c : Nat) (r : Cluster) : (s.setCluster c r).cooling = s.cooling := rfl
@[simp] theorem State.setCluster_mgmt (s : State) (c : Nat) (r : Cluster) : (s.setCluster c r).mgmt = s.mgmt := rfl
@[simp] theorem State.setCluster_test (s : State) (c : Nat) (r : Cluster) : (s.setCluster c r).test = s.test := rfl
@[simp] theorem State.setCluster_boot (s : State) (c : Nat) (r : Cluster) : (s.setCluster c r).boot = s.boot := rfl

@[simp] theorem State.onCluster_pending (s : State) (c : Nat) (f : Cluster → Cluster) : (s.onCluster c f).pending = s.pending := State.setCluster_pending ..
@[simp] theorem State.onCluster_now (s : State) (c : Nat) (f : Cluster → Cluster) : (s.onCluster c f).now = s.now := State.setCluster_now ..
@[simp] theorem State.onCluster_fresh (s : State) (c : Nat) (f : Cluster → Cluster) : (s.onCluster c f).fresh = s.fresh := State.setCluster_fresh ..
@[simp] theorem State.onCluster_egress (s : State) (c : Nat) (f : Cluster → Cluster) : (s.onCluster c f).egress = s.egress := State.setCluster_egress ..
@[simp] theorem State.onCluster_mem (s : State) (c : Nat) (f : Cluster → Cluster) : (s.onCluster c f).mem = s.mem := State.setCluster_mem ..
@[simp] theorem State.onCluster_marks (s : State) (c : Nat) (f : Cluster → Cluster) : (s.onCluster c f).marks = s.marks := State.setCluster_marks ..
@[simp] theorem State.onCluster_dict (s : State) (c : Nat) (f : Cluster → Cluster) : (s.onCluster c f).dict = s.dict := State.setCluster_dict ..
@[simp] theorem State.onCluster_tags (s : State) (c : Nat) (f : Cluster → Cluster) : (s.onCluster c f).tags = s.tags := State.setCluster_tags ..
@[simp] theorem State.onCluster_log (s : State) (c : Nat) (f : Cluster → Cluster) : (s.onCluster c f).log = s.log := State.setCluster_log ..
@[simp] theorem State.onCluster_logSeq (s : State) (c : Nat) (f : Cluster → Cluster) : (s.onCluster c f).logSeq = s.logSeq := State.setCluster_logSeq ..
@[simp] theorem State.onCluster_windows (s : State) (c : Nat) (f : Cluster → Cluster) : (s.onCluster c f).windows = s.windows := State.setCluster_windows ..
@[simp] theorem State.onCluster_queues (s : State) (c : Nat) (f : Cluster → Cluster) : (s.onCluster c f).queues = s.queues := State.setCluster_queues ..
@[simp] theorem State.onCluster_counters (s : State) (c : Nat) (f : Cluster → Cluster) : (s.onCluster c f).counters = s.counters := State.setCluster_counters ..
@[simp] theorem State.onCluster_ingress (s : State) (c : Nat) (f : Cluster → Cluster) : (s.onCluster c f).ingress = s.ingress := State.setCluster_ingress ..
@[simp] theorem State.onCluster_bankLast (s : State) (c : Nat) (f : Cluster → Cluster) : (s.onCluster c f).bankLast = s.bankLast := State.setCluster_bankLast ..
@[simp] theorem State.onCluster_bankAt (s : State) (c : Nat) (f : Cluster → Cluster) : (s.onCluster c f).bankAt = s.bankAt := State.setCluster_bankAt ..
@[simp] theorem State.onCluster_tensors (s : State) (c : Nat) (f : Cluster → Cluster) : (s.onCluster c f).tensors = s.tensors := State.setCluster_tensors ..
@[simp] theorem State.onCluster_alloc (s : State) (c : Nat) (f : Cluster → Cluster) : (s.onCluster c f).alloc = s.alloc := State.setCluster_alloc ..
@[simp] theorem State.onCluster_step (s : State) (c : Nat) (f : Cluster → Cluster) : (s.onCluster c f).step = s.step := State.setCluster_step ..
@[simp] theorem State.onCluster_lastQueue (s : State) (c : Nat) (f : Cluster → Cluster) : (s.onCluster c f).lastQueue = s.lastQueue := State.setCluster_lastQueue ..
@[simp] theorem State.onCluster_channels (s : State) (c : Nat) (f : Cluster → Cluster) : (s.onCluster c f).channels = s.channels := State.setCluster_channels ..
@[simp] theorem State.onCluster_packages (s : State) (c : Nat) (f : Cluster → Cluster) : (s.onCluster c f).packages = s.packages := State.setCluster_packages ..
@[simp] theorem State.onCluster_stageWait (s : State) (c : Nat) (f : Cluster → Cluster) : (s.onCluster c f).stageWait = s.stageWait := State.setCluster_stageWait ..
@[simp] theorem State.onCluster_ports (s : State) (c : Nat) (f : Cluster → Cluster) : (s.onCluster c f).ports = s.ports := State.setCluster_ports ..
@[simp] theorem State.onCluster_streamsOut (s : State) (c : Nat) (f : Cluster → Cluster) : (s.onCluster c f).streamsOut = s.streamsOut := State.setCluster_streamsOut ..
@[simp] theorem State.onCluster_streamsIn (s : State) (c : Nat) (f : Cluster → Cluster) : (s.onCluster c f).streamsIn = s.streamsIn := State.setCluster_streamsIn ..
@[simp] theorem State.onCluster_reqs (s : State) (c : Nat) (f : Cluster → Cluster) : (s.onCluster c f).reqs = s.reqs := State.setCluster_reqs ..
@[simp] theorem State.onCluster_nextTag (s : State) (c : Nat) (f : Cluster → Cluster) : (s.onCluster c f).nextTag = s.nextTag := State.setCluster_nextTag ..
@[simp] theorem State.onCluster_directory (s : State) (c : Nat) (f : Cluster → Cluster) : (s.onCluster c f).directory = s.directory := State.setCluster_directory ..
@[simp] theorem State.onCluster_snoops (s : State) (c : Nat) (f : Cluster → Cluster) : (s.onCluster c f).snoops = s.snoops := State.setCluster_snoops ..
@[simp] theorem State.onCluster_lineWait (s : State) (c : Nat) (f : Cluster → Cluster) : (s.onCluster c f).lineWait = s.lineWait := State.setCluster_lineWait ..
@[simp] theorem State.onCluster_arrivals (s : State) (c : Nat) (f : Cluster → Cluster) : (s.onCluster c f).arrivals = s.arrivals := State.setCluster_arrivals ..
@[simp] theorem State.onCluster_collectives (s : State) (c : Nat) (f : Cluster → Cluster) : (s.onCluster c f).collectives = s.collectives := State.setCluster_collectives ..
@[simp] theorem State.onCluster_nextCollective (s : State) (c : Nat) (f : Cluster → Cluster) : (s.onCluster c f).nextCollective = s.nextCollective := State.setCluster_nextCollective ..
@[simp] theorem State.onCluster_parked (s : State) (c : Nat) (f : Cluster → Cluster) : (s.onCluster c f).parked = s.parked := State.setCluster_parked ..
@[simp] theorem State.onCluster_colSent (s : State) (c : Nat) (f : Cluster → Cluster) : (s.onCluster c f).colSent = s.colSent := State.setCluster_colSent ..
@[simp] theorem State.onCluster_traek (s : State) (c : Nat) (f : Cluster → Cluster) : (s.onCluster c f).traek = s.traek := State.setCluster_traek ..
@[simp] theorem State.onCluster_twin (s : State) (c : Nat) (f : Cluster → Cluster) : (s.onCluster c f).twin = s.twin := State.setCluster_twin ..
@[simp] theorem State.onCluster_regions (s : State) (c : Nat) (f : Cluster → Cluster) : (s.onCluster c f).regions = s.regions := State.setCluster_regions ..
@[simp] theorem State.onCluster_power (s : State) (c : Nat) (f : Cluster → Cluster) : (s.onCluster c f).power = s.power := State.setCluster_power ..
@[simp] theorem State.onCluster_spots (s : State) (c : Nat) (f : Cluster → Cluster) : (s.onCluster c f).spots = s.spots := State.setCluster_spots ..
@[simp] theorem State.onCluster_cooling (s : State) (c : Nat) (f : Cluster → Cluster) : (s.onCluster c f).cooling = s.cooling := State.setCluster_cooling ..
@[simp] theorem State.onCluster_mgmt (s : State) (c : Nat) (f : Cluster → Cluster) : (s.onCluster c f).mgmt = s.mgmt := State.setCluster_mgmt ..
@[simp] theorem State.onCluster_test (s : State) (c : Nat) (f : Cluster → Cluster) : (s.onCluster c f).test = s.test := State.setCluster_test ..
@[simp] theorem State.onCluster_boot (s : State) (c : Nat) (f : Cluster → Cluster) : (s.onCluster c f).boot = s.boot := State.setCluster_boot ..

@[simp] theorem State.setChannel_pending (s : State) (c : Nat) (r : Channel) : (s.setChannel c r).pending = s.pending := rfl
@[simp] theorem State.setChannel_now (s : State) (c : Nat) (r : Channel) : (s.setChannel c r).now = s.now := rfl
@[simp] theorem State.setChannel_fresh (s : State) (c : Nat) (r : Channel) : (s.setChannel c r).fresh = s.fresh := rfl
@[simp] theorem State.setChannel_egress (s : State) (c : Nat) (r : Channel) : (s.setChannel c r).egress = s.egress := rfl
@[simp] theorem State.setChannel_mem (s : State) (c : Nat) (r : Channel) : (s.setChannel c r).mem = s.mem := rfl
@[simp] theorem State.setChannel_marks (s : State) (c : Nat) (r : Channel) : (s.setChannel c r).marks = s.marks := rfl
@[simp] theorem State.setChannel_dict (s : State) (c : Nat) (r : Channel) : (s.setChannel c r).dict = s.dict := rfl
@[simp] theorem State.setChannel_tags (s : State) (c : Nat) (r : Channel) : (s.setChannel c r).tags = s.tags := rfl
@[simp] theorem State.setChannel_log (s : State) (c : Nat) (r : Channel) : (s.setChannel c r).log = s.log := rfl
@[simp] theorem State.setChannel_logSeq (s : State) (c : Nat) (r : Channel) : (s.setChannel c r).logSeq = s.logSeq := rfl
@[simp] theorem State.setChannel_windows (s : State) (c : Nat) (r : Channel) : (s.setChannel c r).windows = s.windows := rfl
@[simp] theorem State.setChannel_queues (s : State) (c : Nat) (r : Channel) : (s.setChannel c r).queues = s.queues := rfl
@[simp] theorem State.setChannel_counters (s : State) (c : Nat) (r : Channel) : (s.setChannel c r).counters = s.counters := rfl
@[simp] theorem State.setChannel_ingress (s : State) (c : Nat) (r : Channel) : (s.setChannel c r).ingress = s.ingress := rfl
@[simp] theorem State.setChannel_bankLast (s : State) (c : Nat) (r : Channel) : (s.setChannel c r).bankLast = s.bankLast := rfl
@[simp] theorem State.setChannel_bankAt (s : State) (c : Nat) (r : Channel) : (s.setChannel c r).bankAt = s.bankAt := rfl
@[simp] theorem State.setChannel_tensors (s : State) (c : Nat) (r : Channel) : (s.setChannel c r).tensors = s.tensors := rfl
@[simp] theorem State.setChannel_alloc (s : State) (c : Nat) (r : Channel) : (s.setChannel c r).alloc = s.alloc := rfl
@[simp] theorem State.setChannel_step (s : State) (c : Nat) (r : Channel) : (s.setChannel c r).step = s.step := rfl
@[simp] theorem State.setChannel_clusters (s : State) (c : Nat) (r : Channel) : (s.setChannel c r).clusters = s.clusters := rfl
@[simp] theorem State.setChannel_lastQueue (s : State) (c : Nat) (r : Channel) : (s.setChannel c r).lastQueue = s.lastQueue := rfl
@[simp] theorem State.setChannel_packages (s : State) (c : Nat) (r : Channel) : (s.setChannel c r).packages = s.packages := rfl
@[simp] theorem State.setChannel_stageWait (s : State) (c : Nat) (r : Channel) : (s.setChannel c r).stageWait = s.stageWait := rfl
@[simp] theorem State.setChannel_ports (s : State) (c : Nat) (r : Channel) : (s.setChannel c r).ports = s.ports := rfl
@[simp] theorem State.setChannel_streamsOut (s : State) (c : Nat) (r : Channel) : (s.setChannel c r).streamsOut = s.streamsOut := rfl
@[simp] theorem State.setChannel_streamsIn (s : State) (c : Nat) (r : Channel) : (s.setChannel c r).streamsIn = s.streamsIn := rfl
@[simp] theorem State.setChannel_reqs (s : State) (c : Nat) (r : Channel) : (s.setChannel c r).reqs = s.reqs := rfl
@[simp] theorem State.setChannel_nextTag (s : State) (c : Nat) (r : Channel) : (s.setChannel c r).nextTag = s.nextTag := rfl
@[simp] theorem State.setChannel_directory (s : State) (c : Nat) (r : Channel) : (s.setChannel c r).directory = s.directory := rfl
@[simp] theorem State.setChannel_snoops (s : State) (c : Nat) (r : Channel) : (s.setChannel c r).snoops = s.snoops := rfl
@[simp] theorem State.setChannel_lineWait (s : State) (c : Nat) (r : Channel) : (s.setChannel c r).lineWait = s.lineWait := rfl
@[simp] theorem State.setChannel_arrivals (s : State) (c : Nat) (r : Channel) : (s.setChannel c r).arrivals = s.arrivals := rfl
@[simp] theorem State.setChannel_collectives (s : State) (c : Nat) (r : Channel) : (s.setChannel c r).collectives = s.collectives := rfl
@[simp] theorem State.setChannel_nextCollective (s : State) (c : Nat) (r : Channel) : (s.setChannel c r).nextCollective = s.nextCollective := rfl
@[simp] theorem State.setChannel_parked (s : State) (c : Nat) (r : Channel) : (s.setChannel c r).parked = s.parked := rfl
@[simp] theorem State.setChannel_colSent (s : State) (c : Nat) (r : Channel) : (s.setChannel c r).colSent = s.colSent := rfl
@[simp] theorem State.setChannel_traek (s : State) (c : Nat) (r : Channel) : (s.setChannel c r).traek = s.traek := rfl
@[simp] theorem State.setChannel_twin (s : State) (c : Nat) (r : Channel) : (s.setChannel c r).twin = s.twin := rfl
@[simp] theorem State.setChannel_regions (s : State) (c : Nat) (r : Channel) : (s.setChannel c r).regions = s.regions := rfl
@[simp] theorem State.setChannel_power (s : State) (c : Nat) (r : Channel) : (s.setChannel c r).power = s.power := rfl
@[simp] theorem State.setChannel_spots (s : State) (c : Nat) (r : Channel) : (s.setChannel c r).spots = s.spots := rfl
@[simp] theorem State.setChannel_cooling (s : State) (c : Nat) (r : Channel) : (s.setChannel c r).cooling = s.cooling := rfl
@[simp] theorem State.setChannel_mgmt (s : State) (c : Nat) (r : Channel) : (s.setChannel c r).mgmt = s.mgmt := rfl
@[simp] theorem State.setChannel_test (s : State) (c : Nat) (r : Channel) : (s.setChannel c r).test = s.test := rfl
@[simp] theorem State.setChannel_boot (s : State) (c : Nat) (r : Channel) : (s.setChannel c r).boot = s.boot := rfl

@[simp] theorem State.onChannel_pending (s : State) (c : Nat) (f : Channel → Channel) : (s.onChannel c f).pending = s.pending := State.setChannel_pending ..
@[simp] theorem State.onChannel_now (s : State) (c : Nat) (f : Channel → Channel) : (s.onChannel c f).now = s.now := State.setChannel_now ..
@[simp] theorem State.onChannel_fresh (s : State) (c : Nat) (f : Channel → Channel) : (s.onChannel c f).fresh = s.fresh := State.setChannel_fresh ..
@[simp] theorem State.onChannel_egress (s : State) (c : Nat) (f : Channel → Channel) : (s.onChannel c f).egress = s.egress := State.setChannel_egress ..
@[simp] theorem State.onChannel_mem (s : State) (c : Nat) (f : Channel → Channel) : (s.onChannel c f).mem = s.mem := State.setChannel_mem ..
@[simp] theorem State.onChannel_marks (s : State) (c : Nat) (f : Channel → Channel) : (s.onChannel c f).marks = s.marks := State.setChannel_marks ..
@[simp] theorem State.onChannel_dict (s : State) (c : Nat) (f : Channel → Channel) : (s.onChannel c f).dict = s.dict := State.setChannel_dict ..
@[simp] theorem State.onChannel_tags (s : State) (c : Nat) (f : Channel → Channel) : (s.onChannel c f).tags = s.tags := State.setChannel_tags ..
@[simp] theorem State.onChannel_log (s : State) (c : Nat) (f : Channel → Channel) : (s.onChannel c f).log = s.log := State.setChannel_log ..
@[simp] theorem State.onChannel_logSeq (s : State) (c : Nat) (f : Channel → Channel) : (s.onChannel c f).logSeq = s.logSeq := State.setChannel_logSeq ..
@[simp] theorem State.onChannel_windows (s : State) (c : Nat) (f : Channel → Channel) : (s.onChannel c f).windows = s.windows := State.setChannel_windows ..
@[simp] theorem State.onChannel_queues (s : State) (c : Nat) (f : Channel → Channel) : (s.onChannel c f).queues = s.queues := State.setChannel_queues ..
@[simp] theorem State.onChannel_counters (s : State) (c : Nat) (f : Channel → Channel) : (s.onChannel c f).counters = s.counters := State.setChannel_counters ..
@[simp] theorem State.onChannel_ingress (s : State) (c : Nat) (f : Channel → Channel) : (s.onChannel c f).ingress = s.ingress := State.setChannel_ingress ..
@[simp] theorem State.onChannel_bankLast (s : State) (c : Nat) (f : Channel → Channel) : (s.onChannel c f).bankLast = s.bankLast := State.setChannel_bankLast ..
@[simp] theorem State.onChannel_bankAt (s : State) (c : Nat) (f : Channel → Channel) : (s.onChannel c f).bankAt = s.bankAt := State.setChannel_bankAt ..
@[simp] theorem State.onChannel_tensors (s : State) (c : Nat) (f : Channel → Channel) : (s.onChannel c f).tensors = s.tensors := State.setChannel_tensors ..
@[simp] theorem State.onChannel_alloc (s : State) (c : Nat) (f : Channel → Channel) : (s.onChannel c f).alloc = s.alloc := State.setChannel_alloc ..
@[simp] theorem State.onChannel_step (s : State) (c : Nat) (f : Channel → Channel) : (s.onChannel c f).step = s.step := State.setChannel_step ..
@[simp] theorem State.onChannel_clusters (s : State) (c : Nat) (f : Channel → Channel) : (s.onChannel c f).clusters = s.clusters := State.setChannel_clusters ..
@[simp] theorem State.onChannel_lastQueue (s : State) (c : Nat) (f : Channel → Channel) : (s.onChannel c f).lastQueue = s.lastQueue := State.setChannel_lastQueue ..
@[simp] theorem State.onChannel_packages (s : State) (c : Nat) (f : Channel → Channel) : (s.onChannel c f).packages = s.packages := State.setChannel_packages ..
@[simp] theorem State.onChannel_stageWait (s : State) (c : Nat) (f : Channel → Channel) : (s.onChannel c f).stageWait = s.stageWait := State.setChannel_stageWait ..
@[simp] theorem State.onChannel_ports (s : State) (c : Nat) (f : Channel → Channel) : (s.onChannel c f).ports = s.ports := State.setChannel_ports ..
@[simp] theorem State.onChannel_streamsOut (s : State) (c : Nat) (f : Channel → Channel) : (s.onChannel c f).streamsOut = s.streamsOut := State.setChannel_streamsOut ..
@[simp] theorem State.onChannel_streamsIn (s : State) (c : Nat) (f : Channel → Channel) : (s.onChannel c f).streamsIn = s.streamsIn := State.setChannel_streamsIn ..
@[simp] theorem State.onChannel_reqs (s : State) (c : Nat) (f : Channel → Channel) : (s.onChannel c f).reqs = s.reqs := State.setChannel_reqs ..
@[simp] theorem State.onChannel_nextTag (s : State) (c : Nat) (f : Channel → Channel) : (s.onChannel c f).nextTag = s.nextTag := State.setChannel_nextTag ..
@[simp] theorem State.onChannel_directory (s : State) (c : Nat) (f : Channel → Channel) : (s.onChannel c f).directory = s.directory := State.setChannel_directory ..
@[simp] theorem State.onChannel_snoops (s : State) (c : Nat) (f : Channel → Channel) : (s.onChannel c f).snoops = s.snoops := State.setChannel_snoops ..
@[simp] theorem State.onChannel_lineWait (s : State) (c : Nat) (f : Channel → Channel) : (s.onChannel c f).lineWait = s.lineWait := State.setChannel_lineWait ..
@[simp] theorem State.onChannel_arrivals (s : State) (c : Nat) (f : Channel → Channel) : (s.onChannel c f).arrivals = s.arrivals := State.setChannel_arrivals ..
@[simp] theorem State.onChannel_collectives (s : State) (c : Nat) (f : Channel → Channel) : (s.onChannel c f).collectives = s.collectives := State.setChannel_collectives ..
@[simp] theorem State.onChannel_nextCollective (s : State) (c : Nat) (f : Channel → Channel) : (s.onChannel c f).nextCollective = s.nextCollective := State.setChannel_nextCollective ..
@[simp] theorem State.onChannel_parked (s : State) (c : Nat) (f : Channel → Channel) : (s.onChannel c f).parked = s.parked := State.setChannel_parked ..
@[simp] theorem State.onChannel_colSent (s : State) (c : Nat) (f : Channel → Channel) : (s.onChannel c f).colSent = s.colSent := State.setChannel_colSent ..
@[simp] theorem State.onChannel_traek (s : State) (c : Nat) (f : Channel → Channel) : (s.onChannel c f).traek = s.traek := State.setChannel_traek ..
@[simp] theorem State.onChannel_twin (s : State) (c : Nat) (f : Channel → Channel) : (s.onChannel c f).twin = s.twin := State.setChannel_twin ..
@[simp] theorem State.onChannel_regions (s : State) (c : Nat) (f : Channel → Channel) : (s.onChannel c f).regions = s.regions := State.setChannel_regions ..
@[simp] theorem State.onChannel_power (s : State) (c : Nat) (f : Channel → Channel) : (s.onChannel c f).power = s.power := State.setChannel_power ..
@[simp] theorem State.onChannel_spots (s : State) (c : Nat) (f : Channel → Channel) : (s.onChannel c f).spots = s.spots := State.setChannel_spots ..
@[simp] theorem State.onChannel_cooling (s : State) (c : Nat) (f : Channel → Channel) : (s.onChannel c f).cooling = s.cooling := State.setChannel_cooling ..
@[simp] theorem State.onChannel_mgmt (s : State) (c : Nat) (f : Channel → Channel) : (s.onChannel c f).mgmt = s.mgmt := State.setChannel_mgmt ..
@[simp] theorem State.onChannel_test (s : State) (c : Nat) (f : Channel → Channel) : (s.onChannel c f).test = s.test := State.setChannel_test ..
@[simp] theorem State.onChannel_boot (s : State) (c : Nat) (f : Channel → Channel) : (s.onChannel c f).boot = s.boot := State.setChannel_boot ..

@[simp] theorem State.setPackage_pending (s : State) (p : Nat) (r : Package) : (s.setPackage p r).pending = s.pending := rfl
@[simp] theorem State.setPackage_now (s : State) (p : Nat) (r : Package) : (s.setPackage p r).now = s.now := rfl
@[simp] theorem State.setPackage_fresh (s : State) (p : Nat) (r : Package) : (s.setPackage p r).fresh = s.fresh := rfl
@[simp] theorem State.setPackage_egress (s : State) (p : Nat) (r : Package) : (s.setPackage p r).egress = s.egress := rfl
@[simp] theorem State.setPackage_mem (s : State) (p : Nat) (r : Package) : (s.setPackage p r).mem = s.mem := rfl
@[simp] theorem State.setPackage_marks (s : State) (p : Nat) (r : Package) : (s.setPackage p r).marks = s.marks := rfl
@[simp] theorem State.setPackage_dict (s : State) (p : Nat) (r : Package) : (s.setPackage p r).dict = s.dict := rfl
@[simp] theorem State.setPackage_tags (s : State) (p : Nat) (r : Package) : (s.setPackage p r).tags = s.tags := rfl
@[simp] theorem State.setPackage_log (s : State) (p : Nat) (r : Package) : (s.setPackage p r).log = s.log := rfl
@[simp] theorem State.setPackage_logSeq (s : State) (p : Nat) (r : Package) : (s.setPackage p r).logSeq = s.logSeq := rfl
@[simp] theorem State.setPackage_windows (s : State) (p : Nat) (r : Package) : (s.setPackage p r).windows = s.windows := rfl
@[simp] theorem State.setPackage_queues (s : State) (p : Nat) (r : Package) : (s.setPackage p r).queues = s.queues := rfl
@[simp] theorem State.setPackage_counters (s : State) (p : Nat) (r : Package) : (s.setPackage p r).counters = s.counters := rfl
@[simp] theorem State.setPackage_ingress (s : State) (p : Nat) (r : Package) : (s.setPackage p r).ingress = s.ingress := rfl
@[simp] theorem State.setPackage_bankLast (s : State) (p : Nat) (r : Package) : (s.setPackage p r).bankLast = s.bankLast := rfl
@[simp] theorem State.setPackage_bankAt (s : State) (p : Nat) (r : Package) : (s.setPackage p r).bankAt = s.bankAt := rfl
@[simp] theorem State.setPackage_tensors (s : State) (p : Nat) (r : Package) : (s.setPackage p r).tensors = s.tensors := rfl
@[simp] theorem State.setPackage_alloc (s : State) (p : Nat) (r : Package) : (s.setPackage p r).alloc = s.alloc := rfl
@[simp] theorem State.setPackage_step (s : State) (p : Nat) (r : Package) : (s.setPackage p r).step = s.step := rfl
@[simp] theorem State.setPackage_clusters (s : State) (p : Nat) (r : Package) : (s.setPackage p r).clusters = s.clusters := rfl
@[simp] theorem State.setPackage_lastQueue (s : State) (p : Nat) (r : Package) : (s.setPackage p r).lastQueue = s.lastQueue := rfl
@[simp] theorem State.setPackage_channels (s : State) (p : Nat) (r : Package) : (s.setPackage p r).channels = s.channels := rfl
@[simp] theorem State.setPackage_stageWait (s : State) (p : Nat) (r : Package) : (s.setPackage p r).stageWait = s.stageWait := rfl
@[simp] theorem State.setPackage_ports (s : State) (p : Nat) (r : Package) : (s.setPackage p r).ports = s.ports := rfl
@[simp] theorem State.setPackage_streamsOut (s : State) (p : Nat) (r : Package) : (s.setPackage p r).streamsOut = s.streamsOut := rfl
@[simp] theorem State.setPackage_streamsIn (s : State) (p : Nat) (r : Package) : (s.setPackage p r).streamsIn = s.streamsIn := rfl
@[simp] theorem State.setPackage_reqs (s : State) (p : Nat) (r : Package) : (s.setPackage p r).reqs = s.reqs := rfl
@[simp] theorem State.setPackage_nextTag (s : State) (p : Nat) (r : Package) : (s.setPackage p r).nextTag = s.nextTag := rfl
@[simp] theorem State.setPackage_directory (s : State) (p : Nat) (r : Package) : (s.setPackage p r).directory = s.directory := rfl
@[simp] theorem State.setPackage_snoops (s : State) (p : Nat) (r : Package) : (s.setPackage p r).snoops = s.snoops := rfl
@[simp] theorem State.setPackage_lineWait (s : State) (p : Nat) (r : Package) : (s.setPackage p r).lineWait = s.lineWait := rfl
@[simp] theorem State.setPackage_arrivals (s : State) (p : Nat) (r : Package) : (s.setPackage p r).arrivals = s.arrivals := rfl
@[simp] theorem State.setPackage_collectives (s : State) (p : Nat) (r : Package) : (s.setPackage p r).collectives = s.collectives := rfl
@[simp] theorem State.setPackage_nextCollective (s : State) (p : Nat) (r : Package) : (s.setPackage p r).nextCollective = s.nextCollective := rfl
@[simp] theorem State.setPackage_parked (s : State) (p : Nat) (r : Package) : (s.setPackage p r).parked = s.parked := rfl
@[simp] theorem State.setPackage_colSent (s : State) (p : Nat) (r : Package) : (s.setPackage p r).colSent = s.colSent := rfl
@[simp] theorem State.setPackage_traek (s : State) (p : Nat) (r : Package) : (s.setPackage p r).traek = s.traek := rfl
@[simp] theorem State.setPackage_twin (s : State) (p : Nat) (r : Package) : (s.setPackage p r).twin = s.twin := rfl
@[simp] theorem State.setPackage_regions (s : State) (p : Nat) (r : Package) : (s.setPackage p r).regions = s.regions := rfl
@[simp] theorem State.setPackage_power (s : State) (p : Nat) (r : Package) : (s.setPackage p r).power = s.power := rfl
@[simp] theorem State.setPackage_spots (s : State) (p : Nat) (r : Package) : (s.setPackage p r).spots = s.spots := rfl
@[simp] theorem State.setPackage_cooling (s : State) (p : Nat) (r : Package) : (s.setPackage p r).cooling = s.cooling := rfl
@[simp] theorem State.setPackage_mgmt (s : State) (p : Nat) (r : Package) : (s.setPackage p r).mgmt = s.mgmt := rfl
@[simp] theorem State.setPackage_test (s : State) (p : Nat) (r : Package) : (s.setPackage p r).test = s.test := rfl
@[simp] theorem State.setPackage_boot (s : State) (p : Nat) (r : Package) : (s.setPackage p r).boot = s.boot := rfl

@[simp] theorem State.onPackage_pending (s : State) (p : Nat) (f : Package → Package) : (s.onPackage p f).pending = s.pending := State.setPackage_pending ..
@[simp] theorem State.onPackage_now (s : State) (p : Nat) (f : Package → Package) : (s.onPackage p f).now = s.now := State.setPackage_now ..
@[simp] theorem State.onPackage_fresh (s : State) (p : Nat) (f : Package → Package) : (s.onPackage p f).fresh = s.fresh := State.setPackage_fresh ..
@[simp] theorem State.onPackage_egress (s : State) (p : Nat) (f : Package → Package) : (s.onPackage p f).egress = s.egress := State.setPackage_egress ..
@[simp] theorem State.onPackage_mem (s : State) (p : Nat) (f : Package → Package) : (s.onPackage p f).mem = s.mem := State.setPackage_mem ..
@[simp] theorem State.onPackage_marks (s : State) (p : Nat) (f : Package → Package) : (s.onPackage p f).marks = s.marks := State.setPackage_marks ..
@[simp] theorem State.onPackage_dict (s : State) (p : Nat) (f : Package → Package) : (s.onPackage p f).dict = s.dict := State.setPackage_dict ..
@[simp] theorem State.onPackage_tags (s : State) (p : Nat) (f : Package → Package) : (s.onPackage p f).tags = s.tags := State.setPackage_tags ..
@[simp] theorem State.onPackage_log (s : State) (p : Nat) (f : Package → Package) : (s.onPackage p f).log = s.log := State.setPackage_log ..
@[simp] theorem State.onPackage_logSeq (s : State) (p : Nat) (f : Package → Package) : (s.onPackage p f).logSeq = s.logSeq := State.setPackage_logSeq ..
@[simp] theorem State.onPackage_windows (s : State) (p : Nat) (f : Package → Package) : (s.onPackage p f).windows = s.windows := State.setPackage_windows ..
@[simp] theorem State.onPackage_queues (s : State) (p : Nat) (f : Package → Package) : (s.onPackage p f).queues = s.queues := State.setPackage_queues ..
@[simp] theorem State.onPackage_counters (s : State) (p : Nat) (f : Package → Package) : (s.onPackage p f).counters = s.counters := State.setPackage_counters ..
@[simp] theorem State.onPackage_ingress (s : State) (p : Nat) (f : Package → Package) : (s.onPackage p f).ingress = s.ingress := State.setPackage_ingress ..
@[simp] theorem State.onPackage_bankLast (s : State) (p : Nat) (f : Package → Package) : (s.onPackage p f).bankLast = s.bankLast := State.setPackage_bankLast ..
@[simp] theorem State.onPackage_bankAt (s : State) (p : Nat) (f : Package → Package) : (s.onPackage p f).bankAt = s.bankAt := State.setPackage_bankAt ..
@[simp] theorem State.onPackage_tensors (s : State) (p : Nat) (f : Package → Package) : (s.onPackage p f).tensors = s.tensors := State.setPackage_tensors ..
@[simp] theorem State.onPackage_alloc (s : State) (p : Nat) (f : Package → Package) : (s.onPackage p f).alloc = s.alloc := State.setPackage_alloc ..
@[simp] theorem State.onPackage_step (s : State) (p : Nat) (f : Package → Package) : (s.onPackage p f).step = s.step := State.setPackage_step ..
@[simp] theorem State.onPackage_clusters (s : State) (p : Nat) (f : Package → Package) : (s.onPackage p f).clusters = s.clusters := State.setPackage_clusters ..
@[simp] theorem State.onPackage_lastQueue (s : State) (p : Nat) (f : Package → Package) : (s.onPackage p f).lastQueue = s.lastQueue := State.setPackage_lastQueue ..
@[simp] theorem State.onPackage_channels (s : State) (p : Nat) (f : Package → Package) : (s.onPackage p f).channels = s.channels := State.setPackage_channels ..
@[simp] theorem State.onPackage_stageWait (s : State) (p : Nat) (f : Package → Package) : (s.onPackage p f).stageWait = s.stageWait := State.setPackage_stageWait ..
@[simp] theorem State.onPackage_ports (s : State) (p : Nat) (f : Package → Package) : (s.onPackage p f).ports = s.ports := State.setPackage_ports ..
@[simp] theorem State.onPackage_streamsOut (s : State) (p : Nat) (f : Package → Package) : (s.onPackage p f).streamsOut = s.streamsOut := State.setPackage_streamsOut ..
@[simp] theorem State.onPackage_streamsIn (s : State) (p : Nat) (f : Package → Package) : (s.onPackage p f).streamsIn = s.streamsIn := State.setPackage_streamsIn ..
@[simp] theorem State.onPackage_reqs (s : State) (p : Nat) (f : Package → Package) : (s.onPackage p f).reqs = s.reqs := State.setPackage_reqs ..
@[simp] theorem State.onPackage_nextTag (s : State) (p : Nat) (f : Package → Package) : (s.onPackage p f).nextTag = s.nextTag := State.setPackage_nextTag ..
@[simp] theorem State.onPackage_directory (s : State) (p : Nat) (f : Package → Package) : (s.onPackage p f).directory = s.directory := State.setPackage_directory ..
@[simp] theorem State.onPackage_snoops (s : State) (p : Nat) (f : Package → Package) : (s.onPackage p f).snoops = s.snoops := State.setPackage_snoops ..
@[simp] theorem State.onPackage_lineWait (s : State) (p : Nat) (f : Package → Package) : (s.onPackage p f).lineWait = s.lineWait := State.setPackage_lineWait ..
@[simp] theorem State.onPackage_arrivals (s : State) (p : Nat) (f : Package → Package) : (s.onPackage p f).arrivals = s.arrivals := State.setPackage_arrivals ..
@[simp] theorem State.onPackage_collectives (s : State) (p : Nat) (f : Package → Package) : (s.onPackage p f).collectives = s.collectives := State.setPackage_collectives ..
@[simp] theorem State.onPackage_nextCollective (s : State) (p : Nat) (f : Package → Package) : (s.onPackage p f).nextCollective = s.nextCollective := State.setPackage_nextCollective ..
@[simp] theorem State.onPackage_parked (s : State) (p : Nat) (f : Package → Package) : (s.onPackage p f).parked = s.parked := State.setPackage_parked ..
@[simp] theorem State.onPackage_colSent (s : State) (p : Nat) (f : Package → Package) : (s.onPackage p f).colSent = s.colSent := State.setPackage_colSent ..
@[simp] theorem State.onPackage_traek (s : State) (p : Nat) (f : Package → Package) : (s.onPackage p f).traek = s.traek := State.setPackage_traek ..
@[simp] theorem State.onPackage_twin (s : State) (p : Nat) (f : Package → Package) : (s.onPackage p f).twin = s.twin := State.setPackage_twin ..
@[simp] theorem State.onPackage_regions (s : State) (p : Nat) (f : Package → Package) : (s.onPackage p f).regions = s.regions := State.setPackage_regions ..
@[simp] theorem State.onPackage_power (s : State) (p : Nat) (f : Package → Package) : (s.onPackage p f).power = s.power := State.setPackage_power ..
@[simp] theorem State.onPackage_spots (s : State) (p : Nat) (f : Package → Package) : (s.onPackage p f).spots = s.spots := State.setPackage_spots ..
@[simp] theorem State.onPackage_cooling (s : State) (p : Nat) (f : Package → Package) : (s.onPackage p f).cooling = s.cooling := State.setPackage_cooling ..
@[simp] theorem State.onPackage_mgmt (s : State) (p : Nat) (f : Package → Package) : (s.onPackage p f).mgmt = s.mgmt := State.setPackage_mgmt ..
@[simp] theorem State.onPackage_test (s : State) (p : Nat) (f : Package → Package) : (s.onPackage p f).test = s.test := State.setPackage_test ..
@[simp] theorem State.onPackage_boot (s : State) (p : Nat) (f : Package → Package) : (s.onPackage p f).boot = s.boot := State.setPackage_boot ..

@[simp] theorem State.setPort_pending (s : State) (p : Nat) (r : Port) : (s.setPort p r).pending = s.pending := rfl
@[simp] theorem State.setPort_now (s : State) (p : Nat) (r : Port) : (s.setPort p r).now = s.now := rfl
@[simp] theorem State.setPort_fresh (s : State) (p : Nat) (r : Port) : (s.setPort p r).fresh = s.fresh := rfl
@[simp] theorem State.setPort_egress (s : State) (p : Nat) (r : Port) : (s.setPort p r).egress = s.egress := rfl
@[simp] theorem State.setPort_mem (s : State) (p : Nat) (r : Port) : (s.setPort p r).mem = s.mem := rfl
@[simp] theorem State.setPort_marks (s : State) (p : Nat) (r : Port) : (s.setPort p r).marks = s.marks := rfl
@[simp] theorem State.setPort_dict (s : State) (p : Nat) (r : Port) : (s.setPort p r).dict = s.dict := rfl
@[simp] theorem State.setPort_tags (s : State) (p : Nat) (r : Port) : (s.setPort p r).tags = s.tags := rfl
@[simp] theorem State.setPort_log (s : State) (p : Nat) (r : Port) : (s.setPort p r).log = s.log := rfl
@[simp] theorem State.setPort_logSeq (s : State) (p : Nat) (r : Port) : (s.setPort p r).logSeq = s.logSeq := rfl
@[simp] theorem State.setPort_windows (s : State) (p : Nat) (r : Port) : (s.setPort p r).windows = s.windows := rfl
@[simp] theorem State.setPort_queues (s : State) (p : Nat) (r : Port) : (s.setPort p r).queues = s.queues := rfl
@[simp] theorem State.setPort_counters (s : State) (p : Nat) (r : Port) : (s.setPort p r).counters = s.counters := rfl
@[simp] theorem State.setPort_ingress (s : State) (p : Nat) (r : Port) : (s.setPort p r).ingress = s.ingress := rfl
@[simp] theorem State.setPort_bankLast (s : State) (p : Nat) (r : Port) : (s.setPort p r).bankLast = s.bankLast := rfl
@[simp] theorem State.setPort_bankAt (s : State) (p : Nat) (r : Port) : (s.setPort p r).bankAt = s.bankAt := rfl
@[simp] theorem State.setPort_tensors (s : State) (p : Nat) (r : Port) : (s.setPort p r).tensors = s.tensors := rfl
@[simp] theorem State.setPort_alloc (s : State) (p : Nat) (r : Port) : (s.setPort p r).alloc = s.alloc := rfl
@[simp] theorem State.setPort_step (s : State) (p : Nat) (r : Port) : (s.setPort p r).step = s.step := rfl
@[simp] theorem State.setPort_clusters (s : State) (p : Nat) (r : Port) : (s.setPort p r).clusters = s.clusters := rfl
@[simp] theorem State.setPort_lastQueue (s : State) (p : Nat) (r : Port) : (s.setPort p r).lastQueue = s.lastQueue := rfl
@[simp] theorem State.setPort_channels (s : State) (p : Nat) (r : Port) : (s.setPort p r).channels = s.channels := rfl
@[simp] theorem State.setPort_packages (s : State) (p : Nat) (r : Port) : (s.setPort p r).packages = s.packages := rfl
@[simp] theorem State.setPort_stageWait (s : State) (p : Nat) (r : Port) : (s.setPort p r).stageWait = s.stageWait := rfl
@[simp] theorem State.setPort_streamsOut (s : State) (p : Nat) (r : Port) : (s.setPort p r).streamsOut = s.streamsOut := rfl
@[simp] theorem State.setPort_streamsIn (s : State) (p : Nat) (r : Port) : (s.setPort p r).streamsIn = s.streamsIn := rfl
@[simp] theorem State.setPort_reqs (s : State) (p : Nat) (r : Port) : (s.setPort p r).reqs = s.reqs := rfl
@[simp] theorem State.setPort_nextTag (s : State) (p : Nat) (r : Port) : (s.setPort p r).nextTag = s.nextTag := rfl
@[simp] theorem State.setPort_directory (s : State) (p : Nat) (r : Port) : (s.setPort p r).directory = s.directory := rfl
@[simp] theorem State.setPort_snoops (s : State) (p : Nat) (r : Port) : (s.setPort p r).snoops = s.snoops := rfl
@[simp] theorem State.setPort_lineWait (s : State) (p : Nat) (r : Port) : (s.setPort p r).lineWait = s.lineWait := rfl
@[simp] theorem State.setPort_arrivals (s : State) (p : Nat) (r : Port) : (s.setPort p r).arrivals = s.arrivals := rfl
@[simp] theorem State.setPort_collectives (s : State) (p : Nat) (r : Port) : (s.setPort p r).collectives = s.collectives := rfl
@[simp] theorem State.setPort_nextCollective (s : State) (p : Nat) (r : Port) : (s.setPort p r).nextCollective = s.nextCollective := rfl
@[simp] theorem State.setPort_parked (s : State) (p : Nat) (r : Port) : (s.setPort p r).parked = s.parked := rfl
@[simp] theorem State.setPort_colSent (s : State) (p : Nat) (r : Port) : (s.setPort p r).colSent = s.colSent := rfl
@[simp] theorem State.setPort_traek (s : State) (p : Nat) (r : Port) : (s.setPort p r).traek = s.traek := rfl
@[simp] theorem State.setPort_twin (s : State) (p : Nat) (r : Port) : (s.setPort p r).twin = s.twin := rfl
@[simp] theorem State.setPort_regions (s : State) (p : Nat) (r : Port) : (s.setPort p r).regions = s.regions := rfl
@[simp] theorem State.setPort_power (s : State) (p : Nat) (r : Port) : (s.setPort p r).power = s.power := rfl
@[simp] theorem State.setPort_spots (s : State) (p : Nat) (r : Port) : (s.setPort p r).spots = s.spots := rfl
@[simp] theorem State.setPort_cooling (s : State) (p : Nat) (r : Port) : (s.setPort p r).cooling = s.cooling := rfl
@[simp] theorem State.setPort_mgmt (s : State) (p : Nat) (r : Port) : (s.setPort p r).mgmt = s.mgmt := rfl
@[simp] theorem State.setPort_test (s : State) (p : Nat) (r : Port) : (s.setPort p r).test = s.test := rfl
@[simp] theorem State.setPort_boot (s : State) (p : Nat) (r : Port) : (s.setPort p r).boot = s.boot := rfl

@[simp] theorem State.onPort_pending (s : State) (p : Nat) (f : Port → Port) : (s.onPort p f).pending = s.pending := State.setPort_pending ..
@[simp] theorem State.onPort_now (s : State) (p : Nat) (f : Port → Port) : (s.onPort p f).now = s.now := State.setPort_now ..
@[simp] theorem State.onPort_fresh (s : State) (p : Nat) (f : Port → Port) : (s.onPort p f).fresh = s.fresh := State.setPort_fresh ..
@[simp] theorem State.onPort_egress (s : State) (p : Nat) (f : Port → Port) : (s.onPort p f).egress = s.egress := State.setPort_egress ..
@[simp] theorem State.onPort_mem (s : State) (p : Nat) (f : Port → Port) : (s.onPort p f).mem = s.mem := State.setPort_mem ..
@[simp] theorem State.onPort_marks (s : State) (p : Nat) (f : Port → Port) : (s.onPort p f).marks = s.marks := State.setPort_marks ..
@[simp] theorem State.onPort_dict (s : State) (p : Nat) (f : Port → Port) : (s.onPort p f).dict = s.dict := State.setPort_dict ..
@[simp] theorem State.onPort_tags (s : State) (p : Nat) (f : Port → Port) : (s.onPort p f).tags = s.tags := State.setPort_tags ..
@[simp] theorem State.onPort_log (s : State) (p : Nat) (f : Port → Port) : (s.onPort p f).log = s.log := State.setPort_log ..
@[simp] theorem State.onPort_logSeq (s : State) (p : Nat) (f : Port → Port) : (s.onPort p f).logSeq = s.logSeq := State.setPort_logSeq ..
@[simp] theorem State.onPort_windows (s : State) (p : Nat) (f : Port → Port) : (s.onPort p f).windows = s.windows := State.setPort_windows ..
@[simp] theorem State.onPort_queues (s : State) (p : Nat) (f : Port → Port) : (s.onPort p f).queues = s.queues := State.setPort_queues ..
@[simp] theorem State.onPort_counters (s : State) (p : Nat) (f : Port → Port) : (s.onPort p f).counters = s.counters := State.setPort_counters ..
@[simp] theorem State.onPort_ingress (s : State) (p : Nat) (f : Port → Port) : (s.onPort p f).ingress = s.ingress := State.setPort_ingress ..
@[simp] theorem State.onPort_bankLast (s : State) (p : Nat) (f : Port → Port) : (s.onPort p f).bankLast = s.bankLast := State.setPort_bankLast ..
@[simp] theorem State.onPort_bankAt (s : State) (p : Nat) (f : Port → Port) : (s.onPort p f).bankAt = s.bankAt := State.setPort_bankAt ..
@[simp] theorem State.onPort_tensors (s : State) (p : Nat) (f : Port → Port) : (s.onPort p f).tensors = s.tensors := State.setPort_tensors ..
@[simp] theorem State.onPort_alloc (s : State) (p : Nat) (f : Port → Port) : (s.onPort p f).alloc = s.alloc := State.setPort_alloc ..
@[simp] theorem State.onPort_step (s : State) (p : Nat) (f : Port → Port) : (s.onPort p f).step = s.step := State.setPort_step ..
@[simp] theorem State.onPort_clusters (s : State) (p : Nat) (f : Port → Port) : (s.onPort p f).clusters = s.clusters := State.setPort_clusters ..
@[simp] theorem State.onPort_lastQueue (s : State) (p : Nat) (f : Port → Port) : (s.onPort p f).lastQueue = s.lastQueue := State.setPort_lastQueue ..
@[simp] theorem State.onPort_channels (s : State) (p : Nat) (f : Port → Port) : (s.onPort p f).channels = s.channels := State.setPort_channels ..
@[simp] theorem State.onPort_packages (s : State) (p : Nat) (f : Port → Port) : (s.onPort p f).packages = s.packages := State.setPort_packages ..
@[simp] theorem State.onPort_stageWait (s : State) (p : Nat) (f : Port → Port) : (s.onPort p f).stageWait = s.stageWait := State.setPort_stageWait ..
@[simp] theorem State.onPort_streamsOut (s : State) (p : Nat) (f : Port → Port) : (s.onPort p f).streamsOut = s.streamsOut := State.setPort_streamsOut ..
@[simp] theorem State.onPort_streamsIn (s : State) (p : Nat) (f : Port → Port) : (s.onPort p f).streamsIn = s.streamsIn := State.setPort_streamsIn ..
@[simp] theorem State.onPort_reqs (s : State) (p : Nat) (f : Port → Port) : (s.onPort p f).reqs = s.reqs := State.setPort_reqs ..
@[simp] theorem State.onPort_nextTag (s : State) (p : Nat) (f : Port → Port) : (s.onPort p f).nextTag = s.nextTag := State.setPort_nextTag ..
@[simp] theorem State.onPort_directory (s : State) (p : Nat) (f : Port → Port) : (s.onPort p f).directory = s.directory := State.setPort_directory ..
@[simp] theorem State.onPort_snoops (s : State) (p : Nat) (f : Port → Port) : (s.onPort p f).snoops = s.snoops := State.setPort_snoops ..
@[simp] theorem State.onPort_lineWait (s : State) (p : Nat) (f : Port → Port) : (s.onPort p f).lineWait = s.lineWait := State.setPort_lineWait ..
@[simp] theorem State.onPort_arrivals (s : State) (p : Nat) (f : Port → Port) : (s.onPort p f).arrivals = s.arrivals := State.setPort_arrivals ..
@[simp] theorem State.onPort_collectives (s : State) (p : Nat) (f : Port → Port) : (s.onPort p f).collectives = s.collectives := State.setPort_collectives ..
@[simp] theorem State.onPort_nextCollective (s : State) (p : Nat) (f : Port → Port) : (s.onPort p f).nextCollective = s.nextCollective := State.setPort_nextCollective ..
@[simp] theorem State.onPort_parked (s : State) (p : Nat) (f : Port → Port) : (s.onPort p f).parked = s.parked := State.setPort_parked ..
@[simp] theorem State.onPort_colSent (s : State) (p : Nat) (f : Port → Port) : (s.onPort p f).colSent = s.colSent := State.setPort_colSent ..
@[simp] theorem State.onPort_traek (s : State) (p : Nat) (f : Port → Port) : (s.onPort p f).traek = s.traek := State.setPort_traek ..
@[simp] theorem State.onPort_twin (s : State) (p : Nat) (f : Port → Port) : (s.onPort p f).twin = s.twin := State.setPort_twin ..
@[simp] theorem State.onPort_regions (s : State) (p : Nat) (f : Port → Port) : (s.onPort p f).regions = s.regions := State.setPort_regions ..
@[simp] theorem State.onPort_power (s : State) (p : Nat) (f : Port → Port) : (s.onPort p f).power = s.power := State.setPort_power ..
@[simp] theorem State.onPort_spots (s : State) (p : Nat) (f : Port → Port) : (s.onPort p f).spots = s.spots := State.setPort_spots ..
@[simp] theorem State.onPort_cooling (s : State) (p : Nat) (f : Port → Port) : (s.onPort p f).cooling = s.cooling := State.setPort_cooling ..
@[simp] theorem State.onPort_mgmt (s : State) (p : Nat) (f : Port → Port) : (s.onPort p f).mgmt = s.mgmt := State.setPort_mgmt ..
@[simp] theorem State.onPort_test (s : State) (p : Nat) (f : Port → Port) : (s.onPort p f).test = s.test := State.setPort_test ..
@[simp] theorem State.onPort_boot (s : State) (p : Nat) (f : Port → Port) : (s.onPort p f).boot = s.boot := State.setPort_boot ..

@[simp] theorem State.setRegion_pending (s : State) (r : Nat) (x : Region) : (s.setRegion r x).pending = s.pending := rfl
@[simp] theorem State.setRegion_now (s : State) (r : Nat) (x : Region) : (s.setRegion r x).now = s.now := rfl
@[simp] theorem State.setRegion_fresh (s : State) (r : Nat) (x : Region) : (s.setRegion r x).fresh = s.fresh := rfl
@[simp] theorem State.setRegion_egress (s : State) (r : Nat) (x : Region) : (s.setRegion r x).egress = s.egress := rfl
@[simp] theorem State.setRegion_mem (s : State) (r : Nat) (x : Region) : (s.setRegion r x).mem = s.mem := rfl
@[simp] theorem State.setRegion_marks (s : State) (r : Nat) (x : Region) : (s.setRegion r x).marks = s.marks := rfl
@[simp] theorem State.setRegion_dict (s : State) (r : Nat) (x : Region) : (s.setRegion r x).dict = s.dict := rfl
@[simp] theorem State.setRegion_tags (s : State) (r : Nat) (x : Region) : (s.setRegion r x).tags = s.tags := rfl
@[simp] theorem State.setRegion_log (s : State) (r : Nat) (x : Region) : (s.setRegion r x).log = s.log := rfl
@[simp] theorem State.setRegion_logSeq (s : State) (r : Nat) (x : Region) : (s.setRegion r x).logSeq = s.logSeq := rfl
@[simp] theorem State.setRegion_windows (s : State) (r : Nat) (x : Region) : (s.setRegion r x).windows = s.windows := rfl
@[simp] theorem State.setRegion_queues (s : State) (r : Nat) (x : Region) : (s.setRegion r x).queues = s.queues := rfl
@[simp] theorem State.setRegion_counters (s : State) (r : Nat) (x : Region) : (s.setRegion r x).counters = s.counters := rfl
@[simp] theorem State.setRegion_ingress (s : State) (r : Nat) (x : Region) : (s.setRegion r x).ingress = s.ingress := rfl
@[simp] theorem State.setRegion_bankLast (s : State) (r : Nat) (x : Region) : (s.setRegion r x).bankLast = s.bankLast := rfl
@[simp] theorem State.setRegion_bankAt (s : State) (r : Nat) (x : Region) : (s.setRegion r x).bankAt = s.bankAt := rfl
@[simp] theorem State.setRegion_tensors (s : State) (r : Nat) (x : Region) : (s.setRegion r x).tensors = s.tensors := rfl
@[simp] theorem State.setRegion_alloc (s : State) (r : Nat) (x : Region) : (s.setRegion r x).alloc = s.alloc := rfl
@[simp] theorem State.setRegion_step (s : State) (r : Nat) (x : Region) : (s.setRegion r x).step = s.step := rfl
@[simp] theorem State.setRegion_clusters (s : State) (r : Nat) (x : Region) : (s.setRegion r x).clusters = s.clusters := rfl
@[simp] theorem State.setRegion_lastQueue (s : State) (r : Nat) (x : Region) : (s.setRegion r x).lastQueue = s.lastQueue := rfl
@[simp] theorem State.setRegion_channels (s : State) (r : Nat) (x : Region) : (s.setRegion r x).channels = s.channels := rfl
@[simp] theorem State.setRegion_packages (s : State) (r : Nat) (x : Region) : (s.setRegion r x).packages = s.packages := rfl
@[simp] theorem State.setRegion_stageWait (s : State) (r : Nat) (x : Region) : (s.setRegion r x).stageWait = s.stageWait := rfl
@[simp] theorem State.setRegion_ports (s : State) (r : Nat) (x : Region) : (s.setRegion r x).ports = s.ports := rfl
@[simp] theorem State.setRegion_streamsOut (s : State) (r : Nat) (x : Region) : (s.setRegion r x).streamsOut = s.streamsOut := rfl
@[simp] theorem State.setRegion_streamsIn (s : State) (r : Nat) (x : Region) : (s.setRegion r x).streamsIn = s.streamsIn := rfl
@[simp] theorem State.setRegion_reqs (s : State) (r : Nat) (x : Region) : (s.setRegion r x).reqs = s.reqs := rfl
@[simp] theorem State.setRegion_nextTag (s : State) (r : Nat) (x : Region) : (s.setRegion r x).nextTag = s.nextTag := rfl
@[simp] theorem State.setRegion_directory (s : State) (r : Nat) (x : Region) : (s.setRegion r x).directory = s.directory := rfl
@[simp] theorem State.setRegion_snoops (s : State) (r : Nat) (x : Region) : (s.setRegion r x).snoops = s.snoops := rfl
@[simp] theorem State.setRegion_lineWait (s : State) (r : Nat) (x : Region) : (s.setRegion r x).lineWait = s.lineWait := rfl
@[simp] theorem State.setRegion_arrivals (s : State) (r : Nat) (x : Region) : (s.setRegion r x).arrivals = s.arrivals := rfl
@[simp] theorem State.setRegion_collectives (s : State) (r : Nat) (x : Region) : (s.setRegion r x).collectives = s.collectives := rfl
@[simp] theorem State.setRegion_nextCollective (s : State) (r : Nat) (x : Region) : (s.setRegion r x).nextCollective = s.nextCollective := rfl
@[simp] theorem State.setRegion_parked (s : State) (r : Nat) (x : Region) : (s.setRegion r x).parked = s.parked := rfl
@[simp] theorem State.setRegion_colSent (s : State) (r : Nat) (x : Region) : (s.setRegion r x).colSent = s.colSent := rfl
@[simp] theorem State.setRegion_traek (s : State) (r : Nat) (x : Region) : (s.setRegion r x).traek = s.traek := rfl
@[simp] theorem State.setRegion_twin (s : State) (r : Nat) (x : Region) : (s.setRegion r x).twin = s.twin := rfl
@[simp] theorem State.setRegion_power (s : State) (r : Nat) (x : Region) : (s.setRegion r x).power = s.power := rfl
@[simp] theorem State.setRegion_spots (s : State) (r : Nat) (x : Region) : (s.setRegion r x).spots = s.spots := rfl
@[simp] theorem State.setRegion_cooling (s : State) (r : Nat) (x : Region) : (s.setRegion r x).cooling = s.cooling := rfl
@[simp] theorem State.setRegion_mgmt (s : State) (r : Nat) (x : Region) : (s.setRegion r x).mgmt = s.mgmt := rfl
@[simp] theorem State.setRegion_test (s : State) (r : Nat) (x : Region) : (s.setRegion r x).test = s.test := rfl
@[simp] theorem State.setRegion_boot (s : State) (r : Nat) (x : Region) : (s.setRegion r x).boot = s.boot := rfl

@[simp] theorem State.onRegion_pending (s : State) (r : Nat) (f : Region → Region) : (s.onRegion r f).pending = s.pending := State.setRegion_pending ..
@[simp] theorem State.onRegion_now (s : State) (r : Nat) (f : Region → Region) : (s.onRegion r f).now = s.now := State.setRegion_now ..
@[simp] theorem State.onRegion_fresh (s : State) (r : Nat) (f : Region → Region) : (s.onRegion r f).fresh = s.fresh := State.setRegion_fresh ..
@[simp] theorem State.onRegion_egress (s : State) (r : Nat) (f : Region → Region) : (s.onRegion r f).egress = s.egress := State.setRegion_egress ..
@[simp] theorem State.onRegion_mem (s : State) (r : Nat) (f : Region → Region) : (s.onRegion r f).mem = s.mem := State.setRegion_mem ..
@[simp] theorem State.onRegion_marks (s : State) (r : Nat) (f : Region → Region) : (s.onRegion r f).marks = s.marks := State.setRegion_marks ..
@[simp] theorem State.onRegion_dict (s : State) (r : Nat) (f : Region → Region) : (s.onRegion r f).dict = s.dict := State.setRegion_dict ..
@[simp] theorem State.onRegion_tags (s : State) (r : Nat) (f : Region → Region) : (s.onRegion r f).tags = s.tags := State.setRegion_tags ..
@[simp] theorem State.onRegion_log (s : State) (r : Nat) (f : Region → Region) : (s.onRegion r f).log = s.log := State.setRegion_log ..
@[simp] theorem State.onRegion_logSeq (s : State) (r : Nat) (f : Region → Region) : (s.onRegion r f).logSeq = s.logSeq := State.setRegion_logSeq ..
@[simp] theorem State.onRegion_windows (s : State) (r : Nat) (f : Region → Region) : (s.onRegion r f).windows = s.windows := State.setRegion_windows ..
@[simp] theorem State.onRegion_queues (s : State) (r : Nat) (f : Region → Region) : (s.onRegion r f).queues = s.queues := State.setRegion_queues ..
@[simp] theorem State.onRegion_counters (s : State) (r : Nat) (f : Region → Region) : (s.onRegion r f).counters = s.counters := State.setRegion_counters ..
@[simp] theorem State.onRegion_ingress (s : State) (r : Nat) (f : Region → Region) : (s.onRegion r f).ingress = s.ingress := State.setRegion_ingress ..
@[simp] theorem State.onRegion_bankLast (s : State) (r : Nat) (f : Region → Region) : (s.onRegion r f).bankLast = s.bankLast := State.setRegion_bankLast ..
@[simp] theorem State.onRegion_bankAt (s : State) (r : Nat) (f : Region → Region) : (s.onRegion r f).bankAt = s.bankAt := State.setRegion_bankAt ..
@[simp] theorem State.onRegion_tensors (s : State) (r : Nat) (f : Region → Region) : (s.onRegion r f).tensors = s.tensors := State.setRegion_tensors ..
@[simp] theorem State.onRegion_alloc (s : State) (r : Nat) (f : Region → Region) : (s.onRegion r f).alloc = s.alloc := State.setRegion_alloc ..
@[simp] theorem State.onRegion_step (s : State) (r : Nat) (f : Region → Region) : (s.onRegion r f).step = s.step := State.setRegion_step ..
@[simp] theorem State.onRegion_clusters (s : State) (r : Nat) (f : Region → Region) : (s.onRegion r f).clusters = s.clusters := State.setRegion_clusters ..
@[simp] theorem State.onRegion_lastQueue (s : State) (r : Nat) (f : Region → Region) : (s.onRegion r f).lastQueue = s.lastQueue := State.setRegion_lastQueue ..
@[simp] theorem State.onRegion_channels (s : State) (r : Nat) (f : Region → Region) : (s.onRegion r f).channels = s.channels := State.setRegion_channels ..
@[simp] theorem State.onRegion_packages (s : State) (r : Nat) (f : Region → Region) : (s.onRegion r f).packages = s.packages := State.setRegion_packages ..
@[simp] theorem State.onRegion_stageWait (s : State) (r : Nat) (f : Region → Region) : (s.onRegion r f).stageWait = s.stageWait := State.setRegion_stageWait ..
@[simp] theorem State.onRegion_ports (s : State) (r : Nat) (f : Region → Region) : (s.onRegion r f).ports = s.ports := State.setRegion_ports ..
@[simp] theorem State.onRegion_streamsOut (s : State) (r : Nat) (f : Region → Region) : (s.onRegion r f).streamsOut = s.streamsOut := State.setRegion_streamsOut ..
@[simp] theorem State.onRegion_streamsIn (s : State) (r : Nat) (f : Region → Region) : (s.onRegion r f).streamsIn = s.streamsIn := State.setRegion_streamsIn ..
@[simp] theorem State.onRegion_reqs (s : State) (r : Nat) (f : Region → Region) : (s.onRegion r f).reqs = s.reqs := State.setRegion_reqs ..
@[simp] theorem State.onRegion_nextTag (s : State) (r : Nat) (f : Region → Region) : (s.onRegion r f).nextTag = s.nextTag := State.setRegion_nextTag ..
@[simp] theorem State.onRegion_directory (s : State) (r : Nat) (f : Region → Region) : (s.onRegion r f).directory = s.directory := State.setRegion_directory ..
@[simp] theorem State.onRegion_snoops (s : State) (r : Nat) (f : Region → Region) : (s.onRegion r f).snoops = s.snoops := State.setRegion_snoops ..
@[simp] theorem State.onRegion_lineWait (s : State) (r : Nat) (f : Region → Region) : (s.onRegion r f).lineWait = s.lineWait := State.setRegion_lineWait ..
@[simp] theorem State.onRegion_arrivals (s : State) (r : Nat) (f : Region → Region) : (s.onRegion r f).arrivals = s.arrivals := State.setRegion_arrivals ..
@[simp] theorem State.onRegion_collectives (s : State) (r : Nat) (f : Region → Region) : (s.onRegion r f).collectives = s.collectives := State.setRegion_collectives ..
@[simp] theorem State.onRegion_nextCollective (s : State) (r : Nat) (f : Region → Region) : (s.onRegion r f).nextCollective = s.nextCollective := State.setRegion_nextCollective ..
@[simp] theorem State.onRegion_parked (s : State) (r : Nat) (f : Region → Region) : (s.onRegion r f).parked = s.parked := State.setRegion_parked ..
@[simp] theorem State.onRegion_colSent (s : State) (r : Nat) (f : Region → Region) : (s.onRegion r f).colSent = s.colSent := State.setRegion_colSent ..
@[simp] theorem State.onRegion_traek (s : State) (r : Nat) (f : Region → Region) : (s.onRegion r f).traek = s.traek := State.setRegion_traek ..
@[simp] theorem State.onRegion_twin (s : State) (r : Nat) (f : Region → Region) : (s.onRegion r f).twin = s.twin := State.setRegion_twin ..
@[simp] theorem State.onRegion_power (s : State) (r : Nat) (f : Region → Region) : (s.onRegion r f).power = s.power := State.setRegion_power ..
@[simp] theorem State.onRegion_spots (s : State) (r : Nat) (f : Region → Region) : (s.onRegion r f).spots = s.spots := State.setRegion_spots ..
@[simp] theorem State.onRegion_cooling (s : State) (r : Nat) (f : Region → Region) : (s.onRegion r f).cooling = s.cooling := State.setRegion_cooling ..
@[simp] theorem State.onRegion_mgmt (s : State) (r : Nat) (f : Region → Region) : (s.onRegion r f).mgmt = s.mgmt := State.setRegion_mgmt ..
@[simp] theorem State.onRegion_test (s : State) (r : Nat) (f : Region → Region) : (s.onRegion r f).test = s.test := State.setRegion_test ..
@[simp] theorem State.onRegion_boot (s : State) (r : Nat) (f : Region → Region) : (s.onRegion r f).boot = s.boot := State.setRegion_boot ..

@[simp] theorem State.setSpot_pending (s : State) (h : Nat) (x : HotSpot) : (s.setSpot h x).pending = s.pending := rfl
@[simp] theorem State.setSpot_now (s : State) (h : Nat) (x : HotSpot) : (s.setSpot h x).now = s.now := rfl
@[simp] theorem State.setSpot_fresh (s : State) (h : Nat) (x : HotSpot) : (s.setSpot h x).fresh = s.fresh := rfl
@[simp] theorem State.setSpot_egress (s : State) (h : Nat) (x : HotSpot) : (s.setSpot h x).egress = s.egress := rfl
@[simp] theorem State.setSpot_mem (s : State) (h : Nat) (x : HotSpot) : (s.setSpot h x).mem = s.mem := rfl
@[simp] theorem State.setSpot_marks (s : State) (h : Nat) (x : HotSpot) : (s.setSpot h x).marks = s.marks := rfl
@[simp] theorem State.setSpot_dict (s : State) (h : Nat) (x : HotSpot) : (s.setSpot h x).dict = s.dict := rfl
@[simp] theorem State.setSpot_tags (s : State) (h : Nat) (x : HotSpot) : (s.setSpot h x).tags = s.tags := rfl
@[simp] theorem State.setSpot_log (s : State) (h : Nat) (x : HotSpot) : (s.setSpot h x).log = s.log := rfl
@[simp] theorem State.setSpot_logSeq (s : State) (h : Nat) (x : HotSpot) : (s.setSpot h x).logSeq = s.logSeq := rfl
@[simp] theorem State.setSpot_windows (s : State) (h : Nat) (x : HotSpot) : (s.setSpot h x).windows = s.windows := rfl
@[simp] theorem State.setSpot_queues (s : State) (h : Nat) (x : HotSpot) : (s.setSpot h x).queues = s.queues := rfl
@[simp] theorem State.setSpot_counters (s : State) (h : Nat) (x : HotSpot) : (s.setSpot h x).counters = s.counters := rfl
@[simp] theorem State.setSpot_ingress (s : State) (h : Nat) (x : HotSpot) : (s.setSpot h x).ingress = s.ingress := rfl
@[simp] theorem State.setSpot_bankLast (s : State) (h : Nat) (x : HotSpot) : (s.setSpot h x).bankLast = s.bankLast := rfl
@[simp] theorem State.setSpot_bankAt (s : State) (h : Nat) (x : HotSpot) : (s.setSpot h x).bankAt = s.bankAt := rfl
@[simp] theorem State.setSpot_tensors (s : State) (h : Nat) (x : HotSpot) : (s.setSpot h x).tensors = s.tensors := rfl
@[simp] theorem State.setSpot_alloc (s : State) (h : Nat) (x : HotSpot) : (s.setSpot h x).alloc = s.alloc := rfl
@[simp] theorem State.setSpot_step (s : State) (h : Nat) (x : HotSpot) : (s.setSpot h x).step = s.step := rfl
@[simp] theorem State.setSpot_clusters (s : State) (h : Nat) (x : HotSpot) : (s.setSpot h x).clusters = s.clusters := rfl
@[simp] theorem State.setSpot_lastQueue (s : State) (h : Nat) (x : HotSpot) : (s.setSpot h x).lastQueue = s.lastQueue := rfl
@[simp] theorem State.setSpot_channels (s : State) (h : Nat) (x : HotSpot) : (s.setSpot h x).channels = s.channels := rfl
@[simp] theorem State.setSpot_packages (s : State) (h : Nat) (x : HotSpot) : (s.setSpot h x).packages = s.packages := rfl
@[simp] theorem State.setSpot_stageWait (s : State) (h : Nat) (x : HotSpot) : (s.setSpot h x).stageWait = s.stageWait := rfl
@[simp] theorem State.setSpot_ports (s : State) (h : Nat) (x : HotSpot) : (s.setSpot h x).ports = s.ports := rfl
@[simp] theorem State.setSpot_streamsOut (s : State) (h : Nat) (x : HotSpot) : (s.setSpot h x).streamsOut = s.streamsOut := rfl
@[simp] theorem State.setSpot_streamsIn (s : State) (h : Nat) (x : HotSpot) : (s.setSpot h x).streamsIn = s.streamsIn := rfl
@[simp] theorem State.setSpot_reqs (s : State) (h : Nat) (x : HotSpot) : (s.setSpot h x).reqs = s.reqs := rfl
@[simp] theorem State.setSpot_nextTag (s : State) (h : Nat) (x : HotSpot) : (s.setSpot h x).nextTag = s.nextTag := rfl
@[simp] theorem State.setSpot_directory (s : State) (h : Nat) (x : HotSpot) : (s.setSpot h x).directory = s.directory := rfl
@[simp] theorem State.setSpot_snoops (s : State) (h : Nat) (x : HotSpot) : (s.setSpot h x).snoops = s.snoops := rfl
@[simp] theorem State.setSpot_lineWait (s : State) (h : Nat) (x : HotSpot) : (s.setSpot h x).lineWait = s.lineWait := rfl
@[simp] theorem State.setSpot_arrivals (s : State) (h : Nat) (x : HotSpot) : (s.setSpot h x).arrivals = s.arrivals := rfl
@[simp] theorem State.setSpot_collectives (s : State) (h : Nat) (x : HotSpot) : (s.setSpot h x).collectives = s.collectives := rfl
@[simp] theorem State.setSpot_nextCollective (s : State) (h : Nat) (x : HotSpot) : (s.setSpot h x).nextCollective = s.nextCollective := rfl
@[simp] theorem State.setSpot_parked (s : State) (h : Nat) (x : HotSpot) : (s.setSpot h x).parked = s.parked := rfl
@[simp] theorem State.setSpot_colSent (s : State) (h : Nat) (x : HotSpot) : (s.setSpot h x).colSent = s.colSent := rfl
@[simp] theorem State.setSpot_traek (s : State) (h : Nat) (x : HotSpot) : (s.setSpot h x).traek = s.traek := rfl
@[simp] theorem State.setSpot_twin (s : State) (h : Nat) (x : HotSpot) : (s.setSpot h x).twin = s.twin := rfl
@[simp] theorem State.setSpot_regions (s : State) (h : Nat) (x : HotSpot) : (s.setSpot h x).regions = s.regions := rfl
@[simp] theorem State.setSpot_power (s : State) (h : Nat) (x : HotSpot) : (s.setSpot h x).power = s.power := rfl
@[simp] theorem State.setSpot_cooling (s : State) (h : Nat) (x : HotSpot) : (s.setSpot h x).cooling = s.cooling := rfl
@[simp] theorem State.setSpot_mgmt (s : State) (h : Nat) (x : HotSpot) : (s.setSpot h x).mgmt = s.mgmt := rfl
@[simp] theorem State.setSpot_test (s : State) (h : Nat) (x : HotSpot) : (s.setSpot h x).test = s.test := rfl
@[simp] theorem State.setSpot_boot (s : State) (h : Nat) (x : HotSpot) : (s.setSpot h x).boot = s.boot := rfl

@[simp] theorem State.onSpot_pending (s : State) (h : Nat) (f : HotSpot → HotSpot) : (s.onSpot h f).pending = s.pending := State.setSpot_pending ..
@[simp] theorem State.onSpot_now (s : State) (h : Nat) (f : HotSpot → HotSpot) : (s.onSpot h f).now = s.now := State.setSpot_now ..
@[simp] theorem State.onSpot_fresh (s : State) (h : Nat) (f : HotSpot → HotSpot) : (s.onSpot h f).fresh = s.fresh := State.setSpot_fresh ..
@[simp] theorem State.onSpot_egress (s : State) (h : Nat) (f : HotSpot → HotSpot) : (s.onSpot h f).egress = s.egress := State.setSpot_egress ..
@[simp] theorem State.onSpot_mem (s : State) (h : Nat) (f : HotSpot → HotSpot) : (s.onSpot h f).mem = s.mem := State.setSpot_mem ..
@[simp] theorem State.onSpot_marks (s : State) (h : Nat) (f : HotSpot → HotSpot) : (s.onSpot h f).marks = s.marks := State.setSpot_marks ..
@[simp] theorem State.onSpot_dict (s : State) (h : Nat) (f : HotSpot → HotSpot) : (s.onSpot h f).dict = s.dict := State.setSpot_dict ..
@[simp] theorem State.onSpot_tags (s : State) (h : Nat) (f : HotSpot → HotSpot) : (s.onSpot h f).tags = s.tags := State.setSpot_tags ..
@[simp] theorem State.onSpot_log (s : State) (h : Nat) (f : HotSpot → HotSpot) : (s.onSpot h f).log = s.log := State.setSpot_log ..
@[simp] theorem State.onSpot_logSeq (s : State) (h : Nat) (f : HotSpot → HotSpot) : (s.onSpot h f).logSeq = s.logSeq := State.setSpot_logSeq ..
@[simp] theorem State.onSpot_windows (s : State) (h : Nat) (f : HotSpot → HotSpot) : (s.onSpot h f).windows = s.windows := State.setSpot_windows ..
@[simp] theorem State.onSpot_queues (s : State) (h : Nat) (f : HotSpot → HotSpot) : (s.onSpot h f).queues = s.queues := State.setSpot_queues ..
@[simp] theorem State.onSpot_counters (s : State) (h : Nat) (f : HotSpot → HotSpot) : (s.onSpot h f).counters = s.counters := State.setSpot_counters ..
@[simp] theorem State.onSpot_ingress (s : State) (h : Nat) (f : HotSpot → HotSpot) : (s.onSpot h f).ingress = s.ingress := State.setSpot_ingress ..
@[simp] theorem State.onSpot_bankLast (s : State) (h : Nat) (f : HotSpot → HotSpot) : (s.onSpot h f).bankLast = s.bankLast := State.setSpot_bankLast ..
@[simp] theorem State.onSpot_bankAt (s : State) (h : Nat) (f : HotSpot → HotSpot) : (s.onSpot h f).bankAt = s.bankAt := State.setSpot_bankAt ..
@[simp] theorem State.onSpot_tensors (s : State) (h : Nat) (f : HotSpot → HotSpot) : (s.onSpot h f).tensors = s.tensors := State.setSpot_tensors ..
@[simp] theorem State.onSpot_alloc (s : State) (h : Nat) (f : HotSpot → HotSpot) : (s.onSpot h f).alloc = s.alloc := State.setSpot_alloc ..
@[simp] theorem State.onSpot_step (s : State) (h : Nat) (f : HotSpot → HotSpot) : (s.onSpot h f).step = s.step := State.setSpot_step ..
@[simp] theorem State.onSpot_clusters (s : State) (h : Nat) (f : HotSpot → HotSpot) : (s.onSpot h f).clusters = s.clusters := State.setSpot_clusters ..
@[simp] theorem State.onSpot_lastQueue (s : State) (h : Nat) (f : HotSpot → HotSpot) : (s.onSpot h f).lastQueue = s.lastQueue := State.setSpot_lastQueue ..
@[simp] theorem State.onSpot_channels (s : State) (h : Nat) (f : HotSpot → HotSpot) : (s.onSpot h f).channels = s.channels := State.setSpot_channels ..
@[simp] theorem State.onSpot_packages (s : State) (h : Nat) (f : HotSpot → HotSpot) : (s.onSpot h f).packages = s.packages := State.setSpot_packages ..
@[simp] theorem State.onSpot_stageWait (s : State) (h : Nat) (f : HotSpot → HotSpot) : (s.onSpot h f).stageWait = s.stageWait := State.setSpot_stageWait ..
@[simp] theorem State.onSpot_ports (s : State) (h : Nat) (f : HotSpot → HotSpot) : (s.onSpot h f).ports = s.ports := State.setSpot_ports ..
@[simp] theorem State.onSpot_streamsOut (s : State) (h : Nat) (f : HotSpot → HotSpot) : (s.onSpot h f).streamsOut = s.streamsOut := State.setSpot_streamsOut ..
@[simp] theorem State.onSpot_streamsIn (s : State) (h : Nat) (f : HotSpot → HotSpot) : (s.onSpot h f).streamsIn = s.streamsIn := State.setSpot_streamsIn ..
@[simp] theorem State.onSpot_reqs (s : State) (h : Nat) (f : HotSpot → HotSpot) : (s.onSpot h f).reqs = s.reqs := State.setSpot_reqs ..
@[simp] theorem State.onSpot_nextTag (s : State) (h : Nat) (f : HotSpot → HotSpot) : (s.onSpot h f).nextTag = s.nextTag := State.setSpot_nextTag ..
@[simp] theorem State.onSpot_directory (s : State) (h : Nat) (f : HotSpot → HotSpot) : (s.onSpot h f).directory = s.directory := State.setSpot_directory ..
@[simp] theorem State.onSpot_snoops (s : State) (h : Nat) (f : HotSpot → HotSpot) : (s.onSpot h f).snoops = s.snoops := State.setSpot_snoops ..
@[simp] theorem State.onSpot_lineWait (s : State) (h : Nat) (f : HotSpot → HotSpot) : (s.onSpot h f).lineWait = s.lineWait := State.setSpot_lineWait ..
@[simp] theorem State.onSpot_arrivals (s : State) (h : Nat) (f : HotSpot → HotSpot) : (s.onSpot h f).arrivals = s.arrivals := State.setSpot_arrivals ..
@[simp] theorem State.onSpot_collectives (s : State) (h : Nat) (f : HotSpot → HotSpot) : (s.onSpot h f).collectives = s.collectives := State.setSpot_collectives ..
@[simp] theorem State.onSpot_nextCollective (s : State) (h : Nat) (f : HotSpot → HotSpot) : (s.onSpot h f).nextCollective = s.nextCollective := State.setSpot_nextCollective ..
@[simp] theorem State.onSpot_parked (s : State) (h : Nat) (f : HotSpot → HotSpot) : (s.onSpot h f).parked = s.parked := State.setSpot_parked ..
@[simp] theorem State.onSpot_colSent (s : State) (h : Nat) (f : HotSpot → HotSpot) : (s.onSpot h f).colSent = s.colSent := State.setSpot_colSent ..
@[simp] theorem State.onSpot_traek (s : State) (h : Nat) (f : HotSpot → HotSpot) : (s.onSpot h f).traek = s.traek := State.setSpot_traek ..
@[simp] theorem State.onSpot_twin (s : State) (h : Nat) (f : HotSpot → HotSpot) : (s.onSpot h f).twin = s.twin := State.setSpot_twin ..
@[simp] theorem State.onSpot_regions (s : State) (h : Nat) (f : HotSpot → HotSpot) : (s.onSpot h f).regions = s.regions := State.setSpot_regions ..
@[simp] theorem State.onSpot_power (s : State) (h : Nat) (f : HotSpot → HotSpot) : (s.onSpot h f).power = s.power := State.setSpot_power ..
@[simp] theorem State.onSpot_cooling (s : State) (h : Nat) (f : HotSpot → HotSpot) : (s.onSpot h f).cooling = s.cooling := State.setSpot_cooling ..
@[simp] theorem State.onSpot_mgmt (s : State) (h : Nat) (f : HotSpot → HotSpot) : (s.onSpot h f).mgmt = s.mgmt := State.setSpot_mgmt ..
@[simp] theorem State.onSpot_test (s : State) (h : Nat) (f : HotSpot → HotSpot) : (s.onSpot h f).test = s.test := State.setSpot_test ..
@[simp] theorem State.onSpot_boot (s : State) (h : Nat) (f : HotSpot → HotSpot) : (s.onSpot h f).boot = s.boot := State.setSpot_boot ..

@[simp] theorem State.setTensor_pending (s : State) (h : Nat) (t : Option Tensor) : (s.setTensor h t).pending = s.pending := rfl
@[simp] theorem State.setTensor_now (s : State) (h : Nat) (t : Option Tensor) : (s.setTensor h t).now = s.now := rfl
@[simp] theorem State.setTensor_fresh (s : State) (h : Nat) (t : Option Tensor) : (s.setTensor h t).fresh = s.fresh := rfl
@[simp] theorem State.setTensor_egress (s : State) (h : Nat) (t : Option Tensor) : (s.setTensor h t).egress = s.egress := rfl
@[simp] theorem State.setTensor_mem (s : State) (h : Nat) (t : Option Tensor) : (s.setTensor h t).mem = s.mem := rfl
@[simp] theorem State.setTensor_marks (s : State) (h : Nat) (t : Option Tensor) : (s.setTensor h t).marks = s.marks := rfl
@[simp] theorem State.setTensor_dict (s : State) (h : Nat) (t : Option Tensor) : (s.setTensor h t).dict = s.dict := rfl
@[simp] theorem State.setTensor_tags (s : State) (h : Nat) (t : Option Tensor) : (s.setTensor h t).tags = s.tags := rfl
@[simp] theorem State.setTensor_log (s : State) (h : Nat) (t : Option Tensor) : (s.setTensor h t).log = s.log := rfl
@[simp] theorem State.setTensor_logSeq (s : State) (h : Nat) (t : Option Tensor) : (s.setTensor h t).logSeq = s.logSeq := rfl
@[simp] theorem State.setTensor_windows (s : State) (h : Nat) (t : Option Tensor) : (s.setTensor h t).windows = s.windows := rfl
@[simp] theorem State.setTensor_queues (s : State) (h : Nat) (t : Option Tensor) : (s.setTensor h t).queues = s.queues := rfl
@[simp] theorem State.setTensor_counters (s : State) (h : Nat) (t : Option Tensor) : (s.setTensor h t).counters = s.counters := rfl
@[simp] theorem State.setTensor_ingress (s : State) (h : Nat) (t : Option Tensor) : (s.setTensor h t).ingress = s.ingress := rfl
@[simp] theorem State.setTensor_bankLast (s : State) (h : Nat) (t : Option Tensor) : (s.setTensor h t).bankLast = s.bankLast := rfl
@[simp] theorem State.setTensor_bankAt (s : State) (h : Nat) (t : Option Tensor) : (s.setTensor h t).bankAt = s.bankAt := rfl
@[simp] theorem State.setTensor_alloc (s : State) (h : Nat) (t : Option Tensor) : (s.setTensor h t).alloc = s.alloc := rfl
@[simp] theorem State.setTensor_step (s : State) (h : Nat) (t : Option Tensor) : (s.setTensor h t).step = s.step := rfl
@[simp] theorem State.setTensor_clusters (s : State) (h : Nat) (t : Option Tensor) : (s.setTensor h t).clusters = s.clusters := rfl
@[simp] theorem State.setTensor_lastQueue (s : State) (h : Nat) (t : Option Tensor) : (s.setTensor h t).lastQueue = s.lastQueue := rfl
@[simp] theorem State.setTensor_channels (s : State) (h : Nat) (t : Option Tensor) : (s.setTensor h t).channels = s.channels := rfl
@[simp] theorem State.setTensor_packages (s : State) (h : Nat) (t : Option Tensor) : (s.setTensor h t).packages = s.packages := rfl
@[simp] theorem State.setTensor_stageWait (s : State) (h : Nat) (t : Option Tensor) : (s.setTensor h t).stageWait = s.stageWait := rfl
@[simp] theorem State.setTensor_ports (s : State) (h : Nat) (t : Option Tensor) : (s.setTensor h t).ports = s.ports := rfl
@[simp] theorem State.setTensor_streamsOut (s : State) (h : Nat) (t : Option Tensor) : (s.setTensor h t).streamsOut = s.streamsOut := rfl
@[simp] theorem State.setTensor_streamsIn (s : State) (h : Nat) (t : Option Tensor) : (s.setTensor h t).streamsIn = s.streamsIn := rfl
@[simp] theorem State.setTensor_reqs (s : State) (h : Nat) (t : Option Tensor) : (s.setTensor h t).reqs = s.reqs := rfl
@[simp] theorem State.setTensor_nextTag (s : State) (h : Nat) (t : Option Tensor) : (s.setTensor h t).nextTag = s.nextTag := rfl
@[simp] theorem State.setTensor_directory (s : State) (h : Nat) (t : Option Tensor) : (s.setTensor h t).directory = s.directory := rfl
@[simp] theorem State.setTensor_snoops (s : State) (h : Nat) (t : Option Tensor) : (s.setTensor h t).snoops = s.snoops := rfl
@[simp] theorem State.setTensor_lineWait (s : State) (h : Nat) (t : Option Tensor) : (s.setTensor h t).lineWait = s.lineWait := rfl
@[simp] theorem State.setTensor_arrivals (s : State) (h : Nat) (t : Option Tensor) : (s.setTensor h t).arrivals = s.arrivals := rfl
@[simp] theorem State.setTensor_collectives (s : State) (h : Nat) (t : Option Tensor) : (s.setTensor h t).collectives = s.collectives := rfl
@[simp] theorem State.setTensor_nextCollective (s : State) (h : Nat) (t : Option Tensor) : (s.setTensor h t).nextCollective = s.nextCollective := rfl
@[simp] theorem State.setTensor_parked (s : State) (h : Nat) (t : Option Tensor) : (s.setTensor h t).parked = s.parked := rfl
@[simp] theorem State.setTensor_colSent (s : State) (h : Nat) (t : Option Tensor) : (s.setTensor h t).colSent = s.colSent := rfl
@[simp] theorem State.setTensor_traek (s : State) (h : Nat) (t : Option Tensor) : (s.setTensor h t).traek = s.traek := rfl
@[simp] theorem State.setTensor_twin (s : State) (h : Nat) (t : Option Tensor) : (s.setTensor h t).twin = s.twin := rfl
@[simp] theorem State.setTensor_regions (s : State) (h : Nat) (t : Option Tensor) : (s.setTensor h t).regions = s.regions := rfl
@[simp] theorem State.setTensor_power (s : State) (h : Nat) (t : Option Tensor) : (s.setTensor h t).power = s.power := rfl
@[simp] theorem State.setTensor_spots (s : State) (h : Nat) (t : Option Tensor) : (s.setTensor h t).spots = s.spots := rfl
@[simp] theorem State.setTensor_cooling (s : State) (h : Nat) (t : Option Tensor) : (s.setTensor h t).cooling = s.cooling := rfl
@[simp] theorem State.setTensor_mgmt (s : State) (h : Nat) (t : Option Tensor) : (s.setTensor h t).mgmt = s.mgmt := rfl
@[simp] theorem State.setTensor_test (s : State) (h : Nat) (t : Option Tensor) : (s.setTensor h t).test = s.test := rfl
@[simp] theorem State.setTensor_boot (s : State) (h : Nat) (t : Option Tensor) : (s.setTensor h t).boot = s.boot := rfl

@[simp] theorem State.onTensor_pending (s : State) (h : Nat) (f : Tensor → Tensor) : (s.onTensor h f).pending = s.pending := State.setTensor_pending ..
@[simp] theorem State.onTensor_now (s : State) (h : Nat) (f : Tensor → Tensor) : (s.onTensor h f).now = s.now := State.setTensor_now ..
@[simp] theorem State.onTensor_fresh (s : State) (h : Nat) (f : Tensor → Tensor) : (s.onTensor h f).fresh = s.fresh := State.setTensor_fresh ..
@[simp] theorem State.onTensor_egress (s : State) (h : Nat) (f : Tensor → Tensor) : (s.onTensor h f).egress = s.egress := State.setTensor_egress ..
@[simp] theorem State.onTensor_mem (s : State) (h : Nat) (f : Tensor → Tensor) : (s.onTensor h f).mem = s.mem := State.setTensor_mem ..
@[simp] theorem State.onTensor_marks (s : State) (h : Nat) (f : Tensor → Tensor) : (s.onTensor h f).marks = s.marks := State.setTensor_marks ..
@[simp] theorem State.onTensor_dict (s : State) (h : Nat) (f : Tensor → Tensor) : (s.onTensor h f).dict = s.dict := State.setTensor_dict ..
@[simp] theorem State.onTensor_tags (s : State) (h : Nat) (f : Tensor → Tensor) : (s.onTensor h f).tags = s.tags := State.setTensor_tags ..
@[simp] theorem State.onTensor_log (s : State) (h : Nat) (f : Tensor → Tensor) : (s.onTensor h f).log = s.log := State.setTensor_log ..
@[simp] theorem State.onTensor_logSeq (s : State) (h : Nat) (f : Tensor → Tensor) : (s.onTensor h f).logSeq = s.logSeq := State.setTensor_logSeq ..
@[simp] theorem State.onTensor_windows (s : State) (h : Nat) (f : Tensor → Tensor) : (s.onTensor h f).windows = s.windows := State.setTensor_windows ..
@[simp] theorem State.onTensor_queues (s : State) (h : Nat) (f : Tensor → Tensor) : (s.onTensor h f).queues = s.queues := State.setTensor_queues ..
@[simp] theorem State.onTensor_counters (s : State) (h : Nat) (f : Tensor → Tensor) : (s.onTensor h f).counters = s.counters := State.setTensor_counters ..
@[simp] theorem State.onTensor_ingress (s : State) (h : Nat) (f : Tensor → Tensor) : (s.onTensor h f).ingress = s.ingress := State.setTensor_ingress ..
@[simp] theorem State.onTensor_bankLast (s : State) (h : Nat) (f : Tensor → Tensor) : (s.onTensor h f).bankLast = s.bankLast := State.setTensor_bankLast ..
@[simp] theorem State.onTensor_bankAt (s : State) (h : Nat) (f : Tensor → Tensor) : (s.onTensor h f).bankAt = s.bankAt := State.setTensor_bankAt ..
@[simp] theorem State.onTensor_alloc (s : State) (h : Nat) (f : Tensor → Tensor) : (s.onTensor h f).alloc = s.alloc := State.setTensor_alloc ..
@[simp] theorem State.onTensor_step (s : State) (h : Nat) (f : Tensor → Tensor) : (s.onTensor h f).step = s.step := State.setTensor_step ..
@[simp] theorem State.onTensor_clusters (s : State) (h : Nat) (f : Tensor → Tensor) : (s.onTensor h f).clusters = s.clusters := State.setTensor_clusters ..
@[simp] theorem State.onTensor_lastQueue (s : State) (h : Nat) (f : Tensor → Tensor) : (s.onTensor h f).lastQueue = s.lastQueue := State.setTensor_lastQueue ..
@[simp] theorem State.onTensor_channels (s : State) (h : Nat) (f : Tensor → Tensor) : (s.onTensor h f).channels = s.channels := State.setTensor_channels ..
@[simp] theorem State.onTensor_packages (s : State) (h : Nat) (f : Tensor → Tensor) : (s.onTensor h f).packages = s.packages := State.setTensor_packages ..
@[simp] theorem State.onTensor_stageWait (s : State) (h : Nat) (f : Tensor → Tensor) : (s.onTensor h f).stageWait = s.stageWait := State.setTensor_stageWait ..
@[simp] theorem State.onTensor_ports (s : State) (h : Nat) (f : Tensor → Tensor) : (s.onTensor h f).ports = s.ports := State.setTensor_ports ..
@[simp] theorem State.onTensor_streamsOut (s : State) (h : Nat) (f : Tensor → Tensor) : (s.onTensor h f).streamsOut = s.streamsOut := State.setTensor_streamsOut ..
@[simp] theorem State.onTensor_streamsIn (s : State) (h : Nat) (f : Tensor → Tensor) : (s.onTensor h f).streamsIn = s.streamsIn := State.setTensor_streamsIn ..
@[simp] theorem State.onTensor_reqs (s : State) (h : Nat) (f : Tensor → Tensor) : (s.onTensor h f).reqs = s.reqs := State.setTensor_reqs ..
@[simp] theorem State.onTensor_nextTag (s : State) (h : Nat) (f : Tensor → Tensor) : (s.onTensor h f).nextTag = s.nextTag := State.setTensor_nextTag ..
@[simp] theorem State.onTensor_directory (s : State) (h : Nat) (f : Tensor → Tensor) : (s.onTensor h f).directory = s.directory := State.setTensor_directory ..
@[simp] theorem State.onTensor_snoops (s : State) (h : Nat) (f : Tensor → Tensor) : (s.onTensor h f).snoops = s.snoops := State.setTensor_snoops ..
@[simp] theorem State.onTensor_lineWait (s : State) (h : Nat) (f : Tensor → Tensor) : (s.onTensor h f).lineWait = s.lineWait := State.setTensor_lineWait ..
@[simp] theorem State.onTensor_arrivals (s : State) (h : Nat) (f : Tensor → Tensor) : (s.onTensor h f).arrivals = s.arrivals := State.setTensor_arrivals ..
@[simp] theorem State.onTensor_collectives (s : State) (h : Nat) (f : Tensor → Tensor) : (s.onTensor h f).collectives = s.collectives := State.setTensor_collectives ..
@[simp] theorem State.onTensor_nextCollective (s : State) (h : Nat) (f : Tensor → Tensor) : (s.onTensor h f).nextCollective = s.nextCollective := State.setTensor_nextCollective ..
@[simp] theorem State.onTensor_parked (s : State) (h : Nat) (f : Tensor → Tensor) : (s.onTensor h f).parked = s.parked := State.setTensor_parked ..
@[simp] theorem State.onTensor_colSent (s : State) (h : Nat) (f : Tensor → Tensor) : (s.onTensor h f).colSent = s.colSent := State.setTensor_colSent ..
@[simp] theorem State.onTensor_traek (s : State) (h : Nat) (f : Tensor → Tensor) : (s.onTensor h f).traek = s.traek := State.setTensor_traek ..
@[simp] theorem State.onTensor_twin (s : State) (h : Nat) (f : Tensor → Tensor) : (s.onTensor h f).twin = s.twin := State.setTensor_twin ..
@[simp] theorem State.onTensor_regions (s : State) (h : Nat) (f : Tensor → Tensor) : (s.onTensor h f).regions = s.regions := State.setTensor_regions ..
@[simp] theorem State.onTensor_power (s : State) (h : Nat) (f : Tensor → Tensor) : (s.onTensor h f).power = s.power := State.setTensor_power ..
@[simp] theorem State.onTensor_spots (s : State) (h : Nat) (f : Tensor → Tensor) : (s.onTensor h f).spots = s.spots := State.setTensor_spots ..
@[simp] theorem State.onTensor_cooling (s : State) (h : Nat) (f : Tensor → Tensor) : (s.onTensor h f).cooling = s.cooling := State.setTensor_cooling ..
@[simp] theorem State.onTensor_mgmt (s : State) (h : Nat) (f : Tensor → Tensor) : (s.onTensor h f).mgmt = s.mgmt := State.setTensor_mgmt ..
@[simp] theorem State.onTensor_test (s : State) (h : Nat) (f : Tensor → Tensor) : (s.onTensor h f).test = s.test := State.setTensor_test ..
@[simp] theorem State.onTensor_boot (s : State) (h : Nat) (f : Tensor → Tensor) : (s.onTensor h f).boot = s.boot := State.setTensor_boot ..

@[simp] theorem State.setCounter_pending (s : State) (n : Nat) (v : BitVec 64) : (s.setCounter n v).pending = s.pending := rfl
@[simp] theorem State.setCounter_now (s : State) (n : Nat) (v : BitVec 64) : (s.setCounter n v).now = s.now := rfl
@[simp] theorem State.setCounter_fresh (s : State) (n : Nat) (v : BitVec 64) : (s.setCounter n v).fresh = s.fresh := rfl
@[simp] theorem State.setCounter_egress (s : State) (n : Nat) (v : BitVec 64) : (s.setCounter n v).egress = s.egress := rfl
@[simp] theorem State.setCounter_mem (s : State) (n : Nat) (v : BitVec 64) : (s.setCounter n v).mem = s.mem := rfl
@[simp] theorem State.setCounter_marks (s : State) (n : Nat) (v : BitVec 64) : (s.setCounter n v).marks = s.marks := rfl
@[simp] theorem State.setCounter_dict (s : State) (n : Nat) (v : BitVec 64) : (s.setCounter n v).dict = s.dict := rfl
@[simp] theorem State.setCounter_tags (s : State) (n : Nat) (v : BitVec 64) : (s.setCounter n v).tags = s.tags := rfl
@[simp] theorem State.setCounter_log (s : State) (n : Nat) (v : BitVec 64) : (s.setCounter n v).log = s.log := rfl
@[simp] theorem State.setCounter_logSeq (s : State) (n : Nat) (v : BitVec 64) : (s.setCounter n v).logSeq = s.logSeq := rfl
@[simp] theorem State.setCounter_windows (s : State) (n : Nat) (v : BitVec 64) : (s.setCounter n v).windows = s.windows := rfl
@[simp] theorem State.setCounter_queues (s : State) (n : Nat) (v : BitVec 64) : (s.setCounter n v).queues = s.queues := rfl
@[simp] theorem State.setCounter_ingress (s : State) (n : Nat) (v : BitVec 64) : (s.setCounter n v).ingress = s.ingress := rfl
@[simp] theorem State.setCounter_bankLast (s : State) (n : Nat) (v : BitVec 64) : (s.setCounter n v).bankLast = s.bankLast := rfl
@[simp] theorem State.setCounter_bankAt (s : State) (n : Nat) (v : BitVec 64) : (s.setCounter n v).bankAt = s.bankAt := rfl
@[simp] theorem State.setCounter_tensors (s : State) (n : Nat) (v : BitVec 64) : (s.setCounter n v).tensors = s.tensors := rfl
@[simp] theorem State.setCounter_alloc (s : State) (n : Nat) (v : BitVec 64) : (s.setCounter n v).alloc = s.alloc := rfl
@[simp] theorem State.setCounter_step (s : State) (n : Nat) (v : BitVec 64) : (s.setCounter n v).step = s.step := rfl
@[simp] theorem State.setCounter_clusters (s : State) (n : Nat) (v : BitVec 64) : (s.setCounter n v).clusters = s.clusters := rfl
@[simp] theorem State.setCounter_lastQueue (s : State) (n : Nat) (v : BitVec 64) : (s.setCounter n v).lastQueue = s.lastQueue := rfl
@[simp] theorem State.setCounter_channels (s : State) (n : Nat) (v : BitVec 64) : (s.setCounter n v).channels = s.channels := rfl
@[simp] theorem State.setCounter_packages (s : State) (n : Nat) (v : BitVec 64) : (s.setCounter n v).packages = s.packages := rfl
@[simp] theorem State.setCounter_stageWait (s : State) (n : Nat) (v : BitVec 64) : (s.setCounter n v).stageWait = s.stageWait := rfl
@[simp] theorem State.setCounter_ports (s : State) (n : Nat) (v : BitVec 64) : (s.setCounter n v).ports = s.ports := rfl
@[simp] theorem State.setCounter_streamsOut (s : State) (n : Nat) (v : BitVec 64) : (s.setCounter n v).streamsOut = s.streamsOut := rfl
@[simp] theorem State.setCounter_streamsIn (s : State) (n : Nat) (v : BitVec 64) : (s.setCounter n v).streamsIn = s.streamsIn := rfl
@[simp] theorem State.setCounter_reqs (s : State) (n : Nat) (v : BitVec 64) : (s.setCounter n v).reqs = s.reqs := rfl
@[simp] theorem State.setCounter_nextTag (s : State) (n : Nat) (v : BitVec 64) : (s.setCounter n v).nextTag = s.nextTag := rfl
@[simp] theorem State.setCounter_directory (s : State) (n : Nat) (v : BitVec 64) : (s.setCounter n v).directory = s.directory := rfl
@[simp] theorem State.setCounter_snoops (s : State) (n : Nat) (v : BitVec 64) : (s.setCounter n v).snoops = s.snoops := rfl
@[simp] theorem State.setCounter_lineWait (s : State) (n : Nat) (v : BitVec 64) : (s.setCounter n v).lineWait = s.lineWait := rfl
@[simp] theorem State.setCounter_arrivals (s : State) (n : Nat) (v : BitVec 64) : (s.setCounter n v).arrivals = s.arrivals := rfl
@[simp] theorem State.setCounter_collectives (s : State) (n : Nat) (v : BitVec 64) : (s.setCounter n v).collectives = s.collectives := rfl
@[simp] theorem State.setCounter_nextCollective (s : State) (n : Nat) (v : BitVec 64) : (s.setCounter n v).nextCollective = s.nextCollective := rfl
@[simp] theorem State.setCounter_parked (s : State) (n : Nat) (v : BitVec 64) : (s.setCounter n v).parked = s.parked := rfl
@[simp] theorem State.setCounter_colSent (s : State) (n : Nat) (v : BitVec 64) : (s.setCounter n v).colSent = s.colSent := rfl
@[simp] theorem State.setCounter_traek (s : State) (n : Nat) (v : BitVec 64) : (s.setCounter n v).traek = s.traek := rfl
@[simp] theorem State.setCounter_twin (s : State) (n : Nat) (v : BitVec 64) : (s.setCounter n v).twin = s.twin := rfl
@[simp] theorem State.setCounter_regions (s : State) (n : Nat) (v : BitVec 64) : (s.setCounter n v).regions = s.regions := rfl
@[simp] theorem State.setCounter_power (s : State) (n : Nat) (v : BitVec 64) : (s.setCounter n v).power = s.power := rfl
@[simp] theorem State.setCounter_spots (s : State) (n : Nat) (v : BitVec 64) : (s.setCounter n v).spots = s.spots := rfl
@[simp] theorem State.setCounter_cooling (s : State) (n : Nat) (v : BitVec 64) : (s.setCounter n v).cooling = s.cooling := rfl
@[simp] theorem State.setCounter_mgmt (s : State) (n : Nat) (v : BitVec 64) : (s.setCounter n v).mgmt = s.mgmt := rfl
@[simp] theorem State.setCounter_test (s : State) (n : Nat) (v : BitVec 64) : (s.setCounter n v).test = s.test := rfl
@[simp] theorem State.setCounter_boot (s : State) (n : Nat) (v : BitVec 64) : (s.setCounter n v).boot = s.boot := rfl

@[simp] theorem State.addCounter_pending (s : State) (n : Nat) (v : BitVec 64) : (s.addCounter n v).pending = s.pending := State.setCounter_pending ..
@[simp] theorem State.addCounter_now (s : State) (n : Nat) (v : BitVec 64) : (s.addCounter n v).now = s.now := State.setCounter_now ..
@[simp] theorem State.addCounter_fresh (s : State) (n : Nat) (v : BitVec 64) : (s.addCounter n v).fresh = s.fresh := State.setCounter_fresh ..
@[simp] theorem State.addCounter_egress (s : State) (n : Nat) (v : BitVec 64) : (s.addCounter n v).egress = s.egress := State.setCounter_egress ..
@[simp] theorem State.addCounter_mem (s : State) (n : Nat) (v : BitVec 64) : (s.addCounter n v).mem = s.mem := State.setCounter_mem ..
@[simp] theorem State.addCounter_marks (s : State) (n : Nat) (v : BitVec 64) : (s.addCounter n v).marks = s.marks := State.setCounter_marks ..
@[simp] theorem State.addCounter_dict (s : State) (n : Nat) (v : BitVec 64) : (s.addCounter n v).dict = s.dict := State.setCounter_dict ..
@[simp] theorem State.addCounter_tags (s : State) (n : Nat) (v : BitVec 64) : (s.addCounter n v).tags = s.tags := State.setCounter_tags ..
@[simp] theorem State.addCounter_log (s : State) (n : Nat) (v : BitVec 64) : (s.addCounter n v).log = s.log := State.setCounter_log ..
@[simp] theorem State.addCounter_logSeq (s : State) (n : Nat) (v : BitVec 64) : (s.addCounter n v).logSeq = s.logSeq := State.setCounter_logSeq ..
@[simp] theorem State.addCounter_windows (s : State) (n : Nat) (v : BitVec 64) : (s.addCounter n v).windows = s.windows := State.setCounter_windows ..
@[simp] theorem State.addCounter_queues (s : State) (n : Nat) (v : BitVec 64) : (s.addCounter n v).queues = s.queues := State.setCounter_queues ..
@[simp] theorem State.addCounter_ingress (s : State) (n : Nat) (v : BitVec 64) : (s.addCounter n v).ingress = s.ingress := State.setCounter_ingress ..
@[simp] theorem State.addCounter_bankLast (s : State) (n : Nat) (v : BitVec 64) : (s.addCounter n v).bankLast = s.bankLast := State.setCounter_bankLast ..
@[simp] theorem State.addCounter_bankAt (s : State) (n : Nat) (v : BitVec 64) : (s.addCounter n v).bankAt = s.bankAt := State.setCounter_bankAt ..
@[simp] theorem State.addCounter_tensors (s : State) (n : Nat) (v : BitVec 64) : (s.addCounter n v).tensors = s.tensors := State.setCounter_tensors ..
@[simp] theorem State.addCounter_alloc (s : State) (n : Nat) (v : BitVec 64) : (s.addCounter n v).alloc = s.alloc := State.setCounter_alloc ..
@[simp] theorem State.addCounter_step (s : State) (n : Nat) (v : BitVec 64) : (s.addCounter n v).step = s.step := State.setCounter_step ..
@[simp] theorem State.addCounter_clusters (s : State) (n : Nat) (v : BitVec 64) : (s.addCounter n v).clusters = s.clusters := State.setCounter_clusters ..
@[simp] theorem State.addCounter_lastQueue (s : State) (n : Nat) (v : BitVec 64) : (s.addCounter n v).lastQueue = s.lastQueue := State.setCounter_lastQueue ..
@[simp] theorem State.addCounter_channels (s : State) (n : Nat) (v : BitVec 64) : (s.addCounter n v).channels = s.channels := State.setCounter_channels ..
@[simp] theorem State.addCounter_packages (s : State) (n : Nat) (v : BitVec 64) : (s.addCounter n v).packages = s.packages := State.setCounter_packages ..
@[simp] theorem State.addCounter_stageWait (s : State) (n : Nat) (v : BitVec 64) : (s.addCounter n v).stageWait = s.stageWait := State.setCounter_stageWait ..
@[simp] theorem State.addCounter_ports (s : State) (n : Nat) (v : BitVec 64) : (s.addCounter n v).ports = s.ports := State.setCounter_ports ..
@[simp] theorem State.addCounter_streamsOut (s : State) (n : Nat) (v : BitVec 64) : (s.addCounter n v).streamsOut = s.streamsOut := State.setCounter_streamsOut ..
@[simp] theorem State.addCounter_streamsIn (s : State) (n : Nat) (v : BitVec 64) : (s.addCounter n v).streamsIn = s.streamsIn := State.setCounter_streamsIn ..
@[simp] theorem State.addCounter_reqs (s : State) (n : Nat) (v : BitVec 64) : (s.addCounter n v).reqs = s.reqs := State.setCounter_reqs ..
@[simp] theorem State.addCounter_nextTag (s : State) (n : Nat) (v : BitVec 64) : (s.addCounter n v).nextTag = s.nextTag := State.setCounter_nextTag ..
@[simp] theorem State.addCounter_directory (s : State) (n : Nat) (v : BitVec 64) : (s.addCounter n v).directory = s.directory := State.setCounter_directory ..
@[simp] theorem State.addCounter_snoops (s : State) (n : Nat) (v : BitVec 64) : (s.addCounter n v).snoops = s.snoops := State.setCounter_snoops ..
@[simp] theorem State.addCounter_lineWait (s : State) (n : Nat) (v : BitVec 64) : (s.addCounter n v).lineWait = s.lineWait := State.setCounter_lineWait ..
@[simp] theorem State.addCounter_arrivals (s : State) (n : Nat) (v : BitVec 64) : (s.addCounter n v).arrivals = s.arrivals := State.setCounter_arrivals ..
@[simp] theorem State.addCounter_collectives (s : State) (n : Nat) (v : BitVec 64) : (s.addCounter n v).collectives = s.collectives := State.setCounter_collectives ..
@[simp] theorem State.addCounter_nextCollective (s : State) (n : Nat) (v : BitVec 64) : (s.addCounter n v).nextCollective = s.nextCollective := State.setCounter_nextCollective ..
@[simp] theorem State.addCounter_parked (s : State) (n : Nat) (v : BitVec 64) : (s.addCounter n v).parked = s.parked := State.setCounter_parked ..
@[simp] theorem State.addCounter_colSent (s : State) (n : Nat) (v : BitVec 64) : (s.addCounter n v).colSent = s.colSent := State.setCounter_colSent ..
@[simp] theorem State.addCounter_traek (s : State) (n : Nat) (v : BitVec 64) : (s.addCounter n v).traek = s.traek := State.setCounter_traek ..
@[simp] theorem State.addCounter_twin (s : State) (n : Nat) (v : BitVec 64) : (s.addCounter n v).twin = s.twin := State.setCounter_twin ..
@[simp] theorem State.addCounter_regions (s : State) (n : Nat) (v : BitVec 64) : (s.addCounter n v).regions = s.regions := State.setCounter_regions ..
@[simp] theorem State.addCounter_power (s : State) (n : Nat) (v : BitVec 64) : (s.addCounter n v).power = s.power := State.setCounter_power ..
@[simp] theorem State.addCounter_spots (s : State) (n : Nat) (v : BitVec 64) : (s.addCounter n v).spots = s.spots := State.setCounter_spots ..
@[simp] theorem State.addCounter_cooling (s : State) (n : Nat) (v : BitVec 64) : (s.addCounter n v).cooling = s.cooling := State.setCounter_cooling ..
@[simp] theorem State.addCounter_mgmt (s : State) (n : Nat) (v : BitVec 64) : (s.addCounter n v).mgmt = s.mgmt := State.setCounter_mgmt ..
@[simp] theorem State.addCounter_test (s : State) (n : Nat) (v : BitVec 64) : (s.addCounter n v).test = s.test := State.setCounter_test ..
@[simp] theorem State.addCounter_boot (s : State) (n : Nat) (v : BitVec 64) : (s.addCounter n v).boot = s.boot := State.setCounter_boot ..

@[simp] theorem State.onStreamOut_pending (s : State) (n : Nat) (f : StreamOut → StreamOut) : (s.onStreamOut n f).pending = s.pending := rfl
@[simp] theorem State.onStreamOut_now (s : State) (n : Nat) (f : StreamOut → StreamOut) : (s.onStreamOut n f).now = s.now := rfl
@[simp] theorem State.onStreamOut_fresh (s : State) (n : Nat) (f : StreamOut → StreamOut) : (s.onStreamOut n f).fresh = s.fresh := rfl
@[simp] theorem State.onStreamOut_egress (s : State) (n : Nat) (f : StreamOut → StreamOut) : (s.onStreamOut n f).egress = s.egress := rfl
@[simp] theorem State.onStreamOut_mem (s : State) (n : Nat) (f : StreamOut → StreamOut) : (s.onStreamOut n f).mem = s.mem := rfl
@[simp] theorem State.onStreamOut_marks (s : State) (n : Nat) (f : StreamOut → StreamOut) : (s.onStreamOut n f).marks = s.marks := rfl
@[simp] theorem State.onStreamOut_dict (s : State) (n : Nat) (f : StreamOut → StreamOut) : (s.onStreamOut n f).dict = s.dict := rfl
@[simp] theorem State.onStreamOut_tags (s : State) (n : Nat) (f : StreamOut → StreamOut) : (s.onStreamOut n f).tags = s.tags := rfl
@[simp] theorem State.onStreamOut_log (s : State) (n : Nat) (f : StreamOut → StreamOut) : (s.onStreamOut n f).log = s.log := rfl
@[simp] theorem State.onStreamOut_logSeq (s : State) (n : Nat) (f : StreamOut → StreamOut) : (s.onStreamOut n f).logSeq = s.logSeq := rfl
@[simp] theorem State.onStreamOut_windows (s : State) (n : Nat) (f : StreamOut → StreamOut) : (s.onStreamOut n f).windows = s.windows := rfl
@[simp] theorem State.onStreamOut_queues (s : State) (n : Nat) (f : StreamOut → StreamOut) : (s.onStreamOut n f).queues = s.queues := rfl
@[simp] theorem State.onStreamOut_counters (s : State) (n : Nat) (f : StreamOut → StreamOut) : (s.onStreamOut n f).counters = s.counters := rfl
@[simp] theorem State.onStreamOut_ingress (s : State) (n : Nat) (f : StreamOut → StreamOut) : (s.onStreamOut n f).ingress = s.ingress := rfl
@[simp] theorem State.onStreamOut_bankLast (s : State) (n : Nat) (f : StreamOut → StreamOut) : (s.onStreamOut n f).bankLast = s.bankLast := rfl
@[simp] theorem State.onStreamOut_bankAt (s : State) (n : Nat) (f : StreamOut → StreamOut) : (s.onStreamOut n f).bankAt = s.bankAt := rfl
@[simp] theorem State.onStreamOut_tensors (s : State) (n : Nat) (f : StreamOut → StreamOut) : (s.onStreamOut n f).tensors = s.tensors := rfl
@[simp] theorem State.onStreamOut_alloc (s : State) (n : Nat) (f : StreamOut → StreamOut) : (s.onStreamOut n f).alloc = s.alloc := rfl
@[simp] theorem State.onStreamOut_step (s : State) (n : Nat) (f : StreamOut → StreamOut) : (s.onStreamOut n f).step = s.step := rfl
@[simp] theorem State.onStreamOut_clusters (s : State) (n : Nat) (f : StreamOut → StreamOut) : (s.onStreamOut n f).clusters = s.clusters := rfl
@[simp] theorem State.onStreamOut_lastQueue (s : State) (n : Nat) (f : StreamOut → StreamOut) : (s.onStreamOut n f).lastQueue = s.lastQueue := rfl
@[simp] theorem State.onStreamOut_channels (s : State) (n : Nat) (f : StreamOut → StreamOut) : (s.onStreamOut n f).channels = s.channels := rfl
@[simp] theorem State.onStreamOut_packages (s : State) (n : Nat) (f : StreamOut → StreamOut) : (s.onStreamOut n f).packages = s.packages := rfl
@[simp] theorem State.onStreamOut_stageWait (s : State) (n : Nat) (f : StreamOut → StreamOut) : (s.onStreamOut n f).stageWait = s.stageWait := rfl
@[simp] theorem State.onStreamOut_ports (s : State) (n : Nat) (f : StreamOut → StreamOut) : (s.onStreamOut n f).ports = s.ports := rfl
@[simp] theorem State.onStreamOut_streamsIn (s : State) (n : Nat) (f : StreamOut → StreamOut) : (s.onStreamOut n f).streamsIn = s.streamsIn := rfl
@[simp] theorem State.onStreamOut_reqs (s : State) (n : Nat) (f : StreamOut → StreamOut) : (s.onStreamOut n f).reqs = s.reqs := rfl
@[simp] theorem State.onStreamOut_nextTag (s : State) (n : Nat) (f : StreamOut → StreamOut) : (s.onStreamOut n f).nextTag = s.nextTag := rfl
@[simp] theorem State.onStreamOut_directory (s : State) (n : Nat) (f : StreamOut → StreamOut) : (s.onStreamOut n f).directory = s.directory := rfl
@[simp] theorem State.onStreamOut_snoops (s : State) (n : Nat) (f : StreamOut → StreamOut) : (s.onStreamOut n f).snoops = s.snoops := rfl
@[simp] theorem State.onStreamOut_lineWait (s : State) (n : Nat) (f : StreamOut → StreamOut) : (s.onStreamOut n f).lineWait = s.lineWait := rfl
@[simp] theorem State.onStreamOut_arrivals (s : State) (n : Nat) (f : StreamOut → StreamOut) : (s.onStreamOut n f).arrivals = s.arrivals := rfl
@[simp] theorem State.onStreamOut_collectives (s : State) (n : Nat) (f : StreamOut → StreamOut) : (s.onStreamOut n f).collectives = s.collectives := rfl
@[simp] theorem State.onStreamOut_nextCollective (s : State) (n : Nat) (f : StreamOut → StreamOut) : (s.onStreamOut n f).nextCollective = s.nextCollective := rfl
@[simp] theorem State.onStreamOut_parked (s : State) (n : Nat) (f : StreamOut → StreamOut) : (s.onStreamOut n f).parked = s.parked := rfl
@[simp] theorem State.onStreamOut_colSent (s : State) (n : Nat) (f : StreamOut → StreamOut) : (s.onStreamOut n f).colSent = s.colSent := rfl
@[simp] theorem State.onStreamOut_traek (s : State) (n : Nat) (f : StreamOut → StreamOut) : (s.onStreamOut n f).traek = s.traek := rfl
@[simp] theorem State.onStreamOut_twin (s : State) (n : Nat) (f : StreamOut → StreamOut) : (s.onStreamOut n f).twin = s.twin := rfl
@[simp] theorem State.onStreamOut_regions (s : State) (n : Nat) (f : StreamOut → StreamOut) : (s.onStreamOut n f).regions = s.regions := rfl
@[simp] theorem State.onStreamOut_power (s : State) (n : Nat) (f : StreamOut → StreamOut) : (s.onStreamOut n f).power = s.power := rfl
@[simp] theorem State.onStreamOut_spots (s : State) (n : Nat) (f : StreamOut → StreamOut) : (s.onStreamOut n f).spots = s.spots := rfl
@[simp] theorem State.onStreamOut_cooling (s : State) (n : Nat) (f : StreamOut → StreamOut) : (s.onStreamOut n f).cooling = s.cooling := rfl
@[simp] theorem State.onStreamOut_mgmt (s : State) (n : Nat) (f : StreamOut → StreamOut) : (s.onStreamOut n f).mgmt = s.mgmt := rfl
@[simp] theorem State.onStreamOut_test (s : State) (n : Nat) (f : StreamOut → StreamOut) : (s.onStreamOut n f).test = s.test := rfl
@[simp] theorem State.onStreamOut_boot (s : State) (n : Nat) (f : StreamOut → StreamOut) : (s.onStreamOut n f).boot = s.boot := rfl

@[simp] theorem State.onStreamIn_pending (s : State) (n : Nat) (f : StreamIn → StreamIn) : (s.onStreamIn n f).pending = s.pending := rfl
@[simp] theorem State.onStreamIn_now (s : State) (n : Nat) (f : StreamIn → StreamIn) : (s.onStreamIn n f).now = s.now := rfl
@[simp] theorem State.onStreamIn_fresh (s : State) (n : Nat) (f : StreamIn → StreamIn) : (s.onStreamIn n f).fresh = s.fresh := rfl
@[simp] theorem State.onStreamIn_egress (s : State) (n : Nat) (f : StreamIn → StreamIn) : (s.onStreamIn n f).egress = s.egress := rfl
@[simp] theorem State.onStreamIn_mem (s : State) (n : Nat) (f : StreamIn → StreamIn) : (s.onStreamIn n f).mem = s.mem := rfl
@[simp] theorem State.onStreamIn_marks (s : State) (n : Nat) (f : StreamIn → StreamIn) : (s.onStreamIn n f).marks = s.marks := rfl
@[simp] theorem State.onStreamIn_dict (s : State) (n : Nat) (f : StreamIn → StreamIn) : (s.onStreamIn n f).dict = s.dict := rfl
@[simp] theorem State.onStreamIn_tags (s : State) (n : Nat) (f : StreamIn → StreamIn) : (s.onStreamIn n f).tags = s.tags := rfl
@[simp] theorem State.onStreamIn_log (s : State) (n : Nat) (f : StreamIn → StreamIn) : (s.onStreamIn n f).log = s.log := rfl
@[simp] theorem State.onStreamIn_logSeq (s : State) (n : Nat) (f : StreamIn → StreamIn) : (s.onStreamIn n f).logSeq = s.logSeq := rfl
@[simp] theorem State.onStreamIn_windows (s : State) (n : Nat) (f : StreamIn → StreamIn) : (s.onStreamIn n f).windows = s.windows := rfl
@[simp] theorem State.onStreamIn_queues (s : State) (n : Nat) (f : StreamIn → StreamIn) : (s.onStreamIn n f).queues = s.queues := rfl
@[simp] theorem State.onStreamIn_counters (s : State) (n : Nat) (f : StreamIn → StreamIn) : (s.onStreamIn n f).counters = s.counters := rfl
@[simp] theorem State.onStreamIn_ingress (s : State) (n : Nat) (f : StreamIn → StreamIn) : (s.onStreamIn n f).ingress = s.ingress := rfl
@[simp] theorem State.onStreamIn_bankLast (s : State) (n : Nat) (f : StreamIn → StreamIn) : (s.onStreamIn n f).bankLast = s.bankLast := rfl
@[simp] theorem State.onStreamIn_bankAt (s : State) (n : Nat) (f : StreamIn → StreamIn) : (s.onStreamIn n f).bankAt = s.bankAt := rfl
@[simp] theorem State.onStreamIn_tensors (s : State) (n : Nat) (f : StreamIn → StreamIn) : (s.onStreamIn n f).tensors = s.tensors := rfl
@[simp] theorem State.onStreamIn_alloc (s : State) (n : Nat) (f : StreamIn → StreamIn) : (s.onStreamIn n f).alloc = s.alloc := rfl
@[simp] theorem State.onStreamIn_step (s : State) (n : Nat) (f : StreamIn → StreamIn) : (s.onStreamIn n f).step = s.step := rfl
@[simp] theorem State.onStreamIn_clusters (s : State) (n : Nat) (f : StreamIn → StreamIn) : (s.onStreamIn n f).clusters = s.clusters := rfl
@[simp] theorem State.onStreamIn_lastQueue (s : State) (n : Nat) (f : StreamIn → StreamIn) : (s.onStreamIn n f).lastQueue = s.lastQueue := rfl
@[simp] theorem State.onStreamIn_channels (s : State) (n : Nat) (f : StreamIn → StreamIn) : (s.onStreamIn n f).channels = s.channels := rfl
@[simp] theorem State.onStreamIn_packages (s : State) (n : Nat) (f : StreamIn → StreamIn) : (s.onStreamIn n f).packages = s.packages := rfl
@[simp] theorem State.onStreamIn_stageWait (s : State) (n : Nat) (f : StreamIn → StreamIn) : (s.onStreamIn n f).stageWait = s.stageWait := rfl
@[simp] theorem State.onStreamIn_ports (s : State) (n : Nat) (f : StreamIn → StreamIn) : (s.onStreamIn n f).ports = s.ports := rfl
@[simp] theorem State.onStreamIn_streamsOut (s : State) (n : Nat) (f : StreamIn → StreamIn) : (s.onStreamIn n f).streamsOut = s.streamsOut := rfl
@[simp] theorem State.onStreamIn_reqs (s : State) (n : Nat) (f : StreamIn → StreamIn) : (s.onStreamIn n f).reqs = s.reqs := rfl
@[simp] theorem State.onStreamIn_nextTag (s : State) (n : Nat) (f : StreamIn → StreamIn) : (s.onStreamIn n f).nextTag = s.nextTag := rfl
@[simp] theorem State.onStreamIn_directory (s : State) (n : Nat) (f : StreamIn → StreamIn) : (s.onStreamIn n f).directory = s.directory := rfl
@[simp] theorem State.onStreamIn_snoops (s : State) (n : Nat) (f : StreamIn → StreamIn) : (s.onStreamIn n f).snoops = s.snoops := rfl
@[simp] theorem State.onStreamIn_lineWait (s : State) (n : Nat) (f : StreamIn → StreamIn) : (s.onStreamIn n f).lineWait = s.lineWait := rfl
@[simp] theorem State.onStreamIn_arrivals (s : State) (n : Nat) (f : StreamIn → StreamIn) : (s.onStreamIn n f).arrivals = s.arrivals := rfl
@[simp] theorem State.onStreamIn_collectives (s : State) (n : Nat) (f : StreamIn → StreamIn) : (s.onStreamIn n f).collectives = s.collectives := rfl
@[simp] theorem State.onStreamIn_nextCollective (s : State) (n : Nat) (f : StreamIn → StreamIn) : (s.onStreamIn n f).nextCollective = s.nextCollective := rfl
@[simp] theorem State.onStreamIn_parked (s : State) (n : Nat) (f : StreamIn → StreamIn) : (s.onStreamIn n f).parked = s.parked := rfl
@[simp] theorem State.onStreamIn_colSent (s : State) (n : Nat) (f : StreamIn → StreamIn) : (s.onStreamIn n f).colSent = s.colSent := rfl
@[simp] theorem State.onStreamIn_traek (s : State) (n : Nat) (f : StreamIn → StreamIn) : (s.onStreamIn n f).traek = s.traek := rfl
@[simp] theorem State.onStreamIn_twin (s : State) (n : Nat) (f : StreamIn → StreamIn) : (s.onStreamIn n f).twin = s.twin := rfl
@[simp] theorem State.onStreamIn_regions (s : State) (n : Nat) (f : StreamIn → StreamIn) : (s.onStreamIn n f).regions = s.regions := rfl
@[simp] theorem State.onStreamIn_power (s : State) (n : Nat) (f : StreamIn → StreamIn) : (s.onStreamIn n f).power = s.power := rfl
@[simp] theorem State.onStreamIn_spots (s : State) (n : Nat) (f : StreamIn → StreamIn) : (s.onStreamIn n f).spots = s.spots := rfl
@[simp] theorem State.onStreamIn_cooling (s : State) (n : Nat) (f : StreamIn → StreamIn) : (s.onStreamIn n f).cooling = s.cooling := rfl
@[simp] theorem State.onStreamIn_mgmt (s : State) (n : Nat) (f : StreamIn → StreamIn) : (s.onStreamIn n f).mgmt = s.mgmt := rfl
@[simp] theorem State.onStreamIn_test (s : State) (n : Nat) (f : StreamIn → StreamIn) : (s.onStreamIn n f).test = s.test := rfl
@[simp] theorem State.onStreamIn_boot (s : State) (n : Nat) (f : StreamIn → StreamIn) : (s.onStreamIn n f).boot = s.boot := rfl

@[simp] theorem State.wr_pending (s : State) (a : Nat) (b : Byte) : (s.wr a b).pending = s.pending := rfl
@[simp] theorem State.wr_now (s : State) (a : Nat) (b : Byte) : (s.wr a b).now = s.now := rfl
@[simp] theorem State.wr_fresh (s : State) (a : Nat) (b : Byte) : (s.wr a b).fresh = s.fresh := rfl
@[simp] theorem State.wr_egress (s : State) (a : Nat) (b : Byte) : (s.wr a b).egress = s.egress := rfl
@[simp] theorem State.wr_marks (s : State) (a : Nat) (b : Byte) : (s.wr a b).marks = s.marks := rfl
@[simp] theorem State.wr_dict (s : State) (a : Nat) (b : Byte) : (s.wr a b).dict = s.dict := rfl
@[simp] theorem State.wr_tags (s : State) (a : Nat) (b : Byte) : (s.wr a b).tags = s.tags := rfl
@[simp] theorem State.wr_log (s : State) (a : Nat) (b : Byte) : (s.wr a b).log = s.log := rfl
@[simp] theorem State.wr_logSeq (s : State) (a : Nat) (b : Byte) : (s.wr a b).logSeq = s.logSeq := rfl
@[simp] theorem State.wr_windows (s : State) (a : Nat) (b : Byte) : (s.wr a b).windows = s.windows := rfl
@[simp] theorem State.wr_queues (s : State) (a : Nat) (b : Byte) : (s.wr a b).queues = s.queues := rfl
@[simp] theorem State.wr_counters (s : State) (a : Nat) (b : Byte) : (s.wr a b).counters = s.counters := rfl
@[simp] theorem State.wr_ingress (s : State) (a : Nat) (b : Byte) : (s.wr a b).ingress = s.ingress := rfl
@[simp] theorem State.wr_bankLast (s : State) (a : Nat) (b : Byte) : (s.wr a b).bankLast = s.bankLast := rfl
@[simp] theorem State.wr_bankAt (s : State) (a : Nat) (b : Byte) : (s.wr a b).bankAt = s.bankAt := rfl
@[simp] theorem State.wr_tensors (s : State) (a : Nat) (b : Byte) : (s.wr a b).tensors = s.tensors := rfl
@[simp] theorem State.wr_alloc (s : State) (a : Nat) (b : Byte) : (s.wr a b).alloc = s.alloc := rfl
@[simp] theorem State.wr_step (s : State) (a : Nat) (b : Byte) : (s.wr a b).step = s.step := rfl
@[simp] theorem State.wr_clusters (s : State) (a : Nat) (b : Byte) : (s.wr a b).clusters = s.clusters := rfl
@[simp] theorem State.wr_lastQueue (s : State) (a : Nat) (b : Byte) : (s.wr a b).lastQueue = s.lastQueue := rfl
@[simp] theorem State.wr_channels (s : State) (a : Nat) (b : Byte) : (s.wr a b).channels = s.channels := rfl
@[simp] theorem State.wr_packages (s : State) (a : Nat) (b : Byte) : (s.wr a b).packages = s.packages := rfl
@[simp] theorem State.wr_stageWait (s : State) (a : Nat) (b : Byte) : (s.wr a b).stageWait = s.stageWait := rfl
@[simp] theorem State.wr_ports (s : State) (a : Nat) (b : Byte) : (s.wr a b).ports = s.ports := rfl
@[simp] theorem State.wr_streamsOut (s : State) (a : Nat) (b : Byte) : (s.wr a b).streamsOut = s.streamsOut := rfl
@[simp] theorem State.wr_streamsIn (s : State) (a : Nat) (b : Byte) : (s.wr a b).streamsIn = s.streamsIn := rfl
@[simp] theorem State.wr_reqs (s : State) (a : Nat) (b : Byte) : (s.wr a b).reqs = s.reqs := rfl
@[simp] theorem State.wr_nextTag (s : State) (a : Nat) (b : Byte) : (s.wr a b).nextTag = s.nextTag := rfl
@[simp] theorem State.wr_directory (s : State) (a : Nat) (b : Byte) : (s.wr a b).directory = s.directory := rfl
@[simp] theorem State.wr_snoops (s : State) (a : Nat) (b : Byte) : (s.wr a b).snoops = s.snoops := rfl
@[simp] theorem State.wr_lineWait (s : State) (a : Nat) (b : Byte) : (s.wr a b).lineWait = s.lineWait := rfl
@[simp] theorem State.wr_arrivals (s : State) (a : Nat) (b : Byte) : (s.wr a b).arrivals = s.arrivals := rfl
@[simp] theorem State.wr_collectives (s : State) (a : Nat) (b : Byte) : (s.wr a b).collectives = s.collectives := rfl
@[simp] theorem State.wr_nextCollective (s : State) (a : Nat) (b : Byte) : (s.wr a b).nextCollective = s.nextCollective := rfl
@[simp] theorem State.wr_parked (s : State) (a : Nat) (b : Byte) : (s.wr a b).parked = s.parked := rfl
@[simp] theorem State.wr_colSent (s : State) (a : Nat) (b : Byte) : (s.wr a b).colSent = s.colSent := rfl
@[simp] theorem State.wr_traek (s : State) (a : Nat) (b : Byte) : (s.wr a b).traek = s.traek := rfl
@[simp] theorem State.wr_twin (s : State) (a : Nat) (b : Byte) : (s.wr a b).twin = s.twin := rfl
@[simp] theorem State.wr_regions (s : State) (a : Nat) (b : Byte) : (s.wr a b).regions = s.regions := rfl
@[simp] theorem State.wr_power (s : State) (a : Nat) (b : Byte) : (s.wr a b).power = s.power := rfl
@[simp] theorem State.wr_spots (s : State) (a : Nat) (b : Byte) : (s.wr a b).spots = s.spots := rfl
@[simp] theorem State.wr_cooling (s : State) (a : Nat) (b : Byte) : (s.wr a b).cooling = s.cooling := rfl
@[simp] theorem State.wr_mgmt (s : State) (a : Nat) (b : Byte) : (s.wr a b).mgmt = s.mgmt := rfl
@[simp] theorem State.wr_test (s : State) (a : Nat) (b : Byte) : (s.wr a b).test = s.test := rfl
@[simp] theorem State.wr_boot (s : State) (a : Nat) (b : Byte) : (s.wr a b).boot = s.boot := rfl

@[simp] theorem State.setMark_pending (s : State) (k : Nat) (m : LineMark) : (s.setMark k m).pending = s.pending := rfl
@[simp] theorem State.setMark_now (s : State) (k : Nat) (m : LineMark) : (s.setMark k m).now = s.now := rfl
@[simp] theorem State.setMark_fresh (s : State) (k : Nat) (m : LineMark) : (s.setMark k m).fresh = s.fresh := rfl
@[simp] theorem State.setMark_egress (s : State) (k : Nat) (m : LineMark) : (s.setMark k m).egress = s.egress := rfl
@[simp] theorem State.setMark_mem (s : State) (k : Nat) (m : LineMark) : (s.setMark k m).mem = s.mem := rfl
@[simp] theorem State.setMark_dict (s : State) (k : Nat) (m : LineMark) : (s.setMark k m).dict = s.dict := rfl
@[simp] theorem State.setMark_tags (s : State) (k : Nat) (m : LineMark) : (s.setMark k m).tags = s.tags := rfl
@[simp] theorem State.setMark_log (s : State) (k : Nat) (m : LineMark) : (s.setMark k m).log = s.log := rfl
@[simp] theorem State.setMark_logSeq (s : State) (k : Nat) (m : LineMark) : (s.setMark k m).logSeq = s.logSeq := rfl
@[simp] theorem State.setMark_windows (s : State) (k : Nat) (m : LineMark) : (s.setMark k m).windows = s.windows := rfl
@[simp] theorem State.setMark_queues (s : State) (k : Nat) (m : LineMark) : (s.setMark k m).queues = s.queues := rfl
@[simp] theorem State.setMark_counters (s : State) (k : Nat) (m : LineMark) : (s.setMark k m).counters = s.counters := rfl
@[simp] theorem State.setMark_ingress (s : State) (k : Nat) (m : LineMark) : (s.setMark k m).ingress = s.ingress := rfl
@[simp] theorem State.setMark_bankLast (s : State) (k : Nat) (m : LineMark) : (s.setMark k m).bankLast = s.bankLast := rfl
@[simp] theorem State.setMark_bankAt (s : State) (k : Nat) (m : LineMark) : (s.setMark k m).bankAt = s.bankAt := rfl
@[simp] theorem State.setMark_tensors (s : State) (k : Nat) (m : LineMark) : (s.setMark k m).tensors = s.tensors := rfl
@[simp] theorem State.setMark_alloc (s : State) (k : Nat) (m : LineMark) : (s.setMark k m).alloc = s.alloc := rfl
@[simp] theorem State.setMark_step (s : State) (k : Nat) (m : LineMark) : (s.setMark k m).step = s.step := rfl
@[simp] theorem State.setMark_clusters (s : State) (k : Nat) (m : LineMark) : (s.setMark k m).clusters = s.clusters := rfl
@[simp] theorem State.setMark_lastQueue (s : State) (k : Nat) (m : LineMark) : (s.setMark k m).lastQueue = s.lastQueue := rfl
@[simp] theorem State.setMark_channels (s : State) (k : Nat) (m : LineMark) : (s.setMark k m).channels = s.channels := rfl
@[simp] theorem State.setMark_packages (s : State) (k : Nat) (m : LineMark) : (s.setMark k m).packages = s.packages := rfl
@[simp] theorem State.setMark_stageWait (s : State) (k : Nat) (m : LineMark) : (s.setMark k m).stageWait = s.stageWait := rfl
@[simp] theorem State.setMark_ports (s : State) (k : Nat) (m : LineMark) : (s.setMark k m).ports = s.ports := rfl
@[simp] theorem State.setMark_streamsOut (s : State) (k : Nat) (m : LineMark) : (s.setMark k m).streamsOut = s.streamsOut := rfl
@[simp] theorem State.setMark_streamsIn (s : State) (k : Nat) (m : LineMark) : (s.setMark k m).streamsIn = s.streamsIn := rfl
@[simp] theorem State.setMark_reqs (s : State) (k : Nat) (m : LineMark) : (s.setMark k m).reqs = s.reqs := rfl
@[simp] theorem State.setMark_nextTag (s : State) (k : Nat) (m : LineMark) : (s.setMark k m).nextTag = s.nextTag := rfl
@[simp] theorem State.setMark_directory (s : State) (k : Nat) (m : LineMark) : (s.setMark k m).directory = s.directory := rfl
@[simp] theorem State.setMark_snoops (s : State) (k : Nat) (m : LineMark) : (s.setMark k m).snoops = s.snoops := rfl
@[simp] theorem State.setMark_lineWait (s : State) (k : Nat) (m : LineMark) : (s.setMark k m).lineWait = s.lineWait := rfl
@[simp] theorem State.setMark_arrivals (s : State) (k : Nat) (m : LineMark) : (s.setMark k m).arrivals = s.arrivals := rfl
@[simp] theorem State.setMark_collectives (s : State) (k : Nat) (m : LineMark) : (s.setMark k m).collectives = s.collectives := rfl
@[simp] theorem State.setMark_nextCollective (s : State) (k : Nat) (m : LineMark) : (s.setMark k m).nextCollective = s.nextCollective := rfl
@[simp] theorem State.setMark_parked (s : State) (k : Nat) (m : LineMark) : (s.setMark k m).parked = s.parked := rfl
@[simp] theorem State.setMark_colSent (s : State) (k : Nat) (m : LineMark) : (s.setMark k m).colSent = s.colSent := rfl
@[simp] theorem State.setMark_traek (s : State) (k : Nat) (m : LineMark) : (s.setMark k m).traek = s.traek := rfl
@[simp] theorem State.setMark_twin (s : State) (k : Nat) (m : LineMark) : (s.setMark k m).twin = s.twin := rfl
@[simp] theorem State.setMark_regions (s : State) (k : Nat) (m : LineMark) : (s.setMark k m).regions = s.regions := rfl
@[simp] theorem State.setMark_power (s : State) (k : Nat) (m : LineMark) : (s.setMark k m).power = s.power := rfl
@[simp] theorem State.setMark_spots (s : State) (k : Nat) (m : LineMark) : (s.setMark k m).spots = s.spots := rfl
@[simp] theorem State.setMark_cooling (s : State) (k : Nat) (m : LineMark) : (s.setMark k m).cooling = s.cooling := rfl
@[simp] theorem State.setMark_mgmt (s : State) (k : Nat) (m : LineMark) : (s.setMark k m).mgmt = s.mgmt := rfl
@[simp] theorem State.setMark_test (s : State) (k : Nat) (m : LineMark) : (s.setMark k m).test = s.test := rfl
@[simp] theorem State.setMark_boot (s : State) (k : Nat) (m : LineMark) : (s.setMark k m).boot = s.boot := rfl

@[simp] theorem State.tick_now (s : State) (t : Nat) : (s.tick t).now =
    if s.power.standFor = 0 then max s.now t else s.now := rfl
@[simp] theorem State.drawn_fresh (s : State) : s.drawn.fresh = s.fresh + 1 := rfl
@[simp] theorem State.send_egress (s : State) (e : Egress) : (s.send e).egress = s.egress ++ [e] := rfl

/-! ### What a record reads as after an update -/

theorem State.dv_setDv (s : State) (k v j : Nat) : (s.setDv k v).dv j = if j = k then v else s.dv j := by
  simp only [State.dv, State.setDv, look_put]
  by_cases h : j = k
  · subst h; simp only [if_true]; split <;> simp_all
  · simp [h]

@[simp] theorem State.dv_setDv_same (s : State) (k v : Nat) : (s.setDv k v).dv k = v := by simp [State.dv_setDv]

theorem State.dv_setDv_ne (s : State) (v : Nat) {k j : Nat} (h : j ≠ k) : (s.setDv k v).dv j = s.dv j := by
  simp [State.dv_setDv, h]

theorem State.dv_bump (s : State) (k n j : Nat) :
    (s.bump k n).dv j = if j = k then (s.dv k + n) % 256 ^ entrySize k else s.dv j := s.dv_setDv ..

theorem State.rd_wr (s : State) (a : Nat) (b : Byte) (x : Nat) : (s.wr a b).rd x = if x = a then b else s.rd x :=
  look_put ..

theorem State.counter_setCounter (s : State) (n : Nat) (v : BitVec 64) (m : Nat) :
    (s.setCounter n v).counter m = if m = n then v else s.counter m := look_put ..

theorem State.queue_setQueue (s : State) (k : Nat) (r : Queue) (j : Nat) :
    (s.setQueue k r).queue j = if j = k then r else s.queue j := look_put ..

theorem State.queue_onQueue (s : State) (k : Nat) (f : Queue → Queue) (j : Nat) :
    (s.onQueue k f).queue j = if j = k then f (s.queue k) else s.queue j := look_put ..

@[simp] theorem State.queue_onQueue_same (s : State) (k : Nat) (f : Queue → Queue) :
    (s.onQueue k f).queue k = f (s.queue k) := by simp [State.queue_onQueue]

theorem State.cluster_setCluster (s : State) (k : Nat) (r : Cluster) (j : Nat) :
    (s.setCluster k r).cluster j = if j = k then r else s.cluster j := look_put ..

theorem State.cluster_onCluster (s : State) (k : Nat) (f : Cluster → Cluster) (j : Nat) :
    (s.onCluster k f).cluster j = if j = k then f (s.cluster k) else s.cluster j := look_put ..

@[simp] theorem State.cluster_onCluster_same (s : State) (k : Nat) (f : Cluster → Cluster) :
    (s.onCluster k f).cluster k = f (s.cluster k) := by simp [State.cluster_onCluster]

theorem State.channel_setChannel (s : State) (k : Nat) (r : Channel) (j : Nat) :
    (s.setChannel k r).channel j = if j = k then r else s.channel j := look_put ..

theorem State.channel_onChannel (s : State) (k : Nat) (f : Channel → Channel) (j : Nat) :
    (s.onChannel k f).channel j = if j = k then f (s.channel k) else s.channel j := look_put ..

@[simp] theorem State.channel_onChannel_same (s : State) (k : Nat) (f : Channel → Channel) :
    (s.onChannel k f).channel k = f (s.channel k) := by simp [State.channel_onChannel]

theorem State.package_setPackage (s : State) (k : Nat) (r : Package) (j : Nat) :
    (s.setPackage k r).package j = if j = k then r else s.package j := look_put ..

theorem State.package_onPackage (s : State) (k : Nat) (f : Package → Package) (j : Nat) :
    (s.onPackage k f).package j = if j = k then f (s.package k) else s.package j := look_put ..

@[simp] theorem State.package_onPackage_same (s : State) (k : Nat) (f : Package → Package) :
    (s.onPackage k f).package k = f (s.package k) := by simp [State.package_onPackage]

theorem State.port_setPort (s : State) (k : Nat) (r : Port) (j : Nat) :
    (s.setPort k r).port j = if j = k then r else s.port j := look_put ..

theorem State.port_onPort (s : State) (k : Nat) (f : Port → Port) (j : Nat) :
    (s.onPort k f).port j = if j = k then f (s.port k) else s.port j := look_put ..

@[simp] theorem State.port_onPort_same (s : State) (k : Nat) (f : Port → Port) :
    (s.onPort k f).port k = f (s.port k) := by simp [State.port_onPort]

theorem State.region_setRegion (s : State) (k : Nat) (r : Region) (j : Nat) :
    (s.setRegion k r).region j = if j = k then r else s.region j := look_put ..

theorem State.region_onRegion (s : State) (k : Nat) (f : Region → Region) (j : Nat) :
    (s.onRegion k f).region j = if j = k then f (s.region k) else s.region j := look_put ..

@[simp] theorem State.region_onRegion_same (s : State) (k : Nat) (f : Region → Region) :
    (s.onRegion k f).region k = f (s.region k) := by simp [State.region_onRegion]

theorem State.spot_setSpot (s : State) (k : Nat) (r : HotSpot) (j : Nat) :
    (s.setSpot k r).spot j = if j = k then r else s.spot j := look_put ..

theorem State.spot_onSpot (s : State) (k : Nat) (f : HotSpot → HotSpot) (j : Nat) :
    (s.onSpot k f).spot j = if j = k then f (s.spot k) else s.spot j := look_put ..

@[simp] theorem State.spot_onSpot_same (s : State) (k : Nat) (f : HotSpot → HotSpot) :
    (s.onSpot k f).spot k = f (s.spot k) := by simp [State.spot_onSpot]

theorem State.tensor_setTensor (s : State) (h : Nat) (t : Option Tensor) (j : Nat) :
    (s.setTensor h t).tensor j = if j = h then t else s.tensor j := look_put ..

theorem State.tensor_onTensor (s : State) (h : Nat) (f : Tensor → Tensor) (j : Nat) :
    (s.onTensor h f).tensor j = if j = h then (s.tensor h).map f else s.tensor j := look_put ..

end Sys2Proof.Machine
end

