-- ==== Sys2Proof/Laws/Flow.lean ====
section
/-!
SUPPORT. What the shared operations of command lists do: taking a command, completing it at once, going on behind it.
-/

namespace Sys2Proof.Machine

/-- A queue whose core takes a command runs that list. -/
theorem Takes.run {s : State} {q : Nat} {l : ListRun} {c : Line} {rs ws : List Nat} (h : Takes s q l c rs ws) :
    (s.queue q).run = some l := by
  have h1 := h.1
  unfold State.fetching at h1
  simp only at h1
  split at h1
  · split at h1
    · next hr => split at h1 <;> simp_all
    · cases h1
  · cases h1

/-- The core takes a command that passes its checks: it goes on as `go` says. -/
theorem Takes.take_go {s : State} {q : Nat} {l : ListRun} {c : Line} {rs ws : List Nat} (h : Takes s q l c rs ws)
    {check : ListRun → Option Fail} {go : ListRun → State} (hc : check l = none) : s.take q c rs ws check go = go l := by
  obtain ⟨h1, h2, h3⟩ := h
  simp [State.take, h1, h2, h3, hc]

/-- The core takes a command that fails a check: it completes with what the check reports. -/
theorem Takes.take_fail {s : State} {q : Nat} {l : ListRun} {c : Line} {rs ws : List Nat} (h : Takes s q l c rs ws)
    {check : ListRun → Option Fail} {go : ListRun → State} {f : Fail} (hc : check l = some f) :
    s.take q c rs ws check go = s.atOnce q l c f := by
  obtain ⟨h1, h2, h3⟩ := h
  simp [State.take, h1, h2, h3, hc]

/-- A command that completes as it is taken, with room for its record. -/
theorem State.atOnce_room {s : State} {q : Nat} {l : ListRun} {c : Line} {f : Fail} (h : HasRoom s q c f.st)
    (eff : State → State) : s.atOnce q l c f eff = (eff (s.passed q l c)).completed s q l c f := by
  unfold HasRoom at h
  simp [State.atOnce, State.completed, State.passed, h]

theorem State.advance_queue (s : State) (q : Nat) : (s.advance q).queue q =
    { s.queue q with serial := (s.queue q).serial + 1, run := (s.queue q).run.map (fun l => { l with pc := l.pc + 1 }) } := by
  simp [State.advance]

@[simp] theorem State.advance_stack (s : State) (q : Nat) : ((s.advance q).queue q).stack = (s.queue q).stack := by
  simp [State.advance_queue]

theorem State.advance_run {s : State} {q : Nat} {l : ListRun} (h : (s.queue q).run = some l) :
    ((s.advance q).queue q).run = some { l with pc := l.pc + 1 } := by simp [State.advance_queue, h]

/-! ### Frames -/

theorem OnlyChanges.refl (fs : List Field) (s : State) : OnlyChanges fs s s := fun f _ => by cases f <;> rfl

theorem OnlyChanges.trans {fs : List Field} {s t u : State} (h : OnlyChanges fs s t) (g : OnlyChanges fs t u) :
    OnlyChanges fs s u := fun f hf => by
  have a := h f hf
  have b := g f hf
  cases f <;> exact Eq.trans b a

theorem OnlyChanges.mono {fs gs : List Field} {s t : State} (h : OnlyChanges fs s t) (hs : fs ⊆ gs) : OnlyChanges gs s t :=
  fun f hf => h f (fun x => hf (hs x))

theorem onlyChanges_onQueue (s : State) (q : Nat) (f : Queue → Queue) : OnlyChanges [.queues] s (s.onQueue q f) := by
  intro x hx
  cases x <;> first | rfl | exact absurd (List.mem_singleton.2 rfl) hx

theorem onlyChanges_advance (s : State) (q : Nat) : OnlyChanges [.queues] s (s.advance q) := onlyChanges_onQueue s q _

/-- Naming a summary slot is noted in the queue alone. -/
theorem onlyChanges_nameSlot (s : State) (q : Nat) (st : Started) : OnlyChanges [.queues] s (s.nameSlot q st) := by
  unfold State.nameSlot
  split
  · exact OnlyChanges.refl _ s
  · exact onlyChanges_onQueue s q _

theorem onlyChanges_passed (s : State) (q : Nat) (l : ListRun) (c : Line) : OnlyChanges [.queues] s (s.passed q l c) :=
  (onlyChanges_advance s q).trans (onlyChanges_nameSlot _ q _)

theorem onlyChanges_setQueue (s : State) (q : Nat) (r : Queue) : OnlyChanges [.queues] s (s.setQueue q r) := by
  intro x hx
  cases x <;> first | rfl | exact absurd (List.mem_singleton.2 rfl) hx

theorem onlyChanges_tick (s : State) (t : Nat) : OnlyChanges [.now] s (s.tick t) := by
  intro x hx
  cases x <;> first | rfl | exact absurd (List.mem_singleton.2 rfl) hx

theorem onlyChanges_setDv (s : State) (k v : Nat) : OnlyChanges [.dict] s (s.setDv k v) := by
  intro x hx
  cases x <;> first | rfl | exact absurd (List.mem_singleton.2 rfl) hx

theorem onlyChanges_setChannel (s : State) (c : Nat) (r : Channel) : OnlyChanges [.channels] s (s.setChannel c r) := by
  intro x hx
  cases x <;> first | rfl | exact absurd (List.mem_singleton.2 rfl) hx

/-! ### Rows of clocks, power and cooling -/

theorem foldl_keeps {α β : Type} (P : α → α → Prop) (hr : ∀ a, P a a) (ht : ∀ a b c, P a b → P b c → P a c)
    (f : α → β → α) (l : List β) (hf : ∀ a, ∀ b ∈ l, P a (f a b)) (a : α) : P a (l.foldl f a) := by
  induction l generalizing a with
  | nil => exact hr a
  | cons b l ih =>
    exact ht _ _ _ (hf a b List.mem_cons_self) (ih (fun a c hc => hf a c (List.mem_cons_of_mem _ hc)) _)

theorem Throttled.refl (v : State) : Throttled v v := ⟨OnlyChanges.refl _ v, fun _ _ => rfl⟩

theorem Throttled.trans {v w u : State} (h : Throttled v w) (g : Throttled w u) : Throttled v u :=
  ⟨h.1.trans g.1, fun k hk => (g.2 k hk).trans (h.2 k hk)⟩

theorem throttled_throttleEvent (v : State) {r : Nat} (hr : r < 256) : Throttled v (v.throttleEvent r) := by
  refine ⟨onlyChanges_setDv v _ _, fun k hk => ?_⟩
  rw [State.throttleEvent, State.dv_setDv, if_neg]
  omega

/-- A timed row acts in the state of its device time, and only counts throttle events behind that. -/
theorem throttled_timed (s : State) (t : Nat) (f : State → State) : Throttled (f (s.atTime t)) (s.timed t f) := by
  unfold State.timed
  refine foldl_keeps Throttled Throttled.refl (fun _ _ _ => Throttled.trans) _ _ (fun a r hr => ?_) _
  refine foldl_keeps Throttled Throttled.refl (fun _ _ _ => Throttled.trans) _ _ (fun b _ _ => ?_) _
  apply throttled_throttleEvent
  simp [heldReasons] at hr
  omega

/-! ### Packets and writes of a master -/

theorem State.arrive_reaches {s : State} {p : Packet} (h : Reaches s p) (op : Nat) (go : State → State) :
    s.arrive p op go = (go s).bufferFreed p op := by
  obtain ⟨hr, hv⟩ := h
  unfold State.arrive State.bufferFreed
  cases hp : p.via with
  | traek => simp [hp] at hv; simp [State.linkTakes, hp, hv, hr]
  | fabric n => simp [hp] at hv; simp [State.linkTakes, hp, hv, hr]

theorem State.masterWrite_may {s : State} {m : Master} {key len value : Nat} {f : State → State × Nat} (h : MayWrite s m key len)
    (hf : refusedStatus (f (s.renewHold m)).2 = false) :
    (s.masterWrite m key len value f).1 = ((f (s.renewHold m)).1).written m key value := by
  unfold MayWrite at h
  simp [State.masterWrite, h, hf, State.written]

end Sys2Proof.Machine
end

