-- ==== Sys2Proof/Laws/Memory.lean ====
section
/-!
SUPPORT. Memory: what the operations that write bytes leave, byte by byte, and the places of LPDDR addresses.
-/

namespace Sys2Proof.Machine

/-- R213: the interleaved addresses are those of the packages. -/
theorem stripe_lt {o : Nat} (h : o < 0x20000000000) : stripe o < 2 ^ 41 := by
  simp only [stripe]
  have h1 : o / 4096 / 128 < 4194304 := by omega
  have h2 : o / 4096 % 32 < 32 := Nat.mod_lt _ (by omega)
  have h3 : o / 4096 / 32 % 4 < 4 := Nat.mod_lt _ (by omega)
  have h4 : o % 4096 < 4096 := Nat.mod_lt _ (by omega)
  generalize o / 4096 / 128 = k at *
  generalize o / 4096 % 32 = n at *
  generalize o / 4096 / 32 % 4 = c at *
  generalize o % 4096 = r at *
  omega

/-- R213: a place in LPDDR lies below 2 TiB. -/
theorem place_lt {a n : Nat} (h : place a = .lpddr n) : n < 2 ^ 41 := by
  unfold place at h
  by_cases h1 : a < 0x20000000000
  · rw [if_pos h1] at h; injection h with h; omega
  rw [if_neg h1] at h
  by_cases h2 : a < 0x40000000000
  · rw [if_pos h2] at h; injection h with h; rw [← h]; exact stripe_lt (by omega)
  rw [if_neg h2] at h
  repeat' split at h
  all_goals cases h

/-- Below 2 TiB an address is its own place. -/
theorem memKey_low {a : Nat} (h : a < 2 ^ 41) : memKey a = a := by
  simp [memKey, place, show a < 0x20000000000 from h]

/-- What `wrMasked` writes: the bytes it names, at their places, and no other. -/
theorem State.mem_wrMasked (bs : List (Option Byte)) : ∀ (s : State) (a : Nat), a + bs.length ≤ 2 ^ 41 →
    (∀ i b, bs[i]? = some (some b) → (s.wrMasked a bs).rd (a + i) = b) ∧
    (∀ x, (∀ i b, bs[i]? = some (some b) → x ≠ a + i) → (s.wrMasked a bs).rd x = s.rd x) := by
  induction bs with
  | nil => intro s a _; simp [State.wrMasked]
  | cons o bs ih =>
    intro s a hb
    simp only [List.length_cons] at hb
    cases o with
    | none =>
      obtain ⟨h1, h2⟩ := ih s (a + 1) (by omega)
      refine ⟨fun i b h => ?_, fun x h => ?_⟩
      · cases i with
        | zero => simp at h
        | succ i => rw [State.wrMasked, show a + (i + 1) = a + 1 + i by omega]; exact h1 i b (by simpa using h)
      · rw [State.wrMasked]; exact h2 x (fun i b e => by have := h (i + 1) b (by simpa using e); omega)
    | some c =>
      have hk : memKey a = a := memKey_low (by omega)
      obtain ⟨h1, h2⟩ := ih (s.wr a c) (a + 1) (by omega)
      refine ⟨fun i b h => ?_, fun x h => ?_⟩
      · cases i with
        | zero =>
          simp at h; subst h
          simp only [State.wrMasked, hk, Nat.add_zero]; rw [h2 a (fun i b e => by omega), State.rd_wr, if_pos rfl]
        | succ i => rw [State.wrMasked, hk, show a + (i + 1) = a + 1 + i by omega]; exact h1 i b (by simpa using h)
      · rw [State.wrMasked, hk, h2 x (fun i b e => by have := h (i + 1) b (by simpa using e); omega), State.rd_wr,
          if_neg (by have := h 0 c (by simp); omega)]

/-- The interleave keeps an address within its 256 bytes. -/
theorem stripe_mod (o : Nat) : stripe o % 256 = o % 256 := by
  simp only [stripe]
  generalize o / 4096 / 128 = k at *
  generalize o / 4096 % 32 = n at *
  generalize o / 4096 / 32 % 4 = c at *
  omega

/-- A place in LPDDR keeps an address within its 256 bytes. -/
theorem place_mod {a n : Nat} (h : place a = .lpddr n) : n % 256 = a % 256 := by
  unfold place at h
  by_cases h1 : a < 0x20000000000
  · rw [if_pos h1] at h; injection h with h; omega
  rw [if_neg h1] at h
  by_cases h2 : a < 0x40000000000
  · rw [if_pos h2] at h; have h := Place.lpddr.inj h; have := stripe_mod (a - 0x20000000000); rw [h] at this; omega
  rw [if_neg h2] at h
  repeat' split at h
  all_goals cases h

/-- What `wrBytes` writes: its bytes, at their places, and no other. -/
theorem State.mem_wrBytes (bs : List Byte) : ∀ (s : State) (a : Nat), a + bs.length ≤ 2 ^ 41 →
    (s.wrBytes a bs).rdBytes a bs.length = bs ∧ ∀ x, x < a ∨ a + bs.length ≤ x → (s.wrBytes a bs).rd x = s.rd x := by
  induction bs with
  | nil => intro s a _; simp [State.wrBytes, State.rdBytes]
  | cons b bs ih =>
    intro s a hb
    simp only [List.length_cons] at hb
    have hk : memKey a = a := memKey_low (by omega)
    obtain ⟨h1, h2⟩ := ih (s.wr a b) (a + 1) (by omega)
    simp only [State.wrBytes, State.rdBytes, List.length_cons, hk]
    refine ⟨?_, fun x hx => ?_⟩
    · rw [h1, h2 a (by omega), State.rd_wr, if_pos rfl]
    · rw [h2 x (by omega), State.rd_wr, if_neg (by omega)]

/-- `leBytes n` gives n bytes. -/
theorem length_leBytes (n : Nat) : ∀ v, (leBytes n v).length = n := by
  induction n with
  | zero => intro v; rfl
  | succ n ih => intro v; simp [leBytes, ih]

/-- A read of bytes depends on memory alone. -/
theorem State.rdBytes_congr {s u : State} (h : u.mem = s.mem) (n : Nat) : ∀ a, u.rdBytes a n = s.rdBytes a n := by
  induction n with
  | zero => intro a; rfl
  | succ n ih => intro a; simp only [State.rdBytes, ih, State.rd, h]

/-- `wrMasked` changes memory alone. -/
theorem State.wrMasked_eq (bs : List (Option Byte)) : ∀ (s : State) (a : Nat), ∃ m, s.wrMasked a bs = { s with mem := m } := by
  induction bs with
  | nil => intro s a; exact ⟨s.mem, rfl⟩
  | cons o bs ih =>
    intro s a
    cases o with
    | none => exact ih s (a + 1)
    | some b => obtain ⟨m, h⟩ := ih (s.wr (memKey a) b) (a + 1); exact ⟨m, by rw [State.wrMasked, h]; rfl⟩

/-- R223: a partial store that needs no place of an older entry changes its channel and the mark of its line. -/
theorem State.notePartial_frame (s : State) (line : Nat) (mask : BitVec 64) (src : Nat)
    (h : mask = BitVec.allOnes 64 ∨ (s.channel (chanOf line)).wc.length < 64 ∨ (s.channel (chanOf line)).wc.any (fun e => e.line == line) = true) :
    OnlyChanges [.marks, .channels] s (s.notePartial line mask src) := by
  have hw : (((s.wakeChannel (chanOf line)).dropEntry line).channel (chanOf line)).wc = (s.channel (chanOf line)).wc := by
    simp only [State.dropEntry, State.wakeChannel, State.channel_onChannel, if_true]
    split <;> rfl
  have h0 : OnlyChanges [.marks, .channels] s ((s.wakeChannel (chanOf line)).dropEntry line) := by
    intro f hf
    cases f <;> simp at hf <;> simp [State.same, State.dropEntry, State.wakeChannel]
  have h1 : ∀ f, OnlyChanges [.marks, .channels] s ((((s.wakeChannel (chanOf line)).dropEntry line)).onChannel (chanOf line) f) := by
    intro f g hg
    have := h0 g hg
    cases g <;> simp at hg <;> simpa [State.same] using this
  have h2 : ∀ u k m, OnlyChanges [.marks, .channels] s u → OnlyChanges [.marks, .channels] s (u.setMark k m) := by
    intro u k m hu g hg
    have := hu g hg
    cases g <;> simp at hg <;> simpa [State.same, State.setMark] using this
  simp only [State.notePartial, hw]
  split
  · apply h2
    split
    · exact h1 _
    · exact h0
  · rename_i hm
    split
    · exact h1 _
    · rename_i ho
      have hlen : ¬ 64 ≤ (s.channel (chanOf line)).wc.length := by
        rcases h with h | h | h
        · exact absurd (by rw [h]; exact BitVec.allOnes_or) hm
        · omega
        · exfalso; apply ho
          rw [List.any_eq_true] at h
          obtain ⟨e, he, hl⟩ := h
          simp only [Option.isSome_map, List.find?_isSome]
          exact ⟨e, he, hl⟩
      rw [if_neg hlen]
      exact h1 _

end Sys2Proof.Machine
end

