-- ==== Sys2Proof/WellFormed.lean ====
section
/-!
DEFINITION. When a command is well formed: a list command's opcode byte is its row's (R173, R231, R281, R325), a pairing record's
kind is its row's (R311), a dictionary frame comes from the master its carrier allows, and byte lists have the lengths the spec
gives. The meanings are total on ill-formed commands too.
-/

namespace Sys2Proof

/-- A list command: its row's opcode and the 64 bytes fetched. -/
def Instr.listCommand : Instr → Option (Nat × Line)
  | .endCmd _ c => some (0x00, c)
  | .fence _ c => some (0x01, c)
  | .waitCounter _ c => some (0x02, c)
  | .signalCounter _ c => some (0x03, c)
  | .branchIfSummary _ c => some (0x04, c)
  | .loop _ c => some (0x05, c)
  | .call _ c => some (0x06, c)
  | .tensorCreate _ c _ => some (0x08, c)
  | .tensorFree _ c => some (0x09, c)
  | .tensorAttr _ c => some (0x0A, c)
  | .matmul _ c => some (0x10, c.line)
  | .vector _ c => some (0x20, c.line)
  | .update _ c => some (0x30, c.line)
  | .copy _ c => some (0x40, c.line)
  | .add _ c => some (0x41, c.line)
  | .fill _ c => some (0x42, c)
  | .reduce _ c => some (0x50, c)
  | .allReduce _ c => some (0x51, c)
  | .reduceScatter _ c => some (0x52, c)
  | .allGather _ c => some (0x53, c)
  | .broadcast _ c => some (0x54, c)
  | .stopBath _ c => some (0x60, c)
  | .release _ c => some (0x61, c)
  | .sheet _ c => some (0x62, c)
  | .sheetAbort _ c => some (0x63, c)
  | .restore _ c _ => some (0x64, c)
  | _ => none

/-- A pairing record: its row's kind and the packet that carries it (R311). -/
def Instr.pairingRecord : Instr → Option (Nat × Packet)
  | .offer p => some (1, p)
  | .evidence p => some (2, p)
  | .accept p => some (3, p)
  | .refuse p => some (4, p)
  | .detach p _ => some (5, p)
  | .pairingRelease p => some (6, p)
  | _ => none

/-- Byte lists a command carries, each with the length the spec gives it. -/
def Instr.sizedBytes : Instr → List (List Byte × Nat)
  | .flitReceive _ f => [(f, 224)]
  | .traekFlitReceive f => [(f, 276)]
  | .wcPartialStore _ _ d _ => [(d, 64)]
  | .adderOperation ⟨.line _ _ d, _, _⟩ _ => [(d, 64)]
  | .attestationNonce _ n _ => [(n, 32)]
  | .flashData _ b => [(b, 1024)]
  | _ => []

/-- A whole-line add is of a number type, not of a book contribution (R220, R221). -/
def Instr.adderKindOk : Instr → Bool
  | .adderOperation ⟨.line _ .book _, _, _⟩ _ => false
  | _ => true

/-- R167: a store to a watch line stays in its 64 bytes. -/
def Instr.watchStoreOk : Instr → Bool
  | .watchLineStore _ off b => decide (off.val + b.length ≤ 64)
  | _ => true

/-- A well-formed command. -/
def Instr.wellFormed (i : Instr) : Bool :=
  (match i.listCommand with | some x => x.2.toNat % 256 == x.1 | none => true) &&
  (match i.pairingRecord with | some x => (x.2.data.getD 4 0).toNat == x.1 && x.2.data.length == 256 | none => true) &&
  i.sizedBytes.all (fun x => x.1.length == x.2) && i.adderKindOk && i.watchStoreOk

end Sys2Proof
end

