-- ==== Sys2Proof/Laws/PerInstr.lean ====
section
/-!
SUPPORT. Statements made per command. `ListOpcode`: a well-formed command of a list carries its row's opcode in byte 0 of its
64 bytes, and that opcode is none of the reserved ones (R172, R173).
-/

namespace Sys2Proof.Laws

/-- The opcode byte of a well-formed list command is its row's, and not a reserved one. -/
def ListOpcode.Statement (i : Instr) : Prop :=
  i.wellFormed = true → ∀ n c, i.listCommand = some (n, c) → Machine.cmdOp c = n ∧ Machine.reservedOp n = false

theorem cmdOp_eq (c : Line) : Machine.cmdOp c = c.toNat % 256 := by
  simp [Machine.cmdOp, Machine.fld, Machine.natFld]

theorem listCommand_not_reserved (i : Instr) (n : Nat) (c : Line) (h : i.listCommand = some (n, c)) :
    Machine.reservedOp n = false := by
  cases i <;> simp only [Instr.listCommand, Option.some.injEq, Prod.mk.injEq, reduceCtorEq] at h <;>
    (obtain ⟨rfl, -⟩ := h; decide)

theorem listOpcode (i : Instr) : ListOpcode.Statement i := by
  intro hw n c h
  refine ⟨?_, listCommand_not_reserved i n c h⟩
  rw [cmdOp_eq]
  simp only [Instr.wellFormed, h, Bool.and_eq_true, beq_iff_eq] at hw
  exact hw.1.1.1.1

theorem ListOpcode.endCmd (q : Fin 256) (c : Line) :
    ListOpcode.Statement (.endCmd q c) := listOpcode _

theorem ListOpcode.fence (q : Fin 256) (c : Line) :
    ListOpcode.Statement (.fence q c) := listOpcode _

theorem ListOpcode.waitCounter (q : Fin 256) (c : Line) :
    ListOpcode.Statement (.waitCounter q c) := listOpcode _

theorem ListOpcode.waitCounterTimeout (q : Fin 256) (t : Nat) :
    ListOpcode.Statement (.waitCounterTimeout q t) := listOpcode _

theorem ListOpcode.signalCounter (q : Fin 256) (c : Line) :
    ListOpcode.Statement (.signalCounter q c) := listOpcode _

theorem ListOpcode.branchIfSummary (q : Fin 256) (c : Line) :
    ListOpcode.Statement (.branchIfSummary q c) := listOpcode _

theorem ListOpcode.loop (q : Fin 256) (c : Line) :
    ListOpcode.Statement (.loop q c) := listOpcode _

theorem ListOpcode.call (q : Fin 256) (c : Line) :
    ListOpcode.Statement (.call q c) := listOpcode _

theorem ListOpcode.tensorCreate (q : Fin 256) (c : Line) (hostDesc : Line) :
    ListOpcode.Statement (.tensorCreate q c hostDesc) := listOpcode _

theorem ListOpcode.tensorFree (q : Fin 256) (c : Line) :
    ListOpcode.Statement (.tensorFree q c) := listOpcode _

theorem ListOpcode.tensorAttr (q : Fin 256) (c : Line) :
    ListOpcode.Statement (.tensorAttr q c) := listOpcode _

theorem ListOpcode.matmul (q : Fin 256) (c : CmdRead) :
    ListOpcode.Statement (.matmul q c) := listOpcode _

theorem ListOpcode.vector (q : Fin 256) (c : CmdRead) :
    ListOpcode.Statement (.vector q c) := listOpcode _

theorem ListOpcode.update (q : Fin 256) (c : CmdRead) :
    ListOpcode.Statement (.update q c) := listOpcode _

theorem ListOpcode.updateVerdictAction (q : Fin 256) (id : Nat) :
    ListOpcode.Statement (.updateVerdictAction q id) := listOpcode _

theorem ListOpcode.copy (q : Fin 256) (c : CmdRead) :
    ListOpcode.Statement (.copy q c) := listOpcode _

theorem ListOpcode.add (q : Fin 256) (c : CmdRead) :
    ListOpcode.Statement (.add q c) := listOpcode _

theorem ListOpcode.fill (q : Fin 256) (c : Line) :
    ListOpcode.Statement (.fill q c) := listOpcode _

theorem ListOpcode.transferReadback (q : Fin 256) (id : Nat) (t : Nat) :
    ListOpcode.Statement (.transferReadback q id t) := listOpcode _

theorem ListOpcode.transferRemoteSignal (q : Fin 256) (id : Nat) :
    ListOpcode.Statement (.transferRemoteSignal q id) := listOpcode _

theorem ListOpcode.reduce (q : Fin 256) (c : Line) :
    ListOpcode.Statement (.reduce q c) := listOpcode _

theorem ListOpcode.allReduce (q : Fin 256) (c : Line) :
    ListOpcode.Statement (.allReduce q c) := listOpcode _

theorem ListOpcode.reduceScatter (q : Fin 256) (c : Line) :
    ListOpcode.Statement (.reduceScatter q c) := listOpcode _

theorem ListOpcode.allGather (q : Fin 256) (c : Line) :
    ListOpcode.Statement (.allGather q c) := listOpcode _

theorem ListOpcode.broadcast (q : Fin 256) (c : Line) :
    ListOpcode.Statement (.broadcast q c) := listOpcode _

theorem ListOpcode.stopBath (q : Fin 256) (c : Line) :
    ListOpcode.Statement (.stopBath q c) := listOpcode _

theorem ListOpcode.release (q : Fin 256) (c : Line) :
    ListOpcode.Statement (.release q c) := listOpcode _

theorem ListOpcode.sheet (q : Fin 256) (c : Line) :
    ListOpcode.Statement (.sheet q c) := listOpcode _

theorem ListOpcode.sheetAbort (q : Fin 256) (c : Line) :
    ListOpcode.Statement (.sheetAbort q c) := listOpcode _

theorem ListOpcode.restore (q : Fin 256) (c : Line) (source : SourceRead) :
    ListOpcode.Statement (.restore q c source) := listOpcode _

theorem ListOpcode.commandComplete (q : Fin 256) (id : Nat) :
    ListOpcode.Statement (.commandComplete q id) := listOpcode _

theorem ListOpcode.watchLineStore (q : Fin 256) (offset : Fin 64) (bytes : List Byte) :
    ListOpcode.Statement (.watchLineStore q offset bytes) := listOpcode _

theorem ListOpcode.queueEnable (q : Fin 256) :
    ListOpcode.Statement (.queueEnable q) := listOpcode _

theorem ListOpcode.queueDisable (q : Fin 256) :
    ListOpcode.Statement (.queueDisable q) := listOpcode _

theorem ListOpcode.listStart (q : Fin 256) (host : EntryRead) :
    ListOpcode.Statement (.listStart q host) := listOpcode _

theorem ListOpcode.queueRehome (q : Fin 256) :
    ListOpcode.Statement (.queueRehome q) := listOpcode _

theorem ListOpcode.tileDispatch (t : Nat) :
    ListOpcode.Statement (.tileDispatch t) := listOpcode _

theorem ListOpcode.dispatchAgeCeiling (t : Nat) :
    ListOpcode.Statement (.dispatchAgeCeiling t) := listOpcode _

theorem ListOpcode.pagerFetchArrival (c : Fin 32) :
    ListOpcode.Statement (.pagerFetchArrival c) := listOpcode _

theorem ListOpcode.tileFinish (c : Fin 32) (a : TileEnd) :
    ListOpcode.Statement (.tileFinish c a) := listOpcode _

theorem ListOpcode.finishedTileAdmit (c : Fin 32) :
    ListOpcode.Statement (.finishedTileAdmit c) := listOpcode _

theorem ListOpcode.epilogue (c : TileTaken) :
    ListOpcode.Statement (.epilogue c) := listOpcode _

theorem ListOpcode.transactionGrant (c : Fin 32) (t : Nat) :
    ListOpcode.Statement (.transactionGrant c t) := listOpcode _

theorem ListOpcode.scratchPageGrant (c : Fin 32) (t : Nat) :
    ListOpcode.Statement (.scratchPageGrant c t) := listOpcode _

theorem ListOpcode.transferChannelGrant (c : Fin 32) (t : Nat) :
    ListOpcode.Statement (.transferChannelGrant c t) := listOpcode _

theorem ListOpcode.apertureRelease (c : Fin 32) (ch : Fin 8) (t : Nat) :
    ListOpcode.Statement (.apertureRelease c ch t) := listOpcode _

theorem ListOpcode.scrub (p : Fin 32) (frames : Nat) :
    ListOpcode.Statement (.scrub p frames) := listOpcode _

theorem ListOpcode.channelAdmit (ch : Fin 128) (t : Nat) :
    ListOpcode.Statement (.channelAdmit ch t) := listOpcode _

theorem ListOpcode.channelRequest (ch : Fin 128) (pick : Nat) (reads : List LineRead) (t : Nat) :
    ListOpcode.Statement (.channelRequest ch pick reads t) := listOpcode _

theorem ListOpcode.starvationCeiling (ch : Fin 128) (reads : List LineRead) (t : Nat) :
    ListOpcode.Statement (.starvationCeiling ch reads t) := listOpcode _

theorem ListOpcode.adderOperation (o : AdderRun) (t : Nat) :
    ListOpcode.Statement (.adderOperation o t) := listOpcode _

theorem ListOpcode.adderAdmit (ch : Fin 128) (t : Nat) :
    ListOpcode.Statement (.adderAdmit ch t) := listOpcode _

theorem ListOpcode.adderWriteBack (ch : Fin 128) (t : Nat) :
    ListOpcode.Statement (.adderWriteBack ch t) := listOpcode _

theorem ListOpcode.stagingFrameGrant (t : Nat) :
    ListOpcode.Statement (.stagingFrameGrant t) := listOpcode _

theorem ListOpcode.wcPartialStore (addr : BitVec 48) (mask : BitVec 64) (data : List Byte) (t : Nat) :
    ListOpcode.Statement (.wcPartialStore addr mask data t) := listOpcode _

theorem ListOpcode.wcAdmit (ch : Fin 128) (t : Nat) :
    ListOpcode.Statement (.wcAdmit ch t) := listOpcode _

theorem ListOpcode.wcRetireTimeout (ch : Fin 128) (r : LineRead) (t : Nat) :
    ListOpcode.Statement (.wcRetireTimeout ch r t) := listOpcode _

theorem ListOpcode.patrolScrub (ch : Fin 128) (r : LineRead) (t : Nat) :
    ListOpcode.Statement (.patrolScrub ch r t) := listOpcode _

theorem ListOpcode.refresh (ch : Fin 128) :
    ListOpcode.Statement (.refresh ch) := listOpcode _

theorem ListOpcode.channelPowerDown (ch : Fin 128) (t : Nat) :
    ListOpcode.Statement (.channelPowerDown ch t) := listOpcode _

theorem ListOpcode.temperatureReadout (p : Fin 32) (celsius : Int) (t : Nat) :
    ListOpcode.Statement (.temperatureReadout p celsius t) := listOpcode _

theorem ListOpcode.deratingExit (p : Fin 32) (t : Nat) :
    ListOpcode.Statement (.deratingExit p t) := listOpcode _

theorem ListOpcode.criticalSelfRefresh (p : Fin 32) (t : Nat) :
    ListOpcode.Statement (.criticalSelfRefresh p t) := listOpcode _

theorem ListOpcode.epochClose (handle : BitVec 24) :
    ListOpcode.Statement (.epochClose handle) := listOpcode _

theorem ListOpcode.stepBoundary  :
    ListOpcode.Statement (.stepBoundary ) := listOpcode _

theorem ListOpcode.teeMarkApply (p : Packet) :
    ListOpcode.Statement (.teeMarkApply p) := listOpcode _

theorem ListOpcode.flitReceive (p : Fin 8) (flit : List Byte) :
    ListOpcode.Statement (.flitReceive p flit) := listOpcode _

theorem ListOpcode.laneRemoval (p : Fin 8) (lane : Fin 8) (rate : Bool) :
    ListOpcode.Statement (.laneRemoval p lane rate) := listOpcode _

theorem ListOpcode.laserInputLow (p : Fin 8) (input : Fin 2) (centiDbm : Int) (t : Nat) :
    ListOpcode.Statement (.laserInputLow p input centiDbm t) := listOpcode _

theorem ListOpcode.portRetrainDone (p : Fin 8) :
    ListOpcode.Statement (.portRetrainDone p) := listOpcode _

theorem ListOpcode.portTraining (p : Fin 8) (up : Bool) :
    ListOpcode.Statement (.portTraining p up) := listOpcode _

theorem ListOpcode.portRetrain (m : Master) (ports : BitVec 32) :
    ListOpcode.Statement (.portRetrain m ports) := listOpcode _

theorem ListOpcode.load (p : Packet) :
    ListOpcode.Statement (.load p) := listOpcode _

theorem ListOpcode.store (p : Packet) :
    ListOpcode.Statement (.store p) := listOpcode _

theorem ListOpcode.atomic (p : Packet) :
    ListOpcode.Statement (.atomic p) := listOpcode _

theorem ListOpcode.addPacket (p : Packet) :
    ListOpcode.Statement (.addPacket p) := listOpcode _

theorem ListOpcode.get (p : Packet) :
    ListOpcode.Statement (.get p) := listOpcode _

theorem ListOpcode.rdShared (p : DirRead) :
    ListOpcode.Statement (.rdShared p) := listOpcode _

theorem ListOpcode.rdOwn (p : Packet) :
    ListOpcode.Statement (.rdOwn p) := listOpcode _

theorem ListOpcode.writeback (p : Packet) :
    ListOpcode.Statement (.writeback p) := listOpcode _

theorem ListOpcode.evict (p : Packet) :
    ListOpcode.Statement (.evict p) := listOpcode _

theorem ListOpcode.snpShare (p : Packet) :
    ListOpcode.Statement (.snpShare p) := listOpcode _

theorem ListOpcode.snpInval (p : Packet) :
    ListOpcode.Statement (.snpInval p) := listOpcode _

theorem ListOpcode.snpRsp (p : Packet) :
    ListOpcode.Statement (.snpRsp p) := listOpcode _

theorem ListOpcode.snoopTimeout (line : BitVec 48) (t : Nat) :
    ListOpcode.Statement (.snoopTimeout line t) := listOpcode _

theorem ListOpcode.contrib (p : Packet) :
    ListOpcode.Statement (.contrib p) := listOpcode _

theorem ListOpcode.gather (p : Packet) :
    ListOpcode.Statement (.gather p) := listOpcode _

theorem ListOpcode.close (p : Packet) :
    ListOpcode.Statement (.close p) := listOpcode _

theorem ListOpcode.shardClose (collective : Nat) :
    ListOpcode.Statement (.shardClose collective) := listOpcode _

theorem ListOpcode.collectiveTimeout (collective : Nat) (t : Nat) :
    ListOpcode.Statement (.collectiveTimeout collective t) := listOpcode _

theorem ListOpcode.probe (p : Packet) :
    ListOpcode.Statement (.probe p) := listOpcode _

theorem ListOpcode.probeRsp (p : Packet) :
    ListOpcode.Statement (.probeRsp p) := listOpcode _

theorem ListOpcode.resync (p : Packet) :
    ListOpcode.Statement (.resync p) := listOpcode _

theorem ListOpcode.hintSlowContributor (p : Packet) :
    ListOpcode.Statement (.hintSlowContributor p) := listOpcode _

theorem ListOpcode.hintHold (p : Packet) (t : Nat) :
    ListOpcode.Statement (.hintHold p t) := listOpcode _

theorem ListOpcode.hintHoldRelease (p : Packet) (t : Nat) :
    ListOpcode.Statement (.hintHoldRelease p t) := listOpcode _

theorem ListOpcode.holdLimitExpiry (node : BitVec 16) (t : Nat) :
    ListOpcode.Statement (.holdLimitExpiry node t) := listOpcode _

theorem ListOpcode.heartbeat (p : Packet) (t : Nat) :
    ListOpcode.Statement (.heartbeat p t) := listOpcode _

theorem ListOpcode.data (p : Packet) :
    ListOpcode.Statement (.data p) := listOpcode _

theorem ListOpcode.ack (p : Packet) :
    ListOpcode.Statement (.ack p) := listOpcode _

theorem ListOpcode.nak (p : Packet) :
    ListOpcode.Statement (.nak p) := listOpcode _

theorem ListOpcode.colAck (p : Packet) :
    ListOpcode.Statement (.colAck p) := listOpcode _

theorem ListOpcode.gatewayAdmit (p : Fin 8) (t : Nat) :
    ListOpcode.Statement (.gatewayAdmit p t) := listOpcode _

theorem ListOpcode.gatewayFlush (p : Fin 8) (t : Nat) :
    ListOpcode.Statement (.gatewayFlush p t) := listOpcode _

theorem ListOpcode.nodeIdWrite (m : Master) (node : BitVec 16) :
    ListOpcode.Statement (.nodeIdWrite m node) := listOpcode _

theorem ListOpcode.counterUpdate (bank : Fin 16) (t : Nat) :
    ListOpcode.Statement (.counterUpdate bank t) := listOpcode _

theorem ListOpcode.traekFlitReceive (flit : List Byte) :
    ListOpcode.Statement (.traekFlitReceive flit) := listOpcode _

theorem ListOpcode.traekTraining (width : Nat) (half : Bool) (group : Nat) :
    ListOpcode.Statement (.traekTraining width half group) := listOpcode _

theorem ListOpcode.traekLaneRetrain (lane : Fin 16) (rate : Bool) :
    ListOpcode.Statement (.traekLaneRetrain lane rate) := listOpcode _

theorem ListOpcode.traekLinkDown (t : Nat) :
    ListOpcode.Statement (.traekLinkDown t) := listOpcode _

theorem ListOpcode.traekCommandRetrain (m : Master) :
    ListOpcode.Statement (.traekCommandRetrain m) := listOpcode _

theorem ListOpcode.traekCommandDown (m : Master) :
    ListOpcode.Statement (.traekCommandDown m) := listOpcode _

theorem ListOpcode.dict (p : Packet) (f : Frame) (kind : BitVec 8) :
    ListOpcode.Statement (.dict p f kind) := listOpcode _

theorem ListOpcode.pair (m : Master) (t : Nat) :
    ListOpcode.Statement (.pair m t) := listOpcode _

theorem ListOpcode.detachCommand (m : Master) (t : Nat) :
    ListOpcode.Statement (.detachCommand m t) := listOpcode _

theorem ListOpcode.detachAct (t : Nat) :
    ListOpcode.Statement (.detachAct t) := listOpcode _

theorem ListOpcode.releaseFrozenNegative (m : Master) :
    ListOpcode.Statement (.releaseFrozenNegative m) := listOpcode _

theorem ListOpcode.offer (p : Packet) :
    ListOpcode.Statement (.offer p) := listOpcode _

theorem ListOpcode.evidence (p : Packet) :
    ListOpcode.Statement (.evidence p) := listOpcode _

theorem ListOpcode.accept (p : Packet) :
    ListOpcode.Statement (.accept p) := listOpcode _

theorem ListOpcode.refuse (p : Packet) :
    ListOpcode.Statement (.refuse p) := listOpcode _

theorem ListOpcode.detach (p : Packet) (t : Nat) :
    ListOpcode.Statement (.detach p t) := listOpcode _

theorem ListOpcode.pairingRelease (p : Packet) :
    ListOpcode.Statement (.pairingRelease p) := listOpcode _

theorem ListOpcode.pairingTimeout (t : Nat) :
    ListOpcode.Statement (.pairingTimeout t) := listOpcode _

theorem ListOpcode.detachTimeout (t : Nat) :
    ListOpcode.Statement (.detachTimeout t) := listOpcode _

theorem ListOpcode.heartbeatSend (t : Nat) :
    ListOpcode.Statement (.heartbeatSend t) := listOpcode _

theorem ListOpcode.twinLost (t : Nat) :
    ListOpcode.Statement (.twinLost t) := listOpcode _

theorem ListOpcode.bathStageEnd (t : Nat) :
    ListOpcode.Statement (.bathStageEnd t) := listOpcode _

theorem ListOpcode.bathTimeout (t : Nat) :
    ListOpcode.Statement (.bathTimeout t) := listOpcode _

theorem ListOpcode.segmentCopied (t : Nat) :
    ListOpcode.Statement (.segmentCopied t) := listOpcode _

theorem ListOpcode.sheetComplete (t : Nat) :
    ListOpcode.Statement (.sheetComplete t) := listOpcode _

theorem ListOpcode.timeAlignExchange (samples : List TimeSample) (t : Nat) :
    ListOpcode.Statement (.timeAlignExchange samples t) := listOpcode _

theorem ListOpcode.regionGate (r : Fin 48) (t : Nat) :
    ListOpcode.Statement (.regionGate r t) := listOpcode _

theorem ListOpcode.regionPllOff (r : Fin 48) (t : Nat) :
    ListOpcode.Statement (.regionPllOff r t) := listOpcode _

theorem ListOpcode.regionWake (r : Fin 48) (t : Nat) :
    ListOpcode.Statement (.regionWake r t) := listOpcode _

theorem ListOpcode.slopeGrant (half : Fin 2) (t : Nat) :
    ListOpcode.Statement (.slopeGrant half t) := listOpcode _

theorem ListOpcode.pointChange (r : Fin 48) (t : Nat) :
    ListOpcode.Statement (.pointChange r t) := listOpcode _

theorem ListOpcode.shutterStop (r : Fin 48) (t : Nat) :
    ListOpcode.Statement (.shutterStop r t) := listOpcode _

theorem ListOpcode.monitorSample (r : Fin 48) (marginPermille : Nat) (deciAmp : Nat) (t : Nat) :
    ListOpcode.Statement (.monitorSample r marginPermille deciAmp t) := listOpcode _

theorem ListOpcode.droopDetect (r : Fin 48) (milliVolt : Nat) (t : Nat) :
    ListOpcode.Statement (.droopDetect r milliVolt t) := listOpcode _

theorem ListOpcode.stretchEnd (r : Fin 48) (cycles : Nat) (t : Nat) :
    ListOpcode.Statement (.stretchEnd r cycles t) := listOpcode _

theorem ListOpcode.freqChangeAbandon (r : Fin 48) (t : Nat) :
    ListOpcode.Statement (.freqChangeAbandon r t) := listOpcode _

theorem ListOpcode.freqChangeRetry (r : Fin 48) (t : Nat) :
    ListOpcode.Statement (.freqChangeRetry r t) := listOpcode _

theorem ListOpcode.avsbusRead (reply : Option (Nat × Nat)) (rises : List (Fin 64 × Nat)) (t : Nat) :
    ListOpcode.Statement (.avsbusRead reply rises t) := listOpcode _

theorem ListOpcode.avsbusRetry (reply : Option (Nat × Nat)) (t : Nat) :
    ListOpcode.Statement (.avsbusRetry reply t) := listOpcode _

theorem ListOpcode.supplyLimitStep (t : Nat) :
    ListOpcode.Statement (.supplyLimitStep t) := listOpcode _

theorem ListOpcode.pmbusRead (status : Option (BitVec 16)) (feed : List Byte) (t : Nat) :
    ListOpcode.Statement (.pmbusRead status feed t) := listOpcode _

theorem ListOpcode.guardBandEnd (t : Nat) :
    ListOpcode.Statement (.guardBandEnd t) := listOpcode _

theorem ListOpcode.sliceFailure (r : Fin 48) (slice : Fin 16) (t : Nat) :
    ListOpcode.Statement (.sliceFailure r slice t) := listOpcode _

theorem ListOpcode.clearMinimumVoltage (m : Master) (region : BitVec 8) :
    ListOpcode.Statement (.clearMinimumVoltage m region) := listOpcode _

theorem ListOpcode.capWrite (m : Master) (watts : BitVec 32) :
    ListOpcode.Statement (.capWrite m watts) := listOpcode _

theorem ListOpcode.powerLoopTick (watts : Nat) (t : Nat) :
    ListOpcode.Statement (.powerLoopTick watts t) := listOpcode _

theorem ListOpcode.intervalSlot (t : Nat) :
    ListOpcode.Statement (.intervalSlot t) := listOpcode _

theorem ListOpcode.hotSpotSample (h : Fin 80) (a : Int) (b : Int) (t : Nat) :
    ListOpcode.Statement (.hotSpotSample h a b t) := listOpcode _

theorem ListOpcode.thermalLimitStep (r : Fin 48) (t : Nat) :
    ListOpcode.Statement (.thermalLimitStep r t) := listOpcode _

theorem ListOpcode.reEnumerate (m : Option Master) (pids : List (BitVec 48)) :
    ListOpcode.Statement (.reEnumerate m pids) := listOpcode _

theorem ListOpcode.trayRead (p : TrayPoll) (t : Nat) :
    ListOpcode.Statement (.trayRead p t) := listOpcode _

theorem ListOpcode.resume (m : Master) (t : Nat) :
    ListOpcode.Statement (.resume m t) := listOpcode _

theorem ListOpcode.flowRequestWrite (done : Bool) (t : Nat) :
    ListOpcode.Statement (.flowRequestWrite done t) := listOpcode _

theorem ListOpcode.flowTrendUpdate (t : Nat) :
    ListOpcode.Statement (.flowTrendUpdate t) := listOpcode _

theorem ListOpcode.read (m : Master) (f : Frame) :
    ListOpcode.Statement (.read m f) := listOpcode _

theorem ListOpcode.write (m : Master) (f : Frame) :
    ListOpcode.Statement (.write m f) := listOpcode _

theorem ListOpcode.blockRead (m : Master) (f : Frame) :
    ListOpcode.Statement (.blockRead m f) := listOpcode _

theorem ListOpcode.subscribe (m : Master) (f : Frame) :
    ListOpcode.Statement (.subscribe m f) := listOpcode _

theorem ListOpcode.unsubscribe (m : Master) (f : Frame) :
    ListOpcode.Statement (.unsubscribe m f) := listOpcode _

theorem ListOpcode.subscriptionEvent (m : Master) (key : BitVec 24) (t : Nat) :
    ListOpcode.Statement (.subscriptionEvent m key t) := listOpcode _

theorem ListOpcode.hostEventRingConfig (m : Master) (base : Option (BitVec 64)) (size : Option (BitVec 8)) :
    ListOpcode.Statement (.hostEventRingConfig m base size) := listOpcode _

theorem ListOpcode.holdTake (m : Master) (areas : Fin 4) :
    ListOpcode.Statement (.holdTake m areas) := listOpcode _

theorem ListOpcode.holdRelease (m : Master) (areas : Fin 4) :
    ListOpcode.Statement (.holdRelease m areas) := listOpcode _

theorem ListOpcode.holdExpiry (t : Nat) :
    ListOpcode.Statement (.holdExpiry t) := listOpcode _

theorem ListOpcode.clearHealthEvents (m : Master) (bits : BitVec 32) :
    ListOpcode.Statement (.clearHealthEvents m bits) := listOpcode _

theorem ListOpcode.safelightHeartbeat (half : Fin 2) (t : Nat) :
    ListOpcode.Statement (.safelightHeartbeat half t) := listOpcode _

theorem ListOpcode.leadershipClaim (half : Fin 2) (t : Nat) :
    ListOpcode.Statement (.leadershipClaim half t) := listOpcode _

theorem ListOpcode.leadershipConflict (t : Nat) :
    ListOpcode.Statement (.leadershipConflict t) := listOpcode _

theorem ListOpcode.followerStale (t : Nat) :
    ListOpcode.Statement (.followerStale t) := listOpcode _

theorem ListOpcode.followerResync (t : Nat) :
    ListOpcode.Statement (.followerResync t) := listOpcode _

theorem ListOpcode.plcaFallback (periodNs : Nat) (t : Nat) :
    ListOpcode.Statement (.plcaFallback periodNs t) := listOpcode _

theorem ListOpcode.beacon (t : Nat) :
    ListOpcode.Statement (.beacon t) := listOpcode _

theorem ListOpcode.coalescingWindowEnd (cls : BitVec 16) (source : Nat) (t : Nat) :
    ListOpcode.Statement (.coalescingWindowEnd cls source t) := listOpcode _

theorem ListOpcode.rotationPattern (c : Fin 32) (run : TestRun) (t : Nat) :
    ListOpcode.Statement (.rotationPattern c run t) := listOpcode _

theorem ListOpcode.recoveryTest (u : Fin 48) (runs : List TestRun) (t : Nat) :
    ListOpcode.Statement (.recoveryTest u runs t) := listOpcode _

theorem ListOpcode.quarantine (m : Master) (c : Fin 32) :
    ListOpcode.Statement (.quarantine m c) := listOpcode _

theorem ListOpcode.runRecoveryTest (m : Master) (c : Fin 32) :
    ListOpcode.Statement (.runRecoveryTest m c) := listOpcode _

theorem ListOpcode.takePackageOutOfService (m : Master) (p : Fin 32) :
    ListOpcode.Statement (.takePackageOutOfService m p) := listOpcode _

theorem ListOpcode.runRotationPattern (m : Master) (c : Fin 32) :
    ListOpcode.Statement (.runRotationPattern m c) := listOpcode _

theorem ListOpcode.runRegionTest (m : Master) (r : Fin 48) :
    ListOpcode.Statement (.runRegionTest m r) := listOpcode _

theorem ListOpcode.bypass (die : Fin 2) :
    ListOpcode.Statement (.bypass die) := listOpcode _

theorem ListOpcode.idcode (die : Fin 2) :
    ListOpcode.Statement (.idcode die) := listOpcode _

theorem ListOpcode.samplePreload (die : Fin 2) (preload : Option (List Bool)) (pins : List Bool) :
    ListOpcode.Statement (.samplePreload die preload pins) := listOpcode _

theorem ListOpcode.extest (die : Fin 2) (pins : List Bool) :
    ListOpcode.Statement (.extest die pins) := listOpcode _

theorem ListOpcode.runbist (die : Fin 2) (failing : Nat) :
    ListOpcode.Statement (.runbist die failing) := listOpcode _

theorem ListOpcode.rom (westPasses : Bool) (t : Nat) :
    ListOpcode.Statement (.rom westPasses t) := listOpcode _

theorem ListOpcode.flash (s : FlashScan) (t : Nat) :
    ListOpcode.Statement (.flash s t) := listOpcode _

theorem ListOpcode.stage1 (avsReply : Bool) (identity : Option (List Byte)) (feed : List Byte) (t : Nat) :
    ListOpcode.Statement (.stage1 avsReply identity feed t) := listOpcode _

theorem ListOpcode.coreRamp (reached : Bool) (t : Nat) :
    ListOpcode.Statement (.coreRamp reached t) := listOpcode _

theorem ListOpcode.test (runs : List (Fin 49 × TestRun)) (regions : List (Fin 48 × TestRun)) (calibration : List (BitVec 32)) (t : Nat) :
    ListOpcode.Statement (.test runs regions calibration t) := listOpcode _

theorem ListOpcode.memory (rates : List Nat) (t : Nat) :
    ListOpcode.Statement (.memory rates t) := listOpcode _

theorem ListOpcode.protect (config : List Item) (t : Nat) :
    ListOpcode.Statement (.protect config t) := listOpcode _

theorem ListOpcode.links (t : Nat) :
    ListOpcode.Statement (.links t) := listOpcode _

theorem ListOpcode.attestationNonce (m : Master) (nonce : List Byte) (t : Nat) :
    ListOpcode.Statement (.attestationNonce m nonce t) := listOpcode _

theorem ListOpcode.evidenceReady (m : Master) (t : Nat) :
    ListOpcode.Statement (.evidenceReady m t) := listOpcode _

theorem ListOpcode.flashOpen (m : Master) (region : BitVec 8) (offset : BitVec 64) :
    ListOpcode.Statement (.flashOpen m region offset) := listOpcode _

theorem ListOpcode.flashData (m : Master) (bytes : List Byte) :
    ListOpcode.Statement (.flashData m bytes) := listOpcode _

theorem ListOpcode.flashCommit (m : Master) (s : BlockScan) :
    ListOpcode.Statement (.flashCommit m s) := listOpcode _

theorem ListOpcode.fullReset (m : Option Master) :
    ListOpcode.Statement (.fullReset m) := listOpcode _

theorem ListOpcode.coreReset (m : Option Master) :
    ListOpcode.Statement (.coreReset m) := listOpcode _

theorem ListOpcode.railMonitor (milliVolt : List Nat) (t : Nat) :
    ListOpcode.Statement (.railMonitor milliVolt t) := listOpcode _

theorem ListOpcode.boardRailFault (rail : Fin 6) (t : Nat) :
    ListOpcode.Statement (.boardRailFault rail t) := listOpcode _

theorem ListOpcode.traekRetrainDone (width : Nat) (half : Bool) (group : Nat) :
    ListOpcode.Statement (.traekRetrainDone width half group) := listOpcode _

theorem ListOpcode.detachReleaseAnswer (t : Nat) :
    ListOpcode.Statement (.detachReleaseAnswer t) := listOpcode _

end Sys2Proof.Laws
end

