-- ==== Sys2Proof/Tests/Slice0.lean ====
section
/-!
SUPPORT. The model's own tests: ill-formed commands that each check of `wellFormed` refuses, single steps on small states, and
for every statement with hypotheses a state and operands that meet them.
-/

namespace Sys2Proof.Tests

set_option Elab.async false

open Machine

/-! ### Ill-formed commands -/

/-- R173: FENCE has opcode 0x01; the word of END is refused as one. -/
theorem test_wellFormed_opcode : (Instr.fence 0 (0 : Line)).wellFormed = false ∧ (Instr.fence 0 (1 : Line)).wellFormed = true := by
  decide +kernel

/-- R311: an OFFER is a 256-byte record of kind 1. -/
theorem test_wellFormed_record : (Instr.offer { via := .traek, data := List.replicate 256 0 }).wellFormed = false ∧
    (Instr.offer { via := .traek, data := [0, 0, 0, 0, 1] }).wellFormed = false := by decide +kernel

/-- R251: a flit has 224 bytes, R295: a Traek flit 276; R438: flash data come 1,024 bytes at a time, R442: a nonce has 32. -/
theorem test_wellFormed_sizes : (Instr.flitReceive 0 []).wellFormed = false ∧ (Instr.traekFlitReceive []).wellFormed = false ∧
    (Instr.flashData .host []).wellFormed = false ∧ (Instr.attestationNonce .host [] 0).wellFormed = false := by decide +kernel

/-- R223: a partial store carries the 64 bytes of its line; R220: so does a whole-line add. -/
theorem test_wellFormed_line : (Instr.wcPartialStore 0 0 [] 0).wellFormed = false ∧
    (Instr.adderOperation ⟨.line 0 .fp32 [], {}, none⟩ 0).wellFormed = false := by decide +kernel

/-- R221: a whole-line add is no book contribution. -/
theorem test_wellFormed_adder : (Instr.adderOperation ⟨.line 0 .book (List.replicate 64 0), {}, none⟩ 0).wellFormed = false := by
  decide +kernel

/-- R167: a store to a watch line stays in its 64 bytes. -/
theorem test_wellFormed_watch : (Instr.watchLineStore 0 60 (List.replicate 8 0)).wellFormed = false ∧
    (Instr.watchLineStore 0 56 (List.replicate 8 0)).wellFormed = true := by decide +kernel

/-! ### States and operands that meet the hypotheses of the statements -/

/-- The block in READY, every region running at OP4. -/
def awake : State :=
  { State.reset with
    boot := { state := 8 }, regions := (List.range 48).map (fun r => (r, { power := 0, point := 4 })) }

/-- A list at its command 4. -/
def aRun : ListRun := { addr := 0x1000, listId := 1, topId := 1, counter := 0, record := false, signal := false, pc := 4 }

/-- The block awake, with queue 0 enabled and a list running in it. -/
def running (f : Queue → Queue) : State := { awake with queues := [(0, f { entry := 1, run := some aRun })] }

/-- A command of 64 bytes: the values at byte offsets. -/
def cmdOf (bs : List (Nat × Nat)) : Line := BitVec.ofNat 512 (bs.foldl (fun n e => n + e.2 * 256 ^ e.1) 0)

/-- A command of queue 0 that has started. -/
def aStart : Started := { id := 1, index := 3, listId := 1, depth := 0, cmd := 0, op := 0x41, since := 0 }


/-- `Reaches`, as a test that computes. -/
def arrives (s : State) (p : Packet) : Bool :=
  !p.rsvd && match p.via with
    | .traek => s.traek.state == 2
    | .fabric n => s.portUp n && !(s.port n).retraining && s.node != 0xFFFF && p.dst.toNat == s.node

theorem reaches_of_arrives {s : State} {p : Packet} (h : arrives s p = true) : Reaches s p := by
  unfold arrives at h; unfold Reaches
  rw [Bool.and_eq_true] at h
  refine ⟨by simpa using h.1, ?_⟩
  have h2 := h.2
  split at h2 <;> simp_all

/-- O2: the reference clock runs, or device time stands. -/
theorem test_witness_EmptyQueuePassesOneCycle :
    (awake.pending = [] ∧ awake.power.standFor = 0 ∧ awake.power.slew = 0) ∧
    (let s : State := { awake with power := { awake.power with slew := -5 } };
      s.pending = [] ∧ s.power.standFor = 0 ∧ s.power.slew ≠ 0 ∧ s.power.slewPs + 4 < 1000) ∧
    (let s : State := { awake with power := { awake.power with slew := -5, slewPs := 996 } };
      s.pending = [] ∧ s.power.standFor = 0 ∧ s.power.slew ≠ 0 ∧ 1000 ≤ s.power.slewPs + 4) ∧
    (let s : State := { awake with power := { awake.power with standFor := 40 } }; s.pending = [] ∧ s.power.standFor ≠ 0) := by
  decide +kernel

/-- O4, O5, O6: a sound state that steps. -/
theorem test_witness_EveryStepKeepsSound : Memory.wf awake.mem = true ∧ awake.log.length ≤ 4096 ∧
    (match step awake with | .next _ => true | _ => false) = true := by decide +kernel

/-- O8: END in a called list, and in the top-level list. -/
theorem test_witness_EndReturnsOrEndsTheList :
    (Takes (running id) 0 aRun 0 [] [] ∧ (running id).headerFail 0 0 [] = none ∧ HasRoom (running id) 0 0 0) ∧
    (Takes (running (fun r => { r with stack := [.loop 2 1 3, .ret 0x2000 7 5] })) 0 aRun 0 [] [] ∧
      noReturn [.loop 2 1 3]) := by
  unfold Takes HasRoom noReturn; refine ⟨by decide +kernel, by decide +kernel, ?_⟩; simp

/-- O9: CALL with room, of a misaligned address, and with a full stack. -/
theorem test_witness_CallGoesToTheCalledList :
    let c := cmdOf [(0, 6), (8, 0x4000)];
    (Takes (running id) 0 aRun c [] [] ∧ (running id).headerFail 0 c [(20, 0, 352)] = none ∧ fld c 8 8 % 64 = 0 ∧
      HasRoom (running id) 0 c 0) ∧
    (let c := cmdOf [(0, 6), (8, 0x4001)];
      Takes (running id) 0 aRun c [] [] ∧ (running id).headerFail 0 c [(20, 0, 352)] = none ∧ fld c 8 8 % 64 ≠ 0 ∧
      HasRoom (running id) 0 c St.misaligned) ∧
    (let s := running (fun r => { r with stack := List.replicate 8 (.ret 0 0 0) });
      Takes s 0 aRun c [] [] ∧ s.headerFail 0 c [(20, 0, 352)] = none ∧ (s.queue 0).stack.length = 8 ∧
      HasRoom s 0 c St.nestDepth) := by
  unfold Takes HasRoom; decide +kernel

/-- O10: LOOP of 3 from command 4 to command 2: the first arrival, a later one, and a LOOP of 1. -/
theorem test_witness_LoopRunsItsBody :
    ∀ n ∈ ([1, 3] : List Nat), ∀ st ∈ ([[], [.loop 4 2 1], [.loop 4 2 0]] : List (List StackEntry)),
      let c := cmdOf [(0, 5), (8, n), (12, 2 ^ 32 - 2)];
      let s := running (fun r => { r with stack := st });
      Takes s 0 aRun c [] [] ∧ s.headerFail 0 c [(16, 0, 384)] = none ∧ HasRoom s 0 c 0 ∧ fld c 8 4 = n ∧
      -65535 ≤ i32At c 12 ∧ i32At c 12 = -2 ∧ 0 ≤ (aRun.pc : Int) + i32At c 12 := by
  unfold Takes HasRoom; decide +kernel

/-- O11: BRANCH_IF_SUMMARY on a busy slot, on an unset one, and on a slot that makes its test true or false. -/
theorem test_witness_BranchFollowsItsSlot :
    let c := cmdOf [(0, 4), (8, 1), (9, 0), (12, 2 ^ 32 - 2), (16, 5)];
    let slot := fun (v : SlotVal) => running (fun r => { r with slots := [(1, v)] });
    (∀ s ∈ [slot {}, slot { kind := 8, value := 5 }, slot { kind := 8, value := 6 }],
      Takes s 0 aRun c [] [] ∧ s.headerFail 0 c branchReserved = none ∧ fld c 9 1 ≤ 7 ∧ 0 ≤ (aRun.pc : Int) + i32At c 12 ∧
      (s.queue 0).slotBusy aRun 1 = false ∧ HasRoom s 0 c St.summaryUnset ∧ HasRoom s 0 c 0) ∧
    branchTest c { kind := 8, value := 5 } = true ∧ branchTest c { kind := 8, value := 6 } = false ∧
    (let s := running (fun r => { r with slotUses := [(1, some (1, 1))], started := [{ aStart with op := 0x20, cmd := cmdOf [(0, 0x20), (29, 0x11)] }] });
      Takes s 0 aRun c [] [] ∧ (s.queue 0).slotBusy aRun 1 = true) := by
  unfold Takes HasRoom; decide +kernel

/-- O12: a NaN value, an unsigned kind. -/
theorem test_witness_BranchTestsFollowTheTable :
    (f32 0x7FC00000 = .nan ∧ (1 : BitVec 8).toNat ≤ 5) ∧ ((5 : Nat) < (8 : BitVec 8).toNat ∧ (8 : BitVec 8).toNat ≠ 7) ∧
    (∀ k ∈ [0, 1, 2, 3, 4, 5, 6, 7], fld (cmdOf [(9, k)]) 9 1 = k) := by decide +kernel

/-- O13: WAIT_COUNTER and FENCE. -/
theorem test_witness_WaitsOfTheControlCore :
    (let c := cmdOf [(0, 2), (8, 5), (16, 1)];
      Takes (running id) 0 aRun c [] [] ∧ (running id).headerFail 0 c waitReserved = none) ∧
    (Takes (running id) 0 aRun 1 [] [] ∧ (running id).headerFail 0 1 [] = none) := by unfold Takes; decide +kernel

/-- O14: a timeout that passed, one that has not, and none. -/
theorem test_witness_WaitCounterTimesOut :
    let s := fun (k : Nat) => running (fun r => { r with run := some { aRun with wait := .counter 3 0 5 1 10 k } });
    ((s 20).counter 5 - 1).toNat ≥ 2 ^ 63 ∧ 10 + 20 ≤ ((s 20).tick 30).now ∧ HasRoom (s 20) 0 0 St.waitTimeout ∧
    ((s 20).tick 29).now < 10 + 20 ∧ ((s 0).queue 0).run = some { aRun with wait := .counter 3 0 5 1 10 0 } := by
  unfold HasRoom; decide +kernel

/-- O15: SIGNAL_COUNTER behind an earlier command, and alone, at a free bank and a busy one. -/
theorem test_witness_SignalUpdatesItsCounter :
    let c := cmdOf [(0, 3), (8, 5), (12, 0xFFFF), (16, 1)];
    (Takes (running id) 0 aRun c [] [] ∧ (running id).headerFail 0 c signalReserved = none ∧
      ((running id).queue 0).started = [] ∧ (running id).localNode (fld c 12 2) = true ∧ (running id).bankFree 0 = true) ∧
    (let s := { running id with bankAt := [(0, 1)] };
      Takes s 0 aRun c [] [] ∧ s.bankFree 0 = false) ∧
    (let s := running (fun r => { r with started := [aStart] });
      Takes s 0 aRun c [] [] ∧ s.headerFail 0 c signalReserved = none) := by unfold Takes; decide +kernel

/-- O16 to O19: codes of every kind the clauses name. -/
theorem test_witness_codes :
    (0 / 2 % 4 = 0 ∧ 2 / 2 % 4 ≠ 0) ∧ (0x7F % 128 = 0x7F ∧ 0x38 / 8 % 16 ≠ 0 ∧ 0x7C / 4 % 32 = 31 ∧ 0x7D % 4 ≠ 0) ∧
    (Fmt.exceeds .int8 255 0 = true ∧ Fmt.exceeds .int4 5 0 = false) ∧ (0x41 % 128 ≠ 0 ∧ 65 ≤ 0x41 % 128 + 0x41 % 128) := by
  decide +kernel

/-! Tensors: PINNED, 16 by 16 elements; 1 to 3 are FP32, 4 and 5 BF16. -/

def aDesc (fmt loc : Nat) : Line :=
  cmdOf [(0, fmt + 3 * 16), (8, 16), (12, 16), (16, 1), (20, 1), (24, 1), (32, loc), (38, 0xFFFF), (48, 256 * (if fmt = 5 then 4 else 2))]

/-- The running block with its tensors; one update program at index 1, which stores W. -/
def stocked (f : Queue → Queue) : State :=
  { running f with
    tensors := [(1, some { desc := aDesc 5 0x400000 }), (2, some { desc := aDesc 5 0x600000 }), (3, some { desc := aDesc 5 0x800000 }),
      (4, some { desc := aDesc 3 0xA00000 }), (5, some { desc := aDesc 3 0xC00000 })]
    dict := [(0xA03000, some 0x200000), (0xA03100, some 2)]
    mem := [(0x200080, 1), (0x200088, 0x10), (0x200089, 0x42)] }

/-- MATMUL of tensors 1 and 2 into 3; VECTOR of 1 into 2; UPDATE of weights 4 with gradients 1. -/
def aMatmul : Line := cmdOf [(0, 0x10), (8, 1), (11, 2), (14, 3), (17, 1), (28, 16), (36, 16), (44, 16), (52, 1)]
def aVector : Line := cmdOf [(0, 0x20), (8, 1), (17, 2)]
def anUpdate : Line := cmdOf [(0, 0x30), (8, 4), (11, 1), (26, 1), (32, 0x200000)]

/-- O20: a creation that finds its place. -/
theorem test_witness_CreationMakesItsTensors : (awake.create 7 (aDesc 5 0x400000)).isSome = true ∧
    descFeedback (aDesc 5 0x400000) = false := by decide +kernel

/-- O21: TENSOR_CREATE, TENSOR_FREE and TENSOR_ATTR. -/
theorem test_witness_TensorCommandsComplete :
    (let c := cmdOf [(0, 8), (8, 7), (16, 0x300000), (22, 0xFFFF)];
      let s := { stocked id with mem := (stocked id).mem ++ [(0x300000, 0x35), (0x300008, 16), (0x30000C, 16), (0x300010, 1),
        (0x300014, 1), (0x300018, 1), (0x300022, 0xE0), (0x300026, 0xFF), (0x300027, 0xFF)] };
      Takes s 0 aRun c [] [7] ∧ s.headerFail 0 c [] = none ∧ (s.fetchDesc (fld c 16 8) 0).2 = none ∧
      s.createFail 7 (s.fetchDesc (fld c 16 8) 0).1 = none ∧ s.unscrubbed 7 (s.fetchDesc (fld c 16 8) 0).1 = false ∧
      ((s.passed 0 aRun c).create 7 (s.fetchDesc (fld c 16 8) 0).1).isSome = true ∧ HasRoom s 0 c 0) ∧
    (let c := cmdOf [(0, 8), (8, 1), (16, 0x300000), (22, 0xFFFF)];
      Takes (stocked id) 0 aRun c [] [1] ∧ ((stocked id).tensor 1).isSome = true ∧ HasRoom (stocked id) 0 c St.handleInUse) ∧
    (let c := cmdOf [(0, 9), (8, 1)];
      Takes (stocked id) 0 aRun c [] [1] ∧ (stocked id).headerFail 0 c [] = none ∧ (stocked id).freeWaits 1 = false ∧
      HasRoom (stocked id) 0 c 0) ∧
    (let c := cmdOf [(0, 10), (8, 1), (11, 0x23)];
      Takes (stocked id) 0 aRun c [] [1] ∧ (stocked id).headerFail 0 c [(11, 6, 2)] = none ∧ HasRoom (stocked id) 0 c 0) := by
  unfold Takes HasRoom; decide +kernel

/-- O22: a package with two released frames. -/
theorem test_witness_ScrubZeroesReleasedFrames :
    let s : State := { awake with alloc := { awake.alloc with dirty := [5, 9] } };
    (s.alloc.dirty.filter (fun f => f / pkgFrames == 0)).length ≤ 2 ∧ s.alloc.dirty.Nodup ∧ s.frameUse 5 = .free := by
  decide +kernel

/-- O23: MATMUL starts. -/
theorem test_witness_EngineCommandsStart_matmul :
    let s := stocked id;
    let c := aMatmul;
    let p := (s.fetchProg (fld c 18 2) 18 true).1;
    Takes s 0 aRun c (handlesAt c [8, 11] ++ (epiNamed p [0, 1, 2, 4]).map (·.2)) (handlesAt c [14] ++ (epiNamed p [3]).map (·.2)) ∧
    s.matmulFail 0 c = none ∧ s.matmulWaits c p = false ∧ s.accessTensors (handlesAt c [8, 11] ++ (epiNamed p [0, 1, 2, 4]).map (·.2))
      (handlesAt c [14] ++ (epiNamed p [3]).map (·.2)) = (s, true) ∧ mmTiles c ≠ 0 ∧ mmK c ≠ 0 ∧
    ((s.readErrors { line := c }).fetchProg (fld c 18 2) 18 true).1 = p := by
  unfold Takes; decide +kernel

/-- O23: VECTOR and UPDATE start. -/
theorem test_witness_EngineCommandsStart_others :
    (let s := stocked (fun r => { r with latched := cmdOf [(1, 1)] });
      Takes s 0 aRun aVector (handlesAt aVector [8, 11, 14, 23]) (handlesAt aVector [17, 20]) ∧ s.vectorFail 0 aVector = none ∧
      s.vectorWaits aVector = false ∧ s.accessTensors (handlesAt aVector [8, 11, 14, 23]) (handlesAt aVector [17, 20]) = (s, true)) ∧
    (let s := stocked (fun r => { r with latched := cmdOf [(1, 2)] });
      Takes s 0 aRun anUpdate (handlesAt anUpdate [8, 11, 14, 17]) (handlesAt anUpdate [8, 14, 17, 20, 23]) ∧
      s.updateFail 0 anUpdate = none ∧ s.updateRuns anUpdate = false ∧ (handlesAt anUpdate [20, 23]).any s.epochOwed = false ∧
      s.memoryWaits (handlesAt anUpdate [8, 11, 14, 17, 20, 23]) = false ∧
      s.accessTensors (handlesAt anUpdate [8, 11, 14, 17]) (handlesAt anUpdate [8, 14, 17, 20, 23]) = (s, true)) := by
  unfold Takes; decide +kernel

/-- O23: the waits: a critical package, and an UPDATE of the same weights that runs. -/
theorem test_witness_EngineCommandsStart_waits :
    (∀ k ∈ [0, 1], let s : State := { stocked (fun r => { r with latched := cmdOf [(1, k)] }) with packages := [(0, { derate := 3 })] };
      s.matmulWaits aMatmul (s.fetchProg (fld aMatmul 18 2) 18 true).1 = true ∧ s.vectorWaits aVector = true ∧
      (k = 0 → s.matmulFail 0 aMatmul = none) ∧ (k = 1 → s.vectorFail 0 aVector = none)) ∧
    (let r := stocked (fun r => { r with latched := cmdOf [(1, 2)] }); let s : State := { r with queues := r.queues ++ [(1, { started := [{ aStart with op := 0x30, writes := [4] }] })] };
      s.updateFail 0 anUpdate = none ∧ s.updateRuns anUpdate = true) := by decide +kernel

/-- An UPDATE of queue 0 whose shares wait for the verdict. -/
def updating (f : State → State) : State :=
  f (stocked (fun r => { r with serial := 1, latched := cmdOf [(1, 2)], started := [
    { aStart with op := 0x30, cmd := anUpdate, writes := [4], work := .update 0 [{ cluster := 0, parts := [0], tiles := 1, granted := true, slots := 1, units := [0] }] }] }))

/-- An UPDATE whose verdict is final, and what it reads and writes. -/
def deciding (f : State → State) : State := updating (fun s => f { s with step := { s.step with final := true } })
def updateOuts : List Nat := handlesAt anUpdate [8, 14, 17, 20, 23]
def updateIns : List Nat := handlesAt anUpdate [8, 11, 14, 17]

/-- O24: a verdict that is not final, one that is incomplete, one that skips, one that lets the update run. -/
theorem test_witness_VerdictDecidesTheUpdate :
    let v := fun (x : StepState → StepState) => updating (fun s => { s with step := x s.step });
    let st := fun (s : State) => ((s.queue 0).started.headD aStart).cmd;
    (∀ s ∈ [v id, v (fun x => { x with final := true, broken := true }),
        v (fun x => { x with final := true, fold := { x.fold with nf := true } }), v (fun x => { x with final := true })],
      s.twin.tees = [] ∧ (s.startedOf 0 1).isSome = true ∧ st s = anUpdate) ∧
    (v id).verdictFinal anUpdate = false ∧ (v (fun x => { x with final := true })).verdictFinal anUpdate = true ∧
    (v (fun x => { x with fold := { x.fold with nf := true } })).verdictSkips anUpdate = true ∧
    (deciding id).verdictSkips anUpdate = false ∧ (deciding id).verdictOpen anUpdate = false ∧
    (deciding (fun s => { s with collectives := [{
      id := 0, q := 0, cmdId := 1, engine := 0, kind := 0x51, group := 0, digest := 0, gseq := 0, members := [1], rank := 0,
      root := 0, src := 1, dst := 2, first := 0, count := 128, operator := 0, verdict := true, closing := false, round := 0 }] })).verdictOpen
      anUpdate = true := by
  decide +kernel

/-- O24: an UPDATE held by a region asleep, one with a package lost, one whose output is barred, one that runs. -/
theorem test_witness_VerdictDecidesTheUpdate_runs :
    let st := fun (w : State) => (w.startedOf 0 1).getD aStart;
    (let w := (deciding id).slotShares; (w.startedOf 0 1).isSome = true ∧ (w.residualRead (st w).cmd 0).map (·.2) = [] ∧
      w.updateHeld 0 (st w) = false ∧ w.engineStop updateIns updateOuts = 0 ∧ w.memoryWaits (updateIns ++ updateOuts) = false ∧
      updateOuts.any w.tensorBarred = false ∧ w.updateStages anUpdate = false ∧ w.updateIngress anUpdate = 0 ∧
      (let x := State.runShares 0 1 (st w).work.rounds (w.endHolds 0 (st w));
        (st x).sharesRan = true ∧ x.fetchesFor 0 1 = false ∧ x.memStatus (fld anUpdate 32 8) 64 .command false = 0 ∧
        x.badRange (fld anUpdate 32 8) 64 = false)) ∧
    (let w := (deciding (fun s => { s with regions := [] })).slotShares; w.updateHeld 0 (st w) = true) ∧
    (let w := (deciding (fun s => { s with packages := [(0, { offline := true })] })).slotShares;
      w.updateHeld 0 (st w) = false ∧ w.engineStop updateIns updateOuts ≠ 0) ∧
    (let w := (deciding (fun s => { s with step := { s.step with sheet := some {
        q := 0, id := 9, slot := 0, count := 1, boundary := 0, phase := 0,
        segments := [{ seg := 160, addr := 0xA00000, off := 0x10000, len := 64 }] } } })).slotShares;
      w.updateHeld 0 (st w) = false ∧ w.engineStop updateIns updateOuts = 0 ∧ w.memoryWaits (updateIns ++ updateOuts) = false ∧
      updateOuts.any w.tensorBarred = true) := by decide +kernel

/-- A tensor whose frame map alone takes two frames. -/
def bigDesc : Line := cmdOf [(0, 0x15), (8, 2 ^ 19), (12, 2 ^ 18 + 4), (16, 1), (20, 1), (24, 1)]

/-- R190: with no scrubbed frame, a creation that needs two of them waits. -/
theorem unscrubbed_of_none (s : State) (d : Line) (hs : ∀ p i, s.scrubbed p i = false) (m : (descMirror (s.ownDesc d 1) != 0) = false)
    (e : runLength (s.ownDesc d 1) (descBytes (s.ownDesc d 1)) 1 = 2 ^ 21 + 64) : s.unscrubbed 7 d = true := by
  have hc : ∀ p n, s.contiguous false p (n + 1) = none := by
    intro p n
    have h : ∀ i, (List.range (n + 1)).all (fun k => s.frameFree false p (i + k) && s.scrubbed p (i + k)) = false := by
      intro i
      rw [List.all_eq_false]; exact ⟨0, by simp, by rw [hs]; simp⟩
    simp only [State.contiguous, h]; simp
  have a : s.allocRun 7 false (2 ^ 21 + 64) = none := by
    simp only [State.allocRun]
    rw [if_neg (by decide), if_neg (by decide)]
    simp only [show ceilDiv (2 ^ 21 + 64) (2 ^ 21) = 1 + 1 by decide, hc, if_neg (show ¬ (1 + 1 = 1) by decide)]
  have h : s.create 7 d = none := by simp only [State.create, State.placeTensor, m, e, a]
  simp only [State.unscrubbed, h]

/-- O21: a creation that waits for scrubbed frames. -/
theorem test_witness_TensorCommandsComplete_waits :
    (stocked id).createFail 7 bigDesc = none ∧ (stocked id).unscrubbed 7 bigDesc = true := by
  refine ⟨by decide +kernel, unscrubbed_of_none _ _ (fun p i => ?_) (by decide +kernel) (by decide +kernel)⟩
  simp [State.scrubbed, stocked, running, awake, State.reset, look]

/-- O21: a release that waits for a command. -/
theorem test_witness_TensorCommandsComplete_freeWaits :
    let r := stocked id; let s : State := { r with queues := r.queues ++ [(1, { started := [{ aStart with reads := [1] }] })] };
    Takes s 0 aRun (cmdOf [(0, 9), (8, 1)]) [] [1] ∧ s.freeWaits 1 = true := by unfold Takes; decide +kernel

/-- A read of one line at address 64, which came over the Traek link. -/
def aReq : ChanReq := { kind := .load, pkt := { via := .traek, addr := 64, length := 64 }, line := 64, since := 5 }

/-- The block awake, with channel 0 as given. -/
def withChannel (k : Channel) : State := { awake with channels := [(0, k)] }

/-- O25: a request at the ingress of a channel with room, of a full one, and admitted requests young and old. -/
theorem test_witness_ReadsAreAdmittedAndIssued :
    (let s := withChannel { ingress := [aReq] };
      s.cooling.stopped = false ∧ (s.channel 0).admitted.length < 128 ∧ (s.package 0).derate ≠ 3 ∧
      (s.channel 0).ingress.filter (fun x => !s.readBehind x) = [aReq] ∧
      roundRobin (s.channel 0).lastSource ([aReq].map (fun x => sourceOf x.pkt.via)) = some (sourceOf .traek) ∧
      [aReq].find? (fun x => sourceOf x.pkt.via == sourceOf .traek) = some aReq) ∧
    (128 ≤ ((withChannel { admitted := List.replicate 128 aReq }).channel 0).admitted.length) ∧
    (let s := withChannel { admitted := [aReq] };
      (s.channel 0).admitted = [aReq] ∧ (s.tick 6).now < aReq.since + 2000 ∧ aReq.since + 2000 ≤ (s.tick 3000).now) ∧
    (let s := { awake with packages := [(0, { critical := true }), (1, { offline := true })] };
      s.offline 1 = true ∧ s.offline 0 = false ∧ (s.package 0).critical = true ∧ awake.offline 0 = false) := by decide +kernel

/-- A whole-line add at address 0, and an atomic at 64. -/
def anAdd : AdderOp := .line 0 .int32 (List.replicate 64 1)
def anAtom : AdderOp := .atom 64 { kind := .add, wide := true, operand := 1 }

/-- O26: an add and an atomic that are performed. -/
theorem test_witness_AddersPerformOrQueue_done :
    (place 0 = .lpddr 0 ∧ awake.behindOthers anAdd = false ∧ awake.memStatus 0 64 .command true = 0 ∧ awake.adderHold 0 = none ∧
      awake.access 0 true = (awake, true) ∧ ((awake.retireLine (lineOf 0)).wakeChannel (chanOf 0)).badRange (lineOf 0) 64 = false) ∧
    (place 64 = .lpddr 64 ∧ awake.behindOthers anAtom = false ∧ awake.memStatus 64 8 .command true = 0 ∧ awake.adderHold 64 = none ∧
      awake.access 64 true = (awake, true) ∧ ((awake.retireLine (lineOf 64)).wakeChannel (chanOf 64)).badRange (lineOf 64) 64 = false ∧
      atomBytes { kind := .add, wide := true, operand := 1 } = 8) := by decide +kernel

/-- O26: an operation behind others, with and without an entry that fails its parity; the next waiter; entries that are idle and
not; a contribution that waited. -/
theorem test_witness_AddersPerformOrQueue_waits :
    let w : AdderWaiter := { op := anAtom, since := 0, key := 0x400800 };
    (let s := withChannel { adderWait := [w], entries := [{ line := 128 * 64 * 4, last := 0 }] };
      s.behindOthers anAdd = true ∧ s.opChannel anAdd = 0 ∧ chanOf 64 = chanOf (lineOf 64) ∧
      ((s.channel (s.opChannel anAdd)).entries[0]?.map (fun e => chanOf e.line)) = some (s.opChannel anAdd)) ∧
    (let s : State := { awake with channels := [(chanOf 64, { adderWait := [w] })] };
      (s.channel (chanOf 64)).adderOrder = [w] ∧ w.reply = none ∧ w.key ≠ 0 ∧ (s.opLines w.op).any (fun l => s.waitsAt l w.ord) = false ∧
      (match s.tryOp w.op .command s.node w.source with | .done _ => true | _ => false) = true) ∧
    (let s := withChannel { entries := [{ line := 0, last := 0 }] };
      256 * 10 * [12, 10, 9, 8, 7, 6, 5, 4].getD (s.region (ctrlRegion 0)).point 4 ≤ ((s.tick 3000).now - 0) * 108 ∧
      ¬ 256 * 10 * [12, 10, 9, 8, 7, 6, 5, 4].getD (s.region (ctrlRegion 0)).point 4 ≤ ((s.tick 5).now - 0) * 108) ∧
    (let s := { awake with stageWait := [(anAdd, 0)] };
      s.stageWait = [(anAdd, 0)] ∧ (match s.tryOp anAdd .command s.node 0 with | .done _ => true | _ => false) = true) := by
  decide +kernel

/-- O27: stores of a whole line and of a part. -/
theorem test_witness_PartialStoresCombine_stores :
    (place 0 = .lpddr 0 ∧ awake.memStatus 0 1 .command true = 0 ∧
      awake.waitsAt (lineOf 0) awake.arrivals = false ∧ awake.wcHold (lineOf 0) 1 false = none ∧
      awake.wcHold (lineOf 0) (BitVec.allOnes 64) false = none) ∧
    awake.barred (lineOf 0) = false ∧ awake.access (lineOf 0) true = (awake, true) ∧
    (awake.channel (chanOf (lineOf 0))).wc = [] := by decide +kernel

/-- O27: a store that waits; one to no memory. -/
theorem test_witness_PartialStoresCombine_others :
    (let s := { awake with packages := [(0, { derate := 3 })] }; s.wcHold (lineOf 0) 1 false = some 0x400D00 ∧
      s.memStatus 0 1 .command true = 0 ∧ s.waitsAt (lineOf 0) s.arrivals = false) ∧ place 0x050000000000 = .unmapped := by decide +kernel

/-- O27: the waiter at the front; entries 500 ns old and younger. -/
theorem test_witness_PartialStoresCombine_entries :
    (let w : WcWaiter := { line := 0, mask := 1, data := List.replicate 64 0, since := 0, key := 0x400900 };
      let s := withChannel { wcWait := [w] };
      (s.channel 0).storeOrder = [w] ∧ w.reply = none ∧ w.key ≠ 0 ∧ s.waitsAt w.line w.ord = false ∧ (s.tryPartial w.line w.mask w.data w.source w.poison).2 = none) ∧
    (let s := withChannel { wc := [{ line := 0, mask := 1, last := 0 }] };
      ((s.tick 500).channel 0).wc.find? (fun e => decide (e.last + 500 ≤ (s.tick 500).now)) = some { line := 0, mask := 1, last := 0 } ∧
      ∀ e ∈ ((s.tick 5).channel 0).wc, (s.tick 5).now < e.last + 500) := by decide +kernel

/-- O28: a channel that serves, one that does not; one idle for 1 µs; patrol scrub due and not. -/
theorem test_witness_ChannelsAreKept :
    (awake.chanServes 0 = true ∧ (awake.package 0).celsius ≤ 85 ∧ (awake.package 0).derate = 0) ∧
    (({ awake with packages := [(0, { derate := 1 })] } : State).package 0).derate ≠ 0 ∧
    (withChannel { selfRefresh := true }).chanServes 0 = false ∧
    ((awake.channel 0).lastUse + 1000 ≤ (awake.tick 1000).now ∧ (awake.tick 5).now < (awake.channel 0).lastUse + 1000) ∧
    (awake.mayScrub 0 = true ∧ (awake.channel 0).patrolNext = 0) ∧ (withChannel { admitted := [aReq] }).mayScrub 0 = false := by
  decide +kernel

/-- O29: packages that derate, cool down, and turn critical. -/
theorem test_witness_PackagesDerateByTemperature :
    ((awake.package 0).critical = false ∧ (awake.package 0).derate < derateLevel 90) ∧
    (let s : State := { awake with packages := [(0, { derate := 2, coolSince := [(2, some 0)] })] };
      (s.package 0).derate ≠ 0 ∧ look none (s.package 0).coolSince (s.package 0).derate = some 0 ∧ 10000000 ≤ (s.tick 10000000).now ∧
      (s.tick 5).now < 0 + 10000000) ∧
    (let s : State := { awake with packages := [(0, { derate := 3, critSince := some 0 })] };
      (s.package 0).critSince = some 0 ∧ (s.package 0).critical = false ∧ (s.package 0).offline = false ∧
      0 + 1000000000 ≤ (s.tick 1000000000).now) := by decide +kernel

/-- COPY of 64 bytes from 4 MiB to 8 MiB; ADD of one line of integers; FILL of a line. -/
def aTransfer (op : Nat) : Line :=
  cmdOf [(0, op), (8, if op = 0x42 then 0 else 0x400000), (14, if op = 0x42 then 0 else 0xFFFF), (16, 0x800000), (22, 0xFFFF), (24, 1),
    (25, if op = 0x41 then 4 else 0)]

/-- O30: COPY, ADD and FILL on a free cluster, and on one whose channels are taken. -/
theorem test_witness_TransfersStart :
    (∀ op ∈ [0x40, 0x41, 0x42], let s := running (fun r => { r with latched := cmdOf [(1, 3)] }); let c := aTransfer op;
      Takes s 0 aRun c [] [] ∧ s.transferFail 0 op c = none ∧ xBook op c = false ∧ s.freeChan (s.transferCluster op c) = some 0 ∧
      (s.cluster (s.transferCluster op c)).chanWait = []) ∧
    (let s := { awake with clusters := [(0, { chans := (List.range 8).map (fun n => (n, { job := some (0, 9) })) })] };
      s.freeChan (s.transferCluster 0x40 (aTransfer 0x40)) = none) := by unfold Takes; decide +kernel

/-- Tensor 6 in book mode, its ended epoch not closed as a sheet bars its data; an ADD into it. -/
def bookOwed (f : Queue → Queue) : State :=
  let r := running f
  { r with
    tensors := [(6, some {
      desc := cmdOf [(0, 1 + 3 * 16), (1, 0x20), (8, 16), (12, 16), (16, 1), (20, 1), (24, 1), (32, 0x800000), (38, 0xFFFF), (48, 16)]
      touched := [3] })]
    step := { r.step with sheet := some {
      q := 0, id := 9, slot := 0, count := 1, boundary := 0, phase := 0,
      segments := [{ seg := 128, addr := 0x800000, off := 0x10000, len := 64 }] } } }

/-- O30: an ADD into a tensor whose ended epoch owes its close; transfers without a book handle. -/
theorem test_witness_TransfersStart_owed :
    let s := bookOwed (fun r => { r with latched := cmdOf [(1, 3)] });
    let c := cmdOf [(0, 0x41), (8, 0x400000), (14, 0xFFFF), (24, 1), (25, 8), (37, 6)];
    Takes s 0 aRun c [] [xHandle c] ∧ xBook 0x41 c = true ∧ s.transferFail 0 0x41 c = none ∧ [xHandle c].any s.epochOwed = true := by
  unfold Takes; decide +kernel

/-- O31: waiters for a channel and for a transaction; full clusters; a channel with its transfer. -/
theorem test_witness_TransferResourcesAreGranted :
    let w : Waiter := { source := 0, id := 1, since := 0 };
    let at' := fun (k : Cluster) => { running id with clusters := [(0, k)] };
    ((at' { chanWait := [w] }).freeChan 0 = some 0 ∧ (at' {}).firstWaiter [w] = some w) ∧
    (at' { chans := (List.range 8).map (fun n => (n, { job := some (0, 9) })) }).freeChan 0 = none ∧
    ((at' { txWait := [w] }).inFlight 0 < 1536 ∧ roundRobin 0 [0] = some 0 ∧ roundRobin 0 [8] = some 8) ∧
    ((at' { chans := [(0, { job := some (0, 1) })] }).chan 0 0).job = some (0, 1) ∧
    (at' {}).twin.tees = [] ∧ ((at' {}).chan 0 0).job = none := by decide +kernel

/-- A transfer of queue 0 in a phase. -/
def moving (cmd : Line) (w : TransferWork) : State :=
  running (fun r => { r with serial := 1, started := [{ aStart with op := 0x40, cmd := cmd, work := .transfer w }] })

/-- O32: a transfer that moves, whose read-back is not back, is back, and whose signal is to be sent. -/
theorem test_witness_TransfersEndDurable :
    ((moving (aTransfer 0x40) { cluster := 0 }).transferOf 0 1).isSome = true ∧
    (let s := moving (cmdOf [(0, 0x40), (16, 0x800000), (22, 2), (24, 1)]) { cluster := 0, phase := 1 };
      (s.transferOf 0 1).map (fun x => s.backStatus x.1 x.2) = some none) ∧
    (let s := moving (aTransfer 0x40) { cluster := 0, phase := 1 };
      (s.transferOf 0 1).map (fun x => s.backStatus x.1 x.2) = some (some false)) ∧
    (let s := moving (cmdOf [(0, 0x40), (1, 1), (16, 0x800000), (22, 2), (24, 1), (25, 1)]) { cluster := 0, phase := 2 };
      (s.transferOf 0 1).map (fun x => (x.2.phase, s.signalsAway x.1)) = some (2, some 2)) := by decide +kernel

/-- The stocked block as node 1 with port 0 up, alone in group 0. -/
def grouped (f : Queue → Queue) : State :=
  { stocked f with
    dict := [(0x500100, some 1), (0x501200, some 0x200000), (0x501300, some 1)]
    ports := [(0, { state := 2 })]
    mem := [(0x200001, 0x80), (0x200002, 0x20), (0x200008, 1), (0x208000, 1)] }

/-- O33: the five collectives over no elements, and one that waits on a critical package. -/
theorem test_witness_CollectivesStart :
    (∀ op ∈ [0x50, 0x51, 0x52, 0x53, 0x54], let s := grouped (fun r => { r with latched := cmdOf [(1, 4)] }); let c := cmdOf [(0, op)];
      Takes s 0 aRun c (handlesAt c [8]) (handlesAt c [11]) ∧ s.colFail 0 c = none ∧ s.colWaits c = false ∧
      s.accessTensors (handlesAt c [8]) (handlesAt c [11]) = (s, true) ∧ s.accessGroup (fld c 14 2) = (s, true)) ∧
    (let r := grouped (fun r => { r with latched := cmdOf [(1, 4)] });
      let s := { r with packages := [(0, { derate := 3 })], tensors := [(1, some { desc := setFld (aDesc 5 0x400000) 38 2 1 }),
        (2, some { desc := setFld (aDesc 5 0x600000) 38 2 1 })] };
      let c := cmdOf [(0, 0x51), (8, 1), (11, 2)];
      s.colFail 0 c = none ∧ s.colWaits c = true) := by unfold Takes; decide +kernel

/-- A collective of node 1 alone over the first 128 elements of tensor 2. -/
def aCol (kind : Nat) : Collective :=
  { id := 0, q := 0, cmdId := 1, engine := 0, kind := kind, group := 0, digest := 0, gseq := 0, members := [1], rank := 0, root := 0,
    src := 1, dst := 2, first := 0, count := 128, operator := 0, verdict := false, closing := false, round := 0 }

/-- A chunk of 128 zeros of tensor 2, the last of its shard. -/
def aChunk (via : Via) : Packet :=
  { via := via, dst := 1, src := 1, addr := 2, length := 9, data := List.replicate 26 0 ++ [1] ++ List.replicate (37 + 512) 0 }

/-- O34: chunks over the Traek link, of no collective, of another command, ended before, and applied. -/
theorem test_witness_CollectiveChunksAreTaken :
    (let s := { awake with traek := { awake.traek with state := 2 } }; arrives s (aChunk .traek) = true) ∧
    (let s := grouped id; arrives s (aChunk (.fabric 0)) = true ∧ s.collectiveFor (aChunk .traek).data = none ∧
      s.colStale (aChunk .traek).data = false) ∧
    (∀ k ∈ [0x50, 0x51], let s := { grouped id with collectives := [aCol k] }; let p := aChunk (.fabric 0);
      s.collectiveFor p.data = some (aCol k) ∧ (k = 0x50 → s.planned (aCol k) true p = none) ∧
      let w := s.onCollective 0 (fun c => { c with progress := s.now });
      let x := (aCol k).chunkFor (k == 0x51) p.data 128;
      s.planned (aCol k) (k == 0x51) p = some 128 ∧ x.ended = false ∧ p.src.toNat = w.node ∧ p.poison = false ∧
      w.chunkStop (aCol k) (k == 0x51) x.first x.count = none ∧ w.accessTensors [] [2] = (w, true) ∧ x.count = 128 ∧
      sumOf (contribVals (w.desc 1) x.first 128 (p.data.drop 64)) = numAt p.data 32 4) := by decide +kernel

/-- A chunk that was taken. -/
def taken : ChunkSeen := { rank := 0, index := 0, first := 0, count := 128, sum := 0, abs := 0, applied := true, last := true }

/-- O34: a chunk that was taken before; the copy a gather chunk leaves has the sum the chunk carries. -/
theorem test_witness_CollectiveChunksAreTaken_sums :
    ((aCol 0x51).chunkFor true (aChunk .traek).data 128).ended = false ∧
    (({ aCol 0x51 with gathered := [taken] } : Collective).chunkFor true (aChunk .traek).data 128).ended = true ∧
    (let s := { grouped id with collectives := [aCol 0x51] }; let p := aChunk (.fabric 0);
      let w := s.onCollective 0 (fun c => { c with progress := s.now });
      let z := w.writeGather (aCol 0x51) 0 (gatherOf (w.desc 2) 0 128 (p.data.drop 64));
      (z.copySum (aCol 0x51) 0 128).2 = numAt p.data 32 4) := by decide +kernel

/-- A packet of a collective that node 1 has sent. -/
def aColSent : ColSent :=
  { collective := 0, tag := 7, node := 1, op := 0x20, handle := 2, flag := false, poison := false, data := [], covered := 0 }

/-- O35: a close of a collective that runs, one that is not for it; acknowledgements of each kind, and of nothing sent. -/
theorem test_witness_ClosesAndAcknowledgements :
    (let s := { grouped id with collectives := [aCol 0x51], colSent := [aColSent] };
      let p := fun (a op tag : Nat) => { aChunk (.fabric 0) with addr := BitVec.ofNat 64 a, op := BitVec.ofNat 16 op, tag := BitVec.ofNat 16 tag };
      arrives s (p 2 0 7) = true ∧ s.closeFor (p 2 0 7) = some (aCol 0x51, 0) ∧ s.closeFor (p 3 0 7) = none ∧
      s.colSent.find? (fun x => x.tag == (p 2 0 7).tag.toNat && x.node == (p 2 0 7).src.toNat) = some aColSent ∧
      (p 2 St.sumCheckFailed 7).op.toNat = St.sumCheckFailed ∧ (p 2 St.collectiveMismatch 7).op.toNat = St.collectiveMismatch ∧
      (p 2 0 7).op = 0 ∧ ∀ x ∈ s.colSent, ¬ (x.tag = (p 2 0 8).tag.toNat ∧ x.node = (p 2 0 8).src.toNat)) := by decide +kernel

/-- O36: shards that are due and not, of a reduction and of a scatter; an ended epoch, one still open; a collective overdue. -/
theorem test_witness_ShardsEpochsAndTimeouts :
    (∀ k ∈ [0x50, 0x51, 0x53], ∀ n ∈ [0, 1],
      let s := { grouped id with collectives := [{ aCol k with seen := List.replicate n taken, gathered := List.replicate n taken }] };
      let v := s.retryCols.endPhases; let c := (v.collective 0).getD (aCol 0);
      (v.collective 0).isSome = true ∧ c.mine = some 0 ∧ v.shardDue c = decide (n = 1)) ∧
    (let x := fun (n : Nat) => ({ desc := aDesc 5 0x400000, opens := n, touched := [3] } : Tensor);
      let s := fun (n : Nat) => ({ awake with tensors := [(1, some (x n))] } : State);
      (s 0).tensor 1 = some (x 0) ∧ (x 0).opens = 0 ∧ (x 0).touched ≠ [] ∧ (s 0).tensorBarred 1 = false ∧
      (s 1).tensor 1 = some (x 1) ∧ (x 1).opens ≠ 0) ∧
    (let s := { grouped id with collectives := [aCol 0x51] };
      s.collective 0 = some (aCol 0x51) ∧ (aCol 0x51).engine < 8 ∧ (aCol 0x51).holders = [] ∧
      (aCol 0x51).progress + s.dv 0x501400 * 1000000 * 1 ≤ (s.tick 30000000000).now ∧
      (s.tick 5).now < (aCol 0x51).progress + s.dv 0x501400 * 1000000 * 1) := by decide +kernel

/-- O37: hints of each kind; a hold that has run its limit and one that has not. -/
theorem test_witness_HintsMoveTimeouts :
    (let s := { grouped id with collectives := [{ aCol 0x51 with members := [1, 2], holders := [2], suspendedAt := some 0 }], cooling := { (grouped id).cooling with holds := [(2, 0)] } };
      let p := fun (op : Nat) => { aChunk (.fabric 0) with src := 2, op := BitVec.ofNat 16 op };
      arrives s (p 1) = true ∧ (p 1).op = 1 ∧ arrives (s.tick 5) (p 2) = true ∧ (p 2).op = 2 ∧ (p 3).op = 3 ∧ (p 3).src.toNat = 2 ∧
      s.cooling.holds = [(2, 0)] ∧ 0 + s.dv 0x281700 * 1000000000 ≤ (s.tick 700000000000).now ∧
      (s.tick 5).now < 0 + s.dv 0x281700 * 1000000000) := by decide +kernel

/-- A MATMUL of queue 0 with one unit to be dispatched. -/
def multiplying (w : MatmulWork) (f : State → State) : State :=
  f (stocked (fun r => { r with serial := 1, started := [{ aStart with op := 0x10, cmd := aMatmul, work := .matmul w }] }))

/-- Its unit, and the unit as a finished tile. -/
def aTile : Tile := { q := 0, id := 1, unit := 0, since := 0 }
def aFin : FinTile := { tile := aTile, acc := [], flags := 0 }

/-- The multiplying block with cluster 0 as given. -/
def inCluster (w : MatmulWork) (k : Cluster) : State := multiplying w (fun s => { s with clusters := [(0, k)] })

/-- O38: no cluster to dispatch to, nothing to dispatch, and a tile that is placed. -/
theorem test_witness_TilesAreDispatchedAndFetched_dispatch :
    (let s := { awake with clusters := (List.range 32).map (fun c => (c, { state := 1 })) }; s.candidates = []) ∧
    (awake.candidates ≠ [] ∧ awake.agedJobs awake.readyJobs ++ awake.dispatchOrder awake.readyJobs = []) ∧
    (let s := multiplying { parts := 1, total := 1 } id;
      s.candidates ≠ [] ∧ (s.dispatchOrder s.readyJobs).map (·.1) = [0] ∧
      ((s.dispatchOrder s.readyJobs).head?.bind (fun x => s.placeUnit x.2.1 x.2.2 x.2.2.nextUnit)).map
        (fun x => decide ((s.cluster x.1).slotsUsed < 64)) = some true) ∧
    (let s := (multiplying { parts := 1, total := 1 } id).tick 200000000; (s.agedJobs s.readyJobs).map (·.1) = [0]) := by
  decide +kernel

/-- O38: a command that waits for a page, with pages left and without; a fetch that arrives; none. -/
theorem test_witness_TilesAreDispatchedAndFetched_pages :
    let w : Waiter := { source := 0, id := 1, since := 0 };
    (let s := inCluster { parts := 1, total := 1, next := 1 } { pageWait := [w] };
      (s.cluster 0).pageWait = [w] ∧ 0 < s.pagesLeft 0) ∧
    (awake.cluster 0).pageWait = [] ∧
    (let f : Fetch := { tile := aTile, ofB := false, b := 0, part := 0, n := 0, bytes := 64 };
      let s := inCluster { parts := 1, total := 1, next := 1 } { fetches := [f], slots := [aTile] };
      ((s.pumpPager 0).cluster 0).fetches.find? (s.pumpPager 0).mayFetch = some { f with taken := true } ∧
      ((s.pumpPager 0).tileJob f.tile).isSome = true) ∧
    ((awake.pumpPager 0).cluster 0).fetches.find? (awake.pumpPager 0).mayFetch = none := by decide +kernel

/-- O39: an array with a tile whose operands are here, and one that waits. -/
theorem test_witness_TilesAreFinished_array :
    (∀ wait ∈ [false, true],
      let s := inCluster { parts := 1, total := 1, next := 1 } { arrays := [(0, { cur := some aTile, waits := wait })] };
      (s.array 0 0).cur = some aTile ∧ (s.array 0 0).waits = wait ∧ s.regionRuns 0 = true ∧
      (s.tileJob aTile).map (fun x => s.operandsHere 0 aTile x.1 && !s.ingressFull (handlesAt x.1.cmd [8, 11])) = some true) ∧ (awake.array 0 0).cur = none := by decide +kernel

/-- O39: banks that drain; a full finished-tile queue; a tile the vector engine takes, and one that stays in its bank. -/
theorem test_witness_TilesAreFinished_queue :
    (let s := inCluster { parts := 1, total := 1, next := 1 } { arrays := [(0, { full := [aFin] })] };
      s.drainers 0 ≠ [] ∧ (s.cluster 0).finished.length < 8 ∧ (s.array 0 (s.mostStalled 0 (s.drainers 0))).full = [aFin]) ∧
    8 ≤ ((inCluster { parts := 1, total := 1 } { finished := List.replicate 8 aFin }).cluster 0).finished.length ∧
    (let s := inCluster { parts := 1, total := 1, next := 1 } { finished := [aFin] };
      s.regionRuns 0 = true ∧ (s.cluster 0).finished = [aFin] ∧ (s.holdEpilogue 0 aTile).2 = false ∧ (s.tileJob aTile).isSome = true) ∧
    (awake.regionRuns 0 = true ∧ (awake.cluster 0).finished = [] ∧ ∀ a : Fin 32, (awake.array 0 a).full = []) ∧
    (let s := inCluster { parts := 1, total := 1, next := 1, inPlace := true } { arrays := [(0, { full := [aFin] })] };
      (s.array 0 0).full = [aFin] ∧ aFin.held = false ∧ s.staysInBank aFin = true ∧ s.epilogueHeld aTile = false ∧
      (s.holdEpilogue 0 aTile).2 = false) ∧
    (let s := { inCluster { parts := 1, total := 1, next := 1 } { finished := [aFin] } with packages := [(0, { derate := 3 })] };
      s.regionRuns 0 = true ∧ (s.cluster 0).finished = [aFin] ∧ (s.holdEpilogue 0 aTile).2 = true) ∧
    ({ awake with regions := [] } : State).regionRuns 0 = false := by decide +kernel

/-- O40: queues that are enabled, faulted or neither; entries an enable takes and refuses. -/
theorem test_witness_QueuesWakeEnableAndDisable :
    (qEnabled ((running id).queue 0).entry && !qFaulted ((running id).queue 0).entry) = true ∧
    (qEnabled (awake.queue 0).entry && !qFaulted (awake.queue 0).entry) = false ∧
    awake.enableStatus (awake.queue 0).entry ≠ 0 ∧
    (let s : State := { awake with queues := [(0, { entry := cmdOf [(2, 1), (4, 4), (8, 0x10000)] })] };
      (qEnabled (s.queue 0).entry && !qFaulted (s.queue 0).entry) = false ∧ s.enableStatus (s.queue 0).entry = 0 ∧
      qPreference (s.queue 0).entry < 32 ∧ s.enabled (qPreference (s.queue 0).entry) = true) ∧
    ({ entry := 1, watch := cmdOf [(0, 1)] } : Queue).faultStatus = 0 ∧ ({ entry := 1, watch := cmdOf [(0, 2 ^ 40)] } : Queue).faultStatus ≠ 0 := by
  decide +kernel

/-- A queue with a submission entry that waits. -/
def due (f : State → State) : State :=
  f { awake with queues := [(0, { entry := cmdOf [(0, 1), (8, 0x10000), (14, 0xFFFF)], latched := cmdOf [(8, 0x10000), (14, 0xFFFF)], watch := cmdOf [(0, 1)] })] }

/-- O41: a list that is due; queues awake, asleep and homed on a cluster that is gone; commands done, blocked and not done. -/
theorem test_witness_ListsStartMoveAndComplete :
    ((due id).listDue 0 = true ∧ (due id).fetchStatus ((due id).queue 0).submissionAddr 16 = 0 ∧ (running id).listDue 0 = false) ∧
    (qEnabled (awake.queue 0).entry = false ∧ qSleeping (qSetBit 1 2 true) = true ∧ qEnabled (qSetBit 1 2 true) = true) ∧
    (let s := due (fun s => { s with clusters := [(0, { state := 2 })] });
      qEnabled (s.queue 0).entry = true ∧ s.enabled (qHome (s.queue 0).entry) = false) ∧
    (∀ d ∈ [true, false], let s := running (fun r => { r with started := [{ aStart with done := d }] });
      s.twin.tees = [] ∧ s.startedOf 0 1 = some { aStart with done := d } ∧
      (s.queue 0).blocked (cmdRecord aStart.cmd) (withEmpty aStart.status aStart.flags) = false) ∧
    (running id).startedOf 0 1 = none ∧
    (let s := running (fun r => { r with latched := cmdOf [(5, 4)], entry := cmdOf [(0, 1), (5, 4), (32, 16)], started := [{ aStart with done := true, cmd := cmdOf [(1, 2)] }] });
      (s.queue 0).blocked (cmdRecord (cmdOf [(1, 2)])) (withEmpty aStart.status aStart.flags) = true) := by decide +kernel

/-- The stocked block of class 5 in step 1, with a snapshot set of tensor 1 at 3 MiB and slots of 1 MiB at 16 MiB. -/
def snapping (f : State → State) : State :=
  let s := stocked (fun r => { r with latched := cmdOf [(1, 5)] });
  f { s with
    dict := [(0x601000, some (0x1000000 + 0xFFFF * 2 ^ 48)), (0x601100, some 0x100000), (0x601F00, some (0x300000 + 2 ^ 64)), (0xA03200, some 1)]
    mem := [(0x300000, 1), (0x300003, 1)] }

/-- O42: STOP_BATH, SHEET and RESTORE at once, with a bath running, and tagged. -/
theorem test_witness_SnapshotCommandsStart :
    (let s := snapping id;
      (∀ imm ∈ [0, 1], let c := cmdOf [(0, 0x60), (8, 1 - imm), (12, imm)];
        Takes s 0 aRun c [] [] ∧ s.headerFail 0 c bathReserved = none ∧ s.bathFail (bitAt c 12 0) true (fld c 8 4) 8 = none) ∧
      (let c := cmdOf [(0, 0x62), (8, 0x300000), (16, 1), (24, 1)];
        Takes s 0 aRun c [] [] ∧ s.headerFail 0 c sheetReserved = none ∧ s.bathFail (bitAt c 24 0) true (fld c 20 4) 20 = none ∧
        s.sheetFail (fld c 8 8) (fld c 16 4) = none) ∧
      (let c := cmdOf [(0, 0x64), (20, 2)];
        Takes s 0 aRun c [] [] ∧ s.headerFail 0 c restoreReserved = none ∧ s.bathFail true false 0 24 = none ∧ s.storeReach c = none) ∧
      s.step.bath = none ∧ s.step.bathWait = [] ∧ s.step.sheet = none ∧ s.backOut 0 1 = false ∧ s.sheetUnderWay = false) := by
  unfold Takes; decide +kernel

set_option maxRecDepth 200000 in
/-- O42: the header of a sheet that begins is stored. -/
theorem test_witness_SnapshotCommandsStart_sheet :
    ((snapping id).openSheet { q := 0, id := 1, purpose := 1, tag := none, mirror := false, keep := false, stage := 1, since := 0, boundary := 0 } 0).2 = 0 := by
  decide +kernel

/-- O42: RELEASE and SHEET_ABORT. -/
theorem test_witness_SnapshotCommandsStart_others :
    ∀ op ∈ [0x61, 0x63], let s := snapping id; let c := cmdOf [(0, op)];
      Takes s 0 aRun c [] [] ∧ s.headerFail 0 c [(8, 0, 448)] = none ∧ HasRoom s 0 c 0 := by unfold Takes HasRoom; decide +kernel

/-- A bath of queue 0 in a stage, and a sheet with a segment to be copied. -/
def aBath (p n : Nat) : Bath := { q := 0, id := 1, purpose := p, tag := none, mirror := false, keep := false, stage := n, since := 0, boundary := 0 }
def aSheet (ps : List SheetPiece) (n : Nat) : Sheet := { q := 0, id := 1, slot := 0, count := 1, boundary := 0, phase := n, segments := ps }
def bathing (p n : Nat) : State := snapping (fun s => { s with step := { s.step with bath := some (aBath p n) } })
def sheeting (ps : List SheetPiece) (n : Nat) : State := snapping (fun s => { s with step := { s.step with sheet := some (aSheet ps n) } })

/-- O43: no bath; stages that are over and not; the timeout, with a sheet or not. -/
theorem test_witness_BathsSheetsAndStepsGoOn_baths :
    (snapping id).step.bath = none ∧
    (∀ x ∈ [(0, 1), (0, 5), (1, 5), (2, 6), (0, 8)], let s := bathing x.1 x.2;
      s.step.bath = some (aBath x.1 x.2) ∧ (s.stageAct x.2).bathStageOver (aBath x.1 x.2) = true) ∧
    (let s := { bathing 0 5 with ingress := [{ source := 0, counter := 0, since := 0, set := true, value := 0 }] };
      (s.stageAct 5).bathStageOver (aBath 0 5) = false) ∧
    ((bathing 0 1).tick 5).now < 0 + (bathing 0 1).dv 0x601400 * 1000000 ∧
    0 + (bathing 0 1).dv 0x601400 * 1000000 ≤ ((bathing 0 1).tick (10 ^ 9)).now ∧ (bathing 0 1).otherStarted (aBath 0 1) = [] := by
  decide +kernel

/-- O43: no sheet; a segment that can be read and one that is poisoned; the end of the copy; the last read-back. -/
theorem test_witness_BathsSheetsAndStepsGoOn_sheets :
    (snapping id).step.sheet = none ∧
    (let p : SheetPiece := { seg := 0, addr := 0x400000, off := 0x10000, len := 64 }; let s := sheeting [p] 0;
      (aSheet [p] 0).nextSeg = some 0 ∧ s.pieceCause p = 0 ∧ (s.storePieces (aSheet [p] 0) 0).2 = 0) ∧
    (let p : SheetPiece := { seg := 0, addr := 0x400000, off := 0x10000, len := 64 };
      let s := { sheeting [p] 0 with packages := [(0, { offline := true }), (1, { offline := true })] };
      ([p].filter (fun p => p.seg == 0)).find? (fun p => s.pieceCause p != 0) = some p ∧ s.pieceCause p ≠ St.memoryDenied) ∧
    (aSheet [] 0).nextSeg = none ∧
    (∀ n ∈ [1, 2], (sheeting [] n).sheetReqs 0 1 = false) := by decide +kernel

/-- O43: a step boundary that is due, and one that is not. -/
theorem test_witness_BathsSheetsAndStepsGoOn_boundary :
    (let s := snapping (fun s => { s with step := { s.step with lastDone := some true, pend := [(0x800200, some 1)] } });
      s.step.lastDone = some true ∧ s.boundaryDue = true ∧ ∀ e ∈ s.step.pend, e.1 = 0x800200 ∨ e.1 = 0x401200) ∧
    awake.step.lastDone = none := by decide +kernel

/-- The block awake, with port 0 as given; with the Traek link as given. -/
def withPort (r : Port) : State := { awake with ports := [(0, r)] }
def withTraek (x : Traek) : State := { awake with traek := x }

set_option maxRecDepth 100000 in
/-- O44: a flit in order with a good CRC. -/
theorem test_witness_PortEventsComplete_flit :
    let b := (flitCorrect (flitBytes 224 (Flit.fabric { seq := 0, payload := [1, 2, 3] }))).2;
    crc32 (b.take 208) = numAt b 208 4 ∧ numAt b 200 2 / 4096 = 0 ∧ numAt b 202 2 < 8192 ∧ numAt b 204 3 % 8 ≤ 4 ∧ numAt b 207 1 = 0 ∧
    BitVec.ofNat 12 (numAt b 200 2) = ((withPort { state := 2 }).port 0).rxSeq + 1 := by decide +kernel

set_option maxRecDepth 100000 in
/-- O44, O45: a flit whose CRC is wrong. -/
theorem test_witness_PortEventsComplete_badFlit :
    let b := (flitCorrect (flitBytes 224 [])).2; crc32 (b.take 208) ≠ numAt b 208 4 := by decide +kernel

set_option maxRecDepth 100000 in
/-- O45: a flit of the Traek link in order with a good CRC. -/
theorem test_witness_TraekGatewayAndBankEventsComplete_flit :
    let b := (flitCorrect (flitBytes 276 (Flit.traek { seq := 0, payload := [1, 2, 3] }))).2;
    crc32 (b.take 260) = numAt b 260 4 ∧ BitVec.ofNat 10 (numAt b 256 4) = (withTraek { state := 2 }).traek.rxSeq + 1 := by decide +kernel

/-- O44: ports down, up, retraining; lanes in service; a laser input low for 10 ms; the retrain command. -/
theorem test_witness_PortEventsComplete :
    (awake.port 0).state = 0 ∧ ((withPort { state := 2, lanes := 0xFF }).port 0).lanes.getLsbD 3 = true ∧
    (0xFF : BitVec 8) &&& ~~~(BitVec.ofNat 8 (2 ^ 3)) ≠ 0 ∧ (8 : BitVec 8) &&& ~~~(BitVec.ofNat 8 (2 ^ 3)) = 0 ∧
    (let s := withPort { state := 2, laserLow := [(0, some 5)] };
      (look none ((s.tick 10000005).port 0).laserLow 0).getD (s.tick 10000005).now = 5 ∧ 5 + 10000000 ≤ (s.tick 10000005).now ∧
      (s.tick 6).now < 5 + 10000000) ∧
    (awake.port 0).retraining = false ∧ ((withPort { state := 2, retraining := true }).port 0).retraining = true ∧
    ((awake.port 0).state ≠ 2 ∧ (awake.region (portRegion 0)).power ≠ 3 ∧ 7 ≤ awake.boot.state) ∧
    ((withPort { state := 2 }).port 0).state = 2 ∧ (awake.renewHold .host).writeStatus .host 0x501A00 4 = 0 := by decide +kernel

/-- O45: the states of the Traek link and its commands. -/
theorem test_witness_TraekGatewayAndBankEventsComplete_link :
    awake.traek.state = 0 ∧ (withTraek { released := true }).traek.state = 0 ∧ ((withTraek { released := true }).region 46).power ≠ 3 ∧
    (let s := withTraek { state := 1, released := true };
      s.traek.state ≠ 2 ∧ s.traek.state ≠ 3 ∧ s.traek.released = true ∧ (s.region 46).power ≠ 3 ∧ s.traekAllowed 16 0 = true ∧
      s.traekAllowed 3 0 = false) ∧
    (let s := withTraek { state := 3, released := true, width := 16 }; s.traek.state = 3 ∧ s.traekAllowed 16 0 = true ∧ s.traekAllowed 3 0 = false) ∧
    (let s := withTraek { state := 2, released := true, width := 16 };
      s.traek.state = 2 ∧ s.traekHas 5 = true ∧ (s.renewHold .host).writeStatus .host 0x503600 4 = 0) ∧
    (withTraek { state := 2, released := true, width := 4 }).traekHas 9 = false := by decide +kernel

/-- O45: the gateway, the node ID, the counter banks. -/
theorem test_witness_TraekGatewayAndBankEventsComplete_others :
    (let g := fun (n : Nat) => ({ node := 2, source := 3, bytes := n, since := 0, parts := [] } : Segment);
      let s := fun (n : Nat) => withPort { state := 2, gatewayWait := [g n] };
      ((s 64).port 0).gatewayWait = [g 64] ∧ roundRobin 0 [3] = some 3 ∧ ((s 64).port 0).gatewayBytes + (g 64).bytes ≤ 0x100000 ∧
      0x100000 < ((s 0x100001).port 0).gatewayBytes + (g 0x100001).bytes) ∧
    (awake.renewHold .host).streamOpen = false ∧ (awake.renewHold .host).writeStatus .host 0x500100 2 = 0 ∧
    (let x : CtrUpdate := { counter := 5, set := true, value := 1, source := 2, since := 0 };
      let s := { awake with ingress := [x] };
      s.ingress.filter (fun u => u.counter / 256 == 0) = [x] ∧ roundRobin (look 0 s.bankLast 0) [2] = some 2) := by decide +kernel

/-- Node 1 with port 0 up, one inbound fabric window and one Traek window over all of memory, and node 2 its peer. -/
def netted (f : State → State) : State :=
  f { awake with
    dict := [(0x500100, some 1), (0x503100, some 7), (0x600200, some 2), (0x902001, some (2 * 2 ^ 16 + 2 ^ 46 * 2 ^ 80 + 0x8F * 2 ^ 128)),
      (0x903001, some (2 ^ 40 * 2 ^ 64 + 0x8F * 2 ^ 192)), (0x903002, some (2 ^ 40 + 2 ^ 20 * 2 ^ 64 + 0x90 * 2 ^ 192))]
    ports := [(0, { state := 2 })]
    traek := { awake.traek with state := 2 } }

/-- A packet from node 2 with a sequence number; a message from the companion. -/
def fromNode2 (n : Nat) : Packet := { via := .fabric 0, dst := 1, src := 2, seq := BitVec.ofNat 32 n, addr := 64, length := 64, data := List.replicate 64 0 }
def fromHost (a : Nat) : Packet := { via := .traek, addr := BitVec.ofNat 64 a, length := 64, data := List.replicate 64 0 }

/-- O46: packets in order, ahead of a gap, behind; a message; windows that grant and refuse. -/
theorem test_witness_RequestsArriveAndTakeEffect :
    (let s := netted id; let st := s.streamIn (inKey (fromNode2 0));
      arrives s (fromNode2 0) = true ∧ st.held = [] ∧ st.skipped = [] ∧ st.next < 2 ^ 32 ∧ (fromNode2 0).seq.toNat = st.next ∧
      2 ^ 31 ≤ ((fromNode2 (2 ^ 32 - 1)).seq.toNat + 2 ^ 32 - st.next) % 2 ^ 32 ∧ (fromNode2 5).seq.toNat < 2 ^ 31 ∧ s.holdback 0 < 256 ∧
      s.flaggedReq .store (fromNode2 0) = false ∧ s.flaggedReq .store { fromNode2 0 with flag := true } = true) ∧
    (let s := netted (fun s => { s with streamsIn := [(9, { held := List.replicate 256 (.load, fromNode2 0, 0) })] });
      256 ≤ s.holdback 0 ∧ (s.streamIn (inKey (fromNode2 0))).held = []) ∧
    (let s := netted id; arrives s (fromHost 64) = true ∧ (s.streamIn (inKey (fromHost 64))).held = [] ∧
      s.traekTarget 64 64 1 = .inl 64 ∧ s.traekTarget (2 ^ 40) 64 1 = .inr St.dictOnly ∧ s.traekTarget (2 ^ 50) 64 1 = .inr St.addressUnmapped) ∧
    (let s := netted (fun s => { s with channels := [(0, { ingress := [{ kind := .load, pkt := fromNode2 0, line := 64, since := 0 }] })] });
      (s.onStreamIn (inKey (fromNode2 0)) (fun r => { r with held := r.held ++ [(.store, { fromNode2 0 with flag := true }, s.now)] })).unapplied
        (inKey (fromNode2 0)) ≠ []) ∧
    ((fromNode2 0).src.toNat = (netted id).peer ∧ ({ fromNode2 0 with src := 3 } : Packet).src.toNat ≠ (netted id).peer) ∧
    ((netted id).isCompanion 1 = false ∧ (netted id).inboundGrants 2 64 64 1 = true ∧ (netted id).inboundGrants 3 64 64 1 = false) ∧
    (let r : ChanReq := { kind := .load, pkt := fromNode2 0, line := 64, since := 0 };
      (netted id).lineWait.any (fun x => lineOf x.line == lineOf r.line) = false) ∧
    (place 0x100000000040 = .scratch 0x100000000040 ∧ ((netted id).region 0).power = 0 ∧
      (netted id).memStatus 0x100000000040 64 .outside false = 0) := by decide +kernel

/-- A packet that has been sent to node 2, and the stream it belongs to. -/
def aSent (n : Nat) : OutPkt := { seq := n, owner := none, lo := 0, hi := 63, msg := .railVoltage 0, tag := 9 }
def sending (f : StreamOut → StreamOut) : State := netted (fun s => { s with streamsOut := [(2, f { next := 5, unacked := [aSent 3, aSent 4] })] })

/-- O47: answers to packets sent; a stream that probes; snoops answered and overdue; heartbeats; dictionary messages. -/
theorem test_witness_ResponsesAndSnoopsTakeEffect :
    (let s := sending id; arrives s (fromNode2 3) = true ∧ s.answerKey (fromNode2 3) = 2 ∧
      (s.streamOut 2).unacked.find? (fun o => o.tag == 9) = some (aSent 3) ∧ (s.streamOut 2).unacked.find? (fun o => o.tag == 0) = none ∧
      (s.streamOut 2).probing = false) ∧
    (let s := sending (fun r => { r with probing := true });
      (s.streamOut 2).probing = true ∧ (s.streamOut 2).unacked.filter (fun o => decide (0 < (o.seq + 2 ^ 32 - 3) % 2 ^ 32) &&
        decide ((o.seq + 2 ^ 32 - 3) % 2 ^ 32 < 2 ^ 31) && !(s.streamOut 2).replayed.contains o.seq) ≠ []) ∧
    (let x : Snoop := { line := lineKey 64, agent := 2, share := false, since := 0 };
      let s := netted (fun s => { s with snoops := [x] });
      s.snoops.find? (fun x => x.line == lineKey 64 && x.agent == 2) = some x ∧
      (s.tick (10 ^ 9)).snoops.find? (fun x => x.line == lineKey 64 && decide (x.since + 1000 * (s.tick (10 ^ 9)).dv 0x501100 ≤ (s.tick (10 ^ 9)).now)) = some x) ∧
    (netted id).snoops = [] ∧ (fromNode2 0).src.toNat = (netted id).peer ∧ (0 : Fin 8).val < 2 ∧
    (let s := netted id; arrives s (fromHost 64) = true ∧ s.localNode (3 * 2 ^ 48 / 2 ^ 48) = false ∧ s.localNode 1 = true ∧
      s.traekWindow (2 ^ 50) 1 = none ∧ (s.traekWindow 64 1).map (fun w => (natFld w 24 1).testBit 4) = some false ∧
      (s.traekWindow (2 ^ 40) 1).map (fun w => (natFld w 24 1).testBit 4) = some true) := by decide +kernel

/-- The netted block in a twin state. -/
def twinned (n : Nat) (f : Twin → Twin) : State :=
  netted (fun s => { s with dict := s.dict ++ [(0x600100, some n)], twin := f s.twin })

/-- O48: pairing and detaching: the commands, their time limits, loss, heartbeats, release of a frozen negative. -/
theorem test_witness_PairRowsTakeEffect :
    (let v := fun (n : Nat) => (twinned n id).tick 5;
      ((v 0).twinCommand .host && (v 0).pairStatus == 0) = true ∧ ((v 2).twinCommand .host && (v 2).pairStatus == 0) = false ∧
      ((v 2).twinCommand .host && (v 2).detachStatus == 0) = true ∧ ((v 0).twinCommand .host && (v 0).detachStatus == 0) = false ∧
      (v 0).twin.detachAt = none) ∧
    (let s := twinned 1 id; s.twinState = 1 ∧ s.twin.since + 1000000000 ≤ (s.tick 1000000000).now ∧ (s.tick 5).now < s.twin.since + 1000000000) ∧
    (let v := fun (own got : Bool) => (twinned 3 (fun x => { x with detachAt := some 0, detachOwn := own, detachGot := got })).tick 60000000000;
      ((v true false).dv 0x600100 == 3 && (v true false).twin.detachOwn && !(v true false).twin.detachSent && !(v true false).detachBath &&
        decide (0 + (v true false).dv 0x600D00 * 500000 ≤ (v true false).now)) = true ∧ (v true false).dv 0xA03200 = 0 ∧
      ((v false true).dv 0x600100 == 3 && (v false true).twin.detachGot && !(v false true).twin.detachOwn &&
        decide (0 + (v false true).dv 0x600D00 * 500000 ≤ (v false true).now)) = true ∧
      ((v true false).twinState == 3 && (v true false).twin.detachOwn &&
        decide (0 + (v true false).dv 0x600D00 * 1000000 ≤ (v true false).now)) = true ∧
      (v false true).twin.detachOwn = false ∧ (v true false).twin.detachGot = false) ∧
    (let v := fun (b : Bool) => { (twinned 3 (fun x => { x with detachAt := some 0, detachOwn := true })).tick 60000000000 with step := { awake.step with updated := b } };
      let w := fun (b : Bool) => { v b with dict := (v b).dict ++ [(0xA03200, some 1)] };
      (w true).dv 0xA03200 ≠ 0 ∧ (w true).step.updated = true ∧ (w false).step.updated = false) ∧
    (let v := fun (t : Nat) => (twinned 2 id).tick t;
      ((v 3000000).beating && decide ((v 3000000).twin.lastBeat + 3000000 ≤ (v 3000000).now)) = true ∧
      ((v 5).beating && decide ((v 5).twin.lastBeat + 3000000 ≤ (v 5).now)) = false ∧
      ((v 1000000).teeRun.beating && decide ((v 1000000).teeRun.twin.lastSentAt + 1000000 ≤ (v 1000000).teeRun.now)) = true ∧
      ((v 5).teeRun.beating && decide ((v 5).teeRun.twin.lastSentAt + 1000000 ≤ (v 5).teeRun.now)) = false) ∧
    ((twinned 4 id).twinCommand .host && (twinned 4 id).releaseStatus == 0) = true ∧
    ((twinned 0 id).twinCommand .host && (twinned 0 id).releaseStatus == 0) = false := by decide +kernel

/-- A pairing record of a kind from node 2, with its attempt number. -/
def aRecord (k attempt : Nat) : List Byte :=
  [0x54, 0x57, 0x4E, 0x31, BitVec.ofNat 8 k, 1, 0, 0, BitVec.ofNat 8 attempt] ++ List.replicate 247 0

def mailPacket (k : Nat) : Packet :=
  { via := .fabric 0, dst := 1, src := 2, seq := 0, addr := BitVec.ofNat 64 mailboxBase, length := 4, data := aRecord k 7 }

/-- O49: a record of each kind arrives; a bad one; records of the attempt in progress and of another. -/
theorem test_witness_PairingRecordsAreTaken :
    (∀ k ∈ [1, 2, 3, 4, 5, 6], let s := twinned 1 id; let p := mailPacket k;
      arrives s p = true ∧ p.src.toNat = s.peer ∧ p.addr.toNat % 2 ^ 48 = mailboxBase ∧ p.length = 4 ∧ p.mask = BitVec.allOnes 64 ∧
      p.data.length = 256 ∧ numAt p.data 4 1 = k ∧ recordGood p.data = true ∧
      s.inboundGrants p.src.toNat mailboxBase 256 1 = true ∧ s.isCompanion p.dst.toNat = false ∧
      s.lineWait.any (fun x => lineOf x.line == lineOf mailboxBase) = false ∧
      (s.streamIn (inKey p)).held = [] ∧ (s.streamIn (inKey p)).skipped = [] ∧ p.seq.toNat = (s.streamIn (inKey p)).next ∧
      ∀ s0 ∈ [s, s.tick 5], (s0.onStreamIn (inKey p) (fun r => { r with held := r.held ++
        [(.store, { p with flag := true }, s0.now)] })).unapplied (inKey p) = []) ∧
    recordGood [] = false ∧
    (∀ n ∈ [0, 1, 2, 3, 4], let v := twinned n (fun x => { x with offer := some (aRecord 1 7), detachSent := true });
      v.twinState = n ∧ v.twin.offer = some (aRecord 1 7) ∧ numAt (aRecord 1 7) 8 4 = numAt (aRecord 2 7) 8 4 ∧
      numAt (aRecord 1 7) 8 4 ≠ numAt (aRecord 2 8) 8 4 ∧ v.twin.detachSent = true) := by decide +kernel

/-- The block awake, with one region as given. -/
def withRegion (r : Nat) (f : Region → Region) : State :=
  { awake with regions := awake.regions.map (fun x => if x.1 = r then (r, f x.2) else x) }

/-- Region 5 waits for its wake, both halves' allowances as given. -/
def waking (n a : Nat) (w : List SlopeReq) : State :=
  let s := withRegion 5 (fun x => { x with power := n, wake := true });
  { s with power := { s.power with west := { allowance := a, waiting := w }, east := { allowance := a, waiting := w } } }

/-- O50: a region that may gate, one gated for its time, one that wakes, one in its staged wake. -/
theorem test_witness_ClockRowsTakeEffect_gating :
    (let s := (withRegion 5 id).atTime 100000000; let x := s.region 5;
      x.power = 0 ∧ x.tripped = false ∧ x.coolant = false ∧ x.interval = false ∧ x.change.isNone = true ∧ s.mayGate 5 = true ∧
      x.filler * 2 ≤ (s.now - x.fillerAt) * s.dv 0x200600 ∧ x.idleSince + s.dv 0x301000 ≤ s.now) ∧
    (let s := (withRegion 5 (fun x => { x with power := 1 })).atTime 1000000000; let x := s.region 5;
      x.power = 1 ∧ x.wake = false ∧ x.staged = 0 ∧ x.gatedSince + 1000 * s.dv 0x301100 ≤ s.now) ∧
    (∀ n ∈ [1, 2], let s := (waking n 0 []).atTime 5; (s.region 5).power = n ∧ (s.region 5).wake = true ∧ (s.region 5).staged = 0 ∧
      s.slopeWaits 2 5 = false) ∧
    (let s := (withRegion 5 (fun x => { x with power := 1, wake := true, staged := 3 })).atTime 5;
      (s.region 5).power = 1 ∧ (s.region 5).wake = true ∧ 0 < (s.region 5).staged) ∧
    (let s := (waking 1 0 [{ kind := 2, region := 5, who := (0, 0), step := 5, since := 0 }]).atTime 5;
      (s.region 5).wake = true ∧ s.slopeWaits 2 5 = true) := by decide +kernel

/-- O50: the wake of a gated region with no heavily loaded neighbour, its slope granted at once and not. -/
theorem test_witness_ClockRowsTakeEffect_slope :
    (let s := (waking 1 10000 []).atTime 5; s.heavyNeighbour 5 = false ∧ (s.askSlope 2 5 (s.currentStep 0 1 5) (0, 0)).2 = true) ∧
    (let s := (waking 1 0 [{ kind := 0, region := 6, who := (0, 0), step := 5, since := 0 }]).atTime 5;
      s.heavyNeighbour 5 = false ∧ s.slopeWaits 2 5 = false ∧ (s.askSlope 2 5 (s.currentStep 0 1 5) (0, 0)).2 = false) := by
  have quiet : ∀ s : State, (∀ n < 48, (s.region n).deciAmp = 0) → s.heavyNeighbour 5 = false := by
    intro s h
    rw [State.heavyNeighbour, List.any_eq_false]
    intro n hn; rw [h n (List.mem_range.mp hn)]; simp
  refine ⟨⟨quiet _ (by decide +kernel), ?_⟩, quiet _ (by decide +kernel), by decide +kernel, ?_⟩
  · have h : ∀ (s : State) n, (s.governor (eastRegion 5)).grown (s.dv 0x200600) s.now = { allowance := 10000, grownAt := n } →
        (s.askSlope 2 5 (s.currentStep 0 1 5) (0, 0)).2 = true := by
      intro s n e
      simp only [State.askSlope, e, State.currentStep]; simp
    exact h _ 5 (by decide +kernel)
  · have h : ∀ (s : State), ((s.governor (eastRegion 5)).grown (s.dv 0x200600) s.now).waiting.isEmpty = false →
        (s.askSlope 2 5 (s.currentStep 0 1 5) (0, 0)).2 = false := by
      intro s e
      simp only [State.askSlope, e]; simp
    exact h _ (by decide +kernel)

/-- O50: a governor with no request, one too large, one that is granted. -/
theorem test_witness_ClockRowsTakeEffect_grant :
    let q : SlopeReq := { kind := 0, region := 6, who := (0, 0), step := 5000, since := 0 };
    let g := fun (w : List SlopeReq) (t : Nat) => let s := (waking 1 0 w).atTime t; (s.governor false).grown (s.dv 0x200600) s.now;
    (g [] 5).first = none ∧ ((g [q] 1).first = some q ∧ (g [q] 1).allowance < q.step) ∧
    ((g [q] 1000000).first = some q ∧ q.step ≤ (g [q] 1000000).allowance) := by decide +kernel

/-- O50: point changes: none wanted, one asked for, up and down; its shutter; the change abandoned and retried. -/
theorem test_witness_ClockRowsTakeEffect_points :
    (let s := (withRegion 5 id).atTime 5; let x := s.region 5; s.wantedPoint 5 = x.point ∧ x.change = none ∧ x.retry = none) ∧
    (∀ n ∈ [2, 6], let s := (withRegion 5 (fun x => { x with point := n })).atTime 5; let x := s.region 5;
      x.power = 0 ∧ x.change = none ∧ x.retry = none ∧ s.wantedPoint 5 = 4 ∧ x.point = n ∧ s.power.avsSilent = false) ∧
    (let c : PointReq := { target := 3, since := 0 };
      let s := fun (t : Nat) (h : Bool) => (withRegion 5 (fun x => { x with change := some c, stretch := h })).atTime t;
      ((s 5 false).region 5).change = some c ∧ (s 5 false).shutterReady 5 = true ∧ ((s 5 false).region 5).power = 0 ∧
      c.since + 10000 ≤ (s 10000 true).now ∧ (s 10000 true).shutterReady 5 = false ∧ (s 5 true).now < c.since + 10000) ∧
    (let c : PointReq := { target := 3, since := 0 };
      let s := fun (t : Nat) => (withRegion 5 (fun x => { x with retry := some c })).atTime t;
      ((s 5).region 5).retry = some c ∧ (s 5).now < c.since + 100000 ∧ c.since + 100000 ≤ (s 100000).now) := by decide +kernel

/-- O50: monitors and droops of a region that runs and of one that is gated; a stretch; a node with and without a time source. -/
theorem test_witness_ClockRowsTakeEffect_monitors :
    (let s := (withRegion 5 (fun x => { x with marginSince := some 0, stretch := true, minVolt := 400 })).atTime 1000000; let x := s.region 5;
      x.power = 0 ∧ x.marginSince = some 0 ∧ 0 + 1000000 ≤ s.now ∧ x.stretch = true ∧ x.minVolt ≠ 0 ∧ x.minVolt ≤ 500 ∧ 300 < x.minVolt ∧
      300 + 25 < s.regionVolt 5 x.point ∧ s.regionVolt 5 x.point ≤ 2000 + 25 ∧ s.dv 0x300B00 = 1) ∧
    (let r := withRegion 5 (fun x => { x with power := 1 }); let s := ({ r with dict := [(0x300B00, some 0)] } : State).atTime 5; let x := s.region 5;
      x.power ≠ 0 ∧ x.stretch = false ∧ x.marginSince = none ∧ s.dv 0x300B00 = 0) ∧
    (awake.tick 5).timeSourced = false ∧
    (let s : State := { awake with dict := [(0x500100, some 1), (0x300200, some 2)] }; (s.tick 5).timeSourced = true ∧ (s.tick 5).power.timeReplies = []) ∧
    bestSample [⟨0, 9, 1⟩, ⟨20, 25, 2⟩] = some ⟨20, 25, 2⟩ := by decide +kernel

/-- The block awake, with its supply as given. -/
def powered (f : Power → Power) : State := { awake with power := f awake.power }

/-- O51: the guard band over, regulator slices, AVSBus silent or not, the rail low, good again, neither. -/
theorem test_witness_SupplyAndCapRowsTakeEffect :
    (let s : State := { awake with dict := [(0x110800, some 1)] };
      decide ((s.atTime 10000001).dv 0x300B00 = 1 ∧ (s.atTime 10000001).dv 0x110800 ≠ 0 ∧
        (s.atTime 10000001).dv 0x110800 + 10000000 ≤ (s.atTime 10000001).now) = true ∧
      decide ((s.atTime 5).dv 0x300B00 = 1 ∧ (s.atTime 5).dv 0x110800 ≠ 0 ∧
        (s.atTime 5).dv 0x110800 + 10000000 ≤ (s.atTime 5).now) = false) ∧
    (let x := fun (f : BitVec 16) => (withRegion 5 (fun x => { x with failed := f })).region 5;
      (x 0).power ≠ 3 ∧ (x 0).failed.getLsbD 7 = false ∧ (x 0x80).failed.getLsbD 7 = true ∧
      ({ x 0 with failed := 0x80 } : Region).failures < 3 ∧ 3 ≤ ({ x 3 with failed := 0x83 } : Region).failures) ∧
    ((awake.renewHold .host).writeStatus .host 0x201200 1 = 0 ∧ (awake.renewHold .host).writeStatus .host 0x200100 4 = 0) ∧
    (let s := fun (b : Bool) (t : Nat) => (powered (fun p => { p with avsSilent := b, avsAt := 1 })).atTime t;
      (s true 5).power.avsSilent = true ∧ (s false 20001).power.avsSilent = false ∧ (s false 20001).power.avsAt + 20000 ≤ (s false 20001).now ∧
      (s false 5).power.avsAt ≠ 0 ∧ (s false 5).now < (s false 5).power.avsAt + 20000 ∧
      (s true 100001).power.avsAt + 100000 ≤ (s true 100001).now ∧ (s true 5).now < (s true 5).power.avsAt + 100000) ∧
    (let s := fun (t : Nat) => (powered (fun p => { p with railLow := some 0 })).atTime t;
      (s 1000000).power.railLow = some 0 ∧ 0 + 1000000 ≤ (s 1000000).now ∧ (s 1000000).power.supplyAt = 0 ∧ (s 5).now < 0 + 1000000) ∧
    (let s := fun (t : Nat) => (powered (fun p => { p with railGood := some 0 })).atTime t;
      (s 10000000).power.railLow = none ∧ (s 10000000).power.railGood = some 0 ∧ 0 + 10000000 ≤ (s 10000000).now ∧
      (s 10000000).power.supplyAt + 1000000 ≤ (s 10000000).now ∧ (s 5).now < 0 + 10000000) ∧
    awake.power.railLow = none ∧ awake.power.railGood = none := by decide +kernel

/-- O51: the power loop over its limit, in its band and under it, with interval mode on and off; the interval slots. -/
theorem test_witness_SupplyAndCapRowsTakeEffect_loop :
    (∀ on ∈ [true, false], ∀ n ∈ [0, 3], let s := (powered (fun p => { p with intervalOn := on, ceiling := n })).atTime 5;
      s.power.tickAt = 0 ∧ s.powerLimit < 2000 ∧ s.power.intervalOn = on ∧ s.power.ceiling = n ∧ 100 * 10 < 95 * s.powerLimit ∧
      s.powerLimit ≤ s.powerLimit ∧ 95 * s.powerLimit ≤ 100 * s.powerLimit) ∧
    (let s := (powered (fun p => { p with tickAt := 1 })).atTime 5; s.power.tickAt ≠ 0 ∧ s.now < s.power.tickAt + 100000) ∧
    (let s := fun (on : Bool) (t : Nat) => (powered (fun p => { p with intervalOn := on, k := 8 })).atTime t;
      (s false 5).power.intervalOn = false ∧ (s true 31250).power.intervalOn = true ∧ (s true 31250).power.slotAt + 31250 ≤ (s true 31250).now ∧
      (s true 5).now < (s true 5).power.slotAt + 31250) := by decide +kernel

/-- The block awake, with every hot spot of region 5 at a temperature in 0.1 °C. -/
def heated (temp : Int) (f : Region → Region) : State :=
  { withRegion 5 f with spots := [(10, { temp := temp }), (11, { temp := temp })] }

/-- The block awake, with its cooling as given. -/
def cooled (f : Cooling → Cooling) : State := { awake with cooling := f awake.cooling }

/-- O52: sensors that agree; regions too hot, cool, tripped, and cool enough to run again. -/
theorem test_witness_CoolingRowsTakeEffect_spots :
    ((awake.spot 10).suspectA = false ∧ (awake.spot 10).suspectB = false ∧ ((500 : Int) - 520).natAbs ≤ 60 ∧ awake.cooling.stopped = false) ∧
    (let s := (heated 1080 id).atTime 5; let v := s.noteCool 5;
      (hotSpotsOf 5).any (fun h => decide (s.dodgeAt h < (s.spot h).temp)) = true ∧ (v.region 5).thermalAt = 0 ∧
      (v.region 5).tripped = false ∧ (v.spot (v.hottest 5)).temp < 1100) ∧
    (let s := (heated 1080 (fun x => { x with thermalAt := 1 })).atTime 5; let v := s.noteCool 5;
      (hotSpotsOf 5).any (fun h => decide (s.dodgeAt h < (s.spot h).temp)) = true ∧ (v.region 5).thermalAt ≠ 0 ∧
      v.now < (v.region 5).thermalAt + 100000) ∧
    (let s := (heated 500 (fun x => { x with coolSince := some 1 })).atTime 1000001; let v := s.noteCool 5;
      (hotSpotsOf 5).any (fun h => decide (s.dodgeAt h < (s.spot h).temp)) = false ∧ (v.region 5).coolSince = some 1 ∧ 1 + 1000000 ≤ v.now) ∧
    (∀ b ∈ [false, true], let w := heated 1150 (fun x => { x with tripped := b });
      (w.region 5).tripped = b ∧ 1100 ≤ (w.spot (w.hottest 5)).temp ∧ 1000 < (w.spot (w.hottest 5)).temp) ∧
    (let w := heated 900 (fun x => { x with tripped := true }); (w.region 5).tripped = true ∧ (w.spot (w.hottest 5)).temp ≤ 1000) := by
  decide +kernel

/-- O52: the tray bus with a sensor bound and one not; a stop that is over and one that is not; the flow and its trend. -/
theorem test_witness_CoolingRowsTakeEffect_tray :
    ((awake.renewHold .host).writeStatus .host 0x281600 4 = 0) ∧
    (let v : State := { awake with dict := [(0x283001, some 7)] };
      [(7 : BitVec 48)].findIdx? (fun p => p.toNat == v.dv (0x283001 + 0) % 2 ^ 48 && p != 0) = some 0 ∧
      [(7 : BitVec 48)].findIdx? (fun p => p.toNat == v.dv (0x283001 + 1) % 2 ^ 48 && p != 0) = none) ∧
    (let s := fun (c : Cooling) (t : Nat) => (cooled (fun _ => c)).atTime t;
      let v := fun (x : State) => x.renewHold .host;
      (s {} 5 |>.renewHold .host).writeStatus .host 0x281600 4 = 0 ∧ (v (s {} 5)).cooling.stopped = false ∧
      (v (s { stopped := true, okSince := some 0 } 1000000000)).cooling.stopped = true ∧
      (v (s { stopped := true, okSince := some 0 } 1000000000)).stopOver = true ∧
      (v (s { stopped := true } 5)).cooling.stopped = true ∧ (v (s { stopped := true } 5)).stopOver = false) ∧
    (let s := fun (n t : Nat) => (cooled (fun c => { c with stopped := true, request := n, requestAt := 1 })).atTime t;
      let n := awake.dv 0x281000;
      (s n 5).wantedFlow = (s n 5).cooling.request ∧ (s n 5).now < (s n 5).cooling.requestAt + 100000000 ∧
      (s 1 5).wantedFlow ≠ (s 1 5).cooling.request ∧ ((s 1 5).cooling.request < (s 1 5).wantedFlow ∧ (s 1 5).cooling.request ≠ 0) ∧
      (s n 100000001).cooling.requestAt + 100000000 ≤ (s n 100000001).now ∧ (s 0 5).cooling.request = 0 ∧ (s 0 5).wantedFlow ≠ 0) ∧
    (let s := fun (n : Nat) => ({ awake with dict := [(0x280700, some n)] } : State).atTime 5;
      (s 0).dv 0x280700 = 0 ∧ ((s 1).dv 0x280700 = 1 ∧ (s 1).cooling.trendAt = 0) ∧ (s 2).dv 0x280700 = 2) := by decide +kernel

/-- A frame of one item, the value of a subscription to the health events. -/
def aFrame : Frame := { items := [{ entry := 0x1103, field := 0, value := [3, 0, 0, 0, 100, 0, 0, 0, 10, 0, 0, 0] }] }

/-- A subscription of a master to the health events that has sent one event. -/
def aSub (m : Master) : Sub := { master := m, key := 0x110300, onChange := true, periodic := false, periodMs := 100, spacingMs := 10, sent := true }

/-- O53: frames over the management port: a tagged one, one with a signature that is not asked for, one that is served. -/
theorem test_witness_DictionaryRowsTakeEffect_port :
    awake.extestOn = false ∧ (let s1 := awake.bump 0xF00500 1;
      s1.portFault { aFrame with tagged := true } 1 ≠ 0 ∧ s1.portFault aFrame 1 = 0 ∧
      s1.signatureFault { aFrame with signature := some [] } 1 ≠ 0 ∧ s1.signatureFault aFrame 1 = 0) ∧
    ({ awake with test := { awake.test with driving := [(0, true)] } } : State).extestOn = true := by decide +kernel

/-- O53: a request that is cached and one that is not. -/
theorem test_witness_DictionaryRowsTakeEffect_cache :
    awake.cachedFor .host aFrame 1 = none ∧
    (let c : Cached := ⟨.host, 0, crc64 (requestPdu aFrame 1), []⟩;
      ({ awake with mgmt := { awake.mgmt with cache := [c] } } : State).cachedFor .host aFrame 1 = some c) := by decide +kernel

/-- O53: frames of each kind. -/
theorem test_witness_DictionaryRowsTakeEffect_frames :
    ({ aFrame with version := 2 } : Frame).version ≠ 1 ∧ aFrame.version = 1 ∧
    (({ aFrame with malformed := true } : Frame).malformed || aFrame.items.any (·.rsvd)) = true ∧
    (aFrame.malformed || aFrame.items.any (·.rsvd)) = false ∧ writeSize aFrame ≤ 1500 ∧
    1500 < writeSize { aFrame with items := List.replicate 100 { entry := 0x1103, field := 0 } } ∧ aFrame.allOrNothing = false ∧
    aFrame.items = [{ entry := 0x1103, field := 0, value := [3, 0, 0, 0, 100, 0, 0, 0, 10, 0, 0, 0] }] ∧
    awake.subscribeStatus .host 0x110300 [3, 0, 0, 0, 100, 0, 0, 0, 10, 0, 0, 0] = 0 := by decide +kernel

/-- O53: events: of no subscription, of one with nothing new, one due, one due too soon; a host ring with room, and none. -/
theorem test_witness_DictionaryRowsTakeEffect_events :
    (let w := awake.tick 5; w.mgmt.subs.find? (fun x => x.master == .host && x.key == (0x110300 : BitVec 24).toNat) = none ∧ w.hasRing = false) ∧
    (∀ m ∈ [Master.host, .mgmt 7], let w := fun (n t : Nat) =>
          ({ awake with dict := [(0x110300, some n), (0xF04000, some 64), (0xF04100, some 4), (0x110501, some 0x7FFF), (0x110502, some 0x7FFF)], mgmt := { awake.mgmt with subs := [aSub m] } } : State).tick t;
      (w 0 5).mgmt.subs.find? (fun x => x.master == m && x.key == (0x110300 : BitVec 24).toNat) = some (aSub m) ∧
      ((aSub m).periodOver (w 0 5).now || ((aSub m).onChange && (w 0 5).watched m 0x110300 != (aSub m).sentValue)) = false ∧ (aSub m).held = none ∧
      ((aSub m).periodOver (w 1 5).now || ((aSub m).onChange && (w 1 5).watched m 0x110300 != (aSub m).sentValue)) = true ∧
      (aSub m).sent = true ∧ (w 1 5).now < (aSub m).last + 1000000 * (aSub m).spacingMs ∧
      (aSub m).last + 1000000 * (aSub m).spacingMs ≤ (w 1 10000000).now ∧ (w 1 10000000).extestOn = false ∧
      (w 1 10000000).hasRing = true ∧ (w 1 10000000).ringFull = false) := by decide +kernel

/-- The block awake, with the dictionary's state as given. -/
def managed (f : Mgmt → Mgmt) : State := { awake with mgmt := f awake.mgmt }

/-- O54: the fields a hold, the ring and the health events take. -/
theorem test_witness_ControllerRowsTakeEffect_fields :
    (awake.renewHold .host).writeStatus .host 0xF04000 8 = 0 ∧ (awake.renewHold .host).writeStatus .host 0xF04100 1 = 0 ∧
    (awake.renewHold (.mgmt 7)).writeStatus (.mgmt 7) 0xF02100 1 = 0 ∧ (awake.renewHold .host).writeStatus .host 0x110400 4 = 0 ∧
    (awake.renewHold .host).dv 0xF04200 = (awake.renewHold .host).dv 0xF04300 ∧
    (let w := ({ awake with dict := [(0xF04200, some 1)] } : State).renewHold .host;
      w.writeStatus .host 0xF04000 8 = 0 ∧ w.dv 0xF04200 ≠ w.dv 0xF04300) ∧
    (let g := (awake.renewHold (.mgmt 7)).mgmt; (Nat.testBit 1 0 && !g.hold2000) = true) := by decide +kernel

/-- O54: a hold that has expired; heartbeats, claims and conflicts of the controllers; a follower behind, and back. -/
theorem test_witness_ControllerRowsTakeEffect_leads :
    (let v := fun (t : Nat) => (managed (fun g => { g with hold2000 := true })).tick t;
      decide (((v 300000000000).mgmt.hold2000 || (v 300000000000).mgmt.hold2800) = true ∧ (v 300000000000).dv 0xF02200 ≠ 0 ∧
        (v 300000000000).mgmt.renewedAt + 1000000 * (v 300000000000).dv 0xF02200 ≤ (v 300000000000).now) = true ∧
      decide (((v 5).mgmt.hold2000 || (v 5).mgmt.hold2800) = true ∧ (v 5).dv 0xF02200 ≠ 0 ∧
        (v 5).mgmt.renewedAt + 1000000 * (v 5).dv 0xF02200 ≤ (v 5).now) = false) ∧
    (let v := fun (a b : Bool) (t : Nat) => (managed (fun g => { g with west := { alive := a, lead := b }, east := { alive := true } })).tick t;
      ((v true false 5).half 0).alive = true ∧ ((v true false 5).half 0).sentAt = 0 ∧ ((v true false 5).half 0).lead = false ∧
      ((v false false 5).half 0).alive = false ∧ ((v true false 3000000).half 0).heard + 3000000 ≤ (v true false 3000000).now ∧
      (v true true 3000000).mgmt.follower ≠ 2 ∧ (v true false 5).now < ((v true false 5).half 0).heard + 3000000) ∧
    (let v := fun (n : Nat) (b u : Bool) => (managed (fun g => { g with west := { alive := true, lead := true }, east := { alive := true, lead := b }, linkUp := u, follower := n })).tick 5;
      ((v 0 true true).mgmt.west.lead = true ∧ (v 0 true true).mgmt.east.lead = true ∧ (v 0 true true).mgmt.linkUp = true) ∧
      (v 0 true false).mgmt.linkUp = false ∧
      decide ((v 1 false true).mgmt.follower ≠ 0 ∧ (v 1 false true).mgmt.linkUp = true ∧ (v 1 false true).mgmt.west.alive = true ∧
        (v 1 false true).mgmt.east.alive = true ∧ ((v 1 false true).mgmt.west.lead != (v 1 false true).mgmt.east.lead) = true) = true ∧
      decide ((v 0 false true).mgmt.follower ≠ 0 ∧ (v 0 false true).mgmt.linkUp = true ∧ (v 0 false true).mgmt.west.alive = true ∧
        (v 0 false true).mgmt.east.alive = true ∧ ((v 0 false true).mgmt.west.lead != (v 0 false true).mgmt.east.lead) = true) = false) ∧
    (let v := fun (t : Nat) => (managed (fun g => { g with ackWait := some 0 })).tick t;
      (v 1000000).mgmt.ackWait = some 0 ∧ 0 + 1000000 ≤ (v 1000000).now ∧ (v 5).now < 0 + 1000000) ∧ (awake.tick 5).mgmt.ackWait = none := by
  decide +kernel

/-- O54: a port that falls back from PLCA, one that does not, one with PLCA off. -/
theorem test_witness_ControllerRowsTakeEffect_beacons :
    (let v := fun (n t : Nat) => ({ awake with dict := [(0xF01000, some n), (0xF01500, some 1)] } : State).tick t;
      decide ((v 3 4000).dv 0xF01000 ≠ 255 ∧ (v 3 4000).dv 0xF01000 ≠ 0 ∧ natFld ((v 3 4000).dv 0xF01500) 0 1 = 1 ∧
        (v 3 4000).mgmt.beaconAt + 4 * 1000 ≤ (v 3 4000).now) = true ∧
      decide ((v 3 5).dv 0xF01000 ≠ 255 ∧ (v 3 5).dv 0xF01000 ≠ 0 ∧ natFld ((v 3 5).dv 0xF01500) 0 1 = 1 ∧
        (v 3 5).mgmt.beaconAt + 4 * 1000 ≤ (v 3 5).now) = false ∧ (v 255 5).dv 0xF01000 = 255) := by decide +kernel

/-- A run that passes with an empty kernel on every array, and one that fails in unit 3. -/
def goodRun : TestRun := { kernel := some { a := [], b := [], digest := 0 } }
def badRun : TestRun := { pattern := 9, fails := some 3 }

/-- The block awake, with cluster 5 as given. -/
def withCluster (f : Cluster → Cluster) : State := { awake with clusters := [(5, f (awake.cluster 5))] }

/-- O55: runs that pass and fail. -/
theorem test_witness_TestRowsTakeEffect_runs :
    runFails {} = none ∧ runFails badRun = some 3 ∧
    (let made := untilFail ([goodRun, goodRun, goodRun, goodRun].take 4);
      made.length = 4 ∧ ∀ r ∈ made, runFails r = none ∧ r.kernel.isSome = true) ∧
    (let made := untilFail ([badRun, goodRun].take 4); made.find? (fun r => (runFails r).isSome) = some badRun ∧ made.length ≠ 4) ∧
    (let made := untilFail ([{}].take 4); made.length ≠ 4 ∧ ∀ r ∈ made, runFails r = none) := by
  decide +kernel

/-- O55: coalescing windows; rotation due and not; clusters for a recovery test, quarantined, enabled, gone; a region under test. -/
theorem test_witness_TestRowsTakeEffect :
    (let w : Window := { cls := 7, source := 0, since := 0, count := 2 };
      let v := fun (t : Nat) => ({ awake with windows := [w] } : State).tick t;
      (awake.tick 5).windows.find? (fun w => w.cls == (7 : BitVec 16).toNat && w.source == 0) = none ∧
      (v 5).windows.find? (fun w => w.cls == (7 : BitVec 16).toNat && w.source == 0) = some w ∧
      (v 5).now < w.since + 1000 * (v 5).dv 0x700400 ∧ w.since + 1000 * (v 60000000000).dv 0x700400 ≤ (v 60000000000).now ∧
      w.count ≠ 0 ∧ ({ w with count := 0 } : Window).count = 0) ∧
    (((withCluster (fun k => { k with rotateNow := true })).atTime 5).rotationDue 5 = true ∧ (awake.atTime 5).rotationDue 5 = false) ∧
    ((5 : Nat) < 32 ∧ awake.enabled 6 = true) ∧
    (let s := (withCluster (fun k => { k with state := 1 })).atTime 5; s.testable 5 = true ∧ (s.cluster 5).state = 1) ∧
    (let s := ({ awake with test := { awake.test with regionTests := [5, 40] } } : State).atTime 5;
      s.testable 5 = true ∧ (s.cluster 5).state = 0 ∧ s.test.regionTests.contains 5 = true ∧ s.testable 40 = true ∧
      s.test.regionTests.contains 40 = true) ∧
    ((awake.atTime 5).test.regionTests.contains 40 = false ∧ (awake.renewHold (.mgmt 7)).writeStatus (.mgmt 7) 0x704000 8 = 0 ∧ awake.enabled 5 = true ∧
      (withCluster (fun k => { k with state := 1 })).enabled 5 = false ∧ awake.offline 5 = false ∧ (awake.region 40).power ≠ 3) ∧
    (awake.testAccess = false ∧ ({ awake with dict := [(0x905000, some 1)] } : State).testAccess = true) := by decide +kernel

/-- The block after reset, in a start-up state entered at time 0. -/
def booting (n : Nat) (f : State → State) : State := f { State.reset with boot := { State.reset.boot with state := n } }

/-- O56: each start-up state and another; rails good and bad, before and after 20 ms; the links. -/
theorem test_witness_StartUpRowsTakeEffect :
    (∀ n ∈ [0, 1, 2, 3, 4, 5, 6, 7], ((booting n id).tick 5).boot.state = n) ∧
    (let w := fun (b : Bool) (t : Nat) => (booting 2 (fun s => { s with boot := { s.boot with railOut := if b then [(1, some 0)] else [] } })).tick t;
      (w false 5).boot.state = 2 ∧ (w false 5).railsBad = false ∧ (w true 5).railsBad = true ∧ (w true 5).now < (w true 5).boot.since + 20000000 ∧
      (w true 20000000).boot.since + 20000000 ≤ (w true 20000000).now) ∧
    (let w := (booting 7 id).tick 5; w.traek.released = false ∧ (w.region 46).power = 3 ∧ w.traek.state = 0) ∧
    (let w := (booting 7 (fun s => { s with traek := { s.traek with released := true, state := 1 } })).tick 5;
      w.traek.released = true ∧ w.traek.state = 1) := by decide +kernel

/-- O56: test results of a cluster that passes, of one that its half's spare serves, of one that it does not. -/
theorem test_witness_StartUpRowsTakeEffect_clusters :
    (let w := (booting 4 id).tick 5;
      let fail : TestRun := { fails := some 3 };
      let runs : List (Fin 49 × TestRun) := [(5, fail), (6, fail)];
      (0 < 32 ∧ w.enabled 0 = true ∧ positionFails runs (namePosition 0) = false) ∧
      (positionFails runs (namePosition 5) = true ∧ spareServes runs (decide (16 ≤ 5)) = some 5) ∧
      (positionFails runs (namePosition 6) = true ∧ spareServes runs (decide (16 ≤ 6)) ≠ some 6)) ∧
    (∀ c, c < 128 → ([] : List Nat).getD c 14400 ≠ 0) := by
  refine ⟨by decide +kernel, fun c _ => by simp⟩

/-- O56: a slot that passes its checks, and none. -/
theorem test_witness_StartUpRowsTakeEffect_slots (a b : Block) : chooseSlot a b 0 1 ≠ 2 ∧ chooseSlot a b 1 1 = 2 := by
  simp [chooseSlot]

/-- O56: items of the configuration block that are written, and that are refused. -/
theorem test_witness_StartUpRowsTakeEffect_items :
    (let i : Item := { entry := 0x9050, field := 0, value := [1, 0, 0, 0] }; let key := i.entry.toNat * 256 + i.field.toNat;
      i.rsvd = false ∧ configurable key = true ∧ i.value.length = entrySize key ∧ protectFits key (leNat i.value) = true ∧ rightOf key = .wb) ∧
    (let i : Item := { entry := 0x1100, field := 0, value := [1] }; configurable (i.entry.toNat * 256 + i.field.toNat) = false) := by
  decide +kernel

/-- O57: masters that may reset and may not; nonces and their evidence. -/
theorem test_witness_ResetAndFlashRowsTakeEffect_reset :
    awake.mayReset (.mgmt 7) = true ∧ awake.mayReset .host = false ∧
    ((awake.tick 5).renewHold .host).writeStatus .host 0x102000 32 = 0 ∧
    (let w := fun (t : Nat) => ({ awake with mgmt := { awake.mgmt with hostEvidence := { state := 1 } } } : State).tick t;
      ((w 40000000).evidenceOf .host).state = 1 ∧ ((w 40000000).evidenceOf .host).since + 40000000 ≤ (w 40000000).now ∧
      (w 5).now < ((w 5).evidenceOf .host).since + 40000000) ∧ ((awake.tick 5).evidenceOf .host).state ≠ 1 := by decide +kernel

/-- O57: a region open and not, active and not, with room and without. -/
theorem test_witness_ResetAndFlashRowsTakeEffect_flash :
    ((awake.renewHold (.mgmt 7)).writeStatus (.mgmt 7) 0x103000 16 = 0 ∧ (awake.renewHold (.mgmt 7)).writeStatus (.mgmt 7) 0x103100 1024 = 0) ∧
    (∀ r ∈ [1, 2, 4], 1 ≤ r ∧ r ≤ 6 ∧ 0 < (flashRegion r).2 ∧ awake.flashActive r = false) ∧ awake.flashActive 3 = true ∧
    (let s : State := { awake with boot := { awake.boot with region := 1, offset := 0 } };
      s.boot.region ≠ 0 ∧ s.boot.offset + 1024 ≤ (flashRegion s.boot.region).2) ∧ awake.boot.region = 0 ∧
    (let s : State := { awake with boot := { awake.boot with region := 1, offset := (flashRegion 1).2 } };
      (flashRegion s.boot.region).2 < s.boot.offset + 1024) := by decide +kernel

/-- O57: a board rail out of range for its time, and not. -/
theorem test_witness_ResetAndFlashRowsTakeEffect_rails :
    let w := fun (t : Nat) => ({ awake with boot := { awake.boot with railOut := [(1, some 0)] } } : State).tick t;
    (w 100000).railFault 1 = true ∧ (w 5).railFault 1 = false := by decide +kernel

/-- O58: a store of a part and of a whole line, and an atomic, that nothing holds. -/
theorem test_witness_StoresChangeOnlyTheirBytes :
    (∀ m ∈ [false, true], let s := awake.tick 5; let mask : BitVec 64 := if m then BitVec.allOnes 64 else 6;
      place 64 = .lpddr 64 ∧ lineOf 64 = 64 ∧ s.memStatus 64 1 .command true = 0 ∧ s.waitsAt 64 s.arrivals = false ∧
      s.wcHold 64 mask false = none ∧ s.barred 64 = false ∧ s.access 64 true = (s, true) ∧ mask.getLsbD 1 = true) ∧
    (let s := awake.tick 5; place 64 = .lpddr 64 ∧ 64 % atomBytes { kind := .add, wide := true, operand := 1 } = 0 ∧
      s.behindOthers anAtom = false ∧ s.memStatus 64 8 .command true = 0 ∧ s.adderHold 64 = none ∧ s.access 64 true = (s, true) ∧
      (s.retireLine (lineOf 64) {}).badRange (lineOf 64) 64 = false ∧ ({} : LineRead).errors = [] ∧
      ∀ e ∈ (s.channel (chanOf (lineOf 64))).wc, e.line ≠ lineOf 64) := by decide +kernel

/-- `Arrives`, as a test that computes. -/
def comes (s : State) (p : Packet) (k : ReqKind) (a : Nat) : Bool :=
  let st := s.streamIn (inKey p)
  arrives s p && st.held.isEmpty && st.skipped.isEmpty && decide (st.next < 2 ^ 32) && !s.flaggedReq k p && s.lineWait.isEmpty &&
    match p.via with
    | .fabric _ => p.seq.toNat == st.next && !s.isCompanion p.dst.toNat && s.inboundGrants p.src.toNat a (pktBytes p) (kindBit k) &&
        a == p.addr.toNat % 2 ^ 48
    | .traek => decide (s.traekTarget p.addr.toNat (pktBytes p) (kindBit k) = .inl a)

theorem arrives_of_comes {s : State} {p : Packet} {k : ReqKind} {a : Nat} (h : comes s p k a = true) : Arrives s p k a := by
  unfold comes at h
  simp only [Bool.and_eq_true, List.isEmpty_iff, decide_eq_true_eq, Bool.not_eq_true'] at h
  obtain ⟨⟨⟨⟨⟨⟨h1, h2⟩, h3⟩, h4⟩, h5⟩, h6⟩, h7⟩ := h
  refine ⟨reaches_of_arrives h1, h2, h3, h4, .inl h5, by simp [h6], ?_⟩
  generalize p.via = v at h7 ⊢
  cases v with
  | traek => exact of_decide_eq_true h7
  | fabric n =>
    simp only [Bool.and_eq_true, beq_iff_eq, Bool.not_eq_true'] at h7
    exact ⟨h7.1.1.1, h7.1.1.2, h7.1.2, h7.2⟩

/-- An atomic of 8 bytes, and an ADD of a line of 32-bit integers, from node 2; the atomic from the companion. -/
def fabricAtom : Packet := { fromNode2 0 with op := 8, data := leBytes 8 5 ++ List.replicate 56 0 }
def fabricAdd : Packet := { fromNode2 0 with op := 2, length := 1, data := leBytes 4 7 ++ List.replicate 60 0 }
def hostAtom : Packet := { fromHost 64 with op := 8, data := leBytes 8 5 ++ List.replicate 56 0 }

/-- O59: an atomic over each way in, and an add. -/
theorem test_witness_AtomicsAndAddsComplete :
    let s := netted id; let x : Atom := { kind := .add, wide := true, operand := 5 };
    place 64 = .lpddr 64 ∧ (s.memoryAsleep 64 = false ∧ s.snooping (lineOf 64) = false ∧ s.waitsAt (lineOf 64) s.arrivals = false) ∧
    s.adderHold 64 = none ∧ s.dirState (lineOf 64) = .u ∧ (s.channel (chanOf 64)).wc = [] ∧ s.badRange (lineOf 64) 64 = false ∧
    (∀ p ∈ [fabricAtom, hostAtom], p.errors = [] ∧ comes s p .atomic 64 = true ∧ packetAtom p = some x) ∧
    64 % atomBytes x = 0 ∧ s.memStatus 64 (atomBytes x) .outside true = 0 ∧ s.behindOthers (.atom 64 x) = false ∧
    fabricAdd.errors = [] ∧ fabricAdd.via ≠ .traek ∧ comes s fabricAdd .add 64 = true ∧ packetAdd fabricAdd = some .int32 ∧
    fabricAdd.length.toNat ≤ 1 ∧ fabricAdd.data.length = 64 ∧ fabricAdd.poison = false ∧ s.memStatus 64 64 .outside true = 0 ∧
    s.behindOthers (.line 64 .int32 fabricAdd.data) = false ∧ s.waitingPackets = [] := by decide +kernel

/-- O60: reads of a line of no agent, of the sender, of sharers, of another agent; a write-back by the owner; evictions. -/
theorem test_witness_CoherentRequestsComplete :
    let s := fun (d : DirState) => netted (fun s => { s with directory := [(64, d)] });
    (∀ d ∈ [DirState.e 2 0, .s [2] 0, .s [2, 7] 0, .e 7 0], ∀ k ∈ [ReqKind.rdShared, .rdOwn, .writeback, .evict],
      comes (s d) (fromNode2 0) k 64 = true ∧ (s d).dirState 64 = d ∧ (s d).memoryAsleep 64 = false ∧ (s d).snooping 64 = false ∧
      (s d).waitsAt 64 (s d).arrivals = false ∧ (s d).memStatus 64 (pktBytes (fromNode2 0)) .outside false = 0 ∧
      (s d).dirFull 64 = false ∧ ((s d).channel (chanOf 64)).admitted.length < 128 ∧ ((s d).channel (chanOf 64)).ingress = [] ∧
      ((s d).package (pkgOf 64)).derate ≠ 3 ∧ (s d).cooling.stopped = false ∧ (s d).requester (fromNode2 0) = 2 ∧ (s d).waitingPackets = [] ∧
      (s d).memStatus 64 64 .outside true = 0 ∧ (s d).wcHold 64 (BitVec.allOnes 64) false = none ∧ (s d).barred 64 = false) ∧
    (netted id).dirState 64 = .u ∧ place 64 = .lpddr 64 ∧ lineOf 64 = 64 ∧ (fromNode2 0).data.length = 64 ∧
    (fromNode2 0).poison = false ∧
    (∀ k ∈ [ReqKind.rdShared, .rdOwn, .writeback, .evict], comes (netted id) (fromHost 64) k 64 = true) := by decide +kernel

end Sys2Proof.Tests
end

/-!
Scope of the block: a step runs the command at the front of the queue, every command answers a next state, and the table
`mayChange` leaves out that a reset changes the start-up state.
-/

namespace Sys2Proof.Machine

/-- Settles O1: the queue of a state with `c` in front is what `step` takes apart. -/
theorem stepRunsFrontCommand : Obligations.StepRunsFrontCommand := by
  unfold Obligations.StepRunsFrontCommand
  intro c rest s
  rfl

/-- Settles O7: whatever the command, its meaning ends in `.next`; what may go wrong within it is part of the next state. -/
theorem everyCommandAnswers : Obligations.EveryCommandAnswers := by
  unfold Obligations.EveryCommandAnswers
  intro c s
  cases c <;> exact ⟨_, rfl⟩

/-! ### Frames: a core reset starts the module up again (R448) -/

/-- R446, R448: after a core reset the module is in start-up state 1, FLASH. -/
theorem State.coreReset_boot_state (s : State) : s.coreReset.boot.state = 1 := rfl

/-- Two states that agree on the field `boot` are in the same start-up state. -/
theorem State.same.boot_state {s t : State} (h : s.same t .boot) : t.boot.state = s.boot.state := congrArg Boot.state h

/-- `mayChange` leaves `boot` out of the set of CORE_RESET, which moves a module in any state but FLASH to FLASH. -/
theorem not_onlyChanges_coreReset {s : State} (hs : s.boot.state ≠ 1) :
    ¬ OnlyChanges (mayChange (.coreReset none)) s s.coreReset := fun h =>
  have kept : s.same s.coreReset .boot := h .boot (by decide)
  hs (kept.boot_state.symm.trans s.coreReset_boot_state)

/-- A module that has started up: state 8, READY (R446). -/
def startedUp : State := { State.reset with boot := { state := 8 } }

/-- Refutes O5: a core reset by a board rail (R455) takes a module that is READY back to FLASH, and the set of CORE_RESET
has no `boot`. The sets of FULL_RESET and BOARD_RAIL_FAULT, which change the start-up state too, lack it as well. -/
theorem not_commandsChangeOnlyTheirFields : ¬ Obligations.CommandsChangeOnlyTheirFields := by
  unfold Obligations.CommandsChangeOnlyTheirFields
  intro h
  have ran : exec (.coreReset none) startedUp = .next startedUp.coreReset := rfl
  have ready : startedUp.boot.state ≠ 1 := by decide
  exact not_onlyChanges_coreReset ready (h _ _ _ ran)

end Sys2Proof.Machine

/-!
Scope of the block: number formats (02). What a code of a float format decodes to (R30 to R32), conversion to the integer
formats under RN (R34, R41, R46), and the product of two LNS8 codes (R36).
-/

namespace Sys2Proof.Machine

/-! ### Codes of the float formats (R30 to R32) -/

section FloatCodes
variable {l : Layout} {f : Fmt} {neg : Bool} {c : Nat}

theorem Layout.mag_subnormal (h : c / 2 ^ l.p = 0) :
    l.mag neg c = .fin neg (c % 2 ^ l.p) (1 - (l.bias : Int) - l.p) := by
  simp [Layout.mag, h]

theorem Layout.mag_normal (h : c / 2 ^ l.p ≠ 0) :
    l.mag neg c = .fin neg (2 ^ l.p + c % 2 ^ l.p) (((c / 2 ^ l.p : Nat) : Int) - (l.bias + l.p : Nat)) := by
  simp [Layout.mag, h, Int.sub_sub]

/-- The formats whose codes are a sign bit over a magnitude code of their layout. -/
def Fmt.isFloat (f : Fmt) : Bool := !f.isInt && f != .lns8

theorem Fmt.decode_of_isFloat (hf : f.isFloat = true) :
    f.decode c =
      if c % 2 ^ (f.bits - 1) ≤ f.layout.maxMag then f.layout.mag (c.testBit (f.bits - 1)) (c % 2 ^ (f.bits - 1))
      else if f.layout.infMag = some (c % 2 ^ (f.bits - 1)) then .inf (c.testBit (f.bits - 1))
      else .nan := by
  cases f with
  | int8 | int4 | lns8 => exact absurd hf (by decide)
  | _ => rfl

/-- Every magnitude of FP4 is finite. -/
theorem decode_fp4 : Fmt.decode .fp4 c = Fmt.fp4.layout.mag (c.testBit 3) (c % 8) :=
  (Fmt.decode_of_isFloat rfl).trans (if_pos (show c % 8 ≤ 7 by omega))

theorem decode_e4m3_finite (h : c % 128 ≠ 0x7F) : Fmt.decode .e4m3 c = Fmt.e4m3.layout.mag (c.testBit 7) (c % 128) :=
  (Fmt.decode_of_isFloat rfl).trans (if_pos (show c % 128 ≤ 0x7E by omega))

theorem decode_e4m3_nan (h : c % 128 = 0x7F) : Fmt.decode .e4m3 c = .nan := by
  rw [Fmt.decode_of_isFloat rfl]
  simp [Fmt.bits, Fmt.layout, h]

theorem decode_e5m2_finite (h : c / 4 % 32 ≠ 31) : Fmt.decode .e5m2 c = Fmt.e5m2.layout.mag (c.testBit 7) (c % 128) :=
  (Fmt.decode_of_isFloat rfl).trans (if_pos (show c % 128 ≤ 0x7B by omega))

theorem decode_e5m2_inf (h : c % 128 = 0x7C) : Fmt.decode .e5m2 c = .inf (c.testBit 7) := by
  rw [Fmt.decode_of_isFloat rfl]
  simp [Fmt.bits, Fmt.layout, h]

theorem decode_e5m2_nan (h : 0x7C < c % 128) : Fmt.decode .e5m2 c = .nan := by
  have finite : ¬ c % 128 ≤ 0x7B := by omega
  have infinite : 0x7C ≠ c % 128 := by omega
  rw [Fmt.decode_of_isFloat rfl]
  simp [Fmt.bits, Fmt.layout, finite, infinite]

end FloatCodes

/-- Settles O16: bits 2:0 are a magnitude of FP4's layout, subnormal where the exponent field is 0. -/
theorem fp4CodesHaveTheirValues : Obligations.Fp4CodesHaveTheirValues := by
  unfold Obligations.Fp4CodesHaveTheirValues
  intro c _
  have field : c % 8 / 2 ^ Fmt.fp4.layout.p = c / 2 % 4 := show c % 8 / 2 = _ by omega
  have mant : c % 8 % 2 ^ Fmt.fp4.layout.p = c % 2 := show c % 8 % 2 = _ by omega
  rw [decode_fp4]
  constructor
  · intro hE
    rw [Layout.mag_subnormal (field.trans hE), mant]
    rfl
  · intro hE
    rw [Layout.mag_normal (field ▸ hE), mant, field]
    rfl

/-- Settles O17: bits 6:0 are a magnitude of the format's layout, but for the codes above the largest one. -/
theorem fp8CodesHaveTheirValues : Obligations.Fp8CodesHaveTheirValues := by
  unfold Obligations.Fp8CodesHaveTheirValues
  intro c _
  have field4 : c % 128 / 2 ^ Fmt.e4m3.layout.p = c / 8 % 16 := show c % 128 / 8 = _ by omega
  have mant4 : c % 128 % 2 ^ Fmt.e4m3.layout.p = c % 8 := show c % 128 % 8 = _ by omega
  have field5 : c % 128 / 2 ^ Fmt.e5m2.layout.p = c / 4 % 32 := show c % 128 / 4 = _ by omega
  have mant5 : c % 128 % 2 ^ Fmt.e5m2.layout.p = c % 4 := show c % 128 % 4 = _ by omega
  refine ⟨decode_e4m3_nan, fun hE => ?_, fun hE hc => ?_, fun hE => ?_, fun hE hE' => ?_, fun hE hM => ?_, fun hE hM => ?_⟩
  · rw [decode_e4m3_finite (by omega), Layout.mag_subnormal (field4.trans hE), mant4]
    rfl
  · rw [decode_e4m3_finite hc, Layout.mag_normal (field4 ▸ hE), mant4, field4]
    rfl
  · rw [decode_e5m2_finite (by omega), Layout.mag_subnormal (field5.trans hE), mant5]
    rfl
  · rw [decode_e5m2_finite hE', Layout.mag_normal (field5 ▸ hE), mant5, field5]
    rfl
  · exact decode_e5m2_inf (by omega)
  · exact decode_e5m2_nan (by omega)

/-! ### The product of two LNS8 codes (R36) -/

section LnsProduct
variable {a b : Nat}

theorem testBit_seven_of_lt (ha : a < 256) : a.testBit 7 = decide (a / 128 = 1) := by
  rw [Nat.testBit_eq_decide_div_mod_eq]
  have top : a / 2 ^ 7 % 2 = a / 128 := by omega
  rw [top]

/-- Two codes have signs that differ where their top bits do. -/
theorem signs_differ_eq (ha : a < 256) (hb : b < 256) : (a.testBit 7 != b.testBit 7) = !decide (a / 128 = b / 128) := by
  rw [testBit_seven_of_lt ha, testBit_seven_of_lt hb, Bool.eq_iff_iff]
  simp only [bne_iff_ne, ne_eq, decide_eq_decide, Bool.not_eq_true', decide_eq_false_iff_not]
  omega

/-- R35: the sign of an LNS8 code is bit 7, over the field L. -/
theorem withSign_lns8 (neg : Bool) (n : Nat) : Fmt.lns8.withSign neg n = n + if neg then 128 else 0 := rfl

theorem lnsMul_nar (h : a = 0x80 ∨ b = 0x80) : lnsMul a b = ⟨0x80, Flag.nonFinite⟩ := by
  simp [lnsMul, h]

theorem lnsMul_zero (ha : a ≠ 0x80) (hb : b ≠ 0x80) (h : a = 0 ∨ b = 0) : lnsMul a b = ⟨0, 0⟩ := by
  simp [lnsMul, ha, hb, h]

/-- The product of two codes that are neither zero nor NaR: the sum of the fields less 64 chooses among three outcomes. -/
theorem lnsMul_fields (ha : a % 128 ≠ 0) (hb : b % 128 ≠ 0) :
    lnsMul a b =
      if a % 128 + b % 128 ≤ 64 then ⟨0, Flag.underflow⟩
      else if 192 ≤ a % 128 + b % 128 then ⟨Fmt.lns8.withSign (a.testBit 7 != b.testBit 7) 127, Flag.saturated⟩
      else ⟨Fmt.lns8.withSign (a.testBit 7 != b.testBit 7) (a % 128 + b % 128 - 64), 0⟩ := by
  have notNar : ¬ (a = 0x80 || b = 0x80) = true := by simp; omega
  have notZero : ¬ (a = 0 || b = 0) = true := by simp; omega
  have low : ((a % 128 : Nat) : Int) + (b % 128 : Nat) - 64 < 1 ↔ a % 128 + b % 128 ≤ 64 := by omega
  have high : 127 < ((a % 128 : Nat) : Int) + (b % 128 : Nat) - 64 ↔ 192 ≤ a % 128 + b % 128 := by omega
  have nat : (((a % 128 : Nat) : Int) + (b % 128 : Nat) - 64).toNat = a % 128 + b % 128 - 64 := by omega
  rw [lnsMul, if_neg notNar, if_neg notZero]
  simp only [low, high, nat]

end LnsProduct

/-- Settles O19: a product of fields is one of the three outcomes of `lnsMul_fields`, by their sum. -/
theorem lnsProductsFollowTheirRule : Obligations.LnsProductsFollowTheirRule := by
  unfold Obligations.LnsProductsFollowTheirRule
  intro a b ha hb
  refine ⟨fun h => by rw [lnsMul_nar h], lnsMul_zero, fun hLa hLb => ?_⟩
  rw [lnsMul_fields hLa hLb, signs_differ_eq ha hb, withSign_lns8, withSign_lns8]
  have sign : (if (!decide (a / 128 = b / 128)) = true then 128 else 0) = if a / 128 = b / 128 then 0 else 128 := by simp
  rw [sign]
  refine ⟨fun hlow hhigh => ?_, fun hlow => if_pos hlow, fun hhigh => ?_⟩
  · rw [if_neg (by omega), if_neg (by omega)]
  · rw [if_neg (by omega), if_pos hhigh]

/-! ### Rounding to an integer under RN (R41) -/

/-- `n` is the integer nearest to m / 2^d, and is even where it lies half a step away. -/
def IsNearestEven (n m d : Nat) : Prop :=
  2 * (n * 2 ^ d - m) ≤ 2 ^ d ∧ 2 * (m - n * 2 ^ d) ≤ 2 ^ d ∧
    (2 * (n * 2 ^ d - m) = 2 ^ d ∨ 2 * (m - n * 2 ^ d) = 2 ^ d → n % 2 = 0)

section RoundToInteger
variable {n r d L m : Nat} {e : Int}

/-- R41: below half a step, and at half a step over an even integer, RN goes down; else up. -/
theorem roundStep_rn : (roundStep .rn n r d).1 = if 2 * r < 2 ^ d ∨ 2 * r = 2 ^ d ∧ n % 2 = 0 then n else n + 1 := by
  have pos : 0 < 2 ^ d := Nat.two_pow_pos d
  unfold roundStep
  obtain below | tie | above := lt_trichotomy (2 * r) (2 ^ d)
  · by_cases whole : r = 0 <;> simp [whole, below]
  · have inexact : r ≠ 0 := by omega
    simp [inexact, tie]
  · have inexact : r ≠ 0 := by omega
    simp [inexact, above, above.ne', above.not_gt]

theorem roundStep_rn_nearest (hr : r < 2 ^ d) : IsNearestEven (roundStep .rn n r d).1 (n * 2 ^ d + r) d := by
  rw [roundStep_rn]
  unfold IsNearestEven
  split
  · omega
  · rw [Nat.add_one_mul n]
    omega

/-- Rounding does not pass an integer that bounds the exact value. -/
theorem roundStep_rn_le (h : n * 2 ^ d + r ≤ L * 2 ^ d) : (roundStep .rn n r d).1 ≤ L := by
  have pos : 0 < 2 ^ d := Nat.two_pow_pos d
  have down : n ≤ L := Nat.le_of_mul_le_mul_right (by omega) pos
  rw [roundStep_rn]
  split
  case isTrue => exact down
  case isFalse hup =>
    have below : n ≠ L := by
      rintro rfl
      omega
    omega

/-- The integer that a magnitude m × 2^e is written as in an integer format under RN. -/
def rnInteger (m : Nat) (e : Int) : Nat :=
  (roundStep .rn (splitShift m e).1 (splitShift m e).2.1 (splitShift m e).2.2).1

theorem rnInteger_of_nonneg (he : 0 ≤ e) : rnInteger m e = m * 2 ^ e.toNat := by
  simp [rnInteger, splitShift, he, roundStep, Nat.shiftLeft_eq]

theorem rnInteger_of_neg (he : e < 0) :
    rnInteger m e = (roundStep .rn (m / 2 ^ (-e).toNat) (m % 2 ^ (-e).toNat) (-e).toNat).1 := by
  simp [rnInteger, splitShift, Int.not_le.mpr he]

theorem rnInteger_nearest (he : e < 0) : IsNearestEven (rnInteger m e) m (-e).toNat := by
  have near := roundStep_rn_nearest (n := m / 2 ^ (-e).toNat) (Nat.mod_lt m (Nat.two_pow_pos (-e).toNat))
  rwa [Nat.div_add_mod', ← rnInteger_of_neg he] at near

@[simp] theorem rnInteger_zero : rnInteger 0 e = 0 := by
  obtain he | he := lt_or_ge e 0
  · simp [rnInteger_of_neg he, roundStep]
  · simp [rnInteger_of_nonneg he]

/-! ### Conversion to INT8 and INT4 (R34, R46) -/

variable {f : Fmt} {neg sat : Bool}

/-- R46: the exact value against the largest code, both brought to the smaller exponent. -/
theorem Fmt.exceeds_int (hf : f.isInt = true) :
    f.exceeds m e = true ↔ f.maxCode * 2 ^ (-e).toNat < m * 2 ^ e.toNat := by
  have notLns : f ≠ .lns8 := by rintro rfl; exact absurd hf (by decide)
  have hk : (0 - min 0 e).toNat = (-e).toNat := by omega
  have he : (e - min 0 e).toNat = e.toNat := by omega
  simp only [Fmt.exceeds, notLns, hf, Val.lt, Val.mantAt, Nat.shiftLeft_eq]
  simp only [if_true, if_false, decide_eq_true_eq, Bool.false_eq_true, Nat.cast_lt]
  rw [hk, he]

theorem rnInteger_le_maxCode (hf : f.isInt = true) (h : f.exceeds m e = false) : rnInteger m e ≤ f.maxCode := by
  have bound : m * 2 ^ e.toNat ≤ f.maxCode * 2 ^ (-e).toNat := by
    rw [← not_lt, ← Fmt.exceeds_int hf, h]
    exact Bool.false_ne_true
  obtain he | he := lt_or_ge e 0
  · rw [Int.toNat_of_nonpos he.le, pow_zero, mul_one] at bound
    rw [rnInteger_of_neg he]
    apply roundStep_rn_le
    rwa [Nat.div_add_mod']
  · rw [Int.toNat_of_nonpos (neg_nonpos.mpr he), pow_zero, mul_one] at bound
    rwa [rnInteger_of_nonneg he]

theorem convert_int_of_exceeds (hf : f.isInt = true) (mode : Rnd) (h : f.exceeds m e = true) :
    convert f sat mode (.fin neg m e) = ⟨f.withSign neg f.maxCode, Flag.saturated⟩ := by
  have nonzero : m ≠ 0 := by
    rintro rfl
    simpa using (Fmt.exceeds_int hf).mp h
  cases f with
  | int8 | int4 => simp [convert, convFin, nonzero, Fmt.scaled, h]
  | _ => exact absurd hf (by decide)

theorem convert_int_code (hf : f.isInt = true) (h : f.exceeds m e = false) :
    (convert f sat .rn (.fin neg m e)).code = f.withSign neg (rnInteger m e) := by
  cases f with
  | int8 | int4 =>
    by_cases zero : m = 0
    · subst zero
      simp [convert, convFin]
    · simp [convert, convFin, zero, Fmt.scaled, h, Fmt.isInt, rnInteger]
  | _ => exact absurd hf (by decide)

theorem signed_of_lt {w : Nat} (h : n < 2 ^ (w - 1)) : signed w n = n := by
  have fits : n < 2 ^ w := h.trans_le (Nat.pow_le_pow_right (by decide) (Nat.sub_le w 1))
  simp [signed, Nat.mod_eq_of_lt fits, h]

theorem signed_neg {w : Nat} (hw : 0 < w) (h : n < 2 ^ (w - 1)) : signed w ((2 ^ w - n) % 2 ^ w) = -(n : Int) := by
  have double : 2 ^ w = 2 * 2 ^ (w - 1) := (mul_pow_sub_one hw.ne' 2).symm
  obtain rfl | pos := Nat.eq_zero_or_pos n
  · simp [signed]
  · have fits : (2 ^ w - n) % 2 ^ w = 2 ^ w - n := Nat.mod_eq_of_lt (by omega)
    have upper : ¬ 2 ^ w - n < 2 ^ (w - 1) := by omega
    simp only [signed, fits, upper, if_false]
    push_cast [show n ≤ 2 ^ w by omega]
    ring

theorem Fmt.decode_int (hf : f.isInt = true) (c : Nat) : f.decode c = Val.ofInt (signed f.bits c) := by
  cases f with
  | int8 | int4 => rfl
  | _ => exact absurd hf (by decide)

theorem Fmt.maxCode_lt_of_isInt (hf : f.isInt = true) : f.maxCode < 2 ^ (f.bits - 1) := by
  cases f with
  | int8 | int4 => decide
  | _ => exact absurd hf (by decide)

/-- R34: a magnitude up to the largest code reads back with its sign; so the code of −128 or −8 is never among them. -/
theorem decode_withSign_int (hf : f.isInt = true) (hn : n ≤ f.maxCode) :
    f.decode (f.withSign neg n) = Val.ofInt (if neg then -(n : Int) else n) := by
  have small : n < 2 ^ (f.bits - 1) := hn.trans_lt (Fmt.maxCode_lt_of_isInt hf)
  have width : 0 < f.bits := by cases f <;> decide
  rw [Fmt.decode_int hf, Fmt.withSign, if_pos hf]
  cases neg with
  | false => exact congrArg Val.ofInt (signed_of_lt small)
  | true => exact congrArg Val.ofInt (signed_neg width small)

end RoundToInteger

/-- Settles O18: the code written is that of `rnInteger`, the nearest integer, which the largest code bounds. -/
theorem integerConversionIsNearest : Obligations.IntegerConversionIsNearest := by
  unfold Obligations.IntegerConversionIsNearest
  intro f sat neg m e hf
  have isInt : f.isInt = true := by obtain rfl | rfl := hf <;> rfl
  refine ⟨convert_int_of_exceeds isInt .rn, fun h => ⟨rnInteger m e, ?_⟩⟩
  have bound := rnInteger_le_maxCode isInt h
  exact ⟨bound, convert_int_code isInt h, decode_withSign_int isInt bound, rnInteger_of_nonneg, rnInteger_nearest⟩

end Sys2Proof.Machine

/-!
Scope of the block: finished tiles (04). How many tiles have left an array is counted in 0xA010:00 (R109), which feeding the
arrays anew leaves alone.
-/

namespace Sys2Proof.Machine

/-! ### What a fold leaves alone -/

/-- A fold whose every step keeps what `g` reads keeps it. -/
theorem foldl_reads {α β γ : Type} (g : α → γ) {f : α → β → α} (hf : ∀ a b, g (f a b) = g a) (l : List β) (a : α) :
    g (l.foldl f a) = g a :=
  foldl_keeps (fun a a' => g a' = g a) (fun _ => rfl) (fun _ _ _ h h' => h'.trans h) f l (fun a b _ => hf a b) a

/-! ### What leaves the count of finished tiles alone (R109) -/

/-- Tiles that left an array, 0xA010:00 (R109). -/
def State.tilesFinished (s : State) : Nat := s.dv 0xA01000

section TilesFinished
variable (s : State) (c a r : Nat)

@[simp] theorem State.tilesFinished_drawn : s.drawn.tilesFinished = s.tilesFinished := rfl
@[simp] theorem State.tilesFinished_onCluster (f : Cluster → Cluster) : (s.onCluster c f).tilesFinished = s.tilesFinished := rfl
@[simp] theorem State.tilesFinished_setArray (x : MatArray) : (s.setArray c a x).tilesFinished = s.tilesFinished := rfl
@[simp] theorem State.tilesFinished_onRegion (f : Region → Region) : (s.onRegion r f).tilesFinished = s.tilesFinished := rfl
@[simp] theorem State.tilesFinished_setRegion (x : Region) : (s.setRegion r x).tilesFinished = s.tilesFinished := rfl
@[simp] theorem State.tilesFinished_setGovernor (east : Bool) (g : Governor) :
    (s.setGovernor east g).tilesFinished = s.tilesFinished := rfl
@[simp] theorem State.tilesFinished_meet (q id st : Nat) : (s.meet q id st).tilesFinished = s.tilesFinished := rfl
@[simp] theorem State.tilesFinished_passOperands (t : Tile) (streams : Bool) :
    (s.passOperands c t streams).tilesFinished = s.tilesFinished := rfl
@[simp] theorem State.tilesFinished_relieve (cycles : Nat) : (s.relieve c cycles).tilesFinished = s.tilesFinished := rfl

theorem State.tilesFinished_setDv {key : Nat} (h : 0xA01000 ≠ key) (v : Nat) : (s.setDv key v).tilesFinished = s.tilesFinished :=
  s.dv_setDv_ne v h

theorem State.tilesFinished_bump {key : Nat} (h : 0xA01000 ≠ key) (n : Nat) : (s.bump key n).tilesFinished = s.tilesFinished :=
  s.tilesFinished_setDv h _

theorem State.tilesFinished_bump_self : (s.bump 0xA01000 1).tilesFinished = (s.tilesFinished + 1) % 256 ^ entrySize 0xA01000 :=
  s.dv_setDv_same ..

@[simp] theorem State.tilesFinished_endStall : (s.endStall c a).tilesFinished = s.tilesFinished := by
  unfold State.endStall
  dsimp only
  split
  · rfl
  · simp [State.tilesFinished_bump]

@[simp] theorem State.tilesFinished_noteLate : (s.noteLate c a).tilesFinished = s.tilesFinished := by
  unfold State.noteLate
  dsimp only
  split
  · split <;> rfl
  · rfl

@[simp] theorem State.tilesFinished_settleFiller : (s.settleFiller r).tilesFinished = s.tilesFinished := by
  unfold State.settleFiller
  dsimp only
  split
  · rfl
  · simp [State.tilesFinished_bump]

@[simp] theorem State.tilesFinished_fallBy (step : Nat) : (s.fallBy r step).tilesFinished = s.tilesFinished := by
  unfold State.fallBy
  split
  · rfl
  · simp

@[simp] theorem State.tilesFinished_askSlope (kind step : Nat) (who : Nat × Nat) :
    (s.askSlope kind r step who).1.tilesFinished = s.tilesFinished := by
  unfold State.askSlope
  dsimp only
  split
  · rfl
  · exact State.tilesFinished_setDv _ (by decide) _

@[simp] theorem State.tilesFinished_askWork (kind step : Nat) (who : Nat × Nat) :
    (s.askWork kind r step who).1.tilesFinished = s.tilesFinished := by
  unfold State.askWork
  dsimp only
  split <;> split <;> simp

@[simp] theorem State.tilesFinished_startTile : (s.startTile c a).tilesFinished = s.tilesFinished := by
  unfold State.startTile
  split
  · rfl
  · simp

@[simp] theorem State.tilesFinished_feedArrays : (s.feedArrays c).tilesFinished = s.tilesFinished := by
  unfold State.feedArrays
  refine (foldl_reads State.tilesFinished (fun v a => ?_) _ _).trans (foldl_reads State.tilesFinished (fun v a => ?_) _ _)
  · dsimp only
    split
    · rfl
    · split
      · split <;> rfl
      · simp
  · dsimp only
    split
    · rfl
    · simp

@[simp] theorem State.tilesFinished_record (e : ErrRecord) : (s.record e).tilesFinished = s.tilesFinished := by
  unfold State.record State.ringRec
  split
  · rfl
  · dsimp only
    split
    · rw [State.latch, State.tilesFinished_setDv _ (by decide), State.tilesFinished_setDv _ (by decide)]
      rfl
    · rfl

@[simp] theorem State.tilesFinished_recordFFs (h unit : Nat) (idxs : List Nat) :
    (s.recordFFs h unit idxs).tilesFinished = s.tilesFinished := by
  unfold State.recordFFs State.recordPlaneFFs
  split
  · rfl
  · split
    · rfl
    · split
      · refine foldl_reads State.tilesFinished (fun v b => ?_) _ s
        split
        · exact v.tilesFinished_record _
        · rfl
      · rfl

@[simp] theorem State.tilesFinished_takeElems (h unit : Nat) (idxs : List Nat) :
    (s.takeElems h unit idxs).tilesFinished = s.tilesFinished := by
  unfold State.takeElems
  split
  · rfl
  · rw [State.tilesFinished_recordFFs]
    exact foldl_reads State.tilesFinished (f := State.wakeChannel) (fun _ _ => rfl) _ s

end TilesFinished

/-- A tile that leaves its array raises the count of finished tiles by one, from where the end of its command's waits leaves it. -/
theorem State.tilesFinished_finishTile {s : State} {c a : Nat} {t : Tile} {st : Started} {w : MatmulWork}
    (cur : (s.array c a).cur = some t) (job : s.tileJob t = some (st, w)) (granted : (s.array c a).waits = false)
    (runs : s.regionRuns c = true) (here : s.operandsHere c t st = true) (room : s.ingressFull (handlesAt st.cmd [8, 11]) = false)
    (going : (s.endHolds t.q st).engineStop [handleAt st.cmd 8, handleAt st.cmd 11] [] = 0) :
    (s.finishTile c a).tilesFinished = ((s.endHolds t.q st).tilesFinished + 1) % 256 ^ entrySize 0xA01000 := by
  have goes : ¬ (0 = St.memoryOffline ∨ 0 = St.memoryCritical) := by decide
  simp only [State.finishTile, cur, job, granted, runs, here, room, going, goes]
  simp only [Bool.false_or, Bool.not_true, Bool.false_eq_true, if_false, State.tilesFinished_feedArrays,
    State.tilesFinished_setArray, State.tilesFinished_endStall, State.tilesFinished_onCluster, State.tilesFinished_fallBy,
    State.tilesFinished_onRegion, State.tilesFinished_relieve, State.tilesFinished_passOperands]
  split <;> simp [State.tilesFinished_bump, State.tilesFinished_bump_self]

/-! ### The wait that a finished tile ends -/

/-- A MATMUL without operands whose wait at a channel's ingress is to be counted in 0xA010:00, the count of finished tiles. -/
def waitsOnTileCount : Started :=
  { id := 1, index := 0, listId := 0, depth := 0, cmd := 0, op := 0x10, since := 0, ingressSince := some (0xA01000, 0),
    work := .matmul { parts := 1, total := 1, next := 1 } }

/-- Its only tile. -/
def countedTile : Tile := { q := 0, id := 1, unit := 0, since := 0 }

/-- Array 0 of cluster 0 holds that tile, 5 ns after the wait began, in a region that runs. -/
def finishingTile : State :=
  { State.reset with
    now := 5, queues := [(0, { started := [waitsOnTileCount] })], regions := [(0, { power := 0 })],
    clusters := [(0, { arrays := [(0, { cur := some countedTile })] })] }

theorem running_countedTile :
    finishingTile.tileJob countedTile = some (waitsOnTileCount, { parts := 1, total := 1, next := 1 }) := by decide +kernel

/-- The tile is counted, and so are the 5 ns of the wait that ends with it. -/
theorem tilesFinished_finishingTile : (finishingTile.finishTile 0 0).tilesFinished = 6 := by
  rw [State.tilesFinished_finishTile rfl running_countedTile rfl rfl (by decide +kernel) (by decide +kernel) (by decide +kernel)]
  decide +kernel

/-- Refutes O39: the counter that a wait at a channel's ingress goes to (R217, R222) is data of the started command, and
TILE_FINISH ends that wait first. Where it names 0xA010:00, that counter rises by the wait too, not by 1. The machine's own waits
name 0x4007:00 or 0x4008:00, but the statement is about every state. -/
theorem not_tilesAreFinished : ¬ Obligations.TilesAreFinished := by
  unfold Obligations.TilesAreFinished
  intro h
  obtain ⟨finishes, -⟩ := (h 0 0 finishingTile).1 countedTile _ _ rfl running_countedTile
  obtain ⟨u, -, counted, -, ran, -⟩ := finishes rfl rfl (by decide +kernel) (by decide +kernel)
  have left : finishingTile.finishTile 0 0 = u.feedArrays 0 := Host.Outcome.next.inj ran
  have six : u.tilesFinished = 6 := by
    rw [← u.tilesFinished_feedArrays 0, ← left, tilesFinished_finishingTile]
  have one : u.tilesFinished = 1 := counted.trans (by decide +kernel)
  omega

end Sys2Proof.Machine

/-!
Scope of the block: MATMUL, VECTOR and UPDATE that start (04 to 07). What the way from a command's fetch to its engine leaves alone,
and the started command at the end of it.
-/

namespace Sys2Proof.Machine

/-! ### What leaves the queues and the step alone -/

/-- What the start of a command of a list turns on besides its checks: the queues, and the step with its verdict latch (R153,
R174). -/
def State.queuesAndStep (s : State) : Tbl Queue × StepState := (s.queues, s.step)

theorem State.queue_congr {s u : State} (h : u.queuesAndStep = s.queuesAndStep) (q : Nat) : u.queue q = s.queue q :=
  congrArg (fun x : Tbl Queue × StepState => look ({} : Queue) x.1 q) h

theorem State.step_congr {s u : State} (h : u.queuesAndStep = s.queuesAndStep) : u.step = s.step :=
  congrArg Prod.snd h

section QueuesAndStep
variable (s : State)

@[simp] theorem State.queuesAndStep_send (e : Egress) : (s.send e).queuesAndStep = s.queuesAndStep := rfl
@[simp] theorem State.queuesAndStep_wr (a : Nat) (b : Byte) : (s.wr a b).queuesAndStep = s.queuesAndStep := rfl
@[simp] theorem State.queuesAndStep_setDv (key v : Nat) : (s.setDv key v).queuesAndStep = s.queuesAndStep := rfl
@[simp] theorem State.queuesAndStep_bump (key n : Nat) : (s.bump key n).queuesAndStep = s.queuesAndStep := rfl
@[simp] theorem State.queuesAndStep_surge (key since : Nat) : (s.surge key since).queuesAndStep = s.queuesAndStep := rfl
@[simp] theorem State.queuesAndStep_setMark (k : Nat) (m : LineMark) : (s.setMark k m).queuesAndStep = s.queuesAndStep := rfl
@[simp] theorem State.queuesAndStep_setChannel (k : Nat) (r : Channel) : (s.setChannel k r).queuesAndStep = s.queuesAndStep := rfl
@[simp] theorem State.queuesAndStep_onChannel (k : Nat) (f : Channel → Channel) :
    (s.onChannel k f).queuesAndStep = s.queuesAndStep := rfl
@[simp] theorem State.queuesAndStep_onPackage (k : Nat) (f : Package → Package) :
    (s.onPackage k f).queuesAndStep = s.queuesAndStep := rfl
@[simp] theorem State.queuesAndStep_onPort (k : Nat) (f : Port → Port) : (s.onPort k f).queuesAndStep = s.queuesAndStep := rfl
@[simp] theorem State.queuesAndStep_onTraek (f : Traek → Traek) : (s.onTraek f).queuesAndStep = s.queuesAndStep := rfl
@[simp] theorem State.queuesAndStep_onCluster (k : Nat) (f : Cluster → Cluster) :
    (s.onCluster k f).queuesAndStep = s.queuesAndStep := rfl
@[simp] theorem State.queuesAndStep_onRegion (k : Nat) (f : Region → Region) :
    (s.onRegion k f).queuesAndStep = s.queuesAndStep := rfl
@[simp] theorem State.queuesAndStep_setRegion (k : Nat) (x : Region) : (s.setRegion k x).queuesAndStep = s.queuesAndStep := rfl
@[simp] theorem State.queuesAndStep_onTensor (h : Nat) (f : Tensor → Tensor) :
    (s.onTensor h f).queuesAndStep = s.queuesAndStep := rfl
@[simp] theorem State.queuesAndStep_setGovernor (east : Bool) (g : Governor) :
    (s.setGovernor east g).queuesAndStep = s.queuesAndStep := rfl
@[simp] theorem State.queuesAndStep_throttleEvent (reason : Nat) : (s.throttleEvent reason).queuesAndStep = s.queuesAndStep :=
  s.queuesAndStep_setDv ..

/-! Memory: the bytes of codes, scales, states and records -/

@[simp] theorem State.queuesAndStep_wrBytes (bs : List Byte) : ∀ (s : State) (a : Nat),
    (s.wrBytes a bs).queuesAndStep = s.queuesAndStep := by
  induction bs with
  | nil => intro s a; rfl
  | cons b bs ih => intro s a; exact ih (s.wr (memKey a) b) (a + 1)

@[simp] theorem State.queuesAndStep_wrNat (a n v : Nat) : (s.wrNat a n v).queuesAndStep = s.queuesAndStep :=
  State.queuesAndStep_wrBytes _ s a

@[simp] theorem State.queuesAndStep_setScale (hdr b e : Nat) : (s.setScale hdr b e).queuesAndStep = s.queuesAndStep :=
  s.queuesAndStep_wrNat ..

@[simp] theorem State.queuesAndStep_setState (hdr b v : Nat) : (s.setState hdr b v).queuesAndStep = s.queuesAndStep :=
  s.queuesAndStep_wrNat ..

@[simp] theorem State.queuesAndStep_setHist (hdr b v : Nat) : (s.setHist hdr b v).queuesAndStep = s.queuesAndStep := by
  unfold State.setHist
  split <;> simp

@[simp] theorem State.queuesAndStep_chanMax (hdr ch e : Nat) : (s.chanMax hdr ch e).queuesAndStep = s.queuesAndStep :=
  s.queuesAndStep_wrNat ..

@[simp] theorem State.queuesAndStep_setPresent (d : Line) (b : Nat) (on : Bool) :
    (s.setPresent d b on).queuesAndStep = s.queuesAndStep := by
  unfold State.setPresent
  split <;> simp

@[simp] theorem State.queuesAndStep_moveBlocks (d : Line) (b : Nat) (enter : Bool) :
    (s.moveBlocks d b enter).queuesAndStep = s.queuesAndStep := by
  unfold State.moveBlocks
  split
  · dsimp only
    split <;> simp
  · rfl

@[simp] theorem State.queuesAndStep_putCode (d : Line) (plane idx code : Nat) :
    (s.putCode d plane idx code).queuesAndStep = s.queuesAndStep := by
  unfold State.putCode
  split
  · rfl
  · split <;> simp

@[simp] theorem State.queuesAndStep_wrCode (d : Line) (plane idx code : Nat) :
    (s.wrCode d plane idx code).queuesAndStep = s.queuesAndStep := by
  unfold State.wrCode
  dsimp only
  split
  · split <;> split <;> simp
  · simp

@[simp] theorem State.queuesAndStep_wrZeros (d : Line) (plane b : Nat) (vs : List Val) :
    (s.wrZeros d plane b vs).queuesAndStep = s.queuesAndStep :=
  foldl_reads State.queuesAndStep (fun v _ => v.queuesAndStep_wrCode ..) _ s

@[simp] theorem State.queuesAndStep_wrCodes (a : Acc) (h : Nat) (d : Line) (plane : Nat) (w : Writer) (b e : Nat) (vs : List Val) :
    (State.wrCodes a h d plane w b e vs).s.queuesAndStep = a.s.queuesAndStep :=
  foldl_reads (fun a : Acc => a.s.queuesAndStep) (fun a _ => a.s.queuesAndStep_wrCode ..) _ a

/-! Book-mode epochs (R65, R67) -/

@[simp] theorem State.queuesAndStep_dropEntries (d : Line) (idxs : List Nat) :
    (s.dropEntries d idxs).queuesAndStep = s.queuesAndStep := by
  refine foldl_reads State.queuesAndStep (fun v x => ?_) _ s
  exact v.queuesAndStep_onChannel ..

@[simp] theorem State.queuesAndStep_closeBlock (h b : Nat) (first : Bool) :
    (s.closeBlock h b first).1.queuesAndStep = s.queuesAndStep := by
  unfold State.closeBlock
  dsimp only
  split
  · rfl
  split
  · split
    · rfl
    · split
      · simp
      · split <;> simp
  split
  · split <;> simp
  split
  · simp
  · split <;> split <;> simp

@[simp] theorem State.queuesAndStep_closeBlocks (h : Nat) (bs : List Nat) :
    (s.closeBlocks h bs).1.queuesAndStep = s.queuesAndStep := by
  unfold State.closeBlocks
  split
  · rfl
  · rw [State.queuesAndStep_onTensor]
    refine (foldl_reads (fun x : State × Nat => x.1.queuesAndStep) (fun x b => ?_) bs _).trans ?_
    · exact x.1.queuesAndStep_closeBlock ..
    · exact s.queuesAndStep_dropEntries ..

@[simp] theorem State.queuesAndStep_openEpoch (h : Nat) : (s.openEpoch h).queuesAndStep = s.queuesAndStep := by
  unfold State.openEpoch
  dsimp only
  split
  · split
    · split <;> simp
    · rfl
  · rfl

/-! Records and answers (R254, R300, R414) -/

@[simp] theorem State.queuesAndStep_record (e : ErrRecord) : (s.record e).queuesAndStep = s.queuesAndStep := by
  unfold State.record State.ringRec
  split
  · rfl
  · dsimp only
    split
    · exact (State.queuesAndStep_setDv ..).trans (State.queuesAndStep_setDv ..)
    · rfl

@[simp] theorem State.queuesAndStep_recordOf (cls unit region syndrome : Nat) :
    (s.recordOf cls unit region syndrome).queuesAndStep = s.queuesAndStep := s.queuesAndStep_record _

@[simp] theorem State.queuesAndStep_recordCE (e : ErrRecord) (source : Nat) :
    (s.recordCE e source).queuesAndStep = s.queuesAndStep := by
  unfold State.recordCE
  split
  · rfl
  · exact s.queuesAndStep_record e

@[simp] theorem State.queuesAndStep_flitOut (p : Nat) (load : List Byte) : (s.flitOut p load).queuesAndStep = s.queuesAndStep := rfl

@[simp] theorem State.queuesAndStep_traekFlitOut (load : List Byte) : (s.traekFlitOut load).queuesAndStep = s.queuesAndStep := rfl

@[simp] theorem State.queuesAndStep_packetOut (p : Nat) (w : OutWait) : (s.packetOut p w).queuesAndStep = s.queuesAndStep := by
  unfold State.packetOut
  dsimp only
  rw [State.queuesAndStep_onPort]
  refine (foldl_reads State.queuesAndStep (fun v load => v.queuesAndStep_flitOut p load) _ _).trans ?_
  split <;> simp

@[simp] theorem State.queuesAndStep_drainPort (p n : Nat) : ∀ s : State, (State.drainPort n s p).queuesAndStep = s.queuesAndStep := by
  induction n with
  | zero => intro s; rfl
  | succ n ih =>
    intro s
    unfold State.drainPort
    split
    · rw [ih, State.queuesAndStep_packetOut]
    · rfl

@[simp] theorem State.queuesAndStep_egressPort (p : Nat) (e : Egress) : (s.egressPort p e).queuesAndStep = s.queuesAndStep := by
  simp [State.egressPort, State.portGoes, State.portShort]

@[simp] theorem State.queuesAndStep_messageOut (w : OutWait) : (s.messageOut w).queuesAndStep = s.queuesAndStep := by
  unfold State.messageOut
  dsimp only
  refine (foldl_reads State.queuesAndStep (fun v load => v.queuesAndStep_traekFlitOut load) _ _).trans ?_
  split <;> simp

@[simp] theorem State.queuesAndStep_drainTraek (n : Nat) : ∀ s : State, (State.drainTraek n s).queuesAndStep = s.queuesAndStep := by
  induction n with
  | zero => intro s; rfl
  | succ n ih =>
    intro s
    unfold State.drainTraek
    split
    · rw [ih, State.queuesAndStep_messageOut]
    · rfl

@[simp] theorem State.queuesAndStep_traekShort : s.traekShort.queuesAndStep = s.queuesAndStep :=
  (foldl_reads State.queuesAndStep (fun v _ => v.queuesAndStep_bump ..) _ _).trans (s.queuesAndStep_onTraek _)

@[simp] theorem State.queuesAndStep_nakTo (p : Packet) (status : Nat) : (s.nakTo p status).queuesAndStep = s.queuesAndStep := by
  unfold State.nakTo State.respond
  split
  · split
    · simp [State.sendTraek, State.traekGoes]
    · rfl
  · unfold State.sendBack State.sendFrom
    split
    · rfl
    · simp

/-! Reads of memory that are in error (R210, R421) -/

@[simp] theorem State.queuesAndStep_failWaiting (p st : Nat) : (s.failWaiting p st).queuesAndStep = s.queuesAndStep := by
  have naks {β : Type} (pkt : β → Packet) (l : List β) (v : State) :
      (l.foldl (fun v r => v.nakTo (pkt r) st) v).queuesAndStep = v.queuesAndStep :=
    foldl_reads State.queuesAndStep (fun v r => v.queuesAndStep_nakTo (pkt r) st) l v
  refine foldl_reads State.queuesAndStep (fun v c => ?_) _ s
  exact (naks id _ _).trans ((naks id _ _).trans ((naks ChanReq.pkt _ _).trans rfl))

@[simp] theorem State.queuesAndStep_takeOffline (p ch cause : Nat) : (s.takeOffline p ch cause).queuesAndStep = s.queuesAndStep := by
  unfold State.takeOffline
  dsimp only
  split
  · rfl
  · rw [State.queuesAndStep_failWaiting]
    refine (foldl_reads State.queuesAndStep (fun v h => (v.markSuspect h).queuesAndStep_recordOf ..) _ _).trans ?_
    simp

@[simp] theorem State.queuesAndStep_noteLineUE (near : Nat) : (s.noteLineUE near).queuesAndStep = s.queuesAndStep := by
  unfold State.noteLineUE
  dsimp only
  split
  · rfl
  · split <;> simp

@[simp] theorem State.queuesAndStep_lineUE (near cls source : Nat) : (s.lineUE near cls source).queuesAndStep = s.queuesAndStep := by
  simp [State.lineUE]

@[simp] theorem State.queuesAndStep_lineCE (near n : Nat) : (s.lineCE near n).queuesAndStep = s.queuesAndStep := by
  simp [State.lineCE, State.noteCE]

@[simp] theorem State.queuesAndStep_decodeLine (near : Nat) (r : LineRead) :
    (s.decodeLine near r).queuesAndStep = s.queuesAndStep := by
  unfold State.decodeLine
  split <;> simp

@[simp] theorem State.queuesAndStep_senseLine (near : Nat) (r : LineRead) :
    (s.senseLine near r).queuesAndStep = s.queuesAndStep := by
  unfold State.senseLine
  split
  · rfl
  · split <;> simp

@[simp] theorem State.queuesAndStep_readWord (x : WordRead) : (s.readWord x).queuesAndStep = s.queuesAndStep := by
  unfold State.readWord
  dsimp only
  split
  · split
    · rfl
    · split
      · rfl
      · simp
      · split
        · simp
        · split
          · rfl
          · split
            · simp
            · exact State.queuesAndStep_record ..
  · rfl

/-- The words and lines in error that a command reads leave the queues and the step alone. -/
@[simp] theorem State.queuesAndStep_readErrors (rd : CmdRead) : (s.readErrors rd).queuesAndStep = s.queuesAndStep := by
  refine (foldl_reads State.queuesAndStep (fun v x => ?_) _ _).trans
    (foldl_reads State.queuesAndStep (fun v x => v.queuesAndStep_readWord x) _ s)
  split <;> simp

/-! The work of a command dealt to clusters (R194, R195, R363) -/

@[simp] theorem State.queuesAndStep_dealFrame (h idx c : Nat) : (s.dealFrame h idx c).queuesAndStep = s.queuesAndStep := by
  unfold State.dealFrame
  split
  · rfl
  · split <;> rfl

@[simp] theorem State.queuesAndStep_dealParts (h : Nat) (parts : List (Nat × Nat × List (Line × Nat) × Nat)) : ∀ s : State,
    (s.dealParts h parts).1.queuesAndStep = s.queuesAndStep := by
  induction parts with
  | nil => intro s; rfl
  | cons part rest ih =>
    intro s
    obtain ⟨k, idx, ins, cost⟩ := part
    exact (ih _).trans (s.queuesAndStep_dealFrame ..)

@[simp] theorem State.queuesAndStep_settleFiller (r : Nat) : (s.settleFiller r).queuesAndStep = s.queuesAndStep := by
  unfold State.settleFiller
  dsimp only
  split <;> rfl

@[simp] theorem State.queuesAndStep_askSlope (kind region step : Nat) (who : Nat × Nat) :
    (s.askSlope kind region step who).1.queuesAndStep = s.queuesAndStep := by
  unfold State.askSlope
  dsimp only
  split <;> simp

@[simp] theorem State.queuesAndStep_askWork (kind region step : Nat) (who : Nat × Nat) :
    (s.askWork kind region step who).1.queuesAndStep = s.queuesAndStep := by
  unfold State.askWork
  dsimp only
  split <;> split <;> simp only [State.queuesAndStep_settleFiller, State.queuesAndStep_onRegion, State.queuesAndStep_askSlope]

@[simp] theorem State.queuesAndStep_callRegion (r : Nat) : (s.callRegion r).queuesAndStep = s.queuesAndStep := by
  unfold State.callRegion State.stopPattern
  dsimp only
  rw [State.queuesAndStep_setRegion]
  split
  · split <;> rfl
  · rfl

@[simp] theorem State.queuesAndStep_callShares (q id engine format : Nat) (xs : List Share) : ∀ s : State,
    (s.callShares q id engine format xs).1.queuesAndStep = s.queuesAndStep := by
  induction xs with
  | nil => intro s; rfl
  | cons x xs ih =>
    intro s
    refine (ih _).trans ((State.queuesAndStep_askWork ..).trans ?_)
    exact s.queuesAndStep_callRegion x.cluster

@[simp] theorem State.queuesAndStep_fetchParts (q id : Nat) (dealt : List (Nat × Nat)) (ops : Nat → List (Nat × List Nat)) :
    (s.fetchParts q id dealt ops).queuesAndStep = s.queuesAndStep := by
  refine foldl_reads State.queuesAndStep (fun v p => ?_) _ s
  exact v.queuesAndStep_onCluster ..

@[simp] theorem State.queuesAndStep_fallBy (r step : Nat) : (s.fallBy r step).queuesAndStep = s.queuesAndStep := by
  unfold State.fallBy
  split <;> simp

@[simp] theorem State.queuesAndStep_relieveShares (w : Work) : (s.relieveShares w).queuesAndStep = s.queuesAndStep := by
  refine foldl_reads State.queuesAndStep (fun v x => ?_) _ s
  dsimp only
  split
  · exact State.queuesAndStep_fallBy ..
  · rfl

@[simp] theorem State.queuesAndStep_dropFetches (q id : Nat) : (s.dropFetches q id).queuesAndStep = s.queuesAndStep := rfl

end QueuesAndStep
/-! ### The start of a command (R174, R195) -/

@[simp] theorem State.endHot_run (s : State) (q : Nat) : ((s.endHot q).queue q).run = (s.queue q).run := by
  unfold State.endHot
  split
  · simp [State.queue_congr (s.queuesAndStep_surge ..)]
  · rfl

@[simp] theorem State.endHot_started (s : State) (q : Nat) : ((s.endHot q).queue q).started = (s.queue q).started := by
  unfold State.endHot
  split
  · simp [State.queue_congr (s.queuesAndStep_surge ..)]
  · rfl

@[simp] theorem State.nameSlot_run (s : State) (q : Nat) (st : Started) : ((s.nameSlot q st).queue q).run = (s.queue q).run := by
  unfold State.nameSlot
  split <;> simp

@[simp] theorem State.nameSlot_started (s : State) (q : Nat) (st : Started) :
    ((s.nameSlot q st).queue q).started = (s.queue q).started := by
  unfold State.nameSlot
  split <;> simp

/-- The opening of the epochs of a command that starts leaves its queue alone (R65). -/
theorem State.openEpochs_queue (hs : List Nat) (s : State) (q : Nat) : (hs.foldl State.openEpoch s).queue q = s.queue q :=
  State.queue_congr (foldl_reads State.queuesAndStep (f := State.openEpoch) (fun v h => v.queuesAndStep_openEpoch h) hs s) q

/-- A started command as it enters its engine: whether it uses a derated package is noted (R226). -/
def State.entered (s : State) (st : Started) : Started :=
  { st with derated := s.deratedStatus (st.reads ++ st.writes) != 0 }

theorem State.enter_run {s : State} {q : Nat} {l : ListRun} (run : (s.queue q).run = some l) (st : Started) :
    ((s.enter q st).queue q).run = some { l with pc := l.pc + 1 } := by
  simp [State.enter, State.openEpochs_queue, State.advance_queue, run]

theorem State.enter_started (s : State) (q : Nat) (st : Started) :
    ((s.enter q st).queue q).started = (s.queue q).started ++ [s.entered st] := by
  simp [State.enter, State.openEpochs_queue, State.advance_queue, State.entered]

/-- Whether a command has started shows in its queue alone. -/
theorem StartsIn.congr {s u v : State} {q : Nat} {l : ListRun} {c : Line} {rs ws : List Nat} {st : Started}
    (h : StartsIn s u q l c rs ws st) (same : v.queuesAndStep = u.queuesAndStep) : StartsIn s v q l c rs ws st := by
  unfold StartsIn
  rw [State.queue_congr same]
  exact h

/-- A command that enters its engine in a state whose queues are those of `s` starts in `s`. -/
theorem startsIn_enter {s v : State} {q : Nat} {l : ListRun} {c : Line} {rs ws : List Nat} {st : Started}
    (same : v.queuesAndStep = s.queuesAndStep) (run : (s.queue q).run = some l)
    (brief : st.brief = ((s.queue q).serial + 1, c, l.pc, l.listId, rs, ws)) :
    StartsIn s (v.enter q st) q l c rs ws (v.entered st) := by
  have queue : v.queue q = s.queue q := State.queue_congr same q
  have brief' : (v.entered st).brief = st.brief := rfl
  refine ⟨State.enter_run (queue ▸ run) st, ?_, ?_⟩
  · simp [State.enter_started]
  · simp [State.enter_started, queue, brief', brief]

/-! ### A command whose core takes it -/

theorem State.coherent_of_free {s : State} {rs ws : List Nat} (free : s.accessTensors rs ws = (s, true)) (go : State → State) :
    s.coherent rs ws go = go s := by
  simp [State.coherent, free]

/-- R227: a command that waits for a hot package leaves its list and the started commands as they are. -/
theorem State.waitHot_keeps (s : State) (q : Nat) (hot : Bool) :
    OnlyChanges [.queues] s (s.waitHot q hot) ∧ ((s.waitHot q hot).queue q).run = (s.queue q).run ∧
      ((s.waitHot q hot).queue q).started = (s.queue q).started := by
  cases hot with
  | false => exact ⟨OnlyChanges.refl _ s, rfl, rfl⟩
  | true =>
    rw [State.waitHot, if_pos rfl]
    exact ⟨onlyChanges_onQueue s q _, by simp, by simp⟩

section EngineCommands
variable {s : State} {q : Nat} {l : ListRun} {c : Line} {rd : CmdRead}

/-! ### MATMUL (R92) -/

theorem State.matmul_waits {p : BitVec 1024} (hp : p = (s.fetchProg (fld c 18 2) 18 true).1)
    (taken : Takes s q l c (handlesAt c [8, 11] ++ (epiNamed p [0, 1, 2, 4]).map (·.2))
      (handlesAt c [14] ++ (epiNamed p [3]).map (·.2)))
    (passes : s.matmulFail q c = none) (waits : s.matmulWaits c p = true) :
    s.matmul q c rd =
      s.waitHot q (s.memoryWaits (handlesAt c [8, 11, 14] ++ (epiNamed p [0, 1, 2, 3, 4]).map (·.2))) := by
  subst hp
  exact (taken.take_go passes).trans (if_pos waits)

theorem State.matmul_starts {p : BitVec 1024} (hp : p = (s.fetchProg (fld c 18 2) 18 true).1)
    (taken : Takes s q l c (handlesAt c [8, 11] ++ (epiNamed p [0, 1, 2, 4]).map (·.2))
      (handlesAt c [14] ++ (epiNamed p [3]).map (·.2)))
    (passes : s.matmulFail q c = none) (waits : s.matmulWaits c p = false)
    (free : s.accessTensors (handlesAt c [8, 11] ++ (epiNamed p [0, 1, 2, 4]).map (·.2))
      (handlesAt c [14] ++ (epiNamed p [3]).map (·.2)) = (s, true)) :
    s.matmul q c rd = (s.readErrors rd).startMatmul q l c := by
  subst hp
  refine (taken.take_go passes).trans ?_
  rw [if_neg (by simp [waits]), State.coherent_of_free free]

/-- R92: a MATMUL with elements and a K extent enters the scheduler, its units undealt. -/
theorem startsIn_startMatmul {v : State} {p : BitVec 1024} (same : v.queuesAndStep = s.queuesAndStep)
    (run : (s.queue q).run = some l) (tiles : mmTiles c ≠ 0) (deep : mmK c ≠ 0) (hp : (v.fetchProg (fld c 18 2) 18 true).1 = p) :
    StartsIn s (v.startMatmul q l c) q l c (handlesAt c [8, 11] ++ (epiNamed p [0, 1, 2, 4]).map (·.2))
      (handleAt c 14 :: (epiNamed p [3]).map (·.2)) (v.entered (v.matmulStarted q l c p)) := by
  have brief : (v.matmulStarted q l c p).brief = ((s.queue q).serial + 1, c, l.pc, l.listId,
      handlesAt c [8, 11] ++ (epiNamed p [0, 1, 2, 4]).map (·.2), handleAt c 14 :: (epiNamed p [3]).map (·.2)) := by
    rw [← State.queue_congr same q]
    rfl
  refine (startsIn_enter same run brief).congr ?_
  unfold State.startMatmul
  simp only [hp, if_neg tiles, if_neg deep]
  split <;> rfl

theorem matmulStarted_work (v : State) (deep : mmK c ≠ 0) (p : BitVec 1024) :
    ∃ w, (v.entered (v.matmulStarted q l c p)).work = .matmul w ∧ w.next = 0 ∧ w.finished = 0 ∧ w.total = mmTiles c * w.parts :=
  ⟨_, rfl, rfl, rfl, if_neg deep⟩

/-! ### VECTOR (R114, R195) -/

theorem State.vector_waits (taken : Takes s q l c (handlesAt c [8, 11, 14, 23]) (handlesAt c [17, 20]))
    (passes : s.vectorFail q c = none) (waits : s.vectorWaits c = true) :
    s.vector q c rd = s.waitHot q (s.memoryWaits (handlesAt c [8, 11, 14, 17, 20, 23])) :=
  (taken.take_go passes).trans (if_pos waits)

theorem State.vector_starts (taken : Takes s q l c (handlesAt c [8, 11, 14, 23]) (handlesAt c [17, 20]))
    (passes : s.vectorFail q c = none) (waits : s.vectorWaits c = false)
    (free : s.accessTensors (handlesAt c [8, 11, 14, 23]) (handlesAt c [17, 20]) = (s, true)) :
    s.vector q c rd = (s.readErrors rd).startVector q l c := by
  refine (taken.take_go passes).trans ?_
  rw [if_neg (by simp [waits]), State.coherent_of_free free]

/-- R114, R195: a VECTOR is dealt in shares over clusters, and enters its engine before the waiting VECTORs go on. -/
theorem startVector_starts {v : State} (same : v.queuesAndStep = s.queuesAndStep) (run : (s.queue q).run = some l) :
    ∃ u st prog xs, v.startVector q l c = u.runVectors ∧
      StartsIn s u q l c (handlesAt c [8, 11, 14, 23]) (handlesAt c [17, 20]) st ∧
      st.clusters = shareBits xs ∧ st.work = .vector prog xs ∧ st.done = false := by
  refine ⟨_, _, _, _, rfl, (startsIn_enter ?_ run ?_).congr (State.queuesAndStep_fetchParts ..), rfl, rfl, rfl⟩
  · rw [State.queuesAndStep_callShares, State.queuesAndStep_dealParts, same]
  · rw [← State.queue_congr same q]
    rfl

/-! ### UPDATE (R151, R156) -/

theorem State.update_waits (taken : Takes s q l c (handlesAt c [8, 11, 14, 17]) (handlesAt c [8, 14, 17, 20, 23]))
    (passes : s.updateFail q c = none)
    (waits : s.updateRuns c = true ∨ (handlesAt c [20, 23]).any s.epochOwed = true ∨
      s.memoryWaits (handlesAt c [8, 11, 14, 17, 20, 23]) = true) :
    s.update q c rd = s.waitHot q (s.memoryWaits (handlesAt c [8, 11, 14, 17, 20, 23])) := by
  refine (taken.take_go passes).trans (if_pos ?_)
  simpa only [Bool.or_eq_true, or_assoc] using waits

theorem State.update_starts (taken : Takes s q l c (handlesAt c [8, 11, 14, 17]) (handlesAt c [8, 14, 17, 20, 23]))
    (passes : s.updateFail q c = none) (alone : s.updateRuns c = false) (closed : (handlesAt c [20, 23]).any s.epochOwed = false)
    (cool : s.memoryWaits (handlesAt c [8, 11, 14, 17, 20, 23]) = false)
    (free : s.accessTensors (handlesAt c [8, 11, 14, 17]) (handlesAt c [8, 14, 17, 20, 23]) = (s, true)) :
    s.update q c rd = (s.readErrors rd).startUpdate q l c := by
  refine (taken.take_go passes).trans ?_
  rw [if_neg (by simp only [alone, closed, cool, Bool.or_self, Bool.false_eq_true, not_false_eq_true]),
    State.coherent_of_free free]

end EngineCommands

/-! ### An UPDATE that ends at its start (R156) -/

theorem State.onStarted_queue (s : State) (q id : Nat) (f : Started → Started) :
    (s.onStarted q id f).queue q =
      { s.queue q with started := (s.queue q).started.map (fun x => if x.id == id then f x else x) } :=
  s.queue_onQueue_same q _

/-- A change in place of the commands with a number, which keeps what they have from their start. -/
theorem StartsIn.onStarted {s u : State} {q : Nat} {l : ListRun} {c : Line} {rs ws : List Nat} {st : Started}
    (h : StartsIn s u q l c rs ws st) (id : Nat) {f : Started → Started} (keeps : ∀ x, (f x).brief = x.brief) :
    StartsIn s (u.onStarted q id f) q l c rs ws (if st.id == id then f st else st) := by
  obtain ⟨run, last, briefs⟩ := h
  have brief : Started.brief ∘ (fun x => if x.id == id then f x else x) = Started.brief := by
    funext x
    dsimp only [Function.comp]
    split
    · exact keeps x
    · rfl
  unfold StartsIn
  rw [State.onStarted_queue]
  refine ⟨run, ?_, ?_⟩
  · simp [last]
  · rw [← briefs, List.map_map, brief]

theorem StartsIn.id_eq {s u : State} {q : Nat} {l : ListRun} {c : Line} {rs ws : List Nat} {st : Started}
    (h : StartsIn s u q l c rs ws st) : st.id = (s.queue q).serial + 1 := by
  obtain ⟨-, last, briefs⟩ := h
  have := congrArg List.getLast? briefs
  simp only [List.getLast?_map, last, List.getLast?_concat, Option.map_some, Option.some.injEq] at this
  exact congrArg Prod.fst this

/-- The waits of a command end without a change to what the others, or it, have from their start. -/
theorem StartsIn.endHolds {s u : State} {q : Nat} {l : ListRun} {c : Line} {rs ws : List Nat} {st : Started}
    (h : StartsIn s u q l c rs ws st) (x : Started) :
    ∃ st', StartsIn s (u.endHolds q x) q l c rs ws st' ∧ st'.clusters = st.clusters := by
  unfold State.endHolds
  dsimp only
  split
  · exact ⟨st, h, rfl⟩
  · refine ⟨_, StartsIn.onStarted (h.congr ?_) x.id (fun _ => rfl), ?_⟩
    · repeat' split
      all_goals simp
    · split <;> rfl

/-- A command that ends without a result is done, and keeps what it has from its start. -/
theorem StartsIn.engineEnds {s u : State} {q : Nat} {l : ListRun} {c : Line} {rs ws : List Nat} {st : Started}
    (h : StartsIn s u q l c rs ws st) {x : Started} (hx : x.id = (s.queue q).serial + 1) (status : Nat) :
    ∃ st', StartsIn s (u.engineEnds q x status) q l c rs ws st' ∧ st'.clusters = st.clusters ∧ st'.done = true := by
  obtain ⟨st1, started, clusters⟩ := h.endHolds x
  have mine : (st1.id == x.id) = true := by rw [started.id_eq, hx, beq_self_eq_true]
  refine ⟨_, StartsIn.onStarted (started.congr ?_) x.id (fun _ => rfl), ?_, ?_⟩
  · rw [State.queuesAndStep_dropFetches, State.queuesAndStep_relieveShares]
  · rw [if_pos mine]
    exact clusters
  · rw [if_pos mine]

/-- The command that has started is found by its number. -/
theorem StartsIn.startedOf {s u : State} {q : Nat} {l : ListRun} {c : Line} {rs ws : List Nat} {st : Started}
    (h : StartsIn s u q l c rs ws st) :
    ∃ x, u.startedOf q ((s.queue q).serial + 1) = some x ∧ x.id = (s.queue q).serial + 1 := by
  have number := h.id_eq
  obtain ⟨-, last, -⟩ := h
  have found : (u.startedOf q ((s.queue q).serial + 1)).isSome = true :=
    List.find?_isSome.mpr ⟨st, List.mem_of_getLast? last, beq_iff_eq.mpr number⟩
  obtain ⟨x, hx⟩ := Option.isSome_iff_exists.mp found
  refine ⟨x, hx, ?_⟩
  unfold State.startedOf at hx
  have hid := List.find?_some hx
  exact beq_iff_eq.mp hid

/-! ### Shares that take slots (R196) -/

/-- Work without the slots its shares hold. -/
def Work.unslotted (w : Work) : Work := w.mapShares (fun y => { y with slots := 0 })

/-- What a started command keeps while shares take slots. -/
def Started.dealt (x : Started) : (Nat × Line × Nat × Nat × List Nat × List Nat) × Bool × BitVec 32 × Work :=
  (x.brief, x.done, x.clusters, x.work.unslotted)

/-- What a queue keeps while shares take slots: its list, and of each started command what `Started.dealt` names. -/
def State.dealtIn (q : Nat) (s : State) :
    Option ListRun × List ((Nat × Line × Nat × Nat × List Nat × List Nat) × Bool × BitVec 32 × Work) :=
  ((s.queue q).run, (s.queue q).started.map Started.dealt)

theorem Work.unslotted_mapShares {f : Share → Share} (keeps : ∀ y : Share, { f y with slots := 0 } = { y with slots := 0 })
    (w : Work) : (w.mapShares f).unslotted = w.unslotted := by
  cases w with
  | vector p xs | update p xs => simp [Work.unslotted, Work.mapShares, keeps]
  | _ => rfl

theorem State.dealtIn_congr {s u : State} (h : u.queuesAndStep = s.queuesAndStep) (q : Nat) : u.dealtIn q = s.dealtIn q := by
  unfold State.dealtIn
  rw [State.queue_congr h]

theorem State.dealtIn_onStarted (s : State) (q k id : Nat) {f : Started → Started} (keeps : ∀ x, (f x).dealt = x.dealt) :
    (s.onStarted k id f).dealtIn q = s.dealtIn q := by
  unfold State.dealtIn State.onStarted
  rw [State.queue_onQueue]
  split
  case isFalse => rfl
  case isTrue here =>
    subst here
    have dealt : Started.dealt ∘ (fun x => if x.id == id then f x else x) = Started.dealt := by
      funext x
      dsimp only [Function.comp]
      split
      · exact keeps x
      · rfl
    rw [List.map_map, dealt]

theorem State.dealtIn_slotShare (s : State) (q k id op : Nat) (x : Share) : (s.slotShare k id op x).dealtIn q = s.dealtIn q := by
  unfold State.slotShare
  dsimp only
  split
  · refine (State.dealtIn_onStarted _ q k id (fun st => ?_)).trans (State.dealtIn_congr (s.queuesAndStep_surge ..) q)
    unfold Started.dealt
    rw [Work.unslotted_mapShares (fun y => by split <;> rfl)]
    rfl
  · rfl

theorem State.dealtIn_slotShares (s : State) (q : Nat) : s.slotShares.dealtIn q = s.dealtIn q := by
  refine foldl_reads (State.dealtIn q) (fun v x => ?_) _ s
  refine foldl_reads (State.dealtIn q) (fun w y => ?_) _ v
  exact w.dealtIn_slotShare q ..

/-- A command that has started is still the last one when shares take slots. -/
theorem StartsIn.slotShares {s u : State} {q : Nat} {l : ListRun} {c : Line} {rs ws : List Nat} {st : Started}
    (h : StartsIn s u q l c rs ws st) : ∃ st', StartsIn s u.slotShares q l c rs ws st' ∧ st'.dealt = st.dealt := by
  obtain ⟨run, last, briefs⟩ := h
  have dealt := u.dealtIn_slotShares q
  unfold State.dealtIn at dealt
  obtain ⟨run', started'⟩ := Prod.mk.inj dealt
  have last' := congrArg List.getLast? started'
  rw [List.getLast?_map, List.getLast?_map, last, Option.map_some] at last'
  obtain ⟨st', found, eq⟩ := Option.map_eq_some_iff.mp last'
  refine ⟨st', ⟨run'.trans run, found, ?_⟩, eq⟩
  have briefs' := congrArg (List.map Prod.fst) started'
  rw [List.map_map, List.map_map] at briefs'
  exact briefs'.trans briefs

/-- Work that is an UPDATE's but for the slots of its shares runs on the same clusters. -/
theorem Work.update_of_unslotted {w : Work} {prog : BitVec 1024} {xs : List Share}
    (h : w.unslotted = (Work.update prog xs).unslotted) :
    ∃ ys, w = .update prog ys ∧ ys.map (fun y => y.cluster) = xs.map (fun y => y.cluster) := by
  cases w with
  | update p ys =>
    obtain ⟨rfl, shares⟩ := Work.update.inj h
    refine ⟨ys, rfl, ?_⟩
    have clusters := congrArg (List.map Share.cluster) shares
    rwa [List.map_map, List.map_map] at clusters
  | _ => cases h

/-- The state in which an UPDATE has been dealt over the clusters and its shares have asked for their current steps, and those
shares. -/
def State.updateDealt (v : State) (q : Nat) (c : Line) : State × List Share :=
  let dealt := v.dealParts (handleAt c 8) (v.updateParts c (v.fetchUpdate (fld c 26 2)).1)
  dealt.1.callShares q ((v.queue q).serial + 1) 3 3 (sharesOf v.now (fun r => [r]) dealt.2)

/-- The UPDATE as a started command. -/
def State.updateStarted (v : State) (q : Nat) (l : ListRun) (c : Line) : Started :=
  { v.asStarted q l c with
    clusters := shareBits (v.updateDealt q c).2, reads := handlesAt c [8, 11, 14, 17], writes := handlesAt c [8, 14, 17, 20, 23],
    covers := handlesAt c [8, 14, 17, 20, 23], opens := (handlesAt c [20, 23]).filter (fun h => descBook (v.desc h)),
    work := .update (v.fetchUpdate (fld c 26 2)).1 (v.updateDealt q c).2 }

section UpdateStarts
variable {s v : State} {q : Nat} {l : ListRun} {c : Line}

/-- An UPDATE that is dealt enters its engine before the latch, or its verdict, decides on it. -/
theorem startsIn_updateDealt (same : v.queuesAndStep = s.queuesAndStep) (run : (s.queue q).run = some l) :
    StartsIn s ((v.updateDealt q c).1.enter q (v.updateStarted q l c)) q l c (handlesAt c [8, 11, 14, 17])
      (handlesAt c [8, 14, 17, 20, 23]) ((v.updateDealt q c).1.entered (v.updateStarted q l c)) := by
  refine startsIn_enter ?_ run ?_
  · simp only [State.updateDealt, State.queuesAndStep_callShares, State.queuesAndStep_dealParts, same]
  · rw [← State.queue_congr same q]
    rfl

/-- R156: under the local-verdict bit an UPDATE is done at its start where NF or VOID of the latch is set. -/
theorem startUpdate_skipped (same : v.queuesAndStep = s.queuesAndStep) (run : (s.queue q).run = some l)
    (latched : (bitAt c 28 3 && (v.step.nf || v.step.void)) = true) :
    ∃ st, StartsIn s (v.startUpdate q l c) q l c (handlesAt c [8, 11, 14, 17]) (handlesAt c [8, 14, 17, 20, 23]) st ∧
      st.clusters = shareBits (v.updateDealt q c).2 ∧ st.done = true := by
  have start := startsIn_updateDealt (c := c) same run
  obtain ⟨x, found, number⟩ := start.startedOf
  have ends : v.startUpdate q l c =
      ((v.updateDealt q c).1.enter q (v.updateStarted q l c)).engineEnds q x St.stepSkipped := by
    rw [← State.queue_congr same q] at found
    refine (if_pos latched).trans ?_
    split
    next y hy =>
      obtain rfl : y = x := Option.some.inj (hy.symm.trans found)
      rfl
    next missing => exact absurd (missing.symm.trans found) (Option.some_ne_none x).symm
  rw [ends]
  exact start.engineEnds number St.stepSkipped

/-- R156: else it waits for its verdict, its shares dealt to their clusters. -/
theorem startUpdate_dealt (same : v.queuesAndStep = s.queuesAndStep) (run : (s.queue q).run = some l)
    (clear : (bitAt c 28 3 && (v.step.nf || v.step.void)) = false) :
    ∃ st prog, StartsIn s (v.startUpdate q l c) q l c (handlesAt c [8, 11, 14, 17]) (handlesAt c [8, 14, 17, 20, 23]) st ∧
      st.clusters = shareBits (v.updateDealt q c).2 ∧ st.done = false ∧ ∃ ys, st.work = .update prog ys ∧
        ys.map (fun y => y.cluster) = (v.updateDealt q c).2.map (fun y => y.cluster) := by
  have start := startsIn_updateDealt (c := c) same run
  obtain ⟨st, started, dealt⟩ := (start.congr (State.queuesAndStep_fetchParts ..)).slotShares
  obtain ⟨-, rest⟩ := Prod.mk.inj dealt
  obtain ⟨done, rest⟩ := Prod.mk.inj rest
  obtain ⟨clusters, work⟩ := Prod.mk.inj rest
  refine ⟨st, _, ?_, clusters, done, Work.update_of_unslotted work⟩
  unfold State.startUpdate
  simp only [clear]
  exact started

end UpdateStarts

/-- Settles O23: each of the three commands either waits, or its engine is entered in a state with the queues of the first one. -/
theorem engineCommandsStart : Obligations.EngineCommandsStart := by
  unfold Obligations.EngineCommandsStart
  intro q rd c l s hc
  subst hc
  have errors := s.queuesAndStep_readErrors rd
  refine ⟨fun p ins outs hp hins houts taken passes => ?_, fun taken passes => ?_, fun taken passes => ?_⟩
  · subst hins houts
    refine ⟨fun waits => ?_, fun goes free tiles deep reread => ?_⟩
    · exact ⟨_, congrArg Host.Outcome.next (State.matmul_waits hp taken passes waits), s.waitHot_keeps q _⟩
    · obtain ⟨w, work⟩ := matmulStarted_work (q := q) (l := l) (s.readErrors rd) deep p
      exact ⟨_, _, w, congrArg Host.Outcome.next (State.matmul_starts hp taken passes goes free),
        startsIn_startMatmul errors taken.run tiles deep reread, work⟩
  · refine ⟨fun waits => ?_, fun goes free => ?_⟩
    · exact ⟨_, congrArg Host.Outcome.next (State.vector_waits taken passes waits), s.waitHot_keeps q _⟩
    · obtain ⟨u, st, prog, xs, ends, start⟩ := startVector_starts (c := rd.line) errors taken.run
      exact ⟨u, st, prog, xs, congrArg Host.Outcome.next ((State.vector_starts taken passes goes free).trans ends), start⟩
  · refine ⟨fun waits => ?_, fun alone closed cool free => ?_⟩
    · exact ⟨_, congrArg Host.Outcome.next (State.update_waits taken passes waits), s.waitHot_keeps q _⟩
    · have goes : exec (.update q rd) s = .next ((s.readErrors rd).startUpdate q l rd.line) :=
        congrArg Host.Outcome.next (State.update_starts taken passes alone closed cool free)
      have step : (s.readErrors rd).step = s.step := State.step_congr errors
      cases latched : bitAt rd.line 28 3 && (s.step.nf || s.step.void) with
      | true =>
        obtain ⟨st, start, clusters, done⟩ := startUpdate_skipped errors taken.run (step ▸ latched)
        refine ⟨_, st, 0, _, goes, start, clusters, fun _ _ => done, ?_⟩
        simp only [Bool.and_eq_true] at latched
        rintro (off | clear)
        · simp [latched.1] at off
        · simp [latched.2] at clear
      | false =>
        obtain ⟨st, prog, start, clusters, waits⟩ := startUpdate_dealt errors taken.run (step ▸ latched)
        refine ⟨_, st, prog, _, goes, start, clusters, fun on set => ?_, fun _ => waits⟩
        simp [on, set] at latched

end Sys2Proof.Machine

/-!
Scope of the block: BRANCH_IF_SUMMARY (05: R138, R139). How the control core runs a branch on a summary slot, and what its tests
compare.
-/

namespace Sys2Proof.Machine

/-! ### Going on in a list (R174, R182) -/

section ListGoesOn
variable (s : State) (q : Nat) (l : ListRun) (c : Line) (dest : Int)

@[simp] theorem State.nameSlot_stack (st : Started) : ((s.nameSlot q st).queue q).stack = (s.queue q).stack := by
  unfold State.nameSlot
  split <;> simp

@[simp] theorem State.passed_stack : ((s.passed q l c).queue q).stack = (s.queue q).stack := by
  rw [State.passed, State.nameSlot_stack, State.advance_stack]

theorem State.passed_run {s : State} {q : Nat} {l : ListRun} (run : (s.queue q).run = some l) (c : Line) :
    ((s.passed q l c).queue q).run = some { l with pc := l.pc + 1 } := by
  rw [State.passed, State.nameSlot_run, State.advance_run run]

@[simp] theorem State.jump_stack : ((s.jump q dest).queue q).stack = popLoops dest (s.queue q).stack := by
  simp [State.jump]

@[simp] theorem State.jump_run :
    ((s.jump q dest).queue q).run = (s.queue q).run.map (fun l => { l with pc := dest.toNat }) := by
  simp [State.jump]

theorem onlyChanges_jump : OnlyChanges [.queues] s (s.jump q dest) := onlyChanges_onQueue s q _

end ListGoesOn

/-! ### The branch on its slot (R138, R139) -/

section Branch
variable {q : Nat} {c : Line} {l : ListRun} {s : State}

/-- A good header, a test of the table and a target not before command 0 (R139) pass every check of the branch. -/
theorem branch_passes (header : s.headerFail q c branchReserved = none) (test : fld c 9 1 ≤ 7)
    (target : 0 ≤ (l.pc : Int) + i32At c 12) :
    firstFail [s.headerFail q c branchReserved,
      failIf (decide (7 < fld c 9 1)) { st := St.fieldRange, byte := 9, value := fld c 9 1 },
      failIf (decide ((l.pc : Int) + i32At c 12 < 0)) { st := St.fieldRange, byte := 12, value := fld c 12 4 }] = none := by
  rw [header, decide_eq_false (not_lt.mpr test), decide_eq_false (not_lt.mpr target)]
  rfl

/-- A branch on an unset slot completes as it is taken (R139). -/
theorem State.branchNow_unset {v : SlotVal} (slot : look {} (s.queue q).slots (bitsAt c 8 0 4) = v) (unset : v.kind = 0)
    (room : HasRoom s q c St.summaryUnset) :
    s.branchNow q l c = (s.passed q l c).completed s q l c { st := St.summaryUnset, named := false } := by
  simp only [State.branchNow, slot, unset, if_true]
  rw [State.atOnce_room (f := { st := St.summaryUnset, named := false }) room, id]

theorem State.branchNow_jumps {v : SlotVal} (slot : look {} (s.queue q).slots (bitsAt c 8 0 4) = v) (set : v.kind ≠ 0)
    (holds : branchTest c v = true) (room : HasRoom s q c Fail.ok.st) :
    s.branchNow q l c = ((s.passed q l c).jump q ((l.pc : Int) + i32At c 12)).completed s q l c .ok := by
  simp only [State.branchNow, slot, set, holds, if_true, if_false]
  rw [State.atOnce_room room]

theorem State.branchNow_falls {v : SlotVal} (slot : look {} (s.queue q).slots (bitsAt c 8 0 4) = v) (set : v.kind ≠ 0)
    (fails : branchTest c v = false) (room : HasRoom s q c Fail.ok.st) :
    s.branchNow q l c = (s.passed q l c).completed s q l c .ok := by
  simp only [State.branchNow, slot, set, fails, Bool.false_eq_true, if_false]
  rw [State.atOnce_room room, id]

end Branch

/-- A branch that the core takes and that passes its checks waits for its producer, else it looks at its slot. -/
theorem Takes.exec_branchIfSummary {q : Fin 256} {c : Line} {l : ListRun} {s : State} (taken : Takes s q l c [] [])
    (header : s.headerFail q c branchReserved = none) (test : fld c 9 1 ≤ 7) (target : 0 ≤ (l.pc : Int) + i32At c 12) :
    exec (.branchIfSummary q c) s =
      .next (if (s.queue q).slotBusy l (bitsAt c 8 0 4) then s else s.branchNow q l c) :=
  congrArg Host.Outcome.next (taken.take_go (branch_passes header test target))

/-- Settles O11: once the producer is complete, the slot's kind and then the test choose among the three ways `branchNow` ends. -/
theorem branchFollowsItsSlot : Obligations.BranchFollowsItsSlot := by
  unfold Obligations.BranchFollowsItsSlot
  intro q c l s v taken header test target slot
  have runs := taken.exec_branchIfSummary header test target
  have passed := s.passed_run taken.run c
  have frame := onlyChanges_passed s q l c
  refine ⟨fun busy => ?_, fun idle unset room => ?_, fun idle set room => ?_⟩
  · rw [runs, if_pos busy]
  · refine ⟨{ st := St.summaryUnset, named := false }, rfl, ?_⟩
    rw [runs, idle, if_neg Bool.false_ne_true, State.branchNow_unset slot.symm unset room]
  · rw [runs, idle, if_neg Bool.false_ne_true]
    cases outcome : branchTest c v with
    | true =>
      refine ⟨_, congrArg Host.Outcome.next (State.branchNow_jumps slot.symm set outcome room),
        frame.trans (onlyChanges_jump _ q _), fun _ => ⟨?_, ?_⟩, fun fails => absurd fails (by decide)⟩
      · rw [State.jump_stack, State.passed_stack]
      · rw [State.jump_run, passed, Option.map_some]
    | false =>
      exact ⟨_, congrArg Host.Outcome.next (State.branchNow_falls slot.symm set outcome room), frame,
        fun holds => absurd holds (by decide), fun _ => ⟨s.passed_stack q l c, passed⟩⟩

/-! ### What the tests compare (R139) -/

/-- Tests 0 to 5 (EQ, NE, LT, LE, GT, GE) on a slot's value and the operand as f32 values. -/
def floatTest (t : Nat) (a b : Val) : Bool :=
  match t with
  | 0 => Val.eq a b
  | 1 => !Val.eq a b
  | 2 => Val.lt a b
  | 3 => Val.le a b
  | 4 => Val.lt b a
  | _ => Val.le b a

/-- Tests 0 to 5 on a slot's value and the operand as unsigned numbers. -/
def unsignedTest (t a b : Nat) : Bool :=
  match t with
  | 0 => decide (a = b)
  | 1 => decide (a ≠ b)
  | 2 => decide (a < b)
  | 3 => decide (a ≤ b)
  | 4 => decide (b < a)
  | _ => decide (b ≤ a)

section BranchTest
variable {c : Line} {v : SlotVal}

theorem branchTest_float (kind : v.kind.toNat ≤ 5 ∨ v.kind.toNat = 7) (ordered : fld c 9 1 ≤ 5) :
    branchTest c v = floatTest (fld c 9 1) (f32 (v.value.toNat % 2 ^ 32)) (f32 (fld c 16 4)) := by
  unfold branchTest
  simp only [if_pos kind]
  generalize fld c 9 1 = t at ordered ⊢
  interval_cases t <;> rfl

theorem branchTest_unsigned (kind : ¬ (v.kind.toNat ≤ 5 ∨ v.kind.toNat = 7)) (ordered : fld c 9 1 ≤ 5) :
    branchTest c v = unsignedTest (fld c 9 1) v.value.toNat (fld c 16 8) := by
  unfold branchTest
  simp only [if_neg kind]
  generalize fld c 9 1 = t at ordered ⊢
  interval_cases t <;> rfl

theorem branchTest_any (isAny : fld c 9 1 = 6) : branchTest c v = true ↔ v.value.toNat % 2 ^ 32 &&& fld c 16 4 ≠ 0 := by
  simp [branchTest, isAny]

theorem branchTest_none (isNone : fld c 9 1 = 7) : branchTest c v = true ↔ v.value.toNat % 2 ^ 32 &&& fld c 16 4 = 0 := by
  simp [branchTest, isNone]

end BranchTest

/-! ### NaN in an f32 comparison -/

section NanCompares
variable (a : Val)

@[simp] theorem Val.nan_lt : Val.lt .nan a = false := rfl
@[simp] theorem Val.lt_nan : Val.lt a .nan = false := by cases a <;> rfl
@[simp] theorem Val.nan_le : Val.le .nan a = false := rfl
@[simp] theorem Val.le_nan : Val.le a .nan = false := by cases a <;> rfl
@[simp] theorem Val.nan_eq : Val.eq .nan a = false := rfl

/-- Of the six tests on a NaN, NE alone holds. -/
theorem floatTest_nan {t : Nat} (ordered : t ≤ 5) : floatTest t .nan a = true ↔ t = 1 := by
  interval_cases t <;> simp [floatTest]

end NanCompares

/-! ### Shared bits of a value and a mask -/

theorem fld_lt {w : Nat} (c : BitVec w) (off len : Nat) : fld c off len < 2 ^ (8 * len) :=
  Nat.mod_lt _ (Nat.two_pow_pos _)

/-- The low `n` bits of a value and a mask have no set bit in common. -/
theorem mod_two_pow_and_eq_zero_iff (a m n : Nat) :
    a % 2 ^ n &&& m = 0 ↔ ∀ b, b < n → a.testBit b = true → m.testBit b = false := by
  have bits : ∀ b, (a % 2 ^ n &&& m).testBit b = (decide (b < n) && a.testBit b && m.testBit b) := fun b => by
    rw [Nat.testBit_and, Nat.testBit_mod_two_pow]
  constructor
  · intro zero b low set
    simpa [zero, low, set] using (bits b).symm
  · intro apart
    refine Nat.zero_of_testBit_eq_false fun b => ?_
    rw [bits]
    by_cases low : b < n
    · cases set : a.testBit b with
      | false => simp
      | true => simp [apart b low set]
    · simp [low]

/-- A mask of `n` bits shares a set bit with a value where it shares one with the value's low `n` bits. -/
theorem mod_two_pow_and_ne_zero_iff (a : Nat) {m n : Nat} (mask : m < 2 ^ n) :
    a % 2 ^ n &&& m ≠ 0 ↔ ∃ b, a.testBit b = true ∧ m.testBit b = true := by
  rw [Ne, mod_two_pow_and_eq_zero_iff]
  push Not
  constructor
  · rintro ⟨b, -, set, shared⟩
    exact ⟨b, set, Bool.eq_true_of_not_eq_false shared⟩
  · rintro ⟨b, set, shared⟩
    have low : b < n := by
      by_contra high
      have clear := Nat.testBit_lt_two_pow (mask.trans_le (Nat.pow_le_pow_right (by decide) (Nat.le_of_not_lt high)))
      exact absurd (shared.symm.trans clear) (by decide)
    exact ⟨b, low, set, by simp [shared]⟩

/-- Settles O12: the slot's kind chooses between the f32 and the unsigned comparison, and the mask tests look at shared bits. -/
theorem branchTestsFollowTheTable : Obligations.BranchTestsFollowTheTable := by
  unfold Obligations.BranchTestsFollowTheTable
  intro c v
  refine ⟨fun kind nan ordered => ?_, fun above notSeven => ?_, fun isAny => ?_, fun isNone => ?_⟩
  · rw [branchTest_float kind ordered, nan]
    exact floatTest_nan _ ordered
  · have kind : ¬ (v.kind.toNat ≤ 5 ∨ v.kind.toNat = 7) := by omega
    refine ⟨?_, ?_, ?_, ?_, ?_, ?_⟩ <;>
      · intro test
        rw [branchTest_unsigned kind (by omega), test]
        exact decide_eq_true_iff
  · rw [branchTest_any isAny]
    exact mod_two_pow_and_ne_zero_iff _ (fld_lt c 16 4)
  · rw [branchTest_none isNone]
    exact mod_two_pow_and_eq_zero_iff ..

end Sys2Proof.Machine

/-!
Scope of the block: stores of elements (02, 03, 08). Writes of codes, scales, slots and shadows, the frames bound for them and the lines
they pass leave the queues and the step alone.
-/

namespace Sys2Proof.Machine

/-! ### What writes of elements leave alone: memory, channels and the frames of a tensor (R191, R205, R211, R223) -/

section ElementWrites
variable (s : State)

@[simp] theorem State.queuesAndStep_drawn : s.drawn.queuesAndStep = s.queuesAndStep := rfl
@[simp] theorem State.queuesAndStep_clearRange (a n : Nat) : (s.clearRange a n).queuesAndStep = s.queuesAndStep := rfl
@[simp] theorem State.queuesAndStep_setFrame (f : Nat) (u : FrameUse) : (s.setFrame f u).queuesAndStep = s.queuesAndStep := rfl
@[simp] theorem State.queuesAndStep_wakeChannel (ch : Nat) : (s.wakeChannel ch).queuesAndStep = s.queuesAndStep := rfl
@[simp] theorem State.queuesAndStep_dropEntry (line : Nat) : (s.dropEntry line).queuesAndStep = s.queuesAndStep := rfl
@[simp] theorem State.queuesAndStep_touch (h b : Nat) : (s.touch h b).queuesAndStep = s.queuesAndStep := rfl
@[simp] theorem State.queuesAndStep_recordFF (h b unit : Nat) : (s.recordFF h b unit).queuesAndStep = s.queuesAndStep :=
  s.queuesAndStep_recordOf ..

@[simp] theorem State.queuesAndStep_markRange (a n : Nat) (m : LineMark) : (s.markRange a n m).queuesAndStep = s.queuesAndStep :=
  foldl_reads State.queuesAndStep (fun v _ => v.queuesAndStep_setMark ..) _ s

@[simp] theorem State.queuesAndStep_poisonLine (a : Nat) : (s.poisonLine a).queuesAndStep = s.queuesAndStep :=
  (State.queuesAndStep_bump ..).trans (s.queuesAndStep_markRange ..)

@[simp] theorem State.queuesAndStep_freshen (a n : Nat) : (s.freshen a n).queuesAndStep = s.queuesAndStep := by
  unfold State.freshen
  split
  · split
    · exact s.queuesAndStep_markRange ..
    · rfl
  · exact s.queuesAndStep_markRange ..
  · rfl

@[simp] theorem State.queuesAndStep_freshenTensor (d : Line) : (s.freshenTensor d).queuesAndStep = s.queuesAndStep := by
  refine foldl_reads State.queuesAndStep (fun v i => ?_) _ s
  split
  · exact v.queuesAndStep_freshen ..
  · rfl

@[simp] theorem State.queuesAndStep_coverTensor (h : Nat) : (s.coverTensor h).queuesAndStep = s.queuesAndStep := by
  unfold State.coverTensor
  split
  · rfl
  · dsimp only
    split <;> simp

@[simp] theorem State.queuesAndStep_setSideEntry (hdr b k v : Nat) : (s.setSideEntry hdr b k v).queuesAndStep = s.queuesAndStep :=
  s.queuesAndStep_wrNat ..

@[simp] theorem State.queuesAndStep_setChanRec (hdr ch v : Nat) : (s.setChanRec hdr ch v).queuesAndStep = s.queuesAndStep :=
  s.queuesAndStep_wrNat ..

@[simp] theorem State.queuesAndStep_clearSide (d : Line) (hdr b : Nat) : (s.clearSide d hdr b).queuesAndStep = s.queuesAndStep := by
  unfold State.clearSide
  split
  · split <;> simp
  · rfl

@[simp] theorem State.queuesAndStep_slotMax (d : Line) (hdr b : Nat) (vs : List Val) :
    (s.slotMax d hdr b vs).queuesAndStep = s.queuesAndStep := by
  unfold State.slotMax
  split <;> simp

@[simp] theorem State.queuesAndStep_recordPlaneFFs (h plane unit : Nat) (idxs : List Nat) :
    (s.recordPlaneFFs h plane unit idxs).queuesAndStep = s.queuesAndStep := by
  unfold State.recordPlaneFFs
  split
  · rfl
  · dsimp only
    split
    · refine foldl_reads State.queuesAndStep (fun v b => ?_) _ s
      split <;> simp
    · rfl

@[simp] theorem State.queuesAndStep_takeElems (h unit : Nat) (idxs : List Nat) :
    (s.takeElems h unit idxs).queuesAndStep = s.queuesAndStep := by
  unfold State.takeElems
  split
  · rfl
  · have woken (chans : List Nat) : (chans.foldl State.wakeChannel s).queuesAndStep = s.queuesAndStep :=
      foldl_reads State.queuesAndStep (fun v _ => v.queuesAndStep_wakeChannel _) chans s
    unfold State.recordFFs
    dsimp only
    split <;> simp [woken]

/-! Frames bound for a write (R191) -/

theorem State.queuesAndStep_takeFrame {mirrored : Bool} {p f : Nat} {u : State} (h : s.takeFrame mirrored p = some (u, f)) :
    u.queuesAndStep = s.queuesAndStep := by
  unfold State.takeFrame at h
  split at h
  · cases h; rfl
  · split at h
    · cases h; rfl
    · cases h

@[simp] theorem State.queuesAndStep_bindUnit (h c i : Nat) : (s.bindUnit h c i).queuesAndStep = s.queuesAndStep := by
  unfold State.bindUnit
  split
  · rfl
  · dsimp only
    split
    · rfl
    split
    · rw [State.queuesAndStep_onTensor, State.queuesAndStep_wrNat]
      rfl
    split
    · rfl
    next taken =>
      rw [State.queuesAndStep_onTensor, State.queuesAndStep_wrNat, ← s.queuesAndStep_takeFrame taken]
      split <;> rfl

@[simp] theorem State.queuesAndStep_bindElems (h c : Nat) (idxs : List Nat) : (s.bindElems h c idxs).queuesAndStep = s.queuesAndStep := by
  unfold State.bindElems
  split
  · rfl
  · exact foldl_reads State.queuesAndStep (fun v i => v.queuesAndStep_bindUnit h c i) _ s

@[simp] theorem State.queuesAndStep_bindAll (h c : Nat) : (s.bindAll h c).queuesAndStep = s.queuesAndStep := by
  unfold State.bindAll State.bindBytes
  split
  · rfl
  split
  · rfl
  · dsimp only
    split
    · rfl
    · exact foldl_reads State.queuesAndStep (fun v i => v.queuesAndStep_bindUnit h c _) _ s

/-! Lines of LPDDR (R210, R211, R221, R223) -/

@[simp] theorem State.queuesAndStep_noteCE (near n : Nat) : (s.noteCE near n).queuesAndStep = s.queuesAndStep := by
  simp [State.noteCE]

@[simp] theorem State.queuesAndStep_poisonRead (a : Nat) : (s.poisonRead a).queuesAndStep = s.queuesAndStep := by
  unfold State.poisonRead State.readBad
  split
  · split
    · rfl
    · rw [State.queuesAndStep_poisonLine]
      split <;> simp
  · exact s.queuesAndStep_poisonLine _

@[simp] theorem State.queuesAndStep_poisonBad (ad n : Nat) : (s.poisonBad ad n).queuesAndStep = s.queuesAndStep := by
  refine foldl_reads State.queuesAndStep (fun v k => ?_) _ s
  dsimp only
  split <;> simp

@[simp] theorem State.queuesAndStep_retireWc (e : WcEntry) (r : LineRead) : (s.retireWc e r).queuesAndStep = s.queuesAndStep := by
  unfold State.retireWc
  dsimp only
  split <;> simp

@[simp] theorem State.queuesAndStep_notePartial (line : Nat) (mask : BitVec 64) (source : Nat) :
    (s.notePartial line mask source).queuesAndStep = s.queuesAndStep := by
  unfold State.notePartial
  dsimp only
  split
  · rw [State.queuesAndStep_setMark]
    split <;> rfl
  split
  · rfl
  · rw [State.queuesAndStep_onChannel]
    split
    · exact State.queuesAndStep_retireWc ..
    · rfl

@[simp] theorem State.queuesAndStep_retireLine (line : Nat) (r : LineRead) : (s.retireLine line r).queuesAndStep = s.queuesAndStep := by
  unfold State.retireLine
  dsimp only
  split
  · exact s.queuesAndStep_retireWc ..
  · split <;> simp

@[simp] theorem State.queuesAndStep_noteBytes (addrs : List Nat) : (s.noteBytes addrs).queuesAndStep = s.queuesAndStep :=
  foldl_reads State.queuesAndStep (fun v _ => v.queuesAndStep_notePartial ..) _ s

@[simp] theorem State.queuesAndStep_noteElems (d : Line) (plane : Nat) (idxs : List Nat) :
    (s.noteElems d plane idxs).queuesAndStep = s.queuesAndStep := s.queuesAndStep_noteBytes _

@[simp] theorem State.queuesAndStep_useEntries (d : Line) (idxs : List Nat) : (s.useEntries d idxs).queuesAndStep = s.queuesAndStep := by
  refine foldl_reads State.queuesAndStep (fun v x => ?_) _ s
  rw [State.queuesAndStep_onChannel, State.queuesAndStep_retireLine]

end ElementWrites

/-! ### What writes of elements leave alone: codes, scales and slots (R62, R63, R73, R77, R78) -/

section Stores
variable (a : Acc)

@[simp] theorem State.queuesAndStep_wrPlain (h : Nat) (d : Line) (w : Writer) (idx : Nat) (v : Val) :
    (State.wrPlain a h d w idx v).s.queuesAndStep = a.s.queuesAndStep := a.s.queuesAndStep_wrCode ..

@[simp] theorem State.queuesAndStep_wrSlotElems (h : Nat) (d : Line) (hdr : Nat) (w : Writer) (ch : Nat) (evs : List (Nat × Val)) :
    (State.wrSlotElems a h d hdr w ch evs).s.queuesAndStep = a.s.queuesAndStep :=
  foldl_reads (fun a : Acc => a.s.queuesAndStep) (fun a _ => a.s.queuesAndStep_wrNat ..) evs a

@[simp] theorem State.queuesAndStep_wrJit (h : Nat) (d : Line) (hdr plane : Nat) (w : Writer) (b : Nat) (vs : List Val) :
    (State.wrJit a h d hdr plane w b vs).s.queuesAndStep = a.s.queuesAndStep := by
  have counted (v : State) (key n : Nat) : (v.bump key n).queuesAndStep = v.queuesAndStep := v.queuesAndStep_bump key n
  unfold State.wrJit
  dsimp only
  split
  · simp
  split
  · split <;> simp
  split
  · split
    · simp only [State.queuesAndStep_setState, State.queuesAndStep_setScale, State.queuesAndStep_wrZeros, counted,
        State.queuesAndStep_setSideEntry, State.queuesAndStep_clearSide]
    · split <;> simp only [State.queuesAndStep_chanMax, State.queuesAndStep_setState, State.queuesAndStep_setScale,
        State.queuesAndStep_wrCodes, counted, State.queuesAndStep_setSideEntry, State.queuesAndStep_clearSide]
  · split <;> simp only [State.queuesAndStep_chanMax, State.queuesAndStep_setState, State.queuesAndStep_setScale,
      State.queuesAndStep_wrCodes, State.queuesAndStep_wrNat, counted, State.queuesAndStep_clearSide]

@[simp] theorem State.queuesAndStep_moveToSlot (h : Nat) (t : Tensor) (plane : Nat) (w : Writer) (ch : Nat) (covered : List Nat) :
    (State.moveToSlot a h t plane w ch covered).s.queuesAndStep = a.s.queuesAndStep := by
  unfold State.moveToSlot
  dsimp only
  rw [State.queuesAndStep_setChanRec]
  refine (foldl_reads State.queuesAndStep (fun v b => ?_) _ _).trans ?_
  · split <;> simp
  · simp

theorem State.queuesAndStep_moveFromSlot (t : Tensor) (plane ch : Nat) (covered : List Nat) {wrBlock : Acc → Nat → List Val → Acc}
    (keeps : ∀ a b vs, (wrBlock a b vs).s.queuesAndStep = a.s.queuesAndStep) :
    (State.moveFromSlot a t plane ch covered wrBlock).s.queuesAndStep = a.s.queuesAndStep :=
  (foldl_reads (fun a : Acc => a.s.queuesAndStep) (fun a _ => keeps a _ _) _ _).trans (a.s.queuesAndStep_setChanRec ..)

@[simp] theorem State.queuesAndStep_moveJit (h : Nat) (t : Tensor) (plane : Nat) (w : Writer) (idxs : List Nat) :
    (State.moveJit a h t plane w idxs).s.queuesAndStep = a.s.queuesAndStep := by
  refine foldl_reads (fun a : Acc => a.s.queuesAndStep) (fun a ch => ?_) _ a
  split
  · exact State.queuesAndStep_moveToSlot ..
  · exact State.queuesAndStep_moveFromSlot _ _ _ _ _ (fun a _ _ => State.queuesAndStep_wrJit a ..)

@[simp] theorem State.queuesAndStep_storeJit (h : Nat) (t : Tensor) (plane : Nat) (w : Writer) (evs : List (Nat × Val)) :
    (State.storeJit a h t plane w evs).s.queuesAndStep = a.s.queuesAndStep := by
  refine (foldl_reads (fun a : Acc => a.s.queuesAndStep) (fun a b => ?_) _ _).trans (State.queuesAndStep_moveJit ..)
  dsimp only
  split <;> simp

@[simp] theorem State.queuesAndStep_storeFeedback (h : Nat) (t : Tensor) (w : Writer) (evs : List (Nat × Val)) :
    (State.storeFeedback a h t w evs).s.queuesAndStep = a.s.queuesAndStep := by
  unfold State.storeFeedback
  dsimp only
  split <;> simp

/-! Book mode (R63, R69, R78) -/

@[simp] theorem State.queuesAndStep_addShadow (h : Nat) (t : Tensor) (round b : Nat) (clear fill : Bool) (evs : List (Nat × Val)) :
    (State.addShadow a h t round b clear fill evs).s.queuesAndStep = a.s.queuesAndStep := by
  simp [State.addShadow]

@[simp] theorem State.queuesAndStep_addScaled (h : Nat) (t : Tensor) (own : Option Writer) (b : Nat) (clear : Bool)
    (evs : List (Nat × Val)) : (State.addScaled a h t own b clear evs).s.queuesAndStep = a.s.queuesAndStep := by
  unfold State.addScaled
  dsimp only
  rw [State.queuesAndStep_touch]
  refine (foldl_reads (fun a : Acc => a.s.queuesAndStep) (fun a p => ?_) _ _).trans ?_
  · simp
  · split <;> split <;> simp

@[simp] theorem State.queuesAndStep_addSlot (h : Nat) (t : Tensor) (own : Option Writer) (clear : Bool) (b : Nat)
    (evs : List (Nat × Val)) : (State.addSlot a h t own clear b evs).s.queuesAndStep = a.s.queuesAndStep := by
  unfold State.addSlot
  dsimp only
  rw [State.queuesAndStep_touch, State.queuesAndStep_slotMax]
  refine foldl_reads (fun a : Acc => a.s.queuesAndStep) (fun a p => ?_) evs a
  simp

@[simp] theorem State.queuesAndStep_addBlock (h : Nat) (own : Option Writer) (round : Nat) (clear fill : Bool) (b : Nat)
    (evs : List (Nat × Val)) : (State.addBlock a h own round clear fill b evs).s.queuesAndStep = a.s.queuesAndStep := by
  unfold State.addBlock
  split
  · rfl
  dsimp only
  split
  · exact foldl_reads State.queuesAndStep (fun v ad => v.queuesAndStep_poisonBad ad 1) _ a.s
  split
  · exact State.queuesAndStep_addSlot ..
  split
  · exact State.queuesAndStep_addShadow ..
  · exact State.queuesAndStep_addScaled ..

@[simp] theorem State.queuesAndStep_storeBook (h : Nat) (t : Tensor) (own : Option Writer) (round : Nat) (clear fill : Bool)
    (evs : List (Nat × Val)) : (State.storeBook a h t own round clear fill evs).s.queuesAndStep = a.s.queuesAndStep := by
  refine (foldl_reads (fun a : Acc => a.s.queuesAndStep) (fun a b => State.queuesAndStep_addBlock a ..) _ _).trans ?_
  refine foldl_reads (fun a : Acc => a.s.queuesAndStep) (fun a ch => ?_) _ a
  split
  · exact State.queuesAndStep_moveToSlot ..
  · exact State.queuesAndStep_moveFromSlot _ _ _ _ _ (fun a _ _ => State.queuesAndStep_addBlock a ..)

end Stores

end Sys2Proof.Machine

/-!
Scope of the block: the results of an engine and their tee (06: R158; 10, 11). Requests to other nodes, results written to a tensor and
tee stores leave the queues alone, or at least the numbers of the commands that have started.
-/

namespace Sys2Proof.Machine

/-! ### What requests to other nodes leave alone (R264, R276, R301) -/

section Requests
variable (s : State)

@[simp] theorem State.queuesAndStep_sendTraek (op tag addr lines status : Nat) (poison : Bool) (data : List Byte) :
    (s.sendTraek op tag addr lines status poison data).queuesAndStep = s.queuesAndStep := by
  simp [State.sendTraek, State.traekGoes]

@[simp] theorem State.queuesAndStep_pushStream (dst : Nat) (x : Ask) : (s.pushStream dst x).queuesAndStep = s.queuesAndStep := by
  unfold State.pushStream
  dsimp only
  split
  · rfl
  split
  · exact State.queuesAndStep_egressPort ..
  · rfl

@[simp] theorem State.queuesAndStep_shipGateway (p dst : Nat) : (s.shipGateway p dst).queuesAndStep = s.queuesAndStep := by
  refine (foldl_reads State.queuesAndStep (fun v g => ?_) _ _).trans (s.queuesAndStep_onPort ..)
  exact foldl_reads State.queuesAndStep (fun v x => v.queuesAndStep_pushStream dst x) _ v

@[simp] theorem State.queuesAndStep_placeGateway (p dst source : Nat) (x : GwPart) :
    (s.placeGateway p dst source x).queuesAndStep = s.queuesAndStep := by
  unfold State.placeGateway
  dsimp only
  split
  · rfl
  split
  · simp
  · split <;> simp

@[simp] theorem State.queuesAndStep_askBeyond (p dst : Nat) (x : Ask) : (s.askBeyond p dst x).queuesAndStep = s.queuesAndStep := by
  unfold State.askBeyond
  dsimp only
  split
  · split
    · exact s.queuesAndStep_shipGateway p dst
    · simp
  · simp

@[simp] theorem State.queuesAndStep_gatherGateway (p dst source : Nat) (x : Ask) :
    (s.gatherGateway p dst source x).queuesAndStep = s.queuesAndStep := by
  simp [State.gatherGateway, apply_ite State.queuesAndStep]

@[simp] theorem State.queuesAndStep_sendOn (dst source : Nat) (x : Ask) : (s.sendOn dst source x).queuesAndStep = s.queuesAndStep := by
  unfold State.sendOn
  split
  · split <;> simp
  · simp

@[simp] theorem State.queuesAndStep_askHost (dst : Nat) (x : Ask) : (s.askHost dst x).1.queuesAndStep = s.queuesAndStep := by
  simp only [State.askHost, apply_ite Prod.fst, apply_ite State.queuesAndStep, State.queuesAndStep_sendTraek]
  exact ite_self _

theorem State.queues_congr {s u : State} (h : u.queuesAndStep = s.queuesAndStep) : u.queues = s.queues :=
  congrArg Prod.fst h

/-- A request to another node leaves the queues alone; one under a hold is kept with the step (R325). -/
theorem State.queues_ask (dst source : Nat) (x : Ask) : (s.ask dst source x).1.queues = s.queues := by
  unfold State.ask
  split
  · exact State.queues_congr (s.queuesAndStep_askHost ..)
  split
  · rfl
  · dsimp only
    split
    · rfl
    · exact State.queues_congr (s.queuesAndStep_sendOn ..)

end Requests

/-! ### The results of an UPDATE leave the queues alone (R148 to R150) -/

section Results
variable (s : State)

theorem State.queues_latchVerdict (h fl : Nat) : (s.latchVerdict h fl).queues = s.queues := by
  unfold State.latchVerdict
  split <;> rfl

@[simp] theorem State.queuesAndStep_countLatent (d : Line) (idxs : List Nat) : (s.countLatent d idxs).queuesAndStep = s.queuesAndStep :=
  (State.queuesAndStep_bump ..).trans (s.queuesAndStep_bump ..)

/-- R62, R63, R78: results are written into a tensor plainly, in book mode, with feedback or block by block; then their bytes pass the
adders or the write-combining buffers. -/
theorem State.queues_writeResults (h : Nat) (w : Writer) (add clear split : Bool) (evs fills : List (Nat × Val)) :
    (s.writeResults h w add clear split evs fills).s.queues = s.queues := by
  unfold State.writeResults
  extract_lets s1
  have bound : s1.queuesAndStep = s.queuesAndStep := s.queuesAndStep_bindElems ..
  split
  · exact State.queues_congr bound
  next t _ =>
    extract_lets d booked a whole s2
    have stored : a.s.queuesAndStep = s1.queuesAndStep := by
      unfold a
      split
      · exact foldl_reads (fun a : Acc => a.s.queuesAndStep) (fun a p => State.queuesAndStep_wrPlain a ..) _ _
      split
      · split <;> simp only [booked, State.queuesAndStep_storeBook]
      · split <;> simp only [State.queuesAndStep_storeFeedback, State.queuesAndStep_storeJit]
    have noted : s2.queues = s.queues := by
      refine (State.queues_latchVerdict ..).trans (State.queues_congr ?_)
      split
      · exact (State.queuesAndStep_useEntries ..).trans (stored.trans bound)
      · split <;> simp only [State.queuesAndStep_noteBytes, State.queuesAndStep_noteElems, stored, bound]
    dsimp only
    split
    · exact (State.queues_congr (s2.queuesAndStep_countLatent ..)).trans noted
    · exact noted

@[simp] theorem State.queuesAndStep_teeRange (x n : Nat) : (s.teeRange x n).queuesAndStep = s.queuesAndStep := rfl

@[simp] theorem State.queuesAndStep_teeTensor (h : Nat) : (s.teeTensor h).queuesAndStep = s.queuesAndStep := by
  unfold State.teeTensor
  split
  · rfl
  next t _ =>
    extract_lets d
    split
    · rfl
    next arrays which s1 _ =>
      have whole : s1.queuesAndStep = s.queuesAndStep := by
        unfold s1
        split
        · refine (foldl_reads State.queuesAndStep (fun v i => ?_) _ _).trans ?_
          · split <;> rfl
          · split <;> rfl
        · rfl
      split
      · refine (foldl_reads State.queuesAndStep (fun v k => ?_) _ _).trans whole
        split <;> rfl
      · exact whole

/-! The tee (R158) -/

/-- An entry of a table whose values are all changed by a function that keeps the default. -/
theorem look_map {α : Type} {d : α} {f : α → α} (keeps : f d = d) (m : Tbl α) (k : Nat) :
    look d (m.map (fun e => (e.1, f e.2))) k = f (look d m k) := by
  induction m with
  | nil => exact keeps.symm
  | cons e m ih =>
    simp only [List.map_cons, look]
    split
    · rfl
    · exact ih

/-- A queue whose teeing commands are done (R158). -/
def Queue.teed (r : Queue) : Queue :=
  { r with started := r.started.map (fun st => if st.teeing then { st with teeing := false, done := true } else st) }

theorem Queue.teed_numbers (r : Queue) : r.teed.started.map Started.id = r.started.map Started.id := by
  unfold Queue.teed
  rw [List.map_map]
  refine List.map_congr_left fun st _ => ?_
  dsimp only [Function.comp]
  split <;> rfl

/-- The numbers of a queue's started commands, in the order of their start. -/
def State.numbers (q : Nat) (s : State) : List Nat := (s.queue q).started.map (·.id)

theorem State.numbers_congr {s u : State} (h : u.queues = s.queues) (q : Nat) : u.numbers q = s.numbers q :=
  congrArg (fun x : Tbl Queue => (look ({} : Queue) x q).started.map Started.id) h

theorem State.queues_teeSend (x : TeeStore) : (s.teeSend x).queues = s.queues := s.queues_ask ..

theorem State.queues_drainTees (n : Nat) : ∀ s : State, (State.drainTees n s).queues = s.queues := by
  induction n with
  | zero => intro s; rfl
  | succ n ih =>
    intro s
    unfold State.drainTees
    split
    · rfl
    · split
      · exact (ih _).trans (s.queues_teeSend _)
      · rfl

theorem State.numbers_teeSettle (since : Option Nat) (q : Nat) : (s.teeSettle since).numbers q = s.numbers q := by
  unfold State.teeSettle
  split
  · rfl
  · have queues (v : State) : ({ v with
          twin := { v.twin with teeSince := none }, queues := v.queues.map (fun e => (e.1, e.2.teed)) } : State).numbers q =
        v.numbers q := by
      refine Eq.trans ?_ (v.queue q).teed_numbers
      exact congrArg (fun r : Queue => r.started.map Started.id) (look_map rfl v.queues q)
    refine (queues _).trans (State.numbers_congr ?_ q)
    split <;> rfl

theorem State.numbers_teeRun (q : Nat) : s.teeRun.numbers q = s.numbers q := by
  unfold State.teeRun
  split
  · rfl
  · refine (State.numbers_teeSettle ..).trans (State.numbers_congr ?_ q)
    exact State.queues_drainTees _ s.teeCredit

end Results

end Sys2Proof.Machine

/-!
Scope of the block: the action of an UPDATE on its verdict (06: R148 to R151, R153, R156, R158). How an engine's command ends without a
result, what the elements of an UPDATE leave of it, and which row of R156's table decides.
-/

namespace Sys2Proof.Machine

/-! ### A started command found by its number -/

section StartedOf
variable {s u : State} {q id : Nat} {st : Started}

theorem State.id_of_startedOf (found : s.startedOf q id = some st) : st.id = id := by
  unfold State.startedOf at found
  exact beq_iff_eq.mp (List.find?_some found :)

theorem State.startedOf_congr (h : u.queues = s.queues) (q id : Nat) : u.startedOf q id = s.startedOf q id := by
  unfold State.startedOf State.queue
  rw [h]

theorem State.startedOf_isSome_iff : (s.startedOf q id).isSome = true ↔ id ∈ s.numbers q := by
  simp only [State.startedOf, State.numbers, List.find?_isSome, List.mem_map, beq_iff_eq]

/-- A change in place is found where the command was. -/
theorem State.startedOf_onStarted {f : Started → Started} (keeps : ∀ x, (f x).id = x.id) (found : s.startedOf q id = some st) :
    (s.onStarted q id f).startedOf q id = some (f st) := by
  have same : (fun x : Started => x.id == id) ∘ (fun x => if x.id == id then f x else x) = fun x => x.id == id := by
    funext x
    dsimp only [Function.comp]
    split
    · rw [keeps]
    · rfl
  have mine : (st.id == id) = true := beq_iff_eq.mpr (State.id_of_startedOf found)
  unfold State.startedOf at found ⊢
  rw [State.onStarted_queue, List.find?_map, same, found, Option.map_some, if_pos mine]

end StartedOf

/-! ### An engine's command that ends without a result (R156, R162, R227) -/

section Ends

theorem onlyChanges_onCluster (s : State) (c : Nat) (f : Cluster → Cluster) : OnlyChanges [.clusters] s (s.onCluster c f) := by
  intro x hx
  cases x
  case clusters => exact absurd (List.mem_singleton.2 rfl) hx
  all_goals rfl

theorem onlyChanges_setRegion (s : State) (r : Nat) (x : Region) : OnlyChanges [.regions] s (s.setRegion r x) := by
  intro f hf
  cases f
  case regions => exact absurd (List.mem_singleton.2 rfl) hf
  all_goals rfl

/-- The fields that the end of an engine's command may change. -/
def endFields : List Field := [.queues, .dict, .clusters, .regions]

theorem endFrame_bump (s : State) (key n : Nat) : OnlyChanges endFields s (s.bump key n) :=
  (onlyChanges_setDv s key _).mono (by simp [endFields])

theorem endFrame_onCluster (s : State) (c : Nat) (f : Cluster → Cluster) : OnlyChanges endFields s (s.onCluster c f) :=
  (onlyChanges_onCluster s c f).mono (by simp [endFields])

theorem endFrame_setRegion (s : State) (r : Nat) (x : Region) : OnlyChanges endFields s (s.setRegion r x) :=
  (onlyChanges_setRegion s r x).mono (by simp [endFields])

theorem endFrame_onRegion (s : State) (r : Nat) (f : Region → Region) : OnlyChanges endFields s (s.onRegion r f) :=
  endFrame_setRegion s r _

theorem endFrame_onStarted (s : State) (q id : Nat) (f : Started → Started) : OnlyChanges endFields s (s.onStarted q id f) :=
  (onlyChanges_onQueue s q _).mono (by simp [endFields])

theorem endFrame_fallBy (s : State) (r step : Nat) : OnlyChanges endFields s (s.fallBy r step) := by
  unfold State.fallBy State.settleFiller
  split
  · exact OnlyChanges.refl _ s
  · refine OnlyChanges.trans ?_ (endFrame_onRegion _ r _)
    dsimp only
    split
    · exact OnlyChanges.refl _ s
    · exact (endFrame_bump s _ _).trans (endFrame_setRegion _ r _)

theorem endFrame_relieveShares (s : State) (w : Work) : OnlyChanges endFields s (s.relieveShares w) := by
  refine foldl_keeps (OnlyChanges endFields) (OnlyChanges.refl _) (fun _ _ _ => OnlyChanges.trans) _ _ (fun v x _ => ?_) s
  have relieved := (endFrame_onCluster v x.cluster (fun k => { k with occupancy := k.occupancy - x.cost })).trans
    (endFrame_onRegion _ x.cluster (fun r => { r with idleSince := v.now }))
  dsimp only
  split
  · exact relieved.trans (endFrame_fallBy _ _ _)
  · exact relieved

theorem endFrame_dropFetches (s : State) (q id : Nat) : OnlyChanges endFields s (s.dropFetches q id) := by
  intro f hf
  cases f
  case clusters => exact absurd (by simp [endFields]) hf
  all_goals rfl

theorem endFrame_endHolds (s : State) (q : Nat) (st : Started) : OnlyChanges endFields s (s.endHolds q st) := by
  have surged (v : State) (o : Option Nat) (key : Nat) :
      OnlyChanges endFields v (match o with | some t => v.surge key t | none => v) := by
    cases o with
    | none => exact OnlyChanges.refl _ v
    | some t => exact endFrame_bump v _ _
  have ingress (v : State) (o : Option (Nat × Nat)) :
      OnlyChanges endFields v (match o with | some w => v.surge w.1 w.2 | none => v) := by
    cases o with
    | none => exact OnlyChanges.refl _ v
    | some w => exact endFrame_bump v _ _
  unfold State.endHolds
  extract_lets s1 s2 s3 s4
  split
  · exact OnlyChanges.refl _ s
  · exact ((((surged s _ _).trans (surged s1 _ _)).trans (surged s2 _ _)).trans (ingress s3 _)).trans (endFrame_onStarted s4 q _ _)

theorem endFrame_engineEnds (s : State) (q : Nat) (st : Started) (status : Nat) :
    OnlyChanges endFields s (s.engineEnds q st status) :=
  (((endFrame_endHolds s q st).trans (endFrame_relieveShares _ _)).trans (endFrame_dropFetches _ _ _)).trans
    (endFrame_onStarted _ q _ _)

theorem endFrame_countVerdict (s : State) (st : Started) : OnlyChanges endFields s (s.countVerdict st) := by
  unfold State.countVerdict
  split
  · exact OnlyChanges.refl _ s
  · exact endFrame_bump s _ _

theorem State.queues_countVerdict (s : State) (st : Started) : (s.countVerdict st).queues = s.queues := by
  unfold State.countVerdict
  split <;> rfl

variable {s : State} {q id : Nat} {st : Started}

theorem State.startedOf_endHolds (found : s.startedOf q id = some st) :
    ∃ st', (s.endHolds q st).startedOf q id = some st' ∧ st'.status = st.status := by
  unfold State.endHolds
  extract_lets s1 s2 s3 s4
  have counted : s4.queuesAndStep = s.queuesAndStep := by
    unfold s4 s3 s2 s1
    repeat' split
    all_goals simp
  split
  · exact ⟨st, found, rfl⟩
  · have kept := (State.startedOf_congr (State.queues_congr counted) q id).trans found
    rw [State.id_of_startedOf found]
    exact ⟨_, State.startedOf_onStarted (fun _ => rfl) kept, rfl⟩

theorem State.startedOf_engineEnds (found : s.startedOf q id = some st) (status : Nat) :
    ∃ st', (s.engineEnds q st status).startedOf q id = some st' ∧ st'.done = true ∧ st'.status = worse st.status status := by
  obtain ⟨st1, held, same⟩ := State.startedOf_endHolds found
  have dropped : (((s.endHolds q st).relieveShares st.work).dropFetches q st.id).queuesAndStep = (s.endHolds q st).queuesAndStep := by
    rw [State.queuesAndStep_dropFetches, State.queuesAndStep_relieveShares]
  have kept := (State.startedOf_congr (State.queues_congr dropped) q id).trans held
  unfold State.engineEnds
  rw [State.id_of_startedOf found] at kept ⊢
  exact ⟨_, State.startedOf_onStarted (fun _ => rfl) kept, rfl, congrArg (worse · status) same⟩

/-- R156: an UPDATE that its verdict, or what its tensors lie in, ends. -/
theorem State.update_ends (found : s.startedOf q id = some st) (status : Nat) :
    OnlyChanges endFields s ((s.countVerdict st).engineEnds q st status) ∧
      ∃ st', ((s.countVerdict st).engineEnds q st status).startedOf q id = some st' ∧ st'.done = true ∧
        st'.status = worse st.status status := by
  have counted := s.queues_countVerdict st
  exact ⟨(endFrame_countVerdict s st).trans (endFrame_engineEnds _ q st status),
    State.startedOf_engineEnds ((State.startedOf_congr counted q id).trans found) status⟩

end Ends

/-! ### The results of an UPDATE (R148 to R150, R158) -/

section Applies
variable {s : State} {q id : Nat}

/-- What the end of a command's work leaves of it: its number, whether it is done or waits for its tee, and its work but for slots. -/
def Started.outcome (x : Started) : Nat × Bool × Bool × Work := (x.id, x.done, x.teeing, x.work.unslotted)

theorem State.outcomes_onStarted (s : State) (q k id : Nat) {f : Started → Started} (keeps : ∀ x, (f x).outcome = x.outcome) :
    ((s.onStarted k id f).queue q).started.map Started.outcome = (s.queue q).started.map Started.outcome := by
  unfold State.onStarted
  rw [State.queue_onQueue]
  split
  case isFalse => rfl
  case isTrue here =>
    subst here
    rw [List.map_map]
    refine List.map_congr_left fun x _ => ?_
    dsimp only [Function.comp]
    split
    · exact keeps x
    · rfl

theorem State.outcomes_slotShare (s : State) (q k id op : Nat) (x : Share) :
    ((s.slotShare k id op x).queue q).started.map Started.outcome = (s.queue q).started.map Started.outcome := by
  unfold State.slotShare
  dsimp only
  split
  · refine (State.outcomes_onStarted _ q k id (fun st => ?_)).trans ?_
    · unfold Started.outcome
      rw [Work.unslotted_mapShares (fun y => by split <;> rfl)]
    · rw [State.queue_congr (s.queuesAndStep_surge ..)]
  · rfl

theorem State.outcomes_slotShares (s : State) (q : Nat) :
    (s.slotShares.queue q).started.map Started.outcome = (s.queue q).started.map Started.outcome := by
  refine foldl_reads (fun v : State => (v.queue q).started.map Started.outcome) (fun v x => ?_) _ s
  exact foldl_reads (fun v : State => (v.queue q).started.map Started.outcome) (fun w y => w.outcomes_slotShare q ..) _ v

theorem State.startedOf_slotShares {st : Started} (found : s.startedOf q id = some st) :
    ∃ st', s.slotShares.startedOf q id = some st' ∧ st'.outcome = st.outcome := by
  have seen (v : State) : (v.startedOf q id).map Started.outcome =
      ((v.queue q).started.map Started.outcome).find? (fun x => x.1 == id) := by
    rw [List.find?_map]
    rfl
  have same := (seen s.slotShares).trans ((congrArg _ (s.outcomes_slotShares q)).trans (seen s).symm)
  rw [found, Option.map_some] at same
  exact Option.map_eq_some_iff.mp same

theorem Work.none_of_unslotted {w : Work} (h : w.unslotted = Work.none.unslotted) : w = .none := by
  cases w with
  | none => rfl
  | _ => cases h

/-- A change by which a command's work is over: it is done, or waits for its tee (R158). -/
def FinishesWork (f : Started → Started) : Prop := ∀ x, (f x).id = x.id ∧ (f x).work = .none ∧ ((f x).done = true ∨ (f x).teeing = true)

/-- The elements of an UPDATE are read, computed and written, and its stores teed, without a change to which commands have started;
then its work is over. -/
theorem State.applyUpdate_finishes (s : State) (q : Nat) (st : Started) (prog : BitVec 1024) (shares : List Share) :
    ∃ (v : State) (f : Started → Started),
      s.applyUpdate' q st prog shares = v.onStarted q st.id f ∧ v.numbers q = s.numbers q ∧ FinishesWork f := by
  unfold State.applyUpdate'
  dsimp -zeta only
  extract_lets u idxs es guarded s0 write a open' latched s1 fl
  have bound : s0.queuesAndStep = s.queuesAndStep := by
    refine (foldl_reads State.queuesAndStep (fun v x => ?_) shares _).trans ?_
    · exact foldl_reads State.queuesAndStep (fun v h => v.queuesAndStep_bindElems h x.cluster _) _ v
    · exact (foldl_reads State.queuesAndStep (fun v h => v.queuesAndStep_takeElems h 3 idxs) _ _).trans s.queuesAndStep_drawn
  have written : a.s.queues = s.queues := by
    refine (foldl_reads (fun a : Acc => a.s.queues) (fun a d => ?_) storeHandles _).trans (State.queues_congr bound)
    unfold write
    extract_lets h state vals r
    split
    · rfl
    · exact (State.queues_congr ((State.queuesAndStep_teeTensor ..).trans (State.queuesAndStep_coverTensor ..))).trans
        (State.queues_writeResults ..)
  have verdict : latched.queues = s.queues :=
    (foldl_reads State.queues (fun v h => v.queues_latchVerdict h open') _ a.s).trans written
  have counted : ((latched.bump 0xA03600 guarded.length).relieveShares st.work).queuesAndStep = latched.queuesAndStep :=
    (State.queuesAndStep_relieveShares ..).trans (State.queuesAndStep_bump ..)
  have either (b : Bool) : b = true ∨ (!b) = true := by cases b <;> decide
  exact ⟨s1, _, rfl, (State.numbers_teeRun _ q).trans (State.numbers_congr ((State.queues_congr counted).trans verdict) q),
    fun x => ⟨rfl, rfl, either _⟩⟩

theorem State.startedOf_applyUpdate {st : Started} (found : s.startedOf q id = some st) (prog : BitVec 1024) (shares : List Share) :
    ∃ st', (s.applyUpdate' q st prog shares).startedOf q id = some st' ∧ st'.work = .none ∧ (st'.done = true ∨ st'.teeing = true) := by
  obtain ⟨v, f, applied, numbers, finishes⟩ := s.applyUpdate_finishes q st prog shares
  have here : (v.startedOf q id).isSome = true := by
    rw [State.startedOf_isSome_iff, numbers, ← State.startedOf_isSome_iff, found, Option.isSome_some]
  obtain ⟨x, found'⟩ := Option.isSome_iff_exists.mp here
  obtain ⟨-, ended⟩ := finishes x
  rw [applied, State.id_of_startedOf found]
  exact ⟨f x, State.startedOf_onStarted (fun y => (finishes y).1) found', ended⟩

/-- R142, R149: an UPDATE whose runs have all passed, with its scalars readable, ends its work. -/
theorem State.startedOf_finishUpdate {st : Started} (found : s.startedOf q id = some st) (prog : BitVec 1024)
    (granted : s.memStatus (fld st.cmd 32 8) 64 .command false = 0) (good : s.badRange (fld st.cmd 32 8) 64 = false) :
    ∃ st', (s.finishUpdate q st prog).startedOf q id = some st' ∧ st'.work = .none ∧ (st'.done = true ∨ st'.teeing = true) := by
  have counted := s.queues_countVerdict st
  obtain ⟨st1, applied, idle, ended⟩ :=
    State.startedOf_applyUpdate ((State.startedOf_congr counted q id).trans found) prog st.work.shares
  obtain ⟨st2, slotted, same⟩ := State.startedOf_slotShares applied
  have finished : s.finishUpdate q st prog = ((s.countVerdict st).applyUpdate' q st prog st.work.shares).slotShares := by
    simp [State.finishUpdate, granted, good, St.memoryDenied]
  obtain ⟨-, same⟩ := Prod.mk.inj same
  obtain ⟨done, same⟩ := Prod.mk.inj same
  obtain ⟨teeing, work⟩ := Prod.mk.inj same
  rw [idle] at work
  rw [finished]
  exact ⟨st2, slotted, Work.none_of_unslotted work, done ▸ teeing ▸ ended⟩

end Applies

/-! ### The verdict of the step decides (R156) -/

section Decides
variable {s : State} {q id : Nat} {st : Started} {prog : BitVec 1024}

/-- With no tee store waiting, the action of an UPDATE that is not done is that of its command. -/
theorem exec_updateVerdictAction {q : Fin 256} {shares : List Share} (quiet : s.twin.tees = []) (found : s.startedOf q id = some st)
    (work : st.work = .update prog shares) (undone : st.done = false) :
    exec (.updateVerdictAction q id) s = .next (s.actUpdate q st) := by
  have still : s.teeRun = s := by simp [State.teeRun, quiet]
  simp [exec, execUpdateVerdictAction, still, found, work, undone]

theorem State.actUpdate_unfinal (waits : s.verdictFinal st.cmd = false) : s.actUpdate q st = s := by
  simp [State.actUpdate, waits]

theorem State.actUpdate_incomplete (final : s.verdictFinal st.cmd = true) (needs : bitAt st.cmd 28 3 = false)
    (broken : s.step.broken = true) : s.actUpdate q st = (s.countVerdict st).engineEnds q st St.verdictIncomplete := by
  simp [State.actUpdate, final, needs, broken]

/-- Once no verdict collective broke the final verdict, or the UPDATE does not need them. -/
theorem State.actUpdate_final (final : s.verdictFinal st.cmd = true) (unbroken : bitAt st.cmd 28 3 = true ∨ s.step.broken = false) :
    s.actUpdate q st =
      if s.verdictSkips st.cmd then (s.countVerdict st).engineEnds q st St.stepSkipped
      else if s.verdictOpen st.cmd then s
      else s.slotShares.goUpdate q st.id := by
  have passes : (!bitAt st.cmd 28 3 && s.step.broken) = false := by
    rcases unbroken with h | h <;> simp [h]
  simp only [State.actUpdate, final, passes, Bool.not_true, Bool.false_eq_true, if_false]

theorem State.goUpdate_found {shares : List Share} (found : s.startedOf q id = some st) (work : st.work = .update prog shares) :
    s.goUpdate q id = s.runUpdate q st prog := by
  simp [State.goUpdate, found, work]

end Decides

/-! ### How far an UPDATE goes on (R148 to R151, R332) -/

section Runs
variable {s : State} {q : Nat} {st : Started} {prog : BitVec 1024} {ins outs : List Nat}

theorem State.runUpdate_held (held : s.updateHeld q st = true) : s.runUpdate q st prog = s := by
  simp [State.runUpdate, held]

variable (free : s.updateHeld q st = false) (writes : outs = handlesAt st.cmd [8, 14, 17, 20, 23])
  (reads : ins = handlesAt st.cmd [8, 11, 14, 17] ++ (s.residualRead st.cmd prog).map (·.2))
include free writes reads

theorem State.runUpdate_stops (stops : s.engineStop ins outs ≠ 0) :
    s.runUpdate q st prog = (s.countVerdict st).engineEnds q st (s.engineStop ins outs) := by
  subst writes reads
  simp only [State.runUpdate, free, Bool.false_eq_true, if_false, if_pos stops]

variable (serves : s.engineStop ins outs = 0) (cool : s.memoryWaits (ins ++ outs) = false)
include serves cool

theorem State.runUpdate_barred (barred : outs.any s.tensorBarred = true) : s.runUpdate q st prog = s.barAct q st outs := by
  subst writes reads
  simp only [State.runUpdate, free, Bool.false_eq_true, if_false, serves, ne_eq, not_true_eq_false, cool, barred, if_true]

theorem State.runUpdate_goes (unbarred : outs.any s.tensorBarred = false) (unstaged : s.updateStages st.cmd = false)
    (entered : s.updateIngress st.cmd = 0) {x : State} {st' : Started}
    (ran : x = State.runShares q st.id st.work.rounds (s.endHolds q st)) (found : x.startedOf q st.id = some st') :
    s.runUpdate q st prog = if st'.sharesRan && !x.fetchesFor q st'.id then x.finishUpdate q st' prog else x := by
  subst writes reads
  simp only [State.runUpdate, free, Bool.false_eq_true, if_false, serves, ne_eq, not_true_eq_false, cool, unbarred, unstaged, entered,
    ← ran, found]

end Runs

/-- Settles O24: the first row of the table that matches decides (R156); an UPDATE that runs goes on as far as it can. -/
theorem verdictDecidesTheUpdate : Obligations.VerdictDecidesTheUpdate := by
  unfold Obligations.VerdictDecidesTheUpdate
  intro q id s st prog shares quiet found work undone
  have number := State.id_of_startedOf found
  have acts := exec_updateVerdictAction quiet found work undone
  refine ⟨fun unfinal => ?_, fun final needs broken => ?_, fun final unbroken skips => ?_, fun final unbroken goes => ?_⟩
  · rw [acts, State.actUpdate_unfinal unfinal]
  · obtain ⟨frame, st', ends⟩ := State.update_ends found St.verdictIncomplete
    rw [acts, State.actUpdate_incomplete final needs broken]
    exact ⟨_, st', rfl, frame, ends⟩
  · obtain ⟨frame, st', ends⟩ := State.update_ends found St.stepSkipped
    rw [acts, State.actUpdate_final final unbroken, if_pos skips]
    exact ⟨_, st', rfl, frame, ends⟩
  rw [State.actUpdate_final final unbroken, goes, if_neg Bool.false_ne_true] at acts
  refine ⟨fun running => ?_, fun complete w st1 prog1 shares1 ins outs hw found1 work1 writes reads => ?_⟩
  · rw [acts, if_pos running]
  subst hw
  rw [complete, if_neg Bool.false_ne_true, number, State.goUpdate_found found1 work1] at acts
  have number1 := State.id_of_startedOf found1
  refine ⟨fun held => ?_, fun free stops => ?_, fun free serves cool =>
    ⟨fun barred => ?_, fun unbarred unstaged entered x st2 ran found2 => ?_⟩⟩
  · rw [acts, State.runUpdate_held held]
  · obtain ⟨frame, st', ends⟩ := State.update_ends found1 (s.slotShares.engineStop ins outs)
    rw [acts, State.runUpdate_stops free writes reads stops]
    exact ⟨_, st', rfl, frame, ends⟩
  · rw [acts, State.runUpdate_barred free writes reads serves cool barred]
  rw [State.runUpdate_goes free writes reads serves cool unbarred unstaged entered ran found2] at acts
  refine ⟨fun more => ?_, fun passed fetched granted good => ?_⟩
  · rw [acts, if_neg]
    rcases more with h | h <;> simp [h]
  · obtain ⟨st', ends⟩ := State.startedOf_finishUpdate found2 prog1 granted good
    rw [acts, if_pos (by simp [passed, fetched])]
    exact ⟨_, st', rfl, number1 ▸ ends⟩

end Sys2Proof.Machine

/-!
Scope of the block: the control core (07: R179 to R183). END, CALL and LOOP on the control stack, and what WAIT_COUNTER, FENCE and
SIGNAL_COUNTER leave when they are taken.
-/

namespace Sys2Proof.Machine

/-! ### END (R183) -/

section EndOfList
variable {s : State} {q : Nat} {l : ListRun} {st pre rest : List StackEntry} {a i n : Nat}

theorem noReturn_cons {e : StackEntry} (h : noReturn (e :: st)) : (∃ at' t k, e = .loop at' t k) ∧ noReturn st := by
  refine ⟨?_, fun x hx => h x (List.mem_cons_of_mem _ hx)⟩
  cases e with
  | loop at' t k => exact ⟨at', t, k, rfl⟩
  | ret a i n => exact absurd rfl (h _ List.mem_cons_self a i n)

/-- Loops in front of a stack are popped on the way to its return entry. -/
theorem popReturn_append (loops : noReturn pre) (st : List StackEntry) : popReturn (pre ++ st) = popReturn st := by
  induction pre with
  | nil => rfl
  | cons e pre ih =>
    obtain ⟨⟨at', t, k, rfl⟩, tail⟩ := noReturn_cons loops
    exact ih tail

theorem popReturn_of_noReturn (loops : noReturn st) : popReturn st = none := by
  rw [← List.append_nil st, popReturn_append loops]
  rfl

theorem State.endEffect_returns (stack : (s.queue q).stack = pre ++ .ret a i n :: rest) (loops : noReturn pre) :
    (s.endEffect q).queue q =
      { s.queue q with stack := rest, run := (s.queue q).run.map (fun x => { x with addr := a, listId := i, pc := n }) } := by
  have pops : popReturn (s.queue q).stack = some (rest, a, i, n) := by rw [stack, popReturn_append loops]; rfl
  rw [State.endEffect, State.queue_onQueue_same, pops]

theorem State.endEffect_ends (loops : noReturn (s.queue q).stack) :
    (s.endEffect q).queue q =
      { s.queue q with stack := [], run := (s.queue q).run.map (fun x => { x with ended := true }) } := by
  rw [State.endEffect, State.queue_onQueue_same, popReturn_of_noReturn loops]

end EndOfList

theorem Takes.exec_endCmd {q : Fin 256} {c : Line} {l : ListRun} {s : State} (taken : Takes s q l c [] [])
    (header : s.headerFail q c [] = none) (room : HasRoom s q c Fail.ok.st) :
    exec (.endCmd q c) s = .next (((s.passed q l c).endEffect q).completed s q l c .ok) :=
  congrArg Host.Outcome.next ((taken.take_go header).trans (State.atOnce_room room (fun x => x.endEffect q)))

/-- Settles O8: END acts on the queue that has gone on behind it, whose stack is the one before. -/
theorem endReturnsOrEndsTheList : Obligations.EndReturnsOrEndsTheList := by
  unfold Obligations.EndReturnsOrEndsTheList
  intro q c l s taken header room
  have run := State.passed_run taken.run c
  refine ⟨(s.passed q l c).endEffect q, taken.exec_endCmd header room,
    (onlyChanges_passed s q l c).trans (onlyChanges_onQueue _ q _), fun pre a i n rest stack loops => ?_, fun loops => ?_⟩
  · rw [State.endEffect_returns ((s.passed_stack q l c).trans stack) loops, run]
    exact ⟨rfl, rfl⟩
  · rw [State.endEffect_ends ((s.passed_stack q l c).symm ▸ loops), run]
    exact ⟨rfl, rfl⟩

/-! ### CALL (R183) -/

theorem State.callEffect_queue {s : State} {q : Nat} {l : ListRun} (run : (s.queue q).run = some l) (c : Line) (pc : Nat) :
    (s.callEffect q c pc).queue q = { s.queue q with
      stack := .ret l.addr l.listId (pc + 1) :: (s.queue q).stack,
      run := some { l with addr := fld c 8 8, listId := fld c 16 4, pc := 0 } } := by
  rw [State.callEffect, State.queue_onQueue_same, run]
  rfl

section Calls
variable {q : Fin 256} {c : Line} {l : ListRun} {s : State}

theorem Takes.exec_call (taken : Takes s q l c [] []) (header : s.headerFail q c [(20, 0, 352)] = none) (aligned : fld c 8 8 % 64 = 0)
    (shallow : (s.queue q).stack.length < 8) (room : HasRoom s q c Fail.ok.st) :
    exec (.call q c) s = .next (((s.passed q l c).callEffect q c l.pc).completed s q l c .ok) := by
  refine congrArg Host.Outcome.next ((taken.take_go ?_).trans (State.atOnce_room room (fun x => x.callEffect q c l.pc)))
  simp [header, firstFail, failIf, aligned, not_le.mpr shallow]

/-- A CALL that fails a check completes with what the check reports, and pushes nothing. -/
theorem Takes.exec_call_fails (taken : Takes s q l c [] []) {f : Fail} (fails : firstFail [s.headerFail q c [(20, 0, 352)],
      failIf (fld c 8 8 % 64 != 0) { st := St.misaligned, byte := 8, addr := fld c 8 8, value := fld c 8 8 },
      failIf (decide (8 ≤ (s.queue q).stack.length)) { st := St.nestDepth, named := false }] = some f)
    (room : HasRoom s q c f.st) : exec (.call q c) s = .next ((s.passed q l c).completed s q l c f) :=
  congrArg Host.Outcome.next ((taken.take_fail fails).trans (State.atOnce_room room id))

end Calls

/-- Settles O9: the checks come in the order header, address, depth (log entry 16); a CALL that passes them pushes its return. -/
theorem callGoesToTheCalledList : Obligations.CallGoesToTheCalledList := by
  unfold Obligations.CallGoesToTheCalledList
  intro q c l s taken header
  have run := State.passed_run taken.run c
  refine ⟨fun aligned shallow room => ?_, fun misaligned room => ?_, fun aligned deep room => ?_⟩
  · refine ⟨(s.passed q l c).callEffect q c l.pc, taken.exec_call header aligned shallow room,
      (onlyChanges_passed s q l c).trans (onlyChanges_onQueue _ q _), ?_⟩
    rw [State.callEffect_queue run, State.passed_stack]
    exact ⟨rfl, rfl⟩
  · refine ⟨{ st := St.misaligned, byte := 8, addr := fld c 8 8, value := fld c 8 8 }, rfl, taken.exec_call_fails ?_ room⟩
    simp [header, firstFail, failIf, misaligned]
  · refine ⟨{ st := St.nestDepth, named := false }, rfl, taken.exec_call_fails ?_ room⟩
    simp [header, firstFail, failIf, aligned, deep]

/-! ### LOOP (R182) -/

section Loops
variable {s : State} {q : Nat} {l : ListRun} {c : Line} {rest : List StackEntry} {t : Int} {n pc : Nat}

theorem topLoop_eq_none {st : List StackEntry} (h : ∀ t n rest, st ≠ .loop pc t n :: rest) : topLoop pc st = none := by
  unfold topLoop
  split
  next at' t n rest =>
    refine if_neg fun same => ?_
    subst same
    exact h t n rest rfl
  next => rfl

theorem topLoop_same : topLoop pc (.loop pc t n :: rest) = some (t, n, rest) := if_pos rfl

theorem State.loopStep_leaves (stack : (s.queue q).stack = .loop pc t 0 :: rest) :
    (s.loopStep q pc).queue q = { s.queue q with stack := rest } := by
  rw [State.loopStep, State.queue_onQueue_same, stack, topLoop_same]
  rfl

theorem State.loopStep_jumps (stack : (s.queue q).stack = .loop pc t n :: rest) (left : n ≠ 0) :
    (s.loopStep q pc).queue q = { s.queue q with
      stack := .loop pc t (n - 1) :: rest, run := (s.queue q).run.map (fun l => { l with pc := t.toNat }) } := by
  rw [State.loopStep, State.queue_onQueue_same, stack, topLoop_same]
  exact if_neg left

variable (s q pc c)

theorem State.loopPush_stack : ((s.loopPush q pc c).queue q).stack =
    .loop pc ((pc : Int) + i32At c 12) (fld c 8 4 - 1) :: (s.queue q).stack := by
  rw [State.loopPush, State.queue_onQueue_same]

theorem State.loopPush_run : ((s.loopPush q pc c).queue q).run = (s.queue q).run := by
  rw [State.loopPush, State.queue_onQueue_same]

theorem onlyChanges_loopPush : OnlyChanges [.queues] s (s.loopPush q pc c) := onlyChanges_onQueue s q _

theorem onlyChanges_loopStep : OnlyChanges [.queues] s (s.loopStep q pc) := onlyChanges_onQueue s q _

variable {s q c}

/-- A good header, a count and a target within their ranges, and a place on the stack where one is needed pass every check of LOOP. -/
theorem loop_passes (header : s.headerFail q c [(16, 0, 384)] = none) (count : 1 ≤ fld c 8 4) (low : -65535 ≤ i32At c 12)
    (high : i32At c 12 ≤ -1) (target : 0 ≤ (l.pc : Int) + i32At c 12)
    (place : (topLoop l.pc (s.queue q).stack).isSome = true ∨ (s.queue q).stack.length < 8) :
    firstFail [s.headerFail q c [(16, 0, 384)],
      failIf (fld c 8 4 == 0) { st := St.fieldRange, byte := 8 },
      failIf (decide (i32At c 12 < -65535) || decide (-1 < i32At c 12) || decide ((l.pc : Int) + i32At c 12 < 0))
        { st := St.fieldRange, byte := 12, value := fld c 12 4 },
      failIf ((topLoop l.pc (s.queue q).stack).isNone && decide (8 ≤ (s.queue q).stack.length))
        { st := St.nestDepth, named := false }] = none := by
  have counted : (fld c 8 4 == 0) = false := beq_eq_false_iff_ne.mpr (Nat.one_le_iff_ne_zero.mp count)
  have placed : ((topLoop l.pc (s.queue q).stack).isNone && decide (8 ≤ (s.queue q).stack.length)) = false := by
    obtain top | shallow := place
    · rw [Option.isNone_eq_false_iff.mpr top, Bool.false_and]
    · rw [decide_eq_false (not_le.mpr shallow), Bool.and_false]
  rw [header, counted, placed, decide_eq_false (not_lt.mpr low), decide_eq_false (not_lt.mpr high),
    decide_eq_false (not_lt.mpr target)]
  rfl

end Loops

/-- A LOOP that the core takes and that passes its checks: its effect looks at the stack, which going on leaves alone. -/
theorem Takes.exec_loop {q : Fin 256} {c : Line} {l : ListRun} {s : State} (taken : Takes s q l c [] [])
    (header : s.headerFail q c [(16, 0, 384)] = none) (count : 1 ≤ fld c 8 4) (low : -65535 ≤ i32At c 12) (high : i32At c 12 ≤ -1)
    (target : 0 ≤ (l.pc : Int) + i32At c 12)
    (place : (topLoop l.pc (s.queue q).stack).isSome = true ∨ (s.queue q).stack.length < 8) (room : HasRoom s q c Fail.ok.st) :
    exec (.loop q c) s = .next (((if (topLoop l.pc (s.queue q).stack).isSome then s.passed q l c
      else (s.passed q l c).loopPush q l.pc c).loopStep q l.pc).completed s q l c .ok) := by
  have ends := State.atOnce_room (l := l) room
    (fun x => (if (topLoop l.pc (x.queue q).stack).isSome then x else x.loopPush q l.pc c).loopStep q l.pc)
  rw [State.passed_stack] at ends
  exact congrArg Host.Outcome.next ((taken.take_go (loop_passes header count low high target place)).trans ends)

/-- Settles O10: a first arrival pushes the entry and then counts like a later one. -/
theorem loopRunsItsBody : Obligations.LoopRunsItsBody := by
  unfold Obligations.LoopRunsItsBody
  intro q c l s taken header room count low high target
  have run := State.passed_run taken.run c
  have frame := onlyChanges_passed s q l c
  refine ⟨fun first shallow => ?_, fun t n rest stack => ?_⟩
  · have ends := taken.exec_loop header count low high target (.inr shallow) room
    rw [topLoop_eq_none first, if_neg (by simp)] at ends
    have pushed := (s.passed q l c).loopPush_stack q c l.pc
    rw [State.passed_stack] at pushed
    refine ⟨_, ends, (frame.trans (onlyChanges_loopPush _ q c _)).trans (onlyChanges_loopStep _ q _), fun one => ?_, fun more => ?_⟩
    · rw [one] at pushed
      rw [State.loopStep_leaves pushed, State.loopPush_run]
      exact ⟨rfl, run⟩
    · rw [State.loopStep_jumps pushed (by omega), State.loopPush_run, run]
      exact ⟨by rw [Nat.sub_sub], rfl⟩
  · have top : (topLoop l.pc (s.queue q).stack).isSome = true := by rw [stack, topLoop_same]; rfl
    have ends := taken.exec_loop header count low high target (.inl top) room
    rw [if_pos top] at ends
    have later : ((s.passed q l c).queue q).stack = .loop l.pc t n :: rest := (s.passed_stack q l c).trans stack
    refine ⟨_, ends, frame.trans (onlyChanges_loopStep _ q _), fun last => ?_, fun left => ?_⟩
    · subst last
      rw [State.loopStep_leaves later]
      exact ⟨rfl, run⟩
    · rw [State.loopStep_jumps later left, run]
      exact ⟨rfl, rfl⟩

/-! ### Requests on their way out: what they may change (R253, R254, R264, R276) -/

section Outbound
variable (s : State)

/-- The fields that packets on their way out may change. -/
def netFields : List Field := [.egress, .dict, .ports, .streamsOut, .reqs, .nextTag]

theorem netFrame_send (e : Egress) : OnlyChanges netFields s (s.send e) := by
  intro f hf
  cases f
  case egress => exact absurd (by simp [netFields]) hf
  all_goals rfl

theorem netFrame_onPort (p : Nat) (g : Port → Port) : OnlyChanges netFields s (s.onPort p g) := by
  intro f hf
  cases f
  case ports => exact absurd (by simp [netFields]) hf
  all_goals rfl

theorem netFrame_onStreamOut (n : Nat) (g : StreamOut → StreamOut) : OnlyChanges netFields s (s.onStreamOut n g) := by
  intro f hf
  cases f
  case streamsOut => exact absurd (by simp [netFields]) hf
  all_goals rfl

theorem netFrame_numbered (n : Nat) (rs : List Req) : OnlyChanges netFields s { s with nextTag := n, reqs := rs } := by
  intro f hf
  cases f
  case nextTag | reqs => exact absurd (by simp [netFields]) hf
  all_goals rfl

theorem netFrame_bump (key n : Nat) : OnlyChanges netFields s (s.bump key n) :=
  (onlyChanges_setDv s key _).mono (by simp [netFields])

theorem netFrame_foldl {β : Type} {f : State → β → State} (hf : ∀ v x, OnlyChanges netFields v (f v x)) (xs : List β) :
    OnlyChanges netFields s (xs.foldl f s) :=
  foldl_keeps (OnlyChanges netFields) (OnlyChanges.refl _) (fun _ _ _ => OnlyChanges.trans) f xs (fun v x _ => hf v x) s

theorem netFrame_flitOut (p : Nat) (load : List Byte) : OnlyChanges netFields s (s.flitOut p load) :=
  (netFrame_onPort s p _).trans (netFrame_send _ _)

theorem netFrame_packetOut (p : Nat) (w : OutWait) : OnlyChanges netFields s (s.packetOut p w) := by
  unfold State.packetOut
  refine OnlyChanges.trans ?_ (netFrame_onPort _ p _)
  refine OnlyChanges.trans ?_ (netFrame_foldl _ (fun v load => netFrame_flitOut v p load) _)
  refine OnlyChanges.trans ?_ (netFrame_onPort _ p _)
  refine OnlyChanges.trans ?_ (netFrame_send _ _)
  split
  · exact netFrame_bump s _ _
  · exact OnlyChanges.refl _ s

theorem netFrame_drainPort (p n : Nat) : ∀ s : State, OnlyChanges netFields s (State.drainPort n s p) := by
  induction n with
  | zero => exact OnlyChanges.refl _
  | succ n ih =>
    intro s
    unfold State.drainPort
    split
    · exact (netFrame_packetOut s p _).trans (ih _)
    · exact OnlyChanges.refl _ s

theorem netFrame_egressPort (p : Nat) (e : Egress) : OnlyChanges netFields s (s.egressPort p e) :=
  (((netFrame_onPort s p _).trans (netFrame_drainPort p _ _)).trans (netFrame_onPort _ p _)).trans (netFrame_bump _ _ _)

theorem netFrame_pushStream (dst : Nat) (a : Ask) : OnlyChanges netFields s (s.pushStream dst a) := by
  have numbered (n : Nat) (rs : List Req) (g : StreamOut → StreamOut) :
      OnlyChanges netFields s (({ s with nextTag := n, reqs := rs } : State).onStreamOut (streamKey a.relayed dst) g) :=
    (netFrame_numbered s n rs).trans (netFrame_onStreamOut _ _ g)
  unfold State.pushStream
  dsimp only
  split
  · exact numbered _ _ _
  split
  · exact (numbered _ _ _).trans (netFrame_egressPort _ _ _)
  · exact numbered _ _ _

theorem netFrame_shipGateway (p dst : Nat) : OnlyChanges netFields s (s.shipGateway p dst) :=
  (netFrame_onPort s p _).trans
    (netFrame_foldl _ (fun v _ => netFrame_foldl v (fun w a => netFrame_pushStream w dst a) _) _)

/-- R276: a FENCE's flush of the gateways sends packets, and does nothing else. -/
theorem netFrame_flushGateways (q : Nat) : OnlyChanges netFields s (s.flushGateways q) :=
  netFrame_foldl s (fun v p => netFrame_foldl v (fun w n => netFrame_shipGateway w p n) _) _

theorem State.flushGateways_queue (q k : Nat) : (s.flushGateways q).queue k = s.queue k := by
  refine State.queue_congr (foldl_reads State.queuesAndStep (fun v p => ?_) _ s) k
  exact foldl_reads State.queuesAndStep (fun w n => w.queuesAndStep_shipGateway p n) _ v

end Outbound

/-! ### WAIT_COUNTER and FENCE (R179, R181) -/

section Waits
variable {s : State} {q : Nat} {l : ListRun} {w : CoreWait}

theorem State.waitOn_run (run : (s.queue q).run = some l) : ((s.waitOn q w).queue q).run = some { l with wait := w } := by
  rw [State.waitOn, State.queue_onQueue_same, run]
  rfl

theorem State.waitOn_started : ((s.waitOn q w).queue q).started = (s.queue q).started := by
  rw [State.waitOn, State.queue_onQueue_same]

theorem onlyChanges_waitOn (s : State) (q : Nat) (w : CoreWait) : OnlyChanges [.queues] s (s.waitOn q w) := onlyChanges_onQueue s q _

theorem waitEnd_counter {idx n since timeout : Nat} {hdr : Line} {v : BitVec 64} (run : (s.queue q).run = some l)
    (waits : l.wait = .counter idx hdr n v since timeout) :
    (s.waitEnd q).isSome = true ↔ (s.counter n - v).toNat < 2 ^ 63 := by
  simp [State.waitEnd, run, waits, passed]

theorem waitEnd_fence {idx since : Nat} {hdr : Line} (run : (s.queue q).run = some l) (waits : l.wait = .fence idx hdr since) :
    (s.waitEnd q).isSome = true ↔ (s.queue q).started = [] ∧ s.storesOut q = false := by
  simp [State.waitEnd, run, waits]

end Waits

section TakenWaits
variable {q : Fin 256} {c : Line} {l : ListRun} {s : State}

theorem Takes.exec_waitCounter (taken : Takes s q l c [] []) (header : s.headerFail q c waitReserved = none) :
    exec (.waitCounter q c) s = .next (s.waitOn q
      (.counter l.pc c (bitsAt c 8 0 12) (BitVec.ofNat 64 (fld c 16 8)) s.now (fld c 24 8))).settled :=
  congrArg Host.Outcome.next (taken.take_go header)

theorem Takes.exec_fence (taken : Takes s q l c [] []) (header : s.headerFail q c [] = none) :
    exec (.fence q c) s = .next ((s.flushGateways q).waitOn q (.fence l.pc c s.now)).settled :=
  congrArg Host.Outcome.next (taken.take_go header)

end TakenWaits

/-- Settles O13: each command leaves its list waiting, and `waitEnd` reads that wait. -/
theorem waitsOfTheControlCore : Obligations.WaitsOfTheControlCore := by
  unfold Obligations.WaitsOfTheControlCore
  intro q c l s taken
  refine ⟨fun header => ?_, fun header => ?_⟩
  · have waiting := State.waitOn_run taken.run
      (w := .counter l.pc c (bitsAt c 8 0 12) (BitVec.ofNat 64 (fld c 16 8)) s.now (fld c 24 8))
    exact ⟨_, taken.exec_waitCounter header, onlyChanges_waitOn s q _, waiting, waitEnd_counter waiting rfl⟩
  · have same := s.flushGateways_queue q q
    have waiting := State.waitOn_run (w := .fence l.pc c s.now) ((congrArg Queue.run same).trans taken.run)
    have ends := waitEnd_fence waiting rfl
    rw [State.waitOn_started, same] at ends
    exact ⟨_, taken.exec_fence header, ((netFrame_flushGateways s q).mono (by simp [netFields])).trans
      ((onlyChanges_waitOn _ q _).mono (by simp)), waiting, ends⟩

/-! ### The timeout of a WAIT_COUNTER (R179) -/

section Timeout
variable {s : State} {q : Nat} {l : ListRun} {idx n since timeout : Nat} {hdr : Line} {v : BitVec 64}

/-- The list of a queue goes on behind the command it waits on. -/
def State.waitOver (s : State) (q : Nat) : State :=
  s.onQueue q (fun r => { r with serial := r.serial + 1, run := r.run.map (fun l => { l with wait := .none, pc := l.pc + 1 }) })

/-- What a timeout of `timeout` ns reports. -/
def timeoutFail (timeout : Nat) : Fail := { st := St.waitTimeout, byte := 24, value := timeout }

theorem State.waitTimeout_passed (run : (s.queue q).run = some l) (waits : l.wait = .counter idx hdr n v since timeout)
    (bounded : timeout ≠ 0) (late : since + timeout ≤ s.now) (below : ¬ (s.counter n - v).toNat < 2 ^ 63)
    (room : HasRoom s q hdr St.waitTimeout) :
    s.waitTimeout q = ((s.waitOver q).finish q ((s.queue q).waiting l idx hdr since) (timeoutFail timeout)).settled := by
  unfold State.waitTimeout
  simp only [run, waits]
  rw [if_pos ⟨bounded, late, decide_eq_false below⟩, if_neg (by rw [room]; exact Bool.false_ne_true)]
  rfl

theorem State.waitTimeout_early (run : (s.queue q).run = some l) (waits : l.wait = .counter idx hdr n v since timeout)
    (early : timeout = 0 ∨ s.now < since + timeout) : s.waitTimeout q = s := by
  unfold State.waitTimeout
  simp only [run, waits]
  refine if_neg ?_
  rintro ⟨bounded, late, -⟩
  omega

end Timeout

/-- Settles O14: the timeout is judged at the device time of its row, which leaves queues and counters as they are. -/
theorem waitCounterTimesOut : Obligations.WaitCounterTimesOut := by
  unfold Obligations.WaitCounterTimesOut
  intro q t s l idx hdr n v since timeout run waits
  refine ⟨fun bounded late below room => ?_, fun early => ?_⟩
  · have ends : (s.tick t).waitTimeout q = _ := State.waitTimeout_passed run waits bounded late below room
    refine ⟨(s.tick t).waitOver q, timeoutFail timeout, rfl, congrArg Host.Outcome.next ends, ?_, rfl, ?_⟩
    · exact ((onlyChanges_tick s t).mono (by simp)).trans ((onlyChanges_onQueue _ q _).mono (by simp))
    · rw [State.waitOver, State.queue_onQueue_same]
      exact congrArg (Option.map _) run
  · exact congrArg Host.Outcome.next (State.waitTimeout_early (s := s.tick t) run waits early)

/-! ### SIGNAL_COUNTER of this module (R177, R178, R180) -/

section Signal
variable {s : State} {u : CtrUpdate}

/-- The fields that an update of an arrival counter may change. -/
def counterFields : List Field := [.counters, .ingress, .bankAt]

theorem State.counterUpdate_free (free : s.bankFree (u.counter / 256) = true) :
    s.counterUpdate u = { s.applyUpdate u with bankAt := put 0 s.bankAt (u.counter / 256) (s.now + 1) } := if_pos free

theorem State.counterUpdate_waits (busy : s.bankFree (u.counter / 256) = false) :
    s.counterUpdate u = { s with ingress := s.ingress ++ [{ u with since := s.now }] } :=
  if_neg (by rw [busy]; exact Bool.false_ne_true)

theorem State.applyUpdate_eq (s : State) (u : CtrUpdate) :
    s.applyUpdate u = s.setCounter u.counter (if u.set then u.value else s.counter u.counter + u.value) := by
  unfold State.applyUpdate State.addCounter
  split <;> rfl

theorem counterFrame_counterUpdate (s : State) (u : CtrUpdate) : OnlyChanges counterFields s (s.counterUpdate u) := by
  cases free : s.bankFree (u.counter / 256) with
  | true =>
    rw [State.counterUpdate_free free, State.applyUpdate_eq]
    intro f hf
    cases f
    case counters | bankAt => exact absurd (by simp [counterFields]) hf
    all_goals rfl
  | false =>
    rw [State.counterUpdate_waits free]
    intro f hf
    cases f
    case ingress => exact absurd (by simp [counterFields]) hf
    all_goals rfl

theorem State.counter_counterUpdate (free : s.bankFree (u.counter / 256) = true) (m : Nat) :
    (s.counterUpdate u).counter m =
      if m = u.counter then (if u.set then u.value else s.counter u.counter + u.value) else s.counter m := by
  rw [State.counterUpdate_free free, State.applyUpdate_eq]
  exact s.counter_setCounter _ _ m

theorem State.ingress_counterUpdate_free (free : s.bankFree (u.counter / 256) = true) :
    (s.counterUpdate u).ingress = s.ingress := by
  rw [State.counterUpdate_free free, State.applyUpdate_eq]
  rfl

theorem State.counterUpdate_queue (s : State) (u : CtrUpdate) (q : Nat) : (s.counterUpdate u).queue q = s.queue q :=
  congrArg (look ({} : Queue) · q) (counterFrame_counterUpdate s u .queues (by simp [counterFields]))

end Signal

theorem Takes.exec_signalCounter {q : Fin 256} {c : Line} {l : ListRun} {s : State} (taken : Takes s q l c [] [])
    (header : s.headerFail q c signalReserved = none) :
    exec (.signalCounter q c) s = .next (if (s.queue q).started.isEmpty then s.signalStart q l c else s) :=
  congrArg Host.Outcome.next (taken.take_go header)

theorem State.signalStart_local {s : State} {q : Nat} {l : ListRun} {c : Line} (here : s.localNode (fld c 12 2) = true) :
    s.signalStart q l c = ((s.counterUpdate (signalUpdate s q c)).waitOn q (.signal l.pc c s.now)).settled := if_pos here

/-- Settles O15: the update arrives at its bank, which applies it or keeps it at the ingress; then the list waits for it. -/
theorem signalUpdatesItsCounter : Obligations.SignalUpdatesItsCounter := by
  unfold Obligations.SignalUpdatesItsCounter
  intro q c l s taken header
  refine ⟨fun busy => ?_, fun idle here => ?_⟩
  · rw [taken.exec_signalCounter header, if_neg (by simpa using busy)]
  · have queue := s.counterUpdate_queue (signalUpdate s q c) q
    have waiting := State.waitOn_run (w := .signal l.pc c s.now) ((congrArg Queue.run queue).trans taken.run)
    refine ⟨(s.counterUpdate (signalUpdate s q c)).waitOn q (.signal l.pc c s.now), ?_, ?_, waiting,
      fun free => ⟨State.ingress_counterUpdate_free free, ?_, fun m other => ?_⟩, fun waits => ?_⟩
    · rw [taken.exec_signalCounter header, if_pos (by simp [idle]), State.signalStart_local here]
    · exact ((counterFrame_counterUpdate s _).mono (by simp [counterFields])).trans ((onlyChanges_waitOn _ q _).mono (by simp))
    · exact (State.counter_counterUpdate free _).trans (if_pos rfl)
    · exact (State.counter_counterUpdate free m).trans (if_neg other)
    · have kept := State.counterUpdate_waits (u := signalUpdate s q c) waits
      exact ⟨(congrArg State.counters kept :), (congrArg State.ingress kept :)⟩

end Sys2Proof.Machine

/-!
Scope of the block: tensor management (07: R185 to R190). What a creation and a release leave of the tensor table, and
TENSOR_CREATE, TENSOR_FREE and TENSOR_ATTR as they are taken.
-/

namespace Sys2Proof.Machine

/-! ### Finding a place for a tensor (R191, R467) -/

section Placing
variable {s u : State}

/-- The fields that finding a place for a tensor may change: the tensor table is not among them. -/
def placeFields : List Field := [.fresh, .mem, .marks, .alloc]

theorem placeFrame_wr (s : State) (a : Nat) (b : Byte) : OnlyChanges placeFields s (s.wr a b) := by
  intro f hf
  cases f
  case mem => exact absurd (by simp [placeFields]) hf
  all_goals rfl

theorem placeFrame_wrBytes (bs : List Byte) : ∀ (s : State) (a : Nat), OnlyChanges placeFields s (s.wrBytes a bs) := by
  induction bs with
  | nil => exact fun s _ => OnlyChanges.refl _ s
  | cons b bs ih => exact fun s a => (placeFrame_wr s _ b).trans (ih _ _)

theorem placeFrame_drawn (s : State) : OnlyChanges placeFields s s.drawn := by
  intro f hf
  cases f
  case fresh => exact absurd (by simp [placeFields]) hf
  all_goals rfl

theorem onlyChanges_alloc (s : State) (a : Alloc) : OnlyChanges [.alloc] s { s with alloc := a } := by
  intro f hf
  cases f
  case alloc => exact absurd (List.mem_singleton.2 rfl) hf
  all_goals rfl

theorem placeFrame_alloc (s : State) (a : Alloc) : OnlyChanges placeFields s { s with alloc := a } :=
  (onlyChanges_alloc s a).mono (by simp [placeFields])

theorem placeFrame_clearRange (s : State) (a n : Nat) : OnlyChanges placeFields s (s.clearRange a n) := by
  intro f hf
  cases f
  case mem | marks => exact absurd (by simp [placeFields]) hf
  all_goals rfl

theorem placeFrame_foldl {β : Type} {f : State → β → State} (hf : ∀ v x, OnlyChanges placeFields v (f v x)) (xs : List β) (s : State) :
    OnlyChanges placeFields s (xs.foldl f s) :=
  foldl_keeps (OnlyChanges placeFields) (OnlyChanges.refl _) (fun _ _ _ => OnlyChanges.trans) f xs (fun v x _ => hf v x) s

theorem placeFrame_setFrame (s : State) (f : Nat) (use : FrameUse) : OnlyChanges placeFields s (s.setFrame f use) :=
  placeFrame_alloc s _

theorem placeFrame_allocRun {h len base : Nat} {mirrored : Bool} (found : s.allocRun h mirrored len = some (u, base)) :
    OnlyChanges placeFields s u := by
  unfold State.allocRun at found
  split at found
  · cases found
    exact OnlyChanges.refl _ _
  · extract_lets p keep shared n at found
    have kept (v : State) (a : Nat) : OnlyChanges placeFields v (keep v a) :=
      (placeFrame_alloc v _).trans (placeFrame_clearRange _ _ _)
    clear_value keep shared n
    generalize (if n = 1 then s.pickFrame mirrored p s.fresh else s.contiguous mirrored p n) = own at found
    cases shared with
    | some a =>
      obtain ⟨rfl, -⟩ := Prod.mk.inj (Option.some.inj found)
      exact kept s a
    | none =>
      cases own with
      | none => cases found
      | some f =>
        obtain ⟨rfl, -⟩ := Prod.mk.inj (Option.some.inj found)
        exact ((placeFrame_drawn s).trans (placeFrame_foldl (fun v k => placeFrame_setFrame v _ _) _ _)).trans (kept _ _)

theorem placeFrame_writeHeader (s : State) (d : Line) (a : Nat) : OnlyChanges placeFields s (s.writeHeader d a).1 := by
  have arrays := foldl_keeps (fun x y : State × Nat => OnlyChanges placeFields x.1 y.1) (fun x => OnlyChanges.refl _ x.1)
    (fun _ _ _ => OnlyChanges.trans)
    (fun (acc : State × Nat) (p : Nat × Nat) => if p.2 = 0 then acc else (acc.1.wrNat (a + 8 * p.1) 8 acc.2, acc.2 + pad64 p.2))
    (List.zip (List.range 6) (planeArrays d)) (fun x p _ => ?_) (s, a + 64)
  · exact arrays.trans (placeFrame_wrBytes _ _ _)
  · split
    · exact OnlyChanges.refl _ _
    · exact placeFrame_wrBytes _ _ _

/-- A fold of steps that may fail relates its ends as each step does. -/
theorem foldl_bind_keeps {α β : Type} (P : α → α → Prop) (hr : ∀ a, P a a) (ht : ∀ a b c, P a b → P b c → P a c)
    {f : α → β → Option α} (hf : ∀ a b a', f a b = some a' → P a a') (l : List β) :
    ∀ {a a' : α}, l.foldl (fun o b => o.bind (fun x => f x b)) (some a) = some a' → P a a' := by
  have failed (l : List β) : l.foldl (fun o b => o.bind (fun x => f x b)) none = none := by
    induction l with
    | nil => rfl
    | cons b l ih => exact ih
  induction l with
  | nil =>
    intro a a' h
    cases h
    exact hr a
  | cons b l ih =>
    intro a a' h
    rw [List.foldl_cons, Option.bind_some] at h
    cases step : f a b with
    | none =>
      rw [step, failed] at h
      cases h
    | some x =>
      rw [step] at h
      exact ht _ _ _ (hf _ _ _ step) (ih h)

theorem placeFrame_bindStreamed {h i : Nat} {d : Line} (bound : s.bindStreamed h d i = some u) : OnlyChanges placeFields s u := by
  obtain ⟨f, -, rfl⟩ := Option.map_eq_some_iff.mp bound
  exact ((placeFrame_drawn s).trans (placeFrame_setFrame _ _ _)).trans (placeFrame_wrBytes _ _ _)

theorem placeFrame_bindStreams {h : Nat} {d : Line} (bound : s.bindStreams h d = some u) : OnlyChanges placeFields s u :=
  foldl_bind_keeps (OnlyChanges placeFields) (OnlyChanges.refl _) (fun _ _ _ => OnlyChanges.trans)
    (fun _ _ _ => placeFrame_bindStreamed) _ bound

theorem State.tensor_congr (h : OnlyChanges placeFields s u) (j : Nat) : u.tensor j = s.tensor j :=
  congrArg (look none · j) (h .tensors (by simp [placeFields]))

end Placing

/-! ### Creation (R187 to R189) -/

section Creation
variable {s u v : State} {h owner planes : Nat} {d : Line}

/-- The fields that a creation may change. -/
def creationFields : List Field := [.fresh, .mem, .marks, .tensors, .alloc]

theorem OnlyChanges.toCreation (h : OnlyChanges placeFields s u) : OnlyChanges creationFields s u :=
  h.mono (by simp [placeFields, creationFields])

theorem onlyChanges_setTensor (s : State) (h : Nat) (t : Option Tensor) : OnlyChanges [.tensors] s (s.setTensor h t) := by
  intro f hf
  cases f
  case tensors => exact absurd (List.mem_singleton.2 rfl) hf
  all_goals rfl

/-- In `u` the handle `h` is live and owned by `owner`, 0 for none; every other handle names what it named in `s`. -/
def PlacesTensor (s u : State) (h owner : Nat) : Prop :=
  OnlyChanges creationFields s u ∧ (∃ t, u.tensor h = some t ∧ t.owner = owner) ∧ ∀ j, j ≠ h → u.tensor j = s.tensor j

/-- A tensor entered in the table between two changes that leave the table alone. -/
theorem PlacesTensor.of_setTensor {t : Tensor} (before : OnlyChanges placeFields s v) (owned : t.owner = owner)
    (after : OnlyChanges placeFields (v.setTensor h (some t)) u) : PlacesTensor s u h owner := by
  refine ⟨(before.toCreation.trans ((onlyChanges_setTensor v h _).mono (by simp [creationFields]))).trans after.toCreation, ⟨t, ?_, owned⟩, fun j other => ?_⟩
  · rw [State.tensor_congr after, State.tensor_setTensor, if_pos rfl]
  · rw [State.tensor_congr after, State.tensor_setTensor, if_neg other, State.tensor_congr before]

theorem placesTensor_placeTensor (placed : s.placeTensor h d owner planes = some u) : PlacesTensor s u h owner := by
  unfold State.placeTensor at placed
  extract_lets d1 m mapBytes scaled at placed
  split at placed
  · cases placed
  next s1 base run =>
    extract_lets w0 w1 d2 d3 t s2 at placed
    have headers : OnlyChanges placeFields s w1.1 := by
      refine (placeFrame_allocRun run).trans (OnlyChanges.trans (t := w0.1) ?_ ?_)
      · dsimp only [w0]
        split
        · exact placeFrame_writeHeader _ _ _
        · exact OnlyChanges.refl _ _
      · dsimp only [w1]
        split
        · exact placeFrame_writeHeader _ _ _
        · exact OnlyChanges.refl _ _
    refine .of_setTensor (t := t) headers rfl ?_
    split at placed
    · exact placeFrame_bindStreams placed
    · split at placed
      · rw [← Option.some.inj placed]
        exact placeFrame_foldl (fun v f => placeFrame_setFrame v _ _) _ _
      · rw [← Option.some.inj placed]
        exact OnlyChanges.refl _ _

end Creation

/-- Settles O20: with feedback the residual is placed after the tensor, under a handle of its own. -/
theorem creationMakesItsTensors : Obligations.CreationMakesItsTensors := by
  unfold Obligations.CreationMakesItsTensors
  intro s u h d created
  unfold State.create at created
  split at created
  · cases created
  next v placed =>
    obtain ⟨frame, live, others⟩ := placesTensor_placeTensor placed
    cases feedback : descFeedback d with
    | false =>
      rw [feedback, if_neg Bool.false_ne_true] at created
      cases created
      exact ⟨frame, fun _ => ⟨live, others⟩, fun h => absurd h Bool.false_ne_true⟩
    | true =>
      rw [feedback, if_pos rfl] at created
      obtain ⟨frame', residual, others'⟩ := placesTensor_placeTensor created
      refine ⟨frame.trans frame', fun h => absurd h.symm Bool.false_ne_true, fun _ apart =>
        ⟨?_, residual, fun j other other' => (others' j other').trans (others j other)⟩⟩
      rw [others' h (Ne.symm apart)]
      exact live

/-! ### Release (R188, R190) -/

section Release
variable (s : State) (h : Nat)

/-- The fields that a release may change. -/
def releaseFields : List Field := [.tensors, .alloc]

theorem onlyChanges_releaseFrame (f : Nat) : OnlyChanges [.alloc] s (s.releaseFrame f) := onlyChanges_alloc s _

theorem onlyChanges_releaseRun (r : MetaRun) : OnlyChanges [.alloc] s (s.releaseRun r) := by
  refine (onlyChanges_alloc s _).trans (foldl_keeps (OnlyChanges [.alloc]) (OnlyChanges.refl _) (fun _ _ _ => OnlyChanges.trans) _ _
    (fun v k _ => ?_) _)
  dsimp only
  split
  · exact OnlyChanges.refl _ v
  · exact onlyChanges_releaseFrame v _

/-- A release gives frames, pages and runs back before the handle is freed. -/
theorem dropTensor_eq : ∃ v, OnlyChanges [.alloc] s v ∧ s.dropTensor h = v.setTensor h none := by
  refine ⟨_, ?_, rfl⟩
  refine OnlyChanges.trans ?_ (foldl_keeps (OnlyChanges [.alloc]) (OnlyChanges.refl _) (fun _ _ _ => OnlyChanges.trans) _ _
    (fun v r _ => onlyChanges_releaseRun v r) _)
  refine OnlyChanges.trans ?_ (onlyChanges_alloc _ _)
  exact foldl_keeps (OnlyChanges [.alloc]) (OnlyChanges.refl _) (fun _ _ _ => OnlyChanges.trans) _ _
    (fun v e _ => onlyChanges_releaseFrame v _) s

theorem releaseFrame_dropTensor : OnlyChanges releaseFields s (s.dropTensor h) := by
  obtain ⟨v, frame, eq⟩ := dropTensor_eq s h
  rw [eq]
  exact (frame.mono (by simp [releaseFields])).trans ((onlyChanges_setTensor v h none).mono (by simp [releaseFields]))

theorem State.tensor_dropTensor (j : Nat) : (s.dropTensor h).tensor j = if j = h then none else s.tensor j := by
  obtain ⟨v, frame, eq⟩ := dropTensor_eq s h
  have table : v.tensor j = s.tensor j := congrArg (look none · j) (frame .tensors (by simp))
  rw [eq, State.tensor_setTensor, table]

variable {s h} {t : Tensor}

theorem State.release_eq (live : s.tensor h = some t) :
    s.release h = (if descFeedback t.desc then s.dropTensor (descResidual t.desc) else s).dropTensor h := by
  unfold State.release
  rw [live]

/-- R188: a released handle, and its residual with it, name nothing; every other handle names what it named. -/
theorem release_frees (live : s.tensor h = some t) :
    OnlyChanges releaseFields s (s.release h) ∧ (s.release h).tensor h = none ∧
      (descFeedback t.desc = true → (s.release h).tensor (descResidual t.desc) = none) ∧
      ∀ j, j ≠ h → (descFeedback t.desc = true → j ≠ descResidual t.desc) → (s.release h).tensor j = s.tensor j := by
  rw [State.release_eq live]
  refine ⟨OnlyChanges.trans ?_ (releaseFrame_dropTensor _ h), ?_, fun feedback => ?_, fun j other apart => ?_⟩
  · split
    · exact releaseFrame_dropTensor s _
    · exact OnlyChanges.refl _ s
  · rw [State.tensor_dropTensor, if_pos rfl]
  · rw [State.tensor_dropTensor, if_pos feedback, State.tensor_dropTensor, if_pos rfl, ite_self]
  · rw [State.tensor_dropTensor, if_neg other]
    split
    next feedback => rw [State.tensor_dropTensor, if_neg (apart feedback)]
    next => rfl

end Release

/-! ### The tensor commands as they are taken (R188 to R190, R322) -/

section TensorCommands
variable {q : Fin 256} {c host d : Line} {l : ListRun} {s : State}

/-! TENSOR_CREATE -/

theorem firstFail_three {a b c : Option Fail} (ha : a = none) (hb : b = none) : firstFail [a, b, c] = c := by
  subst ha hb
  cases c <;> rfl

theorem Takes.exec_tensorCreate (taken : Takes s q l c [] [handleAt c 8]) (header : s.headerFail q c [] = none)
    (desc : s.fetchDesc (fld c 16 8) host = (d, none)) (passes : s.createFail (handleAt c 8) d = none) :
    exec (.tensorCreate q c host) s = .next (s.createNow q l c d) := by
  refine (congrArg Host.Outcome.next (taken.take_go ?_)).trans (by rw [desc])
  rw [desc]
  exact (firstFail_three header rfl).trans passes

theorem Takes.exec_tensorCreate_fails (taken : Takes s q l c [] [handleAt c 8]) (header : s.headerFail q c [] = none)
    (desc : s.fetchDesc (fld c 16 8) host = (d, none)) {f : Fail} (fails : s.createFail (handleAt c 8) d = some f)
    (room : HasRoom s q c f.st) : exec (.tensorCreate q c host) s = .next ((s.passed q l c).completed s q l c f) := by
  refine congrArg Host.Outcome.next ((taken.take_fail ?_).trans (State.atOnce_room room id))
  rw [desc]
  exact (firstFail_three header rfl).trans fails

/-- A live handle is found out before anything else of the descriptor is looked at (log entry 16). -/
theorem createFail_inUse {h : Nat} (named : h ≠ 0) (live : (s.tensor h).isSome = true) :
    s.createFail h d = some { st := St.handleInUse, byte := 8, handle := h, value := h } := by
  have notZero : (h == 0) = false := beq_eq_false_iff_ne.mpr named
  unfold State.createFail
  simp only [notZero, live]
  rfl

/-- The creation as a started command that waits for scrubbed frames. -/
def State.creationStarted (s : State) (q : Nat) (l : ListRun) (c d : Line) : Started :=
  { s.asStarted q l c with writes := [handleAt c 8], work := .create d s.now }

theorem State.createNow_waits (short : s.unscrubbed (handleAt c 8) d = true) :
    s.createNow q l c d = s.enter q (s.creationStarted q l c d) := by
  unfold State.createNow
  simp only [short, if_true]
  rfl

theorem State.createNow_creates {u : State} (scrubbed : s.unscrubbed (handleAt c 8) d = false)
    (created : (s.passed q l c).create (handleAt c 8) d = some u) (room : HasRoom s q c Fail.ok.st) :
    s.createNow q l c d = u.completed s q l c .ok := by
  unfold State.passed at created
  unfold State.createNow
  simp only [scrubbed, Bool.false_eq_true, if_false, created]
  exact State.atOnce_room room _

/-- A command that opens no epoch enters its engine with a change of the queues, and of the count of its wait for a hot package. -/
theorem onlyChanges_enter (s : State) (q : Nat) {st : Started} (closed : st.opens = []) :
    OnlyChanges [.queues, .dict] s (s.enter q st) := by
  have counted : OnlyChanges [.queues, .dict] s (s.endHot q) := by
    unfold State.endHot
    split
    · exact ((onlyChanges_setDv s _ _).mono (by simp)).trans ((onlyChanges_onQueue _ q _).mono (by simp))
    · exact OnlyChanges.refl _ s
  have started (v : State) (x : Started) (g : Queue → Queue) :
      OnlyChanges [.queues, .dict] v (((v.advance q).nameSlot q x).onQueue q g) :=
    (((onlyChanges_advance v q).trans (onlyChanges_nameSlot _ q x)).trans (onlyChanges_onQueue _ q g)).mono (by simp)
  simp only [State.enter, closed]
  exact counted.trans (started _ _ _)

/-! TENSOR_FREE -/

theorem ownedFail_none {h : Nat} {t : Tensor} (live : s.tensor h = some t) (free : t.owner = 0) : s.ownedFail h = none := by
  simp [State.ownedFail, live, free, failIf]

theorem Takes.exec_tensorFree {t : Tensor} (taken : Takes s q l c [] [handleAt c 8]) (header : s.headerFail q c [] = none)
    (live : s.tensor (handleAt c 8) = some t) (free : t.owner = 0) :
    exec (.tensorFree q c) s = .next (if s.freeWaits (handleAt c 8) then s
      else s.atOnce q l c .ok (fun x => x.release (handleAt c 8))) := by
  refine congrArg Host.Outcome.next (taken.take_go ?_)
  rw [header, ownedFail_none live free]
  rfl

theorem State.tensor_passed (s : State) (q : Nat) (l : ListRun) (c : Line) (h : Nat) : (s.passed q l c).tensor h = s.tensor h :=
  congrArg (look none · h) (onlyChanges_passed s q l c .tensors (by simp))

/-! TENSOR_ATTR -/

/-- A tensor after a TENSOR_ATTR with byte 11 `b`. -/
def Tensor.withAttr (t : Tensor) (b : Nat) : Tensor :=
  { t with
    desc := if b.testBit 5 then descSetBit t.desc 3 0 false else t.desc,
    verdictNext := if b.testBit 0 then some (b.testBit 1) else t.verdictNext,
    mirrorNext := if b.testBit 2 then some (b / 8 % 4) else t.mirrorNext }

theorem State.tensor_setAttr (s : State) (h b j : Nat) :
    (s.setAttr h b).tensor j = if j = h then (s.tensor h).map (fun t => t.withAttr b) else s.tensor j :=
  s.tensor_onTensor h _ j

theorem onlyChanges_setAttr (s : State) (h b : Nat) : OnlyChanges [.tensors] s (s.setAttr h b) := onlyChanges_setTensor s h _

theorem Takes.exec_tensorAttr {t : Tensor} {b : Nat} (byte : b = fld c 11 1) (taken : Takes s q l c [] [handleAt c 8])
    (header : s.headerFail q c [(11, 6, 2)] = none) (live : s.tensor (handleAt c 8) = some t) (free : t.owner = 0)
    (mirror : b.testBit 2 = true → b / 8 % 4 ≠ 3 ∧ (b / 8 % 4 = 0 ∨ s.mayMirror (handleAt c 8) (b / 8 % 4) = true))
    (room : HasRoom s q c Fail.ok.st) :
    exec (.tensorAttr q c) s = .next (((s.passed q l c).setAttr (handleAt c 8) b).completed s q l c .ok) := by
  subst byte
  refine congrArg Host.Outcome.next ((taken.take_go ?_).trans (State.atOnce_room room (fun x => x.setAttr (handleAt c 8) (fld c 11 1))))
  rw [header, ownedFail_none live free]
  cases changed : (fld c 11 1).testBit 2 with
  | false => rfl
  | true =>
    obtain ⟨known, none | placed⟩ := mirror changed
    · simp [firstFail, failIf, none]
    · simp [firstFail, failIf, known, placed]

end TensorCommands

/-- Settles O21: what each command does once its checks are passed, or HANDLE_IN_USE fails one. -/
theorem tensorCommandsComplete : Obligations.TensorCommandsComplete := by
  unfold Obligations.TensorCommandsComplete
  intro q c host d l s h handle taken
  subst handle
  have passed := onlyChanges_passed s q l c
  refine ⟨fun header desc => ⟨fun passes short => ?_, fun passes scrubbed u created room => ?_, fun named live room => ?_⟩,
    fun t header live free => ⟨fun waits => ?_, fun idle room => ?_⟩, fun t b byte header live free mirror room => ?_⟩
  · exact ⟨_, _, (taken.exec_tensorCreate header desc passes).trans (congrArg Host.Outcome.next (State.createNow_waits short)),
      onlyChanges_enter s q rfl, State.enter_run taken.run _, State.enter_started s q _, rfl, rfl, rfl, rfl, rfl, rfl⟩
  · exact (taken.exec_tensorCreate header desc passes).trans
      (congrArg Host.Outcome.next (State.createNow_creates scrubbed created room))
  · exact ⟨_, rfl, rfl, taken.exec_tensorCreate_fails header desc (createFail_inUse named live) room⟩
  · rw [taken.exec_tensorFree header live free, if_pos waits]
  · obtain ⟨frame, gone, residual, others⟩ := release_frees (s := s.passed q l c) ((s.tensor_passed q l c _).trans live)
    refine ⟨(s.passed q l c).release (handleAt c 8), ?_, (passed.mono (by simp)).trans (frame.mono (by simp [releaseFields])),
      gone, residual, fun j other apart => (others j other apart).trans (s.tensor_passed q l c j)⟩
    rw [taken.exec_tensorFree header live free, idle, if_neg Bool.false_ne_true, State.atOnce_room (f := .ok) room]
  · refine ⟨_, taken.exec_tensorAttr byte header live free mirror room,
      (passed.mono (by simp)).trans ((onlyChanges_setAttr _ _ b).mono (by simp)), fun j other => ?_, ?_⟩
    · rw [State.tensor_setAttr, if_neg other, State.tensor_passed]
    · rw [State.tensor_setAttr, if_pos rfl, State.tensor_passed, live]
      rfl

end Sys2Proof.Machine

/-!
Scope of the block: queues (07: R165 to R176). The watch line, enabling and disabling, the start of a list, home clusters, and the
completion of started commands.
-/

namespace Sys2Proof.Machine

/-! ### Records and the rings (R169, R176, R414) -/

section Records
variable (s : State)

/-- The fields that an error record and the counters of the dictionary may change. -/
def recordFields : List Field := [.dict, .log, .logSeq, .mgmt]

theorem recordFrame_setDv (key v : Nat) : OnlyChanges recordFields s (s.setDv key v) :=
  (onlyChanges_setDv s key v).mono (by simp [recordFields])

theorem recordFrame_logged (xs : List ErrRecord) (n : Nat) : OnlyChanges recordFields s { s with log := xs, logSeq := n } := by
  intro f hf
  cases f
  case log | logSeq => exact absurd (by simp [recordFields]) hf
  all_goals rfl

theorem recordFrame_mgmt (m : Mgmt) : OnlyChanges recordFields s { s with mgmt := m } := by
  intro f hf
  cases f
  case mgmt => exact absurd (by simp [recordFields]) hf
  all_goals rfl

theorem recordFrame_record (e : ErrRecord) : OnlyChanges recordFields s (s.record e) := by
  unfold State.record State.ringRec
  split
  · exact recordFrame_mgmt s _
  · dsimp only
    split
    · exact ((recordFrame_logged s _ _).trans (recordFrame_setDv _ _ _)).trans (recordFrame_setDv _ _ _)
    · exact recordFrame_logged s _ _

/-- A queue held on a full ring resumes with a change of its wait, and of the count of the wait. -/
theorem resumeRing_eq (q : Nat) : ∃ v, OnlyChanges recordFields s v ∧
    (s.resumeRing q = v ∨ s.resumeRing q = v.onQueue q (fun r => { r with ringWait := none })) := by
  unfold State.resumeRing
  dsimp only
  split
  · split
    · exact ⟨s, OnlyChanges.refl _ s, .inl rfl⟩
    · exact ⟨_, recordFrame_setDv s _ _, .inr rfl⟩
  · exact ⟨s, OnlyChanges.refl _ s, .inl rfl⟩

theorem State.queue_of_recordFrame {s u : State} (h : OnlyChanges recordFields s u) (q : Nat) : u.queue q = s.queue q :=
  congrArg (look ({} : Queue) · q) (h .queues (by simp [recordFields]))

end Records

/-! ### The watch line (R167, R169) -/

section WatchLine
variable {s : State} {q : Nat} {before : Line}

/-- The fields that a store to a watch line may change. -/
def watchFields : List Field := [.dict, .log, .logSeq, .queues, .mgmt]

theorem OnlyChanges.toWatch {s u : State} (h : OnlyChanges recordFields s u) : OnlyChanges watchFields s u :=
  h.mono (by simp [recordFields, watchFields])

theorem watchFrame_onQueue (s : State) (q : Nat) (f : Queue → Queue) : OnlyChanges watchFields s (s.onQueue q f) :=
  (onlyChanges_onQueue s q f).mono (by simp [watchFields])

/-- Whether a queue is enabled and has not faulted. -/
def Queue.running (r : Queue) : Bool := qEnabled r.entry && !qFaulted r.entry

/-- What a queue keeps while its watch line is judged: the line. -/
def WatchKept (s u : State) (q : Nat) : Prop := OnlyChanges watchFields s u ∧ (u.queue q).watch = (s.queue q).watch

theorem wakeQueue_idle (idle : (s.queue q).running = false) : s.wakeQueue q before = s :=
  if_neg (by unfold Queue.running at idle; rw [idle]; exact Bool.false_ne_true)

theorem wakeQueue_faults (runs : (s.queue q).running = true) (fault : (s.queue q).faultStatus ≠ 0) :
    WatchKept s (s.wakeQueue q before) q ∧ ((s.wakeQueue q before).queue q).entry =
      setFld (qSetBit (qSetBit (s.queue q).entry 1 true) 2 false) 40 2 (s.queue q).faultStatus := by
  have faulted : s.wakeQueue q before = s.faultQueue q (s.queue q).faultStatus := (if_pos runs).trans (if_pos fault)
  have recorded := recordFrame_record (s.onQueue q (fun r =>
    { r with entry := setFld (qSetBit (qSetBit r.entry 1 true) 2 false) 40 2 (s.queue q).faultStatus }))
  rw [faulted, State.faultQueue]
  refine ⟨⟨(watchFrame_onQueue s q _).trans (recorded _).toWatch, ?_⟩, ?_⟩
  · rw [State.queue_of_recordFrame (recorded _), State.queue_onQueue_same]
  · rw [State.queue_of_recordFrame (recorded _), State.queue_onQueue_same]

theorem resumeRing_keeps (s : State) (q : Nat) :
    WatchKept s (s.resumeRing q) q ∧ ((s.resumeRing q).queue q).entry = (s.queue q).entry := by
  obtain ⟨v, frame, eq | eq⟩ := resumeRing_eq s q
  · rw [eq]
    exact ⟨⟨frame.toWatch, by rw [State.queue_of_recordFrame frame]⟩, by rw [State.queue_of_recordFrame frame]⟩
  · rw [eq]
    refine ⟨⟨frame.toWatch.trans (watchFrame_onQueue v q _), ?_⟩, ?_⟩
    · rw [State.queue_onQueue_same, State.queue_of_recordFrame frame]
    · rw [State.queue_onQueue_same, State.queue_of_recordFrame frame]

/-- R167: a queue whose indices are in order sleeps exactly where all entries have been consumed. -/
theorem wakeQueue_wakes (runs : (s.queue q).running = true) (sound : (s.queue q).faultStatus = 0) :
    WatchKept s (s.wakeQueue q before) q ∧ ((s.wakeQueue q before).queue q).entry =
      qSetBit (s.queue q).entry 2 (wProducer (s.queue q).watch == qConsumer (s.queue q).entry) := by
  obtain ⟨⟨frame, watch⟩, entry⟩ := resumeRing_keeps s q
  have counted (p : Bool) (v : State) : OnlyChanges recordFields v (if p then v.bump 0xA04600 1 else v) := by
    split
    · exact recordFrame_setDv v _ _
    · exact OnlyChanges.refl _ v
  unfold Queue.running at runs
  unfold State.wakeQueue
  dsimp only
  rw [if_pos runs, if_neg (not_not.mpr sound)]
  refine ⟨⟨(frame.trans (counted _ _).toWatch).trans (watchFrame_onQueue _ q _), ?_⟩, ?_⟩
  · rw [State.queue_onQueue_same, State.queue_of_recordFrame (counted _ _), watch]
  · rw [State.queue_onQueue_same, State.queue_of_recordFrame (counted _ _), entry]
    rfl

theorem wakeQueue_keeps (s : State) (q : Nat) (before : Line) : WatchKept s (s.wakeQueue q before) q := by
  cases runs : (s.queue q).running with
  | false =>
    rw [wakeQueue_idle runs]
    exact ⟨OnlyChanges.refl _ s, rfl⟩
  | true =>
    by_cases sound : (s.queue q).faultStatus = 0
    · exact (wakeQueue_wakes runs sound).1
    · exact (wakeQueue_faults runs sound).1

/-- The state in which bytes of a queue's watch line have been stored, and nothing judged. -/
def State.watchStored (s : State) (q off : Nat) (bytes : List Byte) : State :=
  s.onQueue q (fun r => { r with watch := storeWatch r.watch off bytes })

theorem State.watchStored_queue (s : State) (q off : Nat) (bytes : List Byte) :
    (s.watchStored q off bytes).queue q = { s.queue q with watch := storeWatch (s.queue q).watch off bytes } :=
  s.queue_onQueue_same q _

end WatchLine

/-! ### Enabling and disabling (R168, R171) -/

section Enabling
variable {s : State} {q : Nat}

/-- R168: the latch keeps byte 2 of the entry, the preferred cluster. -/
theorem qPreference_latchBytes (e : Line) : qPreference (latchBytes e) = qPreference e := by
  simp only [qPreference, latchBytes, List.foldl_cons, List.foldl_nil, fld, natFld, setFld, natSetFld, BitVec.toNat_ofNat]
  omega

theorem State.setHome_queue (s : State) (q : Nat) : (s.setHome q).queue q =
    { s.queue q with entry := setFld (s.queue q).entry 3 1 (s.homeFor q (qPreference (s.queue q).latched)) } :=
  s.queue_onQueue_same q _

theorem onlyChanges_setHome (s : State) (q : Nat) : OnlyChanges [.queues] s (s.setHome q) := onlyChanges_onQueue s q _

theorem State.homeFor_preferred {s : State} {q pref : Nat} (known : pref < 32) (inService : s.enabled pref = true) :
    s.homeFor q pref = pref :=
  if_pos (by rw [decide_eq_true known, inService]; rfl)

theorem State.enableQueue_refused (refused : s.enableStatus (s.queue q).entry ≠ 0) :
    s.enableQueue q = s.setQueue q { s.queue q with
      entry := setFld (qSetBit (qSetBit (qSetBit (s.queue q).entry 0 false) 1 false) 2 false) 40 2
        (s.enableStatus (s.queue q).entry) } := if_pos refused

theorem State.enableQueue_passes (passes : s.enableStatus (s.queue q).entry = 0) :
    s.enableQueue q = ((s.setQueue q { s.queue q with
      entry := enabledEntry (s.queue q).entry (s.queue q).watch, latched := latchBytes (s.queue q).entry,
      run := (s.queue q).run.map ListRun.left, stack := [], slots := [], ringWait := none }).setHome q).settled :=
  if_neg (not_not.mpr passes)

theorem State.queue_setQueue_same (s : State) (q : Nat) (r : Queue) : (s.setQueue q r).queue q = r := by
  rw [State.queue_setQueue, if_pos rfl]

/-- A queue that is entered anew and gets its home. -/
theorem State.setHome_setQueue (s : State) (q : Nat) (r : Queue) : ((s.setQueue q r).setHome q).queue q =
    { r with entry := setFld r.entry 3 1 ((s.setQueue q r).homeFor q (qPreference r.latched)) } := by
  rw [State.setHome_queue, State.queue_setQueue_same]

theorem State.enabled_setQueue (s : State) (q : Nat) (r : Queue) (c : Nat) : (s.setQueue q r).enabled c = s.enabled c := rfl

/-- R171: a queue that is latched from its entry gets the cluster the entry prefers, while that is in service. -/
theorem State.homeFor_latched {e : Line} (r : Queue) (known : qPreference e < 32) (inService : s.enabled (qPreference e) = true) :
    (s.setQueue q r).homeFor q (qPreference (latchBytes e)) = qPreference e := by
  rw [qPreference_latchBytes, State.homeFor_preferred known]
  rw [State.enabled_setQueue, inService]

end Enabling

section QueueCommands
variable {q : Fin 256} {s : State}

theorem exec_watchLineStore (s : State) (q : Fin 256) (off : Fin 64) (bytes : List Byte) :
    exec (.watchLineStore q off bytes) s = .next ((s.watchStored q off bytes).wakeQueue q (s.queue q).watch).settled := rfl

theorem exec_queueEnable_running (runs : (s.queue q).running = true) : exec (.queueEnable q) s = .next s :=
  congrArg Host.Outcome.next (if_pos runs)

theorem exec_queueEnable_stopped (stops : (s.queue q).running = false) : exec (.queueEnable q) s = .next (s.enableQueue q) :=
  congrArg Host.Outcome.next (if_neg (c := (s.queue q).running = true) (by rw [stops]; exact Bool.false_ne_true))

/-- A queue that stops at its next command boundary. -/
def Queue.disabled (r : Queue) : Queue :=
  { r with entry := qSetBit (qSetBit r.entry 0 false) 2 false, run := r.run.map ListRun.disabled }

theorem exec_queueDisable_enabled (on : qEnabled (s.queue q).entry = true) :
    exec (.queueDisable q) s = .next (s.onQueue q Queue.disabled).settled :=
  congrArg Host.Outcome.next (if_pos on)

theorem exec_queueDisable_disabled (off : qEnabled (s.queue q).entry = false) : exec (.queueDisable q) s = .next s :=
  congrArg Host.Outcome.next (if_neg (by rw [off]; exact Bool.false_ne_true))

end QueueCommands

/-- Settles O40: the stored line is judged as `faultStatus` says; an entry is judged as `enableStatus` says. -/
theorem queuesWakeEnableAndDisable : Obligations.QueuesWakeEnableAndDisable := by
  unfold Obligations.QueuesWakeEnableAndDisable
  intro q off bytes s w hw
  subst hw
  refine ⟨?_, exec_queueEnable_running, fun stops st hst => ⟨fun refused => ?_, fun passes => ?_⟩, fun on => ?_,
    exec_queueDisable_disabled⟩
  · have stored := s.watchStored_queue q off bytes
    obtain ⟨frame, watch⟩ := wakeQueue_keeps (s.watchStored q off bytes) q (s.queue q).watch
    refine ⟨_, exec_watchLineStore s q off bytes, (watchFrame_onQueue s q _).trans frame, ?_, fun stops => ?_,
      fun runs st hst => ⟨fun fault => ?_, fun sound => ?_⟩⟩
    · rw [watch, stored]
    · rw [wakeQueue_idle (by rw [stored]; exact stops), stored]
    · rw [hst, ← stored] at fault
      obtain ⟨-, entry⟩ := wakeQueue_faults (before := (s.queue q).watch) (by rw [stored]; exact runs) fault
      rw [entry, stored, hst]
    · rw [hst, ← stored] at sound
      obtain ⟨-, entry⟩ := wakeQueue_wakes (before := (s.queue q).watch) (by rw [stored]; exact runs) sound
      rw [entry, stored]
  · subst hst
    exact ⟨_, (exec_queueEnable_stopped stops).trans (congrArg Host.Outcome.next (State.enableQueue_refused refused)),
      onlyChanges_setQueue s q _, s.queue_setQueue_same q _⟩
  · subst hst
    refine ⟨_, (exec_queueEnable_stopped stops).trans (congrArg Host.Outcome.next (State.enableQueue_passes passes)),
      (onlyChanges_setQueue s q _).trans (onlyChanges_setHome _ q), ?_⟩
    rw [State.setHome_setQueue]
    exact ⟨rfl, rfl, rfl, rfl, rfl, rfl, _, rfl, State.homeFor_latched _⟩
  · exact ⟨_, exec_queueDisable_enabled on, onlyChanges_onQueue s q _, s.queue_onQueue_same q Queue.disabled⟩

/-! ### The start of a list (R170, R423) -/

section ListStart
variable {q : Fin 256} {e : BitVec 128} {s : State}

theorem exec_listStart (s : State) (q : Fin 256) (e : BitVec 128) :
    exec (.listStart q ⟨e, none⟩) s = .next (if s.listDue q then s.startList q e else s) := rfl

theorem exec_listStart_notDue (waits : s.listDue q = false) (ecc : Option (BitVec 32 × Bool)) :
    exec (.listStart q ⟨e, ecc⟩) s = .next s := by
  have stays : (if s.listDue q then s.startList q e else s) = s := by rw [waits, if_neg Bool.false_ne_true]
  cases ecc with
  | none => exact congrArg Host.Outcome.next stays
  | some err =>
    have clean : (if s.listDue q then s.controlError (qHome (s.queue q).entry) err.1.toNat err.2 else s) = s := by
      rw [waits, if_neg Bool.false_ne_true]
    refine Eq.trans (b := .next (if s.listDue q then s.startList q e else s)) ?_ (congrArg Host.Outcome.next stays)
    exact congrArg (fun u : State => Host.Outcome.next (if u.listDue q then u.startList q e else u)) clean

/-- R423: an error of the control memory is handled before the list starts. -/
theorem exec_listStart_error (due : s.listDue q = true) (wd : BitVec 32) (corrected : Bool) :
    exec (.listStart q ⟨e, some (wd, corrected)⟩) s =
      exec (.listStart q ⟨e, none⟩) (s.controlError (qHome (s.queue q).entry) wd.toNat corrected) :=
  congrArg (fun u : State => Host.Outcome.next (if u.listDue q then u.startList q e else u)) (if_pos due)

/-- A queue whose list starts. -/
def Queue.starting (r : Queue) (l : ListRun) : Queue := { r with entry := qSetBit r.entry 2 false, stack := [], run := some l }

theorem State.fetchFault_ok (s : State) (q g : Nat) : s.fetchFault q g 0 = (s, 0xFFFF) := if_neg (by decide)

theorem State.startList_readable (readable : s.fetchStatus (s.queue q).submissionAddr 16 = 0) :
    s.startList q e = (s.onQueue q (fun r => r.starting (listOf (s.submission q e) s.now))).settled := by
  unfold State.startList
  dsimp only
  rw [readable, if_neg (not_not.mpr rfl), State.fetchFault_ok]
  rfl

end ListStart

/-! ### Home clusters (R171, R201) -/

section Rehome
variable {q : Fin 256} {s : State}

theorem State.rehome_stays (stays : qEnabled (s.queue q).entry = false ∨
    s.enabled (qHome (s.queue q).entry) = true ∧ qSleeping (s.queue q).entry = false) : exec (.queueRehome q) s = .next s := by
  refine congrArg Host.Outcome.next ?_
  unfold State.rehome
  obtain off | ⟨inService, awake⟩ := stays
  · simp [off]
  · simp [inService, awake]

theorem State.rehome_sleeping (on : qEnabled (s.queue q).entry = true) (inService : s.enabled (qHome (s.queue q).entry) = true)
    (asleep : qSleeping (s.queue q).entry = true) : exec (.queueRehome q) s = .next (s.setHome q) := by
  refine congrArg Host.Outcome.next ?_
  unfold State.rehome
  simp [on, inService, asleep]

theorem State.rehome_lost (on : qEnabled (s.queue q).entry = true) (dark : s.enabled (qHome (s.queue q).entry) = false) :
    exec (.queueRehome q) s = .next (s.loseControl q).settled := by
  refine congrArg Host.Outcome.next ?_
  unfold State.rehome
  simp [on, dark]

/-- R201: a list whose control state is lost. -/
def ListRun.lost (l : ListRun) : ListRun :=
  { l with wait := .none, ended := true, bad := St.controlLost, badId := 0, badSlot := 0xFFFF }

theorem loseControl_keeps (s : State) (q : Nat) : OnlyChanges [.queues] s (s.loseControl q) ∧
    ((s.loseControl q).queue q).stack = [] ∧ ((s.loseControl q).queue q).slots = [] ∧
    ((s.loseControl q).queue q).run = (s.queue q).run.map ListRun.lost := by
  unfold State.loseControl
  rw [State.setHome_queue, State.queue_onQueue_same]
  exact ⟨(onlyChanges_onQueue s q _).trans (onlyChanges_setHome _ q), rfl, rfl, rfl⟩

end Rehome

/-! ### Completion of a started command (R175, R176) -/

section Completion
variable {q : Fin 256} {id : Nat} {s : State} {st : Started}

theorem exec_commandComplete (idle : s.twin.tees = []) : exec (.commandComplete q id) s = .next (s.completeStarted q id) := by
  refine congrArg (fun u : State => Host.Outcome.next (u.completeStarted q id)) ?_
  unfold State.teeRun
  rw [if_pos (by rw [idle]; rfl)]

theorem State.completeStarted_missing (missing : s.startedOf q id = none) : s.completeStarted q id = s := by
  unfold State.completeStarted
  rw [missing]

theorem State.completeStarted_running (found : s.startedOf q id = some st) (running : st.done = false) :
    s.completeStarted q id = s := by
  unfold State.completeStarted
  rw [found]
  simp [running]

theorem State.completeStarted_blocked (found : s.startedOf q id = some st) (done : st.done = true)
    (full : (s.queue q).blocked (cmdRecord st.cmd) (withEmpty st.status st.flags) = true) :
    s.completeStarted q id = s.stampRing q := by
  unfold State.completeStarted
  rw [found]
  simp [done, full]

theorem State.completeStarted_room (found : s.startedOf q id = some st) (done : st.done = true)
    (room : (s.queue q).blocked (cmdRecord st.cmd) (withEmpty st.status st.flags) = false) :
    s.completeStarted q id = ((s.recordReads st).finish q st st.report (signal := s.signalsHere st)).settled := by
  unfold State.completeStarted
  rw [found]
  simp [done, room]

theorem State.stampRing_ringWait (s : State) (q : Nat) :
    ((s.stampRing q).queue q).ringWait = some ((s.queue q).ringWait.getD s.now) := by
  rw [State.stampRing, State.queue_onQueue_same]
  cases held : (s.queue q).ringWait with
  | none => rfl
  | some since => simp [held]

/-- A command that completes is no longer among the started ones. -/
theorem State.finish_started (s : State) (q : Nat) (st : Started) (f : Fail) (signal : Bool) :
    ∀ x ∈ ((s.finish q st f signal).queue q).started, x.id ≠ st.id := by
  intro x hx
  unfold State.finish at hx
  dsimp only at hx
  rw [State.queue_onQueue_same] at hx
  exact bne_iff_ne.mp (List.mem_filter.mp hx).2

end Completion

/-- Settles O41: a due list starts where its entry can be read; a queue's home and state decide on its move; a done command completes
where its ring has room (the records of its reads are made then, log entry 137). -/
theorem listsStartMoveAndComplete : Obligations.ListsStartMoveAndComplete := by
  unfold Obligations.ListsStartMoveAndComplete
  intro q e id s
  refine ⟨fun due readable => ?_, exec_listStart_notDue, fun due wd corrected => ⟨_, rfl, exec_listStart_error due wd corrected⟩,
    State.rehome_stays, fun on inService asleep => ?_, fun on dark => ?_, fun idle => ⟨fun missing => ?_, fun st found =>
      ⟨fun running => ?_, fun done full => ?_, fun done room => ?_⟩⟩⟩
  · refine ⟨_, ?_, onlyChanges_onQueue s q _, s.queue_onQueue_same q (fun r => r.starting (listOf (s.submission q e) s.now))⟩
    rw [exec_listStart, if_pos due, State.startList_readable readable]
  · exact ⟨_, State.rehome_sleeping on inService asleep, onlyChanges_setHome s q, s.setHome_queue q⟩
  · obtain ⟨frame, stack, slots, run⟩ := loseControl_keeps s q
    exact ⟨_, State.rehome_lost on dark, frame, stack, slots, fun l hl => by rw [run, hl]; rfl⟩
  · rw [exec_commandComplete idle, State.completeStarted_missing missing]
  · rw [exec_commandComplete idle, State.completeStarted_running found running]
  · refine ⟨s.stampRing q, ?_, onlyChanges_onQueue s q _, s.stampRing_ringWait q⟩
    rw [exec_commandComplete idle, State.completeStarted_blocked found done full]
  · refine ⟨_, ?_, rfl, ?_⟩
    · rw [exec_commandComplete idle, State.completeStarted_room found done room]
    · rw [← State.id_of_startedOf found]
      exact State.finish_started _ q st _ _

end Sys2Proof.Machine

/-!
Scope of the block: tiles (07: R192 to R196). How a ready job's next unit is handed to its cluster, how a waiting tile gets its page,
and how an operand tile arrives in the clusters of a half.
-/

namespace Sys2Proof.Machine

/-! ### Dispatch (R195, R196) -/

section Dispatch
variable {s : State} {q k : Nat} {st : Started} {w : MatmulWork} {moved : Bool} {rest : List (Nat × Started × MatmulWork)}

theorem State.dealFrame_now (s : State) (h idx c : Nat) : (s.dealFrame h idx c).now = s.now := by
  unfold State.dealFrame
  split
  · rfl
  · split <;> rfl

/-- A job's work changed in place is found where the job was. -/
theorem State.startedOf_onMatmul {id : Nat} {f : MatmulWork → MatmulWork} (found : s.startedOf q id = some st)
    (work : st.work = .matmul w) : (s.onMatmul q id f).startedOf q id = some { st with work := .matmul (f w) } := by
  refine (State.startedOf_onStarted (fun x => ?_) found).trans ?_
  · split <;> rfl
  · rw [work]

/-- The tile of a job's next unit, as it is dispatched. -/
def State.nextTile (s : State) (q : Nat) (st : Started) (w : MatmulWork) : Tile :=
  ⟨q, st.id, w.nextUnit, s.now, s.unitCost st.cmd w.parts w.nextUnit⟩

/-- A job after its unit `u` was dealt to cluster `k`. -/
def MatmulWork.movedOn (w : MatmulWork) (c : Line) (u k : Nat) : MatmulWork :=
  { w with
    next := if w.redo.isEmpty then w.next + 1 else w.next, redo := w.redo.tail, fullSince := none,
    homes := if w.inPlace then put none w.homes (homeKey c (unitPos c w.parts u)) (some k) else w.homes }

/-- The wait of a job for a free slot is counted (R196). -/
def State.fullCounted (s : State) (w : MatmulWork) : State :=
  match w.fullSince with
  | some x => s.surge 0xA04700 x
  | none => s

/-- The state in which a job has moved on by its next unit, before that is handed to its cluster. -/
def State.dispatched (s : State) (q : Nat) (st : Started) (w : MatmulWork) (k : Nat) (moved : Bool) : State :=
  { ((((s.fullCounted w).onMatmul q st.id (fun x => x.movedOn st.cmd w.nextUnit k)).dealFrame (handleAt st.cmd 14)
      (s.unitOut st.cmd w.parts w.nextUnit) k).bump 0xA04E00 (if moved then 1 else 0)) with lastQueue := q }

theorem State.dispatchTo_eq (s : State) (q : Nat) (st : Started) (w : MatmulWork) (k : Nat) (moved : Bool) :
    s.dispatchTo q st w k moved = (s.dispatched q st w k moved).handTile st w (s.nextTile q st w) k := rfl

theorem State.fullCounted_now (s : State) (w : MatmulWork) : (s.fullCounted w).now = s.now := by
  unfold State.fullCounted
  split <;> rfl

theorem State.fullCounted_queues (s : State) (w : MatmulWork) : (s.fullCounted w).queues = s.queues := by
  unfold State.fullCounted
  split <;> rfl

theorem State.dispatched_now (s : State) (q : Nat) (st : Started) (w : MatmulWork) (k : Nat) (moved : Bool) :
    (s.dispatched q st w k moved).now = s.now :=
  (State.dealFrame_now _ _ _ _).trans (s.fullCounted_now w)

/-- R196: the job that is dispatched has moved on by its next unit. -/
theorem State.startedOf_dispatched (found : s.startedOf q st.id = some st) (work : st.work = .matmul w) (k : Nat) (moved : Bool) :
    (s.dispatched q st w k moved).startedOf q st.id = some { st with work := .matmul (w.movedOn st.cmd w.nextUnit k) } := by
  have moves := State.startedOf_onMatmul (f := fun x => x.movedOn st.cmd w.nextUnit k)
    ((State.startedOf_congr (s.fullCounted_queues w) q st.id).trans found) work
  exact (State.startedOf_congr (State.queues_congr (State.queuesAndStep_dealFrame _ _ _ _)) q st.id).trans moves

theorem State.dispatchFirst_cons (placed : s.placeUnit st w w.nextUnit = some (k, moved)) (free : (s.cluster k).slotsUsed < 64) :
    s.dispatchFirst ((q, st, w) :: rest) = s.dispatchTo q st w k moved := by
  unfold State.dispatchFirst
  simp only [placed, free, if_true]

/-- TILE_DISPATCH and DISPATCH_AGE_CEILING differ in the order in which they take the ready jobs. -/
theorem exec_dispatch {t : Nat} {e : Instr} {s s1 : State} {order : List (Nat × Started × MatmulWork)} (now : s1 = s.tick t)
    (row : e = .tileDispatch t ∧ order = s1.agedJobs s1.readyJobs ++ s1.dispatchOrder s1.readyJobs ∨
      e = .dispatchAgeCeiling t ∧ order = s1.agedJobs s1.readyJobs) :
    exec e s = .next (if s1.candidates.isEmpty then s1 else (s1.dispatchFirst order).pumpPagers) := by
  subst now
  obtain ⟨rfl, rfl⟩ | ⟨rfl, rfl⟩ := row <;> rfl

end Dispatch

/-! ### Pages (R192) -/

section Pages
variable {s : State} {c : Nat} {w : Waiter} {rest : List Waiter}

theorem onlyChanges_setCluster (s : State) (c : Nat) (x : Cluster) : OnlyChanges [.clusters] s (s.setCluster c x) := by
  intro f hf
  cases f
  case clusters => exact absurd (List.mem_singleton.2 rfl) hf
  all_goals rfl

/-- The state in which the oldest tile that waits at a cluster has its page. -/
def State.paged (s : State) (c : Nat) (w : Waiter) (rest : List Waiter) : State :=
  (s.surge 0xA04700 w.since).setCluster c { s.cluster c with
    pageWait := rest, workPages := (s.cluster c).workPages + 1, slots := (s.cluster c).slots ++ [s.waitingTile w] }

theorem State.grantPage_free (waits : (s.cluster c).pageWait = w :: rest) (free : 0 < s.pagesLeft c) :
    s.grantPage c = (s.paged c w rest).feedArrays c := by
  unfold State.grantPage
  simp only [waits]
  exact if_pos free

theorem State.grantPage_stays (stays : (s.cluster c).pageWait = [] ∨ s.pagesLeft c = 0) : s.grantPage c = s := by
  unfold State.grantPage
  obtain none | full := stays
  · simp only [none]
  · cases waits : (s.cluster c).pageWait with
    | nil => simp only [waits]
    | cons w rest => simp only [waits, full, Nat.lt_irrefl, if_false]

theorem State.paged_cluster (s : State) (c : Nat) (w : Waiter) (rest : List Waiter) : (s.paged c w rest).cluster c =
    { s.cluster c with
      pageWait := rest, workPages := (s.cluster c).workPages + 1, slots := (s.cluster c).slots ++ [s.waitingTile w] } := by
  rw [State.paged, State.cluster_setCluster, if_pos rfl]

theorem onlyChanges_paged (s : State) (c : Nat) (w : Waiter) (rest : List Waiter) :
    OnlyChanges [.dict, .clusters] s (s.paged c w rest) :=
  ((onlyChanges_setDv s _ _).mono (by simp)).trans ((onlyChanges_setCluster _ c _).mono (by simp))

theorem State.paged_dv (s : State) (c : Nat) (w : Waiter) (rest : List Waiter) : (s.paged c w rest).dv 0xA04700 =
    (s.dv 0xA04700 + (s.now - w.since)) % 256 ^ entrySize 0xA04700 :=
  (s.dv_bump _ _ _).trans (if_pos rfl)

end Pages

/-! ### The arrival of an operand tile (R193, R194) -/

/-- A fold whose every step makes a property of its own element true, and keeps it for every element, ends with it for the elements it
ran over, and for those that had it before. -/
theorem foldl_establishes {α β : Type} {P : β → α → Prop} {f : α → β → α} (keeps : ∀ j k a, P j a → P j (f a k))
    (makes : ∀ k a, P k (f a k)) (ks : List β) {a : α} {j : β} (h : j ∈ ks ∨ P j a) : P j (ks.foldl f a) := by
  induction ks generalizing a with
  | nil => exact h.resolve_left List.not_mem_nil
  | cons k ks ih =>
    refine ih ?_
    obtain inside | before := h
    · obtain rfl | later := List.mem_cons.mp inside
      · exact .inr (makes j a)
      · exact .inl later
    · exact .inr (keeps j k a before)

section Arrival
variable {s v u : State} {f : Fetch} {c k a : Nat}

/-- What ending a stall keeps: every field but the dictionary and the clusters, the count of bytes that were not read again, and what
the pagers hold. -/
def PagersKept (s u : State) : Prop :=
  OnlyChanges [.dict, .clusters] s u ∧ u.dv 0xA04A00 = s.dv 0xA04A00 ∧
    ∀ j, (u.cluster j).fetches = (s.cluster j).fetches ∧ (u.cluster j).buffers = (s.cluster j).buffers

theorem PagersKept.refl (s : State) : PagersKept s s := ⟨OnlyChanges.refl _ s, rfl, fun _ => ⟨rfl, rfl⟩⟩

theorem PagersKept.trans (h : PagersKept s u) (g : PagersKept u v) : PagersKept s v := by
  obtain ⟨frame, bytes, held⟩ := h
  obtain ⟨frame', bytes', held'⟩ := g
  refine ⟨frame.trans frame', bytes'.trans bytes, fun j => ?_⟩
  rw [(held' j).1, (held' j).2]
  exact held j

theorem pagersKept_endStall (s : State) (c a : Nat) : PagersKept s (s.endStall c a) := by
  unfold State.endStall
  dsimp only
  split
  · exact .refl s
  · refine ⟨((onlyChanges_setDv s _ _).mono (by simp)).trans ((onlyChanges_onCluster _ c _).mono (by simp)),
      s.dv_setDv_ne _ (by decide), fun j => ?_⟩
    rw [State.setArray, State.cluster_onCluster]
    split
    next same => subst same; exact ⟨rfl, rfl⟩
    next => exact ⟨rfl, rfl⟩

/-- At cluster `k` the fetches of an operand tile, as `v` has the tile's job, are over: they lie in its buffers, or are gone. -/
def State.takeFetches (s v : State) (f : Fetch) (k : Nat) : State :=
  s.onCluster k (fun r => { r with
    fetches := r.fetches.filter (fun x => !f.same x),
    buffers := if (v.tileJob f.tile).isSome then r.buffers ++ (s.cluster k).fetches.filter f.same else r.buffers })

/-- The stalls of the arrays of cluster `k` that waited for these fetches alone end. -/
def State.endStalls (s : State) (k : Nat) (gone : List Fetch) : State :=
  (List.range 32).foldl (fun s a => match (s.array k a).cur with
    | some u => if gone.any (fun x => x.of u) && !s.tileFetching k u then s.endStall k a else s
    | none => s) s

/-- The arrival of an operand tile at one cluster of the half. -/
def State.arriveAt (v : State) (f : Fetch) (s : State) (k : Nat) : State :=
  (s.takeFetches v f k).endStalls k ((s.cluster k).fetches.filter f.same)

/-- The clusters of the half of `c` that wait for an operand tile. -/
def State.waitingFor (v : State) (c : Nat) (f : Fetch) : List Nat :=
  ((List.range 16).map (· + c / 16 * 16)).filter (fun k => (v.cluster k).fetches.any f.same)

theorem State.fetchArrives_eq (found : (v.cluster c).fetches.find? v.mayFetch = some f) :
    v.fetchArrives c =
      (v.waitingFor c f).foldl (v.arriveAt f) (v.bump 0xA04A00 (f.bytes * ((v.waitingFor c f).length - 1))) := by
  unfold State.fetchArrives
  rw [found]
  rfl

theorem State.fetchArrives_none (none : (v.cluster c).fetches.find? v.mayFetch = none) : v.fetchArrives c = v := by
  unfold State.fetchArrives
  rw [none]

theorem pagersKept_endStalls (s : State) (k : Nat) (gone : List Fetch) : PagersKept s (s.endStalls k gone) := by
  refine foldl_keeps PagersKept .refl (fun _ _ _ => .trans) _ _ (fun w a _ => ?_) s
  split
  · split
    · exact pagersKept_endStall w k a
    · exact .refl w
  · exact .refl w

theorem onlyChanges_arriveAt (v : State) (f : Fetch) (s : State) (k : Nat) :
    OnlyChanges [.dict, .clusters] s (v.arriveAt f s k) :=
  ((onlyChanges_onCluster s k _).mono (by simp)).trans (pagersKept_endStalls _ k _).1

theorem State.dv_arriveAt (v : State) (f : Fetch) (s : State) (k : Nat) : (v.arriveAt f s k).dv 0xA04A00 = s.dv 0xA04A00 :=
  (pagersKept_endStalls _ k _).2.1

theorem State.fetches_arriveAt (v : State) (f : Fetch) (s : State) (k j : Nat) : ((v.arriveAt f s k).cluster j).fetches =
    if j = k then (s.cluster j).fetches.filter (fun x => !f.same x) else (s.cluster j).fetches := by
  rw [State.arriveAt, ((pagersKept_endStalls _ k _).2.2 j).1, State.takeFetches, State.cluster_onCluster]
  split
  next same => rw [same]
  next => rfl

theorem State.buffers_arriveAt (job : (v.tileJob f.tile).isSome = true) (s : State) (k j : Nat) :
    ((v.arriveAt f s k).cluster j).buffers =
      if j = k then (s.cluster j).buffers ++ (s.cluster j).fetches.filter f.same else (s.cluster j).buffers := by
  rw [State.arriveAt, ((pagersKept_endStalls _ k _).2.2 j).2, State.takeFetches, State.cluster_onCluster, if_pos job]
  split
  next same => rw [same]
  next => rfl

/-- No fetch of a cluster is for the operand tile of `f`. -/
def NoneSame (f : Fetch) (j : Nat) (s : State) : Prop := ∀ x ∈ (s.cluster j).fetches, f.same x = false

theorem noneSame_arriveAt (v : State) (f : Fetch) (k : Nat) (s : State) : NoneSame f k (v.arriveAt f s k) := by
  intro x hx
  rw [State.fetches_arriveAt, if_pos rfl] at hx
  simpa using (List.mem_filter.mp hx).2

theorem NoneSame.arriveAt {j : Nat} (h : NoneSame f j s) (v : State) (k : Nat) : NoneSame f j (v.arriveAt f s k) := by
  intro x hx
  rw [State.fetches_arriveAt] at hx
  split at hx
  · exact h x (List.mem_of_mem_filter hx)
  · exact h x hx

/-- A fetch for an operand tile that arrives stays, or comes to lie in its cluster's buffers. -/
theorem fetch_or_buffer_arriveAt (job : (v.tileJob f.tile).isSome = true) {x : Fetch} {j : Nat} (same : f.same x = true) (k : Nat)
    (h : x ∈ (s.cluster j).fetches ∨ x ∈ (s.cluster j).buffers) :
    x ∈ ((v.arriveAt f s k).cluster j).fetches ∨ x ∈ ((v.arriveAt f s k).cluster j).buffers := by
  rw [State.fetches_arriveAt, State.buffers_arriveAt job]
  split
  · refine .inr (List.mem_append.mpr (h.symm.imp_right fun waits => List.mem_filter.mpr ⟨waits, same⟩))
  · exact h

theorem mem_waitingFor_or_noneSame {j : Nat} (half : j / 16 = c / 16) (f : Fetch) (v : State) :
    j ∈ v.waitingFor c f ∨ NoneSame f j v := by
  cases waits : (v.cluster j).fetches.any f.same with
  | true =>
    refine .inl (List.mem_filter.mpr ⟨List.mem_map.mpr ⟨j % 16, List.mem_range.mpr (Nat.mod_lt _ (by decide)), ?_⟩, waits⟩)
    omega
  | false => exact .inr fun x hx => Bool.eq_false_iff.mpr (List.any_eq_false.mp waits x hx)

theorem State.length_waitingFor (v : State) (c : Nat) (f : Fetch) : (v.waitingFor c f).length =
    ((List.range 16).filter (fun k => (v.cluster (k + c / 16 * 16)).fetches.any f.same)).length := by
  rw [State.waitingFor, List.filter_map, List.length_map]
  rfl

/-- R194: an operand tile arrives once for a half: no cluster of the half waits for it any more, and of a tile whose job runs it lies
in the buffers of those that did; the bytes this saves are counted. -/
theorem fetchArrives_half (found : (v.cluster c).fetches.find? v.mayFetch = some f) :
    OnlyChanges [.dict, .clusters] v (v.fetchArrives c) ∧
    (v.fetchArrives c).dv 0xA04A00 =
      (v.dv 0xA04A00 + f.bytes * ((v.waitingFor c f).length - 1)) % 256 ^ entrySize 0xA04A00 ∧
    ∀ j, j / 16 = c / 16 → NoneSame f j (v.fetchArrives c) ∧
      ((v.tileJob f.tile).isSome = true → ∀ x ∈ (v.cluster j).fetches, f.same x = true →
        x ∈ ((v.fetchArrives c).cluster j).buffers) := by
  rw [State.fetchArrives_eq found]
  generalize f.bytes * ((v.waitingFor c f).length - 1) = n
  have counted : OnlyChanges [.dict, .clusters] v (v.bump 0xA04A00 n) := (onlyChanges_setDv v _ _).mono (by simp)
  refine ⟨counted.trans (foldl_keeps (OnlyChanges [.dict, .clusters]) (OnlyChanges.refl _) (fun _ _ _ => OnlyChanges.trans) _ _
    (fun w k _ => onlyChanges_arriveAt v f w k) _), ?_, fun j half => ?_⟩
  · rw [foldl_reads (fun w : State => w.dv 0xA04A00) (fun w k => v.dv_arriveAt f w k), State.dv_bump, if_pos rfl]
  · have gone := foldl_establishes (P := NoneSame f) (f := v.arriveAt f) (fun _ k _ h => h.arriveAt v k)
      (fun k w => noneSame_arriveAt v f k w) (v.waitingFor c f) (a := v.bump 0xA04A00 n) (mem_waitingFor_or_noneSame half f v)
    refine ⟨gone, fun job x waits same => ?_⟩
    have moved := foldl_keeps (fun w w' : State => x ∈ (w.cluster j).fetches ∨ x ∈ (w.cluster j).buffers →
        x ∈ (w'.cluster j).fetches ∨ x ∈ (w'.cluster j).buffers) (fun _ => id) (fun _ _ _ h g => g ∘ h) (v.arriveAt f)
      (v.waitingFor c f) (fun w k _ => fetch_or_buffer_arriveAt job same k) (v.bump 0xA04A00 n) (.inl waits)
    refine moved.resolve_left fun left => ?_
    rw [gone x left] at same
    exact absurd same Bool.false_ne_true

theorem exec_pagerFetchArrival (s : State) (c : Fin 32) :
    exec (.pagerFetchArrival c) s = .next (((s.pumpPager c).fetchArrives c).pumpPager c).runVectors := rfl

theorem exec_scratchPageGrant (s : State) (c : Fin 32) (t : Nat) :
    exec (.scratchPageGrant c t) s = .next ((s.tick t).grantPage c) := rfl

end Arrival

/-- Settles O38: the first job of the order is placed and handed over; a page goes to the oldest waiter (one for each tile, log entry
178); an operand tile leaves the fetches of every cluster that `waitingFor` names. Aged jobs come by the age of their commands (log
entry 179). -/
theorem tilesAreDispatchedAndFetched : Obligations.TilesAreDispatchedAndFetched := by
  unfold Obligations.TilesAreDispatchedAndFetched
  intro t c s s1 now
  refine ⟨fun e order row => ?_, fun w rest waits free => ?_, fun stays => ?_, fun v hv => ⟨fun f found => ?_, fun none => ?_⟩⟩
  · rw [exec_dispatch now row]
    refine ⟨fun none => by rw [none]; rfl, fun some empty => ?_, fun q st w rest k moved some first placed free => ?_⟩
    · rw [if_neg (by simpa using some), empty, State.dispatchFirst]
    · refine ⟨s1.dispatched q st w k moved, _, rfl, ?_, rfl, s1.dispatched_now q st w k moved, fun found work =>
        ⟨_, _, State.startedOf_dispatched found work k moved, rfl, rfl, rfl, rfl⟩⟩
      rw [if_neg (by simpa using some), first, State.dispatchFirst_cons placed free, State.dispatchTo_eq]
      rfl
  · subst now
    refine ⟨(s.tick t).paged c w rest, ?_, onlyChanges_paged _ c w rest, State.paged_dv _ c w rest, ?_⟩
    · rw [exec_scratchPageGrant, State.grantPage_free waits free]
    · rw [State.paged_cluster]
      exact ⟨rfl, rfl, rfl⟩
  · subst now
    rw [exec_scratchPageGrant, State.grantPage_stays stays]
  · subst hv
    obtain ⟨frame, bytes, half⟩ := fetchArrives_half found
    rw [State.length_waitingFor] at bytes
    exact ⟨_, exec_pagerFetchArrival s c, frame, bytes, fun k same => half k (congrArg Fin.val same)⟩
  · subst hv
    rw [exec_pagerFetchArrival, State.fetchArrives_none none]

end Sys2Proof.Machine

/-! Scope of the block: what every step keeps (O4), the reset state (O3).

`State.Kept`: a command leaves the waiting commands, memory's canonical form and the log's bound. One lemma `State.Kept.f` for each
operation `f` of the state and one `execRow_kept` for each row, in the order of the model's definitions and cited in its dispatch. -/

namespace Sys2Proof.Machine

/-- What every command leaves in a state: the waiting commands `cs`, memory's canonical form, the error log's bound. -/
def State.Kept (s : State) (cs : List Instr) : Prop := s.pending = cs ∧ s.Sound

/-- What an operation of the adders leaves is kept, done or waiting. -/
def AddTry.Kept (cs : List Instr) : AddTry → Prop
  | .done x => x.s.Kept cs
  | .wait s _ => s.Kept cs

/-- A command's next state is kept. -/
def OutcomeKept (cs : List Instr) : Host.Outcome State Fault Refusal → Prop
  | .next t => t.Kept cs
  | _ => True

section
variable {s : State} {cs : List Instr}

/-- A copy with the same waiting commands, memory and log. -/
theorem State.Kept.copy {now fresh egress marks dict tags logSeq windows queues counters ingress bankLast bankAt tensors alloc step
    clusters lastQueue channels packages stageWait ports streamsOut streamsIn reqs nextTag directory snoops lineWait arrivals
    collectives nextCollective parked colSent traek twin regions power spots cooling mgmt test boot} (h : s.Kept cs) :
    State.Kept { s with
      now := now, fresh := fresh, egress := egress, marks := marks, dict := dict, tags := tags, logSeq := logSeq,
      windows := windows, queues := queues, counters := counters, ingress := ingress, bankLast := bankLast,
      bankAt := bankAt, tensors := tensors, alloc := alloc, step := step, clusters := clusters, lastQueue := lastQueue,
      channels := channels, packages := packages, stageWait := stageWait, ports := ports, streamsOut := streamsOut,
      streamsIn := streamsIn, reqs := reqs, nextTag := nextTag, directory := directory, snoops := snoops,
      lineWait := lineWait, arrivals := arrivals, collectives := collectives, nextCollective := nextCollective,
      parked := parked, colSent := colSent, traek := traek, twin := twin, regions := regions, power := power,
      spots := spots, cooling := cooling, mgmt := mgmt, test := test, boot := boot } cs := h

theorem State.Kept.ite {t : State} {c : Prop} [Decidable c] (hs : s.Kept cs) (ht : t.Kept cs) :
    (if c then s else t).Kept cs := by
  split
  · exact hs
  · exact ht

theorem State.Kept.iteFst {β : Type} {x y : State × β} {c : Prop} [Decidable c] (hx : x.1.Kept cs) (hy : y.1.Kept cs) :
    (if c then x else y).1.Kept cs := by
  split
  · exact hx
  · exact hy

theorem State.Kept.iteAcc {x y : Acc} {c : Prop} [Decidable c] (hx : x.s.Kept cs) (hy : y.s.Kept cs) :
    (if c then x else y).s.Kept cs := by
  split
  · exact hx
  · exact hy

theorem State.Kept.iteMoved {x y : Moved} {c : Prop} [Decidable c] (hx : x.s.Kept cs) (hy : y.s.Kept cs) :
    (if c then x else y).s.Kept cs := by
  split
  · exact hx
  · exact hy

theorem State.Kept.foldlBind {α : Type} {f : State → α → Option State} {xs : List α} {o : Option State} {t : State}
    (ho : ∀ {u}, o = some u → u.Kept cs) (hf : ∀ {u a v}, u.Kept cs → f u a = some v → v.Kept cs)
    (ht : xs.foldl (fun o a => o.bind (fun u => f u a)) o = some t) : t.Kept cs := by
  induction xs generalizing o with
  | nil => exact ho ht
  | cons a xs ih =>
    refine ih (fun hu => ?_) ht
    obtain ⟨v, hv, hu⟩ := Option.bind_eq_some_iff.1 hu
    exact hf (ho hv) hu

theorem State.Kept.foldl {α : Type} {f : State → α → State} {xs : List α} (h : s.Kept cs)
    (hf : ∀ {u a}, u.Kept cs → (f u a).Kept cs) : (xs.foldl f s).Kept cs := by
  induction xs generalizing s with
  | nil => exact h
  | cons x xs ih => exact ih (hf h)

theorem State.Kept.foldlFst {α β : Type} {f : State × β → α → State × β} {xs : List α} {x : State × β} (h : x.1.Kept cs)
    (hf : ∀ {u a}, u.1.Kept cs → (f u a).1.Kept cs) : (xs.foldl f x).1.Kept cs := by
  induction xs generalizing x with
  | nil => exact h
  | cons y xs ih => exact ih (hf h)

theorem State.Kept.foldlAcc {α : Type} {f : Acc → α → Acc} {xs : List α} {x : Acc} (h : x.s.Kept cs)
    (hf : ∀ {u a}, u.s.Kept cs → (f u a).s.Kept cs) : (xs.foldl f x).s.Kept cs := by
  induction xs generalizing x with
  | nil => exact h
  | cons y xs ih => exact ih (hf h)

theorem State.Kept.foldlRun {α : Type} {f : VecRun → α → VecRun} {xs : List α} {x : VecRun} (h : x.s.Kept cs)
    (hf : ∀ {u a}, u.s.Kept cs → (f u a).s.Kept cs) : (xs.foldl f x).s.Kept cs := by
  induction xs generalizing x with
  | nil => exact h
  | cons y xs ih => exact ih (hf h)

/-- The state of a pair that is named by its parts. -/
theorem State.Kept.ofPair {β : Type} {r : State × β} {t : State} {b : β} (e : r = (t, b)) (h : r.1.Kept cs) : t.Kept cs := by
  subst e
  exact h

theorem AddTry.Kept.ofEq {r t : AddTry} (e : r = t) (h : r.Kept cs) : t.Kept cs := e ▸ h

theorem State.Kept.wr (h : s.Kept cs) {a b} : (s.wr a b).Kept cs :=
  ⟨h.1, Tbl.wf_put _ _ _ _ h.2.1, h.2.2⟩

theorem State.Kept.clearRange (h : s.Kept cs) {a n} : (s.clearRange a n).Kept cs :=
  ⟨h.1, Tbl.wf_filter _ _ _ h.2.1, h.2.2⟩

end

/-- What a performed operation leaves is the state behind it. -/
theorem State.submitTry_done {s u o side node source reply rd x}
    (h : State.submitTry s o side node source reply rd = (u, some x)) : x.s = u := by
  unfold State.submitTry at h
  dsimp only at h
  split at h
  · cases h
  · split at h <;> cases h
    rfl

section
variable {s : State} {cs : List Instr}

/-! ### Ops -/

theorem State.Kept.tick {t} (h : s.Kept cs) : (s.tick t).Kept cs := h
theorem State.Kept.drawn (h : s.Kept cs) : (s.drawn).Kept cs := h
theorem State.Kept.send {e} (h : s.Kept cs) : (s.send e).Kept cs := h
theorem State.Kept.setDv {key v} (h : s.Kept cs) : (s.setDv key v).Kept cs := h
theorem State.Kept.bump {key n} (h : s.Kept cs) : (s.bump key n).Kept cs := h.setDv
theorem State.Kept.surge {key since} (h : s.Kept cs) : (s.surge key since).Kept cs := h.bump
theorem State.Kept.setQueue {q r} (h : s.Kept cs) : (s.setQueue q r).Kept cs := h
theorem State.Kept.onQueue {q f} (h : s.Kept cs) : (s.onQueue q f).Kept cs := h.setQueue
theorem State.Kept.setCluster {c r} (h : s.Kept cs) : (s.setCluster c r).Kept cs := h
theorem State.Kept.onCluster {c f} (h : s.Kept cs) : (s.onCluster c f).Kept cs := h.setCluster
theorem State.Kept.setChannel {c r} (h : s.Kept cs) : (s.setChannel c r).Kept cs := h
theorem State.Kept.onChannel {c f} (h : s.Kept cs) : (s.onChannel c f).Kept cs := h.setChannel
theorem State.Kept.setPackage {p r} (h : s.Kept cs) : (s.setPackage p r).Kept cs := h
theorem State.Kept.onPackage {p f} (h : s.Kept cs) : (s.onPackage p f).Kept cs := h.setPackage
theorem State.Kept.setPort {p r} (h : s.Kept cs) : (s.setPort p r).Kept cs := h
theorem State.Kept.onPort {p f} (h : s.Kept cs) : (s.onPort p f).Kept cs := h.setPort
theorem State.Kept.setRegion {r x} (h : s.Kept cs) : (s.setRegion r x).Kept cs := h
theorem State.Kept.onRegion {r f} (h : s.Kept cs) : (s.onRegion r f).Kept cs := h.setRegion
theorem State.Kept.setSpot {a x} (h : s.Kept cs) : (s.setSpot a x).Kept cs := h
theorem State.Kept.onSpot {a f} (h : s.Kept cs) : (s.onSpot a f).Kept cs := h.setSpot
theorem State.Kept.setTensor {a t} (h : s.Kept cs) : (s.setTensor a t).Kept cs := h
theorem State.Kept.onTensor {a f} (h : s.Kept cs) : (s.onTensor a f).Kept cs := h.setTensor
theorem State.Kept.setCounter {n v} (h : s.Kept cs) : (s.setCounter n v).Kept cs := h
theorem State.Kept.addCounter {n v} (h : s.Kept cs) : (s.addCounter n v).Kept cs := h.setCounter
theorem State.Kept.onStreamOut {n f} (h : s.Kept cs) : (s.onStreamOut n f).Kept cs := h
theorem State.Kept.onStreamIn {n f} (h : s.Kept cs) : (s.onStreamIn n f).Kept cs := h
theorem State.Kept.latch {bit} (h : s.Kept cs) : (s.latch bit).Kept cs := h.setDv.setDv

/-- R418: the ring holds at most 4,096 records. -/
theorem State.Kept.ringRec {r} (h : s.Kept cs) : (s.ringRec r).Kept cs := by
  have h1 : State.Kept { s with log := ({ r with seq := s.logSeq + 1 } :: s.log).take 4096, logSeq := s.logSeq + 1 }
    cs :=
    ⟨h.1, h.2.1, List.length_take_le _ _⟩
  unfold State.ringRec
  dsimp only
  split
  · exact h1.latch
  · exact h1

theorem State.Kept.record {r} (h : s.Kept cs) : (s.record r).Kept cs := .ite h h.ringRec

theorem State.Kept.recordOf {cls unit region syndrome} (h : s.Kept cs) :
    (s.recordOf cls unit region syndrome).Kept cs :=
  h.record

theorem State.Kept.recordCE {r source} (h : s.Kept cs) : (s.recordCE r source).Kept cs := by
  unfold State.recordCE
  split
  · exact h
  · exact h.record.copy

theorem State.Kept.deliverEast (h : s.Kept cs) : (s.deliverEast).Kept cs := by
  unfold State.deliverEast
  dsimp only
  split
  · exact h
  · exact .foldl (.ringRec h) (fun hu => hu.ringRec)

theorem State.Kept.addressFault {kind node addr unit status} (h : s.Kept cs) :
    (s.addressFault kind node addr unit status).Kept cs :=
  h.record

theorem State.Kept.commandFault {cmd kind addr unit status} (h : s.Kept cs) :
    (s.commandFault cmd kind addr unit status).Kept cs :=
  h.record

theorem State.Kept.faultOf {o kind addr unit status} (h : s.Kept cs) :
    (s.faultOf o kind addr unit status).Kept cs := by
  unfold State.faultOf
  split
  · exact h.commandFault
  · exact h.addressFault

theorem State.Kept.wrBytes {a b} (h : s.Kept cs) : (s.wrBytes a b).Kept cs := by
  induction b generalizing s a with
  | nil => exact h
  | cons x b ih => exact ih h.wr

theorem State.Kept.wrNat {a n v} (h : s.Kept cs) : (s.wrNat a n v).Kept cs := h.wrBytes
theorem State.Kept.setMark {k m} (h : s.Kept cs) : (s.setMark k m).Kept cs := h
theorem State.Kept.markRange {a n m} (h : s.Kept cs) : (s.markRange a n m).Kept cs := h.foldl (fun hu => hu.setMark)
theorem State.Kept.poisonLine {a} (h : s.Kept cs) : (s.poisonLine a).Kept cs := h.markRange.bump

theorem State.Kept.freshen {a n} (h : s.Kept cs) : (s.freshen a n).Kept cs := by
  unfold State.freshen
  split
  · exact .ite h.markRange h
  · exact h.markRange
  · exact h

/-! ### Tensor -/

theorem State.Kept.setPresent {d b on} (h : s.Kept cs) : (s.setPresent d b on).Kept cs := by
  unfold State.setPresent
  split
  · exact h
  · exact h.wrNat.wrNat

theorem State.Kept.moveBlocks {d b enter} (h : s.Kept cs) : (s.moveBlocks d b enter).Kept cs := by
  unfold State.moveBlocks
  split
  · exact .ite h.wrBytes.wrBytes.setPresent h.wrBytes.setPresent
  · exact h

theorem State.Kept.putCode {d plane idx code} (h : s.Kept cs) : (s.putCode d plane idx code).Kept cs := by
  unfold State.putCode
  split
  · exact h
  · exact .ite h.wr h.wrNat

theorem State.Kept.wrCode {d plane idx code} (h : s.Kept cs) : (s.wrCode d plane idx code).Kept cs := by
  unfold State.wrCode
  exact .ite (.ite (.moveBlocks (.putCode (.ite h.moveBlocks h))) (.putCode (.ite h.moveBlocks h))) h.putCode

theorem State.Kept.setScale {hdr b e} (h : s.Kept cs) : (s.setScale hdr b e).Kept cs := h.wrNat
theorem State.Kept.setState {hdr b v} (h : s.Kept cs) : (s.setState hdr b v).Kept cs := h.wrNat
theorem State.Kept.setHist {hdr b v} (h : s.Kept cs) : (s.setHist hdr b v).Kept cs := .ite h h.wrNat
theorem State.Kept.setSideEntry {hdr b k v} (h : s.Kept cs) : (s.setSideEntry hdr b k v).Kept cs := h.wrNat
theorem State.Kept.setChanRec {hdr ch v} (h : s.Kept cs) : (s.setChanRec hdr ch v).Kept cs := h.wrNat
theorem State.Kept.chanMax {hdr ch e} (h : s.Kept cs) : (s.chanMax hdr ch e).Kept cs := h.setChanRec
theorem State.Kept.recordFF {a b unit} (h : s.Kept cs) : (s.recordFF a b unit).Kept cs := h.recordOf

theorem State.Kept.recordPlaneFFs {a plane unit idxs} (h : s.Kept cs) :
    (s.recordPlaneFFs a plane unit idxs).Kept cs := by
  unfold State.recordPlaneFFs
  split
  · exact h
  · exact .ite (h.foldl (fun hu => .ite hu.recordFF hu)) h

theorem State.Kept.recordFFs {a unit idxs} (h : s.Kept cs) : (s.recordFFs a unit idxs).Kept cs := by
  unfold State.recordFFs
  split
  · exact h
  · exact h.recordPlaneFFs

theorem State.Kept.setFrame {f u} (h : s.Kept cs) : (s.setFrame f u).Kept cs := h

theorem State.Kept.takeFrame {mirrored p r} (h : s.Kept cs) (hr : s.takeFrame mirrored p = some r) : r.1.Kept cs := by
  unfold State.takeFrame at hr
  split at hr
  · cases hr
    exact h.drawn
  · split at hr
    · cases hr
      exact h.drawn.clearRange.copy
    · cases hr

theorem State.Kept.bindUnit {a c i} (h : s.Kept cs) : (s.bindUnit a c i).Kept cs := by
  unfold State.bindUnit
  split
  · exact h
  next t _ =>
    dsimp only
    refine .ite h (.ite (State.Kept.onTensor (.wrNat (.clearRange h.copy))) ?_)
    split
    · exact h
    next u f hu =>
      have h1 : ∀ {v}, (u.setFrame f v).Kept cs := fun {_} => (h.takeFrame hu).setFrame
      exact .onTensor (.wrNat (.ite h1 h1.bump))

theorem State.Kept.bindBytes {a c off n} (h : s.Kept cs) : (s.bindBytes a c off n).Kept cs := by
  unfold State.bindBytes
  split
  · exact h
  · exact .ite h (h.foldl (fun hu => hu.bindUnit))

theorem State.Kept.bindAll {a c} (h : s.Kept cs) : (s.bindAll a c).Kept cs := by
  unfold State.bindAll
  split
  · exact h
  · exact h.bindBytes

theorem State.Kept.releaseFrame {f} (h : s.Kept cs) : (s.releaseFrame f).Kept cs := h.setFrame.copy

theorem State.Kept.freshenTensor {d} (h : s.Kept cs) : (s.freshenTensor d).Kept cs := by
  unfold State.freshenTensor
  refine .foldl h (fun hu => ?_)
  split
  · exact hu.freshen
  · exact hu

/-! ### Wire -/

theorem State.Kept.flitOut {p load} (h : s.Kept cs) : (s.flitOut p load).Kept cs := h.onPort.send
theorem State.Kept.idleOut {p nak} (h : s.Kept cs) : (s.idleOut p nak).Kept cs := h.onPort.send

theorem State.Kept.packetOut {p w} (h : s.Kept cs) : (s.packetOut p w).Kept cs := by
  unfold State.packetOut
  refine .onPort ?_
  refine .foldl ?_ (fun hu => hu.flitOut)
  refine .onPort ?_
  refine .send ?_
  split
  · exact h.surge
  · exact h

theorem State.Kept.drainPort {a b} (h : s.Kept cs) : (State.drainPort a s b).Kept cs := by
  induction a generalizing s with
  | zero => exact h
  | succ n ih =>
    unfold State.drainPort
    split
    · exact ih h.packetOut
    · exact h

theorem State.Kept.portShort {p} (h : s.Kept cs) : (s.portShort p).Kept cs := h.onPort.bump
theorem State.Kept.portGoes {p} (h : s.Kept cs) : (s.portGoes p).Kept cs := h.drainPort.portShort
theorem State.Kept.egressPort {p e} (h : s.Kept cs) : (s.egressPort p e).Kept cs := h.onPort.portGoes
theorem State.Kept.resendFlits {p} (h : s.Kept cs) : (s.resendFlits p).Kept cs := h.foldl (fun hu => hu.send)

theorem State.Kept.creditBack {p op bytes} (h : s.Kept cs) : (s.creditBack p op bytes).Kept cs :=
  .ite h.onPort h.onPort.idleOut

theorem State.Kept.onTraek {f} (h : s.Kept cs) : (s.onTraek f).Kept cs := h
theorem State.Kept.traekFlitOut {load} (h : s.Kept cs) : (s.traekFlitOut load).Kept cs := h.onTraek.send
theorem State.Kept.traekIdle {nak} (h : s.Kept cs) : (s.traekIdle nak).Kept cs := h.onTraek.send

theorem State.Kept.messageOut {w} (h : s.Kept cs) : (s.messageOut w).Kept cs := by
  unfold State.messageOut
  refine .foldl ?_ (fun hu => hu.traekFlitOut)
  refine .onTraek ?_
  refine .send ?_
  split
  · exact h.surge
  · exact h

theorem State.Kept.drainTraek {a} (h : s.Kept cs) : (State.drainTraek a s).Kept cs := by
  induction a generalizing s with
  | zero => exact h
  | succ n ih =>
    unfold State.drainTraek
    split
    · exact ih h.messageOut
    · exact h

theorem State.Kept.traekShort (h : s.Kept cs) : (s.traekShort).Kept cs := h.onTraek.foldl (fun hu => hu.bump)
theorem State.Kept.traekGoes (h : s.Kept cs) : (s.traekGoes).Kept cs := h.drainTraek.traekShort

theorem State.Kept.sendTraek {op tag addr lines status poison data} (h : s.Kept cs) :
    (s.sendTraek op tag addr lines status poison data).Kept cs :=
  h.onTraek.traekGoes

theorem State.Kept.traekResend (h : s.Kept cs) : (s.traekResend).Kept cs := h.foldl (fun hu => hu.send)

theorem State.Kept.traekBack {op bytes} (h : s.Kept cs) : (s.traekBack op bytes).Kept cs :=
  .ite h.onTraek.traekIdle h.onTraek

/-! ### Net -/

theorem State.Kept.sendFrom {src op dst flag poison hops epoch seq addr lines tag status data} (h : s.Kept cs) :
    (s.sendFrom src op dst flag poison hops epoch seq addr lines tag status data).Kept cs := by
  unfold State.sendFrom
  split
  · exact h
  · exact h.egressPort

theorem State.Kept.sendPacket {op dst flag poison seq addr lines tag status data} (h : s.Kept cs) :
    (s.sendPacket op dst flag poison seq addr lines tag status data).Kept cs :=
  h.sendFrom

theorem State.Kept.pushStream {dst a} (h : s.Kept cs) : (s.pushStream dst a).Kept cs := by
  unfold State.pushStream
  dsimp only
  split
  · exact .onStreamOut h
  · split
    · exact .egressPort (.onStreamOut h)
    · exact .onStreamOut h

theorem State.Kept.shipGateway {p dst} (h : s.Kept cs) : (s.shipGateway p dst).Kept cs :=
  h.onPort.foldl (fun hu => hu.foldl (fun h2 => h2.pushStream))

theorem State.Kept.placeGateway {p dst source q} (h : s.Kept cs) : (s.placeGateway p dst source q).Kept cs := by
  unfold State.placeGateway
  split
  · exact h.onPort
  · exact .ite h.shipGateway.onPort (.ite h.onPort.shipGateway h.onPort)

theorem State.Kept.askBeyond {p dst a} (h : s.Kept cs) : (s.askBeyond p dst a).Kept cs := by
  unfold State.askBeyond
  dsimp only
  split
  · split
    · exact h.shipGateway.copy
    · exact h.shipGateway.pushStream
  · exact h.shipGateway.pushStream

theorem State.Kept.gatherGateway {p dst source a} (h : s.Kept cs) : (s.gatherGateway p dst source a).Kept cs :=
  .ite h.onPort (.ite h.placeGateway h.askBeyond)

theorem State.Kept.askHost {dst a} (h : s.Kept cs) : (s.askHost dst a).1.Kept cs := by
  unfold State.askHost
  exact .iteFst h (.sendTraek h)

theorem State.Kept.sendOn {dst source a} (h : s.Kept cs) : (s.sendOn dst source a).Kept cs := by
  unfold State.sendOn
  split
  · exact .ite h.gatherGateway h.pushStream
  · exact h.pushStream

theorem State.Kept.keepBack {dst source a} (h : s.Kept cs) : (s.keepBack dst source a).Kept cs := h

theorem State.Kept.liftHold (h : s.Kept cs) : (s.liftHold).Kept cs :=
  .foldl h (fun hu => hu.foldl (fun h2 => h2.sendOn))

theorem State.Kept.ask {dst source a} (h : s.Kept cs) : (s.ask dst source a).1.Kept cs := by
  unfold State.ask
  split
  · exact h.askHost
  · split
    · exact h
    · exact .ite h.keepBack h.sendOn

theorem State.Kept.sendBack {p op seq addr lines status poison data} (h : s.Kept cs) :
    (s.sendBack p op seq addr lines status poison data).Kept cs :=
  h.sendFrom

theorem State.Kept.respond {p op status data poison} (h : s.Kept cs) :
    (s.respond p op status data poison).Kept cs := by
  unfold State.respond
  split
  · exact .ite h.sendTraek h
  · exact h.sendBack

theorem State.Kept.ackTo {p} (h : s.Kept cs) : (s.ackTo p).Kept cs := h.respond
theorem State.Kept.nakTo {p status} (h : s.Kept cs) : (s.nakTo p status).Kept cs := h.respond
theorem State.Kept.dataTo {p data poison} (h : s.Kept cs) : (s.dataTo p data poison).Kept cs := h.respond

/-! ### Lines -/

theorem State.Kept.wakeChannel {ch} (h : s.Kept cs) : (s.wakeChannel ch).Kept cs := h.onChannel

theorem State.Kept.useLine {a} (h : s.Kept cs) : (s.useLine a).Kept cs := by
  unfold State.useLine
  split
  · exact h.wakeChannel
  · exact h

theorem State.Kept.markSuspect {a} (h : s.Kept cs) : (s.markSuspect a).Kept cs := h.onTensor

theorem State.Kept.loseTensor {a unit region} (h : s.Kept cs) : (s.loseTensor a unit region).Kept cs :=
  h.markSuspect.recordOf

theorem State.Kept.countCritical {p} (h : s.Kept cs) : (s.countCritical p).Kept cs :=
  h.foldl (fun hu => hu.bump.onChannel)

theorem State.Kept.failWaiting {p st} (h : s.Kept cs) : (s.failWaiting p st).Kept cs :=
  h.foldl (fun hu => ((hu.setChannel.foldl (fun h2 => h2.nakTo)).foldl (fun h2 => h2.nakTo)).foldl
    (fun h2 => h2.nakTo))

theorem State.Kept.takeOffline {p ch cause} (h : s.Kept cs) : (s.takeOffline p ch cause).Kept cs := by
  unfold State.takeOffline
  split
  · exact h
  · exact (h.onPackage.recordOf.setDv.foldl (fun hu => hu.loseTensor)).failWaiting

theorem State.Kept.noteLineUE {near} (h : s.Kept cs) : (s.noteLineUE near).Kept cs :=
  .ite h (.ite h.setChannel.takeOffline h.setChannel)

theorem State.Kept.lineUE {near cls source} (h : s.Kept cs) : (s.lineUE near cls source).Kept cs :=
  h.setMark.bump.recordOf.noteLineUE

theorem State.Kept.noteCE {near n} (h : s.Kept cs) : (s.noteCE near n).Kept cs := h.bump.recordCE
theorem State.Kept.lineCE {near n} (h : s.Kept cs) : (s.lineCE near n).Kept cs := h.bump.noteCE

theorem State.Kept.decodeLine {near r} (h : s.Kept cs) : (s.decodeLine near r).Kept cs := by
  unfold State.decodeLine
  split
  · exact h.setMark
  · exact h.setMark
  · exact h.lineUE
  · exact h.lineUE
  · exact h.wrBytes.setMark.lineCE

theorem State.Kept.senseLine {near r} (h : s.Kept cs) : (s.senseLine near r).Kept cs := by
  unfold State.senseLine
  split
  · exact h
  · split
    · exact h.setMark
    · exact h.setMark
    · exact h.decodeLine

theorem State.Kept.readBad {near} (h : s.Kept cs) : (s.readBad near).Kept cs := by
  unfold State.readBad
  split
  · exact h.lineUE
  · exact h.lineUE
  · exact h

theorem State.Kept.poisonRead {a} (h : s.Kept cs) : (s.poisonRead a).Kept cs := by
  unfold State.poisonRead
  split
  · exact .ite h h.readBad.poisonLine
  · exact h.poisonLine

theorem State.Kept.readWord {x} (h : s.Kept cs) : (s.readWord x).Kept cs := by
  unfold State.readWord
  dsimp only
  split
  · split
    · exact h
    · split
      · exact h
      · exact h.recordCE
      · split
        · exact h.wrBytes
        · split
          · exact h.setMark
          · split
            · exact h.wrBytes.recordCE
            · exact h.setMark.record
  · exact h

theorem State.Kept.readWords {ws} (h : s.Kept cs) : (s.readWords ws).Kept cs := h.foldl (fun hu => hu.readWord)

theorem State.Kept.readErrors {c} (h : s.Kept cs) : (s.readErrors c).Kept cs := by
  unfold State.readErrors
  refine .foldl h.readWords (fun hu => ?_)
  split
  · exact hu.senseLine
  · exact hu

theorem State.Kept.dropEntry {line} (h : s.Kept cs) : (s.dropEntry line).Kept cs := h.onChannel

theorem State.Kept.retireWc {e r} (h : s.Kept cs) : (s.retireWc e r).Kept cs := by
  unfold State.retireWc
  dsimp only
  split
  · exact h.onChannel.wakeChannel.bump.setMark
  · exact h.onChannel.wakeChannel.bump.setMark.bump
  · exact h.onChannel.wakeChannel.bump.lineUE.setMark.bump
  · exact h.onChannel.wakeChannel.bump.lineUE.setMark.bump
  · exact h.onChannel.wakeChannel.bump.wrBytes.setMark.noteCE

theorem State.Kept.notePartial {line mask source} (h : s.Kept cs) : (s.notePartial line mask source).Kept cs := by
  unfold State.notePartial
  dsimp only
  split
  · exact .setMark (.ite h.wakeChannel.dropEntry.onChannel h.wakeChannel.dropEntry)
  · split
    · exact h.wakeChannel.dropEntry.onChannel
    · refine .onChannel ?_
      split
      · exact h.wakeChannel.dropEntry.retireWc
      · exact h.wakeChannel.dropEntry

theorem State.Kept.retireLine {line r} (h : s.Kept cs) : (s.retireLine line r).Kept cs := by
  unfold State.retireLine
  dsimp only
  split
  · exact h.retireWc
  · exact .ite h h.senseLine

theorem State.Kept.noteBytes {addrs} (h : s.Kept cs) : (s.noteBytes addrs).Kept cs :=
  h.foldl (fun hu => hu.notePartial)

theorem State.Kept.noteElems {d plane idxs} (h : s.Kept cs) : (s.noteElems d plane idxs).Kept cs := h.noteBytes

theorem State.Kept.takeElems {a unit idxs} (h : s.Kept cs) : (s.takeElems a unit idxs).Kept cs := by
  unfold State.takeElems
  split
  · exact h
  · exact (h.foldl (fun hu => hu.wakeChannel)).recordFFs

theorem State.Kept.useEntries {d idxs} (h : s.Kept cs) : (s.useEntries d idxs).Kept cs :=
  h.foldl (fun hu => hu.retireLine.onChannel)

theorem State.Kept.dropEntries {d idxs} (h : s.Kept cs) : (s.dropEntries d idxs).Kept cs :=
  h.foldl (fun hu => hu.dropEntry)

/-! ### Block -/

theorem State.Kept.wrPlain {a b d w idx v} (h : a.s.Kept cs) : (State.wrPlain a b d w idx v).s.Kept cs := h.wrCode

theorem State.Kept.wrCodes {a b d plane w c e vs} (h : a.s.Kept cs) :
    (State.wrCodes a b d plane w c e vs).s.Kept cs :=
  h.foldlAcc (fun hu => hu.wrCode)

theorem State.Kept.wrZeros {d plane b vs} (h : s.Kept cs) : (s.wrZeros d plane b vs).Kept cs :=
  h.foldl (fun hu => hu.wrCode)

theorem State.Kept.clearSide {d hdr b} (h : s.Kept cs) : (s.clearSide d hdr b).Kept cs := by
  unfold State.clearSide
  split
  · split
    · exact h.setSideEntry
    · exact h
  · exact h

theorem State.Kept.wrJit {a b d hdr plane w c vs} (h : a.s.Kept cs) :
    (State.wrJit a b d hdr plane w c vs).s.Kept cs := by
  unfold State.wrJit
  dsimp only
  split
  · exact h.clearSide.wrZeros.setScale.setState
  · split
    · split
      · exact h.clearSide.wrCodes.setScale.setState.chanMax
      · exact h.clearSide.wrCodes.setScale.setState
    · split
      · split
        · exact h.clearSide.setSideEntry.bump.wrZeros.setScale.setState
        · split
          · exact h.clearSide.setSideEntry.bump.wrCodes.setScale.setState.chanMax
          · exact h.clearSide.setSideEntry.bump.wrCodes.setScale.setState
      · split
        · exact h.clearSide.bump.bump.wrNat.wrCodes.setScale.setState.chanMax
        · exact h.clearSide.bump.bump.wrNat.wrCodes.setScale.setState

theorem State.Kept.wrSlotElems {a b d hdr w ch evs} (h : a.s.Kept cs) :
    (State.wrSlotElems a b d hdr w ch evs).s.Kept cs :=
  h.foldlAcc (fun hu => hu.wrNat)

theorem State.Kept.moveToSlot {a b t plane w ch covered} (h : a.s.Kept cs) :
    (State.moveToSlot a b t plane w ch covered).s.Kept cs :=
  (h.recordPlaneFFs.wrSlotElems.foldl
    (fun hu => .setState (.ite hu.clearSide.wrZeros hu.clearSide.wrZeros.setScale))).setChanRec

theorem State.Kept.moveFromSlot {a t plane ch covered wrBlock} (h : a.s.Kept cs)
    (hw : ∀ {v a b}, v.s.Kept cs → (wrBlock v a b).s.Kept cs) :
    (State.moveFromSlot a t plane ch covered wrBlock).s.Kept cs :=
  State.Kept.foldlAcc (x := { a with s := _ }) h.setChanRec (fun hu => hw hu)

theorem State.Kept.moveJit {a b t plane w idxs} (h : a.s.Kept cs) : (State.moveJit a b t plane w idxs).s.Kept cs := by
  unfold State.moveJit
  refine .foldlAcc h (fun hu => ?_)
  split
  · exact hu.moveToSlot
  · exact hu.moveFromSlot (fun hv => hv.wrJit)

theorem State.Kept.slotMax {d hdr b vs} (h : s.Kept cs) : (s.slotMax d hdr b vs).Kept cs := by
  unfold State.slotMax
  split
  · exact h.chanMax
  · exact h

theorem State.Kept.storeJit {a b t plane w evs} (h : a.s.Kept cs) : (State.storeJit a b t plane w evs).s.Kept cs := by
  unfold State.storeJit
  dsimp only
  refine .foldlAcc h.moveJit (fun hu => ?_)
  split
  · exact hu.wrSlotElems.slotMax
  · exact hu.recordPlaneFFs.wrJit

theorem State.Kept.storeFeedback {a b t w evs} (h : a.s.Kept cs) : (State.storeFeedback a b t w evs).s.Kept cs := by
  unfold State.storeFeedback
  dsimp only
  split
  · exact h.storeJit
  · exact h.recordPlaneFFs.storeJit.bindAll.storeJit.onTensor

/-! ### Book -/

theorem State.Kept.touch {a b} (h : s.Kept cs) : (s.touch a b).Kept cs := h.onTensor

theorem State.Kept.addShadow {a b t round c clear fill evs} (h : a.s.Kept cs) :
    (State.addShadow a b t round c clear fill evs).s.Kept cs :=
  h.setHist.bump.onTensor.touch

theorem State.Kept.addScaled {a b t own c clear evs} (h : a.s.Kept cs) :
    (State.addScaled a b t own c clear evs).s.Kept cs := by
  unfold State.addScaled
  extract_lets d f hdr e ff a0 a1 a2
  have h0 : a0.s.Kept cs := .iteAcc (x := { a with s := _ }) h.setState h
  have h1 : a1.s.Kept cs := .iteAcc (x := { a0 with s := _, fl := _ }) h0.recordFF h0
  have h2 : a2.s.Kept cs := by
    refine State.Kept.foldlAcc h1 (fun hu => ?_)
    dsimp only
    exact State.Kept.setHist (State.Kept.wrCode hu)
  clear_value a2
  exact State.Kept.touch h2

theorem State.Kept.addSlot {a b t own clear c evs} (h : a.s.Kept cs) :
    (State.addSlot a b t own clear c evs).s.Kept cs := by
  unfold State.addSlot
  extract_lets d hdr a1
  have h1 : a1.s.Kept cs := by
    refine State.Kept.foldlAcc h (fun hu => ?_)
    dsimp only
    exact State.Kept.setHist (State.Kept.wrNat hu)
  clear_value a1
  exact State.Kept.touch (State.Kept.slotMax h1)

theorem State.Kept.poisonBad {ad n} (h : s.Kept cs) : (s.poisonBad ad n).Kept cs :=
  h.foldl (fun hu => .ite hu.poisonRead hu)

theorem State.Kept.addBlock {a b own round clear fill c evs} (h : a.s.Kept cs) :
    (State.addBlock a b own round clear fill c evs).s.Kept cs := by
  unfold State.addBlock
  dsimp only
  split
  · exact h
  · split
    · exact h.foldl (fun hu => hu.poisonBad)
    · split
      · exact h.addSlot
      · split
        · exact h.addShadow
        · exact h.addScaled

theorem State.Kept.moveBook {a b t clear idxs} (h : a.s.Kept cs) : (State.moveBook a b t clear idxs).s.Kept cs := by
  unfold State.moveBook
  refine .foldlAcc h (fun hu => ?_)
  split
  · exact hu.moveToSlot
  · exact hu.moveFromSlot (fun hv => hv.addBlock)

theorem State.Kept.moveChannels {a b t idxs} (h : a.s.Kept cs) : (State.moveChannels a b t idxs).s.Kept cs := by
  unfold State.moveChannels
  split
  · exact h.moveBook
  · exact h.moveJit

theorem State.Kept.storeBook {a b t own round clear fill evs} (h : a.s.Kept cs) :
    (State.storeBook a b t own round clear fill evs).s.Kept cs :=
  h.moveBook.foldlAcc (fun hu => hu.addBlock)

theorem State.Kept.leaveEpoch {a} (h : s.Kept cs) : (s.leaveEpoch a).Kept cs := by
  unfold State.leaveEpoch
  split
  · exact .ite h.setTensor h
  · exact h

theorem State.Kept.closeBlock {a b first} (h : s.Kept cs) : (s.closeBlock a b first).1.Kept cs := by
  unfold State.closeBlock
  split
  · exact h
  · extract_lets d f hdr hist es ch mx u n e1 u1 high
    have hx : ∀ {u e}, u.Kept cs → (mx u e).Kept cs := fun hu => .ite hu.chanMax hu
    have hu : u.Kept cs := h.onTensor
    have h1 : u1.Kept cs := h.setScale.setState.setHist
    clear_value mx u u1 n e1 high hist
    refine .iteFst ?_ (.iteFst ?_ (.iteFst ?_ ?_))
    · split
      · exact h
      · extract_lets vs
        split
        · dsimp only
          exact hu.wrZeros.setScale.setState.setHist
        · extract_lets e x
          have hw : x.s.Kept cs := State.Kept.wrCodes (a := ⟨u, 0, false⟩) hu
          clear_value x
          exact hx hw.setScale.setState.setHist
    · exact (hx h1).bump
    · exact h.setState
    · split
      next e k decayed _ =>
        extract_lets v
        have hv : v.Kept cs := h.setScale.setState.setHist
        exact .ite (hx hv).bump (hx hv)

theorem State.Kept.closeBlocks {a bs} (h : s.Kept cs) : (s.closeBlocks a bs).1.Kept cs := by
  unfold State.closeBlocks
  split
  · exact h
  · extract_lets u step first r
    have hr : r.1.Kept cs := State.Kept.foldlFst (x := (u, 0)) h.dropEntries (fun hu => hu.closeBlock)
    exact hr.onTensor

/-! ### Access -/

theorem State.Kept.copyFirst {segs} (h : s.Kept cs) : (s.copyFirst segs).Kept cs := h
theorem State.Kept.meetBarrier {near} (h : s.Kept cs) : (s.meetBarrier near).Kept cs := h.bump.copyFirst
theorem State.Kept.holdWrite {a bytes} (h : s.Kept cs) : (s.holdWrite a bytes).Kept cs := h.onChannel.meetBarrier

theorem State.Kept.wrMasked {a b} (h : s.Kept cs) : (s.wrMasked a b).Kept cs := by
  induction b generalizing s a with
  | nil => exact h
  | cons o b ih =>
    cases o with
    | none => exact ih h
    | some x => exact ih h.wr

theorem State.Kept.storeMem {a bytes} (h : s.Kept cs) : (s.storeMem a bytes).Kept cs := by
  unfold State.storeMem
  split
  · exact h.holdWrite
  · split
    · exact h.wrMasked.noteBytes
    · exact .ite h.wrMasked.freshen h.wrMasked

theorem State.Kept.storeBytes {a bytes} (h : s.Kept cs) : (s.storeBytes a bytes).Kept cs := h.storeMem
theorem State.Kept.setDir {line d} (h : s.Kept cs) : (s.setDir line d).Kept cs := h

theorem State.Kept.snoop {line agent share} (h : s.Kept cs) : (s.snoop line agent share).Kept cs :=
  .ite (.sendTraek h) (.sendPacket h)

theorem State.Kept.invalidate {line agents} (h : s.Kept cs) : (s.invalidate line agents).Kept cs :=
  h.foldl (fun hu => hu.snoop)

theorem State.Kept.access {near write} (h : s.Kept cs) : (s.access near write).1.Kept cs := by
  unfold State.access
  dsimp only
  split
  · exact h
  · split
    · exact h
    · split
      · exact h.invalidate
      · exact h
    · exact h.snoop

theorem State.Kept.accessAt {a write} (h : s.Kept cs) : (s.accessAt a write).1.Kept cs := by
  unfold State.accessAt
  split
  · exact h.access
  · exact h

theorem State.Kept.accessRange {a n write} (h : s.Kept cs) : (s.accessRange a n write).1.Kept cs := by
  unfold State.accessRange
  split
  · exact h
  · exact h.foldlFst (fun hu => hu.accessAt)

theorem State.Kept.waitPartial {w} (h : s.Kept cs) : (s.waitPartial w).Kept cs := h.onChannel.copy

theorem State.Kept.storeCoherent {a bytes} (h : s.Kept cs) : (s.storeCoherent a bytes).Kept cs := by
  unfold State.storeCoherent
  dsimp only
  split
  · exact h.accessRange.storeBytes
  · exact h.accessRange.foldl (fun hu => hu.waitPartial)

theorem State.Kept.storeGlobal {g bytes flag owner} (h : s.Kept cs) :
    (s.storeGlobal g bytes flag owner).1.Kept cs := by
  unfold State.storeGlobal
  dsimp only
  split
  · split
    · exact h.storeCoherent
    · exact h.addressFault
  · exact .ite h.ask.addressFault h.ask
  · exact h.ask
  · exact h.addressFault

theorem State.Kept.openEpoch {a} (h : s.Kept cs) : (s.openEpoch a).Kept cs := by
  unfold State.openEpoch
  split
  · exact .ite (.onTensor (.ite h.closeBlocks h)) h
  · exact h

/-! ### Directory -/

theorem State.Kept.accessTensors {reads writes} (h : s.Kept cs) : (s.accessTensors reads writes).1.Kept cs := by
  unfold State.accessTensors
  dsimp only
  refine .foldlFst h (fun hu => ?_)
  split
  · exact hu.access
  · exact hu

theorem State.Kept.coherent {reads writes go} (h : s.Kept cs) (h1 : ∀ {v}, v.Kept cs → (go v).Kept cs) :
    (s.coherent reads writes go).Kept cs :=
  .ite (h1 h.accessTensors) h.accessTensors

theorem State.Kept.recall {line} (h : s.Kept cs) : (s.recall line).Kept cs := by
  unfold State.recall
  split
  · exact h
  · split
    · exact h.invalidate
    · exact h

/-! ### Operands -/

theorem State.Kept.clearSuspect {a} (h : s.Kept cs) : (s.clearSuspect a).Kept cs := h.onTensor

theorem State.Kept.markSuspects {hs} (h : s.Kept cs) : (s.markSuspects hs).Kept cs :=
  h.foldl (fun hu => hu.markSuspect)

/-! ### Flags -/

theorem State.Kept.countFlags {fl} (h : s.Kept cs) : (s.countFlags fl).Kept cs :=
  .ite (.bump (.ite h.bump h)) (.ite h.bump h)

theorem State.Kept.latchVerdict {a fl} (h : s.Kept cs) : (s.latchVerdict a fl).Kept cs := .ite h h

/-! ### Flow -/

theorem State.Kept.applyUpdate {u} (h : s.Kept cs) : (s.applyUpdate u).Kept cs := .ite h.setCounter h.addCounter
theorem State.Kept.counterUpdate {u} (h : s.Kept cs) : (s.counterUpdate u).Kept cs := .ite h.applyUpdate.copy h

theorem State.Kept.signalFrom {source counter} (h : s.Kept cs) : (s.signalFrom source counter).Kept cs :=
  h.counterUpdate

theorem State.Kept.signalLocal {q counter} (h : s.Kept cs) : (s.signalLocal q counter).Kept cs := h.signalFrom
theorem State.Kept.stampRing {q} (h : s.Kept cs) : (s.stampRing q).Kept cs := h.onQueue
theorem State.Kept.writeRecord {q w} (h : s.Kept cs) : (s.writeRecord q w).Kept cs := .ite h h.storeGlobal.onQueue
theorem State.Kept.commandRecord {q st f} (h : s.Kept cs) : (s.commandRecord q st f).Kept cs := h.record

theorem State.Kept.writeSummary {q st f} (h : s.Kept cs) : (s.writeSummary q st f).Kept cs := by
  unfold State.writeSummary
  split
  · exact h
  · exact h.onQueue.bump

theorem State.Kept.voidOn {st} (h : s.Kept cs) : (s.voidOn st).Kept cs := .ite h h
theorem State.Kept.nfOn {st} (h : s.Kept cs) : (s.nfOn st).Kept cs := .ite h h
theorem State.Kept.verdictRefused {st bad} (h : s.Kept cs) : (s.verdictRefused st bad).Kept cs := .ite h h
theorem State.Kept.updateDone {st status} (h : s.Kept cs) : (s.updateDone st status).Kept cs := .ite h h

theorem State.Kept.finish {q st f0 signal} (h : s.Kept cs) : (s.finish q st f0 signal).Kept cs := by
  unfold State.finish
  extract_lets f bad s1 s2 s3 s4 slot s5 s6 s7
  have h1 : s1.Kept cs := .ite h.markSuspects (.ite (h.foldl fun hu => hu.clearSuspect) h)
  clear_value s1
  have h3 : s3.Kept cs := h1.bump.bump.countFlags.voidOn.nfOn.verdictRefused.writeSummary
  clear_value s3
  have h4 : s4.Kept cs := .ite (.ite h3.commandFault h3.commandRecord) h3
  clear_value s4
  have h5 : s5.Kept cs := .ite h4.writeRecord h4
  clear_value s5
  have h6 : s6.Kept cs := .ite h5.signalFrom h5
  clear_value s6
  have h7 : s7.Kept cs := (h6.foldl fun hu => hu.leaveEpoch).updateDone
  exact h7.onQueue

theorem State.Kept.endList {q l} (h : s.Kept cs) : (s.endList q l).Kept cs := by
  unfold State.endList
  refine .bump ?_
  refine .onQueue ?_
  split
  · exact .signalLocal (.ite (.writeRecord (.ite h.record h)) (.ite h.record h))
  · exact .ite (.writeRecord (.ite h.record h)) (.ite h.record h)

theorem State.Kept.endWait {q st status} (h : s.Kept cs) : (s.endWait q st status).Kept cs :=
  .finish (.ite h.onQueue.onQueue h.onQueue)

theorem State.Kept.settleOne {q} (h : s.Kept cs) : (s.settleOne q).Kept cs := by
  unfold State.settleOne
  split
  · exact h.endWait
  · split
    · exact h.endList
    · exact h

theorem State.Kept.settleN {a} (h : s.Kept cs) : (State.settleN a s).Kept cs := by
  induction a generalizing s with
  | zero => exact h
  | succ n ih =>
    unfold State.settleN
    split
    · exact h
    · exact ih h.settleOne

theorem State.Kept.settled (h : s.Kept cs) : (s.settled).Kept cs := h.settleN.foldl (fun hu => hu.stampRing)
theorem State.Kept.advance {q} (h : s.Kept cs) : (s.advance q).Kept cs := h.onQueue

theorem State.Kept.nameSlot {q st} (h : s.Kept cs) : (s.nameSlot q st).Kept cs := by
  unfold State.nameSlot
  split
  · exact h
  · exact h.onQueue

theorem State.Kept.atOnce {q l c f eff} (h : s.Kept cs) (h1 : ∀ {v}, v.Kept cs → (eff v).Kept cs) :
    (s.atOnce q l c f eff).Kept cs :=
  .ite h.stampRing (((h1 h.advance.nameSlot).finish).settled)

theorem State.Kept.waitHot {q hot} (h : s.Kept cs) : (s.waitHot q hot).Kept cs := .ite h.onQueue h

theorem State.Kept.endHot {q} (h : s.Kept cs) : (s.endHot q).Kept cs := by
  unfold State.endHot
  split
  · exact h.surge.onQueue
  · exact h

theorem State.Kept.enter {q st} (h : s.Kept cs) : (s.enter q st).Kept cs :=
  h.endHot.advance.nameSlot.onQueue.foldl (fun hu => hu.openEpoch)

theorem State.Kept.fetchFault {q g st} (h : s.Kept cs) : (s.fetchFault q g st).1.Kept cs := by
  unfold State.fetchFault
  split
  · exact h.record
  · exact h

theorem State.Kept.endUnreachable {q l st} (h : s.Kept cs) : (s.endUnreachable q l st).Kept cs :=
  h.fetchFault.onQueue.settled

theorem State.Kept.take {q c reads writes check go} (h : s.Kept cs) (h1 : ∀ v, (go v).Kept cs) :
    (s.take q c reads writes check go).Kept cs := by
  unfold State.take
  split
  · exact h
  · split
    · exact h.endUnreachable
    · split
      · split
        · exact h.atOnce (fun hv => hv)
        · exact h1 _
      · exact h

theorem State.Kept.onStarted {q id f} (h : s.Kept cs) : (s.onStarted q id f).Kept cs := h.onQueue
theorem State.Kept.beginStaging {q id} (h : s.Kept cs) : (s.beginStaging q id).Kept cs := h.onStarted

theorem State.Kept.barAct {q st outs} (h : s.Kept cs) : (s.barAct q st outs).Kept cs := by
  unfold State.barAct
  split
  · exact h
  · exact h.bump.copyFirst.onStarted

theorem State.Kept.endHolds {q st} (h : s.Kept cs) : (s.endHolds q st).Kept cs := by
  unfold State.endHolds
  extract_lets s1 s2 s3 s4
  have h1 : s1.Kept cs := by
    dsimp only [s1]
    split
    exacts [h.surge, h]
  clear_value s1
  have h2 : s2.Kept cs := by
    dsimp only [s2]
    split
    exacts [h1.surge, h1]
  clear_value s2
  have h3 : s3.Kept cs := by
    dsimp only [s3]
    split
    exacts [h2.surge, h2]
  clear_value s3
  have h4 : s4.Kept cs := by
    dsimp only [s4]
    split
    exacts [h3.surge, h3]
  exact .ite h h4.onStarted

theorem State.Kept.meet {q id st} (h : s.Kept cs) : (s.meet q id st).Kept cs := h.onStarted
theorem State.Kept.raise {q id fl} (h : s.Kept cs) : (s.raise q id fl).Kept cs := h.onStarted

/-! ### Queues -/

theorem State.Kept.setHome {q} (h : s.Kept cs) : (s.setHome q).Kept cs := h.onQueue
theorem State.Kept.loseControl {q} (h : s.Kept cs) : (s.loseControl q).Kept cs := h.onQueue.setHome

theorem State.Kept.enableQueue {q} (h : s.Kept cs) : (s.enableQueue q).Kept cs :=
  .ite h.setQueue h.setQueue.setHome.settled

theorem State.Kept.disableQueue {q} (h : s.Kept cs) : (s.disableQueue q).Kept cs := h.onQueue.settled
theorem execQueueEnable_kept {q} (h : s.Kept cs) : OutcomeKept cs (execQueueEnable q s) := .ite h h.enableQueue
theorem execQueueDisable_kept {q} (h : s.Kept cs) : OutcomeKept cs (execQueueDisable q s) := .ite h.disableQueue h
theorem State.Kept.faultQueue {q st} (h : s.Kept cs) : (s.faultQueue q st).Kept cs := h.onQueue.record

theorem State.Kept.resumeRing {q} (h : s.Kept cs) : (s.resumeRing q).Kept cs := by
  unfold State.resumeRing
  dsimp only
  split
  · exact .ite h h.surge.onQueue
  · exact h

theorem State.Kept.wakeQueue {q before} (h : s.Kept cs) : (s.wakeQueue q before).Kept cs := by
  unfold State.wakeQueue
  dsimp only
  split
  · exact .ite h.faultQueue (.onQueue (.ite h.resumeRing.bump h.resumeRing))
  · exact h

theorem State.Kept.watchStore {q off bytes} (h : s.Kept cs) : (s.watchStore q off bytes).Kept cs :=
  h.onQueue.wakeQueue.settled

theorem execWatchLineStore_kept {q offset bytes} (h : s.Kept cs) :
    OutcomeKept cs (execWatchLineStore q offset bytes s) :=
  h.watchStore

theorem State.Kept.startList {q away} (h : s.Kept cs) : (s.startList q away).Kept cs := h.fetchFault.onQueue.settled

theorem State.Kept.rehome {q} (h : s.Kept cs) : (s.rehome q).Kept cs := by
  unfold State.rehome
  dsimp only
  split
  · exact .ite h.loseControl.settled (.ite h.setHome h)
  · exact h

theorem execQueueRehome_kept {q} (h : s.Kept cs) : OutcomeKept cs (execQueueRehome q s) := h.rehome

/-! ### Engines -/

theorem State.Kept.throttleEvent {reason} (h : s.Kept cs) : (s.throttleEvent reason).Kept cs := h.setDv
theorem State.Kept.throttleTime {reason ns} (h : s.Kept cs) : (s.throttleTime reason ns).Kept cs := h.setDv
theorem State.Kept.setGovernor {east g} (h : s.Kept cs) : (s.setGovernor east g).Kept cs := h

theorem State.Kept.askSlope {kind region step who} (h : s.Kept cs) : (s.askSlope kind region step who).1.Kept cs := by
  unfold State.askSlope
  dsimp only
  split
  · exact h.setGovernor
  · exact h.setGovernor.throttleEvent

theorem State.Kept.settleFiller {r} (h : s.Kept cs) : (s.settleFiller r).Kept cs := .ite h h.bump.setRegion
theorem State.Kept.fallBy {r step} (h : s.Kept cs) : (s.fallBy r step).Kept cs := .ite h h.settleFiller.onRegion

theorem State.Kept.askWork {kind region step who} (h : s.Kept cs) : (s.askWork kind region step who).1.Kept cs := by
  unfold State.askWork
  dsimp only
  split
  · exact .ite h.settleFiller h.settleFiller.onRegion
  · exact .askSlope (.ite h.settleFiller h.settleFiller.onRegion)

theorem State.Kept.stopPattern {c} (h : s.Kept cs) : (s.stopPattern c).Kept cs := .ite h.bump.onCluster h
theorem State.Kept.callRegion {r} (h : s.Kept cs) : (s.callRegion r).Kept cs := .setRegion (.ite h.stopPattern h)
theorem State.Kept.occupy {c cycles} (h : s.Kept cs) : (s.occupy c cycles).Kept cs := h.onCluster
theorem State.Kept.relieve {c cycles} (h : s.Kept cs) : (s.relieve c cycles).Kept cs := h.onCluster

theorem State.Kept.relieveShares {w} (h : s.Kept cs) : (s.relieveShares w).Kept cs :=
  h.foldl (fun hu => .ite hu.relieve.onRegion.fallBy hu.relieve.onRegion)

theorem State.Kept.slotShare {q id op x} (h : s.Kept cs) : (s.slotShare q id op x).Kept cs :=
  .ite h.surge.onStarted.copy h

theorem State.Kept.slotShares (h : s.Kept cs) : (s.slotShares).Kept cs :=
  h.foldl (fun hu => hu.foldl (fun h2 => h2.slotShare))

theorem State.Kept.runShares {q id a} (h : s.Kept cs) : (State.runShares q id a s).Kept cs := by
  induction a generalizing s with
  | zero => exact h
  | succ n ih =>
    unfold State.runShares
    split
    · exact h
    · exact .ite h (ih h.onStarted.slotShares)

theorem State.Kept.prefer {c q} (h : s.Kept cs) : (s.prefer c q).Kept cs := h.onRegion

theorem State.Kept.dealFrame {a idx c} (h : s.Kept cs) : (s.dealFrame a idx c).Kept cs := by
  unfold State.dealFrame
  split
  · exact h
  · exact .ite h.onTensor h

theorem State.Kept.setChan {c n x} (h : s.Kept cs) : (s.setChan c n x).Kept cs := h.onCluster
theorem State.Kept.queuePool {cluster n id} (h : s.Kept cs) : (s.queuePool cluster n id).Kept cs := h.onCluster
theorem State.Kept.wantPages {q id c gs} (h : s.Kept cs) : (s.wantPages q id c gs).Kept cs := h.onStarted

theorem State.Kept.askPagesN {q id a b} (h : s.Kept cs) : (State.askPagesN q id a b s).1.Kept cs := by
  induction a generalizing s b with
  | zero => exact h
  | succ n ih =>
    unfold State.askPagesN
    split
    · exact h
    · exact .iteFst h.queuePool (.iteFst h.onStarted.ask (ih h.onStarted.ask))

theorem State.Kept.askPages' {q id granted} (h : s.Kept cs) : (s.askPages' q id granted).1.Kept cs := by
  unfold State.askPages'
  split
  · exact h.askPagesN
  · exact h

theorem State.Kept.askPages {q id granted} (h : s.Kept cs) : (s.askPages q id granted).Kept cs := by
  unfold State.askPages
  dsimp only
  split
  · split
    · exact h.askPages'.markRange.meet
    · exact h.askPages'
  · exact h.askPages'

theorem State.Kept.onMatmul {q id f} (h : s.Kept cs) : (s.onMatmul q id f).Kept cs := h.onStarted

theorem State.Kept.fetchParts {q id dealt ops} (h : s.Kept cs) : (s.fetchParts q id dealt ops).Kept cs :=
  h.foldl (fun hu => hu.onCluster)

theorem State.Kept.dropFetches {q id} (h : s.Kept cs) : (s.dropFetches q id).Kept cs := h
theorem State.Kept.onFetch {c f g} (h : s.Kept cs) : (s.onFetch c f g).Kept cs := h.onCluster

theorem State.Kept.takeFetch {c f granted} (h : s.Kept cs) : (s.takeFetch c f granted).Kept cs := by
  unfold State.takeFetch
  split
  · exact h.onFetch
  · split
    · exact h.queuePool
    · split
      · exact h.onFetch
      · refine .askPages ?_
        refine .wantPages ?_
        refine .onFetch ?_
        split
        · refine .surge ?_
          split
          · exact h.surge
          · exact h
        · split
          · exact h.surge
          · exact h

theorem State.Kept.pumpPager {c granted} (h : s.Kept cs) : (s.pumpPager c granted).Kept cs := by
  unfold State.pumpPager
  refine .foldlFst h (fun hu => ?_)
  split
  · split
    · exact hu
    · exact hu.takeFetch
  · exact hu

theorem State.Kept.pumpPagers (h : s.Kept cs) : (s.pumpPagers).Kept cs := h.foldl (fun hu => hu.pumpPager)
theorem State.Kept.beginHot {q id} (h : s.Kept cs) : (s.beginHot q id).Kept cs := h.onStarted

theorem State.Kept.beginIngress {q id key} (h : s.Kept cs) : (s.beginIngress q id key).Kept cs := by
  unfold State.beginIngress
  split
  · exact .ite h h.surge.onStarted
  · exact h.onStarted

/-! ### VecProg -/

theorem State.Kept.bindElems {a c idxs} (h : s.Kept cs) : (s.bindElems a c idxs).Kept cs := by
  unfold State.bindElems
  split
  · exact h
  · exact h.foldl (fun hu => hu.bindUnit)

theorem State.Kept.countLatent {d idxs} (h : s.Kept cs) : (s.countLatent d idxs).Kept cs := h.bump.bump

theorem State.Kept.writeResults {a w add clear split evs fills} (h : s.Kept cs) :
    (s.writeResults a w add clear split evs fills).s.Kept cs := by
  have hu : (s.bindElems a w.cluster ((evs ++ fills).map (·.1))).Kept cs := h.bindElems
  simp only [State.writeResults]
  generalize s.bindElems a w.cluster (List.map (fun x => x.1) (evs ++ fills)) = u at hu ⊢
  cases u.tensor a with
  | none => exact hu
  | some t =>
    have hy : (State.storeBook ⟨u, 0, false⟩ a t (if (add || split) = true then none else some w) w.field clear false
      evs).s.Kept cs := State.Kept.storeBook (a := ⟨u, 0, false⟩) hu
    have hs : ∀ {x : Acc} {c d : Prop} [Decidable c] [Decidable d] {d₁ d₂ i j k bs b f}, x.s.Kept cs →
        (State.latchVerdict (if c then x.s.useEntries d₁ i else
          if d then (x.s.noteElems d₂ 0 j).noteBytes bs else x.s.noteElems d₂ 0 k) b f).Kept cs :=
      fun hx => .latchVerdict (.ite hx.useEntries (.ite hx.noteElems.noteBytes hx.noteElems))
    simp only []
    refine .ite (.countLatent (hs ?_)) (hs ?_)
    all_goals
      refine .iteAcc (State.Kept.foldlAcc (x := ⟨u, 0, false⟩) hu fun hu => hu.wrPlain) (.iteAcc ?_
        (.iteAcc (State.Kept.storeFeedback (a := ⟨u, 0, false⟩) hu) (State.Kept.storeJit (a := ⟨u, 0, false⟩) hu)))
      generalize State.storeBook ⟨u, 0, false⟩ a t _ _ _ _ evs = y at hy ⊢
      have hg : ∀ {t o f c d e}, (State.storeBook ⟨y.s, 0, false⟩ a t o f c d e).s.Kept cs :=
        State.Kept.storeBook (a := ⟨y.s, 0, false⟩) hy
      generalize State.storeBook ⟨y.s, 0, false⟩ a = g at hg ⊢
      split
      · dsimp only
        exact hg
      · exact hy

theorem State.Kept.coverTensor {a} (h : s.Kept cs) : (s.coverTensor a).Kept cs := by
  unfold State.coverTensor
  split
  · exact h
  · exact .ite h.freshenTensor.freshen.freshen h.freshenTensor

theorem State.Kept.pass {x : VecRun} {v clear pass} (h : x.s.Kept cs) : (x.pass v clear pass).s.Kept cs :=
  .iteAcc (x := ⟨x.s, 0, false⟩) h h.writeResults

theorem State.Kept.run {x : VecRun} {v clear} (h : x.s.Kept cs) : (x.run v clear).s.Kept cs :=
  h.foldlRun (fun hu => hu.pass)

theorem State.Kept.writeRowScalars {row c qs rows} (h : s.Kept cs) : (s.writeRowScalars row c qs rows).Kept cs := by
  unfold State.writeRowScalars
  dsimp only
  split
  · exact h
  · split
    · exact h.foldl (fun hu => hu.bindElems)
    · exact ((h.foldl (fun hu => hu.bindElems)).foldl (fun hu => hu.foldl (fun h2 => h2.wrCode))).noteElems

theorem State.Kept.countBeats {c beats} (h : s.Kept cs) : (s.countBeats c beats).Kept cs := h.bump.bump.drawn

theorem State.Kept.recordStreams {v rows} (h : s.Kept cs) : (s.recordStreams v rows).Kept cs :=
  h.foldl (fun hu => hu.takeElems)

/-! ### Vector -/

theorem State.Kept.countVector {v shares rows} (h : s.Kept cs) : (s.countVector v shares rows).Kept cs :=
  ((h.foldl (fun hu => hu.countBeats)).bump).bump

theorem State.Kept.bindShares {v shares rows} (h : s.Kept cs) : (s.bindShares v shares rows).Kept cs :=
  h.foldl (fun hu => hu.bindElems)

theorem State.Kept.runVector {q st prog shares} (h : s.Kept cs) : (s.runVector q st prog shares).Kept cs := by
  unfold State.runVector
  extract_lets c v rows x at' s1 s2
  have hx : x.s.Kept cs := State.Kept.run (x := { s := _, rows := rows }) h.recordStreams.drawn.bindShares
  have h1 : s1.Kept cs := hx.writeRowScalars.countVector
  exact (State.Kept.ite h1.coverTensor h1).relieveShares.onStarted

theorem State.Kept.engineEnds {q st status} (h : s.Kept cs) : (s.engineEnds q st status).Kept cs :=
  h.endHolds.relieveShares.dropFetches.onStarted

theorem State.Kept.goVector {q st prog} (h : s.Kept cs) : (s.goVector q st prog).Kept cs := by
  unfold State.goVector
  dsimp only
  split
  · exact h
  · split
    · exact h.engineEnds
    · split
      · exact h.beginHot
      · split
        · exact h.barAct
        · split
          · exact h.beginStaging
          · split
            · exact h.beginIngress
            · split
              · exact h.endHolds.runShares
              · exact .ite h.endHolds.runShares.runVector.slotShares h.endHolds.runShares

theorem State.Kept.runVectors (h : s.Kept cs) : (s.runVectors).Kept cs := by
  unfold State.runVectors
  refine .foldl h.slotShares (fun hu => ?_)
  refine .foldl hu (fun h2 => ?_)
  split
  · exact h2
  · split
    · exact h2.goVector
    · exact h2

theorem State.Kept.dealParts {a b} (h : s.Kept cs) : (s.dealParts a b).1.Kept cs := by
  induction b generalizing s with
  | nil => exact h
  | cons x b ih => exact ih h.dealFrame.occupy.bump

theorem State.Kept.callShares {q id engine format a} (h : s.Kept cs) :
    (s.callShares q id engine format a).1.Kept cs := by
  induction a generalizing s with
  | nil => exact h
  | cons x b ih => exact ih h.callRegion.prefer.askWork

theorem State.Kept.startVector {q l c} (h : s.Kept cs) : (s.startVector q l c).Kept cs :=
  h.dealParts.callShares.enter.fetchParts.runVectors

theorem State.Kept.vector {q c rd} (h : s.Kept cs) : (s.vector q c rd).Kept cs :=
  h.take (fun _ => .ite h.waitHot (h.coherent (fun hv => hv.readErrors.startVector)))

theorem execVector_kept {q c} (h : s.Kept cs) : OutcomeKept cs (execVector q c s) := h.vector

/-! ### Matrix -/

theorem State.Kept.emptyK {q id c} (h : s.Kept cs) : (s.emptyK q id c).Kept cs := by
  unfold State.emptyK
  refine .onStarted ?_
  split
  · refine .coverTensor ?_
    split
    · exact h
    · exact h.writeResults
  · split
    · exact h
    · exact h.writeResults

theorem State.Kept.goEmpty {q st} (h : s.Kept cs) : (s.goEmpty q st).Kept cs := by
  unfold State.goEmpty
  dsimp only
  split
  · exact h.engineEnds
  · exact .ite h.beginHot (.ite h.barAct (.ite h.beginStaging h.endHolds.emptyK))

theorem State.Kept.runEngines (h : s.Kept cs) : (s.runEngines).Kept cs := by
  unfold State.runEngines
  refine .foldl h.runVectors (fun hu => ?_)
  refine .foldl hu (fun h2 => ?_)
  split
  · exact h2
  · split
    · exact .ite h2.goEmpty h2
    · exact h2

theorem State.Kept.startMatmul {q l c} (h : s.Kept cs) : (s.startMatmul q l c).Kept cs := by
  unfold State.startMatmul
  split
  · exact h.atOnce (fun hv => hv)
  · split
    · exact .runEngines (.ite h.enter.drawn h.enter.drawn.bump)
    · exact .ite h.enter.drawn h.enter.drawn.bump

theorem State.Kept.matmul {q c rd} (h : s.Kept cs) : (s.matmul q c rd).Kept cs :=
  h.take (fun _ => .ite h.waitHot (h.coherent (fun hv => hv.readErrors.startMatmul)))

theorem execMatmul_kept {q c} (h : s.Kept cs) : OutcomeKept cs (execMatmul q c s) := h.matmul

/-! ### Points -/

theorem State.Kept.setRail {mv} (h : s.Kept cs) : (s.setRail mv).Kept cs := .ite h (.send h)

theorem State.Kept.accrue {t} (h : s.Kept cs) : (s.accrue t).Kept cs := by
  unfold State.accrue
  refine .copy ?_
  split
  · exact h.foldl (fun hu => .ite hu hu.throttleTime)
  · exact (h.foldl (fun hu => .ite hu hu.throttleTime)).bump

theorem State.Kept.timed {t f} (h : s.Kept cs) (h1 : ∀ {v}, v.Kept cs → (f v).Kept cs) : (s.timed t f).Kept cs :=
  (h1 h.accrue.tick).foldl (fun hu => hu.foldl (fun h2 => h2.throttleEvent))

/-! ### Adder -/

theorem State.Kept.addPoisoned {near} (h : s.Kept cs) : (s.addPoisoned near).s.Kept cs := h.poisonRead

theorem State.Kept.lineAdd {near k data} (h : s.Kept cs) : (s.lineAdd near k data).s.Kept cs := by
  unfold State.lineAdd
  dsimp only
  split
  · exact h.addPoisoned
  · exact h.wrBytes.onChannel

theorem State.Kept.lineAtom {near a} (h : s.Kept cs) : (s.lineAtom near a).s.Kept cs := by
  unfold State.lineAtom
  split
  · exact h.addPoisoned
  · exact h.wrNat.onChannel

theorem State.Kept.counterAtom {off a source} (h : s.Kept cs) : (s.counterAtom off a source).s.Kept cs := by
  unfold State.counterAtom
  split
  · exact h.counterUpdate
  · exact h.addressFault

theorem State.Kept.noAdder {o a} (h : s.Kept cs) : (s.noAdder o a).s.Kept cs := h.faultOf

theorem State.Kept.tryAdder {near n side o rd f} (h : s.Kept cs) (h1 : ∀ {v}, v.Kept cs → (f v).s.Kept cs) :
    (s.tryAdder near n side o rd f).Kept cs := by
  unfold State.tryAdder
  dsimp only
  split
  · exact .ite h.faultOf h
  · split
    · exact h
    · split
      · exact h1 h.access.retireLine.wakeChannel
      · exact h.access

theorem State.Kept.tryLine {a k data side o rd} (h : s.Kept cs) : (s.tryLine a k data side o rd).Kept cs := by
  unfold State.tryLine
  split
  · split
    · exact h
    · exact h.tryAdder (fun hv => hv.lineAdd)
  · exact h.faultOf
  · exact h.noAdder

theorem State.Kept.tryAtom {a x side o source rd} (h : s.Kept cs) : (s.tryAtom a x side o source rd).Kept cs := by
  unfold State.tryAtom
  split
  · split
    · exact h
    · exact h.tryAdder (fun hv => hv.lineAtom)
  · exact h.counterAtom
  · exact h.faultOf
  · exact h.noAdder

theorem State.Kept.bookAdd {a first cluster vals} (h : s.Kept cs) : (s.bookAdd a first cluster vals).s.Kept cs := by
  unfold State.bookAdd
  split
  · exact h
  · exact h.bindBytes.storeBook.latchVerdict.useEntries

theorem State.Kept.tryOp {o side node source rd} (h : s.Kept cs) : (s.tryOp o side node source rd).Kept cs := by
  unfold State.tryOp
  dsimp only
  split
  · exact h.tryLine
  · exact h.tryAtom
  · split
    · exact h
    · split
      · exact h
      · split
        · exact h.accessTensors.bookAdd
        · exact h.accessTensors

/-! ### Tee -/

theorem State.Kept.teeCredit (h : s.Kept cs) : (s.teeCredit).Kept cs := h
theorem State.Kept.teeSend {x} (h : s.Kept cs) : (s.teeSend x).Kept cs := h.ask.copy

theorem State.Kept.drainTees {a} (h : s.Kept cs) : (State.drainTees a s).Kept cs := by
  induction a generalizing s with
  | zero => exact h
  | succ n ih =>
    unfold State.drainTees
    split
    · exact h
    · exact .ite (ih h.teeSend) h

theorem State.Kept.teeSettle {since} (h : s.Kept cs) : (s.teeSettle since).Kept cs := by
  unfold State.teeSettle
  split
  · exact h
  · refine .copy ?_
    split
    · exact h.surge
    · exact h

theorem State.Kept.teeRun (h : s.Kept cs) : (s.teeRun).Kept cs :=
  .ite h h.teeCredit.drainTees.teeCredit.copy.teeSettle

theorem State.Kept.teeFlush (h : s.Kept cs) : (s.teeFlush).Kept cs := (h.foldl (fun hu => hu.teeSend)).teeSettle
theorem State.Kept.teeRange {a n} (h : s.Kept cs) : (s.teeRange a n).Kept cs := h

/-! ### Transfer -/

theorem State.Kept.xferBusy {c n} (h : s.Kept cs) : (s.xferBusy c n).Kept cs := h.onCluster
theorem State.Kept.xferFree {c n} (h : s.Kept cs) : (s.xferFree c n).Kept cs := h.onCluster
theorem State.Kept.onTransfer {q id f} (h : s.Kept cs) : (s.onTransfer q id f).Kept cs := h.onStarted
theorem State.Kept.credit {cluster n share cap} (h : s.Kept cs) : (s.credit cluster n share cap).Kept cs := h.setChan

theorem State.Kept.lineMeets {o a n write m} (h : s.Kept cs) (hm : s.lineMeets o a n write = some m) :
    m.s.Kept cs := by
  unfold State.lineMeets at hm
  dsimp only at hm
  split at hm
  · cases hm
    exact .ite h.faultOf h
  · split at hm
    · split at hm
      · cases hm
        exact h
      · split at hm
        · cases hm
          exact h
        · split at hm
          · cases hm
            exact h
          · split at hm
            · cases hm
            · cases hm
              exact h.access
    · cases hm

theorem State.Kept.noteDerated {q id a} (h : s.Kept cs) : (s.noteDerated q id a).Kept cs := by
  unfold State.noteDerated
  split
  · exact .ite h.onStarted h
  · exact h

theorem State.Kept.putHere {a bytes bad} (h : s.Kept cs) : (s.putHere a bytes bad).Kept cs := by
  unfold State.putHere
  split
  · split
    · exact h.wrBytes.retireLine.dropEntry.markRange.bump
    · exact h.wrBytes.markRange
  · exact h.storeBytes

theorem State.Kept.poisonElems {a first n cluster} (h : s.Kept cs) : (s.poisonElems a first n cluster).Kept cs :=
  h.bindBytes.foldl (fun hu => .ite hu hu.dropEntry.poisonLine)

theorem State.Kept.putLine {q id op cluster c i bytes bad} (h : s.Kept cs) :
    (s.putLine q id op cluster c i bytes bad).s.Kept cs := by
  unfold State.putLine
  dsimp only
  refine .iteMoved ?_ ?_
  · split
    · exact h
    · exact .iteMoved h.accessTensors (.iteMoved h.accessTensors.poisonElems h.accessTensors.bookAdd)
  · split
    · refine .iteMoved ?_ ?_
      · split
        next x heq => exact (AddTry.Kept.ofEq heq h.tryLine : x.s.Kept cs).noteDerated
        next u key heq => exact AddTry.Kept.ofEq heq h.tryLine
      · split
        next m hm => exact h.lineMeets hm
        · exact h.useLine.noteDerated.putHere
    · exact h.faultOf
    · exact h.ask
    · exact h.ask

theorem State.Kept.issueLine {q id op cluster c i} (h : s.Kept cs) : (s.issueLine q id op cluster c i).s.Kept cs := by
  unfold State.issueLine
  dsimp only
  refine .iteMoved h.putLine ?_
  split
  · split
    next m hm => exact h.lineMeets hm
    · exact h.useLine.noteDerated.putLine
  · exact h.faultOf
  · exact h.ask
  · exact h.ask

theorem State.Kept.noteLine {q id i m} (h : s.Kept cs) : (s.noteLine q id i m).Kept cs :=
  .onTransfer (.raise (.ite h.onStarted h))

theorem State.Kept.endHold {q id w} (h : s.Kept cs) : (s.endHold q id w).Kept cs := by
  unfold State.endHold
  split
  · exact .onTransfer (.ite h h.surge)
  · exact h

theorem State.Kept.startHold {q id w key segs} (h : s.Kept cs) : (s.startHold q id w key segs).Kept cs := by
  unfold State.startHold
  split
  · exact .ite h h.endHold.onTransfer
  · exact .onTransfer (.ite h.bump.copyFirst h)

theorem State.Kept.issueLines {q id op cluster n c a b} (h : s.Kept cs) :
    (State.issueLines q id op cluster n c a b s).Kept cs := by
  induction a generalizing s b with
  | zero => exact h
  | succ a ih =>
    unfold State.issueLines
    split
    · exact h
    · refine .ite h ?_
      split
      · exact .ite h.endHold.queuePool h.startHold
      · exact .ite (ih h.issueLine.noteLine.endHold.bump.xferFree.setChan.onTransfer) h.issueLine.startHold

theorem State.Kept.putArrived {q id op cluster c a} (h : s.Kept cs) :
    (State.putArrived q id op cluster c a s).Kept cs := by
  induction a generalizing s with
  | zero => exact h
  | succ n ih =>
    unfold State.putArrived
    split
    · exact h
    · dsimp only
      split
      · exact h
      · exact .ite h (.ite (ih h.putLine.noteLine.endHold.onTransfer) h.putLine.startHold)

theorem State.Kept.endTransfer {q id op st w status silent} (h : s.Kept cs) :
    (s.endTransfer q id op st w status silent).Kept cs := by
  unfold State.endTransfer
  refine .onStarted ?_
  refine .onRegion ?_
  refine .xferFree ?_
  refine .bump ?_
  split
  · exact h.setChan
  · exact h

theorem State.Kept.flushFor {q id} (h : s.Kept cs) : (s.flushFor q id).Kept cs :=
  h.foldl (fun hu => hu.foldl (fun h2 => h2.shipGateway))

theorem State.Kept.stageTwo {q id op st} (h : s.Kept cs) : (s.stageTwo q id op st).Kept cs := by
  unfold State.stageTwo
  split
  · exact .ite h.onTransfer.ask.onTransfer h.onTransfer.ask
  · exact .ite h.onTransfer.ask.onTransfer h.onTransfer.ask
  · exact h.onTransfer

theorem State.Kept.stageOver {q id op} (h : s.Kept cs) : (s.stageOver q id op).Kept cs := by
  unfold State.stageOver
  dsimp only
  split
  · exact h
  · split
    · split
      · exact .ite h.flushFor.endTransfer h.flushFor.stageTwo
      · exact h.flushFor
    · exact .ite h.endTransfer h

theorem State.Kept.runTransfer {q id granted} (h : s.Kept cs) : (s.runTransfer q id granted).Kept cs := by
  unfold State.runTransfer
  split
  · exact h
  · split
    · exact h
    · exact h.credit.putArrived.issueLines.stageOver

theorem State.Kept.runTransfers (h : s.Kept cs) : (s.runTransfers).Kept cs := by
  unfold State.runTransfers
  refine .foldl h (fun hu => ?_)
  refine .foldl hu (fun h2 => ?_)
  split
  · exact h2.runTransfer
  · exact h2

theorem State.Kept.takeChan {q id cluster n} (h : s.Kept cs) : (s.takeChan q id cluster n).Kept cs :=
  h.setChan.onTransfer.runTransfer

theorem State.Kept.startTransfer {q op l c} (h : s.Kept cs) : (s.startTransfer q op l c).Kept cs := by
  unfold State.startTransfer
  dsimp only
  split
  · exact h.callRegion.prefer.xferBusy.enter.takeChan
  · exact h.callRegion.prefer.xferBusy.enter.onCluster

theorem State.Kept.transfer {q op c} (h : s.Kept cs) : (s.transfer q op c).Kept cs :=
  h.take (fun _ => .ite h h.readErrors.startTransfer)

theorem execCopy_kept {q c} (h : s.Kept cs) : OutcomeKept cs (execCopy q c s) := h.transfer
theorem execAdd_kept {q c} (h : s.Kept cs) : OutcomeKept cs (execAdd q c s) := h.transfer
theorem execFill_kept {q c} (h : s.Kept cs) : OutcomeKept cs (execFill q c s) := h.transfer

theorem State.Kept.grantChan {c} (h : s.Kept cs) : (s.grantChan c).Kept cs := by
  unfold State.grantChan
  split
  · exact h.surge.onCluster.takeChan
  · exact h

theorem execTransferChannelGrant_kept {c t} (h : s.Kept cs) : OutcomeKept cs (execTransferChannelGrant c t s) :=
  h.tick.grantChan

theorem execApertureRelease_kept {c ch t} (h : s.Kept cs) : OutcomeKept cs (execApertureRelease c ch t s) := by
  unfold execApertureRelease
  dsimp only
  split
  · exact h.tick.teeRun.runTransfer
  · exact h.tick.teeRun

theorem State.Kept.pagerGrant {c} (h : s.Kept cs) : (s.pagerGrant c).Kept cs := by
  unfold State.pagerGrant
  split
  · exact h.askPages
  · exact h.pumpPager

theorem State.Kept.grantTransaction {c} (h : s.Kept cs) : (s.grantTransaction c).Kept cs := by
  unfold State.grantTransaction
  dsimp only
  split
  · split
    · exact h
    · split
      · exact h
      · split
        · exact h.surge.onCluster.pagerGrant
        · split
          · exact h.surge.onCluster.runTransfer
          · exact h.surge.onCluster
  · exact h

theorem execTransactionGrant_kept {c t} (h : s.Kept cs) : OutcomeKept cs (execTransactionGrant c t s) :=
  h.tick.grantTransaction

theorem State.Kept.returnBack {q id} (h : s.Kept cs) : (s.returnBack q id).Kept cs := by
  unfold State.returnBack
  split
  · exact h
  · refine .ite ?_ h
    split
    · exact h
    · extract_lets s0 s1 status
      have h0 : s0.Kept cs := by
        dsimp only [s0]
        split
        · refine .ite h.faultOf ?_
          split
          exacts [h.readBad, h]
        · exact h
      have h1 : s1.Kept cs := h0.surge
      exact .ite h1.endTransfer (.ite h1.onTransfer h1.endTransfer)

theorem execTransferReadback_kept {q id t} (h : s.Kept cs) : OutcomeKept cs (execTransferReadback q id t s) :=
  h.tick.returnBack

theorem State.Kept.sendSignal {q id} (h : s.Kept cs) : (s.sendSignal q id).Kept cs := by
  unfold State.sendSignal
  split
  · exact h
  · split
    · split
      · exact h
      · exact .ite h.ask.endTransfer h.ask.onTransfer.stageOver
    · exact h

theorem execTransferRemoteSignal_kept {q id} (h : s.Kept cs) : OutcomeKept cs (execTransferRemoteSignal q id s) :=
  h.sendSignal

theorem State.Kept.dropReqs {q id} (h : s.Kept cs) : (s.dropReqs q id).Kept cs := h

theorem State.Kept.abortTransfers {c} (h : s.Kept cs) : (s.abortTransfers c).Kept cs := by
  unfold State.abortTransfers
  refine .foldl ?_ (fun hu => ?_)
  · refine .onCluster ?_
    refine .foldl h (fun hu => ?_)
    split
    · split
      · exact hu.endTransfer.bump.dropReqs
      · exact hu
    · exact hu
  · split
    · exact hu.onTransfer.xferFree.xferBusy.onCluster
    · exact hu

/-! ### Serve -/

theorem State.Kept.nakFault {p kind a st} (h : s.Kept cs) : (s.nakFault p kind a st).Kept cs := h.addressFault.nakTo
theorem State.Kept.serveRead {p a} (h : s.Kept cs) : (s.serveRead p a).Kept cs := .ite h.dataTo h.dataTo
theorem State.Kept.toChannel {r} (h : s.Kept cs) : (s.toChannel r).Kept cs := .ite h.onChannel h.onChannel.copy

theorem State.Kept.dirStep {kind agent line} (h : s.Kept cs) : (s.dirStep kind agent line).1.Kept cs := by
  unfold State.dirStep
  dsimp only
  split
  · exact h
  · split
    · split
      · exact h.setDir
      · exact h.setDir
      · split
        · exact h.setDir
        · exact h.snoop
    · split
      · exact h.setDir
      · split
        · exact h.setDir
        · exact h.invalidate
      · split
        · exact h.setDir
        · exact h.snoop
    · exact h.access
    · exact h.access
    · exact h.access

/-! ### Create -/

theorem State.Kept.addRun {r} (h : s.Kept cs) : (s.addRun r).Kept cs := h

theorem State.Kept.allocRun {a mirrored len r} (h : s.Kept cs) (hr : s.allocRun a mirrored len = some r) :
    r.1.Kept cs := by
  unfold State.allocRun at hr
  split at hr
  · exact Option.some.inj hr ▸ h
  · extract_lets p keep shared n at hr
    have hk : ∀ {u b}, u.Kept cs → (keep u b).Kept cs := fun hu => State.Kept.clearRange hu
    clear_value shared keep
    cases shared with
    | some b => exact Option.some.inj hr ▸ hk h
    | none =>
      cases hf : (if n = 1 then s.pickFrame mirrored p s.fresh else s.contiguous mirrored p n) with
      | none =>
        rw [hf] at hr
        cases hr
      | some f =>
        rw [hf] at hr
        exact Option.some.inj hr ▸ hk (State.Kept.foldl h.drawn fun hu => hu.setFrame)

theorem State.Kept.writeHeader {d a} (h : s.Kept cs) : (s.writeHeader d a).1.Kept cs := by
  unfold State.writeHeader
  refine .wrNat ?_
  refine .foldlFst h (fun hu => ?_)
  split
  · exact hu
  · exact hu.wrNat

theorem State.Kept.bindStreamed {a d i t} (h : s.Kept cs) (ht : s.bindStreamed a d i = some t) : t.Kept cs := by
  unfold State.bindStreamed at ht
  obtain ⟨f, -, rfl⟩ := Option.map_eq_some_iff.1 ht
  exact h.drawn.setFrame.wrNat

theorem State.Kept.bindStreams {a d t} (h : s.Kept cs) (ht : s.bindStreams a d = some t) : t.Kept cs :=
  .foldlBind (fun hu => Option.some.inj hu ▸ h) (fun hu hv => hu.bindStreamed hv) ht

theorem State.Kept.placeTensor {a d owner planes t} (h : s.Kept cs) (ht : s.placeTensor a d owner planes = some t) :
    t.Kept cs := by
  unfold State.placeTensor at ht
  dsimp only at ht
  split at ht
  · cases ht
  next u base hr =>
    have hu : u.Kept cs := h.allocRun hr
    have hw : ∀ {c c' : Prop} [Decidable c] [Decidable c'] {b b' : Nat} {d : Line}, (if c then
        (if c' then u.writeHeader d b else (u, b')).1.writeHeader d (if c' then u.writeHeader d b else (u, b')).2
        else if c' then u.writeHeader d b else (u, b')).1.Kept cs := fun {_ _ _ _ _ _ _} =>
      .iteFst (.writeHeader (.iteFst hu.writeHeader hu)) (.iteFst hu.writeHeader hu)
    split at ht
    · exact hw.setTensor.bindStreams ht
    · split at ht
      · cases ht
        exact hw.setTensor.foldl (fun hu => hu.setFrame)
      · cases ht
        exact hw.setTensor

theorem State.Kept.create {a d t} (h : s.Kept cs) (ht : s.create a d = some t) : t.Kept cs := by
  unfold State.create at ht
  split at ht
  · cases ht
  next u hu =>
    split at ht
    · exact (h.placeTensor hu).placeTensor ht
    · cases ht
      exact h.placeTensor hu

theorem State.Kept.allScrubbed (h : s.Kept cs) : (s.allScrubbed).Kept cs := h

theorem State.Kept.releaseRun {r} (h : s.Kept cs) : (s.releaseRun r).Kept cs :=
  .foldl h (fun hu => .ite hu hu.releaseFrame)

theorem State.Kept.dropTensor {a} (h : s.Kept cs) : (s.dropTensor a).Kept cs :=
  (((h.foldl (fun hu => hu.releaseFrame)).copy).foldl (fun hu => hu.releaseRun)).setTensor

theorem State.Kept.release {a} (h : s.Kept cs) : (s.release a).Kept cs := by
  unfold State.release
  split
  · exact h
  · exact .dropTensor (.ite h.dropTensor h)

/-! ### TensorMgmt -/

theorem State.Kept.createNow {q l c d} (h : s.Kept cs) : (s.createNow q l c d).Kept cs := by
  unfold State.createNow
  dsimp only
  split
  · exact h.enter
  next u hu =>
    refine h.atOnce (fun _ => ?_)
    split at hu
    · cases hu
    · exact h.advance.nameSlot.create hu

theorem execTensorCreate_kept {q c hostDesc} (h : s.Kept cs) : OutcomeKept cs (execTensorCreate q c hostDesc s) :=
  h.take (fun _ => h.createNow)

theorem State.Kept.resumeCreate {q st} (h : s.Kept cs) : (s.resumeCreate q st).Kept cs := by
  unfold State.resumeCreate
  split
  · dsimp only
    refine .ite h ?_
    split
    · exact h.surge.onStarted
    · split
      next u hu =>
        split at hu
        · cases hu
        · exact (h.create hu).surge.onStarted
      · exact h
  · exact h

theorem State.Kept.resumeCreates (h : s.Kept cs) : (s.resumeCreates).Kept cs :=
  h.foldl (fun hu => hu.foldl (fun h2 => h2.resumeCreate))

theorem execTensorFree_kept {q c} (h : s.Kept cs) : OutcomeKept cs (execTensorFree q c s) :=
  h.take (fun _ => .ite h (h.atOnce (fun hv => hv.release)))

theorem State.Kept.setAttr {a b} (h : s.Kept cs) : (s.setAttr a b).Kept cs := h.onTensor

theorem execTensorAttr_kept {q c} (h : s.Kept cs) : OutcomeKept cs (execTensorAttr q c s) :=
  h.take (fun _ => h.atOnce (fun hv => hv.setAttr))

theorem State.Kept.scrubFrame {f} (h : s.Kept cs) : (s.scrubFrame f).Kept cs := .ite h.clearRange h

theorem State.Kept.scrubOnce {p} (h : s.Kept cs) : (s.scrubOnce p).Kept cs := by
  unfold State.scrubOnce
  split
  · exact h.scrubFrame.copy
  · exact .ite h.scrubFrame.copy h

theorem State.Kept.scrubMany {p a} (h : s.Kept cs) : (s.scrubMany p a).Kept cs := by
  induction a generalizing s with
  | zero => exact h
  | succ n ih => exact ih h.scrubOnce

theorem execScrub_kept {p frames} (h : s.Kept cs) : OutcomeKept cs (execScrub p frames s) := h.scrubMany.resumeCreates

/-! ### MemorySys -/

theorem State.Kept.admitOne {ch} (h : s.Kept cs) : (s.admitOne ch).Kept cs := by
  unfold State.admitOne
  dsimp only
  split
  · split
    · exact h
    · split
      · exact h
      · exact h.surge.setChannel
  · exact h

theorem State.Kept.issueReq {ch q reads} (h : s.Kept cs) : (s.issueReq ch q reads).Kept cs := by
  unfold State.issueReq
  dsimp only
  split
  · exact h.onChannel.wakeChannel.nakTo
  · split
    · exact h.onChannel.wakeChannel.nakTo
    · split
      · exact (h.onChannel.wakeChannel.foldl (fun hu => hu.decodeLine)).dataTo
      · exact (h.onChannel.wakeChannel.foldl (fun hu => hu.decodeLine)).dataTo

theorem State.Kept.wcMerge {line mask data source} (h : s.Kept cs) : (s.wcMerge line mask data source).Kept cs :=
  h.wrMasked.notePartial

theorem State.Kept.storePoisoned {line mask data} (h : s.Kept cs) : (s.storePoisoned line mask data).Kept cs :=
  h.wrMasked.onChannel.dropEntry.wakeChannel.poisonLine

theorem State.Kept.tryPartial {line mask data source poison rd} (h : s.Kept cs) :
    (s.tryPartial line mask data source poison rd).1.Kept cs := by
  unfold State.tryPartial
  dsimp only
  split
  · split
    · exact h.retireWc
    · exact h
  · split
    · exact h.holdWrite
    · split
      · exact .ite h.access.storePoisoned h.access.wcMerge
      · exact h.access

theorem State.Kept.partialStore {line mask data source reply poison} (h : s.Kept cs) :
    (s.partialStore line mask data source reply poison).1.Kept cs := by
  unfold State.partialStore
  dsimp only
  split
  · split
    · exact h
    · exact h.tryPartial
  · refine .waitPartial ?_
    split
    · refine .meetBarrier ?_
      split
      · exact h
      · exact h.tryPartial
    · split
      · exact h
      · exact h.tryPartial

theorem execWcPartialStore_kept {addr mask data t} (h : s.Kept cs) :
    OutcomeKept cs (execWcPartialStore addr mask data t s) := by
  unfold execWcPartialStore
  dsimp only
  split
  · split
    · exact .ite h.tick.addressFault h.tick
    · exact h.tick.partialStore
  · exact h.tick.addressFault
  · exact h.tick

theorem State.Kept.ackWhenDone {p} (h : s.Kept cs) : (s.ackWhenDone p).Kept cs := .ite h h.ackTo

theorem State.Kept.admitPartial {ch a} (h : s.Kept cs) : (s.admitPartial ch a).Kept cs := by
  induction a generalizing s with
  | nil => exact h
  | cons w ws ih =>
    unfold State.admitPartial
    extract_lets r u
    have hr : r.1.Kept cs := .iteFst h h.tryPartial
    have hu : u.Kept cs := (State.Kept.ite hr hr.surge).onChannel
    split
    · exact ih hr
    · split
      · exact hu.ackWhenDone
      · exact hu

theorem execWcRetireTimeout_kept {ch r t} (h : s.Kept cs) : OutcomeKept cs (execWcRetireTimeout ch r t s) := by
  unfold execWcRetireTimeout
  dsimp only
  split
  · exact h.tick.retireWc
  · exact h.tick

theorem State.Kept.answerAdd {p o x} (h : s.Kept cs) : (s.answerAdd p o x).Kept cs := by
  unfold State.answerAdd
  split
  · exact h.nakTo
  · split
    · exact h.dataTo
    · exact h.ackWhenDone

theorem State.Kept.queueAdd {w} (h : s.Kept cs) : (s.queueAdd w).Kept cs := by
  unfold State.queueAdd
  split
  · exact h
  · exact .copy (.onChannel (.ite (h.foldl (fun hu => .ite hu.meetBarrier hu)) h))

theorem State.Kept.submitTry {o side node source reply rd} (h : s.Kept cs) :
    (s.submitTry o side node source reply rd).1.Kept cs := by
  unfold State.submitTry
  split
  · exact h.queueAdd
  · split
    next u1 _ heq =>
      have h1 := AddTry.Kept.ofEq heq h.tryOp
      exact h1.queueAdd
    next u1 heq =>
      have h1 := AddTry.Kept.ofEq heq h.tryOp
      exact h1

theorem State.Kept.submitAdd {o side node source reply rd} (h : s.Kept cs) :
    (s.submitAdd o side node source reply rd).Kept cs := by
  have ht : (s.submitTry o side node source reply rd).1.Kept cs := h.submitTry
  unfold State.submitAdd
  split
  next u x p heq => exact (State.submitTry_done heq ▸ State.Kept.ofPair heq ht : x.s.Kept cs).answerAdd
  next u x _ heq => exact State.Kept.ofPair heq ht

theorem State.Kept.failEntry {ch n} (h : s.Kept cs) : (s.failEntry ch n).Kept cs := by
  unfold State.failEntry
  split
  · exact h
  · exact h.dropEntry.poisonLine.recordOf

theorem execAdderOperation_kept {o t} (h : s.Kept cs) : OutcomeKept cs (execAdderOperation o t s) := by
  unfold execAdderOperation
  refine .settled ?_
  split
  · exact h.tick.submitAdd.failEntry
  · exact h.tick.submitAdd

theorem State.Kept.admitAdd {ch a} (h : s.Kept cs) : (s.admitAdd ch a).Kept cs := by
  induction a generalizing s with
  | nil => exact h
  | cons w ws ih =>
    have ht : ∀ {c : Prop} [Decidable c] {o side node source}, AddTry.Kept cs
        (if c then .wait s 0 else s.tryOp o side node source) := fun {c _ _ _ _ _} => by
      split
      · exact h
      · exact h.tryOp
    unfold State.admitAdd
    dsimp only
    split
    next u key heq => exact ih (AddTry.Kept.ofEq heq ht)
    next x heq =>
      have hx : x.s.Kept cs := AddTry.Kept.ofEq heq ht
      have h1 : ∀ {f}, (State.onChannel (if w.key = 0 then x.s else x.s.surge w.key w.since) ch f).Kept cs := fun {_} =>
        (State.Kept.ite hx hx.surge).onChannel
      split
      · exact h1.answerAdd
      · exact h1

theorem State.Kept.writeBackEntries {ch} (h : s.Kept cs) : (s.writeBackEntries ch).Kept cs := by
  unfold State.writeBackEntries
  dsimp only
  split
  · exact h.setChannel
  · split
    · split
      · exact h.setChannel
      · exact h
    · exact h

theorem State.Kept.grantStaging {a} (h : s.Kept cs) : (s.grantStaging a).Kept cs := by
  induction a generalizing s with
  | nil => exact h
  | cons w ws ih =>
    unfold State.grantStaging
    split
    next u key heq => exact ih (AddTry.Kept.ofEq heq h.tryOp)
    next x heq =>
      have hx : x.s.Kept cs := AddTry.Kept.ofEq heq h.tryOp
      exact hx.surge.copy

theorem execRefresh_kept {ch} (h : s.Kept cs) : OutcomeKept cs (execRefresh ch s) := .ite h.onChannel h

theorem execChannelPowerDown_kept {ch t} (h : s.Kept cs) : OutcomeKept cs (execChannelPowerDown ch t s) :=
  .ite h.tick.setChannel h.tick

theorem State.Kept.hintMembers {c} (h : s.Kept cs) : (s.hintMembers c).Kept cs :=
  ((h.foldl (fun hu => hu.sendPacket)).bump).copy

theorem State.Kept.derateCollectives {p level} (h : s.Kept cs) : (s.derateCollectives p level).Kept cs :=
  .foldl h (fun hu => hu.hintMembers)

theorem State.Kept.derateCommands {p} (h : s.Kept cs) : (s.derateCommands p).Kept cs := h

theorem State.Kept.setDerate {p level} (h : s.Kept cs) : (s.setDerate p level).Kept cs := by
  unfold State.setDerate
  split
  · exact h.onPackage.setDv.recordOf.derateCollectives.derateCommands
  · exact h.onPackage.setDv.recordOf.derateCollectives

theorem State.Kept.syncRefresh {p} (h : s.Kept cs) : (s.syncRefresh p).Kept cs := h.foldl (fun hu => hu.onChannel)
theorem State.Kept.leaveCritical {p} (h : s.Kept cs) : (s.leaveCritical p).Kept cs := h.onPackage.setDv.syncRefresh

theorem execTemperatureReadout_kept {p celsius t} (h : s.Kept cs) :
    OutcomeKept cs (execTemperatureReadout p celsius t s) := by
  unfold execTemperatureReadout
  dsimp only
  split
  · exact .setDerate (.ite h.tick.setDv.setPackage.leaveCritical h.tick.setDv.setPackage)
  · exact .ite h.tick.setDv.setPackage.leaveCritical h.tick.setDv.setPackage

theorem State.Kept.exitDerate {p} (h : s.Kept cs) : (s.exitDerate p).Kept cs :=
  .settled (.runTransfers (.setDerate (.ite h.countCritical h)))

theorem State.Kept.enterCritical {p} (h : s.Kept cs) : (s.enterCritical p).Kept cs := by
  unfold State.enterCritical
  exact h.onPackage.setDv.countCritical.syncRefresh.failWaiting.runTransfers.settled

/-! ### Sched -/

theorem State.Kept.setArray {c a x} (h : s.Kept cs) : (s.setArray c a x).Kept cs := h.onCluster
theorem State.Kept.askPager {c w t k} (h : s.Kept cs) : (s.askPager c w t k).Kept cs := h.onCluster

theorem State.Kept.endStall {c a} (h : s.Kept cs) : (s.endStall c a).Kept cs := by
  unfold State.endStall
  dsimp only
  split
  · exact h
  · exact h.bump.setArray

theorem State.Kept.noteLate {c a} (h : s.Kept cs) : (s.noteLate c a).Kept cs := by
  unfold State.noteLate
  dsimp only
  split
  · exact .ite h.setArray h
  · exact h

theorem State.Kept.startTile {c a} (h : s.Kept cs) : (s.startTile c a).Kept cs := by
  unfold State.startTile
  split
  · exact h
  · exact h.endStall.onCluster.askWork.setArray.noteLate

theorem State.Kept.feedArrays {c} (h : s.Kept cs) : (s.feedArrays c).Kept cs := by
  unfold State.feedArrays
  dsimp only
  refine .foldl (h.foldl (fun hu => .ite hu hu.startTile)) (fun hu => ?_)
  split
  · exact hu
  · split
    · exact .ite hu.setArray hu
    · exact hu.endStall

theorem State.Kept.takePage {c t} (h : s.Kept cs) : (s.takePage c t).Kept cs := .ite h.setCluster h.setCluster

theorem State.Kept.toQueuePath {q st w} (h : s.Kept cs) : (s.toQueuePath q st w).Kept cs :=
  .ite h.onMatmul.onStarted.bump h

theorem State.Kept.handTile {st w t c} (h : s.Kept cs) : (s.handTile st w t c).Kept cs := by
  unfold State.handTile
  exact h.toQueuePath.onStarted.callRegion.prefer.askPager.occupy.takePage.feedArrays

theorem State.Kept.dispatchTo {q st w c moved} (h : s.Kept cs) : (s.dispatchTo q st w c moved).Kept cs := by
  unfold State.dispatchTo
  refine .handTile ?_
  refine .copy ?_
  refine .bump ?_
  refine .dealFrame ?_
  refine .onMatmul ?_
  split
  · exact h.surge
  · exact h

theorem State.Kept.dispatchFirst {a} (h : s.Kept cs) : (s.dispatchFirst a).Kept cs := by
  induction a generalizing s with
  | nil => exact h
  | cons j js ih =>
    unfold State.dispatchFirst
    dsimp only
    split
    · exact ih h
    · exact .ite h.dispatchTo (ih h.onMatmul)

theorem execTileDispatch_kept {t} (h : s.Kept cs) : OutcomeKept cs (execTileDispatch t s) :=
  .ite h.tick h.tick.dispatchFirst.pumpPagers

theorem execDispatchAgeCeiling_kept {t} (h : s.Kept cs) : OutcomeKept cs (execDispatchAgeCeiling t s) :=
  .ite h.tick h.tick.dispatchFirst.pumpPagers

theorem State.Kept.fetchArrives {c} (h : s.Kept cs) : (s.fetchArrives c).Kept cs := by
  unfold State.fetchArrives
  split
  · exact h
  · refine .foldl h.bump (fun hu => ?_)
    refine .foldl hu.onCluster (fun h2 => ?_)
    split
    · exact .ite h2.endStall h2
    · exact h2

theorem execPagerFetchArrival_kept {c} (h : s.Kept cs) : OutcomeKept cs (execPagerFetchArrival c s) :=
  h.pumpPager.fetchArrives.pumpPager.runVectors

theorem State.Kept.passOperands {c t streams} (h : s.Kept cs) : (s.passOperands c t streams).Kept cs := h.onCluster
theorem State.Kept.matmulEnds {q st status} (h : s.Kept cs) : (s.matmulEnds q st status).Kept cs := h.engineEnds

theorem State.Kept.finishTile {c a} (h : s.Kept cs) : (s.finishTile c a).Kept cs := by
  unfold State.finishTile
  extract_lets x
  split
  · exact h
  next t _ =>
    extract_lets idle out
    have hi : ∀ {u}, u.Kept cs → (idle u).Kept cs := fun hu => hu.relieve.onRegion
    split
    · exact (hi h.passOperands.passOperands).onCluster.setArray.feedArrays
    · split
      · exact h
      · split
        · exact h.beginIngress
        · extract_lets s0 cmd r p ks
          have h0 : s0.Kept cs := h.endHolds
          split
          extract_lets stop s1 s2 s3 s4 s5 s6
          have h1 : s1.Kept cs := .ite h0.matmulEnds h0
          have h2 : s2.Kept cs := h1.drawn.bump.bump
          have h3 : s3.Kept cs := h2.bump.bump.bump
          have h4 : s4.Kept cs := h3.takeElems.takeElems
          have h5 : s5.Kept cs := .ite h4.meet h4
          have h6 : s6.Kept cs := (hi h5.passOperands).fallBy.onCluster
          exact h6.endStall.setArray.feedArrays

theorem State.Kept.parityRecord {a unit region n} (h : s.Kept cs) : (s.parityRecord a unit region n).Kept cs :=
  h.recordOf

theorem State.Kept.failTile {c a e latch} (h : s.Kept cs) : (s.failTile c a e latch).Kept cs := by
  unfold State.failTile
  dsimp only
  split
  · exact h
  · exact h.setArray.parityRecord

theorem execTileFinish_kept {c a} (h : s.Kept cs) : OutcomeKept cs (execTileFinish c a s) := by
  unfold execTileFinish
  split
  · exact .ite h.finishTile.failTile h.finishTile
  · exact h.finishTile

theorem State.Kept.admitTile {c} (h : s.Kept cs) : (s.admitTile c).Kept cs := by
  unfold State.admitTile
  dsimp only
  split
  · exact h
  · split
    · exact h
    · exact h.onCluster.setArray.feedArrays

theorem execFinishedTileAdmit_kept {c} (h : s.Kept cs) : OutcomeKept cs (execFinishedTileAdmit c s) := h.admitTile

theorem State.Kept.flushStaged {q id c idxs} (h : s.Kept cs) : (s.flushStaged q id c idxs).Kept cs := by
  unfold State.flushStaged
  dsimp only
  split
  · exact h
  · split
    · split
      · exact h
      · exact (((h.foldl (fun hu => hu.bindElems)).writeResults).onMatmul).onStarted
    · exact h

theorem State.Kept.afterRun {q id x fl bad f} (h : s.Kept cs) : (s.afterRun q id x fl bad f).Kept cs :=
  h.onMatmul.onStarted

theorem State.Kept.enterEpilogue {q id v rows} (h : s.Kept cs) : (s.enterEpilogue q id v rows).Kept cs :=
  .ite h.recordStreams.meet h.recordStreams

theorem State.Kept.epilogueTile {c f st w} (h : s.Kept cs) : (s.epilogueTile c f st w).Kept cs := by
  unfold State.epilogueTile
  extract_lets cmd p dc v plain code cols rows evs a x s1
  have hx : x.s.Kept cs := State.Kept.run (x := { s := _, rows := rows }) h.enterEpilogue.drawn
  have h1 : s1.Kept cs := hx.writeRowScalars.countBeats.bump.bump
  have ha : a.s.Kept cs := h.writeResults
  exact .ite ha.afterRun h1.afterRun.flushStaged

theorem State.Kept.runGroup {q st w c b mt g} (h : s.Kept cs) : (s.runGroup q st w c b mt g).Kept cs := by
  unfold State.runGroup
  extract_lets cmd dc v ms row rows x0 banked evs fills a x qs s1 used
  have h0 : x0.s.Kept cs := State.Kept.run (x := { s := _, rows := rows }) h.enterEpilogue.drawn
  have ha : a.s.Kept cs := .iteAcc (x := ⟨x0.s, 0, false⟩) h0 h0.writeResults
  have h1 : s1.Kept cs := State.Kept.bump (State.Kept.bump (State.Kept.countBeats (State.Kept.writeRowScalars ha)))
  exact h1.afterRun.flushStaged

theorem State.Kept.closeMatmul {q st} (h : s.Kept cs) : (s.closeMatmul q st).Kept cs :=
  .onStarted (.dropFetches (.ite h h.coverTensor))

theorem State.Kept.unitsDone {q id c n} (h : s.Kept cs) : (s.unitsDone q id c n).Kept cs := by
  unfold State.unitsDone
  dsimp only
  split
  · exact h.onMatmul.onCluster.onRegion
  · split
    · split
      · exact h.onMatmul.onCluster.onRegion.closeMatmul
      · exact h.onMatmul.onCluster.onRegion
    · exact h.onMatmul.onCluster.onRegion

theorem State.Kept.releaseBanks {q c st b mt g} (h : s.Kept cs) : (s.releaseBanks q c st b mt g).Kept cs := by
  unfold State.releaseBanks
  exact (h.foldl (fun hu => .ite hu.setArray hu)).feedArrays

theorem State.Kept.runGroups {q id c b mt groups} (h : s.Kept cs) : (s.runGroups q id c b mt groups).Kept cs := by
  induction groups generalizing s with
  | nil => exact h
  | cons g gs ih =>
    unfold State.runGroups
    split
    · exact h
    · split
      · exact .ite (ih h) (.ite (ih h.runGroup.onMatmul.releaseBanks.unitsDone) h)
      · exact h

theorem State.Kept.takeInPlace {c f st w} (h : s.Kept cs) : (s.takeInPlace c f st w).Kept cs :=
  h.onMatmul.onStarted.runGroups

theorem State.Kept.takeFinished {c f} (h : s.Kept cs) : (s.takeFinished c f).Kept cs := by
  unfold State.takeFinished
  dsimp only
  split
  · exact h.onCluster
  · split
    · exact h.passOperands.takeInPlace
    · split
      · exact h.passOperands.epilogueTile.unitsDone
      · split
        · exact h.passOperands.onMatmul.unitsDone
        · exact h.passOperands.onMatmul.drawn.epilogueTile.unitsDone

theorem State.Kept.holdBank {c a f} (h : s.Kept cs) : (s.holdBank c a f).Kept cs := by
  unfold State.holdBank
  split
  · exact h.setArray.feedArrays
  · exact h.setArray.passOperands.takeInPlace

theorem State.Kept.endEpilogueHolds {q st w} (h : s.Kept cs) : (s.endEpilogueHolds q st w).Kept cs := by
  unfold State.endEpilogueHolds
  split
  · exact h.endHolds.surge.onMatmul
  · exact h.endHolds

theorem State.Kept.holdEpilogue {c t} (h : s.Kept cs) : (s.holdEpilogue c t).1.Kept cs := by
  unfold State.holdEpilogue
  dsimp only
  split
  · exact h
  · split
    · exact h
    · split
      · exact h.matmulEnds
      · split
        · exact h.beginHot
        · split
          · exact h.barAct
          · split
            · exact h.beginStaging
            · split
              · exact h.beginIngress
              · split
                · exact h.onMatmul
                · exact h.endEpilogueHolds

theorem State.Kept.retryGroups {c} (h : s.Kept cs) : (s.retryGroups c).Kept cs := by
  unfold State.retryGroups
  refine .foldl h (fun hu => ?_)
  split
  · exact hu
  · split
    · split
      · exact hu
      · exact .ite hu.holdEpilogue hu.holdEpilogue.runGroups
    · exact hu

theorem State.Kept.runEpilogue {c} (h : s.Kept cs) : (s.runEpilogue c).Kept cs := by
  unfold State.runEpilogue
  dsimp only
  split
  · exact h
  · split
    · exact .ite h.holdEpilogue h.holdEpilogue.onCluster.takeFinished
    · split
      · exact .ite h.holdEpilogue h.holdEpilogue.holdBank
      · exact h.retryGroups

theorem State.Kept.failHead {c e} (h : s.Kept cs) : (s.failHead c e).Kept cs := by
  unfold State.failHead
  split
  · exact .ite h h.onCluster.parityRecord
  · exact h

theorem execEpilogue_kept {c} (h : s.Kept cs) : OutcomeKept cs (execEpilogue c s) := by
  unfold execEpilogue
  split
  · exact .runEpilogue (.ite h.failHead h)
  · exact h.runEpilogue

theorem State.Kept.grantPage {c} (h : s.Kept cs) : (s.grantPage c).Kept cs := by
  unfold State.grantPage
  dsimp only
  split
  · exact h
  · exact .ite h.surge.setCluster.feedArrays h

theorem execScratchPageGrant_kept {c t} (h : s.Kept cs) : OutcomeKept cs (execScratchPageGrant c t s) :=
  h.tick.grantPage

/-! ### Update -/

theorem State.Kept.teeTensor {a} (h : s.Kept cs) : (s.teeTensor a).Kept cs := by
  unfold State.teeTensor
  dsimp only
  split
  · exact h
  · split
    · exact h
    · split
      · refine .foldl ?_ (fun hu => .ite hu hu.teeRange)
        split
        · refine .foldl (.ite h h.teeRange) (fun hu => ?_)
          split
          · exact hu.teeRange
          · exact hu
        · exact h
      · split
        · refine .foldl (.ite h h.teeRange) (fun hu => ?_)
          split
          · exact hu.teeRange
          · exact hu
        · exact h

theorem State.Kept.applyUpdate' {q st prog shares} (h : s.Kept cs) : (s.applyUpdate' q st prog shares).Kept cs := by
  unfold State.applyUpdate'
  dsimp only
  refine .onStarted ?_
  refine .teeRun ?_
  refine .relieveShares ?_
  refine .bump ?_
  refine .foldl ?_ (fun hu => hu.latchVerdict)
  refine .foldlAcc ((h.drawn.foldl (fun hu => hu.takeElems)).foldl (fun hu => hu.foldl (fun h2 => h2.bindElems)))
    (fun hu => ?_)
  split
  · exact hu
  · exact hu.writeResults.coverTensor.teeTensor

theorem State.Kept.countVerdict {st} (h : s.Kept cs) : (s.countVerdict st).Kept cs := .ite h h.bump

theorem State.Kept.finishUpdate {q st prog} (h : s.Kept cs) : (s.finishUpdate q st prog).Kept cs := by
  unfold State.finishUpdate
  dsimp only
  split
  · exact h.countVerdict.faultOf.onStarted.engineEnds
  · split
    · exact h.countVerdict.engineEnds
    · exact .ite h.countVerdict.engineEnds h.countVerdict.applyUpdate'.slotShares

theorem State.Kept.runUpdate {q st prog} (h : s.Kept cs) : (s.runUpdate q st prog).Kept cs := by
  unfold State.runUpdate
  dsimp only
  split
  · exact h
  · split
    · exact h.countVerdict.engineEnds
    · split
      · exact h.beginHot
      · split
        · exact h.barAct
        · split
          · exact h.beginStaging
          · split
            · exact h.beginIngress
            · split
              · exact h.endHolds.runShares
              · exact .ite h.endHolds.runShares.finishUpdate h.endHolds.runShares

theorem State.Kept.goUpdate {q id} (h : s.Kept cs) : (s.goUpdate q id).Kept cs := by
  unfold State.goUpdate
  split
  · exact h
  · split
    · exact h.runUpdate
    · exact h

theorem State.Kept.actUpdate {q st} (h : s.Kept cs) : (s.actUpdate q st).Kept cs := by
  unfold State.actUpdate
  dsimp only
  split
  · exact h
  · split
    · exact h.countVerdict.engineEnds
    · exact .ite h.countVerdict.engineEnds (.ite h h.slotShares.goUpdate)

theorem execUpdateVerdictAction_kept {q id} (h : s.Kept cs) : OutcomeKept cs (execUpdateVerdictAction q id s) := by
  unfold execUpdateVerdictAction
  dsimp only
  split
  · exact h.teeRun
  · split
    · exact .ite h.teeRun h.teeRun.actUpdate
    · exact h.teeRun

theorem State.Kept.startUpdate {q l c} (h : s.Kept cs) : (s.startUpdate q l c).Kept cs := by
  unfold State.startUpdate
  dsimp only
  split
  · split
    · exact h.dealParts.callShares.enter.engineEnds
    · exact h.dealParts.callShares.enter
  · exact h.dealParts.callShares.enter.fetchParts.slotShares

theorem State.Kept.update {q c rd} (h : s.Kept cs) : (s.update q c rd).Kept cs :=
  h.take (fun _ => .ite h.waitHot (h.coherent (fun hv => hv.readErrors.startUpdate)))

theorem execUpdate_kept {q c} (h : s.Kept cs) : OutcomeKept cs (execUpdate q c s) := h.update

/-! ### Snapshot -/

theorem State.Kept.toMailbox {off bytes} (h : s.Kept cs) : (s.toMailbox off bytes).Kept cs :=
  h.foldl (fun hu => hu.ask)

theorem State.Kept.sendRecord {kind status step evidence} (h : s.Kept cs) :
    (s.sendRecord kind status step evidence).Kept cs :=
  h.toMailbox

theorem State.Kept.slotStore {q id slot off bytes} (h : s.Kept cs) : (s.slotStore q id slot off bytes).1.Kept cs := by
  unfold State.slotStore
  extract_lets base r
  have hr : r.1.Kept cs := by
    refine .foldlFst h fun hu => ?_
    refine .iteFst hu ?_
    split
    · exact hu.ask
    · exact hu.ask
    · exact .iteFst hu.storeBytes (.iteFst hu.faultOf hu)
    · exact hu
  exact .ite hr.bump hr

theorem State.Kept.slotReadBack {q id slot off} (h : s.Kept cs) : (s.slotReadBack q id slot off).1.Kept cs := by
  unfold State.slotReadBack
  split
  · exact h.ask
  · exact h.ask
  · exact h

theorem State.Kept.setSlot {slot step state} (h : s.Kept cs) : (s.setSlot slot step state).Kept cs := h.setDv

theorem State.Kept.snapshotEnds {q id status a addr value} (h : s.Kept cs) :
    (s.snapshotEnds q id status a addr value).Kept cs :=
  .ite h.onStarted (.ite h.record h)

theorem State.Kept.releaseHeld (h : s.Kept cs) : (s.releaseHeld).Kept cs :=
  h.foldl (fun hu => .ite hu (hu.onChannel.foldl (fun h2 => h2.storeMem.surge)))

theorem State.Kept.afterBarrier (h : s.Kept cs) : (s.afterBarrier).Kept cs := h.releaseHeld.runTransfers.settled

theorem State.Kept.sheetFails {status writeHeader a addr value} (h : s.Kept cs) :
    (s.sheetFails status writeHeader a addr value).Kept cs := by
  unfold State.sheetFails
  split
  · exact h
  · exact .afterBarrier (.snapshotEnds (.setDv (.ite (.setSlot (.slotStore h)) h)))

theorem State.Kept.closeEverything (h : s.Kept cs) : (s.closeEverything).Kept cs := by
  unfold State.closeEverything
  refine .foldl ?_ (fun hu => (hu.foldl (fun h2 => h2.retireWc)).onChannel)
  refine .foldl h (fun hu => ?_)
  split
  · exact .ite hu.closeBlocks hu
  · exact hu

theorem State.Kept.shipAll (h : s.Kept cs) : (s.shipAll).Kept cs :=
  h.foldl (fun hu => hu.foldl (fun h2 => h2.shipGateway))

theorem State.Kept.stageAct {stage} (h : s.Kept cs) : (s.stageAct stage).Kept cs :=
  .ite h.closeEverything (.ite h.shipAll h)

theorem State.Kept.dropBath {b keep} (h : s.Kept cs) : (s.dropBath b keep).Kept cs :=
  .ite h.setDv.copy h.setDv.copy.liftHold

theorem State.Kept.armSheet {b} (h : s.Kept cs) : (s.armSheet b).1.Kept cs := by
  unfold State.armSheet
  dsimp only
  split
  · exact h
  · refine .copy ?_
    refine .setDv ?_
    refine .foldlFst h.slotStore (fun hu => ?_)
    split
    · exact hu
    · exact hu.slotStore

theorem State.Kept.slotHeader {b slot state} (h : s.Kept cs) : (s.slotHeader b slot state).1.Kept cs :=
  .ite h.slotStore.setSlot h.slotStore

theorem State.Kept.openSheet {b slot} (h : s.Kept cs) : (s.openSheet b slot).1.Kept cs := by
  unfold State.openSheet
  dsimp only
  split
  · exact h.slotHeader
  · exact h.slotHeader.slotReadBack

theorem State.Kept.unwait {b} (h : s.Kept cs) : (s.unwait b).Kept cs := h

theorem State.Kept.holdBath {b} (h : s.Kept cs) : (s.holdBath b).Kept cs := by
  unfold State.holdBath
  refine .ite h.unwait.snapshotEnds ?_
  exact .ite (.ite (.snapshotEnds (.dropBath (.openSheet (.copy (.ite h.unwait.sheetFails h.unwait)))))
    (.openSheet (.copy (.ite h.unwait.sheetFails h.unwait)))) (.copy (.ite h.unwait.sheetFails h.unwait))

theorem State.Kept.nextBath (h : s.Kept cs) : (s.nextBath).Kept cs := h.foldl (fun hu => .ite hu.holdBath hu)
theorem State.Kept.askBath {b} (h : s.Kept cs) : (s.askBath b).Kept cs := .nextBath h

theorem State.Kept.bathFails {b status a addr value} (h : s.Kept cs) : (s.bathFails b status a addr value).Kept cs :=
  h.dropBath.snapshotEnds.nextBath.settled

theorem State.Kept.askSheet {b} (h : s.Kept cs) : (s.askSheet b).Kept cs :=
  .ite h.askBath (.ite h.openSheet.snapshotEnds.settled h.openSheet.askBath)

theorem State.Kept.startBath {q l c purpose immediate mirror keep source} (h : s.Kept cs) :
    (s.startBath q l c purpose immediate mirror keep source).Kept cs :=
  .ite h.enter.askSheet h.enter.askBath

theorem execStopBath_kept {q c} (h : s.Kept cs) : OutcomeKept cs (execStopBath q c s) := h.take (fun _ => h.startBath)

theorem execSheet_kept {q c} (h : s.Kept cs) : OutcomeKept cs (execSheet q c s) :=
  h.take (fun _ => h.setDv.copy.startBath)

theorem State.Kept.abortSheet (h : s.Kept cs) : (s.abortSheet).Kept cs := by
  unfold State.abortSheet
  dsimp only
  split
  · exact .ite h.sheetFails.slotHeader.bathFails h.sheetFails
  · exact h.sheetFails

theorem execSheetAbort_kept {q c} (h : s.Kept cs) : OutcomeKept cs (execSheetAbort q c s) :=
  h.take (fun _ => h.atOnce (fun hv => hv.abortSheet))

theorem State.Kept.headerFails {o st back} (h : s.Kept cs) : (s.headerFails o st back).Kept cs := by
  unfold State.headerFails
  dsimp only
  split
  · exact h
  · split
    · exact .bathFails (.ite h.slotHeader h)
    · exact .settled (.nextBath (.snapshotEnds (.unwait (.ite h.slotHeader h))))

theorem State.Kept.storePieces {sh g} (h : s.Kept cs) : (s.storePieces sh g).1.Kept cs := by
  unfold State.storePieces
  refine .foldlFst h (fun hu => ?_)
  split
  · exact hu
  · exact hu.slotStore

theorem State.Kept.copySegment {sh g} (h : s.Kept cs) : (s.copySegment sh g).Kept cs := by
  unfold State.copySegment
  dsimp only
  split
  · exact .sheetFails (.ite h.faultOf h)
  · exact .ite h.storePieces.sheetFails h.storePieces.setDv.copy.afterBarrier

theorem State.Kept.sheetReadBack {sh} (h : s.Kept cs) : (s.sheetReadBack sh).Kept cs :=
  .ite h.slotReadBack.sheetFails h.slotReadBack.copy

theorem State.Kept.readBackCopied {id} (h : s.Kept cs) : (s.readBackCopied id).Kept cs := by
  unfold State.readBackCopied
  split
  · exact .ite h.sheetReadBack h
  · exact h

theorem execSegmentCopied_kept {t} (h : s.Kept cs) : OutcomeKept cs (execSegmentCopied t s) := by
  unfold execSegmentCopied
  dsimp only
  split
  · exact h.tick
  · split
    · exact h.tick.copySegment.readBackCopied
    · exact .ite h.tick.sheetReadBack h.tick

theorem State.Kept.closeSheet {sh} (h : s.Kept cs) : (s.closeSheet sh).Kept cs := by
  unfold State.closeSheet
  dsimp only
  split
  · exact h.slotStore.sheetFails
  · split
    · exact h.slotStore.slotReadBack.sheetFails
    · exact h.slotStore.slotReadBack.setDv.copy

theorem State.Kept.endSheet {sh} (h : s.Kept cs) : (s.endSheet sh).Kept cs :=
  .snapshotEnds (.setDv (.setDv (.setSlot h)))

theorem execSheetComplete_kept {t} (h : s.Kept cs) : OutcomeKept cs (execSheetComplete t s) := by
  unfold execSheetComplete
  dsimp only
  split
  · exact h.tick
  · exact .ite h.tick (.ite h.tick.closeSheet (.ite h.tick.endSheet h.tick))

/-! ### Restore -/

theorem State.Kept.sendMark {step applied} (h : s.Kept cs) : (s.sendMark step applied).Kept cs :=
  .ite h.drawn.copy.teeRun h

theorem State.Kept.fillPlane {hdr image arrays} (h : s.Kept cs) : (s.fillPlane hdr image arrays).Kept cs :=
  .ite h (h.wrBytes.foldl (fun hu => .ite hu hu.wrBytes))

theorem State.Kept.fillData {d off bytes} (h : s.Kept cs) : (s.fillData d off bytes).Kept cs := by
  unfold State.fillData
  refine .foldl h (fun hu => ?_)
  split
  · exact hu.wrBytes
  · exact hu

theorem State.Kept.createScrubbed {a d t} (h : s.Kept cs) (ht : s.createScrubbed a d = some t) : t.Kept cs := by
  unfold State.createScrubbed at ht
  split at ht
  next u hu =>
    cases ht
    exact h.create hu
  · exact (State.Kept.foldl h fun hu => hu.scrubMany).create ht

theorem State.Kept.rebuild {r} (h : s.Kept cs) : (s.rebuild r).1.Kept cs := by
  simp only [State.rebuild]
  generalize setFld (descSetBit (descSetBit (descSetBit r.desc 2 7 false) 3 0 false) 3 1 false) 40 16 0 = d
  generalize s.createFail r.handle d = f
  cases f with
  | some f => exact h
  | none =>
    cases hu : s.createScrubbed r.handle d with
    | none => exact h
    | some u =>
      have h1 : u.Kept cs := h.createScrubbed hu
      have h3 : ∀ {d e f}, State.Kept ((State.fillData (if r.kind = 1 then u.bindAll r.handle u.idlestCluster else u)
          d 0 e).fillPlane f r.header r.arrays) cs := State.Kept.fillPlane (.fillData (.ite h1.bindAll h1))
      refine State.Kept.onTensor (.ite ?_ h3)
      split
      · exact h3.bindAll.fillData.fillPlane
      · exact h3.bindAll

theorem State.Kept.rebuildAll {rs} (h : s.Kept cs) : (s.rebuildAll rs).1.Kept cs := by
  unfold State.rebuildAll
  refine .foldlFst (h.foldl (fun hu => hu.release)) (fun hu => ?_)
  split
  · exact hu
  · exact hu.rebuild

theorem State.Kept.restorePoint {c src} (h : s.Kept cs) : (s.restorePoint c src).Kept cs := by
  unfold State.restorePoint
  split
  · exact .foldl (.setDv (.setDv (.setDv (.setDv (.setDv h))))) (fun hu => hu.setCounter)
  · exact .ite (.copy (.setDv (.setDv (.setDv (.setDv (.setDv h)))))) h

theorem State.Kept.endRestore {b c status} (h : s.Kept cs) : (s.endRestore b c status).Kept cs := h.setDv.bathFails

theorem State.Kept.restoreNow {b} (h : s.Kept cs) : (s.restoreNow b).Kept cs := by
  unfold State.restoreNow
  split
  · exact h.bathFails
  · refine .ite h.endRestore ?_
    refine .ite h.rebuildAll.endRestore ?_
    refine .endRestore ?_
    exact .ite ((h.rebuildAll.restorePoint.foldl (fun hu => hu.teeTensor)).sendMark) h.rebuildAll.restorePoint

theorem execRestore_kept {q c source} (h : s.Kept cs) : OutcomeKept cs (execRestore q c source s) :=
  h.take (fun _ => h.startBath)

theorem State.Kept.unpair (h : s.Kept cs) : (s.unpair).Kept cs := h.setDv.copy.teeSettle

theorem State.Kept.detachSend {step} (h : s.Kept cs) : (s.detachSend step).Kept cs :=
  .ite h.teeFlush.sendRecord.unpair h.teeFlush.sendRecord.copy

theorem State.Kept.bathEnds {b} (h : s.Kept cs) : (s.bathEnds b).Kept cs :=
  .settled (.nextBath (.ite h.dropBath.snapshotEnds (.ite h.dropBath.detachSend h.dropBath)))

theorem State.Kept.endStage {b0} (h : s.Kept cs) : (s.endStage b0).Kept cs := by
  unfold State.endStage
  refine .ite h.stageAct ?_
  refine .ite ?_ ?_
  · refine .ite ?_ ?_
    · refine .bathFails ?_
      refine .sheetFails ?_
      exact .iteFst h.stageAct.copy.armSheet h.stageAct.copy
    · refine .copy ?_
      exact .iteFst h.stageAct.copy.armSheet h.stageAct.copy
  · exact .ite h.stageAct.restoreNow (.ite h.stageAct.bathEnds h.stageAct.copy)

theorem State.Kept.timeoutBath {b} (h : s.Kept cs) : (s.timeoutBath b).Kept cs := .bathFails (.ite h.sheetFails h)

theorem State.Kept.freezeNegative {step torn released} (h : s.Kept cs) :
    (s.freezeNegative step torn released).Kept cs :=
  .ite h.setDv h.setDv.wrNat.wrNat

theorem State.Kept.answerDetach (h : s.Kept cs) : (s.answerDetach).Kept cs := h.teeFlush.sendRecord.unpair

theorem execDetachReleaseAnswer_kept {t} (h : s.Kept cs) : OutcomeKept cs (execDetachReleaseAnswer t s) := by
  unfold execDetachReleaseAnswer
  dsimp only
  split
  · exact .ite h.tick.answerDetach h.tick
  · exact h.tick

theorem State.Kept.actDetach (h : s.Kept cs) : (s.actDetach).Kept cs := .ite h.detachSend (.ite h h.askBath)

theorem execDetachAct_kept {t} (h : s.Kept cs) : OutcomeKept cs (execDetachAct t s) := by
  unfold execDetachAct
  dsimp only
  split
  · exact .ite h.tick.actDetach h.tick
  · exact h.tick

/-! ### Rights -/

theorem State.Kept.keepLone {m key value} (h : s.Kept cs) : (s.keepLone m key value).Kept cs := .ite h (.ite h h)
theorem State.Kept.tagWrite {m key} (h : s.Kept cs) : (s.tagWrite m key).Kept cs := .ite h h
theorem State.Kept.renewHold {m} (h : s.Kept cs) : (s.renewHold m).Kept cs := .ite h h
theorem State.Kept.awaitFollower (h : s.Kept cs) : (s.awaitFollower).Kept cs := .ite h h

theorem State.Kept.masterWrite {m key len value f} (h : s.Kept cs) (h1 : ∀ {v}, v.Kept cs → (f v).1.Kept cs) :
    (s.masterWrite m key len value f).1.Kept cs := by
  unfold State.masterWrite
  dsimp only
  split
  · exact h.renewHold
  · split
    · exact h1 h.renewHold
    · exact (((h1 h.renewHold).tagWrite).keepLone).awaitFollower

/-! ### Twin -/

theorem State.Kept.onTwin {f} (h : s.Kept cs) : (s.onTwin f).Kept cs := h
theorem State.Kept.endPairing {status} (h : s.Kept cs) : (s.endPairing status).Kept cs := h.setDv.unpair

theorem State.Kept.enterPaired {peer status} (h : s.Kept cs) : (s.enterPaired peer status).Kept cs :=
  h.setDv.setDv.setDv.setDv.setDv.copy

theorem State.Kept.handshake (h : s.Kept cs) : (s.handshake).Kept cs := by
  unfold State.handshake
  dsimp only
  split
  · exact h
  · split
    · exact .ite h h.toMailbox.sendRecord.onTwin
    · refine .ite (.endPairing (.sendRecord (.ite h h.toMailbox.sendRecord.onTwin))) ?_
      refine .ite ?_ ?_
      · refine .enterPaired ?_
        exact .ite (.ite h h.toMailbox.sendRecord.onTwin)
          (.onTwin (.sendRecord (.ite h h.toMailbox.sendRecord.onTwin)))
      · exact .ite (.ite h h.toMailbox.sendRecord.onTwin)
          (.onTwin (.sendRecord (.ite h h.toMailbox.sendRecord.onTwin)))

theorem State.Kept.pairNow (h : s.Kept cs) : (s.pairNow).Kept cs := h.setDv.onTwin.toMailbox.onTwin.handshake
theorem execPair_kept {m t} (h : s.Kept cs) : OutcomeKept cs (execPair m t s) := .ite h.tick.pairNow h.tick

theorem execPairingTimeout_kept {t} (h : s.Kept cs) : OutcomeKept cs (execPairingTimeout t s) :=
  .ite h.tick.sendRecord.endPairing h.tick

theorem State.Kept.loseTwin (h : s.Kept cs) : (s.loseTwin).Kept cs :=
  .teeSettle (.recordOf (.onTwin (.setDv (.ite h.onStreamOut h.onStreamOut.freezeNegative))))

theorem execTwinLost_kept {t} (h : s.Kept cs) : OutcomeKept cs (execTwinLost t s) := .ite h.tick.loseTwin h.tick

theorem State.Kept.releaseNegative (h : s.Kept cs) : (s.releaseNegative).Kept cs :=
  .ite (.unpair (.ite h.setDv h.setDv.wrNat)) (.ite h.setDv h.setDv.wrNat)

theorem execReleaseFrozenNegative_kept {m} (h : s.Kept cs) : OutcomeKept cs (execReleaseFrozenNegative m s) :=
  .ite h.releaseNegative h

theorem State.Kept.detachNow (h : s.Kept cs) : (s.detachNow).Kept cs := h.setDv.onTwin

theorem execDetachCommand_kept {m t} (h : s.Kept cs) : OutcomeKept cs (execDetachCommand m t s) :=
  .ite h.tick.detachNow h.tick

theorem execDetachTimeout_kept {t} (h : s.Kept cs) : OutcomeKept cs (execDetachTimeout t s) := by
  unfold execDetachTimeout
  dsimp only
  split
  · exact .ite h.tick.loseTwin h.tick
  · exact h.tick

theorem State.Kept.gotDetach {step} (h : s.Kept cs) : (s.gotDetach step).Kept cs := by
  unfold State.gotDetach
  split
  · exact h.freezeNegative.setDv.onTwin
  · split
    · exact .ite h.freezeNegative.onTwin.unpair h.freezeNegative.onTwin
    · exact h

theorem State.Kept.gotRelease {step} (h : s.Kept cs) : (s.gotRelease step).Kept cs := .ite h.freezeNegative.unpair h
theorem State.Kept.rejectMail {src addr} (h : s.Kept cs) : (s.rejectMail src addr).Kept cs := h.recordOf

theorem State.Kept.gotRecord {src r} (h : s.Kept cs) : (s.gotRecord src r).Kept cs := by
  unfold State.gotRecord
  refine .ite h.rejectMail ?_
  refine .ite (.ite h.onTwin (.ite h.onTwin.handshake h)) ?_
  refine .ite h ?_
  refine .ite (.ite h.onTwin.handshake h) ?_
  refine .ite (.ite h.onTwin.handshake h) ?_
  refine .ite h.onTwin ?_
  exact .ite (.ite h.endPairing h) (.ite h.gotDetach (.ite h.gotRelease h))

theorem State.Kept.sendBeat (h : s.Kept cs) : (s.sendBeat).Kept cs := h.onTwin.foldl (fun hu => .ite hu.egressPort hu)

theorem execHeartbeatSend_kept {t} (h : s.Kept cs) : OutcomeKept cs (execHeartbeatSend t s) :=
  .ite h.tick.teeRun.sendBeat h.tick.teeRun

theorem State.Kept.countBeat {port} (h : s.Kept cs) : (s.countBeat port).Kept cs := .ite h.onTwin h

theorem State.Kept.gotBeat {port line} (h : s.Kept cs) : (s.gotBeat port line).Kept cs :=
  .ite h.bump h.wrBytes.countBeat

theorem State.Kept.mailboxStore {src off bs} (h : s.Kept cs) : (s.mailboxStore src off bs).Kept cs := by
  unfold State.mailboxStore
  refine .ite ?_ ?_
  · refine .foldl ?_ (fun hu => .ite hu.countBeat hu)
    exact .ite ((h.foldl (fun hu => hu.wrBytes)).gotRecord) (h.foldl (fun hu => hu.wrBytes))
  · refine .rejectMail ?_
    refine .foldl ?_ (fun hu => .ite hu.countBeat hu)
    exact .ite ((h.foldl (fun hu => hu.wrBytes)).gotRecord) (h.foldl (fun hu => hu.wrBytes))

theorem State.Kept.rejectTee {src a} (h : s.Kept cs) : (s.rejectTee src a).Kept cs := h.setDv.recordOf
theorem State.Kept.applyMark {step} (h : s.Kept cs) : (s.applyMark step).Kept cs := .ite h.onTwin h

/-! ### Inbound -/

theorem State.Kept.refusePacket {p op st} (h : s.Kept cs) : (s.refusePacket p op st).Kept cs := h.record.nakTo
theorem State.Kept.forward {p op} (h : s.Kept cs) : (s.forward p op).Kept cs := .ite h.sendFrom h.nakTo

theorem State.Kept.forCompanion {p op go} (h : s.Kept cs) (h1 : ∀ {v}, v.Kept cs → (go v).Kept cs) :
    (s.forCompanion p op go).Kept cs := by
  unfold State.forCompanion
  split
  · exact .ite h.sendTraek h
  · exact .ite (h1 h) h.nakTo

theorem State.Kept.keepBuffer {p} (h : s.Kept cs) : (s.keepBuffer p).Kept cs := h

theorem State.Kept.freeBuffer {p op} (h : s.Kept cs) : (s.freeBuffer p op).Kept cs := by
  unfold State.freeBuffer
  split
  · exact h.creditBack
  · exact h.traekBack

theorem State.Kept.arrive {p op go} (h : s.Kept cs) (h1 : ∀ {v}, v.Kept cs → (go v).Kept cs) :
    (s.arrive p op go).Kept cs := by
  unfold State.arrive
  refine .ite h ?_
  refine .ite ?_ ?_
  · refine .keepBuffer ?_
    refine .ite h.refusePacket ?_
    split
    · exact h1 h
    · exact .ite (h1 h) (.ite (h.forCompanion (fun hv => h1 hv)) h.forward)
  · refine .freeBuffer ?_
    refine .ite h.refusePacket ?_
    split
    · exact h1 h
    · exact .ite (h1 h) (.ite (h.forCompanion (fun hv => h1 hv)) h.forward)

theorem State.Kept.nakMem {r st} (h : s.Kept cs) : (s.nakMem r st).Kept cs := .ite h.nakFault h.nakTo

theorem State.Kept.readLine {r} (h : s.Kept cs) : (s.readLine r).Kept cs := by
  unfold State.readLine
  split
  · exact h.callRegion.toChannel
  · exact h.serveRead

theorem State.Kept.readCoherent {r line} (h : s.Kept cs) : (s.readCoherent r line).1.Kept cs := by
  unfold State.readCoherent
  dsimp only
  split
  · exact h.recall
  · split
    · exact h.dirStep.readLine
    · exact h.dirStep

theorem State.Kept.writeBack {r line write} (h : s.Kept cs) (h1 : ∀ {v}, v.Kept cs → (write v).Kept cs) :
    (s.writeBack r line write).1.Kept cs := by
  unfold State.writeBack
  split
  · exact h
  · split
    · split
      · exact h1 h.setDir
      · exact h.drawn.nakTo
    · exact h.drawn.nakTo

theorem State.Kept.evictLine {r line} (h : s.Kept cs) : (s.evictLine r line).1.Kept cs := by
  unfold State.evictLine
  split
  · exact h
  · exact h.setDir.ackTo

theorem State.Kept.storeLines {p a bs} (h : s.Kept cs) : (s.storeLines p a bs).Kept cs :=
  (h.foldl (fun hu => hu.partialStore)).ackWhenDone

theorem State.Kept.storeLpddr {r a bs} (h : s.Kept cs) : (s.storeLpddr r a bs).Kept cs := by
  unfold State.storeLpddr
  split
  · exact h.ackTo
  · exact .ite h.rejectTee.ackTo (.ite h.nakMem (.storeLines (.ite h.onTwin h)))

theorem State.Kept.lpddrReq {r near} (h : s.Kept cs) : (s.lpddrReq r near).1.Kept cs := by
  unfold State.lpddrReq
  dsimp only
  split
  · split
    · exact h.nakMem
    · split
      · exact h.accessRange.readLine
      · exact h.accessRange
  · split
    · exact h.nakMem
    · split
      · exact h.accessRange.readLine
      · exact h.accessRange
  · split
    · exact h.nakMem
    · exact h.readCoherent
  · split
    · exact h.nakMem
    · exact h.readCoherent
  · split
    · exact h.nakMem
    · exact h.writeBack (fun hv => hv.storeLines)
  · exact h.evictLine
  · exact h.storeLpddr

theorem State.Kept.atomicReq {r} (h : s.Kept cs) : (s.atomicReq r).Kept cs := by
  unfold State.atomicReq
  split
  · exact h.refusePacket
  · exact h.submitAdd

theorem State.Kept.addReq {r} (h : s.Kept cs) : (s.addReq r).Kept cs := by
  unfold State.addReq
  split
  · exact h.refusePacket
  · extract_lets inLpddr x
    have hx : x.1.Kept cs := by
      refine .foldlFst h fun hu => ?_
      dsimp only
      split
      next heq => exact State.Kept.ofPair heq hu.submitTry
      next heq => exact State.Kept.ofPair heq hu.submitTry
    exact .ite h.storeLpddr (.ite hx.nakTo hx.ackWhenDone)

theorem State.Kept.entryStore {q off bs} (h : s.Kept cs) : (s.entryStore q off bs).Kept cs := by
  unfold State.entryStore
  extract_lets e named kept put' e1 s1 s2
  clear_value kept
  have h2 : s2.Kept cs := by
    dsimp only [s2]
    split
    exacts [h.onQueue.record, h.onQueue]
  split
  · exact h2
  · exact .ite (.ite h2.onQueue h2.onQueue.enableQueue) (.ite h2.onQueue.disableQueue h2.onQueue)

theorem State.Kept.watchMasked {q off bs} (h : s.Kept cs) : (s.watchMasked q off bs).Kept cs :=
  h.onQueue.wakeQueue.settled

theorem State.Kept.queueStore {node off bs} (h : s.Kept cs) : (s.queueStore node off bs).Kept cs :=
  h.foldl (fun hu => .ite hu.entryStore (.ite hu.watchMasked hu.addressFault))

theorem State.Kept.wakeOwner {off line} (h : s.Kept cs) : (s.wakeOwner off line).Kept cs := by
  unfold State.wakeOwner
  split
  · exact .ite h h.snoop
  · exact h

theorem State.Kept.queueReq {r off} (h : s.Kept cs) : (s.queueReq r off).1.Kept cs := by
  unfold State.queueReq
  dsimp only
  split
  · split
    · exact h.access.serveRead
    · exact h.access
  · split
    · exact h.access.serveRead
    · exact h.access
  · exact h.readCoherent
  · split
    · exact h.readCoherent.wakeOwner
    · exact h.readCoherent
  · exact h.writeBack (fun hv => hv.queueStore.ackTo)
  · exact h.evictLine
  · exact h.atomicReq
  · exact h.addReq
  · split
    · exact h.access.queueStore.ackTo
    · exact h.access

theorem State.Kept.counterReq {r off} (h : s.Kept cs) : (s.counterReq r off).Kept cs := by
  unfold State.counterReq
  split
  · exact .ite h.serveRead h.drawn.addressFault.dataTo
  · split
    · exact .ite h.counterUpdate.ackTo h.addressFault.ackTo
    · exact h.addressFault.ackTo
  · exact h.atomicReq
  · exact h.addReq
  · exact h.drawn.addressFault.dataTo
  · exact h.nakFault

theorem State.Kept.relayPiece {k p dst a done} (h : s.Kept cs) : (s.relayPiece k p dst a done).Kept cs :=
  .ite h.ask.nakFault (.ite h.ask.nakTo h.ask)

theorem State.Kept.relay {r dst a} (h : s.Kept cs) : (s.relay r dst a).Kept cs := .ite h.nakFault h.relayPiece

theorem State.Kept.windowReq {r off} (h : s.Kept cs) : (s.windowReq r off).Kept cs := by
  unfold State.windowReq
  split
  · exact .ite h.nakFault h.relay
  · exact h.relay
  · exact h.nakFault

theorem State.Kept.scratchReq {r} (h : s.Kept cs) : (s.scratchReq r).Kept cs := by
  unfold State.scratchReq
  split
  · exact h.serveRead
  · exact h.serveRead
  · exact .ackTo (.ite h.storeMem.markRange h.storeMem)
  · exact h.atomicReq
  · exact h.addReq
  · exact h.nakFault

theorem State.Kept.controlReq {r recorded} (h : s.Kept cs) : (s.controlReq r recorded).Kept cs := by
  unfold State.controlReq
  split
  · exact h.serveRead
  · exact h.serveRead
  · exact .ackTo (.ite h.addressFault h)
  · exact h.atomicReq
  · exact h.addReq
  · exact h.nakFault

theorem State.Kept.tryReq {r} (h : s.Kept cs) : (s.tryReq r).1.Kept cs := by
  unfold State.tryReq
  dsimp only
  split
  · split
    · exact h.callRegion
    · split
      · exact h.atomicReq
      · split
        · exact h.addReq
        · exact h.lpddrReq
  · split
    · exact h.callRegion
    · split
      · exact h.nakFault
      · exact h.scratchReq
  · exact h.queueReq
  · exact h.counterReq
  · exact h.controlReq
  · split
    · exact h.mailboxStore.ackTo
    · exact h.controlReq
  · exact h.controlReq
  · exact h.nakTo
  · exact h.windowReq
  · exact h.nakFault

theorem State.Kept.startReq {r} (h : s.Kept cs) : (s.startReq r).Kept cs := by
  unfold State.startReq
  dsimp only
  split
  · exact h
  · split
    · exact h.tryReq
    · exact h.tryReq.copy

theorem State.Kept.retryLines (h : s.Kept cs) : (s.retryLines).Kept cs := by
  unfold State.retryLines
  dsimp only
  refine .foldl h (fun hu => ?_)
  split
  · exact hu
  · split
    · split
      · exact .freeBuffer (.ite hu.tryReq hu.tryReq.surge)
      · exact .ite hu.tryReq hu.tryReq.surge
    · exact hu.tryReq.copy

theorem State.Kept.markReq {p} (h : s.Kept cs) : (s.markReq p).Kept cs := .ite h.applyMark.ackTo h.refusePacket

theorem State.Kept.applyReq {kind p} (h : s.Kept cs) : (s.applyReq kind p).Kept cs := by
  unfold State.applyReq
  dsimp only
  split
  · split
    · exact h.refusePacket
    · split
      · exact h.relay
      · split
        · exact .ite h.markReq h.startReq
        · exact h.refusePacket
  · split
    · exact h.refusePacket
    · split
      · exact h.startReq
      · exact .ite h.nakTo h.nakFault

theorem State.Kept.endHoldback {p since} (h : s.Kept cs) : (s.endHoldback p since).Kept cs := by
  unfold State.endHoldback
  split
  · exact .ite h.surge h
  · exact h

theorem State.Kept.pump {key a} (h : s.Kept cs) : (State.pump key a s).Kept cs := by
  induction a generalizing s with
  | zero => exact h
  | succ n ih =>
    unfold State.pump
    dsimp only
    split
    · exact ih h.onStreamIn
    · split
      · exact h
      · exact .ite h (ih h.onStreamIn.endHoldback.applyReq)

theorem State.Kept.pumpAll (h : s.Kept cs) : (s.pumpAll).Kept cs := h.foldl (fun hu => hu.pump)

theorem State.Kept.offerReq {kind p} (h : s.Kept cs) : (s.offerReq kind p).Kept cs := by
  unfold State.offerReq
  split
  · exact h.onStreamIn.pump
  · exact .ite h.ackTo (.ite h.nakTo h.onStreamIn.pump)

theorem State.Kept.goOn (h : s.Kept cs) : (s.goOn).Kept cs := h.pumpAll.runTransfers.runEngines.settled

theorem State.Kept.request {kind p} (h : s.Kept cs) : (s.request kind p).Kept cs :=
  h.arrive (fun hv => hv.offerReq.goOn)

theorem State.Kept.fabricOnly {kind p} (h : s.Kept cs) : (s.fabricOnly kind p).Kept cs := by
  unfold State.fabricOnly
  split
  · exact h.request
  · exact h.arrive (fun hv => hv.refusePacket)

/-! ### Responses -/

theorem State.Kept.dropAnswered {p} (h : s.Kept cs) : (s.dropAnswered p).Kept cs := by
  unfold State.dropAnswered
  split
  · exact h
  · exact .onStreamOut h

theorem State.Kept.lineArrives {q id line data poison} (h : s.Kept cs) :
    (s.lineArrives q id line data poison).Kept cs := by
  unfold State.lineArrives
  split
  · exact h
  · exact h.onTransfer

theorem State.Kept.sheetNak {o back} (h : s.Kept cs) : (s.sheetNak o back).Kept cs := by
  unfold State.sheetNak
  dsimp only
  split
  · exact .ite h.sheetFails h.headerFails
  · exact h.headerFails

theorem State.Kept.relayed {k q done r bytes poison} (h : s.Kept cs) : (s.relayed k q done r bytes poison).Kept cs :=
  .ite h.relayPiece (.ite h.ackTo h.dataTo)

theorem State.Kept.dataFor {p r} (h : s.Kept cs) : (s.dataFor p r).Kept cs := by
  unfold State.dataFor
  dsimp only
  split
  · exact h.lineArrives
  · exact h.onTransfer
  · split
    · exact h.wrBytes.markRange.askPages
    · exact h.wrBytes.markRange
  · exact h.relayed
  · exact .ite h h
  · exact .ite h.sheetNak h.nextBath
  · exact h

theorem State.Kept.gotData {p} (h : s.Kept cs) : (s.gotData p).Kept cs :=
  (h.dropAnswered.foldl (fun hu => hu.dataFor)).goOn

theorem State.Kept.ackFor {r} (h : s.Kept cs) : (s.ackFor r).Kept cs := by
  unfold State.ackFor
  split
  · exact h.relayed
  · exact h

theorem State.Kept.gotAck {p} (h : s.Kept cs) : (s.gotAck p).Kept cs := by
  unfold State.gotAck
  split
  · exact (h.dropAnswered.foldl (fun hu => hu.ackFor)).goOn
  · exact (h.onStreamOut.foldl (fun hu => hu.ackTo)).goOn

theorem State.Kept.signalNak {q st} (h : s.Kept cs) : (s.signalNak q st).Kept cs := h.onQueue

theorem State.Kept.requestFails {why owner st} (h : s.Kept cs) : (s.requestFails why owner st).Kept cs := by
  unfold State.requestFails
  split
  · exact h.noteLine
  · exact h.noteLine
  · exact h.onTransfer
  · exact .ite h.signalNak h.onTransfer
  · exact h.markRange.meet.askPages
  · exact h.nakTo
  · exact h.sheetNak
  · exact h.sheetNak
  · exact h

theorem State.Kept.resend {o} (h : s.Kept cs) : (s.resend o).Kept cs := by
  unfold State.resend
  split
  · split
    · exact h.egressPort
    · exact h
  · exact h

theorem State.Kept.gotNak {p} (h : s.Kept cs) : (s.gotNak p).Kept cs := by
  unfold State.gotNak
  dsimp only
  split
  · exact (h.dropAnswered.foldl (fun hu => hu.requestFails)).goOn
  · split
    · exact h
    · split
      · exact h.resend
      · refine .goOn ?_
        split
        · exact h.dropAnswered.onStreamOut.foldl (fun hu => hu.requestFails)
        · exact h.dropAnswered.onStreamOut.foldl (fun hu => hu.requestFails)

theorem execData_kept {p} (h : s.Kept cs) : OutcomeKept cs (execData p s) := h.arrive (fun hv => hv.gotData)
theorem execAck_kept {p} (h : s.Kept cs) : OutcomeKept cs (execAck p s) := h.arrive (fun hv => hv.gotAck)
theorem execNak_kept {p} (h : s.Kept cs) : OutcomeKept cs (execNak p s) := h.arrive (fun hv => hv.gotNak)
theorem execLoad_kept {p} (h : s.Kept cs) : OutcomeKept cs (execLoad p s) := h.request
theorem execStore_kept {p} (h : s.Kept cs) : OutcomeKept cs (execStore p s) := h.request
theorem execAtomic_kept {p} (h : s.Kept cs) : OutcomeKept cs (execAtomic p s) := h.request
theorem execAddPacket_kept {p} (h : s.Kept cs) : OutcomeKept cs (execAddPacket p s) := h.fabricOnly
theorem execGet_kept {p} (h : s.Kept cs) : OutcomeKept cs (execGet p s) := h.fabricOnly
theorem execRdOwn_kept {p} (h : s.Kept cs) : OutcomeKept cs (execRdOwn p s) := h.request
theorem execWriteback_kept {p} (h : s.Kept cs) : OutcomeKept cs (execWriteback p s) := h.request
theorem execEvict_kept {p} (h : s.Kept cs) : OutcomeKept cs (execEvict p s) := h.request
theorem execTeeMarkApply_kept {p} (h : s.Kept cs) : OutcomeKept cs (execTeeMarkApply p s) := h.request
theorem State.Kept.recordStore {kind p} (h : s.Kept cs) : (s.recordStore kind p).Kept cs := .ite h.request h.request
theorem execOffer_kept {p} (h : s.Kept cs) : OutcomeKept cs (execOffer p s) := h.recordStore
theorem execEvidence_kept {p} (h : s.Kept cs) : OutcomeKept cs (execEvidence p s) := h.recordStore
theorem execAccept_kept {p} (h : s.Kept cs) : OutcomeKept cs (execAccept p s) := h.recordStore
theorem execRefuse_kept {p} (h : s.Kept cs) : OutcomeKept cs (execRefuse p s) := h.recordStore
theorem execDetach_kept {p t} (h : s.Kept cs) : OutcomeKept cs (execDetach p t s) := h.tick.recordStore
theorem execPairingRelease_kept {p} (h : s.Kept cs) : OutcomeKept cs (execPairingRelease p s) := h.recordStore

theorem State.Kept.heartbeat {p} (h : s.Kept cs) : (s.heartbeat p).Kept cs := by
  unfold State.heartbeat
  split
  · exact .ite h.gotBeat h.recordOf
  · exact h.refusePacket

theorem execHeartbeat_kept {p t} (h : s.Kept cs) : OutcomeKept cs (execHeartbeat p t s) :=
  h.tick.arrive (fun hv => hv.heartbeat)

/-! ### Reroute -/

theorem State.Kept.beginEpoch {key} (h : s.Kept cs) : (s.beginEpoch key).Kept cs :=
  h.onStreamOut.bump.copy.foldl (fun hu => hu.onQueue)

theorem State.Kept.replayedCol {src dst e} (h : s.Kept cs) : (s.replayedCol src dst e).Kept cs := by
  unfold State.replayedCol
  split
  · exact .ite h h
  · exact h

theorem State.Kept.replayMsg {p m} (h : s.Kept cs) : (s.replayMsg p m).Kept cs := by
  unfold State.replayMsg
  split
  · exact h
  · split
    · exact h.onPort
    · split
      · exact h.replayedCol.egressPort
      · split
        · exact h.onStreamOut.egressPort.bump
        · exact h.egressPort.bump

theorem State.Kept.replayPort {p hit} (h : s.Kept cs) : (s.replayPort p hit).Kept cs :=
  h.onPort.foldl (fun hu => hu.replayMsg)

theorem State.Kept.probe {key} (h : s.Kept cs) : (s.probe key).Kept cs := .ite h.sendFrom.onStreamOut h

theorem State.Kept.reroute {before hit} (h : s.Kept cs) : (s.reroute before hit).Kept cs := by
  unfold State.reroute
  refine .foldl ?_ (fun hu => hu.probe)
  refine .foldl ?_ (fun hu => hu.replayPort)
  refine .foldl (h.foldl (fun hu => hu.beginEpoch)) (fun hu => ?_)
  split
  · exact .ite hu.replayPort hu
  · exact hu

theorem State.Kept.losePackets {dst lost} (h : s.Kept cs) : (s.losePackets dst lost).Kept cs := by
  unfold State.losePackets
  dsimp only
  refine .foldl ?_ (fun hu => ?_)
  · split
    · refine .record ?_
      refine .foldl h (fun hu => ?_)
      split
      · exact .ite (.record (.ite hu.onQueue hu)) (.onStarted (.record (.ite hu.onQueue hu)))
      · exact .record (.ite hu.onQueue hu)
    · refine .foldl h (fun hu => ?_)
      split
      · exact .ite (.record (.ite hu.onQueue hu)) (.onStarted (.record (.ite hu.onQueue hu)))
      · exact .record (.ite hu.onQueue hu)
  · split
    · exact hu.foldl (fun h2 => h2.requestFails)
    · exact .foldl hu (fun h2 => h2.requestFails)

theorem State.Kept.loseCols {dst} (h : s.Kept cs) : (s.loseCols dst).Kept cs := .ite h (.record h)

theorem State.Kept.gotProbe {p} (h : s.Kept cs) : (s.gotProbe p).Kept cs := by
  unfold State.gotProbe
  refine .ite h ?_
  refine .goOn ?_
  refine .foldl ?_ (fun hu => hu.resend)
  refine .ite ?_ ?_
  · refine .ite ?_ ?_
    · refine .bump ?_
      exact .ite ((h.onStreamOut.foldl (fun hu => hu.sendFrom)).loseCols)
        (h.onStreamOut.foldl (fun hu => hu.sendFrom))
    · exact .ite ((h.onStreamOut.foldl (fun hu => hu.sendFrom)).loseCols)
        (h.onStreamOut.foldl (fun hu => hu.sendFrom))
  · refine .losePackets ?_
    refine .bump ?_
    exact .ite ((h.onStreamOut.foldl (fun hu => hu.sendFrom)).loseCols) (h.onStreamOut.foldl (fun hu => hu.sendFrom))

theorem execProbeRsp_kept {p} (h : s.Kept cs) : OutcomeKept cs (execProbeRsp p s) := by
  unfold execProbeRsp
  refine .arrive h (fun hv => ?_)
  split
  · exact hv.gotProbe
  · exact hv.refusePacket

theorem State.Kept.answerProbe {p} (h : s.Kept cs) : (s.answerProbe p).Kept cs := h.sendBack

theorem execProbe_kept {p} (h : s.Kept cs) : OutcomeKept cs (execProbe p s) := by
  unfold execProbe
  refine .arrive h (fun hv => ?_)
  split
  · exact hv.answerProbe
  · exact hv.refusePacket

theorem State.Kept.gotResync {p} (h : s.Kept cs) : (s.gotResync p).Kept cs :=
  h.onStreamIn.goOn.ackTo.foldl (fun hu => hu.ackTo)

theorem execResync_kept {p} (h : s.Kept cs) : OutcomeKept cs (execResync p s) := by
  unfold execResync
  refine .arrive h (fun hv => ?_)
  split
  · exact hv.gotResync
  · exact hv.refusePacket

/-! ### Links -/

theorem State.Kept.linkControl {p ack nak vc slots} (h : s.Kept cs) : (s.linkControl p ack nak vc slots).Kept cs :=
  .portGoes (.ite h.onPort.resendFlits.bump h.onPort)

theorem State.Kept.badFlit {p} (h : s.Kept cs) : (s.badFlit p).Kept cs := h.record

theorem State.Kept.payloadIn {p load} (h : s.Kept cs) : (s.payloadIn p load).Kept cs :=
  .ite h.onPort (.ite h (.ite h.onPort (h.onPort.arrive (fun hv => hv))))

theorem State.Kept.flitIn {p flit} (h : s.Kept cs) : (s.flitIn p flit).Kept cs := by
  unfold State.flitIn
  dsimp only
  split
  · exact (h.foldl (fun hu => hu.bump)).idleOut
  · split
    · exact (h.foldl (fun hu => hu.bump)).badFlit
    · split
      · exact ((((h.foldl (fun hu => hu.bump)).linkControl).onPort).idleOut).payloadIn
      · exact (h.foldl (fun hu => hu.bump)).linkControl

theorem execFlitReceive_kept {p flit} (h : s.Kept cs) : OutcomeKept cs (execFlitReceive p flit s) := .ite h.flitIn h

theorem State.Kept.portDown {p} (h : s.Kept cs) : (s.portDown p).Kept cs :=
  .ite ((h.onPort.reroute.foldl (fun hu => hu.shipGateway)).goOn) h.onPort

theorem State.Kept.removeLanes {p cause ls} (h : s.Kept cs) : (s.removeLanes p cause ls).Kept cs := by
  unfold State.removeLanes
  dsimp only
  split
  · exact h
  · split
    · exact (h.foldl (fun hu => hu.recordOf)).portDown
    · exact (h.foldl (fun hu => hu.recordOf)).onPort

theorem execLaneRemoval_kept {p lane rate} (h : s.Kept cs) : OutcomeKept cs (execLaneRemoval p lane rate s) :=
  h.removeLanes

theorem execLaserInputLow_kept {p input centiDbm t} (h : s.Kept cs) :
    OutcomeKept cs (execLaserInputLow p input centiDbm t s) := by
  unfold execLaserInputLow
  split
  · exact .ite h.tick.setDv.onPort.removeLanes h.tick.setDv.onPort
  · exact h.tick.setDv.onPort

theorem execPortRetrainDone_kept {p} (h : s.Kept cs) : OutcomeKept cs (execPortRetrainDone p s) :=
  .ite h.onPort.resendFlits.portGoes h

theorem State.Kept.portUpNow {p} (h : s.Kept cs) : (s.portUpNow p).Kept cs := h.callRegion.onPort.reroute.goOn

theorem execPortTraining_kept {p up} (h : s.Kept cs) : OutcomeKept cs (execPortTraining p up s) := by
  unfold execPortTraining
  split
  · exact .ite h h.portUpNow
  · exact h.portDown

theorem State.Kept.retrainPorts {mask} (h : s.Kept cs) : (s.retrainPorts mask).Kept cs :=
  h.foldl (fun hu => hu.callRegion.onPort)

theorem State.Kept.retrainWrite {mask} (h : s.Kept cs) : (s.retrainWrite mask).1.Kept cs := by
  unfold State.retrainWrite
  split
  · exact h
  · exact h.retrainPorts

theorem execPortRetrain_kept {m ports} (h : s.Kept cs) : OutcomeKept cs (execPortRetrain m ports s) :=
  h.masterWrite (fun hv => hv.retrainWrite)

theorem State.Kept.admitGateway {p} (h : s.Kept cs) : (s.admitGateway p).Kept cs := by
  unfold State.admitGateway
  dsimp only
  split
  · exact h
  · split
    · exact h
    · split
      · exact h
      · exact .foldl (.ite h.onPort h.onPort.surge) (fun hu => .ite hu.placeGateway hu.askBeyond)

theorem execGatewayAdmit_kept {p t} (h : s.Kept cs) : OutcomeKept cs (execGatewayAdmit p t s) := h.tick.admitGateway

theorem execGatewayFlush_kept {p t} (h : s.Kept cs) : OutcomeKept cs (execGatewayFlush p t s) :=
  h.tick.foldl (fun hu => hu.shipGateway)

theorem State.Kept.nodeWrite {v} (h : s.Kept cs) : (s.nodeWrite v).1.Kept cs := by
  unfold State.nodeWrite
  split
  · exact h
  · exact h.setDv

theorem execNodeIdWrite_kept {m node} (h : s.Kept cs) : OutcomeKept cs (execNodeIdWrite m node s) :=
  h.masterWrite (fun hv => hv.nodeWrite)

theorem State.Kept.agentWrite {key v} (h : s.Kept cs) : (s.agentWrite key v).1.Kept cs := by
  unfold State.agentWrite
  split
  · exact h
  · split
    · exact h
    · exact h.setDv

theorem State.Kept.routeWrite {key v} (h : s.Kept cs) : (s.routeWrite key v).1.Kept cs := by
  unfold State.routeWrite
  extract_lets s1 by' mine
  have h1 : s1.Kept cs := h.setDv
  refine .iteFst h ?_
  dsimp only
  exact h1.reroute.goOn

theorem State.Kept.bankUpdate {b} (h : s.Kept cs) : (s.bankUpdate b).Kept cs := by
  unfold State.bankUpdate
  dsimp only
  split
  · exact h
  · split
    · exact h
    · exact h.applyUpdate.surge.copy.settled

theorem execCounterUpdate_kept {bank t} (h : s.Kept cs) : OutcomeKept cs (execCounterUpdate bank t s) :=
  h.tick.bankUpdate

theorem State.Kept.snoopReq {p op} (h : s.Kept cs) : (s.snoopReq p op).Kept cs := by
  unfold State.snoopReq
  split
  · exact h.respond
  · exact h.refusePacket

theorem execSnpShare_kept {p} (h : s.Kept cs) : OutcomeKept cs (execSnpShare p s) := h.arrive (fun hv => hv.snoopReq)
theorem execSnpInval_kept {p} (h : s.Kept cs) : OutcomeKept cs (execSnpInval p s) := h.arrive (fun hv => hv.snoopReq)

theorem State.Kept.snoopData {line agent share data poison} (h : s.Kept cs) :
    (s.snoopData line agent share data poison).Kept cs := by
  unfold State.snoopData
  dsimp only
  split
  · split
    · split
      · exact .ite h.watchMasked h
      · exact h
    · exact h.queueStore
  · split
    · exact h
    · split
      · exact h.tryPartial
      · exact h.tryPartial.onChannel

theorem State.Kept.snoopDone {line agent data poison} (h : s.Kept cs) :
    (s.snoopDone line agent data poison).Kept cs := by
  unfold State.snoopDone
  split
  · exact h
  · exact .goOn (.retryLines (.snoopData (.setDir h)))

theorem State.Kept.snoopRsp {p} (h : s.Kept cs) : (s.snoopRsp p).Kept cs := by
  unfold State.snoopRsp
  split
  · exact h.snoopDone
  · exact .ite h.snoopDone h.sendFrom

theorem execSnpRsp_kept {p} (h : s.Kept cs) : OutcomeKept cs (execSnpRsp p s) := h.arrive (fun hv => hv.snoopRsp)

theorem State.Kept.failAgent {line agent} (h : s.Kept cs) : (s.failAgent line agent).Kept cs := by
  unfold State.failAgent
  split
  · split
    · refine .record ?_
      split
      · exact h.setDir.poisonLine
      · exact h.setDir
    · exact h
  · exact h.setDir

theorem State.Kept.directoryError {line entry corrected} (h : s.Kept cs) :
    (s.directoryError line entry corrected).Kept cs := by
  unfold State.directoryError
  dsimp only
  split
  · exact h.recordCE
  · split
    · split
      · exact h.record.setDir.poisonLine
      · exact h.record.setDir
    · exact h.record.setDir

theorem State.Kept.entryError {p ecc} (h : s.Kept cs) : (s.entryError p ecc).Kept cs := by
  unfold State.entryError
  split
  · exact .ite h h.directoryError
  · exact h

theorem execRdShared_kept {p} (h : s.Kept cs) : OutcomeKept cs (execRdShared p s) := .request (.ite h.entryError h)

theorem State.Kept.timeoutSnoop {x} (h : s.Kept cs) : (s.timeoutSnoop x).Kept cs :=
  .goOn (.retryLines (.ite (.failAgent h) (.record (.failAgent h))))

theorem execSnoopTimeout_kept {line t} (h : s.Kept cs) : OutcomeKept cs (execSnoopTimeout line t s) := by
  unfold execSnoopTimeout
  dsimp only
  split
  · exact h.tick.timeoutSnoop
  · exact h.tick

theorem State.Kept.traekPayload {load} (h : s.Kept cs) : (s.traekPayload load).Kept cs :=
  .ite h.onTraek (.ite h.onTraek (h.onTraek.arrive (fun hv => hv)))

theorem State.Kept.traekFlit {flit} (h : s.Kept cs) : (s.traekFlit flit).Kept cs := by
  unfold State.traekFlit
  extract_lets c s1 w seq t s2 s3 s4
  have h1 : s1.Kept cs := h.foldl fun hu => hu.bump
  have h2 : s2.Kept cs := h1.onTraek
  have h3 : s3.Kept cs := .traekGoes (.ite h2.traekResend.bump h2)
  have h4 : s4.Kept cs := h3.onTraek
  exact .ite h1.traekIdle (.ite (.ite h4 h4.traekIdle.traekPayload) h3)

theorem execTraekFlitReceive_kept {flit} (h : s.Kept cs) : OutcomeKept cs (execTraekFlitReceive flit s) :=
  .ite h.traekFlit h

theorem State.Kept.traekRecord {lane} (h : s.Kept cs) : (s.traekRecord lane).Kept cs := h.recordOf

theorem State.Kept.dropCompanion (h : s.Kept cs) : (s.dropCompanion).Kept cs :=
  .foldl h (fun hu => .ite hu.failAgent hu)

theorem State.Kept.failHost (h : s.Kept cs) : (s.failHost).Kept cs :=
  .foldl (.copy (.foldl (.ite h.sheetFails h) (fun hu => hu.headerFails))) (fun hu => hu.requestFails)

theorem State.Kept.traekDown (h : s.Kept cs) : (s.traekDown).Kept cs :=
  .goOn (.retryLines (.dropCompanion (.failHost (.traekRecord h))))

theorem State.Kept.traekTake {width half group} (h : s.Kept cs) : (s.traekTake width half group).Kept cs :=
  h.callRegion.copy

theorem State.Kept.traekTrained {width half group} (h : s.Kept cs) : (s.traekTrained width half group).Kept cs :=
  .ite h.callRegion.onTraek.traekTake h.traekDown

theorem execTraekTraining_kept {width half group} (h : s.Kept cs) :
    OutcomeKept cs (execTraekTraining width half group s) :=
  .ite h (.ite h.callRegion.onTraek h.traekTrained)

theorem State.Kept.traekRetrain {lane exclude} (h : s.Kept cs) : (s.traekRetrain lane exclude).Kept cs :=
  .traekRecord h

theorem execTraekLaneRetrain_kept {lane a} (h : s.Kept cs) : OutcomeKept cs (execTraekLaneRetrain lane a s) :=
  .ite h.traekRetrain h

theorem execTraekRetrainDone_kept {width half group} (h : s.Kept cs) :
    OutcomeKept cs (execTraekRetrainDone width half group s) :=
  .ite h (.ite h.traekTake.traekResend.traekGoes h.traekDown)

theorem execTraekLinkDown_kept {t} (h : s.Kept cs) : OutcomeKept cs (execTraekLinkDown t s) :=
  .ite h.tick h.tick.traekDown

theorem State.Kept.traekCommand {v} (h : s.Kept cs) : (s.traekCommand v).1.Kept cs := by
  unfold State.traekCommand
  split
  · exact h
  · split
    · exact .ite h h.traekDown
    · split
      · exact h.traekRetrain
      · exact h

theorem execTraekCommandRetrain_kept {m} (h : s.Kept cs) : OutcomeKept cs (execTraekCommandRetrain m s) :=
  h.masterWrite (fun hv => hv.traekCommand)

theorem execTraekCommandDown_kept {m} (h : s.Kept cs) : OutcomeKept cs (execTraekCommandDown m s) :=
  h.masterWrite (fun hv => hv.traekCommand)

/-! ### Dark -/

theorem State.Kept.loseStarted {q} (h : s.Kept cs) : (s.loseStarted q).Kept cs := by
  unfold State.loseStarted
  dsimp only
  split
  · exact h.onQueue
  · split
    · exact h.onQueue
    · exact h.onQueue.endWait
    · exact h.onQueue.endWait
    · exact h.onQueue.endWait
    · exact h.onQueue.endWait

theorem State.Kept.halt (h : s.Kept cs) : (s.halt).Kept cs := by
  unfold State.halt
  split
  · exact h
  · exact .foldl (.foldl (.copy (.latch h)) (fun hu => hu.setCluster)) (fun hu => hu.loseStarted)

theorem State.Kept.setClusterState {c new} (h : s.Kept cs) : (s.setClusterState c new).Kept cs :=
  .ite h h.onCluster.recordOf

theorem State.Kept.redealUnits {c tiles q st w} (h : s.Kept cs) : (s.redealUnits c tiles q st w).Kept cs :=
  .ite h h.onMatmul

theorem State.Kept.redeal {c tiles} (h : s.Kept cs) : (s.redeal c tiles).Kept cs := by
  unfold State.redeal
  refine .foldl h (fun hu => ?_)
  refine .foldl hu (fun h2 => ?_)
  split
  · exact h2.redealUnits
  · exact h2

theorem State.Kept.moveShare {c q st} (h : s.Kept cs) : (s.moveShare c q st).Kept cs := by
  unfold State.moveShare
  split
  · exact h
  · exact h.dealParts.callShares.onStarted.fetchParts

theorem State.Kept.moveShares {c} (h : s.Kept cs) : (s.moveShares c).Kept cs :=
  h.foldl (fun hu => hu.foldl (fun h2 => h2.moveShare))

theorem State.Kept.dropDealt {c} (h : s.Kept cs) : (s.dropDealt c).Kept cs := h

theorem State.Kept.losePages {c a} (h : s.Kept cs) : (s.losePages c a).Kept cs := by
  unfold State.losePages
  split
  · exact h
  · split
    · exact ((h.foldl (fun hu => hu.wrNat)).onTensor).onTensor
    · exact ((h.foldl (fun hu => hu.wrNat)).onTensor).loseTensor

theorem State.Kept.clusterGone {c} (h : s.Kept cs) : (s.clusterGone c).Kept cs := by
  unfold State.clusterGone
  extract_lets tiles held s1 s2 a s3 s4
  clear_value a tiles held
  have h2 : s2.Kept cs := h.abortTransfers.onCluster.foldl fun hu => hu.losePages
  clear_value s2
  have h3 : s3.Kept cs := h2.copy.clearRange
  clear_value s3
  have h4 : s4.Kept cs := h3.foldl fun hu => hu.loseControl
  clear_value s4
  exact h4.dropDealt.redeal.moveShares.runEngines.settled

theorem State.Kept.dropSlope {r} (h : s.Kept cs) : (s.dropSlope r).Kept cs := h.setGovernor

theorem State.Kept.goDark {r cause} (h : s.Kept cs) : (s.goDark r cause).Kept cs := by
  unfold State.goDark
  refine .ite h ?_
  refine .ite
    (.ite (.clusterGone (.recordOf (.dropSlope (.onRegion (.settleFiller (.ite h.setClusterState h))))))
      (.halt (.clusterGone (.recordOf (.dropSlope (.onRegion (.settleFiller (.ite h.setClusterState h)))))))) ?_
  refine .ite
    (.foldl (.recordOf (.dropSlope (.onRegion (.settleFiller (.ite h.setClusterState h)))))
      (fun hu => hu.takeOffline)) ?_
  refine .ite (.portDown (.portDown (.recordOf (.dropSlope (.onRegion (.settleFiller (.ite h.setClusterState h)))))))
    ?_
  exact .ite (.ite (.recordOf (.dropSlope (.onRegion (.settleFiller (.ite h.setClusterState h)))))
    (.traekDown (.recordOf (.dropSlope (.onRegion (.settleFiller (.ite h.setClusterState h)))))))
      (.halt (.recordOf (.dropSlope (.onRegion (.settleFiller (.ite h.setClusterState h))))))

/-! ### Clocks -/

theorem State.Kept.onPower {f} (h : s.Kept cs) : (s.onPower f).Kept cs := h
theorem State.Kept.slewCycle (h : s.Kept cs) : (s.slewCycle).Kept cs := .ite h h

theorem State.Kept.idle (h : s.Kept cs) : (s.idle).Kept cs := by
  unfold State.idle
  split
  · exact .ite h h.slewCycle
  · exact h.onPower

theorem State.Kept.setTimeState {new} (h : s.Kept cs) : (s.setTimeState new).Kept cs := .ite h h.setDv.recordOf

theorem State.Kept.applyOffset {off} (h : s.Kept cs) : (s.applyOffset off).Kept cs :=
  .ite h.onPower (.ite (.onPower h) h.onPower)

theorem State.Kept.goodExchange {off} (h : s.Kept cs) : (s.goodExchange off).Kept cs :=
  h.onPower.setDv.applyOffset.setTimeState

theorem State.Kept.failedExchange (h : s.Kept cs) : (s.failedExchange).Kept cs :=
  .ite h.onPower.setTimeState h.onPower

theorem State.Kept.judgeExchange {xs} (h : s.Kept cs) : (s.judgeExchange xs).Kept cs := by
  unfold State.judgeExchange
  split
  · exact h.goodExchange
  · exact .ite h.failedExchange h

theorem State.Kept.sendTimeLoads (h : s.Kept cs) : (s.sendTimeLoads).Kept cs := .foldl h (fun hu => hu.ask)

theorem execTimeAlignExchange_kept {xs t} (h : s.Kept cs) : OutcomeKept cs (execTimeAlignExchange xs t s) :=
  .ite h.tick.setTimeState h.tick.judgeExchange.sendTimeLoads

theorem State.Kept.timeSourceWrite {v} (h : s.Kept cs) : (s.timeSourceWrite v).1.Kept cs :=
  h.setDv.onPower.setTimeState

theorem State.Kept.syncRegion {r} (h : s.Kept cs) : (s.syncRegion r).Kept cs :=
  .ite (h.foldl (fun hu => hu.syncRefresh)) h

theorem State.Kept.gateRegion {r} (h : s.Kept cs) : (s.gateRegion r).Kept cs :=
  .ite h.settleFiller.setRegion.syncRegion h

theorem execRegionGate_kept {r t} (h : s.Kept cs) : OutcomeKept cs (execRegionGate r t s) :=
  h.timed (fun hv => hv.gateRegion)

theorem State.Kept.pllOff {r} (h : s.Kept cs) : (s.pllOff r).Kept cs := .ite h.setRegion h

theorem execRegionPllOff_kept {r t} (h : s.Kept cs) : OutcomeKept cs (execRegionPllOff r t s) :=
  h.timed (fun hv => hv.pllOff)

theorem State.Kept.wakeUp {r} (h : s.Kept cs) : (s.wakeUp r).Kept cs :=
  h.onRegion.onRegion.syncRegion.setRail.retryLines.goOn

theorem State.Kept.enableSlice {r} (h : s.Kept cs) : (s.enableSlice r).Kept cs := .ite h.wakeUp h.setRegion

theorem State.Kept.stageNext {r} (h : s.Kept cs) : (s.stageNext r).Kept cs :=
  .ite h (.ite h.askSlope.enableSlice h.askSlope)

theorem State.Kept.wakeRegion {r} (h : s.Kept cs) : (s.wakeRegion r).Kept cs := by
  unfold State.wakeRegion
  dsimp only
  split
  · exact h
  · split
    · exact h.stageNext
    · split
      · exact h
      · split
        · exact .ite h.askSlope.wakeUp h.askSlope
        · exact h.setRegion.bump.stageNext

theorem execRegionWake_kept {r t} (h : s.Kept cs) : OutcomeKept cs (execRegionWake r t s) :=
  h.timed (fun hv => hv.wakeRegion)

theorem State.Kept.slopeGranted {x} (h : s.Kept cs) : (s.slopeGranted x).Kept cs := by
  unfold State.slopeGranted
  split
  · exact h.enableSlice
  · split
    · exact h.setArray.noteLate.feedArrays
    · exact .ite h.wakeUp (.ite h.onRegion.goOn h.onStarted.goOn)

theorem State.Kept.grantSlope {east} (h : s.Kept cs) : (s.grantSlope east).Kept cs := by
  unfold State.grantSlope
  dsimp only
  split
  · exact h.setGovernor
  · exact .ite h.setGovernor.throttleTime.slopeGranted h.setGovernor

theorem execSlopeGrant_kept {half t} (h : s.Kept cs) : OutcomeKept cs (execSlopeGrant half t s) :=
  h.timed (fun hv => hv.grantSlope)

theorem State.Kept.askPoint {r} (h : s.Kept cs) : (s.askPoint r).Kept cs :=
  .ite h (.ite h.setRegion.setRail h.setRegion)

theorem execPointChange_kept {r t} (h : s.Kept cs) : OutcomeKept cs (execPointChange r t s) :=
  h.timed (fun hv => hv.askPoint)

theorem State.Kept.shutterStop {r} (h : s.Kept cs) : (s.shutterStop r).Kept cs := by
  unfold State.shutterStop
  dsimp only
  split
  · exact h
  · exact .ite h.setRegion.bump.setRail h

theorem execShutterStop_kept {r t} (h : s.Kept cs) : OutcomeKept cs (execShutterStop r t s) :=
  h.timed (fun hv => hv.shutterStop)

theorem State.Kept.abandonPoint {r} (h : s.Kept cs) : (s.abandonPoint r).Kept cs := by
  unfold State.abandonPoint
  dsimp only
  split
  · exact h
  · exact .ite h.setRegion.bump.recordOf h

theorem execFreqChangeAbandon_kept {r t} (h : s.Kept cs) : OutcomeKept cs (execFreqChangeAbandon r t s) :=
  h.timed (fun hv => hv.abandonPoint)

theorem State.Kept.retryPoint {r} (h : s.Kept cs) : (s.retryPoint r).Kept cs := by
  unfold State.retryPoint
  split
  · exact h
  · exact .ite h.onRegion.askPoint h

theorem execFreqChangeRetry_kept {r t} (h : s.Kept cs) : OutcomeKept cs (execFreqChangeRetry r t s) :=
  h.timed (fun hv => hv.retryPoint)

theorem State.Kept.checkOvercurrent (h : s.Kept cs) : (s.checkOvercurrent).Kept cs :=
  .ite h.onPower (.ite (((h.foldl (fun hu => hu.onRegion)).bump).onPower) h)

theorem State.Kept.sampleMonitor {r margin deciAmp} (h : s.Kept cs) : (s.sampleMonitor r margin deciAmp).Kept cs :=
  .ite h h.setRegion.checkOvercurrent

theorem execMonitorSample_kept {r a deciAmp t} (h : s.Kept cs) : OutcomeKept cs (execMonitorSample r a deciAmp t s) :=
  h.timed (fun hv => hv.sampleMonitor)

theorem State.Kept.detectDroop {r mv} (h : s.Kept cs) : (s.detectDroop r mv).Kept cs := by
  unfold State.detectDroop
  dsimp only
  split
  · exact h
  · split
    · exact .ite h.setRegion.drawn h.setRegion
    · exact h.setRegion

theorem execDroopDetect_kept {r milliVolt t} (h : s.Kept cs) : OutcomeKept cs (execDroopDetect r milliVolt t s) :=
  h.timed (fun hv => hv.detectDroop)

theorem State.Kept.endStretch {r cycles} (h : s.Kept cs) : (s.endStretch r cycles).Kept cs := .ite h.onRegion.bump h

theorem execStretchEnd_kept {r cycles t} (h : s.Kept cs) : OutcomeKept cs (execStretchEnd r cycles t s) :=
  h.timed (fun hv => hv.endStretch)

/-! ### Boundary -/

theorem State.Kept.carryBlock {r cp b} (h : s.Kept cs) : (s.carryBlock r cp b).Kept cs :=
  ((h.foldl (fun hu => hu.wrCode)).setScale).setState

theorem State.Kept.flipResidual {g} (h : s.Kept cs) : (s.flipResidual g).Kept cs := by
  unfold State.flipResidual
  split
  · exact h
  · refine .onTensor ?_
    split
    · exact h.bindAll.foldl (fun hu => hu.carryBlock)
    · exact h.bindAll

theorem State.Kept.channelPass {a applied} (h : s.Kept cs) : (s.channelPass a applied).Kept cs := by
  unfold State.channelPass
  dsimp only
  split
  · exact h
  · split
    · exact h
    · split
      · split
        · exact ((((h.foldl (fun hu => hu.setChanRec)).wrNat).bump).bump).wrNat
        · exact (((h.foldl (fun hu => hu.setChanRec)).wrNat).bump).bump
      · exact h.foldl (fun hu => hu.setChanRec)

theorem State.Kept.teeDirectory {step applied skipped key} (h : s.Kept cs) :
    (s.teeDirectory step applied skipped key).Kept cs :=
  .ite h (h.foldl (fun hu => .ite hu hu.wrBytes.teeRange))

theorem State.Kept.countSheet {step} (h : s.Kept cs) : (s.countSheet step).Kept cs := by
  unfold State.countSheet
  dsimp only
  split
  · split
    · split
      · exact h.setDv.snapshotEnds
      · exact h.setDv.askSheet
    · exact h.setDv.copy
  · exact h.setDv

theorem State.Kept.detachAtBoundary {step} (h : s.Kept cs) : (s.detachAtBoundary step).Kept cs := by
  unfold State.detachAtBoundary
  split
  · exact h
  · split
    · exact .ite h h.askBath
    · exact .ite h.answerDetach h

theorem State.Kept.applyPend (h : s.Kept cs) : (s.applyPend).Kept cs := by
  unfold State.applyPend
  refine .copy ?_
  refine .foldl h (fun hu => ?_)
  split
  · exact hu.setDv
  · exact hu

theorem State.Kept.crossStep {applied} (h : s.Kept cs) : (s.crossStep applied).Kept cs :=
  .settled (.detachAtBoundary
    (.countSheet
      (.nextBath (.applyPend
        (.setDv (.copy
          (.setDv (.setDv
            (.setDv (.setDv
              (.sendMark (.teeDirectory
                (.foldl (.ite (h.foldl (fun hu => hu.flipResidual)) h) (fun hu => hu.channelPass))))))))))))))

theorem execStepBoundary_kept (h : s.Kept cs) : OutcomeKept cs (execStepBoundary s) := by
  unfold execStepBoundary
  split
  · exact .ite h.crossStep h
  · exact h

/-! ### Chunks -/

theorem State.Kept.onCollective {id f} (h : s.Kept cs) : (s.onCollective id f).Kept cs := h
theorem State.Kept.meetOwn {id st} (h : s.Kept cs) : (s.meetOwn id st).Kept cs := h.onCollective
theorem State.Kept.meetShard {id st} (h : s.Kept cs) : (s.meetShard id st).Kept cs := h.onCollective

theorem State.Kept.sendCol {x} (h : s.Kept cs) : (s.sendCol x).Kept cs := by
  unfold State.sendCol
  split
  · exact h.meetOwn
  · exact h.sendPacket.copy

theorem State.Kept.colAck {p st} (h : s.Kept cs) : (s.colAck p st).Kept cs := .ite h h.sendBack

/-! ### Collective -/

theorem State.Kept.park {op p key since} (h : s.Kept cs) : (s.park op p key since).Kept cs := h
theorem State.Kept.unpark {key since} (h : s.Kept cs) : (s.unpark key since).Kept cs := .ite h h.surge

theorem State.Kept.noteSuspect {c node cause index} (h : s.Kept cs) : (s.noteSuspect c node cause index).Kept cs :=
  .ite h.recordOf.bump.copy h.recordOf.bump

theorem State.Kept.see {id gather x} (h : s.Kept cs) : (s.see id gather x).Kept cs := h.onCollective
theorem State.Kept.checkTag {c node v} (h : s.Kept cs) : (s.checkTag c node v).Kept cs := .ite h.recordOf.copy h
theorem State.Kept.foldHeader {c node v} (h : s.Kept cs) : (s.foldHeader c node v).Kept cs := h.checkTag.onCollective

theorem State.Kept.addPlain {a first vals} (h : s.Kept cs) : (s.addPlain a first vals).s.Kept cs := by
  unfold State.addPlain
  dsimp only
  refine .foldlAcc h (fun hu => ?_)
  split
  · split
    · exact hu.poisonRead
    · exact hu
  · exact hu.wrCode

theorem State.Kept.addChunk {c first vals} (h : s.Kept cs) : (s.addChunk c first vals).s.Kept cs := by
  unfold State.addChunk
  split
  · exact h
  · refine .useEntries ?_
    refine .latchVerdict ?_
    split
    · exact h.storeBook
    · exact h.addPlain

theorem State.Kept.freshenBytes {d off n} (h : s.Kept cs) : (s.freshenBytes d off n).Kept cs := by
  unfold State.freshenBytes
  dsimp only
  refine .foldl h (fun hu => ?_)
  split
  · exact .ite hu.freshen hu
  · exact hu

theorem State.Kept.writeGather {c first g} (h : s.Kept cs) : (s.writeGather c first g).Kept cs := by
  unfold State.writeGather
  dsimp only
  split
  · exact h
  · refine .raise ?_
    refine .latchVerdict ?_
    split
    · refine .bump ?_
      refine .foldl (h.bindBytes.freshenBytes.moveChannels.noteElems.foldl (fun hu => .ite hu hu.wrCode))
        (fun hu => ?_)
      split
      · exact hu.wrSlotElems.slotMax
      · split
        · exact .chanMax (.ite hu.clearSide.setScale.setState.setHist hu.clearSide.setScale.setState)
        · exact .ite hu.clearSide.setScale.setState.setHist hu.clearSide.setScale.setState
    · refine .foldl (h.bindBytes.freshenBytes.moveChannels.noteElems.foldl (fun hu => .ite hu hu.wrCode))
        (fun hu => ?_)
      split
      · exact hu.wrSlotElems.slotMax
      · split
        · exact .chanMax (.ite hu.clearSide.setScale.setState.setHist hu.clearSide.setScale.setState)
        · exact .ite hu.clearSide.setScale.setState.setHist hu.clearSide.setScale.setState

theorem State.Kept.giveUp {c gather x st} (h : s.Kept cs) : (s.giveUp c gather x st).Kept cs :=
  .ite h.see.meetOwn h.see.meetShard

theorem State.Kept.sumFails {c gather p x} (h : s.Kept cs) : (s.sumFails c gather p x).Kept cs :=
  .ite h.see.colAck h.noteSuspect.giveUp.onCollective.colAck

theorem State.Kept.takeGather {c p x} (h : s.Kept cs) : (s.takeGather c p x).Kept cs := by
  unfold State.takeGather
  refine .ite (.sumFails (.ite h h.writeGather)) ?_
  refine .colAck ?_
  refine .see ?_
  refine .ite ?_ ?_
  · refine .onCollective ?_
    refine .checkTag ?_
    exact .ite (.ite h h.writeGather) (.meetOwn (.ite h h.writeGather))
  · exact .ite (.ite h h.writeGather) (.meetOwn (.ite h h.writeGather))

theorem State.Kept.applyChunk {c op p x key since} (h : s.Kept cs) : (s.applyChunk c op p x key since).Kept cs := by
  unfold State.applyChunk
  extract_lets gather first n r u data a s1 s2 s3
  split
  · exact h.park
  · exact h.unpark.giveUp.colAck
  · have hr : r.1.Kept cs := .iteFst h h.accessTensors
    have hu : u.Kept cs := hr.unpark
    have ha : a.s.Kept cs := .iteAcc (x := ⟨u, 0, false⟩) hu hu.addChunk
    have h1 : s1.Kept cs := ha.raise.see
    have h2 : s2.Kept cs := .ite h1.meetShard h1
    have h3 : s3.Kept cs := .ite h2.foldHeader h2
    exact .ite hr.park (.ite hu.takeGather h3.colAck)

theorem State.Kept.checkChunk {c op p n key since} (h : s.Kept cs) : (s.checkChunk c op p n key since).Kept cs := by
  unfold State.checkChunk
  refine .ite h.colAck ?_
  exact .ite (.ite h.see.bump.colAck h.giveUp.colAck) (.ite h.giveUp.colAck (.ite h.sumFails h.applyChunk))

theorem State.Kept.checkRange {c index first n} (h : s.Kept cs) : (s.checkRange c index first n).Kept cs := by
  unfold State.checkRange
  dsimp only
  split
  · exact h
  · split
    · exact h
    · exact .ite h.bump (.ite h.bump (.ite h h.noteSuspect.meetShard.onCollective))

theorem State.Kept.checkShard {c r} (h : s.Kept cs) : (s.checkShard c r).Kept cs :=
  .ite (h.foldl (fun hu => hu.checkRange)) h.bump

theorem State.Kept.takeClose {p since again} (h : s.Kept cs) : (s.takeClose p since again).Kept cs := by
  unfold State.takeClose
  split
  · exact h.park
  · exact .colAck (.onCollective (.ite h.checkTag h))

theorem State.Kept.sendGather {c r node a v deliver} (h : s.Kept cs)
    (h1 : ∀ {v a}, v.Kept cs → (deliver v a).Kept cs) :
    (s.sendGather c r node a v deliver).Kept cs :=
  h.foldl (fun hu => .ite (h1 (.ite hu.meetShard hu)) (.sendCol (.copy (.ite hu.meetShard hu))))

theorem State.Kept.sendClose {id} (h : s.Kept cs) : (s.sendClose id).Kept cs := by
  unfold State.sendClose
  split
  · exact h
  · exact h.onCollective.foldl (fun hu => .ite hu.takeClose (.sendCol hu))

theorem State.Kept.abandon {id st} (h : s.Kept cs) : (s.abandon id st).Kept cs := by
  unfold State.abandon
  split
  · exact h
  · refine .onCollective ?_
    split
    · exact .sendClose (.meetShard (.ite h.meetOwn.leaveEpoch.onCollective h.meetOwn))
    · exact .ite h.meetOwn.leaveEpoch.onCollective h.meetOwn

theorem State.Kept.takeChunk {op p key since again} (h : s.Kept cs) : (s.takeChunk op p key since again).Kept cs := by
  unfold State.takeChunk
  dsimp only
  split
  · exact .ite h.colAck h.park
  · split
    · exact .colAck (.abandon (.ite h h.onCollective))
    · exact .checkChunk (.ite h h.onCollective)

theorem State.Kept.takeCol {op p key since again} (h : s.Kept cs) : (s.takeCol op p key since again).Kept cs :=
  .ite h.takeClose h.takeChunk

theorem State.Kept.retryCols (h : s.Kept cs) : (s.retryCols).Kept cs := by
  unfold State.retryCols
  refine .foldl h (fun hu => ?_)
  split
  · exact .ite hu.takeCol.creditBack hu.takeCol
  · exact hu.takeCol

theorem State.Kept.endPhases (h : s.Kept cs) : (s.endPhases).Kept cs :=
  h.foldl (fun hu => .ite hu.leaveEpoch.onCollective hu)

theorem State.Kept.accessGroup {g} (h : s.Kept cs) : (s.accessGroup g).1.Kept cs := h.accessRange.accessRange

theorem State.Kept.joinGroup {id} (h : s.Kept cs) : (s.joinGroup id).Kept cs := by
  unfold State.joinGroup
  split
  · exact h
  · exact h.wrNat.wrNat.wrNat.onCollective

theorem State.Kept.openShard {id} (h : s.Kept cs) : (s.openShard id).Kept cs := by
  unfold State.openShard
  dsimp only
  split
  · exact h
  · split
    · split
      · exact h
      · exact (h.openEpoch.bindBytes.freshenBytes.foldl (fun hu => .ite hu.wrNat hu.wrCode)).onCollective
    · exact h

theorem State.Kept.sendContrib {id r} (h : s.Kept cs) : (s.sendContrib id r).Kept cs := by
  unfold State.sendContrib
  split
  · exact h
  · refine .foldl h.takeElems (fun hu => ?_)
    exact .ite (.takeChunk (.raise (.ite hu.meetOwn hu))) (.sendCol (.copy (.raise (.ite hu.meetOwn hu))))

theorem State.Kept.sendOwnShard {id} (h : s.Kept cs) : (s.sendOwnShard id).Kept cs := by
  unfold State.sendOwnShard
  split
  · exact h
  · split
    · exact h
    · exact h.takeElems.raise.onCollective.foldl (fun hu => hu.sendGather (fun hv => hv.takeChunk))

theorem State.Kept.placeCollective {id} (h : s.Kept cs) : (s.placeCollective id).Kept cs :=
  h.joinGroup.openShard.onCollective

theorem State.Kept.beginCollective {id} (h : s.Kept cs) : (s.beginCollective id).Kept cs := by
  unfold State.beginCollective
  dsimp only
  split
  · exact h.placeCollective
  · split
    · exact h.placeCollective.abandon.retryCols
    · refine .retryCols ?_
      split
      · refine .copy ?_
        split
        · exact .foldl (.ite h.placeCollective.hintMembers h.placeCollective) (fun hu => hu.sendContrib)
        · exact .sendOwnShard (.ite h.placeCollective.hintMembers h.placeCollective)
      · split
        · exact .foldl (.ite h.placeCollective.hintMembers h.placeCollective) (fun hu => hu.sendContrib)
        · exact .sendOwnShard (.ite h.placeCollective.hintMembers h.placeCollective)

theorem State.Kept.foldVerdict {c} (h : s.Kept cs) : (s.foldVerdict c).Kept cs := .ite h h
theorem State.Kept.endCollective {c} (h : s.Kept cs) : (s.endCollective c).Kept cs := h.foldVerdict.onStarted.copy

theorem State.Kept.runCollectives {a} (h : s.Kept cs) : (State.runCollectives a s).Kept cs := by
  induction a generalizing s with
  | zero => exact h
  | succ n ih =>
    unfold State.runCollectives
    dsimp only
    have he : s.endPhases.Kept cs := h.endPhases
    split
    · exact ih he.endCollective
    · split
      · exact .ite (.ite (ih he.accessGroup.surge.beginCollective) he.accessGroup) he
      · exact he

theorem State.Kept.goOnCol (h : s.Kept cs) : (s.goOnCol).Kept cs := h.runCollectives.goOn

theorem execRelease_kept {q c} (h : s.Kept cs) : OutcomeKept cs (execRelease q c s) :=
  h.take (fun _ => (h.atOnce (fun hv => .ite hv.liftHold hv)).goOnCol)

theorem execBathStageEnd_kept {t} (h : s.Kept cs) : OutcomeKept cs (execBathStageEnd t s) := by
  unfold execBathStageEnd
  dsimp only
  split
  · exact h.tick.endStage.goOnCol
  · exact h.tick

theorem execBathTimeout_kept {t} (h : s.Kept cs) : OutcomeKept cs (execBathTimeout t s) := by
  unfold execBathTimeout
  dsimp only
  split
  · exact .ite h.tick.timeoutBath.goOnCol h.tick
  · exact h.tick

theorem State.Kept.startCollective {q l c} (h : s.Kept cs) : (s.startCollective q l c).Kept cs := h.enter.copy.goOnCol

theorem State.Kept.collectiveRow {q c} (h : s.Kept cs) : (s.collectiveRow q c).Kept cs := by
  unfold State.collectiveRow
  refine .take h (fun _ => ?_)
  split
  · exact h.waitHot
  · exact h.coherent (fun hv => .ite hv.accessGroup.startCollective hv.accessGroup)

theorem execReduce_kept {q c} (h : s.Kept cs) : OutcomeKept cs (execReduce q c s) := h.collectiveRow
theorem execAllReduce_kept {q c} (h : s.Kept cs) : OutcomeKept cs (execAllReduce q c s) := h.collectiveRow
theorem execReduceScatter_kept {q c} (h : s.Kept cs) : OutcomeKept cs (execReduceScatter q c s) := h.collectiveRow
theorem execAllGather_kept {q c} (h : s.Kept cs) : OutcomeKept cs (execAllGather q c s) := h.collectiveRow
theorem execBroadcast_kept {q c} (h : s.Kept cs) : OutcomeKept cs (execBroadcast q c s) := h.collectiveRow

theorem State.Kept.colPacket {op p} (h : s.Kept cs) : (s.colPacket op p).Kept cs := by
  unfold State.colPacket
  split
  · exact h.arrive (fun hv => hv.takeCol.goOnCol)
  · exact h.arrive (fun hv => hv.refusePacket)

theorem execContrib_kept {p} (h : s.Kept cs) : OutcomeKept cs (execContrib p s) := h.colPacket
theorem execGather_kept {p} (h : s.Kept cs) : OutcomeKept cs (execGather p s) := h.colPacket
theorem execClose_kept {p} (h : s.Kept cs) : OutcomeKept cs (execClose p s) := h.colPacket

theorem State.Kept.gotColAck {p} (h : s.Kept cs) : (s.gotColAck p).Kept cs := by
  unfold State.gotColAck
  split
  · exact h
  · exact .ite (.sendCol h) (.ite (.abandon h) h)

theorem execColAck_kept {p} (h : s.Kept cs) : OutcomeKept cs (execColAck p s) :=
  h.arrive (fun hv => hv.gotColAck.goOnCol)

theorem State.Kept.closeEpoch {a} (h : s.Kept cs) : (s.closeEpoch a).Kept cs := by
  unfold State.closeEpoch
  split
  · exact h
  · exact .ite h (.goOnCol (.retryCols (.closeBlocks h)))

theorem execEpochClose_kept {handle} (h : s.Kept cs) : OutcomeKept cs (execEpochClose handle s) := h.closeEpoch

theorem State.Kept.closeShard {id} (h : s.Kept cs) : (s.closeShard id).Kept cs := by
  unfold State.closeShard
  split
  · exact h
  · split
    · exact h
    · split
      · exact h
      · refine .sendClose ?_
        split
        · exact h.checkShard.takeElems.foldl (fun hu => hu.sendGather (fun hv => hv))
        · exact h.checkShard

theorem execShardClose_kept {collective} (h : s.Kept cs) : OutcomeKept cs (execShardClose collective s) :=
  h.retryCols.endPhases.closeShard.goOnCol

theorem execCollectiveTimeout_kept {collective t} (h : s.Kept cs) :
    OutcomeKept cs (execCollectiveTimeout collective t s) := by
  unfold execCollectiveTimeout
  dsimp only
  split
  · exact h.tick
  · exact .ite h.tick.abandon.goOnCol h.tick

theorem State.Kept.releaseHold {node} (h : s.Kept cs) : (s.releaseHold node).Kept cs := h
theorem State.Kept.takeHold {node} (h : s.Kept cs) : (s.takeHold node).Kept cs := h
theorem State.Kept.takeSlow {node} (h : s.Kept cs) : (s.takeSlow node).Kept cs := h.bump.copy

theorem State.Kept.gotHint {p} (h : s.Kept cs) : (s.gotHint p).Kept cs :=
  .ite h.takeSlow (.ite h.takeHold (.ite h.releaseHold h.recordOf))

theorem execHintSlowContributor_kept {p} (h : s.Kept cs) : OutcomeKept cs (execHintSlowContributor p s) :=
  h.arrive (fun hv => hv.gotHint)

theorem execHintHold_kept {p t} (h : s.Kept cs) : OutcomeKept cs (execHintHold p t s) :=
  h.tick.arrive (fun hv => hv.gotHint)

theorem execHintHoldRelease_kept {p t} (h : s.Kept cs) : OutcomeKept cs (execHintHoldRelease p t s) :=
  h.tick.arrive (fun hv => hv.gotHint)

theorem execHoldLimitExpiry_kept {node t} (h : s.Kept cs) : OutcomeKept cs (execHoldLimitExpiry node t s) :=
  .ite h.tick.releaseHold h.tick

/-! ### Complete -/

theorem State.Kept.recordReads {st} (h : s.Kept cs) : (s.recordReads st).Kept cs :=
  .ite (h.bump.foldl (fun hu => hu.readBad)) h.bump

theorem State.Kept.completeStarted {q id} (h : s.Kept cs) : (s.completeStarted q id).Kept cs := by
  unfold State.completeStarted
  split
  · exact h
  · exact .ite h (.ite h.stampRing h.recordReads.finish.settled)

theorem execCommandComplete_kept {q id} (h : s.Kept cs) : OutcomeKept cs (execCommandComplete q id s) :=
  h.teeRun.completeStarted

/-! ### Control -/

theorem State.Kept.endEffect {q} (h : s.Kept cs) : (s.endEffect q).Kept cs := h.onQueue

theorem execEndCmd_kept {q c} (h : s.Kept cs) : OutcomeKept cs (execEndCmd q c s) :=
  h.take (fun _ => h.atOnce (fun hv => hv.endEffect))

theorem State.Kept.waitOn {q w} (h : s.Kept cs) : (s.waitOn q w).Kept cs := h.onQueue

theorem State.Kept.flushGateways {q} (h : s.Kept cs) : (s.flushGateways q).Kept cs :=
  h.foldl (fun hu => hu.foldl (fun h2 => h2.shipGateway))

theorem execFence_kept {q c} (h : s.Kept cs) : OutcomeKept cs (execFence q c s) :=
  h.take (fun _ => h.flushGateways.waitOn.settled)

theorem execWaitCounter_kept {q c} (h : s.Kept cs) : OutcomeKept cs (execWaitCounter q c s) :=
  h.take (fun _ => h.waitOn.settled)

theorem State.Kept.waitTimeout {q} (h : s.Kept cs) : (s.waitTimeout q).Kept cs := by
  unfold State.waitTimeout
  dsimp only
  split
  · exact h
  · split
    · split
      · exact .ite h.stampRing h.onQueue.finish.settled
      · exact h
    · exact h

theorem execWaitCounterTimeout_kept {q t} (h : s.Kept cs) : OutcomeKept cs (execWaitCounterTimeout q t s) :=
  h.tick.waitTimeout

theorem State.Kept.signalStart {q l c} (h : s.Kept cs) : (s.signalStart q l c).Kept cs := by
  unfold State.signalStart
  dsimp only
  split
  · exact h.counterUpdate.waitOn.settled
  · exact .ite (h.atOnce (fun hv => hv)) h.ask.waitOn.settled

theorem execSignalCounter_kept {q c} (h : s.Kept cs) : OutcomeKept cs (execSignalCounter q c s) :=
  h.take (fun _ => .ite h.signalStart h)

theorem State.Kept.jump {q dest} (h : s.Kept cs) : (s.jump q dest).Kept cs := h.onQueue

theorem State.Kept.branchNow {q l c} (h : s.Kept cs) : (s.branchNow q l c).Kept cs := by
  unfold State.branchNow
  dsimp only
  split
  · exact h.atOnce (fun hv => hv)
  · exact .ite (h.atOnce (fun hv => hv.jump)) (h.atOnce (fun hv => hv))

theorem execBranchIfSummary_kept {q c} (h : s.Kept cs) : OutcomeKept cs (execBranchIfSummary q c s) :=
  h.take (fun _ => .ite h h.branchNow)

theorem State.Kept.loopStep {q pc} (h : s.Kept cs) : (s.loopStep q pc).Kept cs := h.onQueue
theorem State.Kept.loopPush {q pc c} (h : s.Kept cs) : (s.loopPush q pc c).Kept cs := h.onQueue

theorem execLoop_kept {q c} (h : s.Kept cs) : OutcomeKept cs (execLoop q c s) :=
  h.take (fun _ => h.atOnce (fun hv => .loopStep (.ite hv hv.loopPush)))

theorem State.Kept.callEffect {q c pc} (h : s.Kept cs) : (s.callEffect q c pc).Kept cs := h.onQueue

theorem execCall_kept {q c} (h : s.Kept cs) : OutcomeKept cs (execCall q c s) :=
  h.take (fun _ => h.atOnce (fun hv => hv.callEffect))

/-! ### Power -/

theorem State.Kept.supplyRecord {row} (h : s.Kept cs) : (s.supplyRecord row).Kept cs := h.recordOf
theorem State.Kept.applyLand (h : s.Kept cs) : (s.applyLand).Kept cs := h.foldl (fun hu => hu.onRegion)

theorem State.Kept.landRise {g rise} (h : s.Kept cs) : (s.landRise g rise).Kept cs := by
  unfold State.landRise
  dsimp only
  split
  · exact h.setDv.onPower
  · split
    · exact .onPower (.ite h.setDv.onPower.recordOf h.setDv)
    · exact .ite h.setDv.onPower.recordOf h.setDv

theorem State.Kept.judgeRail {mv} (h : s.Kept cs) : (s.judgeRail mv).Kept cs := h.onPower

theorem State.Kept.avsReply {mv centiAmp} (h : s.Kept cs) : (s.avsReply mv centiAmp).Kept cs := by
  unfold State.avsReply
  dsimp only
  split
  · exact h.setDv.setDv.onPower.judgeRail.supplyRecord
  · split
    · exact h.setDv.setDv.onPower.judgeRail.supplyRecord
    · exact h.setDv.setDv.onPower.judgeRail

theorem State.Kept.avsFailed (h : s.Kept cs) : (s.avsFailed).Kept cs := .ite h.onPower.onPower.supplyRecord h.onPower

theorem State.Kept.avsRead {reply} (h : s.Kept cs) : (s.avsRead reply).Kept cs := by
  unfold State.avsRead
  split
  · exact h.onPower.avsReply
  · exact h.onPower.avsFailed

theorem execAvsbusRead_kept {reply rises t} (h : s.Kept cs) : OutcomeKept cs (execAvsbusRead reply rises t s) := by
  unfold execAvsbusRead
  refine .timed h (fun hv => ?_)
  split
  · exact hv
  · refine .checkOvercurrent ?_
    split
    · exact hv.avsRead.foldl (fun hu => hu.landRise)
    · exact (hv.avsRead.foldl (fun hu => hu.landRise)).applyLand

theorem execAvsbusRetry_kept {reply t} (h : s.Kept cs) : OutcomeKept cs (execAvsbusRetry reply t s) := by
  unfold execAvsbusRetry
  refine .timed h (fun hv => ?_)
  split
  · exact .ite hv.avsRead hv.avsRead.setRail
  · exact hv

theorem State.Kept.supplyDown (h : s.Kept cs) : (s.supplyDown).Kept cs := h.foldl (fun hu => hu.onRegion)
theorem State.Kept.supplyUp (h : s.Kept cs) : (s.supplyUp).Kept cs := h.foldl (fun hu => hu.onRegion)

theorem execSupplyLimitStep_kept {t} (h : s.Kept cs) : OutcomeKept cs (execSupplyLimitStep t s) := by
  unfold execSupplyLimitStep
  dsimp only
  refine .timed h (fun hv => ?_)
  split
  · exact .ite (.onPower (.supplyDown (.ite hv hv.onPower.supplyRecord))) hv
  · exact .ite hv.supplyUp.onPower hv
  · exact hv

theorem State.Kept.pmbusStatus {w} (h : s.Kept cs) : (s.pmbusStatus w).Kept cs :=
  .ite h.setDv.onPower (.ite h.setDv h.setDv.onPower.supplyRecord.send)

theorem State.Kept.pmbusFeed {feed} (h : s.Kept cs) : (s.pmbusFeed feed).Kept cs :=
  .ite h.onPower.setDv h.onPower.setDv.supplyRecord

theorem execPmbusRead_kept {status feed t} (h : s.Kept cs) : OutcomeKept cs (execPmbusRead status feed t s) := by
  unfold execPmbusRead
  dsimp only
  refine .timed h (fun hv => ?_)
  split
  · split
    · exact hv.pmbusStatus
    · exact hv
  · refine .pmbusFeed ?_
    split
    · exact hv.pmbusStatus
    · exact hv

theorem State.Kept.endGuard (h : s.Kept cs) : (s.endGuard).Kept cs :=
  ((h.foldl (fun hu => hu.onRegion.drawn)).setDv).setRail

theorem execGuardBandEnd_kept {t} (h : s.Kept cs) : OutcomeKept cs (execGuardBandEnd t s) :=
  h.timed (fun hv => .ite hv.endGuard hv)

theorem State.Kept.failSlice {r slice} (h : s.Kept cs) : (s.failSlice r slice).Kept cs :=
  .ite h (.ite h.setRegion.recordOf.goDark h.setRegion.recordOf)

theorem execSliceFailure_kept {r slice t} (h : s.Kept cs) : OutcomeKept cs (execSliceFailure r slice t s) :=
  h.timed (fun hv => hv.failSlice)

theorem State.Kept.clearVolt {v} (h : s.Kept cs) : (s.clearVolt v).1.Kept cs := by
  unfold State.clearVolt
  split
  · exact h.onRegion
  · split
    · exact h.foldl (fun hu => hu.onRegion)
    · exact h

theorem execClearMinimumVoltage_kept {m region} (h : s.Kept cs) :
    OutcomeKept cs (execClearMinimumVoltage m region s) :=
  h.masterWrite (fun hv => hv.clearVolt)

theorem State.Kept.capWriteNow {w} (h : s.Kept cs) : (s.capWriteNow w).1.Kept cs := by
  unfold State.capWriteNow
  refine .iteFst h ?_
  exact .ite ((h.timed (fun hv => hv.setDv.setDv.onPower)).throttleEvent) (h.timed (fun hv => hv.setDv.setDv.onPower))

theorem execCapWrite_kept {m watts} (h : s.Kept cs) : OutcomeKept cs (execCapWrite m watts s) :=
  h.masterWrite (fun hv => hv.capWriteNow)

theorem State.Kept.restartRegion {r} (h : s.Kept cs) : (s.restartRegion r).Kept cs := by
  unfold State.restartRegion
  split
  · exact .ite h.askSlope.onRegion h.askSlope
  · exact h

theorem State.Kept.powerHigh (h : s.Kept cs) : (s.powerHigh).Kept cs := h.onPower

theorem State.Kept.powerLow (h : s.Kept cs) : (s.powerLow).Kept cs := by
  unfold State.powerLow
  split
  · exact h.onPower
  · split
    · exact h
    · split
      · exact .ite h.onPower.onPower (h.onPower.onPower.foldl (fun hu => hu.restartRegion))
      · exact h.onPower

theorem State.Kept.warmMore (h : s.Kept cs) : (s.warmMore).Kept cs := by
  unfold State.warmMore
  split
  · exact h
  · split
    · exact h
    · exact h.onCluster.onRegion

theorem State.Kept.warmLess {c} (h : s.Kept cs) : (s.warmLess c).Kept cs := h.onCluster.onRegion

theorem State.Kept.keepWarm {watts} (h : s.Kept cs) : (s.keepWarm watts).Kept cs := by
  unfold State.keepWarm
  dsimp only
  split
  · exact h.foldl (fun hu => hu.warmLess)
  · split
    · exact h.warmMore
    · split
      · split
        · exact h.warmLess
        · exact h
      · exact h

theorem State.Kept.powerTick {watts} (h : s.Kept cs) : (s.powerTick watts).Kept cs := by
  unfold State.powerTick
  refine .keepWarm ?_
  split
  · exact h.setDv.onPower.powerHigh
  · exact .ite h.setDv.onPower.powerLow h.setDv.onPower.onPower

theorem execPowerLoopTick_kept {watts t} (h : s.Kept cs) : OutcomeKept cs (execPowerLoopTick watts t s) :=
  h.timed (fun hv => .ite hv.powerTick hv)

theorem State.Kept.rotateSlot (h : s.Kept cs) : (s.rotateSlot).Kept cs :=
  (h.onPower.foldl (fun hu => .ite hu.restartRegion (.ite hu.setGovernor.onRegion hu.setGovernor))).goOn

theorem execIntervalSlot_kept {t} (h : s.Kept cs) : OutcomeKept cs (execIntervalSlot t s) :=
  h.timed (fun hv => .ite hv.rotateSlot hv)

/-! ### Cooling -/

theorem State.Kept.onCooling {f} (h : s.Kept cs) : (s.onCooling f).Kept cs := h
theorem State.Kept.setRole {k x} (h : s.Kept cs) : (s.setRole k x).Kept cs := h.onCooling

theorem State.Kept.hintAll {op nodes} (h : s.Kept cs) : (s.hintAll op nodes).Kept cs :=
  h.foldl (fun hu => hu.sendPacket)

theorem State.Kept.enterCoolant {new} (h : s.Kept cs) : (s.enterCoolant new).Kept cs := .ite h h.setDv.recordOf

theorem State.Kept.declareStop {cause quick spot} (h : s.Kept cs) : (s.declareStop cause quick spot).Kept cs := by
  unfold State.declareStop
  split
  · exact h
  · exact ((((((h.foldl (fun hu => hu.onRegion)).onCooling).foldl
      (fun hu => hu.syncRefresh)).hintAll).enterCoolant).recordOf).bump

theorem State.Kept.restartCoolant {r} (h : s.Kept cs) : (s.restartCoolant r).Kept cs :=
  .ite h.setRegion (.ite h.askSlope.onRegion h.askSlope)

theorem State.Kept.endStop (h : s.Kept cs) : (s.endStop).Kept cs :=
  (((((h.onCooling.enterCoolant.foldl (fun hu => hu.syncRefresh)).foldl (fun hu => hu.onRegion)).foldl
    (fun hu => hu.restartCoolant)).hintAll).retryLines).goOn

theorem State.Kept.endIfOver (h : s.Kept cs) : (s.endIfOver).Kept cs := .ite h.endStop h
theorem State.Kept.noteCool {r} (h : s.Kept cs) : (s.noteCool r).Kept cs := h.onRegion

theorem State.Kept.sampleSpot {a b c} (h : s.Kept cs) : (s.sampleSpot a b c).Kept cs := by
  unfold State.sampleSpot
  dsimp only
  split
  · exact .declareStop (.noteCool (.ite h.setSpot.recordOf h.setSpot))
  · exact .endIfOver (.noteCool (.ite h.setSpot.recordOf h.setSpot))

theorem execHotSpotSample_kept {a b c t} (h : s.Kept cs) : OutcomeKept cs (execHotSpotSample a b c t s) :=
  h.timed (fun hv => hv.sampleSpot)

theorem State.Kept.tripStep {r} (h : s.Kept cs) : (s.tripStep r).Kept cs := by
  unfold State.tripStep
  split
  · exact .ite ((h.onRegion.foldl (fun hu => hu.onSpot)).goOn) h
  · exact .ite h.onRegion.onSpot.recordOf h

theorem State.Kept.thermalStep {r} (h : s.Kept cs) : (s.thermalStep r).Kept cs := by
  unfold State.thermalStep
  dsimp only
  split
  · exact .ite h.noteCool.setRegion h.noteCool
  · exact .ite h.noteCool.setRegion h.noteCool

theorem execThermalLimitStep_kept {r t} (h : s.Kept cs) : OutcomeKept cs (execThermalLimitStep r t s) :=
  h.timed (fun hv => .tripStep (.ite hv.thermalStep hv))

theorem State.Kept.setValid {k v} (h : s.Kept cs) : (s.setValid k v).Kept cs := .ite h h.setRole.recordOf

theorem State.Kept.trayFails {k} (h : s.Kept cs) : (s.trayFails k).Kept cs :=
  .ite h.setRole.setDv.setValid h.setRole.setDv

theorem State.Kept.trayGood {k v} (h : s.Kept cs) : (s.trayGood k v).Kept cs := .ite h.setRole.setValid h.setRole

theorem State.Kept.trayRead {k v} (h : s.Kept cs) : (s.trayRead k v).Kept cs := by
  unfold State.trayRead
  split
  · exact h
  · split
    · exact h.trayFails
    · exact .ite h.trayGood.setDv h.setRole.setValid

theorem State.Kept.enumerateTray {pids} (h : s.Kept cs) : (s.enumerateTray pids).Kept cs := by
  unfold State.enumerateTray
  refine .foldl ?_ (fun hu => hu.recordOf)
  refine .foldl h.send (fun hu => ?_)
  split
  · exact hu.setRole
  · exact hu.setRole.setValid

theorem execReEnumerate_kept {m pids} (h : s.Kept cs) : OutcomeKept cs (execReEnumerate m pids s) := by
  unfold execReEnumerate
  split
  · exact h.enumerateTray
  · exact h.masterWrite (fun hv => hv.enumerateTray)

theorem State.Kept.flowReading {v} (h : s.Kept cs) : (s.flowReading v).Kept cs := by
  unfold State.flowReading
  refine .ite h.setDv ?_
  refine .ite h.setDv.onCooling.setDv ?_
  exact .ite h.setDv.onCooling.setDv.declareStop h.setDv.onCooling.setDv.enterCoolant

theorem State.Kept.fallBackState (h : s.Kept cs) : (s.fallBackState).Kept cs :=
  .ite h.setDv.setDv.onCooling h.setDv.setDv.onCooling.enterCoolant

theorem State.Kept.checkInlet (h : s.Kept cs) : (s.checkInlet).Kept cs := .ite h.onCooling.recordOf h.onCooling

theorem State.Kept.pollTray {p} (h : s.Kept cs) : (s.pollTray p).Kept cs := by
  unfold State.pollTray
  refine .endIfOver ?_
  split
  · exact h.trayRead.trayRead.trayRead.checkInlet.fallBackState
  · split
    · exact h.trayRead.trayRead.trayRead.checkInlet.flowReading
    · exact h.trayRead.trayRead.trayRead.checkInlet

theorem execTrayRead_kept {p t} (h : s.Kept cs) : OutcomeKept cs (execTrayRead p t s) :=
  h.timed (fun hv => hv.pollTray)

theorem State.Kept.resumeNow (h : s.Kept cs) : s.resumeNow.1.Kept cs := by
  have he : s.endStop.Kept cs := h.endStop
  unfold State.resumeNow
  refine .iteFst h ?_
  generalize s.endStop = u at he ⊢
  split
  · exact he
  · exact h

theorem execResume_kept {m t} (h : s.Kept cs) : OutcomeKept cs (execResume m t s) :=
  h.timed (fun hv => hv.masterWrite (fun h2 => h2.resumeNow))

theorem State.Kept.coolantCommand {v} (h : s.Kept cs) : (s.coolantCommand v).1.Kept cs := by
  unfold State.coolantCommand
  dsimp only
  split
  · exact h
  · split
    · refine .send ?_
      split
      · exact h.resumeNow
      · exact h
    · split
      · exact h.resumeNow
      · exact h

theorem execFlowRequestWrite_kept {done t} (h : s.Kept cs) : OutcomeKept cs (execFlowRequestWrite done t s) := by
  unfold execFlowRequestWrite
  refine .timed h (fun hv => ?_)
  refine .ite hv ?_
  exact .ite (.ite hv.onCooling.setDv.send.trayGood hv.onCooling.setDv.trayFails) hv.onCooling.setDv

theorem execFlowTrendUpdate_kept {t} (h : s.Kept cs) : OutcomeKept cs (execFlowTrendUpdate t s) :=
  h.timed (fun hv => .ite hv.onCooling.setDv hv)

/-! ### Testing -/

theorem State.Kept.endWindow {cls source} (h : s.Kept cs) : (s.endWindow cls source).Kept cs := by
  unfold State.endWindow
  split
  · exact h
  · exact .ite h (.ite h (.record h))

theorem execCoalescingWindowEnd_kept {cls source t} (h : s.Kept cs) :
    OutcomeKept cs (execCoalescingWindowEnd cls source t s) :=
  h.tick.endWindow

theorem State.Kept.kernelRecords {c p a} (h : s.Kept cs) : (s.kernelRecords c p a).Kept cs := by
  unfold State.kernelRecords
  split
  · exact h
  · exact h.foldl (fun hu => hu.recordOf)

theorem State.Kept.kernels {c a} (h : s.Kept cs) : (s.kernels c a).Kept cs := by
  unfold State.kernels
  split
  · exact h
  · exact h.setDv.kernelRecords

theorem State.Kept.testFail {mode region position pattern unit} (h : s.Kept cs) :
    (s.testFail mode region position pattern unit).Kept cs :=
  h.recordOf

theorem State.Kept.quarantine {c} (h : s.Kept cs) : (s.quarantine c).Kept cs :=
  .ite h.setClusterState.onCluster h.setClusterState.onCluster.halt

theorem State.Kept.rotate {c r} (h : s.Kept cs) : (s.rotate c r).Kept cs := by
  unfold State.rotate
  split
  · exact h.onCluster.kernels.onCluster
  · exact h.onCluster.kernels.onCluster.testFail.quarantine

theorem execRotationPattern_kept {c run t} (h : s.Kept cs) : OutcomeKept cs (execRotationPattern c run t s) :=
  h.timed (fun hv => .ite hv.rotate hv)

theorem State.Kept.testMade {c} (h : s.Kept cs) : (s.testMade c).Kept cs := .onCluster h

theorem State.Kept.recoverCluster {c runs} (h : s.Kept cs) : (s.recoverCluster c runs).Kept cs := by
  unfold State.recoverCluster
  dsimp only
  split
  · exact .ite ((h.testMade.foldl (fun hu => hu.kernels)).setClusterState) h
  · exact (((h.testMade.foldl (fun hu => hu.kernels)).onCluster).testFail).goDark

theorem State.Kept.recoverRegion {r runs} (h : s.Kept cs) : (s.recoverRegion r runs).Kept cs := by
  unfold State.recoverRegion
  split
  · exact h
  · exact .testFail h

theorem execRecoveryTest_kept {u runs t} (h : s.Kept cs) : OutcomeKept cs (execRecoveryTest u runs t s) := by
  unfold execRecoveryTest
  refine .timed h (fun hv => ?_)
  split
  · exact hv
  · split
    · exact .ite hv.recoverCluster hv
    · exact .ite hv.recoverRegion hv

theorem State.Kept.controlError {c word corrected} (h : s.Kept cs) : (s.controlError c word corrected).Kept cs := by
  unfold State.controlError
  split
  · exact h.recordCE
  · exact (h.record.quarantine.foldl (fun hu => hu.loseControl)).settled

theorem execListStart_kept {q host} (h : s.Kept cs) : OutcomeKept cs (execListStart q host s) := by
  unfold execListStart
  refine .ite ?_ ?_
  · refine .startList ?_
    split
    · exact .ite h.controlError h
    · exact h
  · split
    · exact .ite h.controlError h
    · exact h

theorem State.Kept.testCommand {v} (h : s.Kept cs) : (s.testCommand v).1.Kept cs := by
  unfold State.testCommand
  dsimp only
  split
  · exact h
  · split
    · split
      · exact h.quarantine
      · exact h
    · split
      · split
        · exact h.onCluster
        · exact h
      · split
        · split
          · exact h
          · exact h.takeOffline
        · split
          · split
            · exact h.onCluster
            · exact h
          · split
            · exact h
            · exact h

theorem State.Kept.testBy {m op u} (h : s.Kept cs) : (s.testBy m op u).Kept cs :=
  h.masterWrite (fun hv => hv.testCommand)

theorem execQuarantine_kept {m c} (h : s.Kept cs) : OutcomeKept cs (execQuarantine m c s) := h.testBy
theorem execRunRecoveryTest_kept {m c} (h : s.Kept cs) : OutcomeKept cs (execRunRecoveryTest m c s) := h.testBy

theorem execTakePackageOutOfService_kept {m p} (h : s.Kept cs) : OutcomeKept cs (execTakePackageOutOfService m p s) :=
  h.testBy

theorem execRunRotationPattern_kept {m c} (h : s.Kept cs) : OutcomeKept cs (execRunRotationPattern m c s) := h.testBy
theorem execRunRegionTest_kept {m r} (h : s.Kept cs) : OutcomeKept cs (execRunRegionTest m r s) := h.testBy
theorem State.Kept.onTest {f} (h : s.Kept cs) : (s.onTest f).Kept cs := h
theorem State.Kept.selectIr {die ir drive} (h : s.Kept cs) : (s.selectIr die ir drive).Kept cs := h.onTest
theorem execBypass_kept {die} (h : s.Kept cs) : OutcomeKept cs (execBypass die s) := h.selectIr
theorem execIdcode_kept {die} (h : s.Kept cs) : OutcomeKept cs (execIdcode die s) := h.selectIr.send

theorem execSamplePreload_kept {die preload pins} (h : s.Kept cs) :
    OutcomeKept cs (execSamplePreload die preload pins s) :=
  h.selectIr.send.onTest

theorem execExtest_kept {die pins} (h : s.Kept cs) : OutcomeKept cs (execExtest die pins s) :=
  .ite h.selectIr.send h.selectIr

theorem execRunbist_kept {die failing} (h : s.Kept cs) : OutcomeKept cs (execRunbist die failing s) :=
  .ite h.selectIr.onTest.send h.selectIr

/-! ### Reset -/

theorem State.Kept.onBoot {f} (h : s.Kept cs) : (s.onBoot f).Kept cs := h

theorem State.Kept.fullReset (h : s.Kept cs) : s.fullReset.Kept cs :=
  ⟨h.1, Tbl.wf_filter _ _ _ h.2.1, Nat.zero_le _⟩

theorem State.Kept.coreReset (h : s.Kept cs) : s.coreReset.Kept cs :=
  ⟨h.1, Tbl.wf_filter _ _ _ h.2.1, h.2.2⟩

theorem State.Kept.resetWrite {v} (h : s.Kept cs) : (s.resetWrite v).1.Kept cs := by
  unfold State.resetWrite
  split
  · exact h.fullReset
  · split
    · exact h.coreReset
    · exact h

theorem execFullReset_kept {m} (h : s.Kept cs) : OutcomeKept cs (execFullReset m s) := by
  unfold execFullReset
  split
  · exact h.fullReset
  · exact .ite h.fullReset h

theorem execCoreReset_kept {m} (h : s.Kept cs) : OutcomeKept cs (execCoreReset m s) := by
  unfold execCoreReset
  split
  · exact h.coreReset
  · exact .ite h.coreReset h

theorem State.Kept.setEvidence {m b} (h : s.Kept cs) : (s.setEvidence m b).Kept cs := h
theorem State.Kept.nonceWrite {m nonce} (h : s.Kept cs) : (s.nonceWrite m nonce).1.Kept cs := h.setEvidence

theorem execAttestationNonce_kept {m nonce t} (h : s.Kept cs) : OutcomeKept cs (execAttestationNonce m nonce t s) :=
  h.tick.masterWrite (fun hv => hv.nonceWrite)

theorem execEvidenceReady_kept {m t} (h : s.Kept cs) : OutcomeKept cs (execEvidenceReady m t s) :=
  .ite h.tick.setEvidence h.tick

theorem State.Kept.openFlash {r off} (h : s.Kept cs) : (s.openFlash r off).1.Kept cs := by
  unfold State.openFlash
  dsimp only
  split
  · exact h
  · split
    · exact h
    · exact h.onBoot

theorem State.Kept.programFlash {bytes} (h : s.Kept cs) : (s.programFlash bytes).1.Kept cs := by
  unfold State.programFlash
  dsimp only
  split
  · exact h
  · exact h.onBoot

theorem State.Kept.commitFlash {r x} (h : s.Kept cs) : (s.commitFlash r x).1.Kept cs := by
  unfold State.commitFlash
  split
  · exact h
  · exact h.setDv.onBoot

theorem State.Kept.flashCommand {v} (h : s.Kept cs) : (s.flashCommand v).1.Kept cs := by
  unfold State.flashCommand
  split
  · exact h
  · split
    · exact h.openFlash
    · split
      · exact h.commitFlash
      · exact h

theorem execFlashOpen_kept {m region offset} (h : s.Kept cs) : OutcomeKept cs (execFlashOpen m region offset s) :=
  h.masterWrite (fun hv => hv.openFlash)

theorem execFlashData_kept {m bytes} (h : s.Kept cs) : OutcomeKept cs (execFlashData m bytes s) :=
  h.masterWrite (fun hv => hv.programFlash)

theorem execFlashCommit_kept {m scan} (h : s.Kept cs) : OutcomeKept cs (execFlashCommit m scan s) :=
  h.masterWrite (fun hv => hv.commitFlash)

theorem State.Kept.readRails {mv} (h : s.Kept cs) : (s.readRails mv).Kept cs := by
  unfold State.readRails
  split
  · split
    · exact (h.foldl (fun hu => hu.setDv.onBoot)).fullReset
    · split
      · exact (h.foldl (fun hu => hu.setDv.onBoot)).recordOf
      · exact h.foldl (fun hu => hu.setDv.onBoot)
  · exact h.foldl (fun hu => hu.setDv.onBoot)

theorem execRailMonitor_kept {milliVolt t} (h : s.Kept cs) : OutcomeKept cs (execRailMonitor milliVolt t s) :=
  h.tick.readRails

theorem execBoardRailFault_kept {rail t} (h : s.Kept cs) : OutcomeKept cs (execBoardRailFault rail t s) :=
  .ite h.tick.setDv.coreReset h.tick

/-! ### Writes -/

theorem State.Kept.holdKeyWrite {m v} (h : s.Kept cs) : (s.holdKeyWrite m v).1.Kept cs := by
  unfold State.holdKeyWrite
  dsimp only
  split
  · split
    · exact h
    · exact h
  · split
    · exact h
    · exact h

theorem execHoldTake_kept {m areas} (h : s.Kept cs) : OutcomeKept cs (execHoldTake m areas s) :=
  h.masterWrite (fun hv => hv.holdKeyWrite)

theorem execHoldRelease_kept {m areas} (h : s.Kept cs) : OutcomeKept cs (execHoldRelease m areas s) :=
  h.masterWrite (fun hv => hv.holdKeyWrite)

theorem State.Kept.expireHold (h : s.Kept cs) : (s.expireHold).Kept cs := .ite (.recordOf h) h
theorem execHoldExpiry_kept {t} (h : s.Kept cs) : OutcomeKept cs (execHoldExpiry t s) := h.tick.expireHold

theorem State.Kept.clearHealth {v} (h : s.Kept cs) : (s.clearHealth v).1.Kept cs := by
  unfold State.clearHealth
  split
  · exact h
  · exact h.setDv.foldl (fun hu => hu.latch)

theorem execClearHealthEvents_kept {m bits} (h : s.Kept cs) : OutcomeKept cs (execClearHealthEvents m bits s) :=
  h.masterWrite (fun hv => hv.clearHealth)

theorem State.Kept.ringWrite {key v} (h : s.Kept cs) : (s.ringWrite key v).1.Kept cs := by
  unfold State.ringWrite
  split
  · exact h
  · split
    · exact h
    · exact h.setDv

theorem execHostEventRingConfig_kept {m base size} (h : s.Kept cs) :
    OutcomeKept cs (execHostEventRingConfig m base size s) := by
  unfold execHostEventRingConfig
  dsimp only
  split
  · refine .masterWrite ?_ (fun hv => hv.ringWrite)
    split
    · exact h.masterWrite (fun hv => hv.ringWrite)
    · exact h
  · split
    · exact h.masterWrite (fun hv => hv.ringWrite)
    · exact h

theorem State.Kept.twinWrite {v} (h : s.Kept cs) : (s.twinWrite v).1.Kept cs := by
  unfold State.twinWrite
  split
  · exact .ite h.pairNow h
  · split
    · exact .ite h.detachNow h
    · split
      · exact .ite h.releaseNegative h
      · exact h

theorem State.Kept.pairSetting {key v} (h : s.Kept cs) : (s.pairSetting key v).1.Kept cs := by
  unfold State.pairSetting
  refine .iteFst h ?_
  exact .iteFst h h.setDv

theorem State.Kept.pendWrite {key v} (h : s.Kept cs) : (s.pendWrite key v).1.Kept cs := h
theorem State.Kept.plcaWrite {v} (h : s.Kept cs) : (s.plcaWrite v).1.Kept cs := h.setDv.setDv

theorem State.Kept.windowWrite {key v} (h : s.Kept cs) : (s.windowWrite key v).1.Kept cs := by
  unfold State.windowWrite
  split
  · exact h
  · exact h.setDv

theorem State.Kept.applyWrite {m key v} (h : s.Kept cs) : (s.applyWrite m key v).1.Kept cs := by
  unfold State.applyWrite
  refine .iteFst h ?_
  refine .iteFst h.nonceWrite ?_
  refine .iteFst h.flashCommand ?_
  refine .iteFst h.programFlash ?_
  refine .iteFst h.clearHealth ?_
  refine .iteFst h.resetWrite ?_
  refine .iteFst h.capWriteNow ?_
  refine .iteFst h.setDv.setRail ?_
  refine .iteFst h.clearVolt ?_
  refine .iteFst h.coolantCommand ?_
  refine .iteFst h.timeSourceWrite ?_
  refine .iteFst h.pendWrite ?_
  refine .iteFst h.nodeWrite ?_
  refine .iteFst h.windowWrite ?_
  refine .iteFst h.agentWrite ?_
  refine .iteFst h.routeWrite ?_
  refine .iteFst h.retrainWrite ?_
  refine .iteFst h.traekCommand ?_
  refine .iteFst h.pairSetting ?_
  refine .iteFst h.twinWrite ?_
  refine .iteFst h.testCommand ?_
  refine .iteFst h.plcaWrite ?_
  refine .iteFst h.holdKeyWrite ?_
  exact .iteFst h.ringWrite h.setDv

theorem State.Kept.writeItem {m key value} (h : s.Kept cs) : (s.writeItem m key value).1.Kept cs :=
  h.masterWrite (fun hv => hv.applyWrite)

/-! ### Dictionary -/

theorem State.Kept.writeItems {m withTag a} (h : s.Kept cs) : (State.writeItems m withTag s a).1.Kept cs := by
  induction a generalizing s with
  | nil => exact h
  | cons i is ih => exact ih h.writeItem

theorem State.Kept.writeAll {m withTag is} (h : s.Kept cs) : (s.writeAll m withTag is).1.Kept cs := by
  unfold State.writeAll
  dsimp only
  split
  · exact h.writeItems
  · exact h

theorem State.Kept.subscribeItem {m sig i} (h : s.Kept cs) : (s.subscribeItem m sig i).1.Kept cs := by
  unfold State.subscribeItem
  dsimp only
  split
  · exact h
  · exact h

theorem State.Kept.unsubscribeItem {m i} (h : s.Kept cs) : (s.unsubscribeItem m i).1.Kept cs := h

theorem State.Kept.eachItem {f a} (hf : ∀ {v a}, v.Kept cs → (f v a).1.Kept cs) (h : s.Kept cs) :
    (State.eachItem f s a).1.Kept cs := by
  induction a generalizing s with
  | nil => exact h
  | cons i is ih => exact ih (hf h)

theorem State.Kept.runOp {m f op} (h : s.Kept cs) : (s.runOp m f op).1.Kept cs := by
  unfold State.runOp
  dsimp only
  split
  · split
    · exact h
    · exact h
  · split
    · split
      · exact h
      · split
        · exact h.writeAll
        · exact h.writeItems
    · split
      · exact h
      · split
        · exact .eachItem (fun hv => hv.subscribeItem) h
        · split
          · exact .eachItem (fun hv => hv.unsubscribeItem) h
          · exact h

theorem State.Kept.answerFrame {m f op} (h : s.Kept cs) : (s.answerFrame m f op).1.Kept cs := by
  unfold State.answerFrame
  dsimp only
  split
  · exact h
  · split
    · exact h
    · split
      · exact h.runOp
      · exact h

theorem State.Kept.serveFrame {m f op} (h : s.Kept cs) : (s.serveFrame m f op).1.Kept cs := by
  unfold State.serveFrame
  split
  · exact h.bump
  · exact h.answerFrame.copy

theorem State.Kept.dropSigned {mac why} (h : s.Kept cs) : (s.dropSigned mac why).Kept cs := h.bump.recordOf

theorem State.Kept.portFrame {mac f op} (h : s.Kept cs) : (s.portFrame mac f op).Kept cs := by
  unfold State.portFrame
  dsimp only
  split
  · exact h
  · split
    · exact h.bump.bump
    · split
      · exact h.bump.dropSigned
      · exact h.bump.renewHold.serveFrame.foldl (fun hu => hu.send.bump)

theorem State.Kept.frame {m f op} (h : s.Kept cs) : (s.frame m f op).Kept cs := by
  unfold State.frame
  split
  · exact h.portFrame
  · exact h.serveFrame.foldl (fun hu => hu.send.bump)

theorem execRead_kept {m f} (h : s.Kept cs) : OutcomeKept cs (execRead m f s) := h.frame
theorem execWrite_kept {m f} (h : s.Kept cs) : OutcomeKept cs (execWrite m f s) := h.frame
theorem execBlockRead_kept {m f} (h : s.Kept cs) : OutcomeKept cs (execBlockRead m f s) := h.frame
theorem execSubscribe_kept {m f} (h : s.Kept cs) : OutcomeKept cs (execSubscribe m f s) := h.frame
theorem execUnsubscribe_kept {m f} (h : s.Kept cs) : OutcomeKept cs (execUnsubscribe m f s) := h.frame

theorem State.Kept.hostDict {p f op} (h : s.Kept cs) : (s.hostDict p f op).Kept cs := by
  unfold State.hostDict
  split
  · exact h.nakFault
  · exact .ite (h.serveFrame.foldl (fun hu => hu.respond.bump)) h.nakFault

theorem execDict_kept {p f kind} (h : s.Kept cs) : OutcomeKept cs (execDict p f kind s) := by
  unfold execDict
  refine .arrive h (fun hv => ?_)
  split
  · exact hv.hostDict
  · exact hv.refusePacket

theorem State.Kept.hostEvent {key v} (h : s.Kept cs) : (s.hostEvent key v).Kept cs := h.storeGlobal.copy.setDv
theorem State.Kept.portEvent {mac sig key v} (h : s.Kept cs) : (s.portEvent mac sig key v).Kept cs := .send h
theorem State.Kept.setSub {x y} (h : s.Kept cs) : (s.setSub x y).Kept cs := h

theorem State.Kept.offerEvent {x} (h : s.Kept cs) : (s.offerEvent x).Kept cs := by
  unfold State.offerEvent
  dsimp only
  split
  · exact h
  · split
    · exact h.setSub
    · split
      · exact .ite h h.setSub.portEvent
      · exact .ite h.setSub (.ite h.setSub.bump h.setSub.hostEvent)

theorem execSubscriptionEvent_kept {m key t} (h : s.Kept cs) : OutcomeKept cs (execSubscriptionEvent m key t s) := by
  unfold execSubscriptionEvent
  dsimp only
  split
  · exact h.tick.offerEvent
  · exact h.tick

/-! ### Leads -/

theorem State.Kept.onHalf {a f} (h : s.Kept cs) : (s.onHalf a f).Kept cs := h
theorem State.Kept.setFollower {x} (h : s.Kept cs) : (s.setFollower x).Kept cs := h
theorem State.Kept.linkBack (h : s.Kept cs) : (s.linkBack).Kept cs := .ite h (.deliverEast h)

theorem State.Kept.heartbeatFrom {a} (h : s.Kept cs) : (s.heartbeatFrom a).Kept cs :=
  .linkBack (.ite h.onHalf.onHalf h.onHalf.onHalf.copy)

theorem execSafelightHeartbeat_kept {half t} (h : s.Kept cs) : OutcomeKept cs (execSafelightHeartbeat half t s) :=
  .ite h.tick.heartbeatFrom h.tick

theorem State.Kept.missHeartbeats {a} (h : s.Kept cs) : (s.missHeartbeats a).Kept cs :=
  .ite (.copy (.setFollower h)) (.bump (.setFollower (.onHalf h)))

theorem execLeadershipClaim_kept {half t} (h : s.Kept cs) : OutcomeKept cs (execLeadershipClaim half t s) :=
  .ite h.tick.missHeartbeats h.tick

theorem State.Kept.replayWrite {own w} (h : s.Kept cs) : (s.replayWrite own w).1.Kept cs := by
  unfold State.replayWrite
  dsimp only
  split
  · exact h
  · split
    · exact h
    · exact .ite h.applyWrite.copy h.applyWrite

theorem State.Kept.replayAll {own ws} (h : s.Kept cs) : (s.replayAll own ws).1.Kept cs :=
  h.foldlFst (fun hu => hu.replayWrite)

theorem State.Kept.resolveLeads (h : s.Kept cs) : (s.resolveLeads).Kept cs :=
  h.onHalf.replayAll.bump.bump.recordOf.onHalf.onHalf.setFollower

theorem execLeadershipConflict_kept {t} (h : s.Kept cs) : OutcomeKept cs (execLeadershipConflict t s) :=
  .ite h.tick.resolveLeads h.tick

theorem execFollowerStale_kept {t} (h : s.Kept cs) : OutcomeKept cs (execFollowerStale t s) := by
  unfold execFollowerStale
  dsimp only
  split
  · exact .ite h.tick.copy.setFollower h.tick
  · exact h.tick

theorem execFollowerResync_kept {t} (h : s.Kept cs) : OutcomeKept cs (execFollowerResync t s) :=
  .ite h.tick.onHalf.onHalf.setFollower h.tick

theorem execPlcaFallback_kept {periodNs t} (h : s.Kept cs) : OutcomeKept cs (execPlcaFallback periodNs t s) :=
  .ite h.tick.setDv h.tick

theorem execBeacon_kept {t} (h : s.Kept cs) : OutcomeKept cs (execBeacon t s) := h.tick.copy.setDv

/-! ### MemoryRows -/

theorem State.Kept.resumeCols (h : s.Kept cs) : (s.resumeCols).Kept cs := .ite h h.retryCols.goOnCol
theorem execChannelAdmit_kept {ch t} (h : s.Kept cs) : OutcomeKept cs (execChannelAdmit ch t s) := h.tick.admitOne

theorem State.Kept.issueAt {ch q starved reads} (h : s.Kept cs) : (s.issueAt ch q starved reads).Kept cs :=
  .ite h (.resumeCols (.runTransfers (.issueReq (.ite h.bump h))))

theorem execChannelRequest_kept {ch pick reads t} (h : s.Kept cs) :
    OutcomeKept cs (execChannelRequest ch pick reads t s) := by
  unfold execChannelRequest
  dsimp only
  split
  · exact h.tick.issueAt
  · split
    · exact h.tick.issueAt
    · exact h.tick.issueAt
    · exact h.tick

theorem execStarvationCeiling_kept {ch reads t} (h : s.Kept cs) :
    OutcomeKept cs (execStarvationCeiling ch reads t s) := by
  unfold execStarvationCeiling
  dsimp only
  split
  · exact h.tick.issueAt
  · exact h.tick

theorem execWcAdmit_kept {ch t} (h : s.Kept cs) : OutcomeKept cs (execWcAdmit ch t s) :=
  h.tick.admitPartial.retryLines.goOn

theorem execAdderAdmit_kept {ch t} (h : s.Kept cs) : OutcomeKept cs (execAdderAdmit ch t s) :=
  h.tick.admitAdd.retryLines.goOn

theorem execPatrolScrub_kept {ch r t} (h : s.Kept cs) : OutcomeKept cs (execPatrolScrub ch r t s) :=
  .ite h.tick.setChannel.wakeChannel.decodeLine h.tick

theorem execCriticalSelfRefresh_kept {p t} (h : s.Kept cs) : OutcomeKept cs (execCriticalSelfRefresh p t s) := by
  unfold execCriticalSelfRefresh
  dsimp only
  split
  · exact .ite h.tick.enterCritical.resumeCols h.tick
  · exact h.tick

theorem execAdderWriteBack_kept {ch t} (h : s.Kept cs) : OutcomeKept cs (execAdderWriteBack ch t s) :=
  h.tick.writeBackEntries.runTransfers.resumeCols

theorem execStagingFrameGrant_kept {t} (h : s.Kept cs) : OutcomeKept cs (execStagingFrameGrant t s) :=
  h.tick.grantStaging.runTransfers.runEngines.settled.resumeCols

theorem execDeratingExit_kept {p t} (h : s.Kept cs) : OutcomeKept cs (execDeratingExit p t s) :=
  .ite h.tick.exitDerate.resumeCols h.tick

/-! ### Startup -/

theorem State.Kept.enterBoot {st} (h : s.Kept cs) : (s.enterBoot st).Kept cs := h.onBoot

theorem State.Kept.inBoot {st f} (h : s.Kept cs) (h1 : ∀ {v}, v.Kept cs → (f v).Kept cs) : (s.inBoot st f).Kept cs :=
  .ite (h1 h) h

theorem State.Kept.romDone {westPasses} (h : s.Kept cs) : (s.romDone westPasses).Kept cs := .enterBoot h

theorem execRom_kept {westPasses t} (h : s.Kept cs) : OutcomeKept cs (execRom westPasses t s) :=
  h.tick.inBoot (fun hv => hv.romDone)

theorem State.Kept.flashFail (h : s.Kept cs) : (s.flashFail).Kept cs := h.setDv.enterBoot

theorem State.Kept.flashDone {f} (h : s.Kept cs) : (s.flashDone f).Kept cs :=
  .ite h.setDv.onBoot.flashFail h.setDv.onBoot.onBoot.setDv.setDv.enterBoot

theorem execFlash_kept {f t} (h : s.Kept cs) : OutcomeKept cs (execFlash f t s) :=
  h.tick.inBoot (fun hv => hv.flashDone)

theorem State.Kept.coreFail (h : s.Kept cs) : (s.coreFail).Kept cs := h.onPower.send.halt.enterBoot

theorem State.Kept.pmbusIdentity {a} (h : s.Kept cs) : (s.pmbusIdentity a).Kept cs := by
  unfold State.pmbusIdentity
  split
  · exact h.setDv
  · exact h.supplyRecord

theorem State.Kept.stage1 {avsReply identity feed} (h : s.Kept cs) : (s.stage1 avsReply identity feed).Kept cs :=
  .ite h.pmbusIdentity.pmbusFeed.setRail.enterBoot (.ite h.coreFail h)

theorem execStage1_kept {avsReply identity feed t} (h : s.Kept cs) :
    OutcomeKept cs (execStage1 avsReply identity feed t s) :=
  h.tick.inBoot (fun hv => hv.stage1)

theorem State.Kept.powerUp (h : s.Kept cs) : (s.powerUp).Kept cs :=
  (h.setDv.setDv.foldl (fun hu => hu.setRegion)).enterBoot

theorem execCoreRamp_kept {reached t} (h : s.Kept cs) : OutcomeKept cs (execCoreRamp reached t s) :=
  h.tick.inBoot (fun hv => .ite hv.powerUp hv.coreFail)

theorem State.Kept.mapCluster {runs c} (h : s.Kept cs) : (s.mapCluster runs c).Kept cs :=
  .ite h (.ite h.onCluster h.onCluster.onRegion)

theorem State.Kept.bootRun {p r} (h : s.Kept cs) : (s.bootRun p r).Kept cs := by
  unfold State.bootRun
  dsimp only
  split
  · refine .testFail ?_
    split
    · exact h.kernels
    · exact h.kernelRecords
  · split
    · exact h.kernels
    · exact h.kernelRecords

theorem State.Kept.zeroOnDie (h : s.Kept cs) : (s.zeroOnDie).Kept cs := h.clearRange.copy

theorem State.Kept.bootTest {runs regions calibration} (h : s.Kept cs) :
    (s.bootTest runs regions calibration).Kept cs := by
  unfold State.bootTest
  refine .enterBoot ?_
  split
  · refine .foldl ?_ (fun hu => hu.setDv)
    refine .setDv ?_
    refine .foldl ((h.zeroOnDie.foldl (fun hu => hu.mapCluster)).foldl (fun hu => hu.bootRun)) (fun hu => ?_)
    split
    · exact hu.testFail
    · exact hu
  · refine .halt ?_
    refine .foldl ?_ (fun hu => hu.setDv)
    refine .setDv ?_
    refine .foldl ((h.zeroOnDie.foldl (fun hu => hu.mapCluster)).foldl (fun hu => hu.bootRun)) (fun hu => ?_)
    split
    · exact hu.testFail
    · exact hu

theorem execTest_kept {runs regions calibration t} (h : s.Kept cs) :
    OutcomeKept cs (execTest runs regions calibration t s) :=
  h.tick.inBoot (fun hv => hv.bootTest)

theorem State.Kept.trainChannel {c rate} (h : s.Kept cs) : (s.trainChannel c rate).Kept cs :=
  .ite h.setDv.onChannel.takeOffline h.setDv

theorem State.Kept.trainMemory {rates} (h : s.Kept cs) : (s.trainMemory rates).Kept cs :=
  ((h.foldl (fun hu => hu.trainChannel)).copy).enterBoot

theorem execMemory_kept {rates t} (h : s.Kept cs) : OutcomeKept cs (execMemory rates t s) :=
  h.tick.inBoot (fun hv => hv.trainMemory)

theorem State.Kept.configItem {i} (h : s.Kept cs) : (s.configItem i).Kept cs := by
  unfold State.configItem
  dsimp only
  split
  · exact h.setDv
  · split
    · exact h.setDv
    · split
      · exact h.setDv
      · exact .ite (.copy (.ite h.setDv h.applyWrite)) (.ite h.setDv h.applyWrite)

theorem State.Kept.standardMap {b} (h : s.Kept cs) : (s.standardMap b).Kept cs := h.foldl (fun hu => hu.setDv)
theorem State.Kept.defaultWindows {config} (h : s.Kept cs) : (s.defaultWindows config).Kept cs := .ite h h.standardMap

theorem State.Kept.protect {config} (h : s.Kept cs) : (s.protect config).Kept cs :=
  (((h.foldl (fun hu => hu.configItem)).defaultWindows).setDv).enterBoot

theorem execProtect_kept {config t} (h : s.Kept cs) : OutcomeKept cs (execProtect config t s) :=
  h.tick.inBoot (fun hv => hv.protect)

theorem State.Kept.releaseLinks (h : s.Kept cs) : (s.releaseLinks).Kept cs :=
  (h.foldl (fun hu => .ite hu hu.onPort)).copy

theorem State.Kept.links (h : s.Kept cs) : (s.links).Kept cs := by
  unfold State.links
  exact .ite (.ite h h.releaseLinks) (.enterBoot (.ite h h.releaseLinks))

theorem execLinks_kept {t} (h : s.Kept cs) : OutcomeKept cs (execLinks t s) := h.tick.inBoot (fun hv => hv.links)

/-! ### Dispatch and Step -/

/-- Every command leaves the waiting commands, canonical memory and a log within its ring. -/
theorem exec_kept (h : s.Kept cs) (c : Instr) : OutcomeKept cs (exec c s) := by
  cases c with
  | endCmd => exact execEndCmd_kept h
  | fence => exact execFence_kept h
  | waitCounter => exact execWaitCounter_kept h
  | waitCounterTimeout => exact execWaitCounterTimeout_kept h
  | signalCounter => exact execSignalCounter_kept h
  | branchIfSummary => exact execBranchIfSummary_kept h
  | loop => exact execLoop_kept h
  | call => exact execCall_kept h
  | tensorCreate => exact execTensorCreate_kept h
  | tensorFree => exact execTensorFree_kept h
  | tensorAttr => exact execTensorAttr_kept h
  | matmul => exact execMatmul_kept h
  | vector => exact execVector_kept h
  | update => exact execUpdate_kept h
  | updateVerdictAction => exact execUpdateVerdictAction_kept h
  | copy => exact execCopy_kept h
  | add => exact execAdd_kept h
  | fill => exact execFill_kept h
  | transferReadback => exact execTransferReadback_kept h
  | transferRemoteSignal => exact execTransferRemoteSignal_kept h
  | reduce => exact execReduce_kept h
  | allReduce => exact execAllReduce_kept h
  | reduceScatter => exact execReduceScatter_kept h
  | allGather => exact execAllGather_kept h
  | broadcast => exact execBroadcast_kept h
  | stopBath => exact execStopBath_kept h
  | release => exact execRelease_kept h
  | sheet => exact execSheet_kept h
  | sheetAbort => exact execSheetAbort_kept h
  | restore => exact execRestore_kept h
  | commandComplete => exact execCommandComplete_kept h
  | watchLineStore => exact execWatchLineStore_kept h
  | queueEnable => exact execQueueEnable_kept h
  | queueDisable => exact execQueueDisable_kept h
  | listStart => exact execListStart_kept h
  | queueRehome => exact execQueueRehome_kept h
  | tileDispatch => exact execTileDispatch_kept h
  | dispatchAgeCeiling => exact execDispatchAgeCeiling_kept h
  | pagerFetchArrival => exact execPagerFetchArrival_kept h
  | tileFinish => exact execTileFinish_kept h
  | finishedTileAdmit => exact execFinishedTileAdmit_kept h
  | epilogue => exact execEpilogue_kept h
  | transactionGrant => exact execTransactionGrant_kept h
  | scratchPageGrant => exact execScratchPageGrant_kept h
  | transferChannelGrant => exact execTransferChannelGrant_kept h
  | apertureRelease => exact execApertureRelease_kept h
  | scrub => exact execScrub_kept h
  | channelAdmit => exact execChannelAdmit_kept h
  | channelRequest => exact execChannelRequest_kept h
  | starvationCeiling => exact execStarvationCeiling_kept h
  | adderOperation => exact execAdderOperation_kept h
  | adderAdmit => exact execAdderAdmit_kept h
  | adderWriteBack => exact execAdderWriteBack_kept h
  | stagingFrameGrant => exact execStagingFrameGrant_kept h
  | wcPartialStore => exact execWcPartialStore_kept h
  | wcAdmit => exact execWcAdmit_kept h
  | wcRetireTimeout => exact execWcRetireTimeout_kept h
  | patrolScrub => exact execPatrolScrub_kept h
  | refresh => exact execRefresh_kept h
  | channelPowerDown => exact execChannelPowerDown_kept h
  | temperatureReadout => exact execTemperatureReadout_kept h
  | deratingExit => exact execDeratingExit_kept h
  | criticalSelfRefresh => exact execCriticalSelfRefresh_kept h
  | epochClose => exact execEpochClose_kept h
  | stepBoundary => exact execStepBoundary_kept h
  | teeMarkApply => exact execTeeMarkApply_kept h
  | flitReceive => exact execFlitReceive_kept h
  | laneRemoval => exact execLaneRemoval_kept h
  | laserInputLow => exact execLaserInputLow_kept h
  | portRetrainDone => exact execPortRetrainDone_kept h
  | portTraining => exact execPortTraining_kept h
  | portRetrain => exact execPortRetrain_kept h
  | load => exact execLoad_kept h
  | store => exact execStore_kept h
  | atomic => exact execAtomic_kept h
  | addPacket => exact execAddPacket_kept h
  | get => exact execGet_kept h
  | rdShared => exact execRdShared_kept h
  | rdOwn => exact execRdOwn_kept h
  | writeback => exact execWriteback_kept h
  | evict => exact execEvict_kept h
  | snpShare => exact execSnpShare_kept h
  | snpInval => exact execSnpInval_kept h
  | snpRsp => exact execSnpRsp_kept h
  | snoopTimeout => exact execSnoopTimeout_kept h
  | contrib => exact execContrib_kept h
  | gather => exact execGather_kept h
  | close => exact execClose_kept h
  | shardClose => exact execShardClose_kept h
  | collectiveTimeout => exact execCollectiveTimeout_kept h
  | probe => exact execProbe_kept h
  | probeRsp => exact execProbeRsp_kept h
  | resync => exact execResync_kept h
  | hintSlowContributor => exact execHintSlowContributor_kept h
  | hintHold => exact execHintHold_kept h
  | hintHoldRelease => exact execHintHoldRelease_kept h
  | holdLimitExpiry => exact execHoldLimitExpiry_kept h
  | heartbeat => exact execHeartbeat_kept h
  | data => exact execData_kept h
  | ack => exact execAck_kept h
  | nak => exact execNak_kept h
  | colAck => exact execColAck_kept h
  | gatewayAdmit => exact execGatewayAdmit_kept h
  | gatewayFlush => exact execGatewayFlush_kept h
  | nodeIdWrite => exact execNodeIdWrite_kept h
  | counterUpdate => exact execCounterUpdate_kept h
  | traekFlitReceive => exact execTraekFlitReceive_kept h
  | traekTraining => exact execTraekTraining_kept h
  | traekLaneRetrain lane rate => exact execTraekLaneRetrain_kept (a := rate) h
  | traekLinkDown => exact execTraekLinkDown_kept h
  | traekCommandRetrain => exact execTraekCommandRetrain_kept h
  | traekCommandDown => exact execTraekCommandDown_kept h
  | dict => exact execDict_kept h
  | pair => exact execPair_kept h
  | detachCommand => exact execDetachCommand_kept h
  | detachAct => exact execDetachAct_kept h
  | releaseFrozenNegative => exact execReleaseFrozenNegative_kept h
  | offer => exact execOffer_kept h
  | evidence => exact execEvidence_kept h
  | accept => exact execAccept_kept h
  | refuse => exact execRefuse_kept h
  | detach => exact execDetach_kept h
  | pairingRelease => exact execPairingRelease_kept h
  | pairingTimeout => exact execPairingTimeout_kept h
  | detachTimeout => exact execDetachTimeout_kept h
  | heartbeatSend => exact execHeartbeatSend_kept h
  | twinLost => exact execTwinLost_kept h
  | bathStageEnd => exact execBathStageEnd_kept h
  | bathTimeout => exact execBathTimeout_kept h
  | segmentCopied => exact execSegmentCopied_kept h
  | sheetComplete => exact execSheetComplete_kept h
  | timeAlignExchange => exact execTimeAlignExchange_kept h
  | regionGate => exact execRegionGate_kept h
  | regionPllOff => exact execRegionPllOff_kept h
  | regionWake => exact execRegionWake_kept h
  | slopeGrant => exact execSlopeGrant_kept h
  | pointChange => exact execPointChange_kept h
  | shutterStop => exact execShutterStop_kept h
  | monitorSample => exact execMonitorSample_kept h
  | droopDetect => exact execDroopDetect_kept h
  | stretchEnd => exact execStretchEnd_kept h
  | freqChangeAbandon => exact execFreqChangeAbandon_kept h
  | freqChangeRetry => exact execFreqChangeRetry_kept h
  | avsbusRead => exact execAvsbusRead_kept h
  | avsbusRetry => exact execAvsbusRetry_kept h
  | supplyLimitStep => exact execSupplyLimitStep_kept h
  | pmbusRead => exact execPmbusRead_kept h
  | guardBandEnd => exact execGuardBandEnd_kept h
  | sliceFailure => exact execSliceFailure_kept h
  | clearMinimumVoltage => exact execClearMinimumVoltage_kept h
  | capWrite => exact execCapWrite_kept h
  | powerLoopTick => exact execPowerLoopTick_kept h
  | intervalSlot => exact execIntervalSlot_kept h
  | hotSpotSample => exact execHotSpotSample_kept h
  | thermalLimitStep => exact execThermalLimitStep_kept h
  | reEnumerate => exact execReEnumerate_kept h
  | trayRead => exact execTrayRead_kept h
  | resume => exact execResume_kept h
  | flowRequestWrite => exact execFlowRequestWrite_kept h
  | flowTrendUpdate => exact execFlowTrendUpdate_kept h
  | read => exact execRead_kept h
  | write => exact execWrite_kept h
  | blockRead => exact execBlockRead_kept h
  | subscribe => exact execSubscribe_kept h
  | unsubscribe => exact execUnsubscribe_kept h
  | subscriptionEvent => exact execSubscriptionEvent_kept h
  | hostEventRingConfig => exact execHostEventRingConfig_kept h
  | holdTake => exact execHoldTake_kept h
  | holdRelease => exact execHoldRelease_kept h
  | holdExpiry => exact execHoldExpiry_kept h
  | clearHealthEvents => exact execClearHealthEvents_kept h
  | safelightHeartbeat => exact execSafelightHeartbeat_kept h
  | leadershipClaim => exact execLeadershipClaim_kept h
  | leadershipConflict => exact execLeadershipConflict_kept h
  | followerStale => exact execFollowerStale_kept h
  | followerResync => exact execFollowerResync_kept h
  | plcaFallback => exact execPlcaFallback_kept h
  | beacon => exact execBeacon_kept h
  | coalescingWindowEnd => exact execCoalescingWindowEnd_kept h
  | rotationPattern => exact execRotationPattern_kept h
  | recoveryTest => exact execRecoveryTest_kept h
  | quarantine => exact execQuarantine_kept h
  | runRecoveryTest => exact execRunRecoveryTest_kept h
  | takePackageOutOfService => exact execTakePackageOutOfService_kept h
  | runRotationPattern => exact execRunRotationPattern_kept h
  | runRegionTest => exact execRunRegionTest_kept h
  | bypass => exact execBypass_kept h
  | idcode => exact execIdcode_kept h
  | samplePreload => exact execSamplePreload_kept h
  | extest => exact execExtest_kept h
  | runbist => exact execRunbist_kept h
  | rom => exact execRom_kept h
  | flash => exact execFlash_kept h
  | stage1 => exact execStage1_kept h
  | coreRamp => exact execCoreRamp_kept h
  | test => exact execTest_kept h
  | memory => exact execMemory_kept h
  | protect => exact execProtect_kept h
  | links => exact execLinks_kept h
  | attestationNonce => exact execAttestationNonce_kept h
  | evidenceReady => exact execEvidenceReady_kept h
  | flashOpen => exact execFlashOpen_kept h
  | flashData => exact execFlashData_kept h
  | flashCommit => exact execFlashCommit_kept h
  | fullReset => exact execFullReset_kept h
  | coreReset => exact execCoreReset_kept h
  | railMonitor => exact execRailMonitor_kept h
  | boardRailFault => exact execBoardRailFault_kept h
  | traekRetrainDone => exact execTraekRetrainDone_kept h
  | detachReleaseAnswer => exact execDetachReleaseAnswer_kept h

end

/-- What a step leaves is sound: the command taken finds a sound state, an empty queue lets a cycle pass. -/
theorem sound_of_step {s t : State} (h : s.Sound) (ran : step s = .next t) : t.Sound := by
  unfold step at ran
  split at ran
  · cases ran
    exact (State.Kept.idle ⟨rfl, h⟩).2
  next c rest _ =>
    have kept := exec_kept (s := { s with pending := rest }) (cs := rest) ⟨rfl, h⟩ c
    rw [ran] at kept
    exact kept.2

/-- Settles O4: every command keeps `State.Kept`, by one lemma per operation of the state. -/
theorem everyStepKeepsSound : Obligations.EveryStepKeepsSound := by
  unfold Obligations.EveryStepKeepsSound
  exact fun _ _ => sound_of_step

/-- Settles O3: the reset state's memory and log are empty. -/
theorem resetStateIsSound : Obligations.ResetStateIsSound := by
  unfold Obligations.ResetStateIsSound
  exact ⟨by decide, by decide⟩

end Sys2Proof.Machine

/-! Scope of the block: what the rows of the memory system share (chapter 08): frames of its updates. -/

namespace Sys2Proof.Machine

theorem onlyChanges_onChannel (s : State) (c : Nat) (f : Channel → Channel) : OnlyChanges [.channels] s (s.onChannel c f) :=
  onlyChanges_setChannel s c _

theorem onlyChanges_bump (s : State) (key n : Nat) : OnlyChanges [.dict] s (s.bump key n) := onlyChanges_setDv s key _

theorem onlyChanges_setPackage (s : State) (p : Nat) (k : Package) : OnlyChanges [.packages] s (s.setPackage p k) := by
  intro f outside
  cases f <;> first | rfl | exact absurd (List.mem_singleton.2 rfl) outside

theorem OnlyChanges.foldl {α : Type} {fs : List Field} {f : State → α → State} (each : ∀ u a, OnlyChanges fs u (f u a)) (s : State)
    (xs : List α) : OnlyChanges fs s (xs.foldl f s) :=
  foldl_keeps (OnlyChanges fs) (OnlyChanges.refl fs) (fun _ _ _ => OnlyChanges.trans) f xs (fun u a _ => each u a) s

theorem OnlyChanges.package {fs : List Field} {s u : State} (h : OnlyChanges fs s u) (outside : Field.packages ∉ fs) (p : Nat) :
    u.package p = s.package p :=
  congrArg (fun ps => look ({} : Package) ps p) (h .packages outside)

theorem OnlyChanges.channel {fs : List Field} {s u : State} (h : OnlyChanges fs s u) (outside : Field.channels ∉ fs) (c : Nat) :
    u.channel c = s.channel c :=
  congrArg (fun cs => look ({} : Channel) cs c) (h .channels outside)

theorem OnlyChanges.dv {fs : List Field} {s u : State} (h : OnlyChanges fs s u) (outside : Field.dict ∉ fs) (key : Nat) :
    u.dv key = s.dv key :=
  congrArg (fun d => (look none d key).getD (entryDefault key)) (h .dict outside)

theorem State.channel_onChannel_ne (s : State) {c j : Nat} (f : Channel → Channel) (h : j ≠ c) :
    (s.onChannel c f).channel j = s.channel j := by
  rw [State.channel_onChannel, if_neg h]

end Sys2Proof.Machine

/-! Scope of the block: refresh, power-down and patrol scrub of a channel (O28). -/

namespace Sys2Proof.Machine

section ChannelUpkeep

variable {s : State} {ch : Fin 128}

theorem exec_refresh_serves (h : s.chanServes ch = true) : exec (.refresh ch) s = .next (s.onChannel ch fun c =>
    if 85 < (s.package (ch / 4)).celsius ∨ (s.package (ch / 4)).derate ≠ 0 then { c with fastRefreshes := c.fastRefreshes + 1 }
    else { c with refreshes := c.refreshes + 1 }) :=
  congrArg Host.Outcome.next (if_pos h)

theorem exec_refresh_idle (h : s.chanServes ch = false) : exec (.refresh ch) s = .next s :=
  congrArg Host.Outcome.next (if_neg (Bool.not_eq_true _ ▸ h))

/-- CHANNEL_POWER_DOWN of a channel that serves and has nothing to do is decided by its last use. -/
theorem exec_channelPowerDown {t : Nat} (serves : (s.tick t).chanServes ch = true) (noneIn : ((s.tick t).channel ch).admitted = [])
    (noneWait : ((s.tick t).channel ch).ingress = []) : exec (.channelPowerDown ch t) s = .next
      (if ((s.tick t).channel ch).lastUse + 1000 ≤ (s.tick t).now then
        (s.tick t).onChannel ch fun c => { c with powerDown := true } else s.tick t) := by
  have rests : ∀ c : Bool, ((s.tick t).chanServes ch && ((s.tick t).channel ch).admitted.isEmpty &&
      ((s.tick t).channel ch).ingress.isEmpty && c) = c := by simp [serves, noneIn, noneWait]
  dsimp only [exec, execChannelPowerDown]
  simp only [rests, decide_eq_true_eq]
  rfl

/-- R212: the channel of a line that patrol scrub reads, after it went on by that line. -/
def State.patrolled (s : State) (ch : Nat) : State :=
  (s.onChannel ch fun c => { c with
    patrolNext := (c.patrolNext + 1) % 2 ^ 28,
    patrolSince := if c.patrolNext = 0 then some s.now else c.patrolSince }).wakeChannel ch

theorem onlyChanges_patrolled (s : State) (ch : Nat) : OnlyChanges [.channels] s (s.patrolled ch) :=
  (onlyChanges_onChannel s ch _).trans (onlyChanges_onChannel _ ch _)

theorem State.channel_patrolled_ne (s : State) {ch j : Nat} (h : j ≠ ch) : (s.patrolled ch).channel j = s.channel j :=
  (State.channel_onChannel_ne _ _ h).trans (State.channel_onChannel_ne s _ h)

theorem State.channel_patrolled (s : State) (ch : Nat) : (s.patrolled ch).channel ch = { s.channel ch with
    patrolNext := ((s.channel ch).patrolNext + 1) % 2 ^ 28, lastUse := s.now, powerDown := false,
    patrolSince := if (s.channel ch).patrolNext = 0 then some s.now else (s.channel ch).patrolSince } := by
  unfold State.patrolled State.wakeChannel
  rw [State.channel_onChannel_same, State.channel_onChannel_same]
  rfl

theorem exec_patrolScrub_may {t : Nat} {r : LineRead} (h : (s.tick t).mayScrub ch = true) : exec (.patrolScrub ch r t) s =
    .next (((s.tick t).patrolled ch).decodeLine (chanAddr ch (64 * (s.channel ch).patrolNext)) r) :=
  congrArg Host.Outcome.next (if_pos h)

theorem exec_patrolScrub_stays {t : Nat} {r : LineRead} (h : (s.tick t).mayScrub ch = false) :
    exec (.patrolScrub ch r t) s = .next (s.tick t) :=
  congrArg Host.Outcome.next (if_neg (Bool.not_eq_true _ ▸ h))

end ChannelUpkeep

/-- Settles O28: each row acts on its own channel, by whether the channel serves, rests or may be scrubbed. -/
theorem channelsAreKept : Obligations.ChannelsAreKept := by
  unfold Obligations.ChannelsAreKept
  intro ch t r s s1 now
  subst now
  refine ⟨fun serves => ?refresh, exec_refresh_idle, fun serves noneIn noneWait => ⟨fun rested => ?rest, fun used => ?used⟩,
    fun may => ?scrub, exec_patrolScrub_stays⟩
  case refresh =>
    refine ⟨_, exec_refresh_serves serves, onlyChanges_onChannel s ch _, fun j other => State.channel_onChannel_ne s _ other,
      fun fast => ?_, fun cool normal => ?_⟩
    · rw [State.channel_onChannel_same, if_pos fast]
    · rw [State.channel_onChannel_same, if_neg (not_or.2 ⟨not_lt.2 cool, not_not.2 normal⟩)]
  case rest =>
    refine ⟨_, by rw [exec_channelPowerDown serves noneIn noneWait, if_pos rested], onlyChanges_onChannel _ ch _,
      State.channel_onChannel_same _ _ _, fun j other => State.channel_onChannel_ne _ _ other⟩
  case used => rw [exec_channelPowerDown serves noneIn noneWait, if_neg (not_le.2 used)]
  case scrub =>
    refine ⟨_, exec_patrolScrub_may may, onlyChanges_patrolled _ ch, fun j other => State.channel_patrolled_ne _ other, ?_⟩
    rw [State.channel_patrolled]
    exact ⟨rfl, rfl, rfl, fun begins => if_pos begins⟩

end Sys2Proof.Machine

/-! Scope of the block: a package's readings and its derating (O29). -/

namespace Sys2Proof.Machine

section Derating

/-! ### A reading -/

/-- The package's record after a reading: the reading, and since when it lies below each state's threshold and at or above 105 °C. -/
def Package.read (k : Package) (celsius : Int) (now : Nat) : Package := { k with
  celsius := celsius, critSince := if 105 ≤ celsius then some (k.critSince.getD now) else none
  coolSince := [1, 2, 3].foldl (fun m l => put none m l
    (if celsius < exitBelow l then some ((look none k.coolSince l).getD now) else none)) k.coolSince }

theorem Package.look_coolSince_read (k : Package) (celsius : Int) (now : Nat) {l : Nat} (level : l ∈ [1, 2, 3]) :
    look none (k.read celsius now).coolSince l =
      if celsius < exitBelow l then some ((look none k.coolSince l).getD now) else none := by
  simp only [List.mem_cons, List.not_mem_nil, or_false] at level
  obtain rfl | rfl | rfl := level <;> simp [Package.read, look_put]

/-- A reading of a package as the dictionary and the package keep it. -/
def State.reading (s : State) (p : Nat) (celsius : Int) : State :=
  (s.setDv (0x400101 + p) (f32RatioInt celsius 1)).setPackage p ((s.package p).read celsius s.now)

theorem State.dv_reading (s : State) (p : Nat) (celsius : Int) :
    (s.reading p celsius).dv (0x400101 + p) = f32RatioInt celsius 1 :=
  ((onlyChanges_setPackage _ p _).dv (by simp) _).trans (State.dv_setDv_same _ _ _)

theorem exec_temperatureReadout {s : State} {p : Fin 32} (celsius : Int) (t : Nat) (inService : (s.package p).critical = false) :
    exec (.temperatureReadout p celsius t) s = .next (if (s.package p).derate < derateLevel celsius then
      ((s.tick t).reading p celsius).setDerate p (derateLevel celsius) else (s.tick t).reading p celsius) := by
  have serves : ((s.package p).critical && decide (celsius < 102) && !(s.package p).offline) = false := by simp [inService]
  dsimp only [exec, execTemperatureReadout]
  rw [show ((s.tick t).setDv (0x400101 + p) (f32RatioInt celsius 1)).package p = s.package p from rfl, serves]
  rfl

/-! ### Leaving a state -/

theorem State.mayExitDerate_since {s : State} {p since : Nat} (derated : (s.package p).derate ≠ 0)
    (cool : look none (s.package p).coolSince (s.package p).derate = some since) :
    s.mayExitDerate p = decide (since + 10000000 ≤ s.now) := by
  dsimp only [State.mayExitDerate]
  rw [if_neg derated, cool]

theorem State.mayExitDerate_normal {s : State} {p : Nat} (normal : (s.package p).derate = 0) : s.mayExitDerate p = false := by
  dsimp only [State.mayExitDerate]
  rw [if_pos normal]

theorem exec_deratingExit_due {s : State} {p : Fin 32} {t : Nat} (due : (s.tick t).mayExitDerate p = true) :
    exec (.deratingExit p t) s = .next ((((if (s.package p).derate = 3 then (s.tick t).countCritical p else s.tick t).setDerate p
      ((s.package p).derate - 1)).runTransfers).settled).resumeCols :=
  congrArg Host.Outcome.next (if_pos due)

theorem exec_deratingExit_stays {s : State} {p : Fin 32} {t : Nat} (stays : (s.tick t).mayExitDerate p = false) :
    exec (.deratingExit p t) s = .next (s.tick t) :=
  congrArg Host.Outcome.next (if_neg (Bool.not_eq_true _ ▸ stays))

/-! ### Critical self-refresh -/

theorem onlyChanges_countCritical (s : State) (p : Nat) : OnlyChanges [.dict, .channels] s (s.countCritical p) :=
  .foldl (fun u _ => ((onlyChanges_setDv u _ _).mono (by simp)).trans ((onlyChanges_onChannel _ _ _).mono (by simp))) s _

theorem onlyChanges_syncRefresh (s : State) (p : Nat) : OnlyChanges [.channels] s (s.syncRefresh p) :=
  .foldl (fun u _ => onlyChanges_onChannel u _ _) s _

theorem State.selfRefresh_syncRefresh (s : State) (p : Nat) {i : Nat} (h : i < 4) :
    ((s.syncRefresh p).channel (4 * p + i)).selfRefresh = s.refreshesItself p := by
  refine foldl_establishes (P := fun i (u : State) => (u.channel (4 * p + i)).selfRefresh = s.refreshesItself p)
    (fun j k u kept => ?_) (fun k u => ?_) [0, 1, 2, 3] (.inl ?_)
  · rw [State.channel_onChannel]
    split
    · rfl
    · exact kept
  · rw [State.channel_onChannel_same]
  · simp only [List.mem_cons, List.not_mem_nil, or_false]
    omega

/-- R227: a package becomes critical: counted out of service, its waits counted, its channels in self-refresh. -/
def State.turnsCritical (s : State) (p : Nat) : State :=
  (((s.onPackage p (fun k => { k with critical := true })).setDv 0x400C00 (s.dv 0x400C00 - 1)).countCritical p).syncRefresh p

theorem onlyChanges_turnsCritical (s : State) (p : Nat) : OnlyChanges [.dict, .packages, .channels] s (s.turnsCritical p) :=
  (((onlyChanges_setPackage s p _).mono (by simp)).trans ((onlyChanges_setDv _ _ _).mono (by simp))).trans
    (((onlyChanges_countCritical _ p).mono (by simp)).trans ((onlyChanges_syncRefresh _ p).mono (by simp)))

theorem State.counted_critical (s : State) (p : Nat) :
    ((((s.onPackage p (fun k => { k with critical := true })).setDv 0x400C00 (s.dv 0x400C00 - 1)).countCritical p).package p).critical
      = true := by
  rw [(onlyChanges_countCritical _ p).package (by simp)]
  exact congrArg Package.critical (State.package_onPackage_same s p (fun k => { k with critical := true }))

theorem State.turnsCritical_critical (s : State) (p : Nat) : ((s.turnsCritical p).package p).critical = true := by
  unfold State.turnsCritical
  rw [(onlyChanges_syncRefresh _ p).package (by simp)]
  exact s.counted_critical p

theorem State.turnsCritical_selfRefresh (s : State) (p : Nat) {i : Nat} (h : i < 4) :
    ((s.turnsCritical p).channel (4 * p + i)).selfRefresh = true := by
  unfold State.turnsCritical
  rw [State.selfRefresh_syncRefresh _ p h]
  unfold State.refreshesItself
  rw [s.counted_critical p]
  rfl

/-- A package in state 3 that is in service and has been at 105 °C since a time becomes critical, or stays. -/
theorem exec_criticalSelfRefresh {s : State} {p : Fin 32} {since : Nat} (t : Nat) (hot : (s.package p).critSince = some since)
    (third : (s.package p).derate = 3) (serves : (s.package p).critical = false) (there : (s.package p).offline = false) :
    exec (.criticalSelfRefresh p t) s = .next (if since + 1000000000 ≤ (s.tick t).now then
      ((((s.tick t).turnsCritical p).failWaiting p St.memoryCritical).runTransfers).settled.resumeCols else s.tick t) := by
  dsimp only [exec, execCriticalSelfRefresh]
  rw [show (s.tick t).package p = s.package p from rfl, hot, third, serves, there]
  simp only [Bool.not_false, Bool.and_true, decide_true, Bool.true_and, decide_eq_true_eq]
  rfl

end Derating

/-- Settles O29: the rows of R225 and R227 are decided by the package's readings. -/
theorem packagesDerateByTemperature : Obligations.PackagesDerateByTemperature := by
  unfold Obligations.PackagesDerateByTemperature
  intro p celsius t s s1 now
  subst now
  refine ⟨fun inService => ?reading, fun since derated cool => ⟨fun due => ?due, fun early => ?early⟩,
    fun normal => exec_deratingExit_stays (State.mayExitDerate_normal normal),
    fun since hot third serves there => ⟨fun due => ?critical, fun early => ?stays⟩⟩
  case reading =>
    refine ⟨(s.tick t).reading p celsius, ?_, fun j other => ?_, exec_temperatureReadout celsius t inService, ?_⟩
    · exact ((onlyChanges_setDv _ _ _).mono (by simp)).trans ((onlyChanges_setPackage _ p _).mono (by simp))
    · exact (State.package_setPackage _ _ _ _).trans (if_neg other)
    · have kept : ((s.tick t).reading p celsius).package p = (s.package p).read celsius (s.tick t).now :=
        (State.package_setPackage _ _ _ _).trans (if_pos rfl)
      rw [kept]
      exact ⟨rfl, State.dv_reading _ _ _, rfl, fun l => Package.look_coolSince_read _ _ _, rfl⟩
  case due =>
    exact exec_deratingExit_due ((State.mayExitDerate_since (s := s.tick t) derated cool).trans (decide_eq_true due))
  case early =>
    exact exec_deratingExit_stays ((State.mayExitDerate_since (s := s.tick t) derated cool).trans (decide_eq_false (not_le.2 early)))
  case critical =>
    exact ⟨_, by rw [exec_criticalSelfRefresh t hot third serves there, if_pos due], onlyChanges_turnsCritical _ p,
      State.turnsCritical_critical _ p, fun i => State.turnsCritical_selfRefresh _ p⟩
  case stays => rw [exec_criticalSelfRefresh t hot third serves there, if_neg (not_le.2 early)]

end Sys2Proof.Machine

/-! Scope of the block: admission and issue of reads at a channel (O25). -/

namespace Sys2Proof.Machine

section Requests
variable {s : State}

/-! ### Admission (R217) -/

/-- Request `r` of source `src` admitted at a channel. -/
def State.admitted (s : State) (ch src : Nat) (r : ChanReq) : State :=
  (s.surge 0x400700 r.since).setChannel ch { s.channel ch with
    admitted := (s.channel ch).admitted ++ [s.captured { r with since := s.now }]
    ingress := (s.channel ch).ingress.erase r, lastSource := src }

theorem State.admitOne_next {ch src : Nat} {r : ChanReq} (room : (s.channel ch).admitted.length < 128)
    (admits : (s.package (ch / 4)).derate ≠ 3) (flows : s.cooling.stopped = false)
    (turn : roundRobin (s.channel ch).lastSource
      (((s.channel ch).ingress.filter (fun x => !s.readBehind x)).map (fun x => sourceOf x.pkt.via)) = some src)
    (oldest : ((s.channel ch).ingress.filter (fun x => !s.readBehind x)).find? (fun x => sourceOf x.pkt.via == src) = some r) :
    s.admitOne ch = s.admitted ch src r := by
  have may : (decide ((s.channel ch).admitted.length < 128) && (s.package (ch / 4)).derate != 3 && !s.cooling.stopped) = true := by
    simp [room, admits, flows]
  dsimp only [State.admitOne]
  rw [if_pos may, turn]
  dsimp only
  rw [oldest]
  rfl

theorem State.admitOne_full {ch : Nat} (full : 128 ≤ (s.channel ch).admitted.length) : s.admitOne ch = s := by
  have stays : ¬ (decide ((s.channel ch).admitted.length < 128) && (s.package (ch / 4)).derate != 3 && !s.cooling.stopped) = true := by
    simp [not_lt.2 full]
  dsimp only [State.admitOne]
  rw [if_neg stays]

theorem onlyChanges_admitted (s : State) (ch src : Nat) (r : ChanReq) : OnlyChanges [.dict, .channels] s (s.admitted ch src r) :=
  ((onlyChanges_setDv s _ _).mono (by simp)).trans ((onlyChanges_setChannel _ ch _).mono (by simp))

theorem State.dv_admitted (s : State) (ch src : Nat) (r : ChanReq) :
    (s.admitted ch src r).dv 0x400700 = (s.dv 0x400700 + (s.now - r.since)) % 256 ^ entrySize 0x400700 :=
  ((onlyChanges_setChannel _ ch _).dv (by simp) _).trans (State.dv_setDv_same _ _ _)

theorem State.channel_admitted (s : State) (ch src : Nat) (r : ChanReq) (j : Nat) :
    (s.admitted ch src r).channel j = if j = ch then { s.channel ch with
      admitted := (s.channel ch).admitted ++ [s.captured { r with since := s.now }]
      ingress := (s.channel ch).ingress.erase r, lastSource := src } else s.channel j :=
  State.channel_setChannel _ _ _ _

/-! ### Issue (R210, R218, R219) -/

variable {ch : Fin 128} {q : ChanReq} {rest : List ChanReq} {t : Nat} (reads : List LineRead)

theorem Channel.starved_young {c : Channel} {now : Nat} (admitted : c.admitted = q :: rest) (young : now < q.since + 2000) :
    c.starved now = none := by
  simp [Channel.starved, admitted, young]

theorem Channel.starved_old {c : Channel} {now : Nat} (admitted : c.admitted = q :: rest) (old : q.since + 2000 ≤ now) :
    c.starved now = some q := by
  simp [Channel.starved, admitted, old]

theorem State.issueAt_flows {ch : Nat} (flows : s.cooling.stopped = false) (starved : Bool) : s.issueAt ch q starved reads =
    ((if starved then s.bump 0x400600 1 else s).issueReq ch q reads).runTransfers.resumeCols :=
  if_neg (Bool.not_eq_true _ ▸ flows)

theorem exec_starvationCeiling_none (young : ((s.tick t).channel ch).starved (s.tick t).now = none) :
    exec (.starvationCeiling ch reads t) s = .next (s.tick t) := by
  dsimp only [exec, execStarvationCeiling]
  rw [young]

theorem exec_starvationCeiling_some (old : ((s.tick t).channel ch).starved (s.tick t).now = some q) :
    exec (.starvationCeiling ch reads t) s = .next ((s.tick t).issueAt ch q true reads) := by
  dsimp only [exec, execStarvationCeiling]
  rw [old]

theorem exec_channelRequest_some (old : ((s.tick t).channel ch).starved (s.tick t).now = some q) (pick : Nat) :
    exec (.channelRequest ch pick reads t) s = .next ((s.tick t).issueAt ch q true reads) := by
  dsimp only [exec, execChannelRequest]
  rw [old]

theorem exec_channelRequest_none (young : ((s.tick t).channel ch).starved (s.tick t).now = none) {pick : Nat}
    (picked : ((s.tick t).channel ch).admitted[pick]? = some q) :
    exec (.channelRequest ch pick reads t) s = .next ((s.tick t).issueAt ch q false reads) := by
  dsimp only [exec, execChannelRequest]
  rw [young]
  dsimp only
  rw [picked]

/-- A channel whose request `q` has left the admitted ones. -/
def State.issued (s : State) (ch : Nat) (q : ChanReq) : State :=
  (s.onChannel ch (fun c => { c with admitted := c.admitted.erase q })).wakeChannel ch

theorem onlyChanges_issued (s : State) (ch : Nat) (q : ChanReq) : OnlyChanges [.channels] s (s.issued ch q) :=
  (onlyChanges_onChannel s ch _).trans (onlyChanges_onChannel _ ch _)

theorem State.issued_admitted (s : State) (ch : Nat) (q : ChanReq) :
    ((s.issued ch q).channel ch).admitted = (s.channel ch).admitted.erase q := by
  unfold State.issued State.wakeChannel
  rw [State.channel_onChannel_same, State.channel_onChannel_same]

/-- The state once the lines of an issued request are read. -/
def State.linesRead (s : State) (q : ChanReq) (reads : List LineRead) : State :=
  (List.range (ceilDiv (pktBytes q.pkt) 64)).foldl (fun s i => s.decodeLine (memKey (q.line + 64 * i)) (reads.getD i {})) s

theorem State.package_issued (s : State) (ch : Nat) (q : ChanReq) (p : Nat) : (s.issued ch q).package p = s.package p :=
  (onlyChanges_issued s ch q).package (by simp) p

theorem State.issueReq_offline {ch : Nat} (gone : s.offline (ch / 4) = true) :
    s.issueReq ch q reads = (s.issued ch q).nakTo q.pkt St.memoryOffline :=
  if_pos ((congrArg Package.offline (s.package_issued ch q _)).trans gone)

theorem State.issueReq_critical {ch : Nat} (there : s.offline (ch / 4) = false) (hot : (s.package (ch / 4)).critical = true) :
    s.issueReq ch q reads = (s.issued ch q).nakTo q.pkt St.memoryCritical :=
  (if_neg (Bool.not_eq_true _ ▸ (congrArg Package.offline (s.package_issued ch q _)).trans there)).trans
    (if_pos ((congrArg Package.critical (s.package_issued ch q _)).trans hot))

/-- What a request that is read brings: zeros with poison, what its lines held at its admission, or what they hold now. -/
theorem State.issueReq_reads {ch : Nat} (there : s.offline (ch / 4) = false) (serves : (s.package (ch / 4)).critical = false) :
    s.issueReq ch q reads =
      if q.bad || ((s.issued ch q).linesRead q reads).badRange q.line (pktBytes q.pkt) then
        ((s.issued ch q).linesRead q reads).dataTo q.pkt (List.replicate (pktBytes q.pkt) 0) true
      else ((s.issued ch q).linesRead q reads).dataTo q.pkt
        (if ((s.issued ch q).linesRead q reads).localBytes q.line (pktBytes q.pkt) ==
            (s.issued ch q).localBytes q.line (pktBytes q.pkt) then q.data
          else ((s.issued ch q).linesRead q reads).localBytes q.line (pktBytes q.pkt)) :=
  (if_neg (Bool.not_eq_true _ ▸ (congrArg Package.offline (s.package_issued ch q _)).trans there)).trans
    (if_neg (Bool.not_eq_true _ ▸ (congrArg Package.critical (s.package_issued ch q _)).trans serves))

theorem State.issueReq_data {ch : Nat} (there : s.offline (ch / 4) = false) (serves : (s.package (ch / 4)).critical = false) :
    ∃ (y : State) (bytes : List Byte) (bad : Bool), s.issueReq ch q reads = y.dataTo q.pkt bytes bad ∧ (q.bad = true → bad = true) ∧
      (bad = true → bytes = List.replicate (pktBytes q.pkt) 0) ∧
      (bad = false → bytes = q.data ∨ bytes = y.localBytes q.line (pktBytes q.pkt)) := by
  rw [State.issueReq_reads reads there serves]
  split
  · exact ⟨_, _, true, rfl, fun _ => rfl, fun _ => rfl, fun h => absurd h (by simp)⟩
  next good =>
    refine ⟨_, _, false, rfl, fun bad => absurd bad (fun h => good (by rw [h, Bool.true_or])), fun h => absurd h (by simp),
      fun _ => ?_⟩
    split
    · exact .inl rfl
    · exact .inr rfl

end Requests

/-- Settles O25: admission by the source whose turn it is, issue by the age of the oldest, and what an issued request answers. Its data
is what its lines held at its admission (log entry 163); the request issued is named with it (log entry 47). -/
theorem readsAreAdmittedAndIssued : Obligations.ReadsAreAdmittedAndIssued := by
  unfold Obligations.ReadsAreAdmittedAndIssued
  intro ch t s s1 reads now flows
  subst now
  refine ⟨fun room admits free src r waiting turn oldest => ?enters, fun full => ?full,
    fun q rest admitted => ⟨fun young => ?young, fun old => ?old⟩, fun v x => ?issue⟩
  case enters =>
    subst waiting
    have same := State.channel_admitted (s.tick t) ch src r ch
    rw [if_pos rfl] at same
    refine ⟨_, congrArg Host.Outcome.next (State.admitOne_next room admits flows turn oldest),
      ((onlyChanges_tick s t).mono (by simp)).trans ((onlyChanges_admitted _ ch src r).mono (by simp)),
      State.dv_admitted _ ch src r, ?_, ?_, ?_,
      fun j other => (State.channel_admitted _ ch src r j).trans (if_neg other)⟩ <;> rw [same]
  case full => exact congrArg Host.Outcome.next (State.admitOne_full full)
  case young =>
    have none := Channel.starved_young admitted young
    refine ⟨exec_starvationCeiling_none reads none, fun pick x picked => ?_⟩
    rw [exec_channelRequest_none reads none (admitted ▸ picked), State.issueAt_flows reads flows]
    rfl
  case old =>
    have some := Channel.starved_old admitted old
    refine ⟨?_, fun pick => ?_⟩
    · rw [exec_starvationCeiling_some reads some, State.issueAt_flows reads flows]
      rfl
    · rw [exec_channelRequest_some reads some, State.issueAt_flows reads flows]
      rfl
  case issue =>
    exact ⟨v.issued ch x, onlyChanges_issued v ch x, State.issued_admitted v ch x, State.issueReq_offline reads,
      State.issueReq_critical reads, State.issueReq_data reads⟩

end Sys2Proof.Machine

/-! Scope of the block: an operation at an adder (R220 to R222): whether it is performed, and what it leaves. -/

namespace Sys2Proof.Machine

theorem onlyChanges_wrBytes (bs : List Byte) : ∀ (s : State) (a : Nat), OnlyChanges [.mem] s (s.wrBytes a bs) := by
  induction bs with
  | nil => exact fun s _ => OnlyChanges.refl _ s
  | cons b bs ih =>
    refine fun s a => OnlyChanges.trans (fun f outside => ?_) (ih (s.wr (memKey a) b) (a + 1))
    cases f <;> first | rfl | exact absurd (List.mem_singleton.2 rfl) outside

theorem OnlyChanges.mem {fs : List Field} {s u : State} (h : OnlyChanges fs s u) (outside : Field.mem ∉ fs) : u.mem = s.mem :=
  h .mem outside

theorem OnlyChanges.marks {fs : List Field} {s u : State} (h : OnlyChanges fs s u) (outside : Field.marks ∉ fs) : u.marks = s.marks :=
  h .marks outside

/-- The state after an adder wrote bytes to a line and used the line's entry. -/
def State.combined (s : State) (near a : Nat) (bs : List Byte) : State :=
  (s.wrBytes a bs).onChannel (chanOf near) (fun c => c.useEntry (lineOf near) s.now)

section Adder
variable {s : State}

theorem onlyChanges_combined (s : State) (near a : Nat) (bs : List Byte) : OnlyChanges [.mem, .channels] s (s.combined near a bs) :=
  ((onlyChanges_wrBytes bs s a).mono (by simp)).trans ((onlyChanges_onChannel _ _ _).mono (by simp))

theorem State.mem_combined (s : State) (near a : Nat) (bs : List Byte) : (s.combined near a bs).mem = (s.wrBytes a bs).mem :=
  (onlyChanges_onChannel _ _ _).mem (by simp)

/-- R221: a line's entry is there once it is used, with the time of that use. -/
theorem Channel.mem_entries_useEntry (c : Channel) (line now : Nat) : ∃ e ∈ (c.useEntry line now).entries, e.line = line ∧ e.last = now := by
  unfold Channel.useEntry
  split
  next known =>
    obtain ⟨e, mem, same⟩ := List.any_eq_true.1 known
    exact ⟨_, List.mem_map_of_mem mem, by simp [eq_of_beq same], by simp [same]⟩
  next => exact ⟨_, List.mem_append_right _ (List.mem_singleton.2 rfl), rfl, rfl⟩

theorem State.mem_entries_combined (s : State) (near a : Nat) (bs : List Byte) :
    ∃ e ∈ ((s.combined near a bs).channel (chanOf near)).entries, e.line = lineOf near ∧ e.last = s.now := by
  unfold State.combined
  rw [State.channel_onChannel_same]
  exact Channel.mem_entries_useEntry _ _ _

/-! ### Whether an operation is performed -/

variable {near n : Nat} {side : Side} {rd : LineRead}

/-- An operation that nothing keeps from its adder is performed on the line, read or its partial store retired first. -/
theorem State.tryAdder_done (allowed : s.memStatus near n side true = 0) (free : s.adderHold near = none)
    (own : s.access near true = (s, true)) (o : Origin) (f : State → AddOut) :
    s.tryAdder near n side o rd f = .done (f ((s.retireLine (lineOf near) rd).wakeChannel (chanOf near))) := by
  have stops : s.adderStop near n side = 0 := allowed
  dsimp only [State.tryAdder]
  rw [if_neg (not_not.2 stops), free]
  dsimp only
  rw [own]
  rfl

theorem State.lineAdd_good {k : AddKind} {data : List Byte} (good : s.badRange (lineOf near) 64 = false) :
    (s.lineAdd near k data).s = s.combined near (lineOf near) (addBytes k (s.rdBytes (lineOf near) 64) data).1 ∧
    (s.lineAdd near k data).status = 0 := by
  have decodes : ¬ s.badRange (lineOf near) 64 = true := Bool.not_eq_true _ ▸ good
  dsimp only [State.lineAdd]
  rw [if_neg decodes]
  exact ⟨rfl, rfl⟩

theorem State.lineAtom_good {x : Atom} (good : s.badRange (lineOf near) 64 = false) : s.lineAtom near x =
    { s := s.combined near near (leBytes (atomBytes x) (atomNew x (s.rdNat near (atomBytes x)))), old := s.rdNat near (atomBytes x) } :=
  if_neg (Bool.not_eq_true _ ▸ good)

variable {a : BitVec 48} {node source : Nat}

theorem State.tryOp_atom {x : Atom} (at' : place a.toNat = .lpddr near) (aligned : a.toNat % atomBytes x = 0)
    (allowed : s.memStatus near (atomBytes x) side true = 0) (free : s.adderHold near = none) (own : s.access near true = (s, true)) :
    s.tryOp (.atom a x) side node source rd =
      .done (((s.retireLine (lineOf near) rd).wakeChannel (chanOf near)).lineAtom near x) := by
  dsimp only [State.tryOp, State.tryAtom]
  rw [at']
  dsimp only
  rw [if_neg (not_not.2 aligned), State.tryAdder_done allowed free own]

theorem State.tryOp_line {k : AddKind} {data : List Byte} (at' : place a.toNat = .lpddr near) (aligned : a.toNat % 64 = 0)
    (whole : data.length = 64) (allowed : s.memStatus near 64 side true = 0) (free : s.adderHold near = none)
    (own : s.access near true = (s, true)) : s.tryOp (.line a k data) side node source rd =
      .done (((s.retireLine (lineOf near) rd).wakeChannel (chanOf near)).lineAdd near k data) := by
  dsimp only [State.tryOp, State.tryLine]
  rw [at']
  dsimp only
  rw [if_neg (by omega), State.tryAdder_done allowed free own]

theorem State.submitTry_alone {o : AdderOp} {x : AddOut} {reply : Option Packet} (alone : s.behindOthers o = false)
    (done : s.tryOp o side node source rd = .done x) : s.submitTry o side node source reply rd = (x.s, some x) := by
  dsimp only [State.submitTry]
  rw [alone, done]
  rfl

theorem State.submitTry_behind {o : AdderOp} {reply : Option Packet} (behind : s.behindOthers o = true) :
    s.submitTry o side node source reply rd =
      (s.queueAdd { op := o, source := source, since := s.now, reply := reply, key := if s.behindEntries o then 0x400800 else 0 }, none) := by
  dsimp only [State.submitTry]
  rw [behind]
  rfl

/-- ADDER_OPERATION of an operation that is performed. -/
theorem exec_adderOperation_done {t : Nat} {o : AdderOp} {x : AddOut} (alone : (s.tick t).behindOthers o = false)
    (done : (s.tick t).tryOp o .command (s.tick t).node 0 rd = .done x) :
    exec (.adderOperation ⟨o, rd, none⟩ t) s = .next x.s.settled := by
  dsimp only [exec, execAdderOperation, State.submitAdd]
  rw [State.submitTry_alone alone done]

/-- An operation of the module's own that goes behind those that wait. -/
def State.queuedOp (s : State) (o : AdderOp) : State :=
  s.queueAdd { op := o, source := 0, since := s.now, reply := none, key := if s.behindEntries o then 0x400800 else 0 }

theorem State.submitAdd_behind {o : AdderOp} (behind : s.behindOthers o = true) :
    s.submitAdd o .command node 0 none rd = s.queuedOp o := by
  unfold State.submitAdd
  rw [State.submitTry_behind behind]
  rfl

theorem exec_adderOperation_behind {t : Nat} {o : AdderOp} (behind : (s.tick t).behindOthers o = true) :
    exec (.adderOperation ⟨o, rd, none⟩ t) s = .next ((s.tick t).queuedOp o).settled :=
  congrArg (fun u : State => Host.Outcome.next u.settled) (State.submitAdd_behind behind)

theorem exec_adderOperation_fails {t : Nat} {o : AdderOp} (behind : (s.tick t).behindOthers o = true) (n : Fin 256) :
    exec (.adderOperation ⟨o, rd, some n⟩ t) s =
      .next (((s.tick t).queuedOp o).failEntry (((s.tick t).queuedOp o).opChannel o) n).settled :=
  congrArg (fun u : State => Host.Outcome.next (u.failEntry (u.opChannel o) n).settled) (State.submitAdd_behind behind)

end Adder
end Sys2Proof.Machine

/-! Scope of the block: a partial store that is applied (R223); the bytes that it and an atomic change (O58). -/

namespace Sys2Proof.Machine

section Stores
variable {s : State}

/-! ### Lines and their bytes -/

/-- R213: a line of LPDDR lies below 2 TiB as a whole. -/
theorem lineOf_le {a near : Nat} (at' : place a = .lpddr near) : lineOf near + 64 ≤ 2 ^ 41 := by
  have := place_lt at'
  unfold lineOf
  omega

/-- A naturally aligned atomic of LPDDR lies below 2 TiB as a whole. -/
theorem atom_le {a near : Nat} {x : Atom} (at' : place a = .lpddr near) (aligned : a % atomBytes x = 0) :
    near + atomBytes x ≤ 2 ^ 41 := by
  have below := place_lt at'
  have low := place_mod at'
  obtain width | width : atomBytes x = 8 ∨ atomBytes x = 4 := ite_eq_or_eq _ _ _
  all_goals
    rw [width] at aligned ⊢
    omega

theorem length_maskedBytes (mask : BitVec 64) (data : List Byte) : (maskedBytes mask data).length = 64 := by
  simp [maskedBytes]

theorem getElem?_maskedBytes {mask : BitVec 64} {data : List Byte} {i : Nat} {b : Byte} :
    (maskedBytes mask data)[i]? = some (some b) ↔ i < 64 ∧ mask.getLsbD i = true ∧ data.getD i 0 = b := by
  by_cases inside : i < 64
  · simp [maskedBytes, inside]
  · simp [maskedBytes, inside]

theorem onlyChanges_wrMasked (s : State) (a : Nat) (bs : List (Option Byte)) : OnlyChanges [.mem] s (s.wrMasked a bs) := by
  obtain ⟨m, same⟩ := State.wrMasked_eq bs s a
  rw [same]
  intro f outside
  cases f <;> first | rfl | exact absurd (List.mem_singleton.2 rfl) outside

/-! ### A partial store that is applied -/

variable {line : Nat} {mask : BitVec 64} {data : List Byte} {source : Nat}

theorem State.partialStore_applied {reply : Option Packet} (first : s.waitsAt line s.arrivals = false)
    (free : s.wcHold line mask false = none) (unbarred : s.barred line = false) (own : s.access line true = (s, true)) :
    s.partialStore line mask data source reply = (s.wcMerge line mask data source, true) := by
  have stays : ¬ s.waitsAt line s.arrivals = true := Bool.not_eq_true _ ▸ first
  dsimp only [State.partialStore]
  rw [if_neg stays]
  dsimp only [State.tryPartial]
  rw [free, unbarred, own]
  rfl

theorem exec_wcPartialStore {addr : BitVec 48} {t near : Nat} (at' : place addr.toNat = .lpddr near)
    (allowed : (s.tick t).memStatus addr.toNat 1 .command true = 0) : exec (.wcPartialStore addr mask data t) s =
      .next ((s.tick t).partialStore (lineOf near) mask data (s.tick t).node none).1 := by
  dsimp only [exec, execWcPartialStore]
  rw [at']
  dsimp only
  rw [allowed]
  rfl

/-- What holds a partial store for want of an entry in the buffer. -/
theorem State.wcHold_room (free : s.wcHold line mask false = none) : mask = BitVec.allOnes 64 ∨
    (s.channel (chanOf line)).wc.length < 64 ∨ (s.channel (chanOf line)).wc.any (fun e => e.line == line) = true := by
  unfold State.wcHold at free
  grind

theorem onlyChanges_wcMerge (free : s.wcHold line mask false = none) :
    OnlyChanges [.mem, .marks, .channels] s (s.wcMerge line mask data source) := by
  refine ((onlyChanges_wrMasked s line _).mono (by simp)).trans ((State.notePartial_frame _ line mask source ?_).mono (by simp))
  rw [(onlyChanges_wrMasked s line _).channel (by simp)]
  exact State.wcHold_room free

theorem State.mem_wcMerge (free : s.wcHold line mask false = none) :
    (s.wcMerge line mask data source).mem = (s.wrMasked line (maskedBytes mask data)).mem := by
  refine (State.notePartial_frame _ line mask source ?_).mem (by simp)
  rw [(onlyChanges_wrMasked s line _).channel (by simp)]
  exact State.wcHold_room free

/-! ### The line of an atomic -/

variable {near : Nat} {rd : LineRead}

/-- A line with no partial store whose read has no errors is read as it is. -/
theorem State.retireLine_clean (unbuffered : ∀ e ∈ (s.channel (chanOf line)).wc, e.line ≠ line) (clean : rd.errors = []) :
    s.retireLine line rd = s := by
  have none : (s.channel (chanOf line)).wc.find? (fun e => e.line == line) = none := by simpa using unbuffered
  dsimp only [State.retireLine]
  rw [none]
  dsimp only
  split
  · rfl
  · exact if_pos (List.isEmpty_iff.2 clean)

theorem State.badRange_wakeChannel (s : State) (ch a n : Nat) : (s.wakeChannel ch).badRange a n = s.badRange a n := rfl

theorem State.rdNat_wakeChannel (s : State) (ch a n : Nat) : (s.wakeChannel ch).rdNat a n = s.rdNat a n :=
  congrArg leNat (State.rdBytes_congr ((onlyChanges_onChannel s ch _).mem (by simp)) n a)

end Stores

/-- Settles O58: the store's bytes are those of `maskedBytes`, the atomic's those of its location; nothing else of memory is written. -/
theorem storesChangeOnlyTheirBytes : Obligations.StoresChangeOnlyTheirBytes := by
  unfold Obligations.StoresChangeOnlyTheirBytes
  intro a t near s s1 now at'
  subst now
  refine ⟨fun mask data line at64 allowed first free unbarred own => ?store,
    fun x n rd v width aligned alone allowed free own retired good unbuffered => ⟨fun clean y => ?read, ?atom⟩⟩
  case store =>
    subst at64
    obtain ⟨written, kept⟩ := State.mem_wrMasked (maskedBytes mask data) (s.tick t) (lineOf near)
      (by rw [length_maskedBytes]; exact lineOf_le at')
    have reads : ∀ y, ((s.tick t).wcMerge (lineOf near) mask data (s.tick t).node).rd y =
        ((s.tick t).wrMasked (lineOf near) (maskedBytes mask data)).rd y :=
      fun y => congrArg (look memDefault · y) (State.mem_wcMerge free)
    refine ⟨(s.tick t).wcMerge (lineOf near) mask data (s.tick t).node, ?_,
      ((onlyChanges_tick s t).mono (by simp)).trans ((onlyChanges_wcMerge free).mono (by simp)),
      fun i inside named => ?_, fun y other => ?_⟩
    · rw [exec_wcPartialStore at' allowed, State.partialStore_applied first free unbarred own]
    · exact (reads _).trans (written i _ (getElem?_maskedBytes.2 ⟨inside, named, rfl⟩))
    · refine (reads y).trans (kept y fun i b named => ?_)
      obtain ⟨inside, set, -⟩ := getElem?_maskedBytes.1 named
      exact other i inside set
  case read =>
    subst retired
    rw [State.retireLine_clean unbuffered clean]
    rfl
  case atom =>
    subst width retired
    refine ⟨_, exec_adderOperation_done alone (State.tryOp_atom at' aligned allowed free own), ?_⟩
    rw [State.lineAtom_good ((State.badRange_wakeChannel _ _ _ _).trans good), State.rdNat_wakeChannel]
    obtain ⟨written, kept⟩ := State.mem_wrBytes
      (leBytes (atomBytes x) (atomNew x (((s.tick t).retireLine (lineOf near) rd).rdNat near (atomBytes x))))
      (((s.tick t).retireLine (lineOf near) rd).wakeChannel (chanOf near)) near
      (by rw [length_leBytes]; exact atom_le at' aligned)
    rw [length_leBytes] at written kept
    refine ⟨(State.rdBytes_congr (State.mem_combined _ near near _) _ _).trans written, fun y outside => ?_⟩
    exact (congrArg (look memDefault · y) (State.mem_combined _ near near _)).trans (kept y outside)

end Sys2Proof.Machine

/-! Scope of the block: partial stores in the write-combining buffer: added, waiting, going on, retired (O27). -/

namespace Sys2Proof.Machine

section Combining
variable {s : State} {line : Nat} {mask : BitVec 64} {data : List Byte} {source : Nat}

/-! ### What the buffer holds after a store -/

/-- The state in which a store to a line is noted: its channel awake, its adder entry written back. -/
def State.touched (s : State) (line : Nat) : State := (s.wakeChannel (chanOf line)).dropEntry line

theorem State.wc_touched (s : State) (line : Nat) : ((s.touched line).channel (chanOf line)).wc = (s.channel (chanOf line)).wc := by
  unfold State.touched State.dropEntry State.wakeChannel
  rw [State.channel_onChannel_same, State.channel_onChannel_same]
  split <;> rfl

theorem onlyChanges_setMark (s : State) (k : Nat) (m : LineMark) : OnlyChanges [.marks] s (s.setMark k m) := by
  intro f outside
  cases f <;> first | rfl | exact absurd (List.mem_singleton.2 rfl) outside

/-- A store of a whole line takes the line's entry out of the buffer. -/
theorem State.notePartial_whole (s : State) (line src : Nat) : s.notePartial line (BitVec.allOnes 64) src =
    (if (((s.touched line).channel (chanOf line)).wc.find? (fun e => e.line == line)).isSome then
      (s.touched line).onChannel (chanOf line) (fun c => { c with wc := c.wc.filter (fun e => e.line != line) })
    else s.touched line).setMark (markKey line) .good := by
  unfold State.notePartial
  dsimp only
  rw [if_pos BitVec.allOnes_or, Option.isSome_map]
  rfl

theorem State.wc_notePartial_whole (s : State) (line src : Nat) :
    ∀ e ∈ ((s.notePartial line (BitVec.allOnes 64) src).channel (chanOf line)).wc, e.line ≠ line := by
  intro e inside same
  rw [State.notePartial_whole, (onlyChanges_setMark _ _ _).channel (by simp)] at inside
  split at inside
  next =>
    rw [State.channel_onChannel_same] at inside
    have other := (List.mem_filter.1 inside).2
    exact absurd same (by simpa using other)
  next none =>
    refine none (List.find?_isSome.2 ⟨e, inside, by simp [same]⟩)

/-- A store of a part of a line that has no entry joins a buffer with room, behind the others. -/
theorem State.notePartial_new (part : mask ≠ BitVec.allOnes 64) (room : (s.channel (chanOf line)).wc.length < 64)
    (new : ∀ e ∈ (s.channel (chanOf line)).wc, e.line ≠ line) : s.notePartial line mask source =
      (s.touched line).onChannel (chanOf line) (fun c => { c with
        wc := c.wc ++ [{ line := line, mask := mask, last := s.now, source := source }] }) := by
  have none : ((s.touched line).channel (chanOf line)).wc.find? (fun e => e.line == line) = none := by
    rw [s.wc_touched]
    simpa using new
  have short : ¬ 64 ≤ ((s.touched line).channel (chanOf line)).wc.length := by
    rw [s.wc_touched]
    exact not_le.2 room
  unfold State.notePartial
  dsimp only
  rw [show (s.wakeChannel (chanOf line)).dropEntry line = s.touched line from rfl, none, if_neg short]
  simp only [Option.map_none, Option.getD_none, Option.isSome_none, Bool.false_eq_true, if_false]
  rw [show mask ||| 0 = mask from BitVec.or_zero, if_neg part]

theorem State.wc_notePartial_new (part : mask ≠ BitVec.allOnes 64) (room : (s.channel (chanOf line)).wc.length < 64)
    (new : ∀ e ∈ (s.channel (chanOf line)).wc, e.line ≠ line) : ((s.notePartial line mask source).channel (chanOf line)).wc =
      (s.channel (chanOf line)).wc ++ [{ line := line, mask := mask, last := s.now, source := source }] := by
  rw [State.notePartial_new part room new, State.channel_onChannel_same]
  exact congrArg (· ++ _) (s.wc_touched line)

/-! ### A store that waits -/

theorem onlyChanges_waitPartial (s : State) (w : WcWaiter) : OnlyChanges [.channels, .arrivals] s (s.waitPartial w) := by
  intro f outside
  cases f <;> first | rfl | exact absurd (by simp) outside

theorem State.wcWait_waitPartial (s : State) (w : WcWaiter) : ((s.waitPartial w).channel (chanOf w.line)).wcWait =
    (s.channel (chanOf w.line)).wcWait ++ [{ w with ord := s.arrivals }] :=
  congrArg Channel.wcWait (State.channel_onChannel_same s (chanOf w.line) fun c => { c with
    wcWait := c.wcWait ++ [{ w with ord := s.arrivals }] })

theorem onlyChanges_meetBarrier (s : State) (near : Nat) : OnlyChanges [.dict, .step] s (s.meetBarrier near) := by
  intro f outside
  cases f <;> first | rfl | exact absurd (by simp) outside

theorem State.partialStore_held {reply : Option Packet} {key : Nat} (first : s.waitsAt line s.arrivals = false)
    (held : s.wcHold line mask false = some key) (room : key ≠ 0x400900) : s.partialStore line mask data source reply =
      ((if key = 0x601900 then s.meetBarrier line else s).waitPartial
        { line := line, mask := mask, data := data, source := source, since := s.now, key := key, reply := reply, poison := false },
        false) := by
  have stays : ¬ s.waitsAt line s.arrivals = true := Bool.not_eq_true _ ▸ first
  dsimp only [State.partialStore]
  rw [if_neg stays]
  dsimp only [State.tryPartial]
  rw [held]
  dsimp only
  rw [if_neg room]

theorem exec_wcPartialStore_unmapped {addr : BitVec 48} {t : Nat} (at' : place addr.toNat = .unmapped) :
    exec (.wcPartialStore addr mask data t) s =
      .next ((s.tick t).addressFault 2 (s.tick t).node addr.toNat 8 St.addressUnmapped) := by
  dsimp only [exec, execWcPartialStore]
  rw [at']

/-! ### A waiting store that goes on -/

/-- The state once the waiter `w` of a channel has gone on, its wait counted. -/
def State.storeGone (s : State) (ch : Nat) (w : WcWaiter) : State :=
  (s.surge w.key w.since).onChannel ch (fun c => { c with wcWait := c.wcWait.erase w, lastSource := w.unit })

theorem onlyChanges_storeGone (s : State) (ch : Nat) (w : WcWaiter) : OnlyChanges [.dict, .channels] s (s.storeGone ch w) :=
  ((onlyChanges_setDv s _ _).mono (by simp)).trans ((onlyChanges_onChannel _ ch _).mono (by simp))

theorem State.wcWait_storeGone (s : State) (ch : Nat) (w : WcWaiter) :
    ((s.storeGone ch w).channel ch).wcWait = (s.channel ch).wcWait.erase w :=
  congrArg Channel.wcWait (State.channel_onChannel_same _ ch _)

theorem State.dv_storeGone (s : State) (ch : Nat) (w : WcWaiter) :
    (s.storeGone ch w).dv w.key = (s.dv w.key + (s.now - w.since)) % 256 ^ entrySize w.key :=
  ((onlyChanges_onChannel _ ch _).dv (by simp) _).trans (State.dv_setDv_same _ _ _)

theorem State.admitPartial_goes {ch : Nat} {w : WcWaiter} {ws : List WcWaiter} {v : State} (own : w.reply = none) (counted : w.key ≠ 0)
    (first : s.waitsAt w.line w.ord = false) (goes : s.tryPartial w.line w.mask w.data w.source w.poison = (v, none)) :
    s.admitPartial ch (w :: ws) = v.storeGone ch w := by
  have stays : ¬ s.waitsAt w.line w.ord = true := Bool.not_eq_true _ ▸ first
  dsimp only [State.admitPartial]
  rw [if_neg stays, goes, own]
  dsimp only
  rw [if_neg counted]
  rfl

/-! ### Retirement -/

/-- The state in which an entry that retires has its line read. -/
def State.retiring (s : State) (e : WcEntry) : State :=
  ((s.onChannel (chanOf e.line) (fun c => { c with wc := c.wc.filter (fun x => x.line != e.line) })).wakeChannel
    (chanOf e.line)).bump 0x400B00 1

theorem onlyChanges_retiring (s : State) (e : WcEntry) : OnlyChanges [.dict, .channels] s (s.retiring e) :=
  (((onlyChanges_onChannel s _ _).trans (onlyChanges_onChannel _ _ _)).mono (by simp)).trans ((onlyChanges_setDv _ _ _).mono (by simp))

theorem State.dv_retiring (s : State) (e : WcEntry) :
    (s.retiring e).dv 0x400B00 = (s.dv 0x400B00 + 1) % 256 ^ entrySize 0x400B00 :=
  State.dv_setDv_same _ _ _

theorem State.mem_wc_retiring {e x : WcEntry} :
    x ∈ ((s.retiring e).channel (chanOf e.line)).wc ↔ x ∈ (s.channel (chanOf e.line)).wc ∧ x.line ≠ e.line := by
  have kept : ((s.retiring e).channel (chanOf e.line)).wc =
      (s.channel (chanOf e.line)).wc.filter (fun x => x.line != e.line) := by
    unfold State.retiring State.wakeChannel
    rw [(onlyChanges_bump _ _ _).channel (by simp), State.channel_onChannel_same, State.channel_onChannel_same]
  rw [kept, List.mem_filter, bne_iff_ne]

theorem State.retireWc_clean {e : WcEntry} {r : LineRead} (clean : (s.retiring e).lineOutcome e.line r = .clean) :
    s.retireWc e r = (s.retiring e).setMark (markKey e.line) .good := by
  unfold State.retireWc
  dsimp only
  rw [← State.retiring, clean]

theorem State.mark_poisoned_bump (s : State) (k key n : Nat) : ((s.setMark k .poisoned).bump key n).mark k = .poisoned :=
  look_put_same LineMark.good s.marks k .poisoned

/-- An entry whose line does not decode leaves its line poisoned. -/
theorem State.mark_retireWc {e : WcEntry} {r : LineRead} (bad : (s.retiring e).lineOutcome e.line r = .poison ∨
    (s.retiring e).lineOutcome e.line r = .failed ∨ (s.retiring e).lineOutcome e.line r = .address) :
    (s.retireWc e r).mark (markKey e.line) = .poisoned := by
  unfold State.retireWc
  dsimp only
  rw [← State.retiring]
  obtain found | found | found := bad
  all_goals
    rw [found]
    exact State.mark_poisoned_bump _ _ _ _

theorem exec_wcRetireTimeout_some {ch : Fin 128} {r : LineRead} {t : Nat} {e : WcEntry}
    (found : ((s.tick t).channel ch).wc.find? (fun e => decide (e.last + 500 ≤ (s.tick t).now)) = some e) :
    exec (.wcRetireTimeout ch r t) s = .next ((s.tick t).retireWc e r) := by
  dsimp only [exec, execWcRetireTimeout]
  rw [found]

theorem exec_wcRetireTimeout_none {ch : Fin 128} {r : LineRead} {t : Nat}
    (none : ((s.tick t).channel ch).wc.find? (fun e => decide (e.last + 500 ≤ (s.tick t).now)) = none) :
    exec (.wcRetireTimeout ch r t) s = .next (s.tick t) := by
  dsimp only [exec, execWcRetireTimeout]
  rw [none]

end Combining

/-- Settles O27: a store is noted in the buffer of its line, waits for what holds it, goes on when its turn comes, and is retired by the
read of its line. -/
theorem partialStoresCombine : Obligations.PartialStoresCombine := by
  unfold Obligations.PartialStoresCombine
  intro t s s1 now
  subst now
  refine ⟨fun addr mask data near at' allowed first => ⟨fun free unbarred own => ?applied, fun key v held room met => ?held⟩,
    fun addr mask data at' => ⟨_, exec_wcPartialStore_unmapped at', rfl, rfl⟩,
    fun ch w ws v order own counted first goes => ?goes, fun ch r => ⟨fun e found => ?retires, fun young => ?young⟩⟩
  case applied =>
    have mem := State.mem_wcMerge (data := data) (source := (s.tick t).node) free
    have wc : ((s.tick t).wrMasked (lineOf near) (maskedBytes mask data)).channel (chanOf (lineOf near)) =
        (s.tick t).channel (chanOf (lineOf near)) := (onlyChanges_wrMasked _ _ _).channel (by simp) _
    refine ⟨_, by rw [exec_wcPartialStore at' allowed, State.partialStore_applied first free unbarred own], fun whole => ⟨mem, ?_⟩,
      fun part short new => ⟨mem, ?_⟩⟩
    · subst whole
      exact State.wc_notePartial_whole _ _ _
    · rw [← wc] at short new
      refine (State.wc_notePartial_new part short new).trans ?_
      rw [wc, (onlyChanges_wrMasked _ _ _ : OnlyChanges [.mem] (s.tick t) _) .now (by simp)]
  case held =>
    have quiet : OnlyChanges [.dict, .step] (s.tick t) v := by
      rw [met]
      split
      · exact onlyChanges_meetBarrier _ _
      · exact OnlyChanges.refl _ _
    refine ⟨_, by rw [exec_wcPartialStore at' allowed, State.partialStore_held first held room, ← met],
      onlyChanges_waitPartial _ _, ?_⟩
    rw [State.wcWait_waitPartial, quiet.channel (by simp), quiet .arrivals (by simp)]
  case goes =>
    refine ⟨v.storeGone ch w, ?_, onlyChanges_storeGone v ch w, State.wcWait_storeGone v ch w, State.dv_storeGone v ch w⟩
    dsimp only [exec, execWcAdmit]
    rw [order, State.admitPartial_goes own counted first goes]
  case retires =>
    refine ⟨_, (s.tick t).retiring e, _, exec_wcRetireTimeout_some found, onlyChanges_retiring _ e, rfl, State.dv_retiring _ e,
      fun x => State.mem_wc_retiring, State.retireWc_clean, State.mark_retireWc⟩
  case young =>
    refine exec_wcRetireTimeout_none (List.find?_eq_none.2 fun e inside => ?_)
    exact fun late => absurd (of_decide_eq_true late) (not_le.2 (young e inside))
end Sys2Proof.Machine

/-! Scope of the block: operations that wait for an adder, entries that fail or are written back, staging frames (O26). -/

namespace Sys2Proof.Machine

section Waiting
variable {s : State} {o : AdderOp}

/-! ### An operation behind others -/

/-- A waiter last at the ingress of its operation's channel. -/
def State.lastIn (s : State) (w : AdderWaiter) : State :=
  { s.onChannel (s.opChannel w.op) (fun c => { c with adderWait := c.adderWait ++ [{ w with ord := s.arrivals }] }) with
    arrivals := s.arrivals + 1 }

theorem State.queuedOp_eq (s : State) (o : AdderOp) : s.queuedOp o = s.lastIn
    { op := o, source := 0, since := s.now, reply := none, key := if s.behindEntries o then 0x400800 else 0 } := by
  unfold State.queuedOp State.queueAdd
  dsimp only
  have key : (if s.behindEntries o then 0x400800 else 0) ≠ 0x801300 ∧ (if s.behindEntries o then 0x400800 else 0) ≠ 0x601900 := by
    split <;> decide
  rw [if_neg fun staged => key.1 staged.1, if_neg key.2]
  rfl

theorem onlyChanges_lastIn (s : State) (w : AdderWaiter) : OnlyChanges [.channels, .arrivals] s (s.lastIn w) := by
  intro f outside
  cases f <;> first | rfl | exact absurd (by simp) outside

theorem State.channel_lastIn (s : State) (w : AdderWaiter) : (s.lastIn w).channel (s.opChannel w.op) =
    { s.channel (s.opChannel w.op) with adderWait := (s.channel (s.opChannel w.op)).adderWait ++ [{ w with ord := s.arrivals }] } :=
  State.channel_onChannel_same s (s.opChannel w.op) fun c => { c with adderWait := c.adderWait ++ [{ w with ord := s.arrivals }] }

theorem State.entries_lastIn (s : State) (w : AdderWaiter) :
    ((s.lastIn w).channel (s.opChannel w.op)).entries = (s.channel (s.opChannel w.op)).entries := by
  rw [State.channel_lastIn]

theorem State.opChannel_lastIn (s : State) (w : AdderWaiter) (o : AdderOp) : (s.lastIn w).opChannel o = s.opChannel o := by
  cases o with
  | line a k data => rfl
  | atom a x => rfl
  | book h first vals =>
    have mem : (s.lastIn w).mem = s.mem := rfl
    unfold State.opChannel State.dataAddr State.rdNat
    simp only [State.rdBytes_congr mem]
    rfl

/-! ### An entry whose parity fails (R422) -/

/-- The state in which an entry that failed its parity has left the list and its line is poisoned. -/
def State.entryGone (s : State) (line : Nat) : State := (s.dropEntry line).poisonLine line

theorem onlyChanges_poisonLine (s : State) (line : Nat) : OnlyChanges [.marks, .dict] s (s.poisonLine line) :=
  ((OnlyChanges.foldl (fun u _ => onlyChanges_setMark u _ _) s _).mono (by simp)).trans ((onlyChanges_bump _ _ _).mono (by simp))

theorem State.line_ne_of_mem_entryGone {line : Nat} {x : AdderEntry}
    (inside : x ∈ ((s.entryGone line).channel (chanOf line)).entries) : x.line ≠ line := by
  unfold State.entryGone State.dropEntry at inside
  rw [(onlyChanges_poisonLine _ _).channel (by simp), State.channel_onChannel_same] at inside
  split at inside
  next => simpa using (List.mem_filter.1 inside).2
  next none => exact fun same => none (List.any_eq_true.2 ⟨x, inside, by simp [same]⟩)

theorem State.mark_setMark (s : State) (k j : Nat) (m : LineMark) : (s.setMark k m).mark j = if j = k then m else s.mark j :=
  look_put LineMark.good s.marks k m j

/-- R211: a line written as poisoned reads as poisoned. -/
theorem State.badRange_poisonLine (s : State) (line : Nat) : (s.poisonLine line).badRange line 64 = true := by
  have first : (s.markRange line 64 .poisoned).mark (markKey (memKey (line + 8 * 0))) = .poisoned := by
    refine foldl_establishes (P := fun i (u : State) => u.mark (markKey (memKey (line + 8 * i))) = .poisoned) (fun j k u kept => ?_)
      (fun k u => ?_) _ (.inl (List.mem_range.2 (by decide)))
    · rw [State.mark_setMark]
      split
      exacts [rfl, kept]
    · rw [State.mark_setMark, if_pos rfl]
  rw [Nat.mul_zero] at first
  have kept : (s.poisonLine line).mark (markKey (memKey (line + 0))) = .poisoned :=
    (congrArg (look LineMark.good · _) ((onlyChanges_bump _ _ _).marks (by simp))).trans first
  exact List.any_eq_true.2 ⟨0, List.mem_range.2 (by decide), by rw [kept]; rfl⟩

theorem State.failEntry_some {ch n : Nat} {e : AdderEntry} (entry : (s.channel ch).entries[n]? = some e) : s.failEntry ch n =
    (s.entryGone e.line).recordOf 0xA007 8 (ctrlRegion (ch / 4)) (4 + n * 2 ^ 8) := by
  unfold State.failEntry
  rw [entry]
  rfl

/-! ### A waiter that goes on -/

/-- The state once the waiter `w` of a channel has gone on, its wait counted. -/
def State.opGone (s : State) (ch : Nat) (w : AdderWaiter) : State :=
  (s.surge w.key w.since).onChannel ch (fun c => { c with adderWait := c.adderWait.erase w, adderLast := w.source })

theorem onlyChanges_opGone (s : State) (ch : Nat) (w : AdderWaiter) : OnlyChanges [.dict, .channels] s (s.opGone ch w) :=
  ((onlyChanges_bump s _ _).mono (by simp)).trans ((onlyChanges_onChannel _ ch _).mono (by simp))

theorem State.channel_opGone (s : State) (ch : Nat) (w : AdderWaiter) : (s.opGone ch w).channel ch =
    { s.channel ch with adderWait := (s.channel ch).adderWait.erase w, adderLast := w.source } :=
  State.channel_onChannel_same _ ch _

theorem State.dv_opGone (s : State) (ch : Nat) (w : AdderWaiter) :
    (s.opGone ch w).dv w.key = (s.dv w.key + (s.now - w.since)) % 256 ^ entrySize w.key :=
  ((onlyChanges_onChannel _ ch _).dv (by simp) _).trans (State.dv_setDv_same _ _ _)

theorem State.admitAdd_goes {ch : Nat} {w : AdderWaiter} {ws : List AdderWaiter} {x : AddOut} (own : w.reply = none)
    (counted : w.key ≠ 0) (first : (s.opLines w.op).any (fun l => s.waitsAt l w.ord) = false)
    (goes : s.tryOp w.op .command s.node w.source = .done x) : s.admitAdd ch (w :: ws) = x.s.opGone ch w := by
  have stays : ¬ (s.opLines w.op).any (fun l => s.waitsAt l w.ord) = true := Bool.not_eq_true _ ▸ first
  dsimp only [State.admitAdd]
  rw [if_neg stays, own]
  dsimp only [Option.isSome_none]
  rw [if_neg Bool.false_ne_true, goes]
  dsimp only
  rw [if_neg counted]
  rfl

/-! ### Entries that write back -/

/-- Whether an entry has been idle for 256 cycles of its controller. -/
def State.idleEntry (s : State) (ch : Nat) (e : AdderEntry) : Bool :=
  decide (256 * 10 * [12, 10, 9, 8, 7, 6, 5, 4].getD (s.region (ctrlRegion (ch / 4))).point 4 ≤ (s.now - e.last) * 108)

/-- The state once the idle entries of a channel have left its list. -/
def State.idleGone (s : State) (ch : Nat) : State := s.setChannel ch { s.channel ch with
  entries := (s.channel ch).entries.filter (fun e => !((s.channel ch).entries.filter (s.idleEntry ch)).contains e) }

theorem State.writeBackEntries_some {ch : Nat} (idle : ∃ e ∈ (s.channel ch).entries, s.idleEntry ch e = true) :
    s.writeBackEntries ch = s.idleGone ch := by
  have some : (!((s.channel ch).entries.filter (s.idleEntry ch)).isEmpty) = true := by simpa using idle
  exact if_pos some

theorem State.writeBackEntries_none {ch : Nat} (busy : ∀ e ∈ (s.channel ch).entries, s.idleEntry ch e = false)
    (room : (s.channel ch).entries.length < 256) : s.writeBackEntries ch = s := by
  have none : ¬ (!((s.channel ch).entries.filter (s.idleEntry ch)).isEmpty) = true := by simpa using busy
  exact (if_neg none).trans (if_neg (not_le.2 room))

theorem State.mem_entries_idleGone {ch : Nat} {e : AdderEntry} :
    e ∈ ((s.idleGone ch).channel ch).entries ↔ e ∈ (s.channel ch).entries ∧ s.idleEntry ch e = false := by
  unfold State.idleGone
  rw [State.channel_setChannel, if_pos rfl, List.mem_filter]
  refine and_congr_right fun inside => ?_
  simp [inside]

/-! ### A contribution that finds its staging frame (R69) -/

/-- The state once the first contribution that waits for a staging frame has gone on. -/
def State.stageGone (s : State) (w : AdderOp × Nat) : State :=
  { s.surge 0x801300 w.2 with stageWait := (s.surge 0x801300 w.2).stageWait.erase w }

theorem onlyChanges_stageGone (s : State) (w : AdderOp × Nat) : OnlyChanges [.dict, .stageWait] s (s.stageGone w) := by
  intro f outside
  cases f <;> first | rfl | exact absurd (by simp) outside

theorem State.dv_stageGone (s : State) (w : AdderOp × Nat) :
    (s.stageGone w).dv 0x801300 = (s.dv 0x801300 + (s.now - w.2)) % 256 ^ entrySize 0x801300 :=
  State.dv_setDv_same s 0x801300 _

theorem State.grantStaging_goes {w : AdderOp × Nat} {ws : List (AdderOp × Nat)} {x : AddOut}
    (goes : s.tryOp w.1 .command s.node 0 = .done x) : s.grantStaging (w :: ws) = x.s.stageGone w := by
  dsimp only [State.grantStaging]
  rw [goes]
  rfl

end Waiting

/-- Settles O26: performed where `tryOp` is done, last at the ingress behind others, and what a waiter, an entry
and a staging frame leave. -/
theorem addersPerformOrQueue : Obligations.AddersPerformOrQueue := by
  unfold Obligations.AddersPerformOrQueue
  intro t rd s s1 now
  subst now
  refine ⟨fun a near o n v at' alone allowed free own read good => ⟨fun k data line width aligned whole => ?line,
      fun x atom width aligned => ?atom⟩,
    fun o behind => ?queued, fun o n e behind entry here => ?parity, fun ch w ws x order own counted first goes => ?goes,
    fun ch idle rule => ⟨fun some => ?idle, fun none room => ?busy⟩, fun w ws x waits goes => ?staged⟩
  case line =>
    subst line width read
    obtain ⟨performed, -⟩ := State.lineAdd_good (k := k) (data := data) good
    exact ⟨_, by rw [exec_adderOperation_done alone (State.tryOp_line at' aligned whole allowed free own), performed],
      State.mem_combined _ _ _ _, State.mem_entries_combined _ _ _ _⟩
  case atom =>
    subst atom width read
    exact ⟨_, by rw [exec_adderOperation_done alone (State.tryOp_atom at' aligned allowed free own), State.lineAtom_good good],
      State.mem_combined _ _ _ _, State.mem_entries_combined _ _ _ _⟩
  case queued =>
    refine ⟨_, by rw [exec_adderOperation_behind behind, State.queuedOp_eq], onlyChanges_lastIn _ _, ?_⟩
    exact congrArg Channel.adderWait (State.channel_lastIn (s.tick t) _)
  case parity =>
    have kept : (((s.tick t).queuedOp o).channel (((s.tick t).queuedOp o).opChannel o)).entries[n.val]? = some e := by
      rw [State.queuedOp_eq, State.opChannel_lastIn]
      exact (congrArg (·[n.val]?) (State.entries_lastIn (s.tick t) _)).trans entry
    exact ⟨_, _, by rw [exec_adderOperation_fails behind n, State.failEntry_some kept]; rfl, rfl,
      fun x => State.line_ne_of_mem_entryGone, fun _ _ => State.badRange_poisonLine _ _⟩
  case goes =>
    refine ⟨x.s.opGone ch w, ?_, onlyChanges_opGone _ ch w, ?_, ?_, State.dv_opGone _ ch w⟩
    · dsimp only [exec, execAdderAdmit]
      rw [order, State.admitAdd_goes own counted first goes]
    all_goals rw [State.channel_opGone]
  case idle =>
    have rule' : ∀ e, idle e ↔ (s.tick t).idleEntry ch e = true := fun e => (rule e).trans decide_eq_true_iff.symm
    obtain ⟨e, inside, rests⟩ := some
    refine ⟨(s.tick t).idleGone ch, ?_, ((onlyChanges_tick s t).mono (by simp)).trans ((onlyChanges_setChannel _ ch _).mono (by simp)),
      fun x => State.mem_entries_idleGone.trans (and_congr_right fun _ => ?_)⟩
    · dsimp only [exec, execAdderWriteBack]
      rw [State.writeBackEntries_some (s := s.tick t) ⟨e, inside, (rule' e).1 rests⟩]
    · rw [rule', Bool.not_eq_true]
  case busy =>
    have busy : ∀ e ∈ ((s.tick t).channel ch).entries, (s.tick t).idleEntry ch e = false :=
      fun e inside => decide_eq_false fun rests => none e inside ((rule e).2 rests)
    dsimp only [exec, execAdderWriteBack]
    rw [State.writeBackEntries_none busy room]
  case staged =>
    refine ⟨x.s.stageGone w, ?_, onlyChanges_stageGone _ w, rfl, State.dv_stageGone _ w⟩
    dsimp only [exec, execStagingFrameGrant]
    rw [waits, State.grantStaging_goes goes]

end Sys2Proof.Machine

/-! Scope of the block: ATOMIC and ADD packets on their way from their stream to the adder, and their answers (O59). -/

namespace Sys2Proof.Machine

section Streams
variable {s : State} {p : Packet} {k : ReqKind} {a near : Nat}

/-! ### The stream of a request that is next (R264, R265, R303) -/

/-- The request as its stream holds it: the companion's with the number of its arrival. -/
def State.numbered (s : State) (p : Packet) : Packet :=
  match p.via with
  | .fabric _ => p
  | .traek => { p with seq := BitVec.ofNat 32 (s.streamIn (inKey p)).next }

/-- The state once the stream of a request has taken it and passed it on. -/
def State.streamed (s : State) (k : ReqKind) (p : Packet) : State :=
  (s.onStreamIn (inKey p) (fun r => { r with held := r.held ++ [(k, p, s.now)] })).onStreamIn (inKey p) (fun r =>
    { r with next := (r.next + 1) % 2 ^ 32, held := r.held.erase (k, p, s.now) })

theorem onlyChanges_onStreamIn (s : State) (n : Nat) (f : StreamIn → StreamIn) : OnlyChanges [.streamsIn] s (s.onStreamIn n f) := by
  intro f outside
  cases f <;> first | rfl | exact absurd (List.mem_singleton.2 rfl) outside

theorem onlyChanges_streamed (s : State) (k : ReqKind) (p : Packet) : OnlyChanges [.streamsIn] s (s.streamed k p) :=
  (onlyChanges_onStreamIn s _ _).trans (onlyChanges_onStreamIn _ _ _)

theorem State.streamIn_onStreamIn_same (s : State) (n : Nat) (f : StreamIn → StreamIn) :
    (s.onStreamIn n f).streamIn n = f (s.streamIn n) :=
  look_put_same _ s.streamsIn n _

theorem State.endHoldback_now (s : State) (p : Packet) : s.endHoldback p s.now = s := by
  unfold State.endHoldback
  cases p.via with
  | traek => rfl
  | fabric n => exact if_neg (lt_irrefl _)

/-- A stream that holds nothing else passes on the request that is next in it. -/
theorem State.pump_next (empty : (s.streamIn (inKey p)).held = []) (whole : (s.streamIn (inKey p)).skipped = [])
    (next : p.seq.toNat = (s.streamIn (inKey p)).next) (may : s.flaggedReq k p = false ∨ s.unapplied (inKey p) = []) :
    State.pump (inKey p) 1 (s.onStreamIn (inKey p) (fun r => { r with held := r.held ++ [(k, p, s.now)] })) =
      (s.streamed k p).applyReq k p := by
  have stays : ¬ ((s.onStreamIn (inKey p) (fun r => { r with held := r.held ++ [(k, p, s.now)] })).flaggedReq k p &&
      !((s.onStreamIn (inKey p) (fun r => { r with held := r.held ++ [(k, p, s.now)] })).unapplied (inKey p)).isEmpty) = true := by
    change ¬ (s.flaggedReq k p && !(s.unapplied (inKey p)).isEmpty) = true
    obtain plain | none := may
    · simp [plain]
    · simp [none]
  unfold State.pump
  dsimp only
  rw [State.streamIn_onStreamIn_same, whole, empty]
  simp only [List.find?_nil, List.nil_append, List.find?_singleton, next, beq_self_eq_true, if_true]
  rw [if_neg stays]
  exact congrArg (State.applyReq · k p) (State.endHoldback_now (s.streamed k p) p)

theorem State.numbered_fabric {n : Fin 8} (via : p.via = .fabric n) : s.numbered p = p := by
  unfold State.numbered
  rw [via]

theorem State.numbered_traek (via : p.via = .traek) :
    s.numbered p = { p with seq := BitVec.ofNat 32 (s.streamIn (inKey p)).next } := by
  unfold State.numbered
  rw [via]

/-- A request that is the next of its stream starts at its local address. -/
theorem State.offerReq_arrives (arrives : Arrives s p k a) (sort : k = .atomic ∨ k = .add) : s.offerReq k p =
    (s.streamed k (s.numbered p)).startReq { kind := k, pkt := s.carried p a, line := a, since := s.now } := by
  obtain ⟨-, empty, whole, small, may, -, rights⟩ := arrives
  have kind : k ≠ .get ∧ k ≠ .mark := by obtain rfl | rfl := sort <;> decide
  cases via : p.via with
  | fabric n =>
    rw [via] at rights
    obtain ⟨next, own, grants, rfl⟩ := rights
    have d : (p.seq.toNat + 2 ^ 32 - (s.streamIn (inKey p)).next) % 2 ^ 32 = 0 := by omega
    have carried : s.carried p (p.addr.toNat % 2 ^ 48) = p := by
      unfold State.carried
      rw [via]
    rw [State.numbered_fabric via, carried]
    refine Eq.trans ?_ ((State.pump_next empty whole next may).trans ?_)
    · unfold State.offerReq
      simp only [via, empty, whole, d]
      rfl
    · unfold State.applyReq
      rw [via]
      dsimp only
      rw [if_neg (fun h => kind.1 h.1), show (s.streamed k p).isCompanion p.dst.toNat = false from own,
        show (s.streamed k p).inboundGrants p.src.toNat _ (pktBytes p) (kindBit k) = true from grants]
      rw [if_neg Bool.false_ne_true, if_pos rfl, if_neg kind.2]
      rfl
  | traek =>
    rw [via] at rights
    have next : (s.numbered p).seq.toNat = (s.streamIn (inKey p)).next := by
      rw [State.numbered_traek via]
      exact Nat.mod_eq_of_lt small
    have key : inKey (s.numbered p) = inKey p := by
      rw [State.numbered_traek via]
      rfl
    have may' : s.flaggedReq k (s.numbered p) = false ∨ s.unapplied (inKey (s.numbered p)) = [] := by
      rw [State.numbered_traek via]
      exact may
    rw [← key] at empty whole next
    refine Eq.trans ?_ ((State.pump_next empty whole next may').trans ?_)
    · rw [key] at empty whole
      unfold State.offerReq
      rw [via]
      dsimp only
      rw [empty, whole, key, State.numbered_traek via, via]
      rfl
    · have carried : { s.numbered p with addr := BitVec.ofNat 64 a } = s.carried p a := by
        unfold State.carried
        rw [State.numbered_traek via, via]
      have target : (s.streamed k (s.numbered p)).traekTarget (s.numbered p).addr.toNat (pktBytes (s.numbered p)) (kindBit k) = .inl a := by
        rw [State.numbered_traek via]
        exact rights
      have via' : (s.numbered p).via = .traek := by rw [State.numbered_traek via, via]
      unfold State.applyReq
      rw [via']
      dsimp only
      rw [if_neg kind.2, target, ← carried]
      dsimp only
      rw [via']
      rfl

theorem State.startReq_of_try {r : ChanReq} {u : State} (first : ∀ x ∈ s.lineWait, lineOf x.line ≠ lineOf r.line)
    (tried : s.tryReq r = (u, none)) : s.startReq r = u := by
  have none : ¬ s.lineWait.any (fun x => lineOf x.line == lineOf r.line) = true := by simpa using first
  unfold State.startReq
  rw [if_neg none, tried]

theorem State.tryReq_atomic {r : ChanReq} (at' : place r.line = .lpddr near) (awake : s.memoryAsleep near = false)
    (sort : r.kind = .atomic) : s.tryReq r = (s.atomicReq r, none) := by
  unfold State.tryReq
  rw [at']
  dsimp only
  rw [awake, if_neg Bool.false_ne_true, if_pos sort]

theorem State.tryReq_add {r : ChanReq} (at' : place r.line = .lpddr near) (awake : s.memoryAsleep near = false)
    (sort : r.kind = .add) : s.tryReq r = (s.addReq r, none) := by
  unfold State.tryReq
  rw [at']
  dsimp only
  rw [awake, if_neg Bool.false_ne_true, if_neg (by rw [sort]; decide), if_pos sort]

theorem State.request_arrives (arrives : Arrives s p k a) (sort : k = .atomic ∨ k = .add) : s.request k p =
    (((s.streamed k (s.numbered p)).startReq { kind := k, pkt := s.carried p a, line := a, since := s.now }).goOn).bufferFreed p
      (kindOp k) := by
  unfold State.request
  rw [State.arrive_reaches arrives.1, State.offerReq_arrives arrives sort]

theorem exec_atomic (s : State) (p : Packet) : exec (.atomic p) s = .next (s.request .atomic p) := rfl

/-- The request of a packet that has arrived. -/
def State.arrived (s : State) (k : ReqKind) (p : Packet) (a : Nat) : ChanReq :=
  { kind := k, pkt := s.carried p a, line := a, since := s.now }

/-- An ATOMIC that arrives at an LPDDR address is handed to the adder. -/
theorem exec_atomic_arrives (arrives : Arrives s p .atomic a) (at' : place a = .lpddr near) (free : s.FreeLine near) :
    exec (.atomic p) s = .next ((((s.streamed .atomic (s.numbered p)).atomicReq (s.arrived .atomic p a)).goOn).bufferFreed p 0x03) := by
  have handed : (s.streamed .atomic (s.numbered p)).startReq (s.arrived .atomic p a) =
      (s.streamed .atomic (s.numbered p)).atomicReq (s.arrived .atomic p a) := by
    obtain ⟨awake, -, -⟩ := free
    obtain ⟨-, -, -, -, -, first, -⟩ := arrives
    exact State.startReq_of_try (r := s.arrived .atomic p a) first
      (State.tryReq_atomic (r := s.arrived .atomic p a) at' awake rfl)
  rw [exec_atomic, State.request_arrives arrives (.inl rfl)]
  exact congrArg (fun u : State => Host.Outcome.next (u.goOn.bufferFreed p 0x03)) handed

theorem exec_addPacket (fabric : p.via ≠ .traek) : exec (.addPacket p) s = .next (s.request .add p) := by
  change Host.Outcome.next (s.fabricOnly .add p) = _
  unfold State.fabricOnly
  cases via : p.via with
  | traek => exact absurd via fabric
  | fabric n => rfl

theorem State.carried_fabric (fabric : p.via ≠ .traek) : s.carried p a = p := by
  unfold State.carried
  cases via : p.via with
  | traek => exact absurd via fabric
  | fabric n => rfl

theorem State.numbered_eq (fabric : p.via ≠ .traek) : s.numbered p = p := by
  cases via : p.via with
  | traek => exact absurd via fabric
  | fabric n => exact State.numbered_fabric via

/-- An ADD of the fabric that arrives at an LPDDR address is handed to the adders. -/
theorem exec_addPacket_arrives (fabric : p.via ≠ .traek) (arrives : Arrives s p .add a) (at' : place a = .lpddr near)
    (free : s.FreeLine near) : exec (.addPacket p) s = .next ((((s.streamed .add p).addReq
      { kind := .add, pkt := p, line := a, since := s.now }).goOn).bufferFreed p 0x04) := by
  have handed : (s.streamed .add p).startReq (s.arrived .add p a) = (s.streamed .add p).addReq (s.arrived .add p a) := by
    obtain ⟨awake, -, -⟩ := free
    obtain ⟨-, -, -, -, -, first, -⟩ := arrives
    exact State.startReq_of_try (r := s.arrived .add p a) first (State.tryReq_add (r := s.arrived .add p a) at' awake rfl)
  have request : s.arrived .add p a = { kind := .add, pkt := p, line := a, since := s.now } := by
    unfold State.arrived
    rw [State.carried_fabric fabric]
  rw [exec_addPacket fabric, State.request_arrives arrives (.inr rfl), State.numbered_eq fabric, ← request]
  exact congrArg (fun u : State => Host.Outcome.next (u.goOn.bufferFreed p 0x04)) handed

end Streams

section Requests
variable {s : State} {near a : Nat} {r : ChanReq}

/-! ### A request at the adder -/

theorem lt_of_place {a near : Nat} (at' : place a = .lpddr near) : a < 2 ^ 48 := by
  by_contra high
  unfold place at at'
  simp only [ite_eq_iff, reduceCtorEq, and_false, or_false] at at'
  omega

theorem toNat_ofNat_place {a near : Nat} (at' : place a = .lpddr near) : (BitVec.ofNat 48 a).toNat = a :=
  Nat.mod_eq_of_lt (lt_of_place at')

theorem chanOf_lineOf (near : Nat) : chanOf (lineOf near) = chanOf near := by
  unfold chanOf lineOf
  omega

/-- A line no agent outside has a copy of is the module's to write. -/
theorem State.access_free (still : s.snooping (lineOf near) = false) (uncopied : s.dirState (lineOf near) = .u) :
    s.access near true = (s, true) := by
  unfold State.access
  dsimp only
  rw [still, if_neg Bool.false_ne_true, uncopied]

theorem State.mem_wrBytes_congr (bs : List Byte) : ∀ {s u : State} (_ : u.mem = s.mem) (a : Nat),
    (u.wrBytes a bs).mem = (s.wrBytes a bs).mem := by
  induction bs with
  | nil => exact fun same _ => same
  | cons b bs ih => exact fun same a => ih (congrArg (fun m => put memDefault m (memKey a) b) same) (a + 1)

/-- Nothing keeps an operation of an agent outside on the line of `near` from its adder, and the line reads good. -/
structure State.Open (s : State) (near n : Nat) : Prop where
  allowed : s.memStatus near n .outside true = 0
  free : s.adderHold near = none
  still : s.snooping (lineOf near) = false
  uncopied : s.dirState (lineOf near) = .u
  unbuffered : ∀ e ∈ (s.channel (chanOf near)).wc, e.line ≠ lineOf near
  good : s.badRange (lineOf near) 64 = false

theorem State.Open.retireLine {n : Nat} (h : s.Open near n) {rd : LineRead} (clean : rd.errors = []) :
    s.retireLine (lineOf near) rd = s :=
  State.retireLine_clean ((chanOf_lineOf near).symm ▸ h.unbuffered) clean

/-- The state an open line's adder leaves. -/
def State.added (s : State) (near at' : Nat) (bs : List Byte) : State := (s.wakeChannel (chanOf near)).combined near at' bs

theorem State.mem_added (s : State) (near at' : Nat) (bs : List Byte) : (s.added near at' bs).mem = (s.wrBytes at' bs).mem :=
  (State.mem_combined _ _ _ _).trans (State.mem_wrBytes_congr bs ((onlyChanges_onChannel _ _ _).mem (by simp)) at')

theorem onlyChanges_added (s : State) (near at' : Nat) (bs : List Byte) : OnlyChanges [.mem, .channels] s (s.added near at' bs) :=
  ((onlyChanges_onChannel s _ _).mono (by simp)).trans (onlyChanges_combined _ _ _ _)

/-- An ATOMIC at an open line is performed and answered with the old value. -/
theorem State.atomicReq_done {x : Atom} {n old : Nat} (atom : packetAtom r.pkt = some x) (width : n = atomBytes x)
    (at' : place r.line = .lpddr near) (aligned : r.line % n = 0) (alone : s.behindOthers (.atom (BitVec.ofNat 48 r.line) x) = false)
    (clean : r.pkt.errors = []) (h : s.Open near n) (was : old = s.rdNat near n) :
    s.atomicReq r = (s.added near near (leBytes n (atomNew x old))).dataTo r.pkt (leBytes n old ++ List.replicate (64 - n) 0) := by
  subst width was
  have same := toNat_ofNat_place at'
  rw [← same] at at' aligned
  have done := State.tryOp_atom (node := s.requester r.pkt) (source := sourceOf r.pkt.via) (rd := replyRead (some r.pkt)) at' aligned
    h.allowed h.free (State.access_free h.still h.uncopied)
  rw [h.retireLine clean, State.lineAtom_good ((State.badRange_wakeChannel _ _ _ _).trans h.good), State.rdNat_wakeChannel] at done
  unfold State.atomicReq State.submitAdd
  rw [atom]
  dsimp only
  rw [State.submitTry_alone alone done]
  rfl

/-! ### The packets that wait -/

/-- The packets that wait at a channel's ingress. -/
def Channel.waiting (c : Channel) : List Packet :=
  c.ingress.map (·.pkt) ++ c.adderWait.filterMap (·.reply) ++ c.wcWait.filterMap (·.reply)

theorem mem_put {α : Type} [DecidableEq α] {d v : α} {m : Tbl α} {k : Nat} {e : Nat × α} (h : e ∈ put d m k v) :
    e = (k, v) ∨ e ∈ m := by
  unfold put at h
  split at h
  · exact .inr (List.mem_filter.1 h).1
  · exact mem_enter h

/-- What a table holds under a name is its default, or stands in it. -/
theorem look_eq_or_mem {α : Type} (d : α) (k : Nat) (m : Tbl α) : look d m k = d ∨ (k, look d m k) ∈ m := by
  induction m with
  | nil => exact .inl rfl
  | cons e m ih =>
    obtain ⟨n, w⟩ := e
    unfold look
    split
    next same => exact .inr (same ▸ List.mem_cons_self)
    next => exact ih.imp_right (List.mem_cons_of_mem _)

/-- A use of a channel that leaves the packets that wait there brings none to the channels. -/
theorem State.mem_waiting_of_onChannel {q : Packet} {ch : Nat} {f : Channel → Channel}
    (same : (f (s.channel ch)).waiting = (s.channel ch).waiting)
    (inside : q ∈ (s.onChannel ch f).channels.flatMap (·.2.waiting)) : q ∈ s.channels.flatMap (·.2.waiting) := by
  obtain ⟨e, row, waits⟩ := List.mem_flatMap.1 inside
  obtain rfl | before := mem_put row
  · rw [same] at waits
    obtain none | known := look_eq_or_mem {} ch s.channels
    · rw [State.channel, none] at waits
      exact absurd waits List.not_mem_nil
    · exact List.mem_flatMap.2 ⟨_, known, waits⟩
  · exact List.mem_flatMap.2 ⟨e, before, waits⟩

theorem State.not_mem_waitingPackets_onChannel {q : Packet} {ch : Nat} {f : Channel → Channel}
    (same : (f (s.channel ch)).waiting = (s.channel ch).waiting) (none : q ∉ s.waitingPackets) :
    q ∉ (s.onChannel ch f).waitingPackets := by
  simp only [State.waitingPackets, List.mem_append, not_or] at none ⊢
  obtain ⟨⟨⟨⟨lines, channels⟩, requests⟩, streams⟩, ports⟩ := none
  exact ⟨⟨⟨⟨lines, fun inside => channels (State.mem_waiting_of_onChannel same inside)⟩, requests⟩, streams⟩, ports⟩

theorem Channel.waiting_useEntry (c : Channel) (line now : Nat) : (c.useEntry line now).waiting = c.waiting := by
  unfold Channel.useEntry
  split <;> rfl

theorem State.waitingPackets_wrBytes (bs : List Byte) : ∀ (s : State) (a : Nat), (s.wrBytes a bs).waitingPackets = s.waitingPackets := by
  induction bs with
  | nil => exact fun _ _ => rfl
  | cons b bs ih => exact fun s a => ih (s.wr (memKey a) b) (a + 1)

theorem State.not_mem_waitingPackets_added {q : Packet} {at' : Nat} {bs : List Byte} (none : q ∉ s.waitingPackets) :
    q ∉ (s.added near at' bs).waitingPackets := by
  refine State.not_mem_waitingPackets_onChannel (Channel.waiting_useEntry _ _ _) ?_
  rw [State.waitingPackets_wrBytes]
  exact State.not_mem_waitingPackets_onChannel rfl none

/-! ### An ADD at an open line -/

theorem State.tryOp_add {k : AddKind} {data : List Byte} {rd : LineRead} {node source : Nat} {b : BitVec 48}
    (at' : place b.toNat = .lpddr near) (aligned : b.toNat % 64 = 0) (length : data.length = 64) (clean : rd.errors = [])
    (h : s.Open near 64) : ∃ x : AddOut, s.tryOp (.line b k data) .outside node source rd = .done x ∧ x.status = 0 ∧
      x.s = s.added near (lineOf near) (addBytes k (s.rdBytes (lineOf near) 64) data).1 := by
  have good : (s.wakeChannel (chanOf near)).badRange (lineOf near) 64 = false := (State.badRange_wakeChannel _ _ _ _).trans h.good
  obtain ⟨left, fine⟩ := State.lineAdd_good (k := k) (data := data) good
  refine ⟨_, State.tryOp_line at' aligned length h.allowed h.free (State.access_free h.still h.uncopied), ?_⟩
  rw [h.retireLine clean]
  exact ⟨fine, left⟩

theorem State.addReq_done {k : AddKind} (add : packetAdd r.pkt = some k) (short : r.pkt.length.toNat ≤ 1)
    (length : r.pkt.data.length = 64)
    (sound : r.pkt.poison = false) (at' : place r.line = .lpddr near) (aligned : r.line % 64 = 0)
    (alone : s.behindOthers (.line (BitVec.ofNat 48 r.line) k r.pkt.data) = false) (clean : r.pkt.errors = []) (h : s.Open near 64)
    (none : r.pkt ∉ s.waitingPackets) : s.addReq r =
      (s.added near (lineOf near) (addBytes k (s.rdBytes (lineOf near) 64) r.pkt.data).1).ackTo r.pkt := by
  have same := toNat_ofNat_place at'
  rw [← same] at at' aligned
  obtain ⟨x, done, fine, left⟩ := State.tryOp_add (k := k) (node := s.requester r.pkt) (source := sourceOf r.pkt.via)
    (rd := replyRead (some r.pkt)) at' aligned length clean h
  have one : List.range (max 1 r.pkt.length.toNat) = [0] := by rw [max_eq_left short]; rfl
  have whole : (r.pkt.data.drop (64 * 0)).take 64 = r.pkt.data := by
    rw [Nat.mul_zero, List.drop_zero, ← length, List.take_length]
  unfold State.addReq
  rw [add]
  dsimp only
  rw [one, sound]
  simp only [Bool.false_and, Bool.false_eq_true, if_false, List.foldl_cons, List.foldl_nil]
  simp only [whole, Nat.mul_zero, Nat.add_zero, State.submitTry_alone alone done]
  rw [fine, if_neg (by decide), left]
  exact if_neg fun waits => State.not_mem_waitingPackets_added none (List.contains_iff_mem.1 waits)

/-! ### What a stream's step leaves of an operation's way -/

theorem State.opLines_onStreamIn (s : State) (n : Nat) (f : StreamIn → StreamIn) (o : AdderOp) :
    (s.onStreamIn n f).opLines o = s.opLines o := by
  cases o with
  | line a k data => rfl
  | atom a x => rfl
  | book h first vals =>
    have mem : (s.onStreamIn n f).mem = s.mem := rfl
    unfold State.opLines State.elemBytes State.codeAt State.present State.blockAt State.dataAddr State.rdNat
    simp only [State.rdBytes_congr mem]
    rfl

theorem State.waitsAt_onStreamIn (s : State) (n : Nat) (f : StreamIn → StreamIn) (line ord : Nat) :
    (s.onStreamIn n f).waitsAt line ord = s.waitsAt line ord := by
  unfold State.waitsAt
  simp only [State.opLines_onStreamIn]
  rfl

theorem State.behindOthers_onStreamIn (s : State) (n : Nat) (f : StreamIn → StreamIn) (o : AdderOp) :
    (s.onStreamIn n f).behindOthers o = s.behindOthers o := by
  unfold State.behindOthers State.behindEntries
  simp only [State.opLines_onStreamIn, State.waitsAt_onStreamIn]
  rfl

theorem State.behindOthers_streamed (s : State) (k : ReqKind) (p : Packet) (o : AdderOp) :
    (s.streamed k p).behindOthers o = s.behindOthers o :=
  (State.behindOthers_onStreamIn _ _ _ o).trans (State.behindOthers_onStreamIn s _ _ o)

theorem State.Open.streamed {n : Nat} (h : s.Open near n) (k : ReqKind) (p : Packet) : (s.streamed k p).Open near n :=
  ⟨h.allowed, h.free, h.still, h.uncopied, h.unbuffered, h.good⟩

theorem State.mem_added_streamed (s : State) (k : ReqKind) (p : Packet) (near at' : Nat) (bs : List Byte) :
    ((s.streamed k p).added near at' bs).mem = (s.wrBytes at' bs).mem :=
  (State.mem_added _ _ _ _).trans (State.mem_wrBytes_congr bs ((onlyChanges_streamed s k p).mem (by simp)) at')

theorem onlyChanges_added_streamed (s : State) (k : ReqKind) (p : Packet) (near at' : Nat) (bs : List Byte) :
    OnlyChanges [.mem, .channels, .streamsIn] s ((s.streamed k p).added near at' bs) :=
  ((onlyChanges_streamed s k p).mono (by simp)).trans ((onlyChanges_added _ _ _ _).mono (by simp))

theorem State.rdBytes_streamed (s : State) (k : ReqKind) (p : Packet) (a n : Nat) : (s.streamed k p).rdBytes a n = s.rdBytes a n :=
  State.rdBytes_congr ((onlyChanges_streamed s k p).mem (by simp)) n a

theorem State.carried_same (s : State) (p : Packet) (a : Nat) : packetAtom (s.carried p a) = packetAtom p ∧
    (s.carried p a).errors = p.errors := by
  unfold State.carried
  split <;> exact ⟨rfl, rfl⟩

end Requests

/-- Settles O59: a packet that is next in its stream reaches the adder at its local address, is performed there and is answered. -/
theorem atomicsAndAddsComplete : Obligations.AtomicsAndAddsComplete := by
  unfold Obligations.AtomicsAndAddsComplete
  intro s p a near at' line free uncopied unbuffered clean good
  obtain ⟨atomOf, errorsOf⟩ := s.carried_same p a
  have ⟨_, still, _⟩ := line
  have openLine : ∀ n, s.memStatus near n .outside true = 0 → s.Open near n :=
    fun n allowed => ⟨allowed, free, still, uncopied, unbuffered, good⟩
  refine ⟨fun x arrives atom aligned allowed alone n old width was => ?atomic, fun fabric arrives => ⟨?handed,
    fun k add short length sound aligned allowed alone none => ?added⟩⟩
  case atomic =>
    subst width
    refine ⟨(s.streamed .atomic (s.numbered p)).added near near (leBytes (atomBytes x) (atomNew x old)), ?_,
      onlyChanges_added_streamed _ _ _ _ _ _, State.mem_added_streamed _ _ _ _ _ _⟩
    rw [exec_atomic_arrives arrives at' line, State.atomicReq_done (r := s.arrived .atomic p a) (atomOf.trans atom) rfl at' aligned
      ((State.behindOthers_streamed s _ _ _).trans alone) (errorsOf.trans clean) ((openLine _ allowed).streamed _ _)
      (was.trans (congrArg leNat (State.rdBytes_streamed s _ _ _ _)).symm)]
    rfl
  case handed =>
    exact ⟨s.streamed .add p, exec_addPacket_arrives fabric arrives at' line, onlyChanges_streamed s _ p⟩
  case added =>
    refine ⟨(s.streamed .add p).added near (lineOf near) (addBytes k (s.rdBytes (lineOf near) 64) p.data).1, ?_,
      onlyChanges_added_streamed _ _ _ _ _ _, State.mem_added_streamed _ _ _ _ _ _⟩
    have done := State.addReq_done (s := s.streamed .add p) (r := { kind := .add, pkt := p, line := a, since := s.now }) add short
      length sound at' aligned ((State.behindOthers_streamed s _ _ _).trans alone) clean ((openLine _ allowed).streamed _ _) none
    rw [exec_addPacket_arrives fabric arrives at' line, done, State.rdBytes_streamed]

end Sys2Proof.Machine

/-! Scope of the block: frames that the rows of the transfer engine share (chapter 09): what packets on their way out, reads in error
and closes of epochs change. -/

namespace Sys2Proof.Machine

/-- A change of some fields goes on with a change of fewer. -/
theorem OnlyChanges.next {fs gs : List Field} {s u v : State} (h : OnlyChanges fs s u) (g : OnlyChanges gs u v)
    (within : gs ⊆ fs := by decide) : OnlyChanges fs s v :=
  h.trans (g.mono within)

theorem OnlyChanges.ite {fs : List Field} {s u v : State} {c : Prop} [Decidable c] (h : OnlyChanges fs s u)
    (g : OnlyChanges fs s v) : OnlyChanges fs s (if c then u else v) := by
  split
  · exact h
  · exact g

theorem OnlyChanges.now {fs : List Field} {s u : State} (h : OnlyChanges fs s u) (outside : Field.now ∉ fs := by decide) :
    u.now = s.now :=
  h .now outside

theorem OnlyChanges.cluster {fs : List Field} {s u : State} (h : OnlyChanges fs s u) (outside : Field.clusters ∉ fs := by decide)
    (c : Nat) : u.cluster c = s.cluster c :=
  congrArg (fun cs => look ({} : Cluster) cs c) (h .clusters outside)

section Frames
variable (s : State)

/-! ### One field -/

theorem onlyChanges_send (e : Egress) : OnlyChanges [.egress] s (s.send e) := by
  intro f outside
  cases f
  case egress => exact absurd List.mem_cons_self outside
  all_goals rfl

theorem onlyChanges_onPort (p : Nat) (g : Port → Port) : OnlyChanges [.ports] s (s.onPort p g) := by
  intro f outside
  cases f
  case ports => exact absurd List.mem_cons_self outside
  all_goals rfl

theorem onlyChanges_onTraek (g : Traek → Traek) : OnlyChanges [.traek] s (s.onTraek g) := by
  intro f outside
  cases f
  case traek => exact absurd List.mem_cons_self outside
  all_goals rfl

theorem onlyChanges_windows (ws : List Window) : OnlyChanges [.windows] s { s with windows := ws } := by
  intro f outside
  cases f
  case windows => exact absurd List.mem_cons_self outside
  all_goals rfl

theorem onlyChanges_surge (key since : Nat) : OnlyChanges [.dict] s (s.surge key since) := onlyChanges_bump s key _

theorem onlyChanges_onTensor (h : Nat) (g : Tensor → Tensor) : OnlyChanges [.tensors] s (s.onTensor h g) :=
  onlyChanges_setTensor s h _

theorem onlyChanges_onPackage (p : Nat) (g : Package → Package) : OnlyChanges [.packages] s (s.onPackage p g) :=
  onlyChanges_setPackage s p _

/-! ### A packet and a message on their way out (R254, R300) -/

/-- The fields that a packet at the sender of a port may change; a NAK is no request, so these are fewer than `netFields`. -/
def portFields : List Field := [.egress, .dict, .ports]

theorem portFrame_packetOut (p : Nat) (w : OutWait) : OnlyChanges portFields s (s.packetOut p w) := by
  have waited : OnlyChanges portFields s (match w.short with | some a => s.surge (0x500C01 + p) a | none => s) := by
    split
    · exact (OnlyChanges.refl _ s).next (onlyChanges_surge s _ _)
    · exact OnlyChanges.refl _ s
  have flit : ∀ (v : State) (load : List Byte), OnlyChanges portFields v (v.flitOut p load) := fun v _ =>
    ((OnlyChanges.refl _ v).next (onlyChanges_onPort v p _)).next (onlyChanges_send _ _)
  exact (((waited.next (onlyChanges_send _ _)).next (onlyChanges_onPort _ p _)).trans (OnlyChanges.foldl flit _ _)).next
    (onlyChanges_onPort _ p _)

theorem portFrame_drainPort (p n : Nat) : ∀ s : State, OnlyChanges portFields s (State.drainPort n s p) := by
  induction n with
  | zero => exact OnlyChanges.refl _
  | succ n ih =>
    intro s
    unfold State.drainPort
    split
    · exact (portFrame_packetOut s p _).trans (ih _)
    · exact OnlyChanges.refl _ s

theorem portFrame_egressPort (p : Nat) (e : Egress) : OnlyChanges portFields s (s.egressPort p e) :=
  (((((OnlyChanges.refl _ s).next (onlyChanges_onPort s p _)).trans (portFrame_drainPort p _ _)).next
    (onlyChanges_onPort _ p _))).next (onlyChanges_bump _ _ _)

/-- The fields that a message at the sender of the Traek link may change. -/
def traekFields : List Field := [.egress, .dict, .traek]

theorem traekFrame_messageOut (w : OutWait) : OnlyChanges traekFields s (s.messageOut w) := by
  have waited : OnlyChanges traekFields s (match w.short with | some a => s.surge (0x503501 + w.cls) a | none => s) := by
    split
    · exact (OnlyChanges.refl _ s).next (onlyChanges_surge s _ _)
    · exact OnlyChanges.refl _ s
  have flit : ∀ (v : State) (load : List Byte), OnlyChanges traekFields v (v.traekFlitOut load) := fun v _ =>
    ((OnlyChanges.refl _ v).next (onlyChanges_onTraek v _)).next (onlyChanges_send _ _)
  exact ((waited.next (onlyChanges_send _ _)).next (onlyChanges_onTraek _ _)).trans (OnlyChanges.foldl flit _ _)

theorem traekFrame_drainTraek (n : Nat) : ∀ s : State, OnlyChanges traekFields s (State.drainTraek n s) := by
  induction n with
  | zero => exact OnlyChanges.refl _
  | succ n ih =>
    intro s
    unfold State.drainTraek
    split
    · exact (traekFrame_messageOut s _).trans (ih _)
    · exact OnlyChanges.refl _ s

theorem traekFrame_sendTraek (op tag addr lines status : Nat) (poison : Bool) (data : List Byte) :
    OnlyChanges traekFields s (s.sendTraek op tag addr lines status poison data) := by
  have short : ∀ v : State, OnlyChanges traekFields v v.traekShort := fun v =>
    ((OnlyChanges.refl _ v).next (onlyChanges_onTraek v _)).trans
      (OnlyChanges.foldl (fun u k => (OnlyChanges.refl _ u).next (onlyChanges_bump u _ _)) _ _)
  exact (((OnlyChanges.refl _ s).next (onlyChanges_onTraek s _)).trans (traekFrame_drainTraek _ _)).trans (short _)

/-! ### A read that does not decode (R210, R228, R229) -/

/-- The fields that a line read that does not decode, and what follows it, may change. -/
def badReadFields : List Field :=
  [.egress, .marks, .dict, .log, .logSeq, .tensors, .channels, .packages, .ports, .traek, .mgmt]

theorem badReadFrame_nakTo (p : Packet) (status : Nat) : OnlyChanges badReadFields s (s.nakTo p status) := by
  unfold State.nakTo State.respond
  split
  · split
    · exact (traekFrame_sendTraek s _ _ _ _ _ _ _).mono (by decide)
    · exact OnlyChanges.refl _ s
  · unfold State.sendBack State.sendFrom
    split
    · exact OnlyChanges.refl _ s
    · exact (portFrame_egressPort s _ _).mono (by decide)

theorem badReadFrame_failWaiting (p st : Nat) : OnlyChanges badReadFields s (s.failWaiting p st) := by
  have naks {β : Type} (pkt : β → Packet) (xs : List β) (v : State) :
      OnlyChanges badReadFields v (xs.foldl (fun v r => v.nakTo (pkt r) st) v) :=
    OnlyChanges.foldl (fun u r => badReadFrame_nakTo u (pkt r) st) v xs
  refine OnlyChanges.foldl (fun v c => ?_) s _
  exact ((((OnlyChanges.refl _ v).next (onlyChanges_setChannel v c _)).trans (naks ChanReq.pkt _ _)).trans
    (naks id _ _)).trans (naks id _ _)

theorem badReadFrame_recordOf (cls unit region syndrome : Nat) :
    OnlyChanges badReadFields s (s.recordOf cls unit region syndrome) :=
  (recordFrame_record s _).mono (by decide)

theorem badReadFrame_takeOffline (p ch cause : Nat) : OnlyChanges badReadFields s (s.takeOffline p ch cause) := by
  have lose : ∀ (v : State) (h : Nat), OnlyChanges badReadFields v (v.loseTensor h 8 (ctrlRegion p)) := fun v h =>
    ((OnlyChanges.refl _ v).next (onlyChanges_onTensor v h _)).trans (badReadFrame_recordOf _ _ _ _ _)
  unfold State.takeOffline
  split
  · exact OnlyChanges.refl _ s
  · exact ((((((OnlyChanges.refl _ s).next (onlyChanges_onPackage s p _)).trans (badReadFrame_recordOf _ _ _ _ _)).next
      (onlyChanges_setDv _ _ _)).trans (OnlyChanges.foldl lose _ _))).trans (badReadFrame_failWaiting _ _ _)

theorem badReadFrame_noteLineUE (near : Nat) : OnlyChanges badReadFields s (s.noteLineUE near) := by
  have noted (k : Channel) : OnlyChanges badReadFields s (s.setChannel (chanOf near) k) :=
    (OnlyChanges.refl _ s).next (onlyChanges_setChannel s _ k)
  unfold State.noteLineUE
  dsimp only
  split
  · exact OnlyChanges.refl _ s
  split
  · exact (noted _).trans (badReadFrame_takeOffline _ _ _ _)
  · exact noted _

theorem badReadFrame_lineUE (near cls source : Nat) : OnlyChanges badReadFields s (s.lineUE near cls source) :=
  ((((OnlyChanges.refl _ s).next (onlyChanges_setMark s _ _)).next (onlyChanges_bump _ _ _)).trans
    (badReadFrame_recordOf _ _ _ _ _)).trans (badReadFrame_noteLineUE _ _)

theorem badReadFrame_readBad (near : Nat) : OnlyChanges badReadFields s (s.readBad near) := by
  unfold State.readBad
  split
  · exact badReadFrame_lineUE s near 0x4002 0
  · exact badReadFrame_lineUE s near 0x4003 0
  · exact OnlyChanges.refl _ s

/-! ### Reads in error of a command (R210, R421) -/

/-- The fields that the words and lines in error that a command reads may change. -/
def readFields : List Field := .mem :: .windows :: badReadFields

theorem readFrame_wrBytes (a : Nat) (bs : List Byte) : OnlyChanges readFields s (s.wrBytes a bs) :=
  (onlyChanges_wrBytes bs s a).mono (by decide)

theorem readFrame_setMark (k : Nat) (m : LineMark) : OnlyChanges readFields s (s.setMark k m) :=
  (onlyChanges_setMark s k m).mono (by decide)

theorem readFrame_recordCE (e : ErrRecord) (source : Nat) : OnlyChanges readFields s (s.recordCE e source) := by
  unfold State.recordCE
  split
  · exact (onlyChanges_windows s _).mono (by decide)
  · exact ((OnlyChanges.refl _ s).next (recordFrame_record s e)).next (onlyChanges_windows _ _)

theorem readFrame_lineUE (near cls : Nat) : OnlyChanges readFields s (s.lineUE near cls) :=
  (badReadFrame_lineUE s near cls 0).mono (by decide)

theorem readFrame_lineCE (near n : Nat) : OnlyChanges readFields s (s.lineCE near n) :=
  (((OnlyChanges.refl _ s).next (onlyChanges_bump s _ _)).next (onlyChanges_bump _ _ _)).trans (readFrame_recordCE _ _ _)

theorem readFrame_decodeLine (near : Nat) (r : LineRead) : OnlyChanges readFields s (s.decodeLine near r) := by
  unfold State.decodeLine
  split
  · exact readFrame_setMark s _ _
  · exact readFrame_setMark s _ _
  · exact readFrame_lineUE s _ _
  · exact readFrame_lineUE s _ _
  · exact ((readFrame_wrBytes s _ _).trans (readFrame_setMark _ _ _)).trans (readFrame_lineCE _ _ _)

theorem readFrame_senseLine (near : Nat) (r : LineRead) : OnlyChanges readFields s (s.senseLine near r) := by
  unfold State.senseLine
  split
  · exact OnlyChanges.refl _ s
  split
  · exact readFrame_setMark s _ _
  · exact readFrame_setMark s _ _
  · exact readFrame_decodeLine s near r

theorem readFrame_readWord (x : WordRead) : OnlyChanges readFields s (s.readWord x) := by
  unfold State.readWord
  dsimp only
  split
  · split
    · exact OnlyChanges.refl _ s
    · split
      · exact OnlyChanges.refl _ s
      · exact readFrame_recordCE s _ _
      · split
        · exact readFrame_wrBytes s _ _
        · split
          · exact readFrame_setMark s _ _
          · split
            · exact (readFrame_wrBytes s _ _).trans (readFrame_recordCE _ _ _)
            · exact (readFrame_setMark s _ _).trans ((recordFrame_record _ _).mono (by decide))
  · exact OnlyChanges.refl _ s

theorem readFrame_readErrors (rd : CmdRead) : OnlyChanges readFields s (s.readErrors rd) := by
  refine (OnlyChanges.foldl readFrame_readWord s _).trans (OnlyChanges.foldl (fun v x => ?_) _ _)
  split
  · exact readFrame_senseLine v _ _
  · exact OnlyChanges.refl _ v

/-! ### Elements and the scale plane (R60, R61, R161) -/

theorem onlyChanges_setScale (hdr b e : Nat) : OnlyChanges [.mem] s (s.setScale hdr b e) := onlyChanges_wrBytes _ s _

theorem onlyChanges_setState (hdr b v : Nat) : OnlyChanges [.mem] s (s.setState hdr b v) := onlyChanges_wrBytes _ s _

theorem onlyChanges_chanMax (hdr ch e : Nat) : OnlyChanges [.mem] s (s.chanMax hdr ch e) := onlyChanges_wrBytes _ s _

theorem onlyChanges_setHist (hdr b v : Nat) : OnlyChanges [.mem] s (s.setHist hdr b v) := by
  unfold State.setHist
  split
  · exact OnlyChanges.refl _ s
  · exact onlyChanges_wrBytes _ s _

theorem onlyChanges_setPresent (d : Line) (b : Nat) (on : Bool) : OnlyChanges [.mem] s (s.setPresent d b on) := by
  unfold State.setPresent
  split
  · exact OnlyChanges.refl _ s
  · exact (onlyChanges_wrBytes _ s _).trans (onlyChanges_wrBytes _ _ _)

theorem onlyChanges_moveBlocks (d : Line) (b : Nat) (enter : Bool) : OnlyChanges [.mem] s (s.moveBlocks d b enter) := by
  unfold State.moveBlocks
  split
  · dsimp only
    split
    · exact ((onlyChanges_wrBytes _ s _).trans (onlyChanges_wrBytes _ _ _)).trans (onlyChanges_setPresent _ _ _ _)
    · exact (onlyChanges_wrBytes _ s _).trans (onlyChanges_setPresent _ _ _ _)
  · exact OnlyChanges.refl _ s

theorem onlyChanges_putCode (d : Line) (plane idx code : Nat) : OnlyChanges [.mem] s (s.putCode d plane idx code) := by
  unfold State.putCode
  split
  · exact OnlyChanges.refl _ s
  split
  · exact onlyChanges_wrBytes [_] s _
  · exact onlyChanges_wrBytes _ s _

theorem onlyChanges_wrCode (d : Line) (plane idx code : Nat) : OnlyChanges [.mem] s (s.wrCode d plane idx code) := by
  have entered (c : Bool) :
      OnlyChanges [.mem] s ((if c then s.moveBlocks d (blockOf d idx).1 true else s).putCode d plane idx code) :=
    (OnlyChanges.ite (onlyChanges_moveBlocks s _ _ _) (OnlyChanges.refl _ s)).trans (onlyChanges_putCode _ _ _ _ _)
  exact .ite (.ite ((entered _).trans (onlyChanges_moveBlocks _ _ _ _)) (entered _)) (onlyChanges_putCode s _ _ _ _)

theorem onlyChanges_wrZeros (d : Line) (plane b : Nat) (vs : List Val) : OnlyChanges [.mem] s (s.wrZeros d plane b vs) :=
  OnlyChanges.foldl (fun v _ => onlyChanges_wrCode v _ _ _ _) s _

theorem onlyChanges_wrCodes (a : Acc) (h : Nat) (d : Line) (plane : Nat) (w : Writer) (b e : Nat) (vs : List Val) :
    OnlyChanges [.mem] a.s (State.wrCodes a h d plane w b e vs).s :=
  foldl_keeps (fun x y : Acc => OnlyChanges [.mem] x.s y.s) (fun x => OnlyChanges.refl _ x.s) (fun _ _ _ => OnlyChanges.trans) _ _
    (fun x _ _ => onlyChanges_wrCode x.s _ _ _ _) a

/-! ### The close and the opening of an epoch (R65, R67) -/

/-- The fields that the close of an epoch may change. -/
def closeFields : List Field := [.mem, .dict, .tensors, .channels]

theorem onlyChanges_setPlanes (hdr b e x y : Nat) : OnlyChanges [.mem] s (((s.setScale hdr b e).setState hdr b x).setHist hdr b y) :=
  ((onlyChanges_setScale s _ _ _).trans (onlyChanges_setState _ _ _ _)).trans (onlyChanges_setHist _ _ _ _)

theorem onlyChanges_largest (d : Line) (hdr ch e : Nat) : OnlyChanges [.mem] s (if descOutlier d then s.chanMax hdr ch e else s) :=
  .ite (onlyChanges_chanMax s _ _ _) (OnlyChanges.refl _ s)

theorem closeFrame_closeBlock (h b : Nat) (first : Bool) : OnlyChanges closeFields s (s.closeBlock h b first).1 := by
  have still := OnlyChanges.refl closeFields s
  have unshadowed (g : Tensor → Tensor) := still.next (onlyChanges_onTensor s h g)
  have scaled (hdr e x y : Nat) := still.next (onlyChanges_setPlanes s hdr b e x y)
  unfold State.closeBlock
  dsimp only
  split
  · exact still
  split
  · split
    · exact still
    split <;> dsimp only
    · exact ((unshadowed _).next (onlyChanges_wrZeros _ _ _ _ _)).next (onlyChanges_setPlanes _ _ _ _ _ _)
    · exact (((unshadowed _).next (onlyChanges_wrCodes _ _ _ _ _ _ _ _)).next (onlyChanges_setPlanes _ _ _ _ _ _)).next
        (onlyChanges_largest _ _ _ _ _)
  split
  · exact ((scaled _ _ _ _).next (onlyChanges_largest _ _ _ _ _)).next (onlyChanges_bump _ _ _)
  split
  · exact still.next (onlyChanges_setState s _ _ _)
  · dsimp only
    exact .ite (((scaled _ _ _ _).next (onlyChanges_largest _ _ _ _ _)).next (onlyChanges_bump _ _ _))
      ((scaled _ _ _ _).next (onlyChanges_largest _ _ _ _ _))

theorem closeFrame_closeBlocks (h : Nat) (bs : List Nat) : OnlyChanges closeFields s (s.closeBlocks h bs).1 := by
  have dropped (d : Line) (idxs : List Nat) : OnlyChanges closeFields s (s.dropEntries d idxs) :=
    OnlyChanges.foldl (fun v _ => (OnlyChanges.refl _ v).next (onlyChanges_onChannel v _ _)) s _
  have closed (first : Bool) (x : State × Nat) : OnlyChanges closeFields x.1 (bs.foldl (fun acc b =>
      ((acc.1.closeBlock h b first).1, acc.2 + (acc.1.closeBlock h b first).2)) x).1 :=
    foldl_keeps (fun x y : State × Nat => OnlyChanges closeFields x.1 y.1) (fun x => OnlyChanges.refl _ x.1)
      (fun _ _ _ => OnlyChanges.trans) (fun acc b => ((acc.1.closeBlock h b first).1, acc.2 + (acc.1.closeBlock h b first).2)) bs
      (fun x b _ => closeFrame_closeBlock x.1 h b first) x
  unfold State.closeBlocks
  split
  · exact OnlyChanges.refl _ s
  · exact ((dropped _ _).trans (closed _ (_, 0))).next (onlyChanges_onTensor _ _ _)

theorem closeFrame_openEpoch (h : Nat) : OnlyChanges closeFields s (s.openEpoch h) := by
  unfold State.openEpoch
  split
  · split
    · refine OnlyChanges.next ?_ (onlyChanges_onTensor _ h _)
      split
      · exact closeFrame_closeBlocks s h _
      · exact OnlyChanges.refl _ s
    · exact OnlyChanges.refl _ s
  · exact OnlyChanges.refl _ s

/-! ### The start of a command (R65, R174) -/

/-- The fields that a command that enters its engine may change. -/
def enterFields : List Field := .queues :: closeFields

theorem enterFrame_enter (q : Nat) (st : Started) : OnlyChanges enterFields s (s.enter q st) := by
  have cooled : OnlyChanges enterFields s (s.endHot q) := by
    unfold State.endHot
    split
    · exact ((OnlyChanges.refl _ s).next (onlyChanges_surge s _ _)).next (onlyChanges_onQueue _ q _)
    · exact OnlyChanges.refl _ s
  exact (((cooled.next (onlyChanges_advance _ q)).next (onlyChanges_nameSlot _ q _)).next (onlyChanges_onQueue _ q _)).next
    (OnlyChanges.foldl closeFrame_openEpoch _ _)

end Frames
end Sys2Proof.Machine
/-! Scope of the block: the end of a transfer: its read-back, its remote signal, what it leaves behind (O32). -/

namespace Sys2Proof.Machine

/-! ### The end of a transfer (R244, R245) -/

section TransferEnds
variable {s : State} {q id : Nat} {st : Started} {w : TransferWork}

/-- What queue and number name is a started command whose work is a transfer that is not over. -/
theorem State.transferOf_eq_some (h : s.transferOf q id = some (st, w)) :
    s.startedOf q id = some st ∧ st.work = .transfer w ∧ st.done = false := by
  obtain ⟨x, found, isTransfer⟩ := Option.bind_eq_some_iff.1 h
  split at isTransfer
  next work =>
    split at isTransfer
    · cases isTransfer
    next going =>
      cases isTransfer
      exact ⟨found, work, Bool.not_eq_true _ ▸ going⟩
  · cases isTransfer

/-- The state in which a transfer is no longer on its channel. -/
def State.offChannel (s : State) (w : TransferWork) : State :=
  match w.chan with
  | some n => s.setChan w.cluster n { s.chan w.cluster n with job := none }
  | none => s

theorem onlyChanges_offChannel (s : State) (w : TransferWork) : OnlyChanges [.clusters] s (s.offChannel w) := by
  unfold State.offChannel
  split
  · exact onlyChanges_onCluster s _ _
  · exact OnlyChanges.refl _ s

theorem State.chan_setChan_same (s : State) (c n : Nat) (x : XferChan) : (s.setChan c n x).chan c n = x := by
  unfold State.chan State.setChan Cluster.chan
  rw [State.cluster_onCluster_same, look_put, if_pos rfl]

theorem State.chan_offChannel {n : Nat} (on : w.chan = some n) : ((s.offChannel w).chan w.cluster n).job = none := by
  unfold State.offChannel
  rw [on]
  exact congrArg XferChan.job (State.chan_setChan_same s _ _ _)

/-- What the end of a transfer leaves of its command. -/
def Started.transferred (x : Started) (r : Nat × Nat × Nat) (cluster status : Nat) (silent : Bool) : Started :=
  { x with
    done := true, status := if status = 0 then x.status else status, failHandle := r.1, failAddr := r.2.1, failValue := r.2.2,
    work := .none, engine := some (64 + cluster), silent := silent }

/-- The end of a transfer, step by step. -/
theorem State.endTransfer_eq (s : State) (q id op : Nat) (st : Started) (w : TransferWork) (status : Nat) (silent : Bool) :
    s.endTransfer q id op st w status silent =
      (((((s.offChannel w).bump 0xA05000 1).xferFree w.cluster (s.xLines op st.cmd - w.next)).onRegion w.cluster
        (fun x => { x with idleSince := s.now })).onStarted q id
          (fun x => x.transferred (s.transferReport q st w op) w.cluster status silent)) := rfl

theorem State.startedOf_endTransfer (h : s.startedOf q id = some st) (op status : Nat) (silent : Bool) :
    (s.endTransfer q id op st w status silent).startedOf q id =
      some (st.transferred (s.transferReport q st w op) w.cluster status silent) := by
  have queues : (s.offChannel w).queues = s.queues := onlyChanges_offChannel s w .queues (by decide)
  exact State.startedOf_onStarted (f := fun x => x.transferred _ _ _ _) (fun _ => rfl)
    ((State.startedOf_congr queues q id).trans h)

/-- R246: the count of completed transfers rises by one. -/
theorem State.dv_endTransfer (s : State) (q id op : Nat) (st : Started) (w : TransferWork) (status : Nat) (silent : Bool) :
    (s.endTransfer q id op st w status silent).dv 0xA05000 = (s.dv 0xA05000 + 1) % 256 ^ entrySize 0xA05000 :=
  calc (s.endTransfer q id op st w status silent).dv 0xA05000
    _ = ((s.offChannel w).bump 0xA05000 1).dv 0xA05000 := rfl
    _ = ((s.offChannel w).dv 0xA05000 + 1) % 256 ^ entrySize 0xA05000 := State.dv_setDv_same ..
    _ = (s.dv 0xA05000 + 1) % 256 ^ entrySize 0xA05000 := by rw [(onlyChanges_offChannel s w).dv (by decide)]

theorem State.chan_endTransfer {n : Nat} (on : w.chan = some n) (op status : Nat) (silent : Bool) :
    ((s.endTransfer q id op st w status silent).chan w.cluster n).job = none := by
  have freed : ((((s.offChannel w).bump 0xA05000 1).xferFree w.cluster (s.xLines op st.cmd - w.next)).cluster w.cluster).chans =
      ((s.offChannel w).cluster w.cluster).chans := by
    unfold State.xferFree
    rw [State.cluster_onCluster_same]
    rfl
  rw [← State.chan_offChannel (s := s) on]
  exact congrArg (fun cs : Tbl XferChan => (look ({} : XferChan) cs n).job) freed

/-! ### The read-back (R242) -/

/-- The state in which the line that was read back has been looked at: where the access is denied, or the line does not decode, that
is recorded. -/
def State.backRead (s : State) (q id : Nat) (st : Started) : State :=
  match s.lastLine st.op st.cmd with
  | some (.here a, n) =>
    if s.memStatus a n .command false = St.memoryDenied then s.faultOf (s.originOf q id) 1 a 4 St.memoryDenied
    else (match place a with | .lpddr near => s.readBad near | _ => s)
  | _ => s

theorem badReadFrame_faultOf (s : State) (o : Origin) (kind addr unit status : Nat) :
    OnlyChanges badReadFields s (s.faultOf o kind addr unit status) := by
  unfold State.faultOf
  split
  · exact (recordFrame_record s _).mono (by decide)
  · exact (recordFrame_record s _).mono (by decide)

theorem badReadFrame_backRead (s : State) (q id : Nat) (st : Started) : OnlyChanges badReadFields s (s.backRead q id st) := by
  unfold State.backRead
  split
  · refine .ite (badReadFrame_faultOf s _ _ _ _ _) ?_
    split
    · exact badReadFrame_readBad s _
    · exact OnlyChanges.refl _ s
  · exact OnlyChanges.refl _ s

theorem State.returnBack_other (found : s.transferOf q id = some (st, w)) (other : w.phase ≠ 1) : s.returnBack q id = s := by
  simp only [State.returnBack, found, if_neg other]

theorem State.returnBack_early (found : s.transferOf q id = some (st, w)) (back : w.phase = 1) (early : s.backStatus st w = none) :
    s.returnBack q id = s := by
  simp only [State.returnBack, found, if_pos back, early]

/-- R242: the read-back that returned ends its transfer, or lets its remote signal be sent. -/
theorem State.returnBack_back {bad : Bool} (found : s.transferOf q id = some (st, w)) (back : w.phase = 1)
    (returned : s.backStatus st w = some bad) : s.returnBack q id =
      if bad then ((s.backRead q id st).surge 0xA05400 w.since).endTransfer q id st.op st w
        (if (w.fail.map (·.2)).getD 0 = 0 then St.readbackFailed else (w.fail.map (·.2)).getD 0) true
      else if (s.signalsAway st).isSome then
        ((s.backRead q id st).surge 0xA05400 w.since).onTransfer q id (fun y => { y with phase := 2 })
      else ((s.backRead q id st).surge 0xA05400 w.since).endTransfer q id st.op st w ((w.fail.map (·.2)).getD 0) := by
  simp only [State.returnBack, found, if_pos back, returned]
  rfl

/-! ### The remote signal (R244) -/

/-- The flagged store of a transfer's remote signal (log entry 22). -/
def signalStore (q id : Nat) (st : Started) : Ask :=
  { op := 0x02, flag := true, addr := 0x210000000000 + 8 * cmdCounter st.cmd, lines := 1, aop := 1, data := leBytes 8 1,
    owner := some (q, id), why := .signal }

theorem State.sendSignal_other (found : s.transferOf q id = some (st, w)) (other : w.phase ≠ 2) : s.sendSignal q id = s := by
  simp only [State.sendSignal, found, if_neg other]

theorem State.sendSignal_due {n : Nat} (found : s.transferOf q id = some (st, w)) (due : w.phase = 2)
    (away : s.signalsAway st = some n) : s.sendSignal q id =
      if (s.ask n w.cluster (signalStore q id st)).2 ≠ 0 then
        (s.ask n w.cluster (signalStore q id st)).1.endTransfer q id st.op st w (s.ask n w.cluster (signalStore q id st)).2
      else ((s.ask n w.cluster (signalStore q id st)).1.onTransfer q id (fun y => { y with phase := 3 })).stageOver q id st.op := by
  simp only [State.sendSignal, found, if_pos due, away]
  rfl

end TransferEnds

/-- Settles O32: the read-back and the remote signal in their phases, and what the end of a transfer leaves. -/
theorem transfersEndDurable : Obligations.TransfersEndDurable := by
  unfold Obligations.TransfersEndDurable
  intro q id t s s1 st w ticked found
  subst ticked
  have later : (s.tick t).transferOf q id = some (st, w) := found
  obtain ⟨started, -, -⟩ := State.transferOf_eq_some found
  refine ⟨fun back early => ?early, fun bad back returned => ?back, fun other => ?notBack, fun n due away => ?signal,
    fun other => ?noSignal, fun op status silent => ?ends⟩
  case early => exact congrArg Host.Outcome.next (State.returnBack_early later back early)
  case notBack => exact congrArg Host.Outcome.next (State.returnBack_other later other)
  case noSignal => exact congrArg Host.Outcome.next (State.sendSignal_other found other)
  case back =>
    refine ⟨_, (s.tick t).backRead q id st, (badReadFrame_backRead _ q id st).next (onlyChanges_surge _ _ _), rfl, ?_⟩
    refine (congrArg Host.Outcome.next (State.returnBack_back later back returned)).trans ?_
    cases w.fail <;> rfl
  case signal =>
    have sent := State.sendSignal_due found due away
    refine ⟨_, _, rfl, fun refused => ?_, fun goes => ?_⟩
    · exact congrArg Host.Outcome.next (sent.trans (if_pos refused))
    · exact congrArg Host.Outcome.next (sent.trans (if_neg (not_not_intro goes)))
  case ends =>
    exact ⟨_, State.startedOf_endTransfer started op status silent, rfl, rfl, rfl, rfl, s.dv_endTransfer q id op st w status silent,
      fun n on => State.chan_endTransfer on op status silent⟩

end Sys2Proof.Machine
/-! Scope of the block: the grants of channels and transactions, and the aperture (O31). -/

namespace Sys2Proof.Machine

section Grants
variable {s : State} {c : Nat}

/-! ### A channel (R232) -/

/-- The state in which a transfer no longer waits for a channel of its cluster, its wait counted. -/
def State.chanGranted (s : State) (c : Nat) (w : Waiter) : State :=
  (s.surge 0xA05200 w.since).onCluster c (fun k => { k with
    chanWait := k.chanWait.filter (fun x => x.source != w.source || x.id != w.id) })

theorem State.grantChan_free {n : Nat} {w : Waiter} (free : s.freeChan c = some n)
    (first : s.firstWaiter (s.cluster c).chanWait = some w) :
    s.grantChan c = (s.chanGranted c w).takeChan w.source w.id c n := by
  simp only [State.grantChan, free, first]
  rfl

theorem State.grantChan_full (full : s.freeChan c = none) : s.grantChan c = s := by
  simp only [State.grantChan, full]

theorem onlyChanges_chanGranted (s : State) (c : Nat) (w : Waiter) : OnlyChanges [.dict, .clusters] s (s.chanGranted c w) :=
  ((OnlyChanges.refl _ s).next (onlyChanges_surge s _ _)).next (onlyChanges_onCluster _ c _)

theorem State.dv_chanGranted (s : State) (c : Nat) (w : Waiter) :
    (s.chanGranted c w).dv 0xA05200 = (s.dv 0xA05200 + (s.now - w.since)) % 256 ^ entrySize 0xA05200 :=
  ((onlyChanges_onCluster _ c _).dv (by decide) _).trans (State.dv_setDv_same s _ _)

theorem State.mem_chanWait_chanGranted {w x : Waiter} :
    x ∈ ((s.chanGranted c w).cluster c).chanWait ↔ x ∈ (s.cluster c).chanWait ∧ ¬ (x.source = w.source ∧ x.id = w.id) := by
  have waits : ((s.chanGranted c w).cluster c).chanWait =
      (s.cluster c).chanWait.filter (fun x => x.source != w.source || x.id != w.id) :=
    congrArg Cluster.chanWait (State.cluster_onCluster_same ..)
  rw [waits, List.mem_filter]
  simp only [Bool.or_eq_true, bne_iff_ne, not_and_or, ne_eq]

/-! ### A transaction (R197) -/

/-- The state in which the requester of a transaction no longer waits, its wait counted; it is the last granted. -/
def State.txGranted (s : State) (c n : Nat) (w : Waiter) : State :=
  (s.surge 0xA04800 w.since).onCluster c (fun k => { k with txWait := k.txWait.filter (fun x => x.source != n), txLast := n })

theorem State.grantTransaction_room {n : Nat} {w : Waiter} (room : s.inFlight c < 1536)
    (turn : roundRobin (s.cluster c).txLast ((s.cluster c).txWait.map (·.source)) = some n)
    (waits : (s.cluster c).txWait.find? (fun x => x.source == n) = some w) :
    s.grantTransaction c =
      if n = 8 then (s.txGranted c n w).pagerGrant c
      else match ((s.txGranted c n w).chan c n).job with
        | some (q, id) => (s.txGranted c n w).runTransfer q id true
        | none => s.txGranted c n w := by
  simp only [State.grantTransaction, if_pos room, turn, waits]
  rfl

theorem State.grantTransaction_full (full : 1536 ≤ s.inFlight c) : s.grantTransaction c = s :=
  if_neg (not_lt.2 full)

theorem onlyChanges_txGranted (s : State) (c n : Nat) (w : Waiter) : OnlyChanges [.dict, .clusters] s (s.txGranted c n w) :=
  ((OnlyChanges.refl _ s).next (onlyChanges_surge s _ _)).next (onlyChanges_onCluster _ c _)

theorem State.dv_txGranted (s : State) (c n : Nat) (w : Waiter) :
    (s.txGranted c n w).dv 0xA04800 = (s.dv 0xA04800 + (s.now - w.since)) % 256 ^ entrySize 0xA04800 :=
  ((onlyChanges_onCluster _ c _).dv (by decide) _).trans (State.dv_setDv_same s _ _)

theorem State.cluster_txGranted (s : State) (c n : Nat) (w : Waiter) : (s.txGranted c n w).cluster c =
    { s.cluster c with txWait := (s.cluster c).txWait.filter (fun x => x.source != n), txLast := n } :=
  State.cluster_onCluster_same ..

theorem State.mem_txWait_txGranted {n : Nat} {w x : Waiter} :
    x ∈ ((s.txGranted c n w).cluster c).txWait ↔ x ∈ (s.cluster c).txWait ∧ x.source ≠ n := by
  rw [State.cluster_txGranted, List.mem_filter, bne_iff_ne]

/-- A grant leaves the channels to their transfers. -/
theorem State.chan_txGranted (s : State) (c n : Nat) (w : Waiter) (k : Nat) : (s.txGranted c n w).chan c k = s.chan c k := by
  unfold State.chan
  rw [State.cluster_txGranted]
  rfl

/-! ### The aperture (R158, R239) -/

theorem State.teeRun_idle (idle : s.twin.tees = []) : s.teeRun = s :=
  if_pos (List.isEmpty_iff.2 idle)

theorem exec_apertureRelease {c : Fin 32} {ch : Fin 8} {t : Nat} (idle : s.twin.tees = []) :
    exec (.apertureRelease c ch t) s = .next (match (s.chan c ch).job with
      | some (q, id) => (s.tick t).runTransfer q id
      | none => s.tick t) := by
  have still : (s.tick t).teeRun = s.tick t := State.teeRun_idle idle
  dsimp only [exec, execApertureRelease]
  rw [still]
  rfl

end Grants

/-- Settles O31: a channel, a transaction and the aperture go to what waits for them. -/
theorem transferResourcesAreGranted : Obligations.TransferResourcesAreGranted := by
  unfold Obligations.TransferResourcesAreGranted
  intro c t s s1 ticked
  subst ticked
  refine ⟨fun n w free first => ?channel, fun full => ?noChannel, fun room n w turn waits => ?transaction,
    fun full => ?noTransaction, fun ch idle => ⟨fun q id on => ?aperture, fun off => ?idleChannel⟩⟩
  case channel =>
    exact ⟨_, congrArg Host.Outcome.next (State.grantChan_free free first), onlyChanges_chanGranted _ c w,
      State.dv_chanGranted _ c w, fun _ => State.mem_chanWait_chanGranted⟩
  case noChannel => exact congrArg Host.Outcome.next (State.grantChan_full full)
  case transaction =>
    have granted := State.grantTransaction_room room turn waits
    refine ⟨_, onlyChanges_txGranted _ c n w, State.dv_txGranted _ c n w, congrArg Cluster.txLast (State.cluster_txGranted _ c n w),
      fun _ => State.mem_txWait_txGranted, fun pager => ?_, fun q id channel on => ?_⟩
    · exact congrArg Host.Outcome.next (granted.trans (if_pos pager))
    · refine congrArg Host.Outcome.next (granted.trans ((if_neg channel).trans ?_))
      rw [State.chan_txGranted, on]
  case noTransaction => exact congrArg Host.Outcome.next (State.grantTransaction_full full)
  case aperture => rw [exec_apertureRelease idle, on]
  case idleChannel => rw [exec_apertureRelease idle, off]

end Sys2Proof.Machine
/-! Scope of the block: the start of a transfer on its cluster (O30). -/

namespace Sys2Proof.Machine

/-! ### The channels of a cluster and the transfers that wait for one -/

/-- What a transfer that starts looks at in its cluster: who holds the channels, and who waits for one (R232). -/
def Cluster.traffic (k : Cluster) : Tbl XferChan × List Waiter := (k.chans, k.chanWait)

section Traffic
variable (s : State)

theorem State.freeChan_congr {s u : State} {c : Nat} (same : (u.cluster c).traffic = (s.cluster c).traffic) :
    u.freeChan c = s.freeChan c := by
  obtain ⟨chans, -⟩ := Prod.mk.inj same
  unfold State.freeChan State.chan Cluster.chan
  rw [chans]

/-- A change of a cluster that leaves its own traffic leaves that of every cluster. -/
theorem State.traffic_onCluster {f : Cluster → Cluster} (keeps : ∀ k, (f k).traffic = k.traffic) (k c : Nat) :
    ((s.onCluster k f).cluster c).traffic = (s.cluster c).traffic := by
  rw [State.cluster_onCluster]
  split
  next same => rw [same, keeps]
  · rfl

theorem State.traffic_callRegion (r c : Nat) : ((s.callRegion r).cluster c).traffic = (s.cluster c).traffic := by
  have stopped : ((s.stopPattern r).cluster c).traffic = (s.cluster c).traffic := by
    unfold State.stopPattern
    split
    · exact State.traffic_onCluster (f := fun k => { k with pattern := none }) (s.bump 0x284100 _) (fun _ => rfl) r c
    · rfl
  have called : (s.callRegion r).cluster c = (if r < 32 then s.stopPattern r else s).cluster c := rfl
  rw [called]
  split
  · exact stopped
  · rfl

end Traffic

/-! ### The start of a transfer (R232) -/

section TransferStarts
variable {s : State} {q op : Nat} {l : ListRun} {c : Line} {rd : CmdRead}

/-- The tensors a transfer opens and writes: that of an ADD into a book-mode tensor (R241). -/
def transferOpens (op : Nat) (c : Line) : List Nat := if xBook op c then [xHandle c] else []

/-- A transfer as a started command on its cluster. -/
def State.transferStarted (s : State) (q op : Nat) (l : ListRun) (c : Line) : Started :=
  { s.asStarted q l c with
    op := op, clusters := BitVec.ofNat 32 (2 ^ s.transferCluster op c), writes := transferOpens op c, opens := transferOpens op c,
    work := .transfer { cluster := s.transferCluster op c } }

/-- Its cluster is called, and counts the lines it is to move. -/
def State.transferPlaced (s : State) (q op : Nat) (c : Line) : State :=
  ((s.callRegion (s.transferCluster op c)).prefer (s.transferCluster op c) q).xferBusy (s.transferCluster op c) (s.xLines op c)

/-- The state in which it has entered the transfer engine of its cluster, without a channel. -/
def State.transferEntered (s : State) (q op : Nat) (l : ListRun) (c : Line) : State :=
  (s.transferPlaced q op c).enter q (s.transferStarted q op l c)

theorem State.transferPlaced_queuesAndStep (s : State) (q op : Nat) (c : Line) :
    (s.transferPlaced q op c).queuesAndStep = s.queuesAndStep := by
  rw [State.transferPlaced, State.xferBusy, State.queuesAndStep_onCluster, State.prefer, State.queuesAndStep_onRegion,
    State.queuesAndStep_callRegion]

/-- The start of a transfer leaves the channels of the clusters, and those that wait for one. -/
theorem State.traffic_transferEntered (s : State) (q op : Nat) (l : ListRun) (c : Line) (k : Nat) :
    ((s.transferEntered q op l c).cluster k).traffic = (s.cluster k).traffic :=
  calc ((s.transferEntered q op l c).cluster k).traffic
    _ = ((s.transferPlaced q op c).cluster k).traffic := by
      rw [State.transferEntered, (enterFrame_enter _ q _).cluster (by decide)]
    _ = (((s.callRegion (s.transferCluster op c)).prefer (s.transferCluster op c) q).cluster k).traffic :=
      State.traffic_onCluster (f := fun k => { k with xferOccupancy := k.xferOccupancy + _ }) _ (fun _ => rfl) _ k
    _ = (s.cluster k).traffic := s.traffic_callRegion _ k

/-- A transfer as it waits for a channel of its cluster. -/
def State.chanWaiter (s : State) (q : Nat) : Waiter := { source := q, id := (s.queue q).serial + 1, since := s.now }

/-- R232: the traffic of its cluster decides whether a transfer takes a channel. -/
theorem State.startTransfer_eq (s : State) (q op : Nat) (l : ListRun) (c : Line) : s.startTransfer q op l c =
    match (s.transferEntered q op l c).freeChan (s.transferCluster op c),
      ((s.transferEntered q op l c).cluster (s.transferCluster op c)).chanWait with
    | some n, [] => (s.transferEntered q op l c).takeChan q ((s.queue q).serial + 1) (s.transferCluster op c) n
    | _, _ => (s.transferEntered q op l c).onCluster (s.transferCluster op c)
        (fun k => { k with chanWait := k.chanWait ++ [s.chanWaiter q] }) := rfl

theorem State.startTransfer_takes {n : Nat} (free : s.freeChan (s.transferCluster op c) = some n)
    (first : (s.cluster (s.transferCluster op c)).chanWait = []) :
    s.startTransfer q op l c = (s.transferEntered q op l c).takeChan q ((s.queue q).serial + 1) (s.transferCluster op c) n := by
  have same := s.traffic_transferEntered q op l c (s.transferCluster op c)
  have none : ((s.transferEntered q op l c).cluster (s.transferCluster op c)).chanWait = [] := (congrArg Prod.snd same).trans first
  rw [State.startTransfer_eq, State.freeChan_congr same, free, none]

theorem State.startTransfer_waits (busy : s.freeChan (s.transferCluster op c) = none ∨
      (s.cluster (s.transferCluster op c)).chanWait ≠ []) :
    s.startTransfer q op l c = (s.transferEntered q op l c).onCluster (s.transferCluster op c)
      (fun k => { k with chanWait := k.chanWait ++ [s.chanWaiter q] }) := by
  have same := s.traffic_transferEntered q op l c (s.transferCluster op c)
  have waiters : ((s.transferEntered q op l c).cluster (s.transferCluster op c)).chanWait =
    (s.cluster (s.transferCluster op c)).chanWait := congrArg Prod.snd same
  rw [State.startTransfer_eq, State.freeChan_congr same, waiters]
  split
  next free first => simp [free, first] at busy
  · rfl

theorem State.chanWait_joins (s : State) (q op : Nat) (l : ListRun) (c : Line) :
    (((s.transferEntered q op l c).onCluster (s.transferCluster op c)
      (fun k => { k with chanWait := k.chanWait ++ [s.chanWaiter q] })).cluster (s.transferCluster op c)).chanWait =
        (s.cluster (s.transferCluster op c)).chanWait ++ [s.chanWaiter q] := by
  rw [State.cluster_onCluster_same]
  exact congrArg (· ++ [s.chanWaiter q]) (congrArg Prod.snd (s.traffic_transferEntered q op l c (s.transferCluster op c)))

/-- A transfer that enters in a state with the queues of `s` has started in `s`. -/
theorem startsIn_transferEntered {v : State} (same : v.queuesAndStep = s.queuesAndStep) (run : (s.queue q).run = some l) :
    StartsIn s (v.transferEntered q op l c) q l c [] (transferOpens op c)
      ((v.transferPlaced q op c).entered (v.transferStarted q op l c)) := by
  refine startsIn_enter ((v.transferPlaced_queuesAndStep q op c).trans same) run ?_
  rw [← State.queue_congr same q]
  rfl

/-! ### COPY, ADD and FILL (R234) -/

theorem transferOpens_owed (op : Nat) (c : Line) (s : State) :
    (transferOpens op c).any s.epochOwed = (xBook op c && s.epochOwed (xHandle c)) := by
  unfold transferOpens
  split
  next book => simp [book]
  next other => simp [other]

theorem State.transfer_takes (taken : Takes s q l rd.line [] (transferOpens op rd.line))
    (passes : s.transferFail q op rd.line = none) : s.transfer q op rd =
      if (transferOpens op rd.line).any s.epochOwed then s else (s.readErrors rd).startTransfer q op l rd.line := by
  rw [transferOpens_owed]
  exact taken.take_go passes

theorem exec_transfer {q : Fin 256} {e : Instr} (which : op = 0x40 ∧ e = .copy q rd ∨ op = 0x41 ∧ e = .add q rd ∨
      op = 0x42 ∧ rd = { line := rd.line } ∧ e = .fill q rd.line) : exec e s = .next (s.transfer q op rd) := by
  obtain ⟨rfl, rfl⟩ | ⟨rfl, rfl⟩ | ⟨rfl, plain, rfl⟩ := which
  · rfl
  · rfl
  · rw [plain]
    rfl

end TransferStarts

/-- Settles O30: a transfer waits for the close its tensor owes, or enters its engine with a channel or as the last that waits for
one. -/
theorem transfersStart : Obligations.TransfersStart := by
  unfold Obligations.TransfersStart
  intro q rd c l op e s w hs hc which hw hhs taken passes
  subst hc hw hhs
  have goes : exec e s = .next _ := (exec_transfer which).trans (congrArg Host.Outcome.next (State.transfer_takes taken passes))
  have errors := s.queuesAndStep_readErrors rd
  have number : ((s.readErrors rd).queue q).serial = (s.queue q).serial := congrArg Queue.serial (State.queue_congr errors q)
  have time : (s.readErrors rd).now = s.now := (readFrame_readErrors s rd).now
  refine ⟨fun owed => goes.trans (congrArg Host.Outcome.next (if_pos owed)), fun closed => ?_⟩
  have starts : exec e s = .next ((s.readErrors rd).startTransfer q op l rd.line) :=
    goes.trans (congrArg Host.Outcome.next (if_neg (Bool.eq_false_iff.1 closed)))
  refine ⟨(s.readErrors rd).transferEntered q op l rd.line, _, startsIn_transferEntered errors taken.run, rfl, rfl, rfl, rfl,
    fun n free first => ?channel, fun busy => ?waits⟩
  case channel => rw [starts, State.startTransfer_takes free first, number]
  case waits =>
    refine ⟨_, starts.trans (congrArg Host.Outcome.next (State.startTransfer_waits busy)), onlyChanges_onCluster _ _ _, ?_⟩
    rw [State.chanWait_joins, State.chanWaiter, number, time]

end Sys2Proof.Machine

/-! Scope of the block: hints (O37): a slow contributor, a hold, its release and its limit. -/

namespace Sys2Proof.Machine

/-! ### Fields and packets -/

theorem onlyChanges_collectives (s : State) (cs : List Collective) : OnlyChanges [.collectives] s { s with collectives := cs } := by
  intro f outside
  cases f
  case collectives => exact absurd List.mem_cons_self outside
  all_goals rfl

theorem onlyChanges_cooling_collectives (s : State) (x : Cooling) (cs : List Collective) :
    OnlyChanges [.cooling, .collectives] s { s with cooling := x, collectives := cs } := by
  intro f outside
  cases f
  case cooling | collectives => exact absurd (by decide) outside
  all_goals rfl

section Hints
variable {s : State} {p : Packet} {t : Nat}

/-! ### What a hint does (R290, R383) -/

theorem State.gotHint_slow (kind : p.op = 1) : s.gotHint p = s.takeSlow p.src.toNat := if_pos kind

theorem State.gotHint_hold (kind : p.op = 2) : s.gotHint p = s.takeHold p.src.toNat := by
  unfold State.gotHint
  dsimp only
  rw [kind, if_neg (by decide), if_pos rfl]

theorem State.gotHint_release (kind : p.op = 3) : s.gotHint p = s.releaseHold p.src.toNat := by
  unfold State.gotHint
  dsimp only
  rw [kind, if_neg (by decide), if_neg (by decide), if_pos rfl]

theorem exec_hintSlowContributor (reaches : Reaches s p) :
    exec (.hintSlowContributor p) s = .next ((s.gotHint p).bufferFreed p 0x32) :=
  congrArg Host.Outcome.next (State.arrive_reaches reaches 0x32 (fun s => s.gotHint p))

theorem exec_hintHold (reaches : Reaches (s.tick t) p) :
    exec (.hintHold p t) s = .next (((s.tick t).gotHint p).bufferFreed p 0x32) :=
  congrArg Host.Outcome.next (State.arrive_reaches reaches 0x32 (fun s => s.gotHint p))

theorem exec_hintHoldRelease (reaches : Reaches (s.tick t) p) :
    exec (.hintHoldRelease p t) s = .next (((s.tick t).gotHint p).bufferFreed p 0x32) :=
  congrArg Host.Outcome.next (State.arrive_reaches reaches 0x32 (fun s => s.gotHint p))

/-! ### A slow contributor (R290) -/

theorem onlyChanges_takeSlow (s : State) (n : Nat) : OnlyChanges [.dict, .collectives] s (s.takeSlow n) :=
  ((OnlyChanges.refl _ s).next (onlyChanges_bump s 0x501800 1) (by decide)).next (onlyChanges_collectives _ _) (by decide)

theorem State.dv_takeSlow (s : State) (n : Nat) :
    (s.takeSlow n).dv 0x501800 = (s.dv 0x501800 + 1) % 256 ^ entrySize 0x501800 :=
  State.dv_setDv_same s _ _

theorem State.collectives_takeSlow (s : State) (n : Nat) :
    (s.takeSlow n).collectives = s.collectives.map (fun c => { c with extended := c.extended || c.members.contains n }) := by
  refine List.map_congr_left fun c _ => ?_
  cases member : c.members.contains n with
  | true => rw [if_pos rfl, Bool.or_true]
  | false => rw [if_neg Bool.false_ne_true, Bool.or_false]

/-! ### Holds (R383) -/

theorem onlyChanges_takeHold (s : State) (n : Nat) : OnlyChanges [.cooling, .collectives] s (s.takeHold n) :=
  onlyChanges_cooling_collectives s _ _

theorem State.mem_holds_takeHold {n : Nat} {h : Nat × Nat} :
    h ∈ (s.takeHold n).cooling.holds ↔ h = (n, s.now) ∨ h ∈ s.cooling.holds ∧ h.1 ≠ n := by
  have kept : (s.takeHold n).cooling.holds = s.cooling.holds.filter (fun h => h.1 != n) ++ [(n, s.now)] := rfl
  rw [kept, List.mem_append, List.mem_filter, List.mem_singleton, bne_iff_ne, or_comm]

theorem onlyChanges_releaseHold (s : State) (n : Nat) : OnlyChanges [.cooling, .collectives] s (s.releaseHold n) :=
  onlyChanges_cooling_collectives s _ _

theorem State.mem_holds_releaseHold {n : Nat} {h : Nat × Nat} :
    h ∈ (s.releaseHold n).cooling.holds ↔ h ∈ s.cooling.holds ∧ h.1 ≠ n := by
  have kept : (s.releaseHold n).cooling.holds = s.cooling.holds.filter (fun h => h.1 != n) := rfl
  rw [kept, List.mem_filter, bne_iff_ne]

/-- A collective once node `n` no longer holds it, at the time `now`. -/
def Collective.released (c : Collective) (n now : Nat) : Collective :=
  if c.holders.contains n then
    { c with
      holders := c.holders.filter (· != n)
      progress := if (c.holders.filter (· != n)).isEmpty then c.progress + (now - c.suspendedAt.getD now) else c.progress
      suspendedAt := if (c.holders.filter (· != n)).isEmpty then none else c.suspendedAt }
  else c

theorem State.collectives_releaseHold (s : State) (n : Nat) :
    (s.releaseHold n).collectives = s.collectives.map (fun c => c.released n s.now) := rfl

theorem Collective.holders_released (c : Collective) (n now : Nat) : n ∉ (c.released n now).holders := by
  unfold Collective.released
  split
  · simp
  next free => simpa using free

theorem Collective.released_last {c : Collective} {n : Nat} (last : c.holders = [n]) (now : Nat) : c.released n now =
    { c with holders := [], progress := c.progress + (now - c.suspendedAt.getD now), suspendedAt := none } := by
  simp [Collective.released, last]

/-! ### The limit of a hold (R383) -/

theorem exec_holdLimitExpiry {node : BitVec 16} : exec (.holdLimitExpiry node t) s = .next
    (if s.cooling.holds.any (fun h => h.1 == node.toNat && decide (h.2 + s.dv 0x281700 * 1000000000 ≤ (s.tick t).now)) then
      (s.tick t).releaseHold node.toNat else s.tick t) := rfl

theorem exec_holdLimitExpiry_due {node : BitVec 16}
    (due : ∃ h ∈ s.cooling.holds, h.1 = node.toNat ∧ h.2 + s.dv 0x281700 * 1000000000 ≤ (s.tick t).now) :
    exec (.holdLimitExpiry node t) s = .next ((s.tick t).releaseHold node.toNat) := by
  obtain ⟨h, held, whose, old⟩ := due
  rw [exec_holdLimitExpiry, if_pos (List.any_eq_true.2 ⟨h, held, Bool.and_eq_true_iff.2 ⟨beq_iff_eq.2 whose, decide_eq_true old⟩⟩)]

theorem exec_holdLimitExpiry_early {node : BitVec 16}
    (early : ∀ h ∈ s.cooling.holds, h.1 = node.toNat → (s.tick t).now < h.2 + s.dv 0x281700 * 1000000000) :
    exec (.holdLimitExpiry node t) s = .next (s.tick t) := by
  rw [exec_holdLimitExpiry, if_neg]
  intro due
  obtain ⟨h, held, old⟩ := List.any_eq_true.1 due
  obtain ⟨whose, old⟩ := Bool.and_eq_true_iff.1 old
  exact absurd (early h held (beq_iff_eq.1 whose)) (not_lt.2 (of_decide_eq_true old))

end Hints

/-- Settles O37: a HINT does what its operation field says, on whatever link it came, and a hold ends at its limit. A slow contributor
extends every running collective of its sender (log entry 103). -/
theorem hintsMoveTimeouts : Obligations.HintsMoveTimeouts := by
  unfold Obligations.HintsMoveTimeouts
  intro p t s s1 now
  subst now
  refine ⟨fun reaches kind => ?slow, fun reaches kind => ?hold, fun n u released => ?release⟩
  case slow =>
    exact ⟨s.takeSlow p.src.toNat, by rw [exec_hintSlowContributor reaches, State.gotHint_slow kind],
      onlyChanges_takeSlow s _, s.dv_takeSlow _, s.collectives_takeSlow _⟩
  case hold =>
    exact ⟨(s.tick t).takeHold p.src.toNat, by rw [exec_hintHold reaches, State.gotHint_hold kind],
      onlyChanges_takeHold _ _, fun _ => State.mem_holds_takeHold, rfl⟩
  case release =>
    subst released
    refine ⟨fun reaches kind whose => ?_, fun node whose due => ?_, fun node whose early => ?_, onlyChanges_releaseHold _ _,
      fun _ => State.mem_holds_releaseHold, fun c inside => ?_, fun c inside last => ?_⟩
    · rw [exec_hintHoldRelease reaches, State.gotHint_release kind, whose]
    · subst whose
      exact exec_holdLimitExpiry_due due
    · subst whose
      exact exec_holdLimitExpiry_early early
    · rw [State.collectives_releaseHold] at inside
      obtain ⟨k, -, rfl⟩ := List.mem_map.1 inside
      exact k.holders_released n _
    · refine ⟨c.released n (s.tick t).now, List.mem_map_of_mem inside, ?_⟩
      rw [Collective.released_last last]
      exact ⟨rfl, rfl, rfl, rfl⟩

end Sys2Proof.Machine

/-! Scope of the block: the start of a collective (O33): it waits, or is entered without a place on an engine. -/

namespace Sys2Proof.Machine

section CollectiveStarts
variable {s : State} {q : Nat} {l : ListRun} {c : Line}

/-- A collective command as it starts: it covers the whole of its destination where it gathers every element. -/
def State.colStarted (s : State) (q : Nat) (l : ListRun) (c : Line) : Started :=
  { s.asStarted q l c with
    reads := handlesAt c [8], writes := handlesAt c [11], work := .collective s.nextCollective
    covers := if (cmdOp c == 0x53 || cmdOp c == 0x54) && colFirst c == 0 && colCount c == descElems (s.desc (handleAt c 11)) then
      handlesAt c [11] else [] }

/-- The state in which a collective command has started and its collective waits for a place. -/
def State.colEntered (s : State) (q : Nat) (l : ListRun) (c : Line) : State :=
  { s.enter q (s.colStarted q l c) with
    collectives := (s.enter q (s.colStarted q l c)).collectives ++ [s.newCollective q ((s.queue q).serial + 1) c]
    nextCollective := (s.enter q (s.colStarted q l c)).nextCollective + 1 }

theorem State.startCollective_eq (s : State) (q : Nat) (l : ListRun) (c : Line) :
    s.startCollective q l c = (s.colEntered q l c).goOnCol := rfl

theorem State.collectives_colEntered (s : State) (q : Nat) (l : ListRun) (c : Line) :
    (s.colEntered q l c).collectives = s.collectives ++ [s.newCollective q ((s.queue q).serial + 1) c] :=
  congrArg (· ++ _) (enterFrame_enter s q _ .collectives (by decide))

theorem State.nextCollective_colEntered (s : State) (q : Nat) (l : ListRun) (c : Line) :
    (s.colEntered q l c).nextCollective = s.nextCollective + 1 :=
  congrArg (· + 1) (enterFrame_enter s q _ .nextCollective (by decide))

theorem startsIn_colEntered (run : (s.queue q).run = some l) :
    StartsIn s (s.colEntered q l c) q l c (handlesAt c [8]) (handlesAt c [11]) (s.entered (s.colStarted q l c)) :=
  (startsIn_enter rfl run rfl).congr rfl

/-- A collective command that passes its checks waits, or starts where no copy is in its way. -/
theorem State.collectiveRow_takes (taken : Takes s q l c (handlesAt c [8]) (handlesAt c [11])) (passes : s.colFail q c = none) :
    s.collectiveRow q c = if s.colWaits c then s.waitHot q (s.memoryWaits (handlesAt c [8, 11]))
      else s.coherent (handlesAt c [8]) (handlesAt c [11]) (fun s =>
        if (s.accessGroup (fld c 14 2)).2 then (s.accessGroup (fld c 14 2)).1.startCollective q l c
        else (s.accessGroup (fld c 14 2)).1) :=
  taken.take_go passes

theorem exec_collective {q : Fin 256} {e : Instr}
    (which : e ∈ [Instr.reduce q c, .allReduce q c, .reduceScatter q c, .allGather q c, .broadcast q c]) :
    exec e s = .next (s.collectiveRow q c) := by
  simp only [List.mem_cons, List.not_mem_nil, or_false] at which
  obtain rfl | rfl | rfl | rfl | rfl := which <;> rfl

end CollectiveStarts

/-- Settles O33: a collective that passes its checks waits for its tensors, or starts and waits for its place. -/
theorem collectivesStart : Obligations.CollectivesStart := by
  unfold Obligations.CollectivesStart
  intro q c l e s which taken passes
  have row : exec e s = .next _ :=
    (exec_collective which).trans (congrArg Host.Outcome.next (State.collectiveRow_takes taken passes))
  refine ⟨fun waits => ?waits, fun goes tensors group => ?starts⟩
  case waits =>
    obtain ⟨only, run, started⟩ := s.waitHot_keeps q (s.memoryWaits (handlesAt c [8, 11]))
    exact ⟨_, row.trans (congrArg Host.Outcome.next (if_pos waits)), only, run.trans taken.run, started⟩
  case starts =>
    refine ⟨s.colEntered q l c, _, s.newCollective q ((s.queue q).serial + 1) c, ?_, startsIn_colEntered taken.run, rfl,
      s.collectives_colEntered q l c, s.nextCollective_colEntered q l c, rfl, rfl, rfl, rfl, rfl, rfl, rfl, rfl, rfl, rfl⟩
    rw [row, goes, if_neg Bool.false_ne_true, State.coherent_of_free tensors, group]
    rfl

end Sys2Proof.Machine

/-! Scope of the block: close notices and acknowledgements of collectives (O35). -/

namespace Sys2Proof.Machine

/-! ### The running collectives -/

/-- A change of a collective that keeps its number is found under that number. -/
theorem State.collective_onCollective {s : State} {id : Nat} {c : Collective} {f : Collective → Collective}
    (keeps : ∀ c, (f c).id = c.id) (found : s.collective id = some c) : (s.onCollective id f).collective id = some (f c) := by
  have same : (fun c : Collective => c.id == id) ∘ (fun c => if c.id == id then f c else c) = fun c => c.id == id := by
    funext c
    dsimp only [Function.comp]
    split
    · rw [keeps]
    · rfl
  have mine : (c.id == id) = true := List.find?_some (p := fun c : Collective => c.id == id) found
  unfold State.collective State.onCollective at *
  rw [List.find?_map, same, found, Option.map_some, if_pos mine]

theorem onlyChanges_onCollective (s : State) (id : Nat) (f : Collective → Collective) :
    OnlyChanges [.collectives] s (s.onCollective id f) :=
  onlyChanges_collectives s _

/-- A collective that runs here is found under its number, as the first of it. -/
theorem State.collective_of_mem {s : State} {c : Collective} (inside : c ∈ s.collectives) : ∃ k, s.collective c.id = some k :=
  Option.isSome_iff_exists.1 (List.find?_isSome.2 ⟨c, inside, beq_self_eq_true c.id⟩)

section Closes
variable {s : State} {p : Packet} {c : Collective}

/-- A collective packet that reaches the module over the fabric is taken, and what can go on does. -/
theorem State.colPacket_fabric {op : Nat} {port : Fin 8} (reaches : Reaches s p) (via : p.via = .fabric port) :
    s.colPacket op p = ((s.takeCol op p 0 s.now).goOnCol).bufferFreed p op := by
  unfold State.colPacket
  rw [via]
  exact State.arrive_reaches reaches op _

/-- The Traek link carries no collective packet (R302). -/
theorem State.colPacket_traek {op : Nat} (reaches : Reaches s p) (via : p.via = .traek) :
    s.colPacket op p = (s.refusePacket p op St.reservedSet).bufferFreed p op := by
  unfold State.colPacket
  rw [via]
  exact State.arrive_reaches reaches op _

/-! ### Close notices (R288) -/

theorem State.closeFor_mem {rank : Nat} (found : s.closeFor p = some (c, rank)) : c ∈ s.collectives := by
  obtain ⟨k, inside, named⟩ := List.exists_of_findSome?_eq_some found
  obtain ⟨r, -, chosen⟩ := List.exists_of_findSome?_eq_some named
  split at chosen
  · cases chosen
    exact (List.mem_filter.1 inside).1
  · cases chosen

theorem onlyChanges_step (s : State) (x : StepState) : OnlyChanges [.step] s { s with step := x } := by
  intro f outside
  cases f
  case step => exact absurd List.mem_cons_self outside
  all_goals rfl

/-- The fields that the check of a verdict header's tag may change. -/
def tagFields : List Field := .step :: recordFields

theorem tagFrame_checkTag (s : State) (c : Collective) (node : Nat) (v : Verdict) :
    OnlyChanges tagFields s (s.checkTag c node v) := by
  unfold State.checkTag State.recordOf
  split
  · exact ((OnlyChanges.refl _ s).next (recordFrame_record s _) (by decide)).next (onlyChanges_step _ _) (by decide)
  · exact OnlyChanges.refl _ s

/-- The state in which the tag of a close notice has been checked. -/
def State.tagChecked (s : State) (c : Collective) (p : Packet) : State :=
  if c.verdict then s.checkTag c p.src.toNat (verdictAt p.data 0) else s

theorem tagFrame_tagChecked (s : State) (c : Collective) (p : Packet) : OnlyChanges tagFields s (s.tagChecked c p) :=
  .ite (tagFrame_checkTag s _ _ _) (OnlyChanges.refl _ s)

/-- The notice that a close packet brings to a collective for a shard. -/
def State.noticeFor (s : State) (p : Packet) (rank : Nat) (c : Collective) : CloseSeen :=
  { rank := rank, hdr := if c.verdict then s.tagged (verdictAt p.data 0) else verdictAt p.data 0, status := numAt p.data 16 2,
    suspect := numAt p.data 18 2 }

/-- A collective that has seen the notice of a close packet now. -/
def State.noticed (s : State) (p : Packet) (rank : Nat) (c : Collective) : Collective :=
  { c with progress := s.now, closes := c.closes ++ [s.noticeFor p rank c] }

theorem State.takeClose_found {rank since : Nat} (found : s.closeFor p = some (c, rank)) : s.takeClose p since =
    ((s.tagChecked c p).onCollective c.id (s.noticed p rank)).colAck p 0 := by
  unfold State.takeClose
  rw [found]
  rfl

theorem State.takeClose_none {since : Nat} (none : s.closeFor p = none) : s.takeClose p since = s.park 0x22 p 0 since := by
  unfold State.takeClose
  rw [none]

theorem exec_close {port : Fin 8} (reaches : Reaches s p) (via : p.via = .fabric port) :
    exec (.close p) s = .next (((s.takeClose p s.now).goOnCol).bufferFreed p 0x22) :=
  congrArg Host.Outcome.next (State.colPacket_fabric reaches via)

/-! ### Acknowledgements (R258, R286) -/

/-- A packet sent that an acknowledgement no longer waits for. -/
def State.colFreed (s : State) (x : ColSent) : State :=
  { s with colSent := s.colSent.filter (fun y => !(y.tag == x.tag && y.node == x.node)) }

theorem onlyChanges_colFreed (s : State) (x : ColSent) : OnlyChanges [.colSent] s (s.colFreed x) := by
  intro f outside
  cases f
  case colSent => exact absurd List.mem_cons_self outside
  all_goals rfl

theorem State.mem_colFreed {x y : ColSent} :
    y ∈ (s.colFreed x).colSent ↔ y ∈ s.colSent ∧ ¬ (y.tag = x.tag ∧ y.node = x.node) := by
  simp [State.colFreed, List.mem_filter, imp_iff_not_or]

theorem State.gotColAck_some {x : ColSent}
    (found : s.colSent.find? (fun x => x.tag == p.tag.toNat && x.node == p.src.toNat) = some x) : s.gotColAck p =
      if p.op.toNat = St.crcResendLimit ∨ p.op.toNat = St.sumCheckFailed then (s.colFreed x).sendCol x.again
      else if p.op.toNat = St.collectiveMismatch then (s.colFreed x).abandon x.collective p.op.toNat
      else s.colFreed x := by
  unfold State.gotColAck
  rw [found]
  rfl

theorem State.gotColAck_none (unknown : ∀ x ∈ s.colSent, ¬ (x.tag = p.tag.toNat ∧ x.node = p.src.toNat)) : s.gotColAck p = s := by
  have missing : s.colSent.find? (fun x => x.tag == p.tag.toNat && x.node == p.src.toNat) = none :=
    List.find?_eq_none.2 fun x inside => by simpa using unknown x inside
  unfold State.gotColAck
  rw [missing]

theorem exec_colAck (reaches : Reaches s p) : exec (.colAck p) s = .next (((s.gotColAck p).goOnCol).bufferFreed p 0xA0) :=
  congrArg Host.Outcome.next (State.arrive_reaches reaches 0xA0 _)

end Closes

/-- Settles O35: a notice goes to the collective that misses it; an acknowledgement frees its packet, and its status asks for a resend
(log entry 39). -/
theorem closesAndAcknowledgements : Obligations.ClosesAndAcknowledgements := by
  unfold Obligations.ClosesAndAcknowledgements
  intro p port s reaches via
  refine ⟨fun c rank found => ?notice, fun none => ?parked, fun x found => ?freed, fun none => ?unknown⟩
  case notice =>
    obtain ⟨k, running⟩ := State.collective_of_mem (State.closeFor_mem found)
    have running : (s.tagChecked c p).collective c.id = some k :=
      (congrArg (List.find? (fun k : Collective => k.id == c.id)) (tagFrame_tagChecked s c p .collectives (by decide))).trans running
    exact ⟨(s.tagChecked c p).onCollective c.id (s.noticed p rank), s.noticed p rank k, s.noticeFor p rank k,
      by rw [exec_close reaches via, State.takeClose_found found], State.collective_onCollective (fun _ => rfl) running, rfl,
      List.getLast?_concat, rfl, rfl, rfl⟩
  case parked => rw [exec_close reaches via, State.takeClose_none none]
  case freed =>
    refine ⟨s.colFreed x, onlyChanges_colFreed s x, fun _ => State.mem_colFreed, fun zero => ?_, fun again => ?_, fun differs => ?_⟩
    all_goals rw [exec_colAck reaches, State.gotColAck_some found]
    · rw [zero, if_neg (by decide), if_neg (by decide)]
    · rw [if_pos again]
    · rw [differs, if_neg (by decide), if_pos rfl]
  case unknown => rw [exec_colAck reaches, State.gotColAck_none none]

end Sys2Proof.Machine

/-! Scope of the block: the close of a shard, the close of an ended epoch, and the timeout of a collective (O36). -/

namespace Sys2Proof.Machine

section Shards
variable {s : State} {id r t : Nat} {c : Collective}

/-! ### Shards (R287, R288) -/

/-- The state before the CLOSE of a shard goes out: the shard is checked and, in ALL_REDUCE, sent to every other member. -/
def State.shardChecked (s : State) (c : Collective) (r : Nat) : State :=
  if c.kind = 0x51 then
    (c.members.filter (fun n => n != s.node)).foldl
      (fun x n => x.sendGather c r n c.dst
        (if c.verdict then ((s.checkShard c r).shardHeader c).bytes else leBytes 16 0) (fun x _ => x))
      ((s.checkShard c r).takeElems c.dst 9 ((List.range (s.shardOf c r).2).map ((s.shardOf c r).1 + ·)))
  else s.checkShard c r

theorem State.closeShard_mine (found : s.collective id = some c) (mine : c.mine = some r) :
    s.closeShard id = if !s.shardDue c then s else (s.shardChecked c r).sendClose id := by
  unfold State.closeShard
  rw [found]
  dsimp only
  rw [mine]
  rfl

theorem exec_shardClose (id : Nat) (s : State) :
    exec (.shardClose id) s = .next (((s.retryCols).endPhases.closeShard id).goOnCol) := rfl

/-! ### Epochs (R65, R154) -/

/-- The blocks that close with OVF or NF as the epoch of a tensor ends. -/
def State.closingBad (s : State) (x : Tensor) : List Nat :=
  x.touched.filter (fun b => (s.histOf (x.hdr 0) b).testBit 7 || (s.histOf (x.hdr 0) b).testBit 8)

/-- The collectives as the epoch of tensor `h` ends: each counts those of them that its shard holds. -/
def State.counted (s : State) (h : Nat) (x : Tensor) : State :=
  { s with collectives := s.collectives.map (fun (c : Collective) =>
      match c.mine with
      | some r =>
        if c.reduces && c.dst == h && decide (c.engine < 8) && !c.shardClosed then
          { c with closedBad := c.closedBad ++
              (s.closingBad x).filter (blocksIn x.desc (s.shardOf c r).1 (s.shardOf c r).2).contains }
        else c
      | none => c) }

theorem State.closeEpoch_some {h : Nat} {x : Tensor} (live : s.tensor h = some x) : s.closeEpoch h =
    if x.opens ≠ 0 ∨ x.touched = [] ∨ s.tensorBarred h = true then s
    else (((s.counted h x).closeBlocks h x.touched).1.retryCols).goOnCol := by
  unfold State.closeEpoch
  rw [live]
  rfl

/-! ### Timeouts (R284, R290) -/

theorem exec_collectiveTimeout (id t : Nat) (s : State) : exec (.collectiveTimeout id t) s = .next
    (match (s.tick t).collective id with
      | none => s.tick t
      | some c => if (s.tick t).colOverdue c then ((s.tick t).abandon id St.collectiveTimeout).goOnCol else s.tick t) := rfl

theorem exec_collectiveTimeout_some (found : s.collective id = some c) : exec (.collectiveTimeout id t) s =
    .next (if (s.tick t).colOverdue c then ((s.tick t).abandon id St.collectiveTimeout).goOnCol else s.tick t) := by
  have still : (s.tick t).collective id = some c := found
  rw [exec_collectiveTimeout, still]

theorem State.colOverdue_eq (placed : c.engine < 8) (unheld : c.holders = []) : s.colOverdue c =
    decide (c.progress + s.dv 0x501400 * 1000000 * (if c.extended then 2 else 1) ≤ s.now) := by
  unfold State.colOverdue
  rw [decide_eq_true placed, unheld, List.isEmpty_nil, Bool.true_and, Bool.true_and]

end Shards

/-- Settles O36: a shard closes when it is due, an epoch when it has ended, and a collective is given up when it is overdue. -/
theorem shardsEpochsAndTimeouts : Obligations.ShardsEpochsAndTimeouts := by
  unfold Obligations.ShardsEpochsAndTimeouts
  intro t s s1 v now after
  subst now after
  refine ⟨fun id c r found mine => ⟨fun due => ?due, fun early => ?early⟩, fun h x live => ⟨fun ended touched unbarred => ?closes,
    fun stays => ?stays⟩, fun id c found placed unheld => ⟨fun overdue => ?overdue, fun waits => ?waits⟩⟩
  case due =>
    rw [exec_shardClose, State.closeShard_mine found mine, due]
    rfl
  case early =>
    rw [exec_shardClose, State.closeShard_mine found mine, early]
    rfl
  case closes =>
    have open' : ¬ (x.opens ≠ 0 ∨ x.touched = [] ∨ s.tensorBarred h.toNat = true) := by simp [ended, touched, unbarred]
    exact ⟨s.counted h.toNat x, onlyChanges_collectives s _, List.length_map _,
      congrArg Host.Outcome.next ((State.closeEpoch_some live).trans (if_neg open'))⟩
  case stays => exact congrArg Host.Outcome.next ((State.closeEpoch_some live).trans (if_pos stays))
  case overdue =>
    rw [exec_collectiveTimeout_some found, State.colOverdue_eq placed unheld]
    exact congrArg Host.Outcome.next (if_pos (decide_eq_true overdue))
  case waits =>
    rw [exec_collectiveTimeout_some found, State.colOverdue_eq placed unheld]
    exact congrArg Host.Outcome.next (if_neg (fun due => absurd (of_decide_eq_true due) (not_le.2 waits)))

end Sys2Proof.Machine

/-! Scope of the block: what writes of elements may change (02, 03, 08): the frames of the functions that store codes, scales, slots and
shadows, bind frames and pass the buffers of LPDDR lines. -/

namespace Sys2Proof.Machine

theorem OnlyChanges.foldlAcc {β : Type} {fs : List Field} {f : Acc → β → Acc} (each : ∀ a b, OnlyChanges fs a.s (f a b).s) (a : Acc)
    (xs : List β) : OnlyChanges fs a.s (xs.foldl f a).s :=
  foldl_keeps (fun x y : Acc => OnlyChanges fs x.s y.s) (fun x => OnlyChanges.refl fs x.s) (fun _ _ _ => OnlyChanges.trans) f xs
    (fun a b _ => each a b) a

section WriteFrames
variable (s : State) (a : Acc)

/-- The fields that writes of elements may change. -/
def writeFields : List Field := .fresh :: .alloc :: readFields

theorem OnlyChanges.toWrite {fs : List Field} {s u : State} (h : OnlyChanges fs s u) (within : fs ⊆ writeFields) :
    OnlyChanges writeFields s u :=
  h.mono within

/-! ### Frames bound for a write (R190, R191) -/

theorem placeFrame_takeFrame {mirrored : Bool} {p f : Nat} {u : State} (taken : s.takeFrame mirrored p = some (u, f)) :
    OnlyChanges placeFields s u := by
  unfold State.takeFrame at taken
  split at taken
  · cases taken
    exact placeFrame_drawn s
  split at taken
  · cases taken
    exact ((placeFrame_drawn s).trans (placeFrame_clearRange _ _ _)).trans (placeFrame_alloc _ _)
  · cases taken

theorem writeFrame_bindUnit (h c i : Nat) : OnlyChanges writeFields s (s.bindUnit h c i) := by
  have named (v : State) (slot x : Nat) (g : Tensor → Tensor) :
      OnlyChanges writeFields v ((v.wrNat slot 8 x).onTensor h g) :=
    (((onlyChanges_wrBytes _ v _).toWrite (by decide))).next (onlyChanges_onTensor _ h g) (by decide)
  unfold State.bindUnit
  split
  · exact OnlyChanges.refl _ s
  dsimp only
  split
  · exact OnlyChanges.refl _ s
  split
  · exact ((((placeFrame_alloc s _).trans (placeFrame_clearRange _ _ _)).toWrite (by decide))).trans (named _ _ _ _)
  split
  · exact OnlyChanges.refl _ s
  next s0 f taken =>
    have placed : OnlyChanges placeFields s (s0.setFrame f (.data h)) :=
      (placeFrame_takeFrame s taken).trans (placeFrame_setFrame s0 f (.data h))
    have placed := placed.toWrite (by decide)
    exact OnlyChanges.trans (.ite placed (placed.next (onlyChanges_bump _ _ _) (by decide))) (named _ _ _ _)

theorem writeFrame_bindBytes (h c off n : Nat) : OnlyChanges writeFields s (s.bindBytes h c off n) := by
  unfold State.bindBytes
  split
  · exact OnlyChanges.refl _ s
  · exact .ite (OnlyChanges.refl _ s) (OnlyChanges.foldl (fun v i => writeFrame_bindUnit v h c _) s _)

/-! ### Lines of LPDDR and words of a scratchpad (R210, R211, R221, R223, R421) -/

theorem onlyChanges_markRange (x n : Nat) (m : LineMark) : OnlyChanges [.marks] s (s.markRange x n m) :=
  OnlyChanges.foldl (fun v _ => onlyChanges_setMark v _ _) s _

theorem onlyChanges_freshen (x n : Nat) : OnlyChanges [.marks] s (s.freshen x n) := by
  unfold State.freshen
  split
  · exact .ite (onlyChanges_markRange s _ _ _) (OnlyChanges.refl _ s)
  · exact onlyChanges_markRange s _ _ _
  · exact OnlyChanges.refl _ s

theorem onlyChanges_freshenBytes (d : Line) (off n : Nat) : OnlyChanges [.marks] s (s.freshenBytes d off n) := by
  refine OnlyChanges.foldl (fun v i => ?_) s _
  dsimp only
  split
  · exact .ite (onlyChanges_freshen v _ _) (OnlyChanges.refl _ v)
  · exact OnlyChanges.refl _ v

theorem writeFrame_poisonRead (x : Nat) : OnlyChanges writeFields s (s.poisonRead x) := by
  unfold State.poisonRead
  split
  · exact .ite (OnlyChanges.refl _ s) (((badReadFrame_readBad s _).toWrite (by decide)).next (onlyChanges_poisonLine _ _) (by decide))
  · exact (onlyChanges_poisonLine s _).toWrite (by decide)

theorem writeFrame_poisonBad (x n : Nat) : OnlyChanges writeFields s (s.poisonBad x n) :=
  OnlyChanges.foldl (fun v _ => .ite (writeFrame_poisonRead v _) (OnlyChanges.refl _ v)) s _

theorem writeFrame_retireWc (e : WcEntry) (r : LineRead) : OnlyChanges writeFields s (s.retireWc e r) := by
  have retiring := (onlyChanges_retiring s e).toWrite (by decide)
  have poison (v : State) (h : OnlyChanges writeFields s v) :
      OnlyChanges writeFields s ((v.setMark (markKey e.line) .poisoned).bump 0x400500 1) :=
    (h.next (onlyChanges_setMark v _ _) (by decide)).next (onlyChanges_bump _ _ _) (by decide)
  have noted (v : State) (n : Nat) : OnlyChanges writeFields v (v.noteCE e.line n) :=
    ((onlyChanges_bump v _ _).toWrite (by decide)).trans ((readFrame_recordCE _ _ _).toWrite (by decide))
  unfold State.retireWc
  dsimp only
  rw [← State.retiring]
  split
  · exact retiring.next (onlyChanges_setMark _ _ _) (by decide)
  · exact poison _ retiring
  · exact poison _ (retiring.next (badReadFrame_lineUE _ _ _ _) (by decide))
  · exact poison _ (retiring.next (badReadFrame_lineUE _ _ _ _) (by decide))
  · exact ((retiring.next (onlyChanges_wrBytes _ _ _) (by decide)).next (onlyChanges_setMark _ _ _) (by decide)).trans (noted _ _)

theorem writeFrame_notePartial (line : Nat) (mask : BitVec 64) (source : Nat) :
    OnlyChanges writeFields s (s.notePartial line mask source) := by
  have touched : OnlyChanges writeFields s ((s.wakeChannel (chanOf line)).dropEntry line) :=
    (((onlyChanges_onChannel s _ _).trans (onlyChanges_onChannel _ _ _)).toWrite (by decide))
  unfold State.notePartial
  dsimp only
  split
  · exact OnlyChanges.next (.ite (touched.next (onlyChanges_onChannel _ _ _) (by decide)) touched) (onlyChanges_setMark _ _ _) (by decide)
  split
  · exact touched.next (onlyChanges_onChannel _ _ _) (by decide)
  · refine OnlyChanges.next ?_ (onlyChanges_onChannel _ _ _) (by decide)
    split
    · exact touched.trans (writeFrame_retireWc _ _ _)
    · exact touched

theorem writeFrame_noteElems (d : Line) (plane : Nat) (idxs : List Nat) : OnlyChanges writeFields s (s.noteElems d plane idxs) :=
  OnlyChanges.foldl (fun v _ => writeFrame_notePartial v _ _ _) s _

theorem writeFrame_useEntries (d : Line) (idxs : List Nat) : OnlyChanges writeFields s (s.useEntries d idxs) := by
  refine OnlyChanges.foldl (fun v x => OnlyChanges.next ?_ (onlyChanges_onChannel _ _ _) (by decide)) s _
  unfold State.retireLine
  dsimp only
  split
  · exact writeFrame_retireWc v _ _
  · exact .ite (OnlyChanges.refl _ v) ((readFrame_senseLine v _ _).toWrite (by decide))

/-! ### The scale plane, the sidecar and the outlier store (R38, R61, R73, R75, R77) -/

theorem onlyChanges_wrNat (x n v : Nat) : OnlyChanges [.mem] s (s.wrNat x n v) := onlyChanges_wrBytes _ s _

theorem onlyChanges_clearSide (d : Line) (hdr b : Nat) : OnlyChanges [.mem] s (s.clearSide d hdr b) := by
  unfold State.clearSide
  split
  · split
    · exact onlyChanges_wrNat s _ _ _
    · exact OnlyChanges.refl _ s
  · exact OnlyChanges.refl _ s

theorem onlyChanges_slotMax (d : Line) (hdr b : Nat) (vs : List Val) : OnlyChanges [.mem] s (s.slotMax d hdr b vs) := by
  unfold State.slotMax
  split
  · exact onlyChanges_chanMax s _ _ _
  · exact OnlyChanges.refl _ s

theorem recordFrame_recordPlaneFFs (h plane unit : Nat) (idxs : List Nat) :
    OnlyChanges recordFields s (s.recordPlaneFFs h plane unit idxs) := by
  unfold State.recordPlaneFFs
  split
  · exact OnlyChanges.refl _ s
  · exact .ite (OnlyChanges.foldl (fun v _ => .ite (recordFrame_record v _) (OnlyChanges.refl _ v)) s _) (OnlyChanges.refl _ s)

theorem onlyChanges_wrSlotElems (h : Nat) (d : Line) (hdr : Nat) (w : Writer) (ch : Nat) (evs : List (Nat × Val)) :
    OnlyChanges [.mem] a.s (State.wrSlotElems a h d hdr w ch evs).s :=
  OnlyChanges.foldlAcc (fun a _ => onlyChanges_wrNat a.s _ _ _) a evs

/-! ### Just-in-time blocks (R63, R72, R77) -/

theorem onlyChanges_scaled (hdr b e x : Nat) : OnlyChanges [.mem] s ((s.setScale hdr b e).setState hdr b x) :=
  (onlyChanges_setScale s _ _ _).trans (onlyChanges_setState _ _ _ _)

theorem onlyChanges_wrJit (h : Nat) (d : Line) (hdr plane : Nat) (w : Writer) (b : Nat) (vs : List Val) :
    OnlyChanges [.mem, .dict] a.s (State.wrJit a h d hdr plane w b vs).s := by
  have cleared : OnlyChanges [.mem, .dict] a.s (a.s.clearSide d hdr b) := (onlyChanges_clearSide a.s d hdr b).mono (by simp)
  have zeros (v : State) (vs : List Val) (h : OnlyChanges [.mem, .dict] a.s v) :
      OnlyChanges [.mem, .dict] a.s (((v.wrZeros d plane b vs).setScale hdr b 0).setState hdr b 3) :=
    h.next ((onlyChanges_wrZeros v _ _ _ _).trans (onlyChanges_scaled _ _ _ _ _)) (by decide)
  have finish (v : Acc) (e x : Nat) (vs : List Val) (h' : OnlyChanges [.mem, .dict] a.s v.s) : OnlyChanges [.mem, .dict] a.s
      (if descOutlier d then (((State.wrCodes v h d plane w b e vs).s.setScale hdr b e).setState hdr b x).chanMax hdr
        (chanOfElem d ((blockElems d b).headD 0)) e
      else ((State.wrCodes v h d plane w b e vs).s.setScale hdr b e).setState hdr b x) :=
    h'.next (((onlyChanges_wrCodes v _ _ _ _ _ _ _).trans (onlyChanges_scaled _ _ _ _ _)).trans (onlyChanges_largest _ _ _ _ _)) (by decide)
  unfold State.wrJit
  dsimp only
  split
  · exact zeros _ _ cleared
  split
  · exact finish ⟨_, _, _⟩ _ _ _ cleared
  split
  · have entered (x n v : Nat) :=
      (cleared.next (onlyChanges_wrNat (a.s.clearSide d hdr b) x n v) (by decide)).next (onlyChanges_bump _ 0x801600 1) (by decide)
    split
    · exact zeros _ _ (entered _ _ _)
    · exact finish ⟨_, _, _⟩ _ _ _ (entered _ _ _)
  · exact finish ⟨_, _, _⟩ _ _ _ ((cleared.next ((onlyChanges_bump _ _ _).trans (onlyChanges_bump _ _ _)) (by decide)).next
      (onlyChanges_wrNat _ _ _ _) (by decide))

theorem writeFrame_moveToSlot (h : Nat) (t : Tensor) (plane : Nat) (w : Writer) (ch : Nat) (covered : List Nat) :
    OnlyChanges writeFields a.s (State.moveToSlot a h t plane w ch covered).s := by
  have zeroed (v : State) (b : Nat) : OnlyChanges [.mem] v
      ((if descBook t.desc then (v.clearSide t.desc (t.hdr plane) b).wrZeros t.desc plane b ((blockElems t.desc b).map (fun _ => Val.zero))
        else ((v.clearSide t.desc (t.hdr plane) b).wrZeros t.desc plane b ((blockElems t.desc b).map (fun _ => Val.zero))).setScale
          (t.hdr plane) b 0).setState (t.hdr plane) b 3) := by
    have zeros := (onlyChanges_clearSide v t.desc (t.hdr plane) b).trans
      (onlyChanges_wrZeros _ t.desc plane b ((blockElems t.desc b).map (fun _ => Val.zero)))
    exact OnlyChanges.trans (.ite zeros (zeros.trans (onlyChanges_setScale _ _ _ _))) (onlyChanges_setState _ _ _ _)
  unfold State.moveToSlot
  dsimp only
  exact ((recordFrame_recordPlaneFFs a.s _ _ _ _).toWrite (by decide)).next
    (((onlyChanges_wrSlotElems ⟨_, _, _⟩ _ _ _ _ _ _).trans (OnlyChanges.foldl zeroed _ _)).trans (onlyChanges_wrNat _ _ _ _)) (by decide)

theorem writeFrame_moveFromSlot (t : Tensor) (plane ch : Nat) (covered : List Nat) {wrBlock : Acc → Nat → List Val → Acc}
    (each : ∀ a b vs, OnlyChanges writeFields a.s (wrBlock a b vs).s) :
    OnlyChanges writeFields a.s (State.moveFromSlot a t plane ch covered wrBlock).s :=
  ((onlyChanges_wrNat a.s _ _ _).toWrite (by decide)).trans (OnlyChanges.foldlAcc (fun a _ => each a _ _) ⟨_, _, _⟩ _)

theorem writeFrame_moveJit (h : Nat) (t : Tensor) (plane : Nat) (w : Writer) (idxs : List Nat) :
    OnlyChanges writeFields a.s (State.moveJit a h t plane w idxs).s := by
  refine OnlyChanges.foldlAcc (fun a ch => ?_) a _
  split
  · exact writeFrame_moveToSlot a _ _ _ _ _ _
  · exact writeFrame_moveFromSlot a _ _ _ _ (fun a _ _ => ((onlyChanges_wrJit a _ _ _ _ _ _ _).toWrite (by decide)))

/-! ### Book mode (R63, R66, R69) -/

theorem writeFrame_addShadow (h : Nat) (t : Tensor) (round b : Nat) (clear fill : Bool) (evs : List (Nat × Val)) :
    OnlyChanges writeFields a.s (State.addShadow a h t round b clear fill evs).s :=
  (((onlyChanges_setHist a.s _ _ _).toWrite (by decide)).next (onlyChanges_bump _ _ _) (by decide)).next
    ((onlyChanges_onTensor _ _ _).trans (onlyChanges_onTensor _ _ _)) (by decide)

/-- The code of an element written, with its block's history word. -/
theorem onlyChanges_wrCodeHist (d : Line) (i c hdr b w : Nat) : OnlyChanges [.mem] s ((s.wrCode d 0 i c).setHist hdr b w) :=
  (onlyChanges_wrCode s d 0 i c).trans (onlyChanges_setHist _ hdr b w)

/-- An element written in the outlier store, with its block's history word. -/
theorem onlyChanges_wrHist (x n v hdr b w : Nat) : OnlyChanges [.mem] s ((s.wrNat x n v).setHist hdr b w) :=
  (onlyChanges_wrNat s x n v).trans (onlyChanges_setHist _ hdr b w)

theorem writeFrame_addScaled (h : Nat) (t : Tensor) (own : Option Writer) (b : Nat) (clear : Bool) (evs : List (Nat × Val)) :
    OnlyChanges writeFields a.s (State.addScaled a h t own b clear evs).s := by
  unfold State.addScaled
  dsimp only
  refine OnlyChanges.next (OnlyChanges.trans ?_ (OnlyChanges.foldlAcc (fun a p => ?_) _ evs)) (onlyChanges_onTensor _ _ _) (by decide)
  · have scaled : OnlyChanges writeFields a.s (a.s.setState (t.hdr 0) b 1) := (onlyChanges_setState a.s _ _ _).toWrite (by decide)
    split <;> split
    · exact scaled.next (recordFrame_record _ _) (by decide)
    · exact (recordFrame_record a.s _).toWrite (by decide)
    · exact scaled
    · exact OnlyChanges.refl _ a.s
  · dsimp only
    exact (onlyChanges_wrCodeHist a.s _ _ _ _ _ _).toWrite (by decide)

theorem writeFrame_addSlot (h : Nat) (t : Tensor) (own : Option Writer) (clear : Bool) (b : Nat) (evs : List (Nat × Val)) :
    OnlyChanges writeFields a.s (State.addSlot a h t own clear b evs).s := by
  unfold State.addSlot
  dsimp only
  refine OnlyChanges.next (OnlyChanges.next (OnlyChanges.foldlAcc (fun a p => ?_) a evs) (onlyChanges_slotMax _ _ _ _ _) (by decide))
    (onlyChanges_onTensor _ _ _) (by decide)
  dsimp only
  exact (onlyChanges_wrHist a.s _ _ _ _ _ _).toWrite (by decide)

theorem writeFrame_addBlock (h : Nat) (own : Option Writer) (round : Nat) (clear fill : Bool) (b : Nat) (evs : List (Nat × Val)) :
    OnlyChanges writeFields a.s (State.addBlock a h own round clear fill b evs).s := by
  unfold State.addBlock
  split
  · exact OnlyChanges.refl _ a.s
  dsimp only
  split
  · exact OnlyChanges.foldl (fun v x => writeFrame_poisonBad v x 1) a.s _
  split
  · exact writeFrame_addSlot a _ _ _ _ _ _
  split
  · exact writeFrame_addShadow a _ _ _ _ _ _ _
  · exact writeFrame_addScaled a _ _ _ _ _ _

theorem writeFrame_moveBook (h : Nat) (t : Tensor) (clear : Bool) (idxs : List Nat) :
    OnlyChanges writeFields a.s (State.moveBook a h t clear idxs).s := by
  refine OnlyChanges.foldlAcc (fun a ch => ?_) a _
  split
  · exact writeFrame_moveToSlot a _ _ _ _ _ _
  · exact writeFrame_moveFromSlot a _ _ _ _ (fun a _ _ => writeFrame_addBlock a _ _ _ _ _ _ _)

theorem writeFrame_moveChannels (h : Nat) (t : Tensor) (idxs : List Nat) :
    OnlyChanges writeFields a.s (State.moveChannels a h t idxs).s := by
  unfold State.moveChannels
  split
  · exact writeFrame_moveBook a _ _ _ _
  · exact writeFrame_moveJit a _ _ _ _ _

theorem writeFrame_storeBook (h : Nat) (t : Tensor) (own : Option Writer) (round : Nat) (clear fill : Bool) (evs : List (Nat × Val)) :
    OnlyChanges writeFields a.s (State.storeBook a h t own round clear fill evs).s :=
  (writeFrame_moveBook a _ _ _ _).trans (OnlyChanges.foldlAcc (fun a _ => writeFrame_addBlock a _ _ _ _ _ _ _) _ _)

end WriteFrames

end Sys2Proof.Machine

/-! Scope of the block: chunks of collectives: put by, acknowledged, refused, and added to or written in the destination (O34). -/

namespace Sys2Proof.Machine

section ChunkFrames
variable (s : State)

/-! ### What a chunk's values change (R71, R220, R221) -/

/-- The fields that applying a chunk may change. -/
def chunkFields : List Field := .step :: .queues :: writeFields

theorem OnlyChanges.toChunk {fs : List Field} {s u : State} (h : OnlyChanges fs s u) (within : fs ⊆ chunkFields) :
    OnlyChanges chunkFields s u :=
  h.mono within

theorem onlyChanges_latchVerdict (h fl : Nat) : OnlyChanges [.step] s (s.latchVerdict h fl) :=
  .ite (onlyChanges_step s _) (OnlyChanges.refl _ s)

theorem onlyChanges_raise (q id fl : Nat) : OnlyChanges [.queues] s (s.raise q id fl) := by
  unfold State.raise State.onStarted
  exact onlyChanges_onQueue s _ _

theorem writeFrame_addPlain (h first : Nat) (vals : List Val) : OnlyChanges writeFields s (s.addPlain h first vals).s := by
  refine OnlyChanges.foldlAcc (fun a x => ?_) ⟨s, 0, false⟩ _
  dsimp only
  split
  · split
    · exact writeFrame_poisonRead a.s _
    · exact OnlyChanges.refl _ a.s
  · exact (onlyChanges_wrCode a.s _ _ _ _).toWrite (by decide)

theorem chunkFrame_addChunk (c : Collective) (first : Nat) (vals : List Val) :
    OnlyChanges chunkFields s (s.addChunk c first vals).s := by
  unfold State.addChunk
  split
  · exact OnlyChanges.refl _ s
  dsimp only
  refine OnlyChanges.trans (OnlyChanges.next ?_ (onlyChanges_latchVerdict _ _ _) (by decide))
    ((writeFrame_useEntries _ _ _).toChunk (by decide))
  split
  · exact (writeFrame_storeBook ⟨s, 0, false⟩ _ _ _ _ _ _ _).toChunk (by decide)
  · exact (writeFrame_addPlain s _ _ _).toChunk (by decide)

/-- The codes of a gather chunk's elements outside the outlier store. -/
theorem onlyChanges_gatherCodes (d : Line) (stored : Nat → Bool) (xs : List (Nat × Nat)) :
    OnlyChanges [.mem] s (xs.foldl (fun s x => if stored x.1 then s else s.wrCode d 0 x.1 x.2) s) :=
  OnlyChanges.foldl (fun v _ => .ite (OnlyChanges.refl _ v) (onlyChanges_wrCode v _ _ _ _)) s xs

/-- The scale plane of a gather chunk's block outside the outlier store: its scale, state and history, and its channel's largest. -/
theorem onlyChanges_gatherPlane (d : Line) (hdr b e st hist ch : Nat) (books largest : Bool) : OnlyChanges [.mem] s
    (if largest then
      (if books then (((s.clearSide d hdr b).setScale hdr b e).setState hdr b st).setHist hdr b hist
        else ((s.clearSide d hdr b).setScale hdr b e).setState hdr b st).chanMax hdr ch e
    else if books then (((s.clearSide d hdr b).setScale hdr b e).setState hdr b st).setHist hdr b hist
      else ((s.clearSide d hdr b).setScale hdr b e).setState hdr b st) := by
  have scaled : OnlyChanges [.mem] s (((s.clearSide d hdr b).setScale hdr b e).setState hdr b st) :=
    ((onlyChanges_clearSide s d hdr b).trans (onlyChanges_setScale _ _ _ _)).trans (onlyChanges_setState _ _ _ _)
  have booked := OnlyChanges.ite (c := books = true) (scaled.trans (onlyChanges_setHist _ hdr b hist)) scaled
  exact .ite (booked.trans (onlyChanges_chanMax _ _ _ _)) booked

theorem chunkFrame_writeGather (c : Collective) (first : Nat) (g : GatherData) :
    OnlyChanges chunkFields s (s.writeGather c first g) := by
  unfold State.writeGather
  split
  · exact OnlyChanges.refl _ s
  next t _ =>
  dsimp only
  refine OnlyChanges.next (OnlyChanges.next (OnlyChanges.ite (OnlyChanges.next ?written (onlyChanges_bump _ _ _) (by decide)) ?written)
    (onlyChanges_latchVerdict _ _ _) (by decide)) (onlyChanges_raise _ _ _ _) (by decide)
  refine OnlyChanges.trans (OnlyChanges.next (OnlyChanges.trans (OnlyChanges.trans ?_
    ((writeFrame_moveChannels ⟨_, _, _⟩ _ _ _).toChunk (by decide)))
    ((writeFrame_noteElems _ _ _ _).toChunk (by decide))) (onlyChanges_gatherCodes _ _ _ _) (by decide))
    (OnlyChanges.foldl (fun v x => ?_) _ _)
  · exact ((writeFrame_bindBytes s _ _ _ _).next (onlyChanges_freshenBytes _ _ _ _) (by decide)).toChunk (by decide)
  · split
    · exact ((onlyChanges_wrSlotElems ⟨v, _, _⟩ _ _ _ _ _ _).trans (onlyChanges_slotMax _ _ _ _ _)).toChunk (by decide)
    · exact (onlyChanges_gatherPlane v _ _ _ _ _ _ _ _ _).toChunk (by decide)

theorem onlyChanges_see (id : Nat) (gather : Bool) (x : ChunkSeen) : OnlyChanges [.collectives] s (s.see id gather x) :=
  onlyChanges_onCollective s _ _

/-- The fields beside the collectives that the record of a chunk may change. -/
def seenFields : List Field := .collectives :: .queues :: tagFields

theorem OnlyChanges.toSeen {fs : List Field} {s u : State} (h : OnlyChanges fs s u) (within : fs ⊆ seenFields) :
    OnlyChanges seenFields s u :=
  h.mono within

end ChunkFrames

section Chunks
variable {s u : State} {p : Packet} {c : Collective} {x : ChunkSeen} {op n id : Nat} {gather : Bool}

/-! ### What a collective holds of its chunks -/

/-- What a collective holds of the chunks of a kind. -/
def Collective.chunks (c : Collective) (gather : Bool) : List ChunkSeen := if gather then c.gathered else c.seen

/-- The running collective `id` holds the record `x`. -/
def State.Holds (s : State) (id : Nat) (gather : Bool) (x : ChunkSeen) : Prop :=
  ∃ k, s.collective id = some k ∧ x ∈ k.chunks gather

theorem State.collective_of_frame {fs : List Field} (frame : OnlyChanges fs s u) (outside : .collectives ∉ fs) :
    u.collective id = s.collective id :=
  congrArg (List.find? (fun k : Collective => k.id == id)) (frame .collectives outside)

theorem State.holds_see (running : ∃ k, s.collective id = some k) : (s.see id gather x).Holds id gather x := by
  obtain ⟨k, found⟩ := running
  unfold State.see
  refine ⟨_, State.collective_onCollective (fun k => ?_) found, ?_⟩
  · cases gather <;> rfl
  · cases gather <;> exact List.mem_append_right _ (List.mem_singleton_self x)

theorem State.Holds.onCollective {f : Collective → Collective} (holds : s.Holds id gather x) (named : ∀ k, (f k).id = k.id)
    (keeps : ∀ k, (f k).chunks gather = k.chunks gather) : (s.onCollective id f).Holds id gather x := by
  obtain ⟨k, found, inside⟩ := holds
  exact ⟨f k, State.collective_onCollective named found, (keeps k).symm ▸ inside⟩

theorem State.Holds.frame {fs : List Field} (holds : s.Holds id gather x) (frame : OnlyChanges fs s u)
    (outside : .collectives ∉ fs) : u.Holds id gather x := by
  obtain ⟨k, found, inside⟩ := holds
  exact ⟨k, (State.collective_of_frame frame outside).trans found, inside⟩

theorem State.Holds.foldHeader {node : Nat} {v : Verdict} (holds : s.Holds c.id gather x) :
    (s.foldHeader c node v).Holds c.id gather x :=
  (holds.frame (tagFrame_checkTag s c node v) (by decide)).onCollective (fun _ => rfl) (fun _ => rfl)

theorem State.Holds.meetShard {st : Nat} (holds : s.Holds id gather x) : (s.meetShard id st).Holds id gather x :=
  State.Holds.onCollective (f := fun k => { k with shardStatus := worse k.shardStatus st }) holds (fun _ => rfl) (fun _ => rfl)

theorem seenFrame_foldHeader (s : State) (c : Collective) (node : Nat) (v : Verdict) :
    OnlyChanges seenFields s (s.foldHeader c node v) :=
  ((tagFrame_checkTag s c node v).toSeen (by decide)).next (onlyChanges_onCollective _ _ _) (by decide)

/-! ### The way of a chunk (R282, R286) -/

theorem exec_chunk {port : Fin 8} {e : Instr} (kind : op = 0x20 ∧ e = .contrib p ∨ op = 0x21 ∧ e = .gather p) (reaches : Reaches s p)
    (via : p.via = .fabric port) : exec e s = .next (((s.takeChunk op p 0 s.now).goOnCol).bufferFreed p op) := by
  obtain ⟨rfl, rfl⟩ | ⟨rfl, rfl⟩ := kind <;> exact congrArg Host.Outcome.next (State.colPacket_fabric reaches via)

theorem exec_chunk_traek {e : Instr} (kind : op = 0x20 ∧ e = .contrib p ∨ op = 0x21 ∧ e = .gather p) (reaches : Reaches s p)
    (via : p.via = .traek) : exec e s = .next ((s.refusePacket p op St.reservedSet).bufferFreed p op) := by
  obtain ⟨rfl, rfl⟩ | ⟨rfl, rfl⟩ := kind <;> exact congrArg Host.Outcome.next (State.colPacket_traek reaches via)

theorem State.takeChunk_none {since : Nat} (unknown : s.collectiveFor p.data = none) :
    s.takeChunk op p 0 since = if s.colStale p.data then s.colAck p 0 else s.park op p 0 since := by
  unfold State.takeChunk
  rw [unknown]

/-- The state in which a collective has progressed now. -/
def State.progressed (s : State) (id : Nat) : State := s.onCollective id (fun c => { c with progress := s.now })

theorem State.collective_progressed {k : Collective} (found : s.collective id = some k) :
    (s.progressed id).collective id = some { k with progress := s.now } :=
  State.collective_onCollective (f := fun k => { k with progress := s.now }) (fun _ => rfl) found

theorem State.takeChunk_some {since : Nat} (found : s.collectiveFor p.data = some c) : s.takeChunk op p 0 since =
    match s.planned c (op == 0x21) p with
    | none => ((s.progressed c.id).abandon c.id St.collectiveMismatch).colAck p St.collectiveMismatch
    | some n => (s.progressed c.id).checkChunk c op p n 0 since := by
  unfold State.takeChunk
  rw [found]
  rfl

/-- A chunk's record with the sums that the packet carries (R287). -/
def ChunkSeen.summed (x : ChunkSeen) (p : Packet) : ChunkSeen := { x with sum := numAt p.data 32 4, abs := numAt p.data 28 4 }

/-- The tensor that the elements of a chunk lie as. -/
def Collective.form (c : Collective) (gather : Bool) : Nat := if gather then c.dst else c.src

theorem Collective.form_eq (c : Collective) (op : Nat) : c.form (op == 0x21) = if op = 0x21 then c.dst else c.src := by
  simp [Collective.form]

/-- The digest of a chunk as it came (R286). -/
def cameDigest (op : Nat) (p : Packet) (n : Nat) : Nat :=
  chunkDigest (packetHead op p.dst.toNat p.src.toNat p.flag p.poison 0 p.epoch.toNat p.seq.toNat (p.addr.toNat % 2 ^ 48)
    p.length.toNat p.tag.toNat p.op.toNat) p.data n

theorem State.checkChunk_ended {since : Nat} (ended : (c.chunkFor (op == 0x21) p.data n).ended = true) :
    s.checkChunk c op p n 0 since = s.colAck p 0 := by
  unfold State.checkChunk
  exact if_pos ended

theorem State.checkChunk_good {since : Nat} (seen : x = c.chunkFor (op == 0x21) p.data n) (fresh : x.ended = false)
    (digest : p.src.toNat = s.node ∨ cameDigest op p (chunkBytes (s.desc (c.form (op == 0x21))) x.first n) = numAt p.data 40 8)
    (clean : p.poison = false)
    (sum : (op == 0x21) = false → sumOf (contribVals (s.desc (c.form (op == 0x21))) x.first n (p.data.drop 64)) = numAt p.data 32 4) :
    s.checkChunk c op p n 0 since = s.applyChunk c op p (x.summed p) 0 since := by
  subst seen
  have digest : ¬ (!(p.src.toNat == s.node) && cameDigest op p (chunkBytes (s.desc (c.form (op == 0x21)))
      (c.chunkFor (op == 0x21) p.data n).first n) != numAt p.data 40 8) = true := by
    simpa [or_iff_not_imp_left] using digest
  have sum : ¬ (!(op == 0x21) && sumOf (contribVals (s.desc (c.form (op == 0x21))) (c.chunkFor (op == 0x21) p.data n).first n
      (p.data.drop 64)) != numAt p.data 32 4) = true := by
    simpa using sum
  unfold State.checkChunk
  refine (if_neg (ne_true_of_eq_false fresh)).trans ((if_neg digest).trans ((if_neg (ne_true_of_eq_false clean)).trans ?_))
  exact if_neg sum

/-! ### Applying a chunk (R283, R287) -/

/-- What the values of a contribution leave: added to the destination, with their flags. -/
def State.contribAdded (s : State) (c : Collective) (p : Packet) (x : ChunkSeen) : Acc :=
  if x.count = 0 then ⟨s, 0, false⟩ else s.addChunk c x.first (contribVals (s.desc c.src) x.first x.count (p.data.drop 64))

/-- A contribution that was added, recorded and its verdict header folded. -/
def State.contribTaken (s : State) (c : Collective) (p : Packet) (x : ChunkSeen) : State :=
  let a := s.contribAdded c p x
  let seen := (a.s.raise c.q c.cmdId a.fl).see c.id false { x with applied := true }
  let met := if a.bad then seen.meetShard c.id St.dataPoisoned else seen
  if c.verdict && x.last then met.foldHeader c p.src.toNat (verdictAt p.data 48) else met

/-- What the codes of a gather chunk leave: written in the member's copy. -/
def State.gatherWritten (s : State) (c : Collective) (p : Packet) (x : ChunkSeen) : State :=
  if x.count = 0 then s else s.writeGather c x.first (gatherOf (s.desc c.dst) x.first x.count (p.data.drop 64))

/-- A gather chunk whose copy `z` was read back: a copy that does not decode is noted, the verdict header checked, the chunk recorded. -/
def State.gatherTaken (z : State) (c : Collective) (p : Packet) (x : ChunkSeen) : State :=
  let met := if (z.copySum c x.first x.count).1 then z else z.meetOwn c.id St.dataPoisoned
  let checked := if c.verdict && x.last then (met.checkTag c p.src.toNat (verdictAt p.data 48)).onCollective c.id
    (fun c => { c with void := c.void || (verdictAt p.data 48).tag != met.stepTag }) else met
  checked.see c.id true { x with applied := true }

section Apply
variable {since : Nat} (stop : s.chunkStop c (op == 0x21) x.first x.count = none) (access : s.accessTensors [] [c.dst] = (s, true))
include stop access

theorem State.applyChunk_now : s.applyChunk c op p x 0 since =
    if op == 0x21 then s.takeGather c p x else (s.contribTaken c p x).colAck p 0 := by
  have entered : (if x.count = 0 then (s, true) else s.accessTensors [] [c.dst]) = (s, true) := by
    split
    · rfl
    · exact access
  unfold State.applyChunk
  dsimp only
  rw [stop]
  dsimp only
  rw [entered]
  rfl

end Apply

theorem State.takeGather_right {z : State} (written : z = s.gatherWritten c p x)
    (right : x.count = 0 ∨ (z.copySum c x.first x.count).1 = false ∨ (z.copySum c x.first x.count).2 = x.sum) :
    s.takeGather c p x = (z.gatherTaken c p x).colAck p 0 := by
  subst written
  have right : ¬ (x.count ≠ 0 ∧ ((s.gatherWritten c p x).copySum c x.first x.count).1 = true ∧
      ((s.gatherWritten c p x).copySum c x.first x.count).2 ≠ x.sum) := by
    rintro ⟨some, decodes, differs⟩
    obtain empty | bad | same := right
    · exact some empty
    · exact absurd decodes (ne_true_of_eq_false bad)
    · exact differs same
  unfold State.takeGather
  exact if_neg right

theorem chunkFrame_contribAdded (s : State) (c : Collective) (p : Packet) (x : ChunkSeen) :
    OnlyChanges chunkFields s (s.contribAdded c p x).s := by
  unfold State.contribAdded
  split
  · exact OnlyChanges.refl _ s
  · exact chunkFrame_addChunk s _ _ _

theorem chunkFrame_gatherWritten (s : State) (c : Collective) (p : Packet) (x : ChunkSeen) :
    OnlyChanges chunkFields s (s.gatherWritten c p x) :=
  .ite (OnlyChanges.refl _ s) (chunkFrame_writeGather s _ _ _)

theorem seenFrame_contribTaken (s : State) (c : Collective) (p : Packet) (x : ChunkSeen) :
    OnlyChanges seenFields (s.contribAdded c p x).s (s.contribTaken c p x) := by
  have seen (a : Acc) (y : ChunkSeen) : OnlyChanges seenFields a.s ((a.s.raise c.q c.cmdId a.fl).see c.id false y) :=
    ((onlyChanges_raise a.s _ _ _).toSeen (by decide)).next (onlyChanges_see _ _ _ _) (by decide)
  unfold State.contribTaken
  dsimp only
  split
  all_goals split
  · exact ((seen _ _).next (onlyChanges_onCollective _ _ _) (by decide)).trans (seenFrame_foldHeader _ _ _ _)
  · exact (seen _ _).trans (seenFrame_foldHeader _ _ _ _)
  · exact (seen _ _).next (onlyChanges_onCollective _ _ _) (by decide)
  · exact seen _ _

theorem State.contribTaken_holds (running : ∃ k, s.collective c.id = some k) :
    (s.contribTaken c p x).Holds c.id false { x with applied := true } := by
  have running : ∃ k, ((s.contribAdded c p x).s.raise c.q c.cmdId (s.contribAdded c p x).fl).collective c.id = some k := by
    rw [State.collective_of_frame (onlyChanges_raise _ _ _ _) (by decide),
      State.collective_of_frame (chunkFrame_contribAdded s c p x) (by decide)]
    exact running
  have seen := State.holds_see (x := { x with applied := true }) (gather := false) running
  unfold State.contribTaken
  dsimp only
  split
  all_goals split
  · exact seen.meetShard.foldHeader
  · exact seen.foldHeader
  · exact seen.meetShard
  · exact seen

theorem seenFrame_gatherTaken (z : State) (c : Collective) (p : Packet) (x : ChunkSeen) :
    OnlyChanges seenFields z (z.gatherTaken c p x) := by
  have met : OnlyChanges seenFields z (if (z.copySum c x.first x.count).1 then z else z.meetOwn c.id St.dataPoisoned) :=
    .ite (OnlyChanges.refl _ z) ((onlyChanges_onCollective z _ _).toSeen (by decide))
  unfold State.gatherTaken
  dsimp only
  refine OnlyChanges.next ?_ (onlyChanges_see _ _ _ _) (by decide)
  split
  · exact (met.trans ((tagFrame_checkTag _ _ _ _).toSeen (by decide))).next (onlyChanges_onCollective _ _ _) (by decide)
  · exact met

theorem State.gatherTaken_holds {z : State} (running : ∃ k, z.collective c.id = some k) :
    (z.gatherTaken c p x).Holds c.id true { x with applied := true } := by
  have kept {v : State} {f : Collective → Collective} (named : ∀ k, (f k).id = k.id) (running : ∃ k, v.collective c.id = some k) :
      ∃ k, (v.onCollective c.id f).collective c.id = some k := by
    obtain ⟨k, found⟩ := running
    exact ⟨f k, State.collective_onCollective named found⟩
  have met : ∃ k, (if (z.copySum c x.first x.count).1 then z else z.meetOwn c.id St.dataPoisoned).collective c.id = some k := by
    split
    · exact running
    · exact kept (fun _ => rfl) running
  refine State.holds_see ?_
  split
  · refine kept (fun _ => rfl) ?_
    rw [State.collective_of_frame (tagFrame_checkTag _ _ _ _) (by decide)]
    exact met
  · exact met

end Chunks

/-- Settles O34: a chunk is put by, acknowledged, refused or applied; HOPS counts as 0 in its digest (log entry 96), its values lie as the
payload's layout says (97), a stale one is acknowledged (99), and one that does not fit ends its collective at once (100). -/
theorem collectiveChunksAreTaken : Obligations.CollectiveChunksAreTaken := by
  unfold Obligations.CollectiveChunksAreTaken
  intro p op e s kind reaches
  refine ⟨fun via => exec_chunk_traek kind reaches via, fun port via => ⟨fun unknown stale => ?stale, fun unknown fresh => ?parked,
    fun c w found moved => ⟨fun misfit => ?misfit, fun n d x planned form seen => ⟨fun ended => ?ended,
      fun fresh clean digest stop access z written sum copy => ?applied⟩⟩⟩⟩
  all_goals rw [exec_chunk kind reaches via]
  case stale => rw [State.takeChunk_none unknown, if_pos stale]
  case parked => rw [State.takeChunk_none unknown, if_neg (ne_true_of_eq_false fresh)]
  all_goals
    rw [State.takeChunk_some found]
    change w = s.progressed c.id at moved
    rw [← moved]
  case misfit => rw [misfit]
  all_goals
    rw [planned]
    dsimp only
  case ended => rw [State.checkChunk_ended (seen ▸ ended)]
  case applied =>
    rw [← Collective.form_eq] at form
    subst form
    have running : ∃ k, w.collective c.id = some k := by
      obtain ⟨k, known⟩ := State.collective_of_mem (List.mem_of_find?_eq_some found)
      exact ⟨_, moved ▸ State.collective_progressed known⟩
    have sums : (op == 0x21) = false →
        sumOf (contribVals (w.desc (c.form (op == 0x21))) x.first n (p.data.drop 64)) = numAt p.data 32 4 := fun contrib =>
      sum (kind.elim (·.1) (fun gather => absurd gather.1 (ne_of_beq_false contrib)))
    rw [State.checkChunk_good seen fresh digest clean sums, State.applyChunk_now (x := x.summed p) stop access]
    obtain ⟨rfl, -⟩ | ⟨rfl, -⟩ := kind
    · have added : (w.contribAdded c p x).s = z := by
        rw [written, State.contribAdded]
        split <;> rfl
      have frame := seenFrame_contribTaken w c p (x.summed p)
      obtain ⟨k, held, inside⟩ := State.contribTaken_holds (p := p) (x := x.summed p) running
      exact ⟨w.contribTaken c p (x.summed p), k, _, rfl, (frame .mem (by decide)).trans (congrArg State.mem added),
        (frame .tensors (by decide)).trans (congrArg State.tensors added), held, inside, rfl, rfl, rfl⟩
    · have stored : z = w.gatherWritten c p (x.summed p) := by
        rw [written, State.gatherWritten]
        rfl
      have running : ∃ k, z.collective c.id = some k := by
        rw [stored, State.collective_of_frame (chunkFrame_gatherWritten w c p (x.summed p)) (by decide)]
        exact running
      have frame := seenFrame_gatherTaken z c p (x.summed p)
      obtain ⟨k, held, inside⟩ := State.gatherTaken_holds (p := p) (x := x.summed p) running
      exact ⟨z.gatherTaken c p (x.summed p), k, _, by rw [State.takeGather_right stored (copy rfl)]; rfl, frame .mem (by decide),
        frame .tensors (by decide), held, inside, rfl, rfl, rfl⟩

end Sys2Proof.Machine

/-! Scope of the block: requests of the fabric and of the companion as they enter their streams and take effect (O46). -/

namespace Sys2Proof.Machine

section Offers
variable {s : State} {p x : Packet} {k : ReqKind} {n : Fin 8}

/-! ### A request packet as an instruction -/

/-- The instruction of a request packet, with the request and the packet that enters the stream: a tee mark is flagged; ADD and GET come
over the fabric only (R302). -/
def Asks (e : Instr) (k : ReqKind) (p x : Packet) : Prop :=
  (e = .load p ∧ k = .load ∧ x = p) ∨ (e = .store p ∧ k = .store ∧ x = p) ∨ (e = .atomic p ∧ k = .atomic ∧ x = p) ∨
    (e = .addPacket p ∧ k = .add ∧ x = p ∧ p.via ≠ .traek) ∨ (e = .get p ∧ k = .get ∧ x = p ∧ p.via ≠ .traek) ∨
    (e = .rdShared ⟨p, none⟩ ∧ k = .rdShared ∧ x = p) ∨ (e = .rdOwn p ∧ k = .rdOwn ∧ x = p) ∨
    (e = .writeback p ∧ k = .writeback ∧ x = p) ∨ (e = .evict p ∧ k = .evict ∧ x = p) ∨
    (e = .teeMarkApply p ∧ k = .mark ∧ x = { p with flag := true })

theorem State.entryError_none (s : State) (p : Packet) : s.entryError p none = s := rfl

theorem exec_rdShared (s : State) (p : Packet) : exec (.rdShared ⟨p, none⟩) s = .next (s.request .rdShared p) := by
  change Host.Outcome.next (State.request (if _ then s.entryError p none else s) .rdShared p) = _
  rw [State.entryError_none, ite_self]

theorem exec_rdShared_fabric (s : State) (ecc : Option (BitVec 32 × Bool)) (via : p.via = .fabric n) :
    exec (.rdShared ⟨p, ecc⟩) s = .next ((s.entryError p ecc).request .rdShared p) := by
  change Host.Outcome.next (State.request (if (match p.via with
    | .fabric _ => true | .traek => s.localNode (p.addr.toNat / 2 ^ 48)) = true then s.entryError p ecc else s) .rdShared p) = _
  rw [via]
  rfl

theorem exec_get (fabric : p.via ≠ .traek) : exec (.get p) s = .next (s.request .get p) := by
  change Host.Outcome.next (s.fabricOnly .get p) = _
  unfold State.fabricOnly
  cases via : p.via with
  | traek => exact absurd via fabric
  | fabric n => rfl

/-- The Traek link carries no ADD and GET (R302). -/
theorem State.fabricOnly_traek (reaches : Reaches s p) (via : p.via = .traek) :
    s.fabricOnly k p = (s.refusePacket p (kindOp k) St.reservedSet).bufferFreed p (kindOp k) := by
  unfold State.fabricOnly
  rw [via]
  exact State.arrive_reaches reaches _ _

/-- The packet that enters the stream differs from the one that came in its flag at most. -/
theorem Asks.packet {e : Instr} (asks : Asks e k p x) : x = p ∨ x = { p with flag := true } := by
  unfold Asks at asks
  tauto

theorem Asks.exec_eq {e : Instr} (asks : Asks e k p x) : exec e s = .next (s.request k x) := by
  obtain ⟨rfl, rfl, rfl⟩ | ⟨rfl, rfl, rfl⟩ | ⟨rfl, rfl, rfl⟩ | ⟨rfl, rfl, rfl, fabric⟩ | ⟨rfl, rfl, rfl, fabric⟩ | ⟨rfl, rfl, rfl⟩ |
    ⟨rfl, rfl, rfl⟩ | ⟨rfl, rfl, rfl⟩ | ⟨rfl, rfl, rfl⟩ | ⟨rfl, rfl, rfl⟩ := asks
  case inr.inr.inr.inl => exact exec_addPacket fabric
  case inr.inr.inr.inr.inl => exact exec_get fabric
  case inr.inr.inr.inr.inr.inl => exact exec_rdShared s x
  all_goals rfl

/-- A request that reaches the module is offered to its stream, and what waited goes on. -/
theorem Asks.exec_offer {e : Instr} (asks : Asks e k p x) (reaches : Reaches s p) :
    exec e s = .next (((s.offerReq k x).goOn).bufferFreed x (kindOp k)) := by
  have reaches : Reaches s x := by
    obtain rfl | rfl := asks.packet
    · exact reaches
    · exact reaches
  rw [asks.exec_eq, State.request, State.arrive_reaches reaches]

theorem Asks.same {e : Instr} (asks : Asks e k p x) : inKey x = inKey p ∧ x.via = p.via ∧ x.seq = p.seq := by
  obtain rfl | rfl := asks.packet <;> exact ⟨rfl, rfl, rfl⟩

/-! ### Its place in the stream (R264, R265, R303) -/

/-- The distance of a request ahead of the next one of its stream. -/
def State.lead (s : State) (p : Packet) : Nat := (p.seq.toNat + 2 ^ 32 - (s.streamIn (inKey p)).next) % 2 ^ 32

/-- The state in which the stream of a request holds it. -/
def State.heldIn (s : State) (k : ReqKind) (p : Packet) : State :=
  s.onStreamIn (inKey p) (fun r => { r with held := r.held ++ [(k, p, s.now)] })

theorem State.inKey_numbered (s : State) (p : Packet) : inKey (s.numbered p) = inKey p := by
  cases via : p.via with
  | traek => rw [State.numbered_traek via]; rfl
  | fabric n => rw [State.numbered_fabric via]

section Empty
variable (empty : (s.streamIn (inKey p)).held = []) (whole : (s.streamIn (inKey p)).skipped = [])
include empty whole

theorem State.offerReq_fabric (via : p.via = .fabric n) : s.offerReq k p =
    if 2 ^ 31 ≤ s.lead p then s.ackTo p
    else if s.lead p ≠ 0 ∧ 256 ≤ s.holdback n then s.nakTo p St.fabricBusy else State.pump (inKey p) 1 (s.heldIn k p) := by
  unfold State.offerReq
  simp only [via, empty, whole, List.any_nil, Bool.false_eq_true, or_false, List.length_nil]
  rfl

theorem State.offerReq_traek (via : p.via = .traek) : s.offerReq k p = State.pump (inKey p) 1 (s.heldIn k (s.numbered p)) := by
  unfold State.offerReq State.heldIn
  rw [State.inKey_numbered, via]
  dsimp only
  rw [empty, whole, State.numbered_traek via, via]
  rfl

/-- A stream that holds nothing else keeps a request that is not the next in it. -/
theorem State.pump_gap (gap : p.seq.toNat ≠ (s.streamIn (inKey p)).next) : State.pump (inKey p) 1 (s.heldIn k p) = s.heldIn k p := by
  have other : (p.seq.toNat == (s.streamIn (inKey p)).next) = false := beq_false_of_ne gap
  unfold State.pump State.heldIn
  dsimp only
  rw [State.streamIn_onStreamIn_same, whole, empty]
  simp only [List.find?_nil, List.nil_append, List.find?_singleton, other, Bool.false_eq_true, if_false]

/-- A stream keeps a flagged request while one before it is not applied. -/
theorem State.pump_flagged (next : p.seq.toNat = (s.streamIn (inKey p)).next) (flagged : s.flaggedReq k p = true)
    (behind : s.unapplied (inKey p) ≠ []) : State.pump (inKey p) 1 (s.heldIn k p) = s.heldIn k p := by
  have stays : ((s.heldIn k p).flaggedReq k p && !((s.heldIn k p).unapplied (inKey p)).isEmpty) = true := by
    change (s.flaggedReq k p && !(s.unapplied (inKey p)).isEmpty) = true
    rw [flagged, Bool.true_and, Bool.not_eq_true', List.isEmpty_eq_false_iff]
    exact behind
  unfold State.pump
  dsimp only
  rw [State.heldIn, State.streamIn_onStreamIn_same, whole, empty]
  simp only [List.find?_nil, List.nil_append, List.find?_singleton, next, beq_self_eq_true, if_true]
  exact if_pos stays

end Empty

theorem State.streamIn_streamed (empty : (s.streamIn (inKey p)).held = []) : (s.streamed k p).streamIn (inKey p) =
    { s.streamIn (inKey p) with next := ((s.streamIn (inKey p)).next + 1) % 2 ^ 32 } := by
  unfold State.streamed
  rw [State.streamIn_onStreamIn_same, State.streamIn_onStreamIn_same]
  simp only [empty, List.nil_append, List.erase_cons_head]

/-- The request as its stream holds it, once it is the next: one of the fabric with its number, the companion's numbered as it comes. -/
theorem State.offerReq_next {y : Packet} (empty : (s.streamIn (inKey x)).held = []) (whole : (s.streamIn (inKey x)).skipped = [])
    (small : (s.streamIn (inKey x)).next < 2 ^ 32)
    (next : (∃ n, x.via = .fabric n ∧ x.seq.toNat = (s.streamIn (inKey x)).next ∧ y = x) ∨
      (x.via = .traek ∧ y = { x with seq := BitVec.ofNat 32 (s.streamIn (inKey x)).next })) :
    inKey y = inKey x ∧ y.seq.toNat = (s.streamIn (inKey x)).next ∧ s.offerReq k x = State.pump (inKey y) 1 (s.heldIn k y) := by
  obtain ⟨n, via, next, rfl⟩ | ⟨via, rfl⟩ := next
  · have first : s.lead y = 0 := by
      unfold State.lead
      omega
    refine ⟨rfl, next, (State.offerReq_fabric empty whole via).trans ?_⟩
    rw [first, if_neg (by decide), if_neg (fun ahead => ahead.1 rfl)]
  · rw [← State.numbered_traek via]
    refine ⟨s.inKey_numbered x, ?_, s.inKey_numbered x ▸ State.offerReq_traek empty whole via⟩
    rw [State.numbered_traek via]
    exact Nat.mod_eq_of_lt small

end Offers

section Applies
variable {s u : State} {p : Packet} {k : ReqKind} {n : Fin 8} {a b : Nat} {r : ChanReq}

/-! ### Rights and the local address (R263, R307, R309) -/

theorem State.applyReq_short (via : p.via = .fabric n) (short : p.length.toNat < 64) :
    s.applyReq .get p = s.refusePacket p 0x05 St.reservedSet := by
  unfold State.applyReq
  rw [via]
  exact if_pos ⟨rfl, short⟩

theorem State.applyReq_fabric (via : p.via = .fabric n) (long : k = .get → 64 ≤ p.length.toNat)
    (own : s.isCompanion p.dst.toNat = false) : s.applyReq k p =
      if s.inboundGrants p.src.toNat (p.addr.toNat % 2 ^ 48) (pktBytes p) (kindBit k) then
        (if k = .mark then s.markReq p
        else s.startReq { kind := k, pkt := p, line := p.addr.toNat % 2 ^ 48, since := s.now })
      else s.refusePacket p (kindOp k) St.fabricDenied := by
  unfold State.applyReq
  rw [via]
  dsimp only
  rw [if_neg (fun short => absurd short.2 (not_lt.2 (long short.1))), own, if_neg Bool.false_ne_true]

theorem State.applyReq_mark_traek (via : p.via = .traek) : s.applyReq .mark p = s.refusePacket p 0x02 St.fabricDenied := by
  unfold State.applyReq
  rw [via]
  rfl

theorem State.applyReq_traek (via : p.via = .traek) (other : k ≠ .mark)
    (target : s.traekTarget p.addr.toNat (pktBytes p) (kindBit k) = .inl a) : s.applyReq k p =
      s.startReq { kind := k, pkt := { p with addr := BitVec.ofNat 64 a }, line := a, since := s.now } := by
  unfold State.applyReq
  rw [via]
  dsimp only
  rw [if_neg other, target]

theorem State.applyReq_stopped {st : Nat} (via : p.via = .traek) (other : k ≠ .mark)
    (target : s.traekTarget p.addr.toNat (pktBytes p) (kindBit k) = .inr st) : s.applyReq k p =
      if st = St.dictOnly then s.nakTo p st else s.nakFault p (kindAccess k) p.addr.toNat st := by
  unfold State.applyReq
  rw [via]
  dsimp only
  rw [if_neg other, target]

/-! ### Its line and its place (R213, R273) -/

theorem onlyChanges_lineWait (s : State) (rs : List ChanReq) : OnlyChanges [.lineWait] s { s with lineWait := rs } := by
  intro f outside
  cases f
  case lineWait => exact absurd List.mem_cons_self outside
  all_goals rfl

/-- A request for whose line none waits, and that waits for it now, is put by. -/
theorem State.startReq_waits {key : Nat} (free : s.lineWait.any (fun x => lineOf x.line == lineOf r.line) = false)
    (waits : (s.tryReq r).2 = some key) : s.startReq r =
      { (s.tryReq r).1 with lineWait := (s.tryReq r).1.lineWait ++ [{ r with since := s.now, key := key }] } := by
  unfold State.startReq
  dsimp only
  rw [free, if_neg Bool.false_ne_true, waits]

/-- A request to a scratchpad of a cluster that is awake. -/
theorem State.tryReq_scratch (at' : place r.line = .scratch b)
    (awake : ¬ ((s.region ((r.line - 0x100000000000) / 0x2000000)).power = 1 ∨
      (s.region ((r.line - 0x100000000000) / 0x2000000)).power = 2))
    (inside : s.memStatus r.line (pktBytes r.pkt) .outside false = 0) : s.tryReq r = (s.scratchReq r, none) := by
  unfold State.tryReq
  rw [at']
  dsimp only
  rw [if_neg awake, if_neg (not_not.2 inside)]

theorem State.scratchReq_load (sort : r.kind = .load ∨ r.kind = .get) : s.scratchReq r = s.serveRead r.pkt r.line := by
  unfold State.scratchReq
  obtain sort | sort := sort <;> rw [sort]

theorem State.scratchReq_store (sort : r.kind = .store) (clean : r.pkt.poison = false) :
    s.scratchReq r = (s.storeMem (storedOf r.pkt).1 (storedOf r.pkt).2).ackTo r.pkt := by
  unfold State.scratchReq
  rw [sort]
  dsimp only
  rw [clean, if_neg Bool.false_ne_true]

end Applies

/-- Settles O46: a request takes its place in its stream, waits there, or is applied: checked, and tried at its local address. A full
holdback answers FABRIC_BUSY (log entry 88); a GET of fewer than 64 lines is malformed (175). -/
theorem requestsArriveAndTakeEffect : Obligations.RequestsArriveAndTakeEffect := by
  unfold Obligations.RequestsArriveAndTakeEffect
  intro s p
  refine ⟨fun e k x asks reaches st now empty whole small => ⟨fun n via d ahead => ?ahead, fun y next w moved => ?next⟩,
    fun via reaches => ?refused, fun ecc n via => ?entry, fun n a via addr => ⟨fun short => State.applyReq_short via short,
      fun k long own => ?rights⟩, fun via => ⟨State.applyReq_mark_traek via, fun k other => ?window⟩, fun r free u tried => ?line,
    fun r b c at' cluster up awake inside => ?scratch⟩
  case ahead =>
    have asks : Asks e k p x := asks
    obtain ⟨key, via', seq⟩ := asks.same
    rw [asks.exec_offer reaches]
    rw [← key] at now ⊢
    subst now
    have lead : d = s.lead x := by rw [ahead, ← seq]; rfl
    rw [State.offerReq_fabric empty whole (via'.trans via), ← lead]
    refine ⟨fun behind => ?_, fun gap near full => ?_, fun gap near room => ?_⟩
    · rw [if_pos behind]
    · rw [if_neg (not_le.2 near), if_pos ⟨gap, full⟩]
    · rw [if_neg (not_le.2 near), if_neg (fun full => absurd full.2 (not_le.2 room))]
      have apart : x.seq.toNat ≠ (s.streamIn (inKey x)).next := by
        rw [← seq] at ahead
        omega
      refine ⟨s.heldIn k x, by rw [State.pump_gap empty whole apart], onlyChanges_onStreamIn s _ _, ?_⟩
      rw [State.heldIn, State.streamIn_onStreamIn_same, empty, List.nil_append]
  case next =>
    have asks : Asks e k p x := asks
    obtain ⟨key, via, seq⟩ := asks.same
    rw [asks.exec_offer reaches]
    rw [← key] at now moved ⊢
    rw [← via, ← seq] at next
    subst now
    obtain ⟨same, first, offered⟩ := State.offerReq_next (k := k) empty whole small next
    rw [offered]
    rw [← same] at empty whole first moved ⊢
    subst moved
    refine ⟨fun flagged behind => ?_, fun may => ?_⟩
    · rw [State.pump_flagged empty whole first flagged behind]
      rfl
    · refine ⟨s.streamed k y, ?_, onlyChanges_streamed s k y, State.streamIn_streamed empty⟩
      rw [State.heldIn, State.pump_next empty whole first may]
  case refused =>
    exact ⟨congrArg Host.Outcome.next (State.fabricOnly_traek reaches via), congrArg Host.Outcome.next (State.fabricOnly_traek reaches via)⟩
  case entry => rw [exec_rdShared_fabric s ecc via, exec_rdShared]
  case rights =>
    subst addr
    rw [State.applyReq_fabric via long own]
    refine ⟨fun denied => by rw [denied, if_neg Bool.false_ne_true], fun granted => ⟨fun sort twin => ?_, fun sort twin => ?_,
      fun other => by rw [granted, if_pos rfl, if_neg other]⟩⟩
    all_goals
      subst sort
      rw [State.applyReq_fabric via long own, granted, if_pos rfl, if_pos rfl, State.markReq]
    · rw [if_pos twin]
    · rw [if_neg twin]
  case window => exact ⟨fun a target => State.applyReq_traek via other target, fun st target => State.applyReq_stopped via other target⟩
  case line =>
    subst tried
    refine ⟨fun done => ?_, fun key waits => ?_⟩
    · exact State.startReq_of_try (by simpa using free) (Prod.ext rfl done)
    · rw [State.startReq_waits free waits]
      exact ⟨onlyChanges_lineWait _ _, rfl⟩
  case scratch =>
    subst cluster
    rw [State.tryReq_scratch at' (not_or.2 ⟨up, awake⟩) inside]
    exact ⟨fun sort => by rw [State.scratchReq_load sort], fun sort clean => by rw [State.scratchReq_store sort clean]⟩

end Sys2Proof.Machine

/-! Scope of the block: coherent requests of agents outside at the directory: the line's new state, the read, the store, the snoop
(O60). -/

namespace Sys2Proof.Machine

section Directory
variable {s : State} {p : Packet} {k : ReqKind} {a near line agent : Nat} {r : ChanReq}

/-! ### Lines (R215) -/

theorem stripe_line (o : Nat) : stripe (64 * (o / 64)) = lineOf (stripe o) := by
  unfold stripe lineOf
  dsimp only
  omega

/-- The line of a local address is the line of its near-home address. -/
theorem memKey_line (at' : place a = .lpddr near) : memKey (64 * (a / 64)) = lineOf near := by
  unfold place at at'
  simp only [ite_eq_iff, reduceCtorEq, and_false, or_false, Place.lpddr.injEq] at at'
  obtain ⟨low, rfl⟩ | ⟨above, high, rfl⟩ := at'
  · rw [memKey_low (by omega)]
    unfold lineOf
    omega
  · have striped : place (64 * (a / 64)) = .lpddr (stripe (64 * (a / 64) - 0x20000000000)) := by
      unfold place
      rw [if_neg (by omega), if_pos (by omega)]
    have offset : 64 * (a / 64) - 0x20000000000 = 64 * ((a - 0x20000000000) / 64) := by omega
    rw [memKey, striped, offset]
    exact stripe_line _

/-! ### What the directory and the regions leave as it was -/

theorem onlyChanges_setDir (s : State) (line : Nat) (d : DirState) : OnlyChanges [.directory] s (s.setDir line d) := by
  intro f outside
  cases f
  case directory => exact absurd List.mem_cons_self outside
  all_goals rfl

/-- A region beside the clusters' that is called. -/
theorem onlyChanges_callRegion {r : Nat} (beside : ¬ r < 32) (s : State) : OnlyChanges [.regions] s (s.callRegion r) := by
  unfold State.callRegion
  rw [if_neg beside]
  exact onlyChanges_setRegion s r _

theorem State.dirState_setDir (s : State) (line : Nat) (d : DirState) (j : Nat) :
    (s.setDir line d).dirState j = if j = line then d else s.dirState j :=
  look_put _ s.directory line d j

/-- A state in which the directory, the streams that come in and the regions are others. -/
def State.withDir (s : State) (d : Tbl DirState) (i : Tbl StreamIn) (g : Tbl Region) : State :=
  { s with directory := d, streamsIn := i, regions := g }

section Kept
variable (s) (d : Tbl DirState) (i : Tbl StreamIn) (g : Tbl Region)

theorem State.localByte_withDir (a : Nat) : (s.withDir d i g).localByte a = s.localByte a := by
  unfold State.localByte
  split <;> rfl

theorem State.captured_withDir (r : ChanReq) : (s.withDir d i g).captured r = s.captured r := by
  unfold State.captured State.localBytes
  simp only [State.localByte_withDir]
  rfl

theorem State.opLines_withDir (o : AdderOp) : (s.withDir d i g).opLines o = s.opLines o := by
  cases o with
  | line a k data => rfl
  | atom a x => rfl
  | book h first vals =>
    have mem : (s.withDir d i g).mem = s.mem := rfl
    unfold State.opLines State.elemBytes State.codeAt State.present State.blockAt State.dataAddr State.rdNat
    simp only [State.rdBytes_congr mem]
    rfl

theorem State.waitsAt_withDir (line ord : Nat) : (s.withDir d i g).waitsAt line ord = s.waitsAt line ord := by
  unfold State.waitsAt
  simp only [State.opLines_withDir]
  rfl

end Kept

/-- The states of a line that let RD_SHARED and RD_OWN be served at once, each with the line's next one (R273). -/
def NextDir (s : State) (k : ReqKind) (agent line : Nat) (d : DirState) : Prop :=
  ((s.dirState line = .u ∨ ∃ t, s.dirState line = .e agent t) ∧ d = .e agent s.now) ∨
    (∃ us t, s.dirState line = .s us t ∧
      (k = .rdShared ∧ d = .s (if us.contains agent then us else us ++ [agent]) s.now ∨
       k = .rdOwn ∧ (∀ x ∈ us, x = agent) ∧ d = .e agent s.now))

theorem State.dirStep_serves {d : DirState} (still : s.snooping line = false) (sort : k = .rdShared ∨ k = .rdOwn)
    (next : NextDir s k agent line d) : s.dirStep k agent line = (s.setDir line d, true) := by
  unfold State.dirStep
  rw [if_neg (ne_true_of_eq_false still)]
  obtain ⟨⟨now⟩ | ⟨t, now⟩, rfl⟩ | ⟨us, t, now, ⟨rfl, rfl⟩ | ⟨rfl, own, rfl⟩⟩ := next
  · obtain rfl | rfl := sort <;> simp only [now]
  · obtain rfl | rfl := sort <;> simp only [now, if_true]
  · simp only [now]
  · have alone : us.filter (· != agent) = [] := List.filter_eq_nil_iff.2 fun x inside => by simp [own x inside]
    simp only [now, alone, List.isEmpty_nil, if_true]

/-- A line that another agent owns is asked for from it (R273). -/
theorem State.dirStep_snoops {o t : Nat} (still : s.snooping line = false) (sort : k = .rdShared ∨ k = .rdOwn)
    (owned : s.dirState line = .e o t) (other : o ≠ agent) :
    s.dirStep k agent line = (s.snoop line o (k == .rdShared), false) := by
  unfold State.dirStep
  rw [if_neg (ne_true_of_eq_false still)]
  obtain rfl | rfl := sort
  all_goals
    simp only [owned, if_neg other]
    rfl

/-! ### A read at its channel (R217, R219) -/

theorem State.toChannel_admits (here : memKey r.line = near) (now : r.since = s.now)
    (room : (s.channel (chanOf near)).admitted.length < 128) (first : (s.channel (chanOf near)).ingress = [])
    (cool : (s.package (pkgOf near)).derate ≠ 3) (runs : s.cooling.stopped = false)
    (free : ∀ l ∈ r.lines, s.waitsAt l s.arrivals = false) : s.toChannel r =
      s.onChannel (chanOf near) (fun c => { c with admitted := c.admitted ++ [s.captured r] }) := by
  have since : { r with since := s.now } = r := by rw [← now]
  have ahead : s.readBehind { r with since := s.now, ord := s.arrivals } = false := List.any_eq_false.2 fun l inside => by
    rw [free l inside]
    exact Bool.false_ne_true
  unfold State.toChannel
  dsimp only
  rw [here, ahead, first, runs, decide_eq_true room, bne_iff_ne.2 cool, since]
  rfl

theorem State.callRegion_eq {n : Nat} (beside : ¬ n < 32) (s : State) : ∃ g, s.callRegion n = { s with regions := g } := by
  unfold State.callRegion
  rw [if_neg beside]
  exact ⟨put {} s.regions n _, rfl⟩

theorem State.streamed_eq (s : State) (k : ReqKind) (p : Packet) : ∃ i, s.streamed k p = { s with streamsIn := i } :=
  ⟨(s.streamed k p).streamsIn, rfl⟩

/-- The state in which the directory has a line's new state and the controller of its package is called. -/
theorem State.called_eq (s : State) (k : ReqKind) (p : Packet) (line package : Nat) (d : DirState) : ∃ i g,
    ((s.streamed k p).setDir line d).callRegion (ctrlRegion package) = s.withDir (put .u s.directory line d) i g := by
  have beside : ¬ ctrlRegion package < 32 := by
    unfold ctrlRegion
    omega
  obtain ⟨i, streams⟩ := s.streamed_eq k p
  obtain ⟨g, called⟩ := State.callRegion_eq beside ((s.streamed k p).setDir line d)
  refine ⟨i, g, ?_⟩
  rw [called, streams]
  rfl

/-! ### A request at its line (R273) -/

theorem State.request_applied (arrives : Arrives s p k a) (plain : k ≠ .get ∧ k ≠ .mark) : s.request k p =
    (((s.streamed k (s.numbered p)).startReq (s.arrived k p a)).goOn).bufferFreed p (kindOp k) := by
  obtain ⟨reaches, empty, whole, small, may, -, rights⟩ := arrives
  obtain ⟨not_get, not_mark⟩ := plain
  unfold State.request
  rw [State.arrive_reaches reaches]
  refine congrArg (fun u : State => (State.goOn u).bufferFreed p (kindOp k)) ?_
  cases via : p.via with
  | fabric n =>
    rw [via] at rights
    obtain ⟨next, own, grants, rfl⟩ := rights
    obtain ⟨-, first, offered⟩ := State.offerReq_next (k := k) (y := p) empty whole small (.inl ⟨n, via, next, rfl⟩)
    rw [offered, State.heldIn, State.pump_next empty whole first may, State.numbered_fabric via,
      State.applyReq_fabric (s := s.streamed k p) via (fun get => absurd get not_get) own, State.arrived, State.carried, via]
    exact (if_pos grants).trans (if_neg not_mark)
  | traek =>
    rw [via] at rights
    obtain ⟨key, first, offered⟩ := State.offerReq_next (k := k) empty whole small (.inr ⟨via, rfl⟩)
    rw [← State.numbered_traek via] at key first offered
    rw [← key] at empty whole first
    have may : s.flaggedReq k (s.numbered p) = false ∨ s.unapplied (inKey (s.numbered p)) = [] := by
      rw [State.numbered_traek via]
      exact may
    have via' : (s.numbered p).via = .traek := by rw [State.numbered_traek via, via]
    have target : (s.streamed k (s.numbered p)).traekTarget (s.numbered p).addr.toNat (pktBytes (s.numbered p)) (kindBit k) = .inl a := by
      rw [State.numbered_traek via]
      exact rights
    have carried : { s.numbered p with addr := BitVec.ofNat 64 a } = s.carried p a := by
      unfold State.carried
      rw [State.numbered_traek via, via]
    rw [offered, State.heldIn, State.pump_next empty whole first may, State.applyReq_traek via' not_mark target, carried]
    rfl

theorem State.tryReq_lpddr (at' : place r.line = .lpddr near) (awake : s.memoryAsleep near = false)
    (plain : r.kind ≠ .atomic ∧ r.kind ≠ .add) : s.tryReq r = s.lpddrReq r near := by
  unfold State.tryReq
  rw [at']
  dsimp only
  rw [if_neg (ne_true_of_eq_false awake), if_neg plain.1, if_neg plain.2]

theorem State.lpddrReq_coherent (sort : r.kind = .rdShared ∨ r.kind = .rdOwn)
    (allowed : s.memStatus r.line (pktBytes r.pkt) .outside false = 0) : s.lpddrReq r near = s.readCoherent r (lineOf near) := by
  unfold State.lpddrReq
  obtain sort | sort := sort
  all_goals
    rw [sort]
    exact if_neg (not_not.2 allowed)

theorem State.readCoherent_serves {v : State} (room : s.dirFull line = false) (at' : place r.line = .lpddr near)
    (step : s.dirStep r.kind (s.requester r.pkt) line = (v, true)) :
    s.readCoherent r line = ((v.callRegion (ctrlRegion (pkgOf near))).toChannel r, none) := by
  unfold State.readCoherent
  rw [if_neg (ne_true_of_eq_false room), step]
  dsimp only
  rw [if_pos rfl, State.readLine, at']

theorem State.readCoherent_waits {v : State} (room : s.dirFull line = false)
    (step : s.dirStep r.kind (s.requester r.pkt) line = (v, false)) : s.readCoherent r line = (v, some 0) := by
  unfold State.readCoherent
  rw [if_neg (ne_true_of_eq_false room), step]
  rfl

theorem State.requester_carried (s : State) (p : Packet) (a : Nat) : s.requester (s.carried p a) = s.requester p := by
  unfold State.carried
  split <;> rfl

theorem State.pktBytes_carried (s : State) (p : Packet) (a : Nat) : pktBytes (s.carried p a) = pktBytes p := by
  unfold State.carried
  split <;> rfl

/-- What a request that is the next of its stream finds at a line of LPDDR that nothing holds up. -/
theorem State.tryReq_arrived (q : Packet) (at' : place a = .lpddr near) (free : s.FreeLine near) (plain : k ≠ .atomic ∧ k ≠ .add) :
    (s.streamed k q).tryReq (s.arrived k p a) = (s.streamed k q).lpddrReq (s.arrived k p a) near := by
  obtain ⟨awake, -, -⟩ := free
  exact State.tryReq_lpddr at' awake plain

/-- RD_SHARED and RD_OWN reach the directory. -/
theorem State.tryReq_coherent (q : Packet) (at' : place a = .lpddr near) (free : s.FreeLine near) (sort : k = .rdShared ∨ k = .rdOwn)
    (allowed : s.memStatus a (pktBytes p) .outside false = 0) :
    (s.streamed k q).tryReq (s.arrived k p a) = (s.streamed k q).readCoherent (s.arrived k p a) (lineOf near) := by
  rw [State.tryReq_arrived q at' free (by obtain rfl | rfl := sort <;> decide)]
  refine State.lpddrReq_coherent sort ?_
  change s.memStatus a (pktBytes (s.carried p a)) .outside false = 0
  rw [State.pktBytes_carried, allowed]

theorem exec_read {e : Instr} (asks : e = .rdShared ⟨p, none⟩ ∧ k = .rdShared ∨ e = .rdOwn p ∧ k = .rdOwn) :
    exec e s = .next (s.request k p) := by
  obtain ⟨rfl, rfl⟩ | ⟨rfl, rfl⟩ := asks
  · exact exec_rdShared s p
  · rfl

/-- The state in which a read that was served stands at its channel. -/
theorem State.startReq_read {d : DirState} (q : Packet) (at' : place a = .lpddr near) (free : s.FreeLine near)
    (sort : k = .rdShared ∨ k = .rdOwn) (allowed : s.memStatus a (pktBytes p) .outside false = 0)
    (room : s.dirFull (lineOf near) = false) (next : NextDir s k (s.requester p) (lineOf near) d)
    (first : ∀ x ∈ s.lineWait, lineOf x.line ≠ lineOf a) : (s.streamed k q).startReq (s.arrived k p a) =
      (((s.streamed k q).setDir (lineOf near) d).callRegion (ctrlRegion (pkgOf near))).toChannel (s.arrived k p a) := by
  have ⟨_, still, _⟩ := free
  have step : (s.streamed k q).dirStep k (s.requester (s.carried p a)) (lineOf near) = ((s.streamed k q).setDir (lineOf near) d, true) := by
    rw [State.requester_carried]
    exact State.dirStep_serves still sort next
  refine State.startReq_of_try first ((State.tryReq_coherent q at' free sort allowed).trans ?_)
  exact State.readCoherent_serves room at' step

theorem memKey_of_place (at' : place a = .lpddr near) : memKey a = near := by
  unfold memKey
  rw [at']

theorem State.startReq_admitted {d : DirState} (q : Packet) (at' : place a = .lpddr near) (free : s.FreeLine near)
    (sort : k = .rdShared ∨ k = .rdOwn) (allowed : s.memStatus a (pktBytes p) .outside false = 0)
    (room : s.dirFull (lineOf near) = false) (next : NextDir s k (s.requester p) (lineOf near) d)
    (first : ∀ x ∈ s.lineWait, lineOf x.line ≠ lineOf a) (clear : ∀ l ∈ (s.arrived k p a).lines, s.waitsAt l s.arrivals = false)
    (short : (s.channel (chanOf near)).admitted.length < 128) (idle : (s.channel (chanOf near)).ingress = [])
    (cool : (s.package (pkgOf near)).derate ≠ 3) (runs : s.cooling.stopped = false) : ∃ i g,
      (s.streamed k q).startReq (s.arrived k p a) = (s.withDir (put .u s.directory (lineOf near) d) i g).onChannel (chanOf near)
        (fun c => { c with admitted := c.admitted ++ [s.captured (s.arrived k p a)] }) := by
  obtain ⟨i, g, called⟩ := s.called_eq k q (lineOf near) (pkgOf near) d
  refine ⟨i, g, ?_⟩
  rw [State.startReq_read q at' free sort allowed room next first, called,
    State.toChannel_admits (s := s.withDir _ i g) (memKey_of_place at') rfl short idle cool runs
      (fun l inside => (State.waitsAt_withDir s _ i g l s.arrivals).trans (clear l inside)), State.captured_withDir]

theorem onlyChanges_withDir (s : State) (d : Tbl DirState) (i : Tbl StreamIn) (g : Tbl Region) :
    OnlyChanges [.directory, .streamsIn, .regions] s (s.withDir d i g) := by
  intro f outside
  cases f
  case directory | streamsIn | regions => exact absurd (by simp) outside
  all_goals rfl

theorem onlyChanges_withDir_regions (s : State) (d : Tbl DirState) (i : Tbl StreamIn) :
    OnlyChanges [.directory, .streamsIn] s (s.withDir d i s.regions) := by
  intro f outside
  cases f
  case directory | streamsIn => exact absurd (by simp) outside
  all_goals rfl

/-! ### A snoop (R273, R304) -/

theorem snoopFrame_sent (s : State) (line agent : Nat) (share : Bool) : OnlyChanges [.egress, .dict, .traek, .ports]
    { s with snoops := s.snoops ++ [{ line := line, agent := agent, share := share, since := s.now }] } (s.snoop line agent share) := by
  unfold State.snoop
  dsimp only
  split
  · exact (traekFrame_sendTraek _ _ _ _ _ _ _ _).mono (by decide)
  · unfold State.sendPacket State.sendFrom
    split
    · exact OnlyChanges.refl _ _
    · exact (portFrame_egressPort _ _ _).mono (by decide)

theorem State.startReq_of_wait {u : State} {key : Nat} (first : ∀ x ∈ s.lineWait, lineOf x.line ≠ lineOf r.line)
    (tried : s.tryReq r = (u, some key)) : s.startReq r = { u with lineWait := u.lineWait ++ [{ r with since := s.now, key := key }] } := by
  have free : s.lineWait.any (fun x => lineOf x.line == lineOf r.line) = false := by simpa using first
  rw [State.startReq_waits free (congrArg Prod.snd tried), tried]

/-- A read of a line that another agent owns waits for the line. -/
theorem State.startReq_snooped {o t : Nat} (q : Packet) (at' : place a = .lpddr near) (free : s.FreeLine near)
    (sort : k = .rdShared ∨ k = .rdOwn) (allowed : s.memStatus a (pktBytes p) .outside false = 0)
    (room : s.dirFull (lineOf near) = false) (owned : s.dirState (lineOf near) = .e o t) (other : o ≠ s.requester p)
    (first : ∀ x ∈ s.lineWait, lineOf x.line ≠ lineOf a) : ∃ u, u = (s.streamed k q).snoop (lineOf near) o (k == .rdShared) ∧
      (s.streamed k q).startReq (s.arrived k p a) = { u with lineWait := u.lineWait ++ [s.arrived k p a] } := by
  have ⟨_, still, _⟩ := free
  have step : (s.streamed k q).dirStep k (s.requester (s.carried p a)) (lineOf near) =
      ((s.streamed k q).snoop (lineOf near) o (k == .rdShared), false) := by
    rw [State.requester_carried]
    exact State.dirStep_snoops still sort owned other
  have tried := (State.tryReq_coherent q at' free sort allowed).trans (State.readCoherent_waits (s := s.streamed k q) room step)
  exact ⟨_, rfl, State.startReq_of_wait (s := s.streamed k q) first tried⟩

/-! ### A store of a whole line (R223) -/

theorem lineBytes_whole {data : List Byte} (length : data.length = 64) (base : Nat) :
    lineBytes base (data.map some) base = (BitVec.allOnes 64, data) := by
  have named : ∀ i ∈ List.range 64, (if base + i < base then none else ((data.map some)[base + i - base]?).bind id) = data[i]? := by
    intro i inside
    rw [if_neg (by omega), Nat.add_sub_cancel_left, List.getElem?_map]
    cases data[i]? <;> rfl
  have set : (List.range 64).foldl (fun n i => if (if base + i < base then none else
      ((data.map some)[base + i - base]?).bind id).isSome then n + 2 ^ i else n) 0 =
      (List.range 64).foldl (fun n i => n + 2 ^ i) 0 := by
    refine List.foldl_ext _ _ _ fun n i inside => ?_
    rw [named i inside, List.getElem?_eq_getElem (by rw [length]; exact List.mem_range.1 inside)]
    rfl
  have all : BitVec.ofNat 64 ((List.range 64).foldl (fun n i => n + 2 ^ i) 0) = BitVec.allOnes 64 := by decide
  unfold lineBytes
  dsimp only
  rw [set, all]
  refine Prod.ext rfl (List.ext_getElem (by simp [length]) fun i below inside => ?_)
  rw [List.length_map, List.length_range] at below
  rw [List.getElem_map, List.getElem_range, named i (List.mem_range.2 below), List.getElem?_eq_getElem inside]
  rfl

theorem Channel.waiting_wc (c : Channel) (es : List WcEntry) : { c with wc := es }.waiting = c.waiting := rfl

theorem Channel.waiting_entries (c : Channel) (es : List AdderEntry) : { c with entries := es }.waiting = c.waiting := rfl

theorem State.not_mem_waitingPackets_touched {q : Packet} (none : q ∉ s.waitingPackets) : q ∉ (s.touched line).waitingPackets := by
  refine State.not_mem_waitingPackets_onChannel ?_ (State.not_mem_waitingPackets_onChannel rfl none)
  split
  · exact Channel.waiting_entries _ _
  · rfl

theorem State.not_mem_waitingPackets_wcMerge {q : Packet} {data : List Byte} {source : Nat} (none : q ∉ s.waitingPackets) :
    q ∉ (s.wcMerge line (BitVec.allOnes 64) data source).waitingPackets := by
  have written : q ∉ (s.wrMasked line (maskedBytes (BitVec.allOnes 64) data)).waitingPackets := by
    obtain ⟨m, same⟩ := State.wrMasked_eq (maskedBytes (BitVec.allOnes 64) data) s line
    rw [same]
    exact none
  have touched := State.not_mem_waitingPackets_touched (line := line) written
  have marked (v : State) (key : Nat) (m : LineMark) : (v.setMark key m).waitingPackets = v.waitingPackets := rfl
  unfold State.wcMerge
  rw [State.notePartial_whole, marked]
  split
  · exact State.not_mem_waitingPackets_onChannel (Channel.waiting_wc _ _) touched
  · exact touched

/-- A packet's store of a whole line that the line's controller takes now. -/
theorem State.storeLines_line {q : Packet} {data : List Byte} (at' : place a = .lpddr near) (length : data.length = 64)
    (clean : q.poison = false) (first : s.waitsAt (lineOf near) s.arrivals = false)
    (free : s.wcHold (lineOf near) (BitVec.allOnes 64) false = none) (unbarred : s.barred (lineOf near) = false)
    (own : s.access (lineOf near) true = (s, true)) (none : q ∉ s.waitingPackets) :
    s.storeLines q (a / 64 * 64) (data.map some) =
      (s.wcMerge (lineOf near) (BitVec.allOnes 64) data (s.requester q)).ackTo q := by
  have one : (a / 64 * 64 + (data.map some).length - 1) / 64 + 1 - a / 64 * 64 / 64 = 1 := by
    rw [List.length_map, length]
    omega
  have base : 64 * (a / 64 * 64 / 64 + 0) = 64 * (a / 64) := by omega
  have whole : lineBytes (a / 64 * 64) (data.map some) (64 * (a / 64)) = (BitVec.allOnes 64, data) := by
    rw [Nat.mul_comm]
    exact lineBytes_whole length _
  unfold State.storeLines
  dsimp only
  rw [one, List.range_one, List.foldl_cons, List.foldl_nil, base, whole, memKey_line at', clean]
  dsimp only
  rw [State.partialStore_applied first free unbarred own]
  exact if_neg fun waits => State.not_mem_waitingPackets_wcMerge none (List.contains_iff_mem.1 waits)

/-! ### WRITEBACK and EVICT (R273) -/

theorem State.carried_fields (s : State) (p : Packet) (a : Nat) : (s.carried p a).data = p.data ∧ (s.carried p a).poison = p.poison := by
  unfold State.carried
  split <;> exact ⟨rfl, rfl⟩

theorem State.lpddrReq_writeback {t : Nat} (sort : r.kind = .writeback) (allowed : s.memStatus r.line 64 .outside true = 0)
    (still : s.snooping (lineOf near) = false) (owned : s.dirState (lineOf near) = .e (s.requester r.pkt) t) : s.lpddrReq r near =
      ((s.setDir (lineOf near) .u).storeLines r.pkt (r.line / 64 * 64) (r.pkt.data.map some), none) := by
  unfold State.lpddrReq
  rw [sort]
  dsimp only
  rw [if_neg (not_not.2 allowed), State.writeBack, if_neg (ne_true_of_eq_false still), owned]
  exact if_pos rfl

/-- What is left of a line's state without an agent's copy. -/
def DirState.evicted (agent : Nat) : DirState → DirState
  | .u => .u
  | .s hs t => if (hs.filter (· != agent)).isEmpty then .u else .s (hs.filter (· != agent)) t
  | .e o t => if o = agent then .u else .e o t

theorem State.lpddrReq_evict (sort : r.kind = .evict) (still : s.snooping (lineOf near) = false) : s.lpddrReq r near =
    ((s.setDir (lineOf near) ((s.dirState (lineOf near)).evicted (s.requester r.pkt))).ackTo r.pkt, none) := by
  unfold State.lpddrReq
  rw [sort]
  dsimp only
  rw [State.evictLine, if_neg (ne_true_of_eq_false still)]
  cases s.dirState (lineOf near) <;> rfl

/-- The state of a line once the agent's request at its stream has changed it. -/
theorem State.entered_eq (s : State) (k : ReqKind) (p : Packet) (line : Nat) (d : DirState) : ∃ i,
    (s.streamed k p).setDir line d = s.withDir (put .u s.directory line d) i s.regions := by
  obtain ⟨i, streams⟩ := s.streamed_eq k p
  refine ⟨i, ?_⟩
  rw [streams]
  rfl

theorem State.startReq_writeback {t : Nat} (q : Packet) (at' : place a = .lpddr near) (free : s.FreeLine near)
    (first : ∀ x ∈ s.lineWait, lineOf x.line ≠ lineOf a) (allowed : s.memStatus a 64 .outside true = 0)
    (owned : s.dirState (lineOf near) = .e (s.requester p) t) (length : p.data.length = 64) (clean : p.poison = false)
    (taken : s.wcHold (lineOf near) (BitVec.allOnes 64) false = none) (unbarred : s.barred (lineOf near) = false)
    (none : s.carried p a ∉ s.waitingPackets) : ∃ i source, (s.streamed .writeback q).startReq (s.arrived .writeback p a) =
      ((s.withDir (put .u s.directory (lineOf near) .u) i s.regions).wcMerge (lineOf near) (BitVec.allOnes 64) p.data source).ackTo
        (s.carried p a) := by
  have ⟨_, still, unwaited⟩ := free
  obtain ⟨data, poison⟩ := s.carried_fields p a
  obtain ⟨i, left⟩ := s.entered_eq .writeback q (lineOf near) .u
  have owned : s.dirState (lineOf near) = .e (s.requester (s.carried p a)) t := by rw [State.requester_carried, owned]
  have again : lineOf (lineOf near) = lineOf near := by
    unfold lineOf
    omega
  have own : (s.withDir (put .u s.directory (lineOf near) .u) i s.regions).access (lineOf near) true =
      (s.withDir (put .u s.directory (lineOf near) .u) i s.regions, true) := by
    refine State.access_free ?_ ?_
    · rw [again]
      exact still
    · rw [again]
      exact look_put_same DirState.u s.directory (lineOf near) .u
  have tried := (State.tryReq_arrived (k := .writeback) (p := p) q at' free (by decide)).trans
    (State.lpddrReq_writeback (s := s.streamed .writeback q) (r := s.arrived .writeback p a) rfl allowed still owned)
  refine ⟨i, s.requester (s.carried p a), State.startReq_of_try first (tried.trans (congrArg (·, Option.none) ?_))⟩
  rw [left, show (s.arrived .writeback p a).pkt = s.carried p a from rfl, data]
  exact State.storeLines_line (s := s.withDir _ i s.regions) at' length (poison.trans clean)
    ((State.waitsAt_withDir s _ i s.regions _ _).trans unwaited) taken unbarred own none

theorem State.startReq_evict (q : Packet) (at' : place a = .lpddr near) (free : s.FreeLine near)
    (first : ∀ x ∈ s.lineWait, lineOf x.line ≠ lineOf a) : (s.streamed .evict q).startReq (s.arrived .evict p a) =
      ((s.streamed .evict q).setDir (lineOf near) ((s.dirState (lineOf near)).evicted (s.requester p))).ackTo (s.carried p a) := by
  have ⟨_, still, _⟩ := free
  refine State.startReq_of_try first ((State.tryReq_arrived q at' free (by decide)).trans ?_)
  rw [State.lpddrReq_evict (s := s.streamed .evict q) rfl still,
    show (s.streamed .evict q).requester (s.arrived .evict p a).pkt = s.requester (s.carried p a) from rfl, State.requester_carried]
  rfl

end Directory

/-- Settles O60: a coherent request that nothing holds up changes its line's state as R273's table says, and is read, stored or
acknowledged. That an owner's own read keeps it the owner is the model's reading of that table; a WRITEBACK that crosses a snoop waits (log
entry 41), which `State.FreeLine` leaves out. -/
theorem coherentRequestsComplete : Obligations.CoherentRequestsComplete := by
  unfold Obligations.CoherentRequestsComplete
  intro s p a near line agent at' at64 asker free
  subst at64 asker
  refine ⟨fun e k r asks request arrives allowed room => ⟨fun d next clear short idle cool runs => ?read, fun o t owned other => ?snoop⟩,
    fun t arrives allowed owned length clean taken unbarred none => ?writeback, fun arrives => ?evict⟩
  case read =>
    have sort : k = .rdShared ∨ k = .rdOwn := asks.imp And.right And.right
    have ⟨_, _, _, _, _, first, _⟩ := arrives
    change r = s.arrived k p a at request
    subst request
    obtain ⟨i, g, admitted⟩ := State.startReq_admitted (s.numbered p) at' free sort allowed room next first clear short idle cool runs
    refine ⟨_, by rw [exec_read asks, State.request_applied arrives (by obtain rfl | rfl := sort <;> decide), admitted], ?_, ?_,
      fun j other => ?_, ?_⟩
    · exact ((onlyChanges_withDir s _ i g).mono (by decide)).trans ((onlyChanges_onChannel _ _ _).mono (by decide))
    · exact look_put_same DirState.u s.directory (lineOf near) d
    · exact look_put_ne DirState.u s.directory d other
    · rw [State.channel_onChannel_same]
      rfl
  case snoop =>
    have sort : k = .rdShared ∨ k = .rdOwn := asks.imp And.right And.right
    have ⟨_, _, _, _, _, first, _⟩ := arrives
    change r = s.arrived k p a at request
    subst request
    obtain ⟨u, sent, waits⟩ := State.startReq_snooped (s.numbered p) at' free sort allowed room owned other first
    have frame := sent ▸ snoopFrame_sent (s.streamed k (s.numbered p)) (lineOf near) o (k == ReqKind.rdShared)
    refine ⟨{ u with lineWait := u.lineWait ++ [s.arrived k p a] },
      { line := lineOf near, agent := o, share := k == ReqKind.rdShared, since := s.now },
      by rw [exec_read asks, State.request_applied arrives (by obtain rfl | rfl := sort <;> decide), waits],
      congrArg (· ++ [s.arrived k p a]) (frame .lineWait (by decide)), frame .snoops (by decide), rfl, rfl, rfl⟩
  case writeback =>
    have ⟨_, _, _, _, _, first, _⟩ := arrives
    obtain ⟨i, source, stored⟩ := State.startReq_writeback (s.numbered p) at' free first allowed owned length clean taken unbarred none
    have merged := onlyChanges_wcMerge (s := s.withDir (put .u s.directory (lineOf near) .u) i s.regions) (data := p.data)
      (source := source) taken
    obtain ⟨written, kept⟩ := State.mem_wrMasked (maskedBytes (BitVec.allOnes 64) p.data)
      (s.withDir (put .u s.directory (lineOf near) .u) i s.regions) (lineOf near) (by rw [length_maskedBytes]; exact lineOf_le at')
    have reads (y : Nat) := congrArg (look memDefault · y) (State.mem_wcMerge
      (s := s.withDir (put .u s.directory (lineOf near) .u) i s.regions) (data := p.data) (source := source) taken)
    refine ⟨_, by rw [show exec (.writeback p) s = .next (s.request .writeback p) from rfl,
      State.request_applied arrives (by decide), stored]; rfl, ?_, ?_, fun j inside => ?_, fun b outside => ?_⟩
    · exact ((onlyChanges_withDir_regions s _ i).mono (by decide)).trans (merged.mono (by decide))
    · exact (congrArg (look DirState.u · (lineOf near)) (merged .directory (by decide))).trans
        (look_put_same DirState.u s.directory (lineOf near) .u)
    · exact (reads _).trans (written j _ (getElem?_maskedBytes.2 ⟨inside, BitVec.getLsbD_allOnes.trans (decide_eq_true inside), rfl⟩))
    · refine (reads b).trans (kept b fun j x named => ?_)
      have inside := (getElem?_maskedBytes.1 named).1
      omega
  case evict =>
    have ⟨_, _, _, _, _, first, _⟩ := arrives
    have state (j : Nat) := State.dirState_setDir (s.streamed .evict (s.numbered p)) (lineOf near)
      ((s.dirState (lineOf near)).evicted (s.requester p)) j
    have here := (state (lineOf near)).trans (if_pos rfl)
    refine ⟨_, by rw [show exec (.evict p) s = .next (s.request .evict p) from rfl, State.request_applied arrives (by decide),
      State.startReq_evict _ at' free first]; rfl, ?_, fun j other => (state j).trans (if_neg other), fun now => ?_, fun us t now => ?_,
      fun o t now => ?_⟩
    · exact ((onlyChanges_streamed s _ _).mono (by decide)).trans ((onlyChanges_setDir _ _ _).mono (by decide))
    all_goals
      rw [here, now]
      rfl

end Sys2Proof.Machine

/-! Scope of the block: what flits, lanes, light, training and retrains leave of a port (O44). -/

namespace Sys2Proof.Machine

section Ports
variable {s : State} {p : Fin 8}

/-! ### A port's record and what leaves it as it was -/

theorem State.port_frame {u : State} {fs : List Field} (frame : OnlyChanges fs s u) (outside : Field.ports ∉ fs) (k : Nat) :
    u.port k = s.port k :=
  congrArg (fun ps => look ({} : Port) ps k) (frame .ports outside)

/-- The region of a port is none of a cluster. -/
theorem portRegion_beside (k : Nat) : ¬ portRegion k < 32 := by
  unfold portRegion
  omega

/-! ### Flits (R251 to R254) -/

/-- The state in which the corrected symbols of a flit are counted, per lane. -/
def State.symbolsCounted (s : State) (p : Nat) (corrected : List Nat) : State :=
  corrected.foldl (fun x i => x.bump (0x500701 + 8 * p + laneOf (setBits 8 (s.port p).lanes.toNat) i) 1) s

theorem onlyChanges_symbolsCounted (s : State) (p : Nat) (corrected : List Nat) :
    OnlyChanges [.dict] s (s.symbolsCounted p corrected) :=
  OnlyChanges.foldl (fun v _ => onlyChanges_bump v _ _) s corrected

/-- The state in which the link control of a flit's bytes is taken. -/
def State.controlled (x : State) (p : Nat) (b : List Byte) : State :=
  x.linkControl p (numAt b 202 2 % 4096) ((numAt b 202 2).testBit 12) (numAt b 204 3 % 8) (numAt b 204 3 / 8)

/-- The state in which a port has received the flit `n` in sequence. -/
def State.sequenced (s : State) (p : Nat) (n : BitVec 12) : State := s.onPort p (fun r => { r with rxSeq := n })

theorem State.flitIn_eq {flit b : List Byte} {c : List Nat × List Byte} (corrected : c = flitCorrect (flitBytes 224 flit))
    (bytes : b = c.2) : s.flitIn p flit =
      if crc32 (b.take 208) ≠ numAt b 208 4 then (s.symbolsCounted p c.1).idleOut p true
      else if 1 < numAt b 200 2 / 4096 ∨ 8192 ≤ numAt b 202 2 ∨ 4 < numAt b 204 3 % 8 ∨ numAt b 207 1 ≠ 0 then
        (s.symbolsCounted p c.1).badFlit p
      else if numAt b 200 2 / 4096 = 0 ∧ BitVec.ofNat 12 (numAt b 200 2) = (((s.symbolsCounted p c.1).controlled p b).port p).rxSeq + 1 then
        ((((s.symbolsCounted p c.1).controlled p b).sequenced p (BitVec.ofNat 12 (numAt b 200 2))).idleOut p false).payloadIn p (b.take 200)
      else (s.symbolsCounted p c.1).controlled p b := by
  subst corrected bytes
  rfl

theorem exec_flitReceive (p : Fin 8) (flit : List Byte) (s : State) : exec (.flitReceive p flit) s =
    .next (if (s.port p).state = 2 ∧ (s.port p).retraining = false then s.flitIn p flit else s) := rfl

/-! ### Lanes (R255) -/

/-- The state in which the removal of a lane is recorded. -/
def State.laneRecorded (s : State) (p lane cause : Nat) : State :=
  s.recordOf 0x5001 9 (portRegion p) (p + lane * 2 ^ 8 + cause * 2 ^ 16)

theorem recordFrame_laneRecorded (s : State) (p lane cause : Nat) : OnlyChanges recordFields s (s.laneRecorded p lane cause) :=
  recordFrame_record s _

/-- The lanes of a port without one of them. -/
def lanesLeft (lanes : BitVec 8) (lane : Nat) : BitVec 8 := lanes &&& ~~~(BitVec.ofNat 8 (2 ^ lane))

/-- The state in which a port retrains on the lanes that are left. -/
def State.lanesTaken (s : State) (p : Nat) (left : BitVec 8) : State :=
  s.onPort p (fun r => { r with lanes := left, retraining := true, retrains := r.retrains + 1 })

theorem State.removeLanes_dark {lane cause : Nat} (dark : (s.port p).lanes.getLsbD lane = false) :
    s.removeLanes p cause [lane] = s := by
  have out : [lane].filter (fun l => (s.port p).lanes.getLsbD l) = [] := by simp [dark]
  unfold State.removeLanes
  dsimp only
  rw [out]
  rfl

theorem State.removeLanes_lit {lane cause : Nat} (lit : (s.port p).lanes.getLsbD lane = true) : s.removeLanes p cause [lane] =
    if lanesLeft (s.port p).lanes lane = 0 then (s.laneRecorded p lane cause).portDown p
    else (s.laneRecorded p lane cause).lanesTaken p (lanesLeft (s.port p).lanes lane) := by
  have out : [lane].filter (fun l => (s.port p).lanes.getLsbD l) = [lane] := by simp [lit]
  unfold State.removeLanes
  dsimp only
  rw [out]
  rfl

theorem exec_laneRemoval (p lane : Fin 8) (rate : Bool) (s : State) :
    exec (.laneRemoval p lane rate) s = .next (s.removeLanes p (if rate then 2 else 1) [lane.val]) := rfl

/-! ### Light (R250) -/

/-- Since when a laser input of a port has been low, none where it is not. -/
def State.lowSince (s : State) (p i : Nat) (power : Int) : Option Nat :=
  if power < 1500 then some ((look none (s.port p).laserLow i).getD s.now) else none

/-- The state in which the power of a laser input stands in register `key` and its port keeps since when it has been low. -/
def State.lightNoted (s : State) (p i key power : Nat) (since : Option Nat) : State :=
  (s.setDv key power).onPort p (fun r => { r with laserLow := put none r.laserLow i since })

theorem onlyChanges_lightNoted (s : State) (p i key power : Nat) (since : Option Nat) :
    OnlyChanges [.dict, .ports] s (s.lightNoted p i key power since) :=
  ((onlyChanges_setDv s _ _).mono (by decide)).trans ((onlyChanges_onPort _ _ _).mono (by decide))

theorem State.dv_lightNoted (s : State) (p i key power : Nat) (since : Option Nat) : (s.lightNoted p i key power since).dv key = power :=
  State.dv_setDv_same s _ _

theorem State.port_lightNoted (s : State) (p i key power : Nat) (since : Option Nat) : (s.lightNoted p i key power since).port p =
    { s.port p with laserLow := put none (s.port p).laserLow i since } :=
  State.port_onPort_same _ p _

/-- The lanes that a laser input feeds. -/
def laserLanes (i : Nat) : List Nat := [4 * i, 4 * i + 1, 4 * i + 2, 4 * i + 3]

/-- What a laser input leaves that has been low since a time, or is not. -/
def State.lightTaken (s : State) (p i : Nat) (since : Option Nat) : State :=
  match since with
  | some a => if a + 10000000 ≤ s.now then s.removeLanes p 3 (laserLanes i) else s
  | none => s

theorem exec_laserInputLow (p : Fin 8) (i : Fin 2) (power : Int) (t : Nat) (s : State) : exec (.laserInputLow p i power t) s =
    .next (((s.tick t).lightNoted p i (0x500601 + 2 * p + i) (f32RatioInt power 100) ((s.tick t).lowSince p i power)).lightTaken p i
      ((s.tick t).lowSince p i power)) := by
  have port (key v : Nat) : ((s.tick t).setDv key v).port p = (s.tick t).port p := rfl
  have now (key v : Nat) : ((s.tick t).setDv key v).now = (s.tick t).now := rfl
  have lanes : (List.range 4).map (4 * i.val + ·) = laserLanes i := rfl
  dsimp only [exec, execLaserInputLow]
  rw [port, now, lanes]
  unfold State.lightTaken State.lowSince State.lightNoted
  by_cases low : power < 1500
  · rw [if_pos low]
  · rw [if_neg low]

/-! ### Training (R255, R256) -/

/-- A port that is up on all its lanes, with fresh sequence numbers and credits. -/
def Port.risen (r : Port) : Port :=
  { r with state := 2, lanes := 0xFF, retraining := false, retry := [], txSeq := 0, rxSeq := 4095, rxLeft := 0, owed := [],
           credits := freshCredits }

/-- The state in which a port has come up and its region is called. -/
def State.risen (s : State) (p : Nat) : State := (s.callRegion (portRegion p)).onPort p Port.risen

theorem frame_callPort (s : State) (k p : Nat) (f : Port → Port) :
    OnlyChanges [.ports, .regions] s ((s.callRegion (portRegion k)).onPort p f) :=
  ((onlyChanges_callRegion (portRegion_beside k) s).mono (by decide)).trans ((onlyChanges_onPort _ _ _).mono (by decide))

theorem State.port_callRegion (s : State) (k j : Nat) : (s.callRegion (portRegion k)).port j = s.port j :=
  State.port_frame (onlyChanges_callRegion (portRegion_beside k) s) (by decide) j

theorem State.port_risen (s : State) (p : Nat) : (s.risen p).port p = (s.port p).risen := by
  rw [State.risen, State.port_onPort_same, State.port_callRegion]

theorem exec_portTraining (p : Fin 8) (s : State) : exec (.portTraining p true) s =
    .next (if (s.port p).state = 2 ∨ (s.region (portRegion p)).power = 3 ∨ s.boot.state < 7 then s
      else ((s.risen p).reroute s (fun _ => false)).goOn) := rfl

theorem exec_portTraining_dark (p : Fin 8) (s : State) : exec (.portTraining p false) s = .next (s.portDown p) := rfl

theorem State.portDown_idle (idle : (s.port p).state ≠ 2) : s.portDown p =
    s.onPort p (fun r => { r with state := 0, lanes := 0, retraining := false }) :=
  if_neg idle

theorem exec_portRetrainDone (p : Fin 8) (s : State) : exec (.portRetrainDone p) s = .next (if (s.port p).retraining then
    ((s.onPort p (fun r => { r with retraining := false })).resendFlits p).portGoes p else s) := rfl

/-! ### The write of 0x501A:00 (R255) -/

/-- A port as its retrain is asked for. -/
def Port.asked (r : Port) : Port :=
  if r.state = 2 then { r with lanes := 0xFF, retraining := true, retrains := r.retrains + 1 } else { r with state := 1 }

/-- The ports of a list are asked to retrain, each once. -/
theorem State.port_asked (k : Nat) : ∀ (ps : List Nat) (s : State), ps.Nodup →
    (ps.foldl (fun x p => (x.callRegion (portRegion p)).onPort p Port.asked) s).port k =
      if k ∈ ps then (s.port k).asked else s.port k
  | [], _, _ => rfl
  | p :: ps, s, once => by
    obtain ⟨fresh, once⟩ := List.nodup_cons.1 once
    rw [List.foldl_cons, State.port_asked k ps _ once, State.port_onPort, State.port_callRegion]
    by_cases same : k = p
    · subst same
      rw [if_neg fresh, if_pos rfl, if_pos List.mem_cons_self]
    · rw [if_neg same, State.port_callRegion]
      simp [same]

theorem State.port_retrainPorts (s : State) (mask k : Nat) : (s.retrainPorts mask).port k =
    if k ∈ setBits 8 mask then (s.port k).asked else s.port k :=
  State.port_asked k (setBits 8 mask) s (List.nodup_range.filter _)

theorem frame_retrainPorts (s : State) (mask : Nat) : OnlyChanges [.ports, .regions] s (s.retrainPorts mask) :=
  OnlyChanges.foldl (fun v k => frame_callPort v k k _) s _

theorem exec_portRetrain (m : Master) (v : BitVec 32) (s : State) : exec (.portRetrain m v) s =
    .next (s.masterWrite m 0x501A00 4 v.toNat (fun s => s.retrainWrite v.toNat)).1 := rfl

/-- A write that its entry refuses leaves what its effect left (R390). -/
theorem State.masterWrite_refused {m : Master} {key len value : Nat} {f : State → State × Nat} (may : MayWrite s m key len)
    (refused : refusedStatus (f (s.renewHold m)).2 = true) : s.masterWrite m key len value f = f (s.renewHold m) := by
  unfold MayWrite at may
  unfold State.masterWrite
  dsimp only
  rw [if_neg (not_not.2 may), if_pos refused]

theorem onlyChanges_mgmt (s : State) (m : Mgmt) : OnlyChanges [.mgmt] s { s with mgmt := m } := by
  intro f outside
  cases f
  case mgmt => exact absurd List.mem_cons_self outside
  all_goals rfl

theorem onlyChanges_renewHold (s : State) (m : Master) : OnlyChanges [.mgmt] s (s.renewHold m) := by
  unfold State.renewHold
  split
  · exact onlyChanges_mgmt s _
  · exact OnlyChanges.refl _ s

end Ports

/-- Settles O44: what each event of a port leaves. A port comes up with the partner's buffers free (log entry 40), a packet starts a flit
of its own (150), and a flit that breaks the layout is recorded and not taken (152). -/
theorem portEventsComplete : Obligations.PortEventsComplete := by
  unfold Obligations.PortEventsComplete
  intro p s
  refine ⟨fun flit => ⟨fun idle => ?quiet, fun c b corrected bytes up steady => ?flit⟩, fun lane rate => ⟨fun dark => ?dark,
    fun lit left rest => ?lit⟩, fun i power t since low => ?light, fun steady => ?steady, fun retrains => ?retrained,
    fun blocked => ?blocked, fun down lit boot => ?rises, fun down => ?off, fun up => ?falls, fun m v may => ?asked⟩
  case quiet =>
    rw [exec_flitReceive]
    exact congrArg Host.Outcome.next (if_neg (by simpa [or_iff_not_imp_left] using idle))
  case flit =>
    rw [exec_flitReceive, if_pos ⟨up, steady⟩, State.flitIn_eq corrected bytes]
    refine ⟨s.symbolsCounted p c.1, onlyChanges_symbolsCounted s p c.1, fun clean => by rw [clean]; rfl, fun broken => ?_,
      fun whole => ⟨fun strange => ?_, fun type link credit zero y controlled => ⟨fun next => ?_, fun other => ?_⟩⟩⟩
    · rw [if_pos broken]
    · rw [if_neg (not_not.2 whole), if_pos strange]
    all_goals
      change y = (s.symbolsCounted p c.1).controlled p b at controlled
      rw [← controlled, if_neg (not_not.2 whole), if_neg (by omega)]
    · refine ⟨y.sequenced p (BitVec.ofNat 12 (numAt b 200 2)), by rw [if_pos next], onlyChanges_onPort y _ _, ?_⟩
      rw [State.sequenced, State.port_onPort_same, next.2]
    · rw [if_neg (not_and_or.2 other)]
  case dark => rw [exec_laneRemoval, State.removeLanes_dark dark]
  case lit =>
    change left = lanesLeft (s.port p).lanes lane at rest
    rw [exec_laneRemoval, State.removeLanes_lit lit, ← rest]
    have recorded := recordFrame_laneRecorded s p lane (if rate then 2 else 1)
    refine ⟨fun some => ⟨(s.laneRecorded p lane (if rate then 2 else 1)).lanesTaken p left, by rw [if_neg some],
      (recorded.mono (by decide)).trans ((onlyChanges_onPort _ _ _).mono (by decide)), ?_⟩,
      fun none => ⟨_, by rw [if_pos none], recorded⟩⟩
    rw [State.lanesTaken, State.port_onPort_same, State.port_frame recorded (by decide)]
  case light =>
    have since' : (s.tick t).lowSince p i power = if power < 1500 then some since else none := by rw [low]; rfl
    rw [exec_laserInputLow, since']
    refine ⟨_, onlyChanges_lightNoted _ p i _ _ _, State.dv_lightNoted _ p i _ _ _, State.port_lightNoted _ p i _ _ _,
      fun late => ?_, fun low past => ?_⟩
    · obtain high | early := late
      · rw [if_neg (not_lt.2 high)]
        rfl
      · by_cases low : power < 1500
        · rw [if_pos low]
          exact congrArg Host.Outcome.next (if_neg (not_le.2 early))
        · rw [if_neg low]
          rfl
    · rw [if_pos low]
      exact congrArg Host.Outcome.next (if_pos past)
  case steady => rw [exec_portRetrainDone, steady, if_neg Bool.false_ne_true]
  case retrained =>
    rw [exec_portRetrainDone, retrains, if_pos rfl]
    exact ⟨_, rfl, onlyChanges_onPort s _ _, State.port_onPort_same s _ _⟩
  case blocked => rw [exec_portTraining, if_pos blocked]
  case rises =>
    rw [exec_portTraining, if_neg (by omega)]
    exact ⟨s.risen p, rfl, frame_callPort s p p _, State.port_risen s p⟩
  case off =>
    rw [exec_portTraining_dark, State.portDown_idle down]
    exact ⟨_, rfl, onlyChanges_onPort s _ _, State.port_onPort_same s _ _⟩
  case falls => exact exec_portTraining_dark p s
  case asked =>
    rw [exec_portRetrain]
    refine ⟨fun reserved => ?_, fun known => ⟨(s.renewHold m).retrainPorts v.toNat, ?_, frame_retrainPorts _ _, fun k => ?_⟩⟩
    · have refused : refusedStatus St.reservedSetDict = true := by decide
      have write : (s.renewHold m).retrainWrite v.toNat = (s.renewHold m, St.reservedSetDict) := if_pos reserved
      rw [State.masterWrite_refused may (by rw [write]; exact refused), write]
    · have done : refusedStatus St.ok = false := by decide
      have write : (s.renewHold m).retrainWrite v.toNat = ((s.renewHold m).retrainPorts v.toNat, St.ok) := if_neg (not_le.2 known)
      rw [State.masterWrite_may may (by rw [write]; exact done), write]
    · have named : (k : Nat) ∈ setBits 8 v.toNat ↔ v.getLsbD k = true := by
        simp [setBits, List.mem_filter, BitVec.getLsbD]
      rw [State.port_retrainPorts, State.port_frame (onlyChanges_renewHold s m) (by decide)]
      by_cases set : v.getLsbD k = true
      · rw [if_pos (named.2 set), if_neg (by rw [set]; decide), Port.asked]
      · rw [if_neg (fun inside => set (named.1 inside)), if_pos (by simpa using set)]

end Sys2Proof.Machine

/-! Scope of the block: responses, snoops and their answers, probes, resyncs, heartbeats and DICT messages that arrive (O47). -/

namespace Sys2Proof.Machine

section Responses
variable {s : State} {p : Packet} {n : Fin 8}

/-! ### Arriving -/

/-- What a packet that reaches the module does, and then its receive buffer is free. -/
theorem next_arrive {v : State} (reaches : Reaches s p) (op : Nat) (go : State → State) (goes : go s = v) :
    (Host.Outcome.next (s.arrive p op go) : Host.Outcome State Fault Refusal) = .next (v.bufferFreed p op) := by
  rw [State.arrive_reaches reaches, goes]

theorem exec_data (reaches : Reaches s p) : exec (.data p) s =
    .next ((((s.answered p).foldl (fun x r => x.dataFor p r) (s.dropAnswered p)).goOn).bufferFreed p 0x81) :=
  next_arrive reaches 0x81 _ rfl

theorem exec_ack {v : State} (reaches : Reaches s p) (goes : s.gotAck p = v) : exec (.ack p) s = .next (v.bufferFreed p 0x82) :=
  next_arrive reaches 0x82 _ goes

theorem exec_nak {v : State} (reaches : Reaches s p) (goes : s.gotNak p = v) : exec (.nak p) s = .next (v.bufferFreed p 0x83) :=
  next_arrive reaches 0x83 _ goes

/-! ### ACK and NAK (R258, R264, R266) -/

theorem onlyChanges_onStreamOut (s : State) (key : Nat) (f : StreamOut → StreamOut) :
    OnlyChanges [.streamsOut] s (s.onStreamOut key f) := by
  intro f outside
  cases f
  case streamsOut => exact absurd List.mem_cons_self outside
  all_goals rfl

theorem State.streamOut_onStreamOut_same (s : State) (key : Nat) (f : StreamOut → StreamOut) :
    (s.onStreamOut key f).streamOut key = f (s.streamOut key) :=
  look_put_same _ s.streamsOut key _

theorem onlyChanges_dropAnswered (s : State) (p : Packet) : OnlyChanges [.streamsOut, .reqs] s (s.dropAnswered p) := by
  have dropped (rs : List Req) : OnlyChanges [.streamsOut, .reqs] s { s with reqs := rs } := by
    intro f outside
    cases f
    case reqs => exact absurd (by simp) outside
    all_goals rfl
  unfold State.dropAnswered
  split
  · exact dropped _
  · exact (dropped _).trans ((onlyChanges_onStreamOut _ _ _).mono (by decide))

theorem State.gotAck_traek (via : p.via = .traek) :
    s.gotAck p = ((s.answered p).foldl State.ackFor (s.dropAnswered p)).goOn := by
  unfold State.gotAck
  rw [via]

/-- The packets that an acknowledgement does not cover stay. -/
def State.covered (s : State) (key ack : Nat) : State :=
  s.onStreamOut key (fun r => { r with unacked := r.unacked.filter (fun o => !coveredBy ack o) })

theorem State.gotAck_fabric (via : p.via = .fabric n) : s.gotAck p =
    ((((s.streamOut (s.answerKey p)).unacked.filter (coveredBy p.seq.toNat)).flatMap
      (fun o => o.uses.filterMap (fun u => u.2.relayed))).foldl (fun x q => x.ackTo q) (s.covered (s.answerKey p) p.seq.toNat)).goOn := by
  unfold State.gotAck
  rw [via]
  rfl

theorem State.gotNak_traek (via : p.via = .traek) : s.gotNak p =
    ((s.answered p).foldl (fun x r => x.requestFails r.why r.owner p.op.toNat) (s.dropAnswered p)).goOn := by
  unfold State.gotNak
  rw [via]

section Fabric
variable (via : p.via = .fabric n)
include via

theorem State.gotNak_unknown (unknown : (s.streamOut (s.answerKey p)).unacked.find? (fun o => o.tag == p.tag.toNat) = none) :
    s.gotNak p = s := by
  unfold State.gotNak
  rw [via]
  dsimp only
  rw [unknown]

theorem State.gotNak_busy {o : OutPkt}
    (out : (s.streamOut (s.answerKey p)).unacked.find? (fun o => o.tag == p.tag.toNat) = some o) (busy : p.op.toNat = St.fabricBusy) :
    s.gotNak p = s.resend o := by
  unfold State.gotNak
  rw [via]
  dsimp only
  rw [out]
  exact if_pos busy

/-- The state in which a packet that was refused, and the requests it answered, are out no more. -/
def State.refused (s : State) (p : Packet) (o : OutPkt) : State :=
  (s.dropAnswered p).onStreamOut (s.answerKey p) (fun r => { r with unacked := r.unacked.filter (fun x => x.seq != o.seq) })

theorem State.gotNak_fails {o : OutPkt}
    (out : (s.streamOut (s.answerKey p)).unacked.find? (fun o => o.tag == p.tag.toNat) = some o) (fails : p.op.toNat ≠ St.fabricBusy) :
    s.gotNak p = (if o.posted then o.uses.foldl (fun x u => x.requestFails u.2 u.1 p.op.toNat) (s.refused p o)
      else (s.answered p).foldl (fun x r => x.requestFails r.why r.owner p.op.toNat) (s.refused p o)).goOn := by
  unfold State.gotNak
  rw [via]
  dsimp only
  rw [out]
  exact if_neg fails

end Fabric

/-! ### Probes and resyncs (R268, R269) -/

/-- The packets of a stream that a PROBE_RSP shows to be lost: after the sequence it carries, and replayed from no retry buffer. -/
def StreamOut.lostAfter (st : StreamOut) (seq : Nat) : List OutPkt :=
  st.unacked.filter (fun o => decide (0 < (o.seq + 2 ^ 32 - seq) % 2 ^ 32) && decide ((o.seq + 2 ^ 32 - seq) % 2 ^ 32 < 2 ^ 31) &&
    !st.replayed.contains o.seq)

/-- The state in which the probe of a stream is answered: what was lost is out no more, what was held goes out. -/
def State.probeOver (s : State) (key : Nat) (lost : List OutPkt) : State :=
  s.onStreamOut key (fun r =>
    { r with unacked := r.unacked.filter (fun o => !lost.contains o) ++ r.held, held := [], probing := false, replayed := [] })

/-- The state in which the runs of a stream's lost packets are named by RESYNC. -/
def State.lostNamed (s : State) (key : Nat) (lost : List OutPkt) : State :=
  (runsOf (lost.map (·.seq))).foldl (fun x r =>
    x.sendFrom (s.streamSrc key) 0x31 (key % 65536) false false 0 (s.streamOut key).epoch.toNat r.1 r.2 0 0 0 []) (s.probeOver key lost)

/-- Whether collective packets were at risk on the path of a stream. -/
def State.colsAtRisk (s : State) (key : Nat) : Bool :=
  key == streamKey false (key % 65536) && s.colSent.any (fun x => x.risk && x.node == key % 65536)

/-- The state in which the collective packets at risk on the path of a stream are lost. -/
def State.colsLost (s : State) (key : Nat) : State := if s.colsAtRisk key then s.loseCols (key % 65536) else s

/-- The state in which what a probe showed to be lost has failed. -/
def State.lostFailed (s : State) (key : Nat) (lost : List OutPkt) : State :=
  if lost.isEmpty then (if s.colsAtRisk key then (s.colsLost key).bump 0x500B00 1 else s.colsLost key)
  else ((s.colsLost key).bump 0x500B00 1).losePackets (key % 65536) lost

theorem State.lostFailed_nil (s : State) (key : Nat) : s.lostFailed key [] =
    if s.colsAtRisk key then (s.loseCols (key % 65536)).bump 0x500B00 1 else s := by
  unfold State.lostFailed State.colsLost
  rw [List.isEmpty_nil, if_pos rfl]
  split <;> rfl

theorem State.gotProbe_idle (idle : (s.streamOut (s.answerKey p)).probing = false) : s.gotProbe p = s := by
  unfold State.gotProbe
  dsimp only
  rw [idle]
  rfl

theorem State.gotProbe_probing {lost : List OutPkt} (probing : (s.streamOut (s.answerKey p)).probing = true)
    (named : lost = (s.streamOut (s.answerKey p)).lostAfter p.seq.toNat) : s.gotProbe p =
      ((s.streamOut (s.answerKey p)).held.foldl
        (fun x o => x.resend { o with msg := o.msg.withEpoch (s.streamOut (s.answerKey p)).epoch.toNat })
        ((s.lostNamed (s.answerKey p) lost).lostFailed (s.answerKey p) lost)).goOn := by
  unfold State.gotProbe
  dsimp only
  rw [probing, Bool.not_true, if_neg Bool.false_ne_true]
  unfold StreamOut.lostAfter at named
  rw [← named]
  rfl

/-- The state in which a run of a stream is declared lost. -/
def State.runLost (s : State) (key : Nat) (run : Nat × Nat) : State :=
  s.onStreamIn key (fun r => { r with held := r.held.filter (fun h => !inRun run h.2.1.seq.toNat), skipped := r.skipped ++ [run] })

theorem State.gotResync_eq (s : State) (p : Packet) : s.gotResync p =
    ((s.streamIn (inKey p)).held.filter (fun h => inRun (p.seq.toNat, p.addr.toNat % 2 ^ 32) h.2.1.seq.toNat)).foldl
      (fun x h => x.ackTo h.2.1) ((s.runLost (inKey p) (p.seq.toNat, p.addr.toNat % 2 ^ 32)).goOn.ackTo p) := rfl

/-! ### Snoops and their answers (R273, R275, R304) -/

theorem onlyChanges_snoops (s : State) (xs : List Snoop) : OnlyChanges [.snoops] s { s with snoops := xs } := by
  intro f outside
  cases f
  case snoops => exact absurd List.mem_cons_self outside
  all_goals rfl

/-- The state in which a snoop is over and its line has lost the agent's copy. -/
def State.snoopOver (s : State) (line agent : Nat) (x : Snoop) : State :=
  ({ s with snoops := s.snoops.erase x } : State).setDir line ((s.dirState line).without agent x.share s.now)

theorem State.snoopDone_none {line agent : Nat} {data : List Byte} {poison : Bool}
    (idle : s.snoops.find? (fun x => x.line == line && x.agent == agent) = none) : s.snoopDone line agent data poison = s := by
  unfold State.snoopDone
  rw [idle]

theorem State.snoopDone_some {line agent : Nat} {data : List Byte} {poison : Bool} {x : Snoop}
    (out : s.snoops.find? (fun x => x.line == line && x.agent == agent) = some x) : s.snoopDone line agent data poison =
      (((s.snoopOver line agent x).snoopData line agent x.share data poison).retryLines).goOn := by
  unfold State.snoopDone
  rw [out]
  rfl

theorem exec_snpRsp {v : State} (reaches : Reaches s p) (goes : s.snoopRsp p = v) : exec (.snpRsp p) s = .next (v.bufferFreed p 0x90) :=
  next_arrive reaches 0x90 _ goes

theorem State.snoopRsp_away (via : p.via = .traek) (away : s.localNode (p.addr.toNat / 2 ^ 48) = false) : s.snoopRsp p =
    s.sendFrom s.companion 0x90 (p.addr.toNat / 2 ^ 48) false p.poison 0 0 0 (p.addr.toNat % 2 ^ 48) (p.data.length / 64) 0 0 p.data := by
  unfold State.snoopRsp
  rw [via]
  dsimp only
  rw [away, if_neg Bool.false_ne_true]

/-- A snoop response of the fabric, or of the companion for a line homed here. -/
theorem State.snoopRsp_home {agent : Nat} (of : (∃ n, p.via = .fabric n ∧ agent = p.src.toNat) ∨
    (p.via = .traek ∧ s.localNode (p.addr.toNat / 2 ^ 48) = true ∧ agent = s.companion)) :
    s.snoopRsp p = s.snoopDone (lineKey (p.addr.toNat % 2 ^ 48)) agent p.data p.poison := by
  unfold State.snoopRsp
  obtain ⟨n, via, rfl⟩ | ⟨via, home, rfl⟩ := of
  · rw [via]
  · rw [via]
    dsimp only
    rw [home, if_pos rfl]

/-! ### A snoop that is never answered (R275) -/

/-- The fields that the failure of an agent may change. -/
def failFields : List Field := .directory :: .marks :: recordFields

/-- What the failure of a line's owner leaves: the line has no copy, one of LPDDR is poisoned, and it is recorded. -/
def State.ownerLost (s : State) (line agent : Nat) : State :=
  let s1 := match place line with | .lpddr _ => (s.setDir line .u).poisonLine line | _ => s.setDir line .u
  s1.record { s1.mkRec 0x5005 16 47 (agent + line * 2 ^ 64) with status := St.snoopTimeout }

theorem State.failAgent_owner {line agent t : Nat} (owned : s.dirState line = .e agent t) :
    s.failAgent line agent = s.ownerLost line agent := by
  unfold State.failAgent
  rw [owned]
  exact if_pos rfl

/-- Beside the line's state the loss of an owner changes marks and records. -/
theorem frame_ownerLost (s : State) (line agent : Nat) :
    OnlyChanges (.marks :: recordFields) (s.setDir line .u) (s.ownerLost line agent) := by
  unfold State.ownerLost
  dsimp only
  refine OnlyChanges.trans ?_ ((recordFrame_record _ _).mono (by decide))
  split
  · exact (onlyChanges_poisonLine _ line).mono (by decide)
  · exact OnlyChanges.refl _ _

/-- An agent that failed and is not the owner loses its clean copy. -/
theorem State.failAgent_other {line agent : Nat} (other : ∀ t, s.dirState line ≠ .e agent t) :
    (∃ o t, s.dirState line = .e o t) ∧ s.failAgent line agent = s ∨
    s.failAgent line agent = s.setDir line ((s.dirState line).without agent false s.now) := by
  unfold State.failAgent
  split
  · next o t owned => exact .inl ⟨⟨o, t, owned⟩, if_neg fun same => by
      subst same
      exact other t owned⟩
  · exact .inr rfl

theorem failFrame_failAgent (s : State) (line agent : Nat) : OnlyChanges failFields s (s.failAgent line agent) := by
  have set (d : DirState) : OnlyChanges failFields s (s.setDir line d) := (onlyChanges_setDir s line d).mono (by decide)
  by_cases owner : ∃ t, s.dirState line = .e agent t
  · obtain ⟨t, owned⟩ := owner
    rw [State.failAgent_owner owned]
    exact (set _).trans ((frame_ownerLost s line agent).mono (by decide))
  · obtain ⟨-, same⟩ | left := State.failAgent_other (fun t owned => owner ⟨t, owned⟩)
    · rw [same]
      exact OnlyChanges.refl _ s
    · rw [left]
      exact set _

theorem DirState.not_mem_agents_without {d : DirState} {agent : Nat} (now : Nat) (other : ∀ t, d ≠ .e agent t) :
    agent ∉ (d.without agent false now).agents := by
  cases d with
  | u => exact List.not_mem_nil
  | s hs t =>
    unfold DirState.without
    dsimp only
    split
    · exact List.not_mem_nil
    · exact fun inside => absurd (List.mem_filter.1 inside).2 (by simp)
  | e o t =>
    have apart : o ≠ agent := fun same => other t (same ▸ rfl)
    unfold DirState.without
    dsimp only
    rw [if_pos apart]
    exact fun inside => apart (List.mem_singleton.1 inside).symm

/-- An agent that failed has no copy of the line. -/
theorem State.not_mem_agents_failAgent (s : State) (line agent : Nat) : agent ∉ ((s.failAgent line agent).dirState line).agents := by
  have here (d : DirState) : (s.setDir line d).dirState line = d := look_put_same DirState.u s.directory line d
  by_cases owner : ∃ t, s.dirState line = .e agent t
  · obtain ⟨t, owned⟩ := owner
    have gone : (s.ownerLost line agent).dirState line = .u :=
      (congrArg (look DirState.u · line) (frame_ownerLost s line agent .directory (by decide))).trans (here .u)
    rw [State.failAgent_owner owned, gone]
    exact List.not_mem_nil
  · have other : ∀ t, s.dirState line ≠ .e agent t := fun t owned => owner ⟨t, owned⟩
    obtain ⟨⟨o, t, owned⟩, same⟩ | left := State.failAgent_other other
    · rw [same, owned]
      intro inside
      obtain rfl := List.mem_singleton.1 inside
      exact other t owned
    · rw [left, here]
      exact DirState.not_mem_agents_without _ other

/-- The state in which a snoop that was not answered is over: its agent failed, and that is recorded once. -/
def State.snoopLost (s : State) (x : Snoop) : State :=
  let held := match s.dirState x.line with | .e o _ => o == x.agent | _ => false
  let failed := ({ s with snoops := s.snoops.erase x } : State).failAgent x.line x.agent
  if held then failed else failed.record { failed.mkRec 0x5005 16 47 (x.agent + x.line * 2 ^ 64) with status := St.snoopTimeout }

theorem State.timeoutSnoop_eq (s : State) (x : Snoop) : s.timeoutSnoop x = ((s.snoopLost x).retryLines).goOn := rfl

theorem frame_snoopLost (s : State) (x : Snoop) : OnlyChanges recordFields
    (({ s with snoops := s.snoops.erase x } : State).failAgent x.line x.agent) (s.snoopLost x) :=
  .ite (OnlyChanges.refl _ _) (recordFrame_record _ _)

theorem exec_snoopTimeout (line : BitVec 48) (t : Nat) (s : State) : exec (.snoopTimeout line t) s = .next
    (match (s.tick t).snoops.find? (fun x => x.line == lineKey line.toNat &&
      decide (x.since + 1000 * (s.tick t).dv 0x501100 ≤ (s.tick t).now)) with
    | some x => (s.tick t).timeoutSnoop x
    | none => s.tick t) := rfl

/-! ### Heartbeats and DICT messages (R315, R402) -/

theorem State.heartbeat_peer (via : p.via = .fabric n) (peer : p.src.toNat = s.peer ∧ n.val < 2) :
    s.heartbeat p = s.gotBeat n p.data := by
  unfold State.heartbeat
  rw [via]
  exact if_pos peer

/-- A heartbeat that the mailbox does not take is recorded (R316). -/
theorem State.heartbeat_other (via : p.via = .fabric n) (other : ¬ (p.src.toNat = s.peer ∧ n.val < 2)) : s.heartbeat p =
    s.recordOf 0x6003 9 47 (p.src.toNat + (mailboxBase + 0x100 + 64 * n.val) * 2 ^ 64) := by
  unfold State.heartbeat
  rw [via]
  exact if_neg other

theorem exec_heartbeat {t : Nat} {v : State} (reaches : Reaches s p) (goes : (s.tick t).heartbeat p = v) :
    exec (.heartbeat p t) s = .next (v.bufferFreed p 0x33) :=
  next_arrive (s := s.tick t) reaches 0x33 _ goes

theorem exec_dict {f : Frame} {op : BitVec 8} {v : State} (reaches : Reaches s p) (via : p.via = .traek)
    (goes : s.hostDict p f op.toNat = v) : exec (.dict p f op) s = .next (v.bufferFreed p 0x0C) :=
  next_arrive reaches 0x0C _ (by rw [via]; exact goes)

theorem State.hostDict_unmapped {f : Frame} {op : Nat} (outside : s.traekWindow p.addr.toNat 1 = none) :
    s.hostDict p f op = s.nakFault p 3 p.addr.toNat St.addressUnmapped := by
  unfold State.hostDict
  rw [outside]

theorem State.hostDict_window {f : Frame} {op w : Nat} (window : s.traekWindow p.addr.toNat 1 = some w) : s.hostDict p f op =
    if (natFld w 24 1).testBit 4 then
      (s.serveFrame .host f op).2.foldl (fun x d => (x.respond p 0x8C 0 d).bump 0xF00600 1) (s.serveFrame .host f op).1
    else s.nakFault p 3 p.addr.toNat St.fabricDenied := by
  unfold State.hostDict
  rw [window]

end Responses

section Fabric
variable {s : State} {p : Packet} {n : Fin 8}

/-! ### Packets that one link alone carries (R302) -/

theorem State.snoopReq_fabric (via : p.via = .fabric n) (op : Nat) : s.snoopReq p op = s.respond p 0x90 0 [] := by
  unfold State.snoopReq
  rw [via]

theorem State.snoopReq_traek (via : p.via = .traek) (op : Nat) : s.snoopReq p op = s.refusePacket p op St.reservedSet := by
  unfold State.snoopReq
  rw [via]

theorem exec_snpShare {v : State} (reaches : Reaches s p) (goes : s.snoopReq p 0x10 = v) :
    exec (.snpShare p) s = .next (v.bufferFreed p 0x10) :=
  next_arrive reaches 0x10 _ goes

theorem exec_snpInval {v : State} (reaches : Reaches s p) (goes : s.snoopReq p 0x11 = v) :
    exec (.snpInval p) s = .next (v.bufferFreed p 0x11) :=
  next_arrive reaches 0x11 _ goes

theorem exec_probe_fabric (reaches : Reaches s p) (via : p.via = .fabric n) :
    exec (.probe p) s = .next ((s.answerProbe p).bufferFreed p 0x30) :=
  next_arrive reaches 0x30 _ (by rw [via])

theorem exec_probeRsp_fabric {v : State} (reaches : Reaches s p) (via : p.via = .fabric n) (goes : s.gotProbe p = v) :
    exec (.probeRsp p) s = .next (v.bufferFreed p 0x86) :=
  next_arrive reaches 0x86 _ (by rw [via]; exact goes)

theorem exec_resync_fabric {v : State} (reaches : Reaches s p) (via : p.via = .fabric n) (goes : s.gotResync p = v) :
    exec (.resync p) s = .next (v.bufferFreed p 0x31) :=
  next_arrive reaches 0x31 _ (by rw [via]; exact goes)

/-- The Traek link carries no PROBE, PROBE_RSP and RESYNC. -/
theorem exec_probes_traek (reaches : Reaches s p) (via : p.via = .traek) :
    exec (.probe p) s = .next ((s.refusePacket p 0x30 St.reservedSet).bufferFreed p 0x30) ∧
    exec (.probeRsp p) s = .next ((s.refusePacket p 0x86 St.reservedSet).bufferFreed p 0x86) ∧
    exec (.resync p) s = .next ((s.refusePacket p 0x31 St.reservedSet).bufferFreed p 0x31) :=
  ⟨next_arrive reaches 0x30 _ (by rw [via]), next_arrive reaches 0x86 _ (by rw [via]),
    next_arrive reaches 0x31 _ (by rw [via])⟩

end Fabric
/-- Settles O47: what each response, snoop and message leaves when it arrives. A PROBE_RSP that shows something lost counts one lost path
(log entry 94), its route epoch is not checked (95), and the collective packets that left on the old path are lost with it (187). -/
theorem responsesAndSnoopsTakeEffect : Obligations.ResponsesAndSnoopsTakeEffect := by
  unfold Obligations.ResponsesAndSnoopsTakeEffect
  intro s p reaches
  refine ⟨exec_data reaches, fun via => ?traek, fun n key st via named stream => ?fabric, fun line agent at' asker => ?answer,
    fun line t v now => ?timeout⟩
  case traek =>
    obtain ⟨probe, probeRsp, resync⟩ := exec_probes_traek reaches via
    refine ⟨exec_ack reaches (State.gotAck_traek via), exec_nak reaches (State.gotNak_traek via),
      exec_snpShare reaches (State.snoopReq_traek via _), exec_snpInval reaches (State.snoopReq_traek via _),
      fun away => exec_snpRsp reaches (State.snoopRsp_away via away), probe, probeRsp, resync,
      fun f op => ⟨fun outside => exec_dict reaches via (State.hostDict_unmapped outside), fun w window => ⟨fun closed => ?_,
        fun allowed r served => ?_⟩⟩⟩
    · exact exec_dict reaches via ((State.hostDict_window window).trans (if_neg (ne_true_of_eq_false closed)))
    · subst served
      exact exec_dict reaches via ((State.hostDict_window window).trans (if_pos allowed))
  case fabric =>
    subst named stream
    refine ⟨⟨s.covered (s.answerKey p) p.seq.toNat, onlyChanges_onStreamOut s _ _, State.streamOut_onStreamOut_same s _ _,
        exec_ack reaches (State.gotAck_fabric via)⟩,
      fun unknown => exec_nak reaches (State.gotNak_unknown via unknown),
      fun o out => ⟨fun busy => exec_nak reaches (State.gotNak_busy via out busy), fun fails => ?failed⟩,
      exec_snpShare reaches (State.snoopReq_fabric via _), exec_snpInval reaches (State.snoopReq_fabric via _),
      exec_probe_fabric reaches via, fun idle => exec_probeRsp_fabric reaches via (State.gotProbe_idle idle),
      fun lost kept probing were left => ?probed, ?resync, fun t v now => ?beat⟩
    case failed =>
      refine ⟨s.refused p o, (onlyChanges_dropAnswered s p).trans ((onlyChanges_onStreamOut _ _ _).mono (by decide)), fun x inside => ?_,
        exec_nak reaches (State.gotNak_fails via out fails)⟩
      rw [State.refused, State.streamOut_onStreamOut_same] at inside
      exact bne_iff_ne.1 (List.mem_filter.1 inside).2
    case probed =>
      change lost = (s.streamOut (s.answerKey p)).lostAfter p.seq.toNat at were
      refine ⟨s.probeOver (s.answerKey p) lost, s.lostNamed (s.answerKey p) lost,
        (s.lostNamed (s.answerKey p) lost).lostFailed (s.answerKey p) lost, (s.lostNamed (s.answerKey p) lost).colsAtRisk (s.answerKey p),
        onlyChanges_onStreamOut s _ _, ?_, rfl, rfl, fun none => ?_, fun some => ?_,
        exec_probeRsp_fabric reaches via (State.gotProbe_probing probing were)⟩
      · rw [State.probeOver, State.streamOut_onStreamOut_same, left]
      · rw [none, State.lostFailed_nil]
      · exact if_neg fun empty => some (List.isEmpty_iff.1 empty)
    case resync =>
      refine ⟨s.runLost (inKey p) (p.seq.toNat, p.addr.toNat % 2 ^ 32), onlyChanges_onStreamIn s _ _, ?_,
        exec_resync_fabric reaches via (State.gotResync_eq s p)⟩
      rw [State.runLost, State.streamIn_onStreamIn_same]
    case beat =>
      subst now
      refine ⟨fun peer => exec_heartbeat reaches (State.heartbeat_peer via peer), fun other => ⟨_, ?_,
        exec_heartbeat reaches (State.heartbeat_other via other)⟩⟩
      exact recordFrame_record _ _
  case answer =>
    subst at'
    refine ⟨fun idle => exec_snpRsp reaches ((State.snoopRsp_home asker).trans (State.snoopDone_none idle)), fun x out =>
      ⟨s.snoopOver (lineKey (p.addr.toNat % 2 ^ 48)) agent x, ?_, rfl, look_put_same DirState.u s.directory _ _,
        exec_snpRsp reaches ((State.snoopRsp_home asker).trans (State.snoopDone_some out))⟩⟩
    exact ((onlyChanges_snoops s _).mono (by decide)).trans ((onlyChanges_setDir _ _ _).mono (by decide))
  case timeout =>
    subst now
    rw [exec_snoopTimeout]
    refine ⟨fun idle => by rw [idle], fun x due => ⟨(s.tick t).snoopLost x, ?_, ?_, ?_, by rw [due]; rfl⟩⟩
    · exact (((onlyChanges_snoops (s.tick t) _).mono (by decide)).trans ((failFrame_failAgent _ _ _).mono (by decide))).trans
        ((frame_snoopLost (s.tick t) x).mono (by decide))
    · exact (frame_snoopLost (s.tick t) x .snoops (by decide)).trans (failFrame_failAgent _ x.line x.agent .snoops (by decide))
    · have same : ((s.tick t).snoopLost x).dirState x.line = _ :=
        congrArg (look DirState.u · x.line) (frame_snoopLost (s.tick t) x .directory (by decide))
      rw [same]
      exact State.not_mem_agents_failAgent _ x.line x.agent

end Sys2Proof.Machine

/-! Scope of the block: what the rows of the twin share (chapter 11): requests to other nodes (R264, R276, R300) and the entries 0x60xx
of the pair, which packets on their way out leave alone. -/

namespace Sys2Proof.Machine

/-- `u` differs from `s` in no field outside `fs`, and the dictionary's entries 0x60xx of the pair hold the same. -/
structure SparesPair (fs : List Field) (s u : State) : Prop where
  frame : OnlyChanges fs s u
  pair : ∀ key, key / 2 ^ 16 = 0x60 → u.dv key = s.dv key

theorem SparesPair.refl (fs : List Field) (s : State) : SparesPair fs s s := ⟨OnlyChanges.refl fs s, fun _ _ => rfl⟩

theorem SparesPair.trans {fs : List Field} {s u v : State} (h : SparesPair fs s u) (g : SparesPair fs u v) : SparesPair fs s v :=
  ⟨h.frame.trans g.frame, fun key twin => (g.pair key twin).trans (h.pair key twin)⟩

theorem SparesPair.mono {fs gs : List Field} {s u : State} (h : SparesPair fs s u) (within : fs ⊆ gs := by decide) : SparesPair gs s u :=
  ⟨h.frame.mono within, h.pair⟩

/-- A change of some fields goes on with a change of fewer. -/
theorem SparesPair.next {fs gs : List Field} {s u v : State} (h : SparesPair fs s u) (g : SparesPair gs u v)
    (within : gs ⊆ fs := by decide) : SparesPair fs s v :=
  h.trans (g.mono within)

theorem SparesPair.foldl {α : Type} {fs : List Field} {f : State → α → State} (each : ∀ u a, SparesPair fs u (f u a)) (s : State)
    (xs : List α) : SparesPair fs s (xs.foldl f s) :=
  foldl_keeps (SparesPair fs) (SparesPair.refl fs) (fun _ _ _ => SparesPair.trans) f xs (fun u a _ => each u a) s

theorem SparesPair.ite {fs : List Field} {s u v : State} {c : Prop} [Decidable c] (h : SparesPair fs s u) (g : SparesPair fs s v) :
    SparesPair fs s (if c then u else v) := by
  split
  · exact h
  · exact g

/-- A change outside the dictionary spares the pair. -/
theorem OnlyChanges.sparesPair {fs : List Field} {s u : State} (h : OnlyChanges fs s u) (outside : Field.dict ∉ fs := by decide) :
    SparesPair fs s u :=
  ⟨h, fun key _ => h.dv outside key⟩

/-- A change goes on with one outside the dictionary. -/
theorem SparesPair.only {fs gs : List Field} {s u v : State} (h : SparesPair fs s u) (g : OnlyChanges gs u v)
    (within : gs ⊆ fs := by decide) (outside : Field.dict ∉ gs := by decide) : SparesPair fs s v :=
  h.next (g.sparesPair outside) within

section Sends
variable (s : State)

theorem sparesPair_setDv {key : Nat} (away : key / 2 ^ 16 ≠ 0x60) (v : Nat) : SparesPair [.dict] s (s.setDv key v) :=
  ⟨onlyChanges_setDv s key v, fun _ twin => s.dv_setDv_ne v fun same => away (same ▸ twin)⟩

theorem sparesPair_bump {key : Nat} (away : key / 2 ^ 16 ≠ 0x60) (n : Nat) : SparesPair [.dict] s (s.bump key n) :=
  sparesPair_setDv s away _

theorem sparesPair_surge {key : Nat} (away : key / 2 ^ 16 ≠ 0x60) (since : Nat) : SparesPair [.dict] s (s.surge key since) :=
  sparesPair_bump s away _

/-! ### A packet at the sender of a port (R254, R261) -/

/-- A route leads to one of the eight ports. -/
theorem State.routeFrom_lt {src n p : Nat} (route : s.routeFrom src n = some p) : p < 8 := by
  unfold State.routeFrom at route
  split at route
  · cases route
  next e _ =>
    dsimp only at route
    split at route
    · cases route
    next some' =>
      obtain rfl := Option.some.inj route
      have room : (src * 40503 + n) % 65536 % ((setBits 8 (natFld e 5 1)).filter s.portUp).length <
          ((setBits 8 (natFld e 5 1)).filter s.portUp).length :=
        Nat.mod_lt _ (List.length_pos_iff.2 fun none => some' (List.isEmpty_iff.2 none))
      rw [List.getD_eq_getElem _ _ room]
      have inside := List.mem_of_mem_filter (List.getElem_mem room)
      exact List.mem_range.1 (List.mem_of_mem_filter inside)

theorem sparesPair_packetOut {p : Nat} (port : p < 8) (w : OutWait) : SparesPair portFields s (s.packetOut p w) := by
  have waited : SparesPair portFields s (match w.short with | some a => s.surge (0x500C01 + p) a | none => s) := by
    split
    · exact (sparesPair_surge s (by omega) _).mono
    · exact SparesPair.refl _ s
  have flit : ∀ (v : State) (load : List Byte), SparesPair portFields v (v.flitOut p load) := fun v _ =>
    ((SparesPair.refl _ v).only (onlyChanges_onPort v p _)).only (onlyChanges_send _ _)
  have sent := (waited.only (onlyChanges_send _ w.msg)).only (onlyChanges_onPort _ p fun r => { r with
    waiting := r.waiting.erase w, credits := change 0 r.credits w.cls (fun c => c - creditNeed freshCredits w) })
  exact (sent.trans (SparesPair.foldl flit _ (flitLoads 200 w.msg.bytes))).only (onlyChanges_onPort _ p _)

theorem sparesPair_drainPort {p : Nat} (port : p < 8) (n : Nat) : ∀ s : State, SparesPair portFields s (State.drainPort n s p) := by
  induction n with
  | zero => exact SparesPair.refl _
  | succ n ih =>
    intro s
    unfold State.drainPort
    split
    · exact (sparesPair_packetOut s port _).trans (ih _)
    · exact SparesPair.refl _ s

theorem sparesPair_egressPort {p : Nat} (port : p < 8) (e : Egress) : SparesPair portFields s (s.egressPort p e) :=
  ((((SparesPair.refl _ s).only (onlyChanges_onPort s p _)).trans (sparesPair_drainPort port _ _)).next
    (onlyChanges_onPort _ p _).sparesPair).next (sparesPair_bump _ (by omega) _)

/-! ### A message at the sender of the Traek link (R300) -/

/-- A message that goes next is of one of the three classes with credit. -/
theorem Traek.cls_of_nextOut {t : Traek} {w : OutWait} (next : t.nextOut = some w) : w.cls < 4 := by
  obtain ⟨v, inside, of⟩ := List.exists_of_findSome?_eq_some next
  have same := List.find?_some (Option.mem_filter_iff.1 of).1
  have small : ∀ v ∈ [1, 2, 3], v < 4 := by decide
  exact (eq_of_beq same) ▸ small v inside

theorem sparesPair_messageOut {w : OutWait} (cls : w.cls < 4) : SparesPair traekFields s (s.messageOut w) := by
  have waited : SparesPair traekFields s (match w.short with | some a => s.surge (0x503501 + w.cls) a | none => s) := by
    split
    · exact (sparesPair_surge s (by omega) _).mono
    · exact SparesPair.refl _ s
  have flit : ∀ (v : State) (load : List Byte), SparesPair traekFields v (v.traekFlitOut load) := fun v _ =>
    ((SparesPair.refl _ v).only (onlyChanges_onTraek v _)).only (onlyChanges_send _ _)
  exact ((waited.only (onlyChanges_send _ _)).only (onlyChanges_onTraek _ _)).trans (SparesPair.foldl flit _ _)

theorem sparesPair_drainTraek (n : Nat) : ∀ s : State, SparesPair traekFields s (State.drainTraek n s) := by
  induction n with
  | zero => exact SparesPair.refl _
  | succ n ih =>
    intro s
    unfold State.drainTraek
    split
    next w next => exact (sparesPair_messageOut s (Traek.cls_of_nextOut next)).trans (ih _)
    · exact SparesPair.refl _ s

theorem sparesPair_sendTraek (op tag addr lines status : Nat) (poison : Bool) (data : List Byte) :
    SparesPair traekFields s (s.sendTraek op tag addr lines status poison data) := by
  have short (v : State) : SparesPair traekFields v v.traekShort :=
    ((((SparesPair.refl _ v).only (onlyChanges_onTraek v _)).next (sparesPair_bump _ (by decide) _)).next
      (sparesPair_bump _ (by decide) _)).next (sparesPair_bump _ (by decide) _)
  exact (((SparesPair.refl _ s).only (onlyChanges_onTraek s _)).trans (sparesPair_drainTraek _ _)).trans (short _)

/-! ### Requests of the module's own (R264, R276, R301) -/

/-- The fields that a request of the module to another node may change. -/
def askFields : List Field := [.egress, .dict, .step, .ports, .streamsOut, .reqs, .nextTag, .traek]

theorem onlyChanges_numbered (n : Nat) (rs : List Req) : OnlyChanges [.reqs, .nextTag] s { s with nextTag := n, reqs := rs } := by
  intro f outside
  cases f
  case reqs | nextTag => exact absurd (by decide) outside
  all_goals rfl

theorem sparesPair_pushStream (dst : Nat) (a : Ask) : SparesPair askFields s (s.pushStream dst a) := by
  have numbered (n : Nat) (rs : List Req) (g : StreamOut → StreamOut) :
      SparesPair askFields s (({ s with nextTag := n, reqs := rs } : State).onStreamOut (streamKey a.relayed dst) g) :=
    ((SparesPair.refl _ s).only (onlyChanges_numbered s n rs)).only (onlyChanges_onStreamOut _ _ g)
  unfold State.pushStream
  dsimp only
  split
  · exact numbered _ _ _
  split
  next p route => exact (numbered _ _ _).next (sparesPair_egressPort _ (s.routeFrom_lt route) _)
  · exact numbered _ _ _

theorem sparesPair_shipGateway (p dst : Nat) : SparesPair askFields s (s.shipGateway p dst) :=
  ((SparesPair.refl _ s).only (onlyChanges_onPort s p _)).trans
    (SparesPair.foldl (fun v _ => SparesPair.foldl (fun w a => sparesPair_pushStream w dst a) v _) _ _)

theorem sparesPair_placeGateway (p dst source : Nat) (q : GwPart) : SparesPair askFields s (s.placeGateway p dst source q) := by
  have changed (v : State) (g : Port → Port) : SparesPair askFields v (v.onPort p g) :=
    (SparesPair.refl _ v).only (onlyChanges_onPort v p g)
  unfold State.placeGateway
  dsimp only
  split
  · exact changed s _
  split
  · exact (sparesPair_shipGateway s p dst).trans (changed _ _)
  split
  · exact (changed s _).trans (sparesPair_shipGateway _ p dst)
  · exact changed s _

theorem sparesPair_askBeyond (p dst : Nat) (a : Ask) : SparesPair askFields s (s.askBeyond p dst a) := by
  have shipped := sparesPair_shipGateway s p dst
  unfold State.askBeyond
  dsimp only
  split
  · split
    · exact shipped.only (onlyChanges_numbered _ _ _)
    · exact shipped.trans (sparesPair_pushStream _ dst _)
  · exact shipped.trans (sparesPair_pushStream _ dst a)

theorem sparesPair_gatherGateway (p dst source : Nat) (a : Ask) : SparesPair askFields s (s.gatherGateway p dst source a) :=
  .ite ((onlyChanges_onPort s p _).sparesPair.mono) (.ite (sparesPair_placeGateway s p dst source _) (sparesPair_askBeyond s p dst a))

theorem sparesPair_sendOn (dst source : Nat) (a : Ask) : SparesPair askFields s (s.sendOn dst source a) := by
  unfold State.sendOn
  split
  · split
    · exact sparesPair_gatherGateway s _ dst source a
    · exact sparesPair_pushStream s dst a
  · exact sparesPair_pushStream s dst a

theorem sparesPair_askHost (dst : Nat) (a : Ask) : SparesPair askFields s (s.askHost dst a).1 := by
  unfold State.askHost
  dsimp only
  rw [apply_ite Prod.fst]
  exact .ite (SparesPair.refl _ s) (((SparesPair.refl _ s).only (onlyChanges_numbered s _ _)).next (sparesPair_sendTraek _ _ _ _ _ _ _ _))

theorem sparesPair_keepBack (dst source : Nat) (a : Ask) : SparesPair askFields s (s.keepBack dst source a) :=
  (onlyChanges_step s _).sparesPair.mono

/-- A request to another node changes nothing of the pair. -/
theorem sparesPair_ask (dst source : Nat) (a : Ask) : SparesPair askFields s (s.ask dst source a).1 := by
  unfold State.ask
  split
  · exact sparesPair_askHost s dst _
  split
  · exact SparesPair.refl _ s
  · dsimp only
    split
    · exact sparesPair_keepBack s dst source _
    · exact sparesPair_sendOn s dst source _

end Sends
end Sys2Proof.Machine

/-! Scope of the block: pairing, detach, loss and heartbeats of the twin (O48). -/

namespace Sys2Proof.Machine

section Twin
variable {s : State}

/-! ### The twin's record and the queues that wait for its tee (R158) -/

theorem onlyChanges_onTwin (s : State) (f : Twin → Twin) : OnlyChanges [.twin] s (s.onTwin f) := by
  intro x outside
  cases x
  case twin => exact absurd List.mem_cons_self outside
  all_goals rfl

@[simp] theorem State.dv_onTwin (s : State) (f : Twin → Twin) (key : Nat) : (s.onTwin f).dv key = s.dv key := rfl

@[simp] theorem State.twin_onTwin (s : State) (f : Twin → Twin) : (s.onTwin f).twin = f s.twin := rfl

theorem onlyChanges_teeSettled (s : State) (x : Twin) (qs : Tbl Queue) :
    OnlyChanges [.queues, .twin] s { s with twin := x, queues := qs } := by
  intro f outside
  cases f
  case twin | queues => exact absurd (by decide) outside
  all_goals rfl

theorem sparesPair_teeSettle (s : State) (since : Option Nat) : SparesPair [.dict, .queues, .twin] s (s.teeSettle since) := by
  have waited : SparesPair [.dict, .queues, .twin] s (match since with | some t => s.surge 0xA03700 t | none => s) := by
    split
    · exact (sparesPair_surge s (by decide) _).mono
    · exact SparesPair.refl _ s
  unfold State.teeSettle
  split
  · exact SparesPair.refl _ s
  · exact waited.only (onlyChanges_teeSettled _ _ _)

/-- What settles behind the tee leaves of the twin's record all but since when it waited. -/
theorem State.twin_teeSettle (s : State) (since : Option Nat) :
    (s.teeSettle since).twin = s.twin ∨ (s.teeSettle since).twin = { s.twin with teeSince := none } := by
  unfold State.teeSettle
  split
  · exact .inl rfl
  · cases since <;> exact .inr rfl

theorem sparesPair_teeSend (s : State) (x : TeeStore) : SparesPair (.twin :: askFields) s (s.teeSend x) :=
  ((sparesPair_ask s _ _ _).mono).only (onlyChanges_onTwin _ fun t => { t with
    tees := t.tees.drop 1, bucket := t.bucket - 64 * ceilDiv x.data.length 64 * 2560,
    markSent := if x.mark = 0 then t.markSent else x.mark })

/-- The fields that an end of the pair may change, with what is sent ahead of it. -/
def pairFields : List Field := .queues :: .twin :: askFields

theorem sparesPair_teeFlush (s : State) : SparesPair pairFields s s.teeFlush :=
  ((SparesPair.foldl sparesPair_teeSend s _).mono).next (sparesPair_teeSettle _ _)

/-! ### Pairing records (R310, R311) -/

theorem sparesPair_toMailbox (s : State) (off : Nat) (bytes : List Byte) : SparesPair askFields s (s.toMailbox off bytes) :=
  SparesPair.foldl (fun v _ => sparesPair_ask v _ _ _) s _

theorem sparesPair_sendRecord (s : State) (kind status step evidence : Nat) :
    SparesPair askFields s (s.sendRecord kind status step evidence) :=
  sparesPair_toMailbox s 0 _

/-! ### The end of a pair (R312, R317) -/

/-- The twin's record of a module whose pair is over. -/
def Twin.unpaired (t : Twin) : Twin := { attempt := t.attempt, teed := t.teed }

theorem State.unpair_eq (s : State) : s.unpair = ((s.setDv 0x600100 0).onTwin Twin.unpaired).teeSettle s.twin.teeSince := rfl

theorem onlyChanges_unpair (s : State) : OnlyChanges [.dict, .queues, .twin] s s.unpair := by
  rw [State.unpair_eq]
  exact (((onlyChanges_setDv s _ _).mono (by decide)).next (onlyChanges_onTwin _ _)).trans (sparesPair_teeSettle _ _).frame

theorem State.dv_unpair (s : State) : s.unpair.dv 0x600100 = 0 := by
  rw [State.unpair_eq, (sparesPair_teeSettle _ _).pair _ (by decide), State.dv_onTwin, State.dv_setDv_same]

/-- The end of a pair leaves the pair's other entries. -/
theorem State.dv_unpair_ne (s : State) {key : Nat} (pair : key / 2 ^ 16 = 0x60) (other : key ≠ 0x600100) :
    s.unpair.dv key = s.dv key := by
  rw [State.unpair_eq, (sparesPair_teeSettle _ _).pair key pair, State.dv_onTwin, State.dv_setDv_ne s _ other]

theorem onlyChanges_endPairing (s : State) (status : Nat) : OnlyChanges [.dict, .queues, .twin] s (s.endPairing status) :=
  ((onlyChanges_setDv s _ _).mono (by decide)).trans (onlyChanges_unpair _)

/-- A pairing that ends leaves the module UNPAIRED, with its status in 0x6004:00. -/
theorem State.dv_endPairing (s : State) (status : Nat) :
    (s.endPairing status).dv 0x600100 = 0 ∧ (s.endPairing status).dv 0x600400 = status := by
  unfold State.endPairing
  refine ⟨State.dv_unpair _, ?_⟩
  rw [State.dv_unpair_ne _ (by decide) (by decide), State.dv_setDv_same]

/-! ### A pair command (R312) -/

theorem State.peerEvidence_sentEvidence (w : State) :
    (w.onTwin (fun t => { t with sentEvidence := true })).twin.peerEvidence = w.twin.peerEvidence := rfl

/-- While no evidence of the peer has come, the handshake sends evidence at most. -/
theorem State.handshake_waits (waits : s.twin.peerEvidence = none) : ∃ w : State, SparesPair askFields s w ∧
    (s.handshake = w ∨ s.handshake = w.onTwin (fun t => { t with sentEvidence := true })) := by
  unfold State.handshake
  split
  · exact ⟨s, SparesPair.refl _ s, .inl rfl⟩
  next peer _ =>
    have sent : SparesPair askFields s ((s.toMailbox 0x10000 (s.evidenceFor ((peer.drop 48).take 32))).sendRecord 2 0 0 34240) :=
      (sparesPair_toMailbox s _ _).trans (sparesPair_sendRecord _ _ _ _ _)
    dsimp only
    generalize (s.toMailbox 0x10000 (s.evidenceFor ((peer.drop 48).take 32))).sendRecord 2 0 0 34240 = w at sent ⊢
    by_cases once : s.twin.sentEvidence = true
    · rw [if_pos once, waits]
      dsimp only
      exact ⟨s, SparesPair.refl _ s, .inl rfl⟩
    · rw [if_neg once, State.peerEvidence_sentEvidence, sent.frame .twin (by decide), waits]
      dsimp only
      exact ⟨w, sent, .inr rfl⟩

theorem sparesPair_handshake (waits : s.twin.peerEvidence = none) : SparesPair (.twin :: askFields) s s.handshake := by
  obtain ⟨w, sent, same | same⟩ := State.handshake_waits waits
  · rw [same]
    exact sent.mono
  · rw [same]
    exact sent.mono.only (onlyChanges_onTwin w _)

/-- The handshake of a module that waits leaves its attempt. -/
theorem State.attempt_handshake (waits : s.twin.peerEvidence = none) :
    s.handshake.twin.attempt = s.twin.attempt ∧ s.handshake.twin.since = s.twin.since := by
  obtain ⟨w, sent, left⟩ := State.handshake_waits waits
  have twin : w.twin = s.twin := sent.frame .twin (by decide)
  rw [← twin]
  obtain same | same := left <;> rw [same] <;> exact ⟨rfl, rfl⟩

/-- The twin's record at a pair command. -/
def Twin.opened (t : Twin) (now : Nat) : Twin :=
  { attempt := (t.attempt + 1) % 2 ^ 32, since := now, offer := t.offer, teed := t.teed }

/-- The state in which a pair command has opened an attempt. -/
def State.opened (s : State) : State := (s.setDv 0x600100 1).onTwin (fun t => t.opened s.now)

/-- The OFFER of the attempt that is open. -/
def State.ownOffer (s : State) : List Byte := s.pairingRecord 1 0 (s.dv 0xA03200) 0

/-- The state in which the OFFER of the attempt that is open has been sent. -/
def State.offered (s : State) : State := (s.toMailbox 0 s.ownOffer).onTwin (fun t => { t with own := s.ownOffer })

theorem State.pairNow_eq (s : State) : s.pairNow = s.opened.offered.handshake := rfl

theorem State.twin_offered (s : State) : s.offered.twin = { s.twin with own := s.ownOffer } := by
  rw [State.offered, State.twin_onTwin, (sparesPair_toMailbox s 0 _).frame .twin (by decide)]

theorem sparesPair_offered (s : State) : SparesPair (.twin :: askFields) s s.offered :=
  (sparesPair_toMailbox s 0 _).mono.only (onlyChanges_onTwin _ _)

theorem onlyChanges_opened (s : State) : OnlyChanges [.dict, .twin] s s.opened :=
  ((onlyChanges_setDv s _ _).mono (by decide)).next (onlyChanges_onTwin _ _)

theorem State.dv_opened (s : State) : s.opened.dv 0x600100 = 1 := by
  rw [State.opened, State.dv_onTwin, State.dv_setDv_same]

theorem State.pairNow_spec (s : State) : OnlyChanges pairFields s s.pairNow ∧ s.pairNow.dv 0x600100 = 1 ∧
    s.pairNow.twin.attempt = (s.twin.attempt + 1) % 2 ^ 32 ∧ s.pairNow.twin.since = s.now := by
  have waits : s.opened.offered.twin.peerEvidence = none := by
    rw [State.twin_offered]
    rfl
  have spares := (sparesPair_offered s.opened).trans (sparesPair_handshake waits)
  obtain ⟨attempt, since⟩ := State.attempt_handshake waits
  rw [State.twin_offered] at attempt since
  rw [State.pairNow_eq]
  exact ⟨((onlyChanges_opened s).mono (by decide)).next spares.frame, (spares.pair _ (by decide)).trans s.dv_opened, attempt, since⟩

/-! ### Loss (R316) -/

theorem onlyChanges_freezeNegative (s : State) (step : Nat) (torn released : Bool) :
    OnlyChanges [.mem, .dict] s (s.freezeNegative step torn released) := by
  have frozen (v : Nat) : OnlyChanges [.mem, .dict] s (s.setDv 0x600B00 v) := (onlyChanges_setDv s _ v).mono (by decide)
  unfold State.freezeNegative
  dsimp only
  split
  · exact frozen _
  · exact ((frozen _).next (onlyChanges_wrNat _ _ _ _)).next (onlyChanges_wrNat _ _ _ _)

theorem sparesPair_ringRec (s : State) (e : ErrRecord) : SparesPair recordFields s (s.ringRec e) := by
  have logged (xs : List ErrRecord) (n : Nat) : SparesPair recordFields s { s with log := xs, logSeq := n } :=
    ⟨recordFrame_logged s xs n, fun _ _ => rfl⟩
  unfold State.ringRec
  dsimp only
  split
  · exact ((logged _ _).next (sparesPair_setDv _ (by decide) _)).next (sparesPair_setDv _ (by decide) _)
  · exact logged _ _

theorem sparesPair_record (s : State) (e : ErrRecord) : SparesPair recordFields s (s.record e) := by
  unfold State.record
  split
  · exact (onlyChanges_mgmt s _).sparesPair.mono
  · exact sparesPair_ringRec s e

/-- The fields that the loss of the twin may change. -/
def lossFields : List Field := [.mem, .dict, .log, .logSeq, .queues, .streamsOut, .twin, .mgmt]

/-- The state in which what of the tee waits behind a re-route is dropped. -/
def State.teesDropped (s : State) : State := s.onStreamOut (streamKey false s.peer) StreamOut.dropTees

/-- The state in which the negative is frozen at the last mark applied. -/
def State.markFrozen (s : State) : State :=
  if s.twin.markApplied = 0 then s else s.freezeNegative (s.twin.markApplied - 1) s.twin.teeAfterMark false

/-- The twin's record of a module that lost it. -/
def Twin.lost (t : Twin) : Twin := { attempt := t.attempt, teed := t.teed, markApplied := t.markApplied }

/-- The state in which a module is LOST. -/
def State.twinLost (s : State) : State := (s.markFrozen.setDv 0x600100 4).onTwin Twin.lost

theorem onlyChanges_markFrozen (s : State) : OnlyChanges [.mem, .dict] s s.markFrozen :=
  .ite (OnlyChanges.refl _ s) (onlyChanges_freezeNegative s _ _ _)

theorem onlyChanges_twinLost (s : State) : OnlyChanges [.mem, .dict, .twin] s s.twinLost :=
  (((onlyChanges_markFrozen s).mono (by decide)).next (onlyChanges_setDv _ _ _)).next (onlyChanges_onTwin _ _)

theorem State.dv_twinLost (s : State) : s.twinLost.dv 0x600100 = 4 := by
  rw [State.twinLost, State.dv_onTwin, State.dv_setDv_same]

theorem State.twin_twinLost (s : State) : s.twinLost.twin = s.twin.lost :=
  congrArg Twin.lost (onlyChanges_markFrozen s .twin (by decide))

/-- The loss is recorded, and what waits for the tee is done. -/
theorem State.loseTwin_eq (s : State) : ∃ e : ErrRecord,
    s.loseTwin = ((s.teesDropped.twinLost).record e).teeSettle s.teesDropped.twin.teeSince := by
  unfold State.loseTwin
  dsimp only
  rw [← State.teesDropped]
  exact ⟨_, rfl⟩

/-- A module that loses its twin is LOST, keeps its attempt and the last mark applied, and no tee store waits. -/
theorem State.loseTwin_spec (s : State) : s.loseTwin.dv 0x600100 = 4 ∧
    (s.loseTwin.twin = s.twin.lost ∨ s.loseTwin.twin = { s.twin.lost with teeSince := none }) ∧ OnlyChanges lossFields s s.loseTwin := by
  obtain ⟨e, same⟩ := s.loseTwin_eq
  have dropped : OnlyChanges [.streamsOut] s s.teesDropped := onlyChanges_onStreamOut s _ _
  have recorded := sparesPair_record s.teesDropped.twinLost e
  have settled := sparesPair_teeSettle (s.teesDropped.twinLost.record e) s.teesDropped.twin.teeSince
  have twin : (s.teesDropped.twinLost.record e).twin = s.twin.lost := by
    rw [recorded.frame .twin (by decide), State.twin_twinLost, dropped .twin (by decide)]
  rw [same]
  refine ⟨?_, ?_, ?_⟩
  · rw [settled.pair _ (by decide), recorded.pair _ (by decide), State.dv_twinLost]
  · rw [← twin]
    exact State.twin_teeSettle _ _
  · exact ((((dropped.mono (by decide)).next (onlyChanges_twinLost _)).next recorded.frame).next settled.frame)

/-! ### Release of a frozen negative (R316) -/

/-- The state in which a frozen negative is discarded. -/
def State.negativeDropped (s : State) : State :=
  if s.mirrorH = 0 then s.setDv 0x600B00 0 else (s.setDv 0x600B00 0).wrNat (s.inboundLow * 2 ^ 21 + 0x48) 1 0

theorem State.releaseNegative_eq (s : State) :
    s.releaseNegative = if s.twinState = 4 then s.negativeDropped.unpair else s.negativeDropped := rfl

theorem onlyChanges_negativeDropped (s : State) : OnlyChanges [.mem] (s.setDv 0x600B00 0) s.negativeDropped :=
  .ite (OnlyChanges.refl _ _) (onlyChanges_wrNat _ _ _ _)

theorem State.dv_negativeDropped (s : State) (key : Nat) : s.negativeDropped.dv key = (s.setDv 0x600B00 0).dv key :=
  (onlyChanges_negativeDropped s).dv (by decide) key

theorem State.releaseNegative_spec (s : State) : s.releaseNegative.dv 0x600B00 = 0 ∧
    OnlyChanges [.mem, .dict, .queues, .twin] s s.releaseNegative ∧
    s.releaseNegative.dv 0x600100 = if s.twinState = 4 then 0 else s.dv 0x600100 := by
  have dropped : OnlyChanges [.mem, .dict, .queues, .twin] s s.negativeDropped :=
    ((onlyChanges_setDv s _ _).mono (by decide)).next (onlyChanges_negativeDropped s)
  rw [State.releaseNegative_eq]
  by_cases lost : s.twinState = 4
  · rw [if_pos lost, if_pos lost, State.dv_unpair, State.dv_unpair_ne _ (by decide) (by decide), State.dv_negativeDropped,
      State.dv_setDv_same]
    exact ⟨rfl, dropped.next (onlyChanges_unpair _), rfl⟩
  · rw [if_neg lost, if_neg lost, State.dv_negativeDropped, State.dv_negativeDropped, State.dv_setDv_same,
      State.dv_setDv_ne s _ (by decide)]
    exact ⟨rfl, dropped, rfl⟩

/-! ### Detach (R317) -/

theorem State.answerDetach_spec (s : State) : s.answerDetach.dv 0x600100 = 0 ∧ OnlyChanges pairFields s s.answerDetach :=
  ⟨State.dv_unpair _, (((sparesPair_teeFlush s).next (sparesPair_sendRecord _ _ _ _ _)).frame).next (onlyChanges_unpair _)⟩

/-- Whether a module's own detach acts without a boundary, since it was asked for at `a`. -/
def State.actDue (s : State) (a : Nat) : Bool :=
  s.dv 0x600100 == 3 && s.twin.detachOwn && !s.twin.detachSent && !s.detachBath && decide (a + s.dv 0x600D00 * 500000 ≤ s.now)

/-- Whether a DETACH that came at `a` is answered without a boundary. -/
def State.answerDue (s : State) (a : Nat) : Bool :=
  s.dv 0x600100 == 3 && s.twin.detachGot && !s.twin.detachOwn && decide (a + s.dv 0x600D00 * 500000 ≤ s.now)

/-- Whether a module's own detach, asked for at `a`, has lost the twin. -/
def State.detachLost (s : State) (a : Nat) : Bool :=
  s.twinState == 3 && s.twin.detachOwn && decide (a + s.dv 0x600D00 * 1000000 ≤ s.now)

section DetachRows
variable {t a : Nat}

theorem exec_detach_idle {e : Instr} (which : e = .detachAct t ∨ e = .detachReleaseAnswer t ∨ e = .detachTimeout t)
    (idle : (s.tick t).twin.detachAt = none) : exec e s = .next (s.tick t) := by
  obtain rfl | rfl | rfl := which
  · dsimp only [exec, execDetachAct]
    rw [idle]
  · dsimp only [exec, execDetachReleaseAnswer]
    rw [idle]
  · dsimp only [exec, execDetachTimeout]
    rw [idle]

theorem exec_detachAct (at' : (s.tick t).twin.detachAt = some a) :
    exec (.detachAct t) s = .next (if (s.tick t).actDue a then (s.tick t).actDetach else s.tick t) := by
  dsimp only [exec, execDetachAct]
  rw [at']
  rfl

theorem exec_detachReleaseAnswer (at' : (s.tick t).twin.detachAt = some a) :
    exec (.detachReleaseAnswer t) s = .next (if (s.tick t).answerDue a then (s.tick t).answerDetach else s.tick t) := by
  dsimp only [exec, execDetachReleaseAnswer]
  rw [at']
  rfl

theorem exec_detachTimeout (at' : (s.tick t).twin.detachAt = some a) :
    exec (.detachTimeout t) s = .next (if (s.tick t).detachLost a then (s.tick t).loseTwin else s.tick t) := by
  dsimp only [exec, execDetachTimeout]
  rw [at']
  rfl

end DetachRows

/-! ### Heartbeats (R315) -/

/-- The state in which a heartbeat is counted as sent. -/
def State.beatCounted (s : State) : State := s.onTwin (fun t => { t with sent := t.sent + 1, lastSentAt := s.now })

/-- A heartbeat sends packets, and does nothing else. -/
theorem portFrame_sendBeat (s : State) : OnlyChanges portFields s.beatCounted s.sendBeat :=
  OnlyChanges.foldl (fun v p => .ite (portFrame_egressPort v p _) (OnlyChanges.refl _ v)) _ _

end Twin

/-- Settles O48: the rows of pairing and detach at their times, loss, the release of a frozen negative, and heartbeats. A module that
discards the negative in LOST is UNPAIRED (log entry 87); a detach counts from its command (191). -/
theorem pairRowsTakeEffect : Obligations.PairRowsTakeEffect := by
  unfold Obligations.PairRowsTakeEffect
  intro m t s v ticked
  subst ticked
  refine ⟨fun may => ?pair, fun not => ?noPair, fun late => ?timeout, fun early => ?noTimeout, fun may => ?detach, fun not => ?noDetach,
    fun e which idle => ?idle, fun a at' => ⟨fun go (is : go = (s.tick t).actDue a) => ⟨fun no => ?noAct, fun yes first => ?first,
      fun yes past updated => ?updated, fun yes past open' => ?bath⟩, fun go (is : go = (s.tick t).answerDue a) =>
      ⟨fun no => ?noAnswer, fun yes => ?answer⟩, fun early => ?noLoss⟩,
    fun beats => ?alive, fun e which => ?lost, fun w run => ⟨fun early => ?noBeat, fun due => ?beat⟩, fun may => ?release,
    fun not => ?noRelease⟩
  case pair =>
    obtain ⟨frame, state, attempt, since⟩ := (s.tick t).pairNow_spec
    exact ⟨_, congrArg Host.Outcome.next (if_pos may), frame.mono (by decide), state, attempt, since⟩
  case noPair => exact congrArg Host.Outcome.next (if_neg (ne_true_of_eq_false not))
  case timeout =>
    obtain ⟨state, status⟩ := State.dv_endPairing ((s.tick t).sendRecord 4 St.twinTimeout) St.twinTimeout
    exact ⟨_, congrArg Host.Outcome.next (if_pos late), state, status,
      ((sparesPair_sendRecord _ _ _ _ _).frame.mono (by decide)).next (onlyChanges_endPairing _ _)⟩
  case noTimeout => exact congrArg Host.Outcome.next (if_neg early)
  case detach =>
    have state : (s.tick t).detachNow.dv 0x600100 = 3 := by
      rw [State.detachNow, State.dv_onTwin, State.dv_setDv_same]
    exact ⟨_, congrArg Host.Outcome.next (if_pos may),
      ((onlyChanges_setDv (s.tick t) _ _).mono (by decide)).next (onlyChanges_onTwin _ _), state, rfl⟩
  case noDetach => exact congrArg Host.Outcome.next (if_neg (ne_true_of_eq_false not))
  case idle => exact exec_detach_idle which idle
  case noAct => rw [exec_detachAct at', ← is, no, if_neg Bool.false_ne_true]
  case first => rw [exec_detachAct at', ← is, yes, if_pos rfl, State.actDetach, if_pos first]
  case updated => rw [exec_detachAct at', ← is, yes, if_pos rfl, State.actDetach, if_neg past, if_pos updated]
  case bath => rw [exec_detachAct at', ← is, yes, if_pos rfl, State.actDetach, if_neg past, open', if_neg Bool.false_ne_true]
  case noAnswer => rw [exec_detachReleaseAnswer at', ← is, no, if_neg Bool.false_ne_true]
  case answer =>
    obtain ⟨state, frame⟩ := (s.tick t).answerDetach_spec
    exact ⟨_, by rw [exec_detachReleaseAnswer at', ← is, yes, if_pos rfl], state, frame.mono (by decide)⟩
  case noLoss =>
    rw [exec_detachTimeout at']
    exact congrArg Host.Outcome.next (if_neg (ne_true_of_eq_false early))
  case alive => exact congrArg Host.Outcome.next (if_neg (ne_true_of_eq_false beats))
  case lost =>
    obtain ⟨state, twin, frame⟩ := (s.tick t).loseTwin_spec
    have left : (s.tick t).loseTwin.twin.tees = [] ∧ (s.tick t).loseTwin.twin.attempt = (s.tick t).twin.attempt ∧
        (s.tick t).loseTwin.twin.markApplied = (s.tick t).twin.markApplied := by
      obtain twin | twin := twin <;> rw [twin] <;> exact ⟨rfl, rfl, rfl⟩
    obtain ⟨tees, attempt, mark⟩ := left
    refine ⟨(s.tick t).loseTwin, ?_, state, tees, attempt, mark, frame⟩
    obtain ⟨rfl, silent⟩ | ⟨rfl, a, at', late⟩ := which
    · exact congrArg Host.Outcome.next (if_pos silent)
    · rw [exec_detachTimeout at']
      exact congrArg Host.Outcome.next (if_pos late)
  case noBeat =>
    subst run
    exact congrArg Host.Outcome.next (if_neg (ne_true_of_eq_false early))
  case beat =>
    subst run
    have sent := portFrame_sendBeat (s.tick t).teeRun
    exact ⟨_, congrArg Host.Outcome.next (if_pos due), ((onlyChanges_onTwin _ _).mono (by decide)).next sent,
      sent .twin (by decide)⟩
  case release =>
    obtain ⟨dropped, frame, state⟩ := s.releaseNegative_spec
    exact ⟨_, congrArg Host.Outcome.next (if_pos may), dropped, frame, state⟩
  case noRelease => exact congrArg Host.Outcome.next (if_neg (ne_true_of_eq_false not))

end Sys2Proof.Machine

/-! Scope of the block: pairing records in the mailbox, and what the module does with them (O49). -/

namespace Sys2Proof.Machine

section Mailbox
variable {s : State} {p : Packet}

/-! ### The bytes of a record in the mailbox (R310) -/

/-- The state in which a record of the twin is stored in the mailbox. -/
def State.mailed (s : State) (bs : List Byte) : State := s.wrBytes mailboxBase bs

/-- Bytes of a place that no other address names read as they were written. -/
theorem State.rdBytes_wrBytes (bs : List Byte) : ∀ (s : State) (a : Nat), (∀ x, a ≤ x → x < a + bs.length → memKey x = x) →
    (s.wrBytes a bs).rdBytes a bs.length = bs ∧ ∀ x < a, (s.wrBytes a bs).rd x = s.rd x := by
  induction bs with
  | nil => exact fun _ _ _ => ⟨rfl, fun _ _ => rfl⟩
  | cons b bs ih =>
    intro s a own
    have length : (b :: bs).length = bs.length + 1 := rfl
    have here : memKey a = a := own a le_rfl (by omega)
    obtain ⟨rest, below⟩ := ih (s.wr a b) (a + 1) fun x low high => own x (by omega) (by omega)
    simp only [State.wrBytes, State.rdBytes, length, here]
    refine ⟨?_, fun x low => ?_⟩
    · rw [rest, below a (by omega), State.rd_wr, if_pos rfl]
    · rw [below x (by omega), State.rd_wr, if_neg (by omega)]

theorem memKey_mailbox {a : Nat} (low : 0x300080000000 ≤ a) (high : a < 0x300080200000) : memKey a = a := by
  have at' : place a = .mailbox (a - 0x300080000000) := by
    unfold place
    simp (disch := omega) only [if_neg, if_pos, low, high, and_self, if_true]
  unfold memKey
  rw [at']

/-- A record stored in the mailbox is read there. -/
theorem State.rdBytes_mailed (s : State) {bs : List Byte} (whole : bs.length = 256) : (s.mailed bs).rdBytes mailboxBase 256 = bs := by
  have base : mailboxBase = 0x300080000000 := rfl
  rw [← whole]
  exact (State.rdBytes_wrBytes bs s mailboxBase fun x low high => memKey_mailbox (by omega) (by omega)).1

/-! ### A store of a whole record (R310, R311) -/

/-- The bytes of a store with their offsets. -/
theorem zip_range_some (bs : List Byte) :
    (List.zip (List.range (bs.map some).length) (bs.map some)).filterMap (fun p => p.2.map (fun b => (0 + p.1, b))) =
      List.zip (List.range bs.length) bs := by
  rw [List.length_map, List.zip_map_right, List.filterMap_map]
  refine (List.filterMap_congr fun x _ => ?_).trans List.filterMap_some
  simp

/-- Bytes stored one by one, at their offsets from `a` on. -/
theorem State.foldl_wrBytes (a : Nat) (bs : List Byte) : ∀ (s : State) (k : Nat),
    (List.zip (List.range' k bs.length) bs).foldl (fun (x : State) p => x.wrBytes (a + p.1) [p.2]) s = s.wrBytes (a + k) bs := by
  induction bs with
  | nil => exact fun _ _ => rfl
  | cons b bs ih => exact fun s k => ih (s.wr (memKey (a + k)) b) (k + 1)

/-- The peer's store of a whole record is written, and acted on. -/
theorem State.mailboxStore_record {src : Nat} {bs : List Byte} (peer : src = s.peer) (whole : bs.length = 256) :
    s.mailboxStore src 0 (bs.map some) = (s.mailed bs).gotRecord src bs := by
  have offsets : (List.zip (List.range bs.length) bs).map (·.1) = List.range 256 := by
    rw [List.map_fst_zip (by simp), whole]
  have small : ∀ x ∈ List.zip (List.range bs.length) bs, x.1 < 256 := fun x inside =>
    List.mem_range.1 (offsets ▸ List.mem_map_of_mem inside)
  have mine : (List.zip (List.range bs.length) bs).filter (fun x => mailArea x.1) = List.zip (List.range bs.length) bs := by
    refine List.filter_eq_self.2 fun x inside => ?_
    have low : x.1 < 0x180 := (small x inside).trans (by decide)
    simp [mailArea, low]
  have stored : (List.zip (List.range bs.length) bs).foldl (fun (x : State) p => x.wrBytes (mailboxBase + p.1) [p.2]) s =
      s.mailed bs := by
    rw [List.range_eq_range']
    exact State.foldl_wrBytes mailboxBase bs s 0
  have all : (List.range 256).all (List.range 256).contains = true :=
    List.all_eq_true.2 fun x inside => List.contains_iff_mem.2 inside
  have beat (n : Nat) : (List.range 256).any (fun a => a / 64 == 4 + n) = false := by
    refine List.any_eq_false.2 fun x inside => ?_
    have := List.mem_range.1 inside
    rw [beq_iff_eq]
    omega
  unfold State.mailboxStore
  dsimp only
  rw [zip_range_some, if_pos peer, mine, offsets, stored, all, if_pos rfl, State.rdBytes_mailed s whole, if_pos ⟨peer, rfl⟩]
  simp only [List.foldl_cons, List.foldl_nil, beat, Bool.false_eq_true, if_false]

/-! ### The record as a packet (R264, R310) -/

/-- A packet is a pairing record of the twin: 256 bytes, the whole of the mailbox's record. -/
structure IsMail (s : State) (n : Fin 8) (p : Packet) : Prop where
  via : p.via = .fabric n
  peer : p.src.toNat = s.peer
  addr : p.addr.toNat % 2 ^ 48 = mailboxBase
  length : p.length = 4
  mask : p.mask = BitVec.allOnes 64
  data : p.data.length = 256
  grants : s.inboundGrants p.src.toNat mailboxBase 256 1 = true
  own : s.isCompanion p.dst.toNat = false
  free : s.lineWait.any (fun x => lineOf x.line == lineOf mailboxBase) = false

variable {n : Fin 8}

theorem IsMail.pktBytes (mail : IsMail s n p) : pktBytes p = 256 := by
  unfold Machine.pktBytes
  rw [mail.length]
  rfl

theorem IsMail.storedOf (mail : IsMail s n p) : storedOf p = (mailboxBase, p.data.map some) := by
  unfold Machine.storedOf
  dsimp only
  rw [if_pos mail.mask, mail.addr, mail.pktBytes, List.take_of_length_le mail.data.le]

theorem place_mailboxBase : place mailboxBase = .mailbox 0 := by decide

/-- The request of a pairing record stores it, acts on it and acknowledges it. -/
theorem IsMail.tryReq (mail : IsMail s n p) (since : Nat) :
    s.tryReq { kind := .store, pkt := p, line := mailboxBase, since := since } =
      (((s.mailed p.data).gotRecord p.src.toNat p.data).ackTo p, none) := by
  have sender : s.requester p = p.src.toNat := by
    unfold State.requester
    rw [mail.via]
  unfold State.tryReq
  dsimp only
  rw [place_mailboxBase]
  dsimp only
  rw [if_pos rfl, mail.storedOf, sender]
  dsimp only
  rw [Nat.zero_add, Nat.sub_self, State.mailboxStore_record mail.peer mail.data]

theorem IsMail.applyReq (mail : IsMail s n p) :
    s.applyReq .store p = ((s.mailed p.data).gotRecord p.src.toNat p.data).ackTo p := by
  rw [State.applyReq_fabric mail.via (fun get => by cases get) mail.own, mail.addr, mail.pktBytes]
  refine (if_pos mail.grants).trans ((if_neg (by decide)).trans ?_)
  exact State.startReq_of_try (by simpa using mail.free) (mail.tryReq _)

/-- A pairing record that is next in a stream that holds nothing is applied. -/
theorem IsMail.request (mail : IsMail s n p) (reaches : Reaches s p) (empty : (s.streamIn (inKey p)).held = [])
    (whole : (s.streamIn (inKey p)).skipped = []) (next : p.seq.toNat = (s.streamIn (inKey p)).next)
    (alone : s.unapplied (inKey p) = []) : s.request .store p =
      ((((((s.streamed .store p).mailed p.data).gotRecord p.src.toNat p.data).ackTo p).goOn).bufferFreed p 0x02) := by
  have small : (s.streamIn (inKey p)).next < 2 ^ 32 := next ▸ p.seq.isLt
  obtain ⟨-, -, offered⟩ := State.offerReq_next (k := .store) empty whole small (.inl ⟨n, mail.via, next, rfl⟩)
  have streamed : IsMail (s.streamed .store p) n p :=
    ⟨mail.via, mail.peer, mail.addr, mail.length, mail.mask, mail.data, mail.grants, mail.own, mail.free⟩
  rw [State.request, State.arrive_reaches reaches, offered, State.heldIn, State.pump_next empty whole next (.inr alone),
    streamed.applyReq]
  rfl

end Mailbox

section Records
variable {v : State} {src : Nat} {r : List Byte}

/-! ### Acting on a record (R311, R312, R317) -/

/-- Whether a record is of the attempt of the peer's OFFER. -/
def State.sameAttempt (v : State) (r : List Byte) : Bool :=
  match v.twin.offer with | some o => numAt o 8 4 == numAt r 8 4 | none => false

/-- Whether a module still waits to pair. -/
def State.toPair (v : State) : Bool := v.twinState == 0 || v.twinState == 4

/-- What a module does with a record of its attempt that is no OFFER. -/
def State.actOnRecord (v : State) (r : List Byte) : State :=
  if numAt r 4 1 = 2 then
    (if v.twinState = 1 then (v.onTwin (fun x => { x with peerEvidence := some (numAt r 96 4) })).handshake else v)
  else if numAt r 4 1 = 3 then (if v.twinState = 1 then (v.onTwin (fun x => { x with gotAccept := true })).handshake else v)
  else if v.toPair && (numAt r 4 1 == 4 || numAt r 4 1 == 6) then v.onTwin (fun x => { x with offer := none })
  else if numAt r 4 1 = 4 then (if v.twinState = 1 then v.endPairing (numAt r 12 2) else v)
  else if numAt r 4 1 = 5 then v.gotDetach (numAt r 88 8)
  else if numAt r 4 1 = 6 then v.gotRelease (numAt r 88 8) else v

theorem State.gotRecord_eq (v : State) (src : Nat) (r : List Byte) : v.gotRecord src r =
    if !recordGood r then v.rejectMail src mailboxBase
    else if numAt r 4 1 = 1 then
      (if v.toPair then v.onTwin (fun x => { x with offer := some r })
      else if v.twinState = 1 then (v.onTwin (fun x => { x with offer := some r })).handshake else v)
    else if !v.sameAttempt r then v else v.actOnRecord r := rfl

theorem State.gotRecord_bad (bad : recordGood r = false) : v.gotRecord src r = v.rejectMail src mailboxBase := by
  rw [State.gotRecord_eq, bad, Bool.not_false, if_pos rfl]

theorem State.gotRecord_offer (good : recordGood r = true) (offer : numAt r 4 1 = 1) : v.gotRecord src r =
    if v.toPair then v.onTwin (fun x => { x with offer := some r })
    else if v.twinState = 1 then (v.onTwin (fun x => { x with offer := some r })).handshake else v := by
  rw [State.gotRecord_eq, good, Bool.not_true, if_neg Bool.false_ne_true, if_pos offer]

theorem State.gotRecord_other (good : recordGood r = true) (other : numAt r 4 1 ≠ 1) :
    v.gotRecord src r = if v.sameAttempt r then v.actOnRecord r else v := by
  rw [State.gotRecord_eq, good, Bool.not_true, if_neg Bool.false_ne_true, if_neg other]
  cases v.sameAttempt r <;> rfl

theorem State.sameAttempt_of {o : List Byte} (kept : v.twin.offer = some o) (same : numAt o 8 4 = numAt r 8 4) :
    v.sameAttempt r = true := by
  unfold State.sameAttempt
  rw [kept]
  exact beq_iff_eq.2 same

theorem State.not_sameAttempt (old : ∀ o, v.twin.offer = some o → numAt o 8 4 ≠ numAt r 8 4) : v.sameAttempt r = false := by
  unfold State.sameAttempt
  split
  next o kept => exact beq_false_of_ne (old o kept)
  · rfl

theorem State.toPair_iff : v.toPair = true ↔ v.twinState = 0 ∨ v.twinState = 4 := by
  simp [State.toPair]

theorem State.toPair_eq_false (zero : v.twinState ≠ 0) (four : v.twinState ≠ 4) : v.toPair = false := by
  simp [State.toPair, zero, four]

theorem numAt_kind_ge (good : recordGood r = true) : 1 ≤ numAt r 4 1 := by
  unfold recordGood at good
  simp only [Bool.and_eq_true, decide_eq_true_eq] at good
  obtain ⟨⟨⟨⟨-, low⟩, -⟩, -⟩, -⟩ := good
  exact low

theorem State.gotDetach_paired (paired : v.twinState = 2) (step : Nat) : (v.gotDetach step).dv 0x600100 = 3 ∧
    (v.gotDetach step).twin = { v.twin with detachGot := true, detachAt := some v.now } := by
  have frozen := onlyChanges_freezeNegative v step false true
  unfold State.gotDetach
  rw [if_pos paired]
  refine ⟨by rw [State.dv_onTwin, State.dv_setDv_same], ?_⟩
  exact congrArg (fun t : Twin => { t with detachGot := true, detachAt := some v.now }) (frozen .twin (by decide))

theorem State.gotRelease_detaching (detaching : v.twinState = 3) (sent : v.twin.detachSent = true) (step : Nat) :
    (v.gotRelease step).dv 0x600100 = 0 := by
  unfold State.gotRelease
  rw [if_pos ⟨detaching, sent⟩]
  exact State.dv_unpair _

end Records

/-- Settles O49: a record of the twin is stored, acted on and acknowledged; one that breaks the layout is recorded (log entry 152). An
OFFER is kept while the module waits to pair (83). -/
theorem pairingRecordsAreTaken : Obligations.PairingRecordsAreTaken := by
  unfold Obligations.PairingRecordsAreTaken
  refine ⟨fun s s0 p e k t n which reaches via peer addr length mask data kind grants own free empty whole next alone => ?stored,
    fun v src r => ⟨State.gotRecord_bad, fun good => ⟨fun offer => ?offer, fun other => ⟨fun old => ?old, fun o kept same => ?same⟩⟩⟩⟩
  case stored =>
    have moved : s0 = s ∨ s0 = s.tick t := by tauto
    have goes : exec e s = .next (s0.request .store { p with flag := true }) := by
      obtain ⟨rfl, rfl, rfl⟩ | ⟨rfl, rfl, rfl⟩ | ⟨rfl, rfl, rfl⟩ | ⟨rfl, rfl, rfl⟩ | ⟨rfl, rfl, rfl⟩ | ⟨rfl, rfl, rfl⟩ := which
      all_goals exact congrArg Host.Outcome.next (if_pos kind)
    have mail : IsMail s0 n { p with flag := true } := by
      obtain rfl | rfl := moved <;> exact ⟨via, peer, addr, length, mask, data, grants, own, free⟩
    have reaches : Reaches s0 { p with flag := true } := by
      obtain rfl | rfl := moved <;> exact reaches
    have stream : s0.streamIn (inKey p) = s.streamIn (inKey p) := by
      obtain rfl | rfl := moved <;> rfl
    rw [← stream] at empty whole next
    refine ⟨s0.streamed .store { p with flag := true }, _, onlyChanges_streamed s0 _ _, ?_, onlyChanges_wrBytes p.data _ mailboxBase,
      goes.trans (congrArg Host.Outcome.next (mail.request reaches empty whole next alone))⟩
    rw [← stream]
    exact congrArg StreamIn.next (State.streamIn_streamed (p := { p with flag := true }) empty)
  case offer =>
    rw [State.gotRecord_offer good offer]
    refine ⟨fun waits => if_pos (State.toPair_iff.2 waits), fun pairing => ?_, fun zero one four => ?_⟩
    · rw [State.toPair_eq_false (by omega) (by omega), if_neg Bool.false_ne_true, if_pos pairing]
    · rw [State.toPair_eq_false zero four, if_neg Bool.false_ne_true, if_neg one]
  case old => rw [State.gotRecord_other good other, State.not_sameAttempt old, if_neg Bool.false_ne_true]
  case same =>
    have low := numAt_kind_ge good
    rw [State.gotRecord_other good other, State.sameAttempt_of kept same, if_pos rfl, State.actOnRecord]
    refine ⟨fun evidence pairing => ?_, fun accept pairing => ?_, fun refuse pairing => ?_, fun early idle => ?_, fun ends waits => ?_,
      fun refuse zero one four => ?_, fun detach paired => ?_, fun release detaching sent => ?_⟩
    · rw [if_pos evidence, if_pos pairing]
    · rw [if_neg (by omega), if_pos accept, if_pos pairing]
    · rw [if_neg (by omega), if_neg (by omega), State.toPair_eq_false (by omega) (by omega), Bool.false_and, if_neg Bool.false_ne_true,
        if_pos refuse, if_pos pairing]
      exact State.dv_endPairing v _
    · by_cases evidence : numAt r 4 1 = 2
      · rw [if_pos evidence, if_neg idle]
      · rw [if_neg evidence, if_pos (by omega), if_neg idle]
    · have kind : (numAt r 4 1 == 4 || numAt r 4 1 == 6) = true := by simpa using ends
      rw [if_neg (by omega), if_neg (by omega), State.toPair_iff.2 waits, kind, Bool.and_self, if_pos rfl]
    · rw [if_neg (by omega), if_neg (by omega), State.toPair_eq_false zero four, Bool.false_and, if_neg Bool.false_ne_true,
        if_pos refuse, if_neg one]
    · rw [if_neg (by omega), if_neg (by omega), State.toPair_eq_false (by omega) (by omega), Bool.false_and, if_neg Bool.false_ne_true,
        if_neg (by omega), if_pos detach]
      exact State.gotDetach_paired paired _
    · rw [if_neg (by omega), if_neg (by omega), State.toPair_eq_false (by omega) (by omega), Bool.false_and, if_neg Bool.false_ne_true,
        if_neg (by omega), if_neg (by omega), if_pos release]
      exact State.gotRelease_detaching detaching sent _

end Sys2Proof.Machine

/-! Scope of the block: the Traek link's flits, training and loss, the edge gateway, the node ID and the counter banks (O45). -/

namespace Sys2Proof.Machine

section Traek
variable {s : State}

theorem State.traek_frame {u : State} {fs : List Field} (frame : OnlyChanges fs s u) (outside : Field.traek ∉ fs := by decide) :
    u.traek = s.traek :=
  frame .traek outside

/-! ### Flits (R295, R296) -/

/-- The state in which the corrected symbols of a Traek flit are counted, per lane. -/
def State.traekCounted (s : State) (corrected : List Nat) : State :=
  corrected.foldl (fun x i => x.bump (0x503201 + traekLane s.traek i) 1) s

theorem onlyChanges_traekCounted (s : State) (corrected : List Nat) : OnlyChanges [.dict] s (s.traekCounted corrected) :=
  OnlyChanges.foldl (fun v _ => onlyChanges_bump v _ _) s corrected

/-- The state in which the link control `w` of a flit is noted: acknowledged flits are freed, credit is returned. -/
def State.traekControlled (s : State) (w : Nat) : State :=
  s.onTraek (fun t => { t with
    retry := afterAck (w / 2 ^ 10 % 1024) t.retry, credits := moreCredit traekCredits t.credits (w / 2 ^ 21 % 4) (w / 2 ^ 23) })

/-- What goes once the link control `w` is noted: after a NAK the flits that are not acknowledged, then what waited. -/
def State.traekAnswered (s : State) (w : Nat) : State :=
  (if w.testBit 20 then s.traekResend.bump 0x503300 1 else s).traekGoes

/-- The state in which the link has received the flit `n` in sequence. -/
def State.traekSequenced (s : State) (n : BitVec 10) : State := s.onTraek (fun t => { t with rxSeq := n })

theorem State.traekFlit_eq {flit : List Byte} {c : List Nat × List Byte} {w : Nat} (corrected : c = flitCorrect (flitBytes 276 flit))
    (word : w = numAt c.2 256 4) : s.traekFlit flit =
      if crc32 (c.2.take 260) ≠ numAt c.2 260 4 then (s.traekCounted c.1).traekIdle true
      else if BitVec.ofNat 10 w = (s.traekCounted c.1).traek.rxSeq + 1 then
        (if (c.2.take 256).all (· == 0) ∧ (s.traekCounted c.1).traek.rxLeft = 0 then
          (((s.traekCounted c.1).traekControlled w).traekAnswered w).traekSequenced (BitVec.ofNat 10 w)
        else (((((s.traekCounted c.1).traekControlled w).traekAnswered w).traekSequenced (BitVec.ofNat 10 w)).traekIdle false).traekPayload
          (c.2.take 256))
      else ((s.traekCounted c.1).traekControlled w).traekAnswered w := by
  subst corrected word
  rfl

theorem exec_traekFlitReceive (flit : List Byte) (s : State) :
    exec (.traekFlitReceive flit) s = .next (if s.traek.state = 2 then s.traekFlit flit else s) := rfl

/-! ### Training (R297) -/

/-- The state in which a call of the link's region has gone out and the link's record is changed. -/
def State.linkCalled (s : State) (f : Traek → Traek) : State := (s.callRegion 46).onTraek f

theorem onlyChanges_linkCalled (s : State) (f : Traek → Traek) : OnlyChanges [.traek, .regions] s (s.linkCalled f) :=
  ((onlyChanges_callRegion (by decide) s).mono (by decide)).trans ((onlyChanges_onTraek _ f).mono (by decide))

theorem State.traek_linkCalled (s : State) (f : Traek → Traek) : (s.linkCalled f).traek = f s.traek :=
  congrArg f (State.traek_frame (onlyChanges_callRegion (by decide) s))

theorem exec_traekTraining (w : Nat) (half : Bool) (g : Nat) (s : State) : exec (.traekTraining w half g) s =
    .next (if s.traek.state = 2 ∨ s.traek.state = 3 ∨ s.traek.released = false ∨ (s.region 46).power = 3 then s
      else if s.traek.state = 0 then s.linkCalled (fun t => { t with state := 1 }) else s.traekTrained w half g) := rfl

/-- Training begins at a DOWN link that is released and lit, and has its outcome at one that trains. -/
theorem exec_traekTraining_lit (up : s.traek.state ≠ 2) (retrains : s.traek.state ≠ 3) (released : s.traek.released = true)
    (lit : (s.region 46).power ≠ 3) (w : Nat) (half : Bool) (g : Nat) : exec (.traekTraining w half g) s =
    .next (if s.traek.state = 0 then s.linkCalled (fun t => { t with state := 1 }) else s.traekTrained w half g) := by
  rw [exec_traekTraining, if_neg (by simp [up, retrains, released, lit])]

/-- The link as it takes a combination. -/
def Traek.taken (t : Traek) (w : Nat) (half : Bool) (g : Nat) : Traek :=
  { t with state := 2, width := w, half := half, group := g, exclude := none }

theorem State.traekTake_spec (s : State) (w : Nat) (half : Bool) (g : Nat) :
    OnlyChanges [.traek, .regions] s (s.traekTake w half g) ∧ (s.traekTake w half g).traek = s.traek.taken w half g :=
  ⟨((onlyChanges_callRegion (by decide) s).mono (by decide)).trans
    ((onlyChanges_onTraek (s.callRegion 46) (fun _ => s.traek.taken w half g)).mono (by decide)), rfl⟩

/-- The link as it comes up from DOWN: fresh sequence numbers, and credit for all of the partner's buffers. -/
def Traek.fresh (t : Traek) : Traek :=
  { t with txSeq := 0, rxSeq := 1023, rxLeft := 0, retry := [], waiting := [], owed := [], credits := traekCredits }

theorem State.traekTrained_eq (s : State) (w : Nat) (half : Bool) (g : Nat) : s.traekTrained w half g =
    if s.traekAllowed w g then (s.linkCalled Traek.fresh).traekTake w half g else s.traekDown := rfl

theorem exec_traekRetrainDone (w : Nat) (half : Bool) (g : Nat) (s : State) : exec (.traekRetrainDone w half g) s =
    .next (if s.traek.state ≠ 3 then s
      else if s.traekAllowed w g then ((s.traekTake w half g).traekResend).traekGoes else s.traekDown) := rfl

/-! ### Retrains and loss (R298, R299) -/

/-- The link as a retrain begins that excludes a lane or none. -/
def Traek.retrained (t : Traek) (out : Option Nat) : Traek := { t with state := 3, retrains := t.retrains + 1, exclude := out }

/-- A retrain that begins is recorded, its traffic held. -/
theorem State.traekRetrain_spec (s : State) (lane : Nat) (out : Option Nat) :
    OnlyChanges [.traek, .dict, .log, .logSeq, .mgmt] s (s.traekRetrain lane out) ∧
    (s.traekRetrain lane out).traek = s.traek.retrained out := by
  have recorded : OnlyChanges recordFields (s.onTraek (fun t => t.retrained out)) (s.traekRetrain lane out) := recordFrame_record _ _
  exact ⟨((onlyChanges_onTraek s _).mono (by decide)).trans (recorded.mono (by decide)), State.traek_frame recorded⟩

theorem exec_traekLaneRetrain (k : Fin 16) (rate : Bool) (s : State) : exec (.traekLaneRetrain k rate) s =
    .next (if s.traek.state = 2 ∧ s.traekHas k = true then s.traekRetrain k (some k.val) else s) := rfl

/-- The link as it is taken down. -/
def Traek.down (t : Traek) : Traek := { state := 0, retrains := t.retrains, released := t.released }

theorem State.traekDown_eq (s : State) : s.traekDown =
    ((((s.onTraek Traek.down).traekRecord 0xFF).failHost).dropCompanion).retryLines.goOn := rfl

/-! ### The write of 0x5036:00 -/

theorem State.traek_renewHold (s : State) (m : Master) : (s.renewHold m).traek = s.traek :=
  State.traek_frame (onlyChanges_renewHold s m)

section Commands
variable {m : Master}

theorem exec_traekCommandRetrain (may : MayWrite s m 0x503600 4) : exec (.traekCommandRetrain m) s =
    .next ((if s.traek.state = 2 then (s.renewHold m).traekRetrain 0xFF none else s.renewHold m).written m 0x503600 1) := by
  have done : refusedStatus St.ok = false := by decide
  have write : (s.renewHold m).traekCommand 1 =
      (if s.traek.state = 2 then (s.renewHold m).traekRetrain 0xFF none else s.renewHold m, St.ok) := by
    unfold State.traekCommand
    rw [State.traek_renewHold, if_neg (by decide), if_neg (by decide)]
    split
    next up => rw [if_pos up.2]
    next idle => rw [if_neg fun up => idle ⟨by decide, up⟩]
  change Host.Outcome.next (s.masterWrite m 0x503600 4 1 (fun s => s.traekCommand 1)).1 = _
  rw [State.masterWrite_may may (by rw [write]; exact done), write]

theorem exec_traekCommandDown (may : MayWrite s m 0x503600 4) : exec (.traekCommandDown m) s =
    .next ((if s.traek.state = 0 then s.renewHold m else (s.renewHold m).traekDown).written m 0x503600 2) := by
  have done : refusedStatus St.ok = false := by decide
  have write : (s.renewHold m).traekCommand 2 =
      (if s.traek.state = 0 then s.renewHold m else (s.renewHold m).traekDown, St.ok) := by
    unfold State.traekCommand
    rw [State.traek_renewHold, if_neg (by decide), if_pos (by decide)]
  change Host.Outcome.next (s.masterWrite m 0x503600 4 2 (fun s => s.traekCommand 2)).1 = _
  rw [State.masterWrite_may may (by rw [write]; exact done), write]

end Commands
end Traek

section Gateway
variable {s : State} {p : Nat}

/-! ### The edge gateway (R276) -/

/-- The state in which a source's store has left those that wait for room in the gateway. -/
def State.storeTaken (s : State) (p src : Nat) (g : Segment) : State :=
  s.onPort p (fun r => { r with gatewayWait := r.gatewayWait.erase g, gatewayLast := src })

/-- The same with the wait counted of a store; what is not gathered has no bytes there. -/
def State.gatewayTaken (s : State) (p src : Nat) (g : Segment) : State :=
  if g.bytes = 0 then s.storeTaken p src g else (s.storeTaken p src g).surge (0x500D01 + p) g.since

theorem onlyChanges_gatewayTaken (s : State) (p src : Nat) (g : Segment) : OnlyChanges [.dict, .ports] s (s.gatewayTaken p src g) := by
  have taken : OnlyChanges [.dict, .ports] s (s.storeTaken p src g) := (onlyChanges_onPort s p _).mono (by decide)
  exact .ite taken (taken.next (onlyChanges_surge _ _ _))

theorem State.port_gatewayTaken (s : State) (p src : Nat) (g : Segment) : (s.gatewayTaken p src g).port p =
    { s.port p with gatewayWait := (s.port p).gatewayWait.erase g, gatewayLast := src } := by
  have taken : (s.storeTaken p src g).port p = _ := State.port_onPort_same s p _
  unfold State.gatewayTaken
  split
  · exact taken
  · exact (State.port_frame (onlyChanges_surge _ _ _) (by decide) p).trans taken

theorem State.dv_gatewayTaken {g : Segment} (some' : g.bytes ≠ 0) (s : State) (p src : Nat) : (s.gatewayTaken p src g).dv (0x500D01 + p) =
    (s.dv (0x500D01 + p) + (s.now - g.since)) % 256 ^ entrySize (0x500D01 + p) := by
  unfold State.gatewayTaken
  rw [if_neg some']
  exact State.dv_setDv_same _ _ _

theorem roundRobin_nil (last : Nat) : roundRobin last [] = none := rfl

theorem State.admitGateway_none (none : (s.port p).gatewayWait = []) : s.admitGateway p = s := by
  unfold State.admitGateway
  dsimp only
  rw [none, List.map_nil, roundRobin_nil]

theorem State.admitGateway_next {src : Nat} {g : Segment}
    (turn : roundRobin (s.port p).gatewayLast ((s.port p).gatewayWait.map (·.source)) = some src)
    (oldest : (s.port p).gatewayWait.find? (fun g => g.source == src) = some g) : s.admitGateway p =
      if 0x100000 < (s.port p).gatewayBytes + g.bytes then s
      else g.parts.foldl (fun x q => if q.ask.gathers then x.placeGateway p g.node g.source q else x.askBeyond p g.node q.ask)
        (s.gatewayTaken p src g) := by
  unfold State.admitGateway
  dsimp only
  rw [turn]
  dsimp only
  rw [oldest]
  rfl

theorem exec_gatewayAdmit (p : Fin 8) (t : Nat) (s : State) : exec (.gatewayAdmit p t) s = .next ((s.tick t).admitGateway p) := rfl

end Gateway

section NodeId
variable {s : State} {m : Master} {n : BitVec 16}

/-! ### The node ID (R259) -/

theorem exec_nodeIdWrite_open (may : MayWrite s m 0x500100 2) (busy : (s.renewHold m).streamOpen = true) :
    exec (.nodeIdWrite m n) s = .next (s.renewHold m) := by
  have refused : refusedStatus St.fabricBusy = true := by decide
  have write : (s.renewHold m).nodeWrite n.toNat = (s.renewHold m, St.fabricBusy) := if_pos busy
  change Host.Outcome.next (s.masterWrite m 0x500100 2 n.toNat (fun s => s.nodeWrite n.toNat)).1 = _
  rw [State.masterWrite_refused may (by rw [write]; exact refused), write]

theorem exec_nodeIdWrite_closed (may : MayWrite s m 0x500100 2) (closed : (s.renewHold m).streamOpen = false) :
    exec (.nodeIdWrite m n) s = .next (((s.renewHold m).setDv 0x500100 n.toNat).written m 0x500100 n.toNat) := by
  have done : refusedStatus St.ok = false := by decide
  have write : (s.renewHold m).nodeWrite n.toNat = ((s.renewHold m).setDv 0x500100 n.toNat, St.ok) :=
    if_neg (ne_true_of_eq_false closed)
  change Host.Outcome.next (s.masterWrite m 0x500100 2 n.toNat (fun s => s.nodeWrite n.toNat)).1 = _
  rw [State.masterWrite_may may (by rw [write]; exact done), write]

end NodeId

section Banks
variable {s : State} {b : Nat}

/-! ### Counter banks (R178) -/

/-- The updates that wait at a bank. -/
def State.atBank (s : State) (b : Nat) : List CtrUpdate := s.ingress.filter (fun u => u.counter / 256 == b)

theorem onlyChanges_applyUpdate (s : State) (x : CtrUpdate) : OnlyChanges [.counters] s (s.applyUpdate x) := by
  rw [State.applyUpdate_eq]
  intro f outside
  cases f
  case counters => exact absurd List.mem_cons_self outside
  all_goals rfl

/-- The state in which an update no longer waits at its bank, whose next turn comes a cycle later. -/
def State.bankTurned (s : State) (b src : Nat) (x : CtrUpdate) : State :=
  { s with ingress := s.ingress.erase x, bankLast := put 0 s.bankLast b src, bankAt := put 0 s.bankAt b (s.now + 1) }

theorem onlyChanges_bankTurned (s : State) (b src : Nat) (x : CtrUpdate) :
    OnlyChanges [.ingress, .bankLast, .bankAt] s (s.bankTurned b src x) := by
  intro f outside
  cases f
  case ingress | bankLast | bankAt => exact absurd (by decide) outside
  all_goals rfl

/-- The state in which an update is applied, its wait counted, and its bank has had its turn. -/
def State.bankApplied (s : State) (b src : Nat) (x : CtrUpdate) : State :=
  ((s.applyUpdate x).surge 0xA04900 x.since).bankTurned b src x

theorem State.bankUpdate_none (none : s.atBank b = []) : s.bankUpdate b = s := by
  unfold State.atBank at none
  unfold State.bankUpdate
  dsimp only
  rw [none, List.map_nil, roundRobin_nil]

theorem State.bankUpdate_next {src : Nat} {x : CtrUpdate} (turn : roundRobin (look 0 s.bankLast b) ((s.atBank b).map (·.source)) = some src)
    (oldest : (s.atBank b).find? (fun u => u.source == src) = some x) : s.bankUpdate b = (s.bankApplied b src x).settled := by
  unfold State.atBank at turn oldest
  unfold State.bankUpdate
  dsimp only
  rw [turn]
  dsimp only
  rw [oldest]
  rfl

theorem exec_counterUpdate (b : Fin 16) (t : Nat) (s : State) : exec (.counterUpdate b t) s = .next ((s.tick t).bankUpdate b) := rfl

theorem onlyChanges_bankApplied (s : State) (b src : Nat) (x : CtrUpdate) :
    OnlyChanges [.dict, .counters, .ingress, .bankLast, .bankAt] s (s.bankApplied b src x) :=
  (((onlyChanges_applyUpdate s x).mono (by decide)).next (onlyChanges_surge _ _ _)).next (onlyChanges_bankTurned _ _ _ _)

theorem State.ingress_bankApplied (s : State) (b src : Nat) (x : CtrUpdate) : (s.bankApplied b src x).ingress = s.ingress.erase x :=
  congrArg (fun xs : List CtrUpdate => xs.erase x) (onlyChanges_applyUpdate s x .ingress (by decide))

theorem State.bankLast_bankApplied (s : State) (b src : Nat) (x : CtrUpdate) : look 0 (s.bankApplied b src x).bankLast b = src :=
  look_put_same _ _ _ _

theorem State.dv_bankApplied (s : State) (b src : Nat) (x : CtrUpdate) : (s.bankApplied b src x).dv 0xA04900 =
    (s.dv 0xA04900 + (s.now - x.since)) % 256 ^ entrySize 0xA04900 := by
  have applied := onlyChanges_applyUpdate s x
  refine (State.dv_setDv_same _ _ _).trans ?_
  rw [applied.dv (by decide), applied.now]

end Banks

/-- Settles O45: what each event of the Traek link, the gateway, the node ID and the banks leaves. The link comes up with the partner's
buffers free (log entry 40), an idle flit is one whose payload is zero (150), and a training takes two rows (176). -/
theorem traekGatewayAndBankEventsComplete : Obligations.TraekGatewayAndBankEventsComplete := by
  unfold Obligations.TraekGatewayAndBankEventsComplete
  intro s
  refine ⟨fun flit => ⟨fun idle => ?quiet, fun c w corrected word up => ?flit⟩, fun w half g => ⟨fun stays => ?stays,
      fun down released lit => ?begins, fun on up retrains released lit => ⟨fun allowed => ?rises, fun refused => ?fails⟩,
      fun steady => ?steady, fun retrains allowed => ?retrained, fun retrains refused => ?lost⟩,
    fun v e out ends which up => ?retrains, fun k rate beside => ?beside, ?down, fun t => rfl, fun m may => ⟨exec_traekCommandDown may,
      fun idle => ?idle⟩,
    fun p t v r now port => ⟨fun none => ?noStore, fun src g turn oldest => ⟨fun full => ?full, fun room => ?admitted⟩, ?flush⟩,
    fun m n may v now => ⟨fun busy => ?busy, fun closed => ?named⟩,
    fun b t v now => ⟨fun none => ?noUpdate, fun src x turn oldest => ?update⟩⟩
  case quiet => rw [exec_traekFlitReceive, if_neg idle]
  case flit =>
    have counted := onlyChanges_traekCounted s c.1
    have traek : (s.traekCounted c.1).traek = s.traek := State.traek_frame counted
    rw [exec_traekFlitReceive, if_pos up, State.traekFlit_eq corrected word, traek]
    refine ⟨s.traekCounted c.1, counted, fun broken => by rw [if_pos broken], fun whole => ⟨(s.traekCounted c.1).traekControlled w,
      ((s.traekCounted c.1).traekControlled w).traekAnswered w, onlyChanges_onTraek _ _, ?_, rfl, fun other => ?_, fun next => ?_⟩⟩
    · rw [← traek]
      rfl
    · rw [if_neg (not_not.2 whole), if_neg other]
    · rw [if_neg (not_not.2 whole), if_pos next, next]
      exact ⟨_, onlyChanges_onTraek _ _, rfl, rfl⟩
  case stays => rw [exec_traekTraining, if_pos stays]
  case begins =>
    rw [exec_traekTraining_lit (by omega) (by omega) released lit, if_pos down]
    exact ⟨_, rfl, onlyChanges_linkCalled s _, State.traek_linkCalled s _⟩
  case rises =>
    obtain ⟨frame, taken⟩ := (s.linkCalled Traek.fresh).traekTake_spec w half g
    rw [exec_traekTraining_lit up retrains released lit, if_neg on, State.traekTrained_eq, if_pos allowed]
    refine ⟨_, rfl, (onlyChanges_linkCalled s _).trans frame, ?_⟩
    rw [taken, State.traek_linkCalled]
    rfl
  case fails =>
    rw [exec_traekTraining_lit up retrains released lit, if_neg on, State.traekTrained_eq, if_neg (ne_true_of_eq_false refused)]
  case steady => rw [exec_traekRetrainDone, if_pos steady]
  case retrained =>
    obtain ⟨frame, taken⟩ := s.traekTake_spec w half g
    rw [exec_traekRetrainDone, if_neg (not_not.2 retrains), if_pos allowed]
    exact ⟨_, rfl, frame, taken⟩
  case lost => rw [exec_traekRetrainDone, if_neg (not_not.2 retrains), if_neg (ne_true_of_eq_false refused)]
  case retrains =>
    obtain ⟨k, rate, rfl, rfl, has, rfl, rfl⟩ | ⟨m, rfl, may, rfl, rfl, rfl⟩ := which
    · obtain ⟨frame, traek⟩ := v.traekRetrain_spec k (some k.val)
      rw [exec_traekLaneRetrain, if_pos ⟨up, has⟩]
      exact ⟨_, rfl, frame, traek⟩
    · obtain ⟨frame, traek⟩ := (s.renewHold m).traekRetrain_spec 0xFF none
      rw [exec_traekCommandRetrain may, if_pos up]
      refine ⟨_, rfl, frame, ?_⟩
      rw [traek, State.traek_renewHold]
      rfl
  case beside => rw [exec_traekLaneRetrain, if_neg fun goes => by simp [goes.1, goes.2] at beside]
  case down => exact ⟨s.onTraek Traek.down, onlyChanges_onTraek s _, rfl, s.traekDown_eq⟩
  case idle => rw [exec_traekCommandRetrain may, if_neg idle]
  case noStore =>
    subst now port
    rw [exec_gatewayAdmit, State.admitGateway_none none]
  case full =>
    subst now port
    rw [exec_gatewayAdmit, State.admitGateway_next turn oldest, if_pos full]
  case admitted =>
    subst now port
    rw [exec_gatewayAdmit, State.admitGateway_next turn oldest, if_neg (not_lt.2 room)]
    exact ⟨_, onlyChanges_gatewayTaken _ p src g, State.port_gatewayTaken _ p src g, fun some' => State.dv_gatewayTaken some' _ p src, rfl⟩
  case flush =>
    subst now port
    rfl
  case busy =>
    subst now
    exact exec_nodeIdWrite_open may busy
  case named =>
    subst now
    exact ⟨_, exec_nodeIdWrite_closed may closed, onlyChanges_setDv _ _ _, State.dv_setDv_same _ _ _⟩
  case noUpdate =>
    subst now
    rw [exec_counterUpdate, State.bankUpdate_none none]
  case update =>
    subst now
    rw [exec_counterUpdate, State.bankUpdate_next turn oldest]
    exact ⟨_, rfl, onlyChanges_bankApplied _ b src x, rfl, State.ingress_bankApplied _ b src x, State.bankLast_bankApplied _ b src x,
      State.dv_bankApplied _ b src x⟩

end Sys2Proof.Machine

/-! Scope of the block: the commands over the stop bath and the contact sheet (chapter 12): STOP_BATH, SHEET and RESTORE ask for a bath,
RELEASE lifts a hold, SHEET_ABORT ends a sheet. -/

namespace Sys2Proof.Machine

/-! ### What waited for the hold goes out (R276, R325) -/

section Hold
variable (s : State)

theorem netFrame_placeGateway (p dst source : Nat) (x : GwPart) : OnlyChanges netFields s (s.placeGateway p dst source x) := by
  unfold State.placeGateway
  dsimp only
  split
  · exact netFrame_onPort s p _
  split
  · exact (netFrame_shipGateway s p dst).trans (netFrame_onPort _ p _)
  split
  · exact (netFrame_onPort s p _).trans (netFrame_shipGateway _ p dst)
  · exact netFrame_onPort s p _

theorem netFrame_askBeyond (p dst : Nat) (a : Ask) : OnlyChanges netFields s (s.askBeyond p dst a) := by
  have shipped := netFrame_shipGateway s p dst
  unfold State.askBeyond
  dsimp only
  split
  · split
    · exact shipped.trans (netFrame_numbered _ _ _)
    · exact shipped.trans (netFrame_pushStream _ dst _)
  · exact shipped.trans (netFrame_pushStream _ dst a)

theorem netFrame_gatherGateway (p dst source : Nat) (a : Ask) : OnlyChanges netFields s (s.gatherGateway p dst source a) :=
  .ite (netFrame_onPort s p _) (.ite (netFrame_placeGateway s p dst source _) (netFrame_askBeyond s p dst a))

theorem netFrame_sendOn (dst source : Nat) (a : Ask) : OnlyChanges netFields s (s.sendOn dst source a) := by
  unfold State.sendOn
  split
  · exact .ite (netFrame_gatherGateway s _ dst source a) (netFrame_pushStream s dst a)
  · exact netFrame_pushStream s dst a

/-- The step state in which no hold stands and nothing waits for its release. -/
def StepState.released (x : StepState) : StepState := { x with hold := none, quiet := false, unsent := [] }

/-- The state in which no hold stands, before what it kept back goes out. -/
def State.unheld (s : State) : State := { s with step := s.step.released }

theorem onlyChanges_unheld : OnlyChanges [.step] s s.unheld := onlyChanges_step s _

/-- What a hold kept back for a node goes out. -/
def State.sendKept (s : State) (g : Segment) : State := g.parts.foldl (fun s x => s.sendOn g.node g.source x.ask) s

theorem State.liftHold_eq : s.liftHold = s.step.unsent.foldl State.sendKept s.unheld := rfl

theorem netFrame_sendKept (g : Segment) : OnlyChanges netFields s (s.sendKept g) :=
  netFrame_foldl s (fun v (x : GwPart) => netFrame_sendOn v g.node g.source x.ask) g.parts

theorem netFrame_liftHold : OnlyChanges netFields s.unheld s.liftHold := by
  rw [State.liftHold_eq]
  exact netFrame_foldl _ netFrame_sendKept _

/-- A hold that kept nothing back is lifted in the step state alone. -/
theorem State.liftHold_empty (empty : s.step.unsent = []) : s.liftHold = s.unheld := by
  rw [State.liftHold_eq, empty]
  rfl

/-- What RELEASE does: a hold that is kept behind its bath is lifted. -/
def State.holdReleased (s : State) : State := if s.step.bath.isNone then s.liftHold else s

theorem onlyChanges_holdReleased : OnlyChanges (.step :: netFields) s s.holdReleased :=
  .ite (((onlyChanges_unheld s).mono (by decide)).next (netFrame_liftHold s)) (OnlyChanges.refl _ s)

theorem State.step_holdReleased : s.holdReleased.step = if s.step.bath.isNone then s.step.released else s.step :=
  (apply_ite State.step _ _ _).trans (if_congr Iff.rfl (netFrame_liftHold s .step (by decide)) rfl)

/-- RELEASE sends nothing where nothing was kept back or a bath runs. -/
theorem onlyChanges_holdReleased_quiet (quiet : s.step.unsent = [] ∨ s.step.bath.isSome = true) :
    OnlyChanges [.step] s s.holdReleased := by
  unfold State.holdReleased
  split
  next idle =>
    have empty : s.step.unsent = [] := quiet.resolve_right fun runs => by
      rw [Option.isNone_iff_eq_none.1 idle] at runs
      cases runs
    rw [s.liftHold_empty empty]
    exact onlyChanges_unheld s
  · exact OnlyChanges.refl _ s

/-- SHEET_ABORT with no sheet running, nor one in its bath, ends nothing. -/
theorem State.abortSheet_idle (noSheet : s.step.sheet = none) (noBath : ∀ b, s.step.bath = some b → b.purpose ≠ 1) :
    s.abortSheet = s := by
  have nothing : s.sheetFails St.sheetAborted true = s := by rw [State.sheetFails, noSheet]
  unfold State.abortSheet
  rw [nothing]
  dsimp only
  split
  next b runs => exact if_neg (noBath b runs)
  · rfl

end Hold

/-! ### A bath that is asked for (R326) -/

section Asked
variable {s : State} {b : Bath}

/-- A bath waits behind those that wait. -/
def State.bathAsked (s : State) (b : Bath) : State := { s with step := { s.step with bathWait := s.step.bathWait ++ [b] } }

/-- The state in which no bath waits. -/
def State.noneWaits (s : State) : State := { s with step := { s.step with bathWait := [] } }

/-- The state in which a bath holds in its stage 1. -/
def State.bathHeld (s : State) (b : Bath) : State :=
  { s with step := { s.step with
      hold := some b.q,
      bath := some { b with
        stage := 1, since := s.now, boundary := s.bathBoundary b, slot := if b.purpose = 1 then some s.nextSlot else none } } }

/-- While a bath runs no other begins. -/
theorem State.nextBath_running (runs : s.step.bath.isSome = true) : s.nextBath = s := by
  have busy : s.step.bath.isNone = false := by rw [Option.isNone_eq_false_iff]; exact runs
  exact List.foldl_fixed' (fun b => by rw [busy, Bool.false_and]; rfl) _

/-- Where one bath alone waits, it begins if no other runs and it is due. -/
theorem State.nextBath_single (alone : s.step.bathWait = [b]) :
    s.nextBath = if s.step.bath.isNone && s.bathDue b then s.holdBath b else s := by
  unfold State.nextBath
  rw [alone]
  rfl

theorem State.askBath_waits (waits : s.step.bath.isSome = true ∨ s.step.bathWait = [] ∧ s.bathDue b = false) :
    s.askBath b = s.bathAsked b := by
  obtain runs | ⟨alone, early⟩ := waits
  · exact State.nextBath_running (s := s.bathAsked b) runs
  · refine (State.nextBath_single (s := s.bathAsked b) (b := b) (by simp [State.bathAsked, alone])).trans (if_neg ?_)
    have early' : (s.bathAsked b).bathDue b = false := early
    rw [early', Bool.and_false]
    exact Bool.false_ne_true

/-- A RESTORE ends a running sheet as it begins to hold (R339). -/
def State.sheetGivesWay (s : State) (b : Bath) : State := if b.purpose = 2 then s.sheetFails St.sheetAborted true else s

theorem State.holdBath_notSheet (notSheet : b.purpose ≠ 1) : s.holdBath b = ((s.unwait b).sheetGivesWay b).bathHeld b :=
  (if_neg fun sheet => notSheet sheet.1).trans (if_neg fun sheet => notSheet sheet.1)

theorem State.sheetGivesWay_none (noSheet : s.step.sheet = none) : s.sheetGivesWay b = s := by
  rw [State.sheetGivesWay, State.sheetFails, noSheet]
  exact ite_self s

/-- Where no sheet runs, a STOP_BATH, a RESTORE or a detach holds at once when it is due and no bath runs or waits. -/
theorem State.askBath_holds (free : s.step.bath = none) (alone : s.step.bathWait = []) (due : s.bathDue b = true)
    (notSheet : b.purpose ≠ 1) (noSheet : s.step.sheet = none) : s.askBath b = s.noneWaits.bathHeld b := by
  have begins : ((s.bathAsked b).step.bath.isNone && (s.bathAsked b).bathDue b) = true :=
    Bool.and_eq_true_iff.2 ⟨Option.isNone_iff_eq_none.2 free, due⟩
  have left : (s.bathAsked b).unwait b = s.noneWaits := by simp [State.unwait, State.bathAsked, State.noneWaits, alone]
  have unaborted : s.noneWaits.sheetGivesWay b = s.noneWaits := State.sheetGivesWay_none noSheet
  refine (State.nextBath_single (s := s.bathAsked b) (b := b) (by simp [State.bathAsked, alone])).trans ((if_pos begins).trans ?_)
  rw [State.holdBath_notSheet notSheet, left, unaborted]

end Asked

/-! ### A snapshot command starts (R326 to R328, R333) -/

section Starts
variable {s v : State} {q : Nat} {l : ListRun} {c : Line}

/-- R335: a SHEET has started. -/
def State.sheetNoted (s : State) : State := { s with step := { s.step with sheetSeen := true } }

/-- R328: SHEET records its set in 0x601F:00. -/
def State.setRecorded (s : State) (c : Line) : State :=
  (s.setDv 0x601F00 (fld c 8 8 + fld c 16 4 * 2 ^ 64 + fld c 25 1 * 2 ^ 96)).sheetNoted

/-- The state in which a snapshot command with a purpose starts. -/
def State.beginning (s : State) (purpose : Nat) (c : Line) : State := if purpose = 1 then s.setRecorded c else s

theorem State.beginning_sheet (s : State) (c : Line) : s.beginning 1 c = s.setRecorded c := if_pos rfl

/-- The bath that a snapshot command asks for. -/
def State.bathOf (s : State) (q purpose : Nat) (immediate mirror keep : Bool) : Bath :=
  { q := q, id := (s.queue q).serial + 1, purpose := purpose, tag := if immediate then none else some (s.dv 0xA03200),
    mirror := mirror, keep := keep, stage := 0, since := s.now, boundary := 0 }

/-- A snapshot command has entered its queue's started commands; its bath is not yet asked for. -/
def State.snapshotEntered (s : State) (q : Nat) (l : ListRun) (c : Line) (source : SourceRead) : State :=
  s.enter q { s.asStarted q l c with work := .snapshot source }

theorem State.startBath_eq (purpose : Nat) (immediate mirror keep : Bool) (source : SourceRead) :
    s.startBath q l c purpose immediate mirror keep source =
      if purpose = 1 then (s.snapshotEntered q l c source).askSheet (s.bathOf q purpose immediate mirror keep)
      else (s.snapshotEntered q l c source).askBath (s.bathOf q purpose immediate mirror keep) := rfl

theorem firstFail_none {fs : List (Option Fail)} (passes : ∀ f ∈ fs, f = none) : firstFail fs = none := by
  induction fs with
  | nil => rfl
  | cons f fs ih =>
    obtain ⟨rfl, rest⟩ := List.forall_mem_cons.1 passes
    exact ih rest

theorem Takes.exec_stopBath {q : Fin 256} (taken : Takes s q l c [] []) (header : s.headerFail q c bathReserved = none)
    (step : s.bathFail (bitAt c 12 0) true (fld c 8 4) 8 = none) : exec (.stopBath q c) s =
      .next (s.startBath q l c 0 (bitAt c 12 0) (bitAt c 12 1) (bitAt c 12 2) { bytes := [] }) :=
  congrArg Host.Outcome.next (taken.take_go (firstFail_none (by simp [header, step])))

theorem Takes.exec_sheet {q : Fin 256} (taken : Takes s q l c [] []) (header : s.headerFail q c sheetReserved = none)
    (step : s.bathFail (bitAt c 24 0) true (fld c 20 4) 20 = none) (set : s.sheetFail (fld c 8 8) (fld c 16 4) = none) :
    exec (.sheet q c) s =
      .next ((s.setRecorded c).startBath q l c 1 (bitAt c 24 0) (bitAt c 24 1) false { bytes := [] }) :=
  congrArg Host.Outcome.next (taken.take_go (firstFail_none (by simp [header, step, set])))

theorem Takes.exec_restore {q : Fin 256} (taken : Takes s q l c [] []) (source : SourceRead)
    (header : s.headerFail q c restoreReserved = none) (kind : bitsAt c 20 0 2 ≠ 3) (step : s.bathFail true false 0 24 = none)
    (set : bitsAt c 20 0 2 = 2 ∨ s.setFail (fld c 8 8) (fld c 16 4) false = none) (reach : s.storeReach c = none) :
    exec (.restore q c source) s = .next (s.startBath q l c 2 true false true source) := by
  have sound : (if bitsAt c 20 0 2 = 2 then none else s.setFail (fld c 8 8) (fld c 16 4) false) = none := by
    obtain negative | sound := set
    · exact if_pos negative
    · rw [sound, ite_self]
  exact congrArg Host.Outcome.next (taken.take_go (firstFail_none (by simp [header, failIf, kind, step, sound, reach])))

theorem Takes.exec_release {q : Fin 256} (taken : Takes s q l c [] []) (header : s.headerFail q c [(8, 0, 448)] = none)
    (room : HasRoom s q c 0) : exec (.release q c) s = .next ((s.passed q l c).holdReleased.completed s q l c .ok).goOnCol :=
  congrArg Host.Outcome.next ((taken.take_go header).trans
    (congrArg State.goOnCol (State.atOnce_room (f := .ok) room State.holdReleased)))

theorem Takes.exec_sheetAbort {q : Fin 256} (taken : Takes s q l c [] []) (header : s.headerFail q c [(8, 0, 448)] = none)
    (room : HasRoom s q c 0) : exec (.sheetAbort q c) s = .next ((s.passed q l c).abortSheet.completed s q l c .ok) :=
  congrArg Host.Outcome.next ((taken.take_go header).trans (State.atOnce_room (f := .ok) room State.abortSheet))

/-! What the start leaves -/

theorem onlyChanges_setRecorded (c : Line) : OnlyChanges [.dict, .step] s (s.setRecorded c) :=
  ((onlyChanges_setDv s _ _).mono (by decide)).next (onlyChanges_step _ _)

theorem State.step_setRecorded (c : Line) : (s.setRecorded c).step = { s.step with sheetSeen := true } :=
  congrArg (fun x : StepState => { x with sheetSeen := true }) (onlyChanges_setDv s _ _ .step (by decide))

theorem State.dv_setRecorded (c : Line) (key : Nat) : (s.setRecorded c).dv key =
    if key = 0x601F00 then fld c 8 8 + fld c 16 4 * 2 ^ 64 + fld c 25 1 * 2 ^ 96 else s.dv key :=
  ((onlyChanges_step (s.setDv _ _) _).dv (by decide) key).trans (s.dv_setDv _ _ key)

theorem onlyChanges_beginning (p : Nat) (c : Line) : OnlyChanges [.dict, .step] s (s.beginning p c) :=
  .ite (onlyChanges_setRecorded c) (OnlyChanges.refl _ s)

theorem State.queues_beginning (p : Nat) (c : Line) : (s.beginning p c).queues = s.queues :=
  onlyChanges_beginning p c .queues (by decide)

theorem State.step_beginning (p : Nat) (c : Line) :
    (s.beginning p c).step = { s.step with sheetSeen := if p = 1 then true else s.step.sheetSeen } := by
  unfold State.beginning
  split
  · exact State.step_setRecorded c
  · rfl

theorem State.dv_beginning {key : Nat} (other : key ≠ 0x601F00) (p : Nat) (c : Line) : (s.beginning p c).dv key = s.dv key := by
  unfold State.beginning
  split
  · exact (State.dv_setRecorded c key).trans (if_neg other)
  · rfl

/-- The bath's tag is the step that runs, and SHEET's record leaves that alone. -/
theorem State.bathOf_beginning (p : Nat) (c : Line) (q purpose : Nat) (immediate mirror keep : Bool) :
    (s.beginning p c).bathOf q purpose immediate mirror keep = s.bathOf q purpose immediate mirror keep := by
  unfold State.bathOf State.queue
  rw [State.queues_beginning, State.dv_beginning (by decide), (onlyChanges_beginning p c).now]

theorem onlyChanges_snapshotEntered (source : SourceRead) : OnlyChanges [.queues, .dict] v (v.snapshotEntered q l c source) :=
  onlyChanges_enter v q rfl

/-- A command that enters its engine with no tensor to open counts its wait on a hot package, and leaves every other entry. -/
theorem State.dv_enter {st : Started} (closed : st.opens = []) {key : Nat} (other : key ≠ 0x400D00) :
    (v.enter q st).dv key = v.dv key := by
  have cooled : (v.endHot q).dv key = v.dv key := by
    unfold State.endHot
    split
    · exact ((onlyChanges_onQueue _ q _).dv (by decide) key).trans ((State.dv_bump ..).trans (if_neg other))
    · rfl
  have rest (x : Started) (g : Queue → Queue) :
      OnlyChanges [.queues] (v.endHot q) ((((v.endHot q).advance q).nameSlot q x).onQueue q g) :=
    ((onlyChanges_advance _ q).trans (onlyChanges_nameSlot _ q x)).trans (onlyChanges_onQueue _ q g)
  simp only [State.enter, closed]
  exact ((rest _ _).dv (by decide) key).trans cooled

theorem State.dv_snapshotEntered {key : Nat} (other : key ≠ 0x400D00) (source : SourceRead) :
    (v.snapshotEntered q l c source).dv key = v.dv key :=
  State.dv_enter rfl other

/-- What has started shows in the queues alone. -/
theorem StartsIn.of_queues {s s' u u' : State} {rs ws : List Nat} {st : Started} (h : StartsIn s u q l c rs ws st)
    (before : s'.queues = s.queues) (after : u'.queues = u.queues) : StartsIn s' u' q l c rs ws st := by
  unfold StartsIn State.queue
  rw [before, after]
  exact h

/-- A snapshot command has started, a SHEET with its set recorded; its bath is not yet asked for. -/
def State.snapshotStarted (s : State) (q purpose : Nat) (l : ListRun) (c : Line) (source : SourceRead) : State :=
  (s.beginning purpose c).snapshotEntered q l c source

section Started
variable (p : Nat) (source : SourceRead)

theorem onlyChanges_snapshotStarted : OnlyChanges [.queues, .dict, .step] s (s.snapshotStarted q p l c source) :=
  ((onlyChanges_beginning p c).mono (by decide)).next (onlyChanges_snapshotEntered source)

theorem State.step_snapshotStarted :
    (s.snapshotStarted q p l c source).step = { s.step with sheetSeen := if p = 1 then true else s.step.sheetSeen } :=
  (onlyChanges_snapshotEntered source .step (by decide)).trans (s.step_beginning p c)

theorem State.bath_snapshotStarted : (s.snapshotStarted q p l c source).step.bath = s.step.bath := by
  rw [State.step_snapshotStarted]

theorem State.bathWait_snapshotStarted : (s.snapshotStarted q p l c source).step.bathWait = s.step.bathWait := by
  rw [State.step_snapshotStarted]

theorem State.sheet_snapshotStarted : (s.snapshotStarted q p l c source).step.sheet = s.step.sheet := by
  rw [State.step_snapshotStarted]

theorem State.sheetUnderWay_snapshotStarted : (s.snapshotStarted q p l c source).sheetUnderWay = s.sheetUnderWay := by
  unfold State.sheetUnderWay
  rw [State.sheet_snapshotStarted, State.bath_snapshotStarted, State.bathWait_snapshotStarted]

/-- The step that runs stays as it was. -/
theorem State.runningStep_snapshotStarted : (s.snapshotStarted q p l c source).dv 0xA03200 = s.dv 0xA03200 :=
  (State.dv_snapshotEntered (by decide) source).trans (s.dv_beginning (by decide) p c)

theorem State.recordedSet_snapshotStarted :
    (s.snapshotStarted q 1 l c source).dv 0x601F00 = fld c 8 8 + fld c 16 4 * 2 ^ 64 + fld c 25 1 * 2 ^ 96 :=
  (State.dv_snapshotEntered (by decide) source).trans (by rw [State.beginning_sheet, State.dv_setRecorded, if_pos rfl])

theorem State.backOut_snapshotStarted (k id : Nat) : (s.snapshotStarted q p l c source).backOut k id = s.backOut k id :=
  congrArg (fun rs : List Req => rs.any fun r => r.owner == some (k, id) && r.why == .sheetBack)
    (onlyChanges_snapshotStarted p source .reqs (by decide))

theorem startsIn_snapshotStarted (taken : Takes s q l c [] []) :
    ∃ st, StartsIn s (s.snapshotStarted q p l c source) q l c [] [] st ∧ st.work = .snapshot source ∧ st.done = false := by
  have same : (s.beginning p c).queues = s.queues := s.queues_beginning p c
  have run : ((s.beginning p c).queue q).run = some l := by
    unfold State.queue
    rw [same]
    exact taken.run
  exact ⟨_, (startsIn_enter rfl run rfl).of_queues same.symm rfl, rfl, rfl⟩

end Started

theorem State.startBath_beginning (p : Nat) (immediate mirror keep : Bool) (source : SourceRead) :
    (s.beginning p c).startBath q l c p immediate mirror keep source =
      if p = 1 then (s.snapshotStarted q p l c source).askSheet (s.bathOf q p immediate mirror keep)
      else (s.snapshotStarted q p l c source).askBath (s.bathOf q p immediate mirror keep) := by
  rw [State.startBath_eq, State.bathOf_beginning]
  rfl

/-! What becomes of the bath -/

/-- A bath is asked for where another one runs, or before its step has crossed: it waits behind the others. -/
theorem snapshot_waits (taken : Takes s q l c [] []) (p : Nat) (imm mirror keep : Bool) (source : SourceRead)
    (waits : s.step.bath.isSome = true ∨ s.step.bathWait = [] ∧ imm = false) : ∃ u st,
    (s.snapshotStarted q p l c source).askBath (s.bathOf q p imm mirror keep) = u ∧ OnlyChanges [.queues, .dict, .step] s u ∧
      StartsIn s u q l c [] [] st ∧ st.work = .snapshot source ∧ st.done = false ∧ u.step.bath = s.step.bath ∧
      u.step.bathWait = s.step.bathWait ++ [s.bathOf q p imm mirror keep] ∧
      (p = 1 → u.dv 0x601F00 = fld c 8 8 + fld c 16 4 * 2 ^ 64 + fld c 25 1 * 2 ^ 96) := by
  obtain ⟨st, started, work, running⟩ := startsIn_snapshotStarted p source taken
  have waits' : (s.snapshotStarted q p l c source).step.bath.isSome = true ∨ (s.snapshotStarted q p l c source).step.bathWait = [] ∧
      (s.snapshotStarted q p l c source).bathDue (s.bathOf q p imm mirror keep) = false := by
    rw [State.bath_snapshotStarted, State.bathWait_snapshotStarted]
    refine waits.imp_right fun ⟨alone, tagged⟩ => ⟨alone, ?_⟩
    subst tagged
    exact decide_eq_false (by rw [State.runningStep_snapshotStarted]; exact lt_irrefl _)
  refine ⟨_, st, State.askBath_waits waits', (onlyChanges_snapshotStarted p source).next (onlyChanges_step _ _),
    started.of_queues rfl rfl, work, running, State.bath_snapshotStarted p source,
    congrArg (· ++ _) (State.bathWait_snapshotStarted p source), ?_⟩
  rintro rfl
  exact ((onlyChanges_step _ _).dv (by decide) _).trans (State.recordedSet_snapshotStarted source)

/-- A STOP_BATH or RESTORE at once, where no bath runs or waits and no sheet runs, holds for its queue. -/
theorem snapshot_holds (taken : Takes s q l c [] []) {p : Nat} (notSheet : p ≠ 1) (mirror keep : Bool) (source : SourceRead)
    (free : s.step.bath = none) (alone : s.step.bathWait = []) (noSheet : s.step.sheet = none)
    (answered : s.backOut q ((s.queue q).serial + 1) = false) : ∃ u st,
    (s.snapshotStarted q p l c source).askBath (s.bathOf q p true mirror keep) = u ∧ OnlyChanges [.queues, .dict, .step] s u ∧
      StartsIn s u q l c [] [] st ∧ st.work = .snapshot source ∧ st.done = false ∧ u.step.hold = some q ∧ u.step.bathWait = [] ∧
      u.step.bath = some { s.bathOf q p true mirror keep with stage := 1, boundary := s.dv 0xA03200 - 1 } := by
  obtain ⟨st, started, work, running⟩ := startsIn_snapshotStarted p source taken
  have due : (s.snapshotStarted q p l c source).bathDue (s.bathOf q p true mirror keep) = true :=
    congrArg (!·) ((State.backOut_snapshotStarted p source _ _).trans answered)
  have held := State.askBath_holds ((s.bath_snapshotStarted p source).trans free) ((s.bathWait_snapshotStarted p source).trans alone)
    due notSheet ((s.sheet_snapshotStarted p source).trans noSheet)
  refine ⟨_, st, held, ((onlyChanges_snapshotStarted p source).next (onlyChanges_step _ _)).next (onlyChanges_step _ _),
    started.of_queues rfl rfl, work, running, rfl, rfl, ?_⟩
  have now : (s.snapshotStarted q p l c source).now = s.now := onlyChanges_snapshotStarted p source .now (by decide)
  have step := s.runningStep_snapshotStarted (q := q) (l := l) (c := c) p source
  show some { s.bathOf q p true mirror keep with
    stage := 1, since := (s.snapshotStarted q p l c source).now, boundary := (s.snapshotStarted q p l c source).dv 0xA03200 - 1,
    slot := if p = 1 then some (s.snapshotStarted q p l c source).noneWaits.nextSlot else none } = _
  rw [now, step, if_neg notSheet]
  rfl

/-- A SHEET with no other one under way has its header written before its bath is asked for (R333). -/
theorem State.askSheet_opens {b : Bath} (noOther : s.sheetUnderWay = false) (written : (s.openSheet b s.nextSlot).2 = 0) :
    s.askSheet b = (s.openSheet b s.nextSlot).1.askBath { b with slot := some s.nextSlot } :=
  (if_neg (ne_true_of_eq_false noOther)).trans (if_neg (not_not.2 written))

/-- A SHEET with another one under way asks for its bath alone (R334). -/
theorem State.askSheet_waits {b : Bath} (other : s.sheetUnderWay = true) : s.askSheet b = s.askBath b := if_pos other

end Starts

/-- Settles O42. The header of a SHEET is written at its start, or at its hold where another sheet is under way (log entry 72), and a
second bath waits until the one before it has ended (76). -/
theorem snapshotCommandsStart : Obligations.SnapshotCommandsStart := by
  unfold Obligations.SnapshotCommandsStart
  intro q c src l s taken
  have passed := onlyChanges_passed s q l c
  have step : (s.passed q l c).step = s.step := passed .step (by decide)
  refine ⟨fun e p imm mirror keep work b which bath => ?snapshot, fun header room => ⟨?release, ?abort⟩⟩
  case snapshot =>
    obtain rfl : b = s.bathOf q p imm mirror keep := bath
    have runs : exec e s = .next ((s.beginning p c).startBath q l c p imm mirror keep work) := by
      obtain ⟨rfl, rfl, rfl, rfl, rfl, rfl, header, step⟩ | ⟨rfl, rfl, rfl, rfl, rfl, rfl, header, step, set⟩ |
        ⟨rfl, rfl, rfl, rfl, rfl, rfl, header, kind, step, set, reach⟩ := which
      · exact taken.exec_stopBath header step
      · exact taken.exec_sheet header step set
      · exact taken.exec_restore _ header kind step set reach
    rw [State.startBath_beginning] at runs
    refine ⟨fun noHeader waits => ?_, fun notSheet free alone immediate noSheet answered => ?_, fun sheet noOther => ?_⟩
    · have asks : exec e s = .next ((s.snapshotStarted q p l c work).askBath (s.bathOf q p imm mirror keep)) := by
        rw [runs]
        split
        next sheet =>
          exact congrArg Host.Outcome.next
            (State.askSheet_waits ((s.sheetUnderWay_snapshotStarted p work).trans (noHeader.resolve_left (not_not.2 sheet))))
        · rfl
      obtain ⟨u, st, rfl, rest⟩ := snapshot_waits taken p imm mirror keep work waits
      exact ⟨_, st, asks, rest⟩
    · subst immediate
      obtain ⟨u, st, rfl, rest⟩ := snapshot_holds taken notSheet mirror keep work free alone noSheet answered
      exact ⟨_, st, by rw [runs, if_neg notSheet], rest⟩
    · subst sheet
      obtain ⟨st, started, snapshot, running⟩ := startsIn_snapshotStarted 1 work taken
      exact ⟨s.snapshotStarted q 1 l c work, st, _, onlyChanges_snapshotStarted 1 work, started, snapshot, running,
        s.step_snapshotStarted 1 work, rfl, s.recordedSet_snapshotStarted work, fun written => runs.trans (congrArg Host.Outcome.next
          (State.askSheet_opens ((s.sheetUnderWay_snapshotStarted 1 work).trans noOther) written))⟩
  case release =>
    refine ⟨(s.passed q l c).holdReleased, taken.exec_release header room, ?_, fun quiet => ?_, ?_⟩
    · exact (passed.mono (by decide)).next (onlyChanges_holdReleased _)
    · exact (passed.mono (by decide)).next (onlyChanges_holdReleased_quiet _ (step.symm ▸ quiet))
    · rw [State.step_holdReleased, step]
      rfl
  case abort =>
    refine ⟨_, rfl, taken.exec_sheetAbort header room, fun noSheet noBath => ?_⟩
    rw [State.abortSheet_idle _ (step.symm ▸ noSheet) (step.symm ▸ noBath)]
    exact passed

end Sys2Proof.Machine

/-! Scope of the block: the stop bath's stages and timeout, the copy of a contact sheet and the step boundary (chapter 12, R153, R157). -/

namespace Sys2Proof.Machine

/-! ### The rows of a bath (R325, R326) -/

section Baths
variable {s : State} {t : Nat} {b : Bath}

theorem exec_bathStageEnd_idle (idle : (s.tick t).step.bath = none) : exec (.bathStageEnd t) s = .next (s.tick t) :=
  congrArg Host.Outcome.next (by simp only [idle])

theorem exec_bathStageEnd (runs : (s.tick t).step.bath = some b) :
    exec (.bathStageEnd t) s = .next ((s.tick t).endStage b).goOnCol :=
  congrArg Host.Outcome.next (by simp only [runs])

theorem exec_bathTimeout (runs : (s.tick t).step.bath = some b) :
    exec (.bathTimeout t) s = .next (if (s.tick t).bathOverdue b then ((s.tick t).timeoutBath b).goOnCol else s.tick t) :=
  congrArg Host.Outcome.next (by simp only [runs])

theorem exec_bathTimeout_idle (idle : (s.tick t).step.bath = none) : exec (.bathTimeout t) s = .next (s.tick t) :=
  congrArg Host.Outcome.next (by simp only [idle])

/-- The state in which a bath is in a stage. -/
def State.inStage (s : State) (b : Bath) (n : Nat) : State := { s with step := { s.step with bath := some { b with stage := n } } }

/-- R325 stage 5: the counter image is taken. -/
def State.imaged (s : State) : State := { s with step := { s.step with image := s.counters } }

/-- R325 stage 6: nothing new goes to the fabric. -/
def State.quieted (s : State) (b : Bath) : State :=
  { s with step := { s.step with bath := some { b with stage := 6 }, quiet := true } }

/-- R325 stage 5: behind the counter image the sheet of a SHEET is captured. -/
def State.armedFor (s : State) (b : Bath) : State × Nat := if b.purpose = 1 then s.armSheet b else (s, 0)

theorem State.armedFor_sheet (s : State) (sheet : b.purpose = 1) : s.armedFor b = s.armSheet b := if_pos sheet

theorem State.armedFor_other (s : State) (notSheet : b.purpose ≠ 1) : s.armedFor b = (s, 0) := if_neg notSheet

theorem State.endStage_stays (goesOn : (s.stageAct b.stage).bathStageOver b = false) : s.endStage b = s.stageAct b.stage :=
  if_pos (by simp [goesOn])

section Over
variable (ended : (s.stageAct b.stage).bathStageOver b = true)
include ended

theorem State.endStage_next (notImage : b.stage ≠ 5) (notLast : b.stage ≠ 8) (notRestore : b.stage ≠ 6 ∨ b.purpose ≠ 2) :
    s.endStage b = (s.stageAct b.stage).inStage b (b.stage + 1) :=
  (if_neg (by simp [ended])).trans ((if_neg notImage).trans ((if_neg fun both => notRestore.elim (· both.1) (· both.2)).trans
    (if_neg notLast)))

theorem State.endStage_images (image : b.stage = 5) (armed : ((s.stageAct b.stage).imaged.armedFor b).2 = 0) :
    s.endStage b = ((s.stageAct b.stage).imaged.armedFor b).1.quieted b :=
  (if_neg (by simp [ended])).trans ((if_pos image).trans (if_neg (not_not.2 armed)))

theorem State.endStage_restores (quiet : b.stage = 6) (restore : b.purpose = 2) :
    s.endStage b = (s.stageAct b.stage).restoreNow b :=
  (if_neg (by simp [ended])).trans ((if_neg (by omega)).trans (if_pos ⟨quiet, restore⟩))

theorem State.endStage_ends (last : b.stage = 8) : s.endStage b = (s.stageAct b.stage).bathEnds b :=
  (if_neg (by simp [ended])).trans ((if_neg (by omega)).trans ((if_neg (by omega)).trans (if_pos last)))

end Over

/-- The command that the error record of a bath's timeout names: the first of those it waited for (R326). -/
def State.awaited (s : State) (b : Bath) : Nat :=
  match s.otherStarted b with
  | x :: _ => x.1 * 2 ^ 32 + x.2.index
  | [] => 0

/-- Where no sheet runs the timeout ends the bath alone. -/
theorem State.timeoutBath_noSheet (noSheet : s.step.sheet = none) :
    s.timeoutBath b = s.bathFails b St.bathTimeout 0 0 (s.awaited b) := by
  unfold State.timeoutBath State.awaited
  rw [noSheet]
  rfl

end Baths

/-! ### The copy of a sheet (R332 to R334) -/

section Sheets
variable {s : State} {t : Nat} {sh : Sheet} {g : Nat}

theorem exec_segmentCopied_none (none : (s.tick t).step.sheet = none) : exec (.segmentCopied t) s = .next (s.tick t) :=
  congrArg Host.Outcome.next (by simp only [none])

theorem exec_segmentCopied_next (runs : (s.tick t).step.sheet = some sh) (next : sh.nextSeg = some g) :
    exec (.segmentCopied t) s = .next (((s.tick t).copySegment sh g).readBackCopied sh.id) :=
  congrArg Host.Outcome.next (by simp only [runs, next])

theorem exec_segmentCopied_last (runs : (s.tick t).step.sheet = some sh) (last : sh.nextSeg = none) :
    exec (.segmentCopied t) s = .next (if sh.phase = 0 then (s.tick t).sheetReadBack sh else s.tick t) :=
  congrArg Host.Outcome.next (by simp only [runs, last])

theorem exec_sheetComplete_none (none : (s.tick t).step.sheet = none) : exec (.sheetComplete t) s = .next (s.tick t) :=
  congrArg Host.Outcome.next (by simp only [none])

theorem exec_sheetComplete (runs : (s.tick t).step.sheet = some sh) :
    exec (.sheetComplete t) s = .next (if (s.tick t).sheetReqs sh.q sh.id then s.tick t
      else if sh.phase = 1 then (s.tick t).closeSheet sh else if sh.phase = 2 then (s.tick t).endSheet sh else s.tick t) :=
  congrArg Host.Outcome.next (by simp only [runs])

/-- The pieces of a sheet in one segment. -/
def Sheet.inSeg (sh : Sheet) (g : Nat) : List SheetPiece := sh.segments.filter (fun p => p.seg == g)

theorem State.copySegment_unreadable {p : SheetPiece} (bad : (sh.inSeg g).find? (fun p => s.pieceCause p != 0) = some p)
    (granted : s.pieceCause p ≠ St.memoryDenied) :
    s.copySegment sh g = s.sheetFails St.sheetFailed true 0 p.addr (s.pieceCause p) := by
  unfold Sheet.inSeg at bad
  unfold State.copySegment
  dsimp only
  rw [bad]
  dsimp only
  rw [if_neg granted]

/-- A sheet whose segment has been copied: its pieces are no longer in it, and their bytes are counted. -/
def Sheet.copied (sh : Sheet) (g : Nat) : Sheet :=
  { sh with segments := sh.segments.filter (fun p => p.seg != g), stored := sh.stored + ((sh.inSeg g).map (·.len)).sum,
            heldFirst := sh.heldFirst.filter (· != g) }

/-- The state in which a sheet runs with its stored bytes reported. -/
def State.sheetCounted (s : State) (sh : Sheet) : State :=
  let s1 := s.setDv 0x601D00 sh.stored
  { s1 with step := { s1.step with sheet := some sh } }

theorem onlyChanges_sheetCounted (s : State) (sh : Sheet) : OnlyChanges [.dict, .step] s (s.sheetCounted sh) :=
  ((onlyChanges_setDv s _ _).mono (by decide)).next (onlyChanges_step _ _)

theorem State.copySegment_stores (readable : ∀ p ∈ sh.segments, p.seg = g → s.pieceCause p = 0)
    (stored : (s.storePieces sh g).2 = 0) :
    s.copySegment sh g = ((s.storePieces sh g).1.sheetCounted (sh.copied g)).afterBarrier := by
  have none : (sh.segments.filter (fun p => p.seg == g)).find? (fun p => s.pieceCause p != 0) = none := by
    refine List.find?_eq_none.2 fun p inside => ?_
    obtain ⟨mine, seg⟩ := List.mem_filter.1 inside
    simp [readable p mine (eq_of_beq seg)]
  have bytes : (sh.segments.filter (fun p => p.seg == g)).foldl (fun n p => n + p.len) 0 = ((sh.inSeg g).map (·.len)).sum := by
    rw [List.sum_eq_foldl, List.foldl_map]
    rfl
  unfold State.copySegment
  dsimp only
  rw [none]
  dsimp only
  rw [if_neg (not_not.2 stored), bytes]
  rfl

/-- R333 step 5: the sheet is complete, its command not yet done. -/
def State.sheetClosed (s : State) (sh : Sheet) : State :=
  let s1 := { s with step := { s.step with sheet := none, overdue := false, lastSlot := sh.slot } }
  ((s1.setSlot sh.slot sh.boundary 2).setDv 0x601D00 0).setDv 0x601700 (s.dv 0xA03200 - 1 - sh.boundary)

theorem State.endSheet_eq (s : State) (sh : Sheet) : s.endSheet sh = (s.sheetClosed sh).snapshotEnds sh.q sh.id St.ok := rfl

theorem onlyChanges_sheetClosed (s : State) (sh : Sheet) : OnlyChanges [.dict, .step] s (s.sheetClosed sh) :=
  ((((onlyChanges_step s _).mono (by decide)).next (onlyChanges_setDv _ _ _)).next (onlyChanges_setDv _ _ _)).next
    (onlyChanges_setDv _ _ _)

end Sheets

/-! ### What a step boundary leaves of the step state (R79, R80, R157, R159, R323) -/

section Crossing
variable (s : State)

theorem State.queuesAndStep_carryBlock (r : Tensor) (cp b : Nat) : (s.carryBlock r cp b).queuesAndStep = s.queuesAndStep := by
  unfold State.carryBlock
  dsimp only
  rw [State.queuesAndStep_setState, State.queuesAndStep_setScale]
  exact foldl_reads State.queuesAndStep (fun v i => v.queuesAndStep_wrCode ..) _ s

theorem State.queuesAndStep_flipResidual (g : Nat) : (s.flipResidual g).queuesAndStep = s.queuesAndStep := by
  unfold State.flipResidual
  split
  · rfl
  dsimp only
  rw [State.queuesAndStep_onTensor]
  split
  · exact (foldl_reads State.queuesAndStep (fun v b => v.queuesAndStep_carryBlock ..) _ _).trans (s.queuesAndStep_bindAll ..)
  · exact s.queuesAndStep_bindAll ..

theorem State.queuesAndStep_channelPass (h : Nat) (applied : Bool) : (s.channelPass h applied).queuesAndStep = s.queuesAndStep := by
  have recorded (xs : List ChanRow) (hdr : Nat) :
      (xs.foldl (fun v r => v.setChanRec hdr r.1 (r.2 / 2 ^ 32 * 2 ^ 32)) s).queuesAndStep = s.queuesAndStep :=
    foldl_reads State.queuesAndStep (fun v r => v.queuesAndStep_setChanRec ..) xs s
  unfold State.channelPass
  split
  · rfl
  dsimp only
  split
  · rfl
  split
  · split <;> simp only [State.queuesAndStep_wrNat, State.queuesAndStep_bump, recorded]
  · exact recorded ..

theorem State.queuesAndStep_teeDirectory (step applied skipped key : Nat) :
    (s.teeDirectory step applied skipped key).queuesAndStep = s.queuesAndStep := by
  unfold State.teeDirectory
  split
  · rfl
  · refine foldl_reads State.queuesAndStep (fun v x => ?_) _ s
    split
    · rfl
    · exact v.queuesAndStep_wrBytes ..

/-- What goes to other nodes leaves the step state alone, but that under a hold past stage 6 it waits there for the release (R325). -/
structure HoldsBack (s u : State) : Prop where
  step : u.step = { s.step with unsent := u.step.unsent }
  sent : s.step.quiet = false → u.step.unsent = s.step.unsent

variable {s} {u v : State}

theorem HoldsBack.of_step (same : u.step = s.step) : HoldsBack s u := ⟨by rw [same], fun _ => by rw [same]⟩

theorem HoldsBack.trans (h : HoldsBack s u) (g : HoldsBack u v) : HoldsBack s v := by
  have quiet : u.step.quiet = s.step.quiet := by rw [h.step]
  refine ⟨g.step.trans ?_, fun open' => (g.sent (quiet.trans open')).trans (h.sent open')⟩
  rw [h.step]

theorem HoldsBack.ite {c : Prop} [Decidable c] (h : HoldsBack s u) (g : HoldsBack s v) : HoldsBack s (if c then u else v) := by
  split
  · exact h
  · exact g

variable (s)

theorem holdsBack_ask (dst source : Nat) (a : Ask) : HoldsBack s (s.ask dst source a).1 := by
  unfold State.ask
  split
  · exact .of_step (State.step_congr (s.queuesAndStep_askHost ..))
  split
  · exact .of_step rfl
  dsimp only
  split
  next back =>
    refine ⟨rfl, fun open' => ?_⟩
    rw [open'] at back
    cases back
  · exact .of_step (State.step_congr (s.queuesAndStep_sendOn ..))

theorem holdsBack_teeSend (x : TeeStore) : HoldsBack s (s.teeSend x) := (holdsBack_ask s _ _ _).trans (.of_step rfl)

theorem holdsBack_drainTees (n : Nat) : ∀ s : State, HoldsBack s (State.drainTees n s) := by
  induction n with
  | zero => exact fun s => .of_step rfl
  | succ n ih =>
    intro s
    unfold State.drainTees
    split
    · exact .of_step rfl
    · exact .ite ((holdsBack_teeSend s _).trans (ih _)) (.of_step rfl)

theorem holdsBack_teeRun : HoldsBack s s.teeRun := by
  have drained : HoldsBack s (State.drainTees s.twin.tees.length s.teeCredit) :=
    (HoldsBack.of_step (s := s) (u := s.teeCredit) rfl).trans (holdsBack_drainTees _ _)
  unfold State.teeRun
  split
  · exact .of_step rfl
  · exact drained.trans (.of_step ((sparesPair_teeSettle _ _).frame .step (by decide)))

/-- The mark of a step waits behind its tee stores (R159). -/
def State.markWaits (s : State) (step : Nat) (applied : Bool) : State :=
  s.drawn.onTwin fun x => { x with tees := x.tees ++ [{
    addr := freeAt s.fresh 0 % 2 ^ 48, mark := step + 1, data := leBytes 8 step ++ leBytes 1 (if applied then 1 else 0) ++ leBytes 7 0 }] }

theorem State.sendMark_eq (step : Nat) (applied : Bool) :
    s.sendMark step applied = if s.paired then (s.markWaits step applied).teeRun else s := rfl

theorem holdsBack_sendMark (step : Nat) (applied : Bool) : HoldsBack s (s.sendMark step applied) := by
  have waits : HoldsBack s (s.markWaits step applied) := .of_step rfl
  rw [State.sendMark_eq]
  exact .ite (waits.trans (holdsBack_teeRun _)) (.of_step rfl)

/-! The acts of a crossing, in their order -/

/-- Residuals flipped and channel records passed over (R79, R80). -/
def State.planesCrossed (s : State) (applied : Bool) : State :=
  let s1 := if applied then s.step.feedback.foldl State.flipResidual s else s
  s1.tensors.foldl (fun s e => s.channelPass e.1 applied) s1

/-- Steps applied, behind the boundary (0xA033:00). -/
def State.appliedCount (s : State) (applied : Bool) : Nat := s.dv 0xA03300 + (if applied then 1 else 0)

/-- Steps skipped, behind the boundary (0xA034:00). -/
def State.skippedCount (s : State) (applied : Bool) : Nat := s.dv 0xA03400 + (if applied then 0 else 1)

/-- The directory of the negative and the mark sent (R159, R323). -/
def State.markCrossed (s : State) (applied : Bool) : State :=
  ((s.planesCrossed applied).teeDirectory (s.dv 0xA03200) (s.appliedCount applied) (s.skippedCount applied)
    ((look none s.step.pend 0x800200).getD (s.dv 0x800200))).sendMark (s.dv 0xA03200) applied

/-- The counts and the verdict of the step reported. -/
def State.stepCounted (s : State) (applied : Bool) : State :=
  ((((s.markCrossed applied).setDv 0xA03300 (s.appliedCount applied)).setDv 0xA03400 (s.skippedCount applied)).setDv 0xA03500
    (verdictWord s.finalVerdict)).setDv 0xA03200 (s.dv 0xA03200 + 1)

/-- The step's flags, verdict and tee count cleared, the delayed attributes in force. -/
def State.stepCleared (s : State) : State :=
  { s with
    step := s.step.cleared,
    tensors := s.tensors.map (fun e => (e.1, e.2.map applyAttrs)),
    twin := { s.twin with teed := 0 } }

/-- The state behind the boundary, before what waits for it is looked at. -/
def State.crossed (s : State) (applied : Bool) : State :=
  ((s.stepCounted applied).stepCleared.setDv 0x601C00 (s.stepCounted applied).twin.teed).applyPend

theorem State.crossStep_eq (applied : Bool) : s.crossStep applied =
    ((((s.crossed applied).nextBath).countSheet (s.dv 0xA03200)).detachAtBoundary (s.dv 0xA03200)).settled := rfl

theorem State.step_planesCrossed (applied : Bool) : (s.planesCrossed applied).step = s.step := by
  have flipped : (if applied then s.step.feedback.foldl State.flipResidual s else s).queuesAndStep = s.queuesAndStep := by
    split
    · exact foldl_reads State.queuesAndStep (fun v g => v.queuesAndStep_flipResidual g) _ s
    · rfl
  exact State.step_congr ((foldl_reads State.queuesAndStep (fun v e => v.queuesAndStep_channelPass ..) _ _).trans flipped)

theorem holdsBack_markCrossed (applied : Bool) : HoldsBack s (s.markCrossed applied) :=
  HoldsBack.trans (.of_step ((State.step_congr (State.queuesAndStep_teeDirectory ..)).trans (s.step_planesCrossed applied)))
    (holdsBack_sendMark _ _ _)

theorem onlyChanges_stepCounted (applied : Bool) : OnlyChanges [.dict] (s.markCrossed applied) (s.stepCounted applied) :=
  (((onlyChanges_setDv _ _ _).trans (onlyChanges_setDv _ _ _)).trans (onlyChanges_setDv _ _ _)).trans (onlyChanges_setDv _ _ _)

theorem holdsBack_stepCounted (applied : Bool) : HoldsBack s (s.stepCounted applied) :=
  (holdsBack_markCrossed s applied).trans (.of_step (onlyChanges_stepCounted s applied .step (by decide)))

/-! Dictionary writes that waited -/

theorem onlyChanges_applyPend : OnlyChanges [.dict, .step] s s.applyPend := by
  have put (v : State) (e : Nat × Option Nat) :
      OnlyChanges [.dict] v (match e.2 with | some x => v.setDv e.1 x | none => v) := by
    split
    · exact onlyChanges_setDv v _ _
    · exact OnlyChanges.refl _ v
  exact ((OnlyChanges.foldl put s s.step.pend).mono (by decide)).next (onlyChanges_step _ _)

theorem State.step_applyPend : s.applyPend.step = { s.step with pend := [] } := by
  have kept : (s.step.pend.foldl (fun s e => match e.2 with | some v => s.setDv e.1 v | none => s) s).step = s.step := by
    refine foldl_reads State.step (fun v e => ?_) _ s
    split <;> rfl
  exact congrArg (fun x : StepState => { x with pend := [] }) kept

/-- An entry for which nothing waited stays. -/
theorem State.dv_applyPend {key : Nat} (other : ∀ e ∈ s.step.pend, key ≠ e.1) : s.applyPend.dv key = s.dv key := by
  refine foldl_keeps (fun a a' : State => a'.dv key = a.dv key) (fun _ => rfl) (fun _ _ _ h g => g.trans h) _ _
    (fun v e inside => ?_) s
  split
  · exact v.dv_setDv_ne _ (other e inside)
  · rfl

theorem State.dv_stepCleared (key : Nat) : s.stepCleared.dv key = s.dv key := rfl

theorem State.dv_crossed {applied : Bool} {key : Nat} (other : ∀ e ∈ s.step.pend, key ≠ e.1) (away : key ≠ 0x601C00) :
    (s.crossed applied).dv key = (s.stepCounted applied).dv key := by
  refine (State.dv_applyPend _ fun e inside => other e ?_).trans ((State.dv_setDv_ne _ _ away).trans (State.dv_stepCleared _ key))
  have pend : (s.stepCounted applied).step.pend = s.step.pend := by rw [(holdsBack_stepCounted s applied).step]
  exact pend ▸ inside

theorem State.step_crossed (applied : Bool) :
    (s.crossed applied).step = { s.step.cleared with pend := [], unsent := (s.stepCounted applied).step.unsent } := by
  refine (State.step_applyPend _).trans ?_
  show ({ (s.stepCounted applied).step.cleared with pend := [] } : StepState) = _
  rw [(holdsBack_stepCounted s applied).step]
  rfl

/-- No tensor waits for the boundary any more: its delayed attributes are in force, its feedback is of the step that runs now (R188). -/
theorem State.tensor_crossed {applied : Bool} {h : Nat} {x : Tensor} (live : (s.crossed applied).tensor h = some x) :
    x.verdictNext = none ∧ x.mirrorNext = none ∧ x.fbWritten = [] := by
  have same : (s.crossed applied).tensor h = ((s.stepCounted applied).tensor h).map applyAttrs :=
    (congrArg (look none · h) (onlyChanges_applyPend _ .tensors (by decide))).trans (look_map (f := Option.map applyAttrs) rfl _ h)
  rw [same] at live
  obtain ⟨y, -, rfl⟩ := Option.map_eq_some_iff.1 live
  exact ⟨rfl, rfl, rfl⟩

theorem exec_stepBoundary_waits (waits : s.step.lastDone = none ∨ s.boundaryDue = false) : exec .stepBoundary s = .next s := by
  refine congrArg Host.Outcome.next ?_
  obtain unfinished | early := waits
  · simp only [unfinished]
  · rw [early]
    split <;> rfl

theorem exec_stepBoundary_crosses {applied : Bool} (done : s.step.lastDone = some applied) (due : s.boundaryDue = true) :
    exec .stepBoundary s = .next (s.crossStep applied) :=
  congrArg Host.Outcome.next (by simp only [done, due, if_true])

end Crossing

/-- Settles O43. SHEET_COMPLETE comes twice for a sheet, with the completion of its last segment and of its final header (log entry 75);
while a bath waits for the others its own queue goes on (77). -/
theorem bathsSheetsAndStepsGoOn : Obligations.BathsSheetsAndStepsGoOn := by
  unfold Obligations.BathsSheetsAndStepsGoOn
  intro t s s1 now
  subst now
  refine ⟨fun idle => ⟨exec_bathStageEnd_idle idle, exec_bathTimeout_idle idle⟩, fun b w runs act => ?bath,
    fun none => ⟨exec_segmentCopied_none none, exec_sheetComplete_none none⟩, fun sh runs => ?sheet, exec_stepBoundary_waits s,
    fun applied n done due number pend => ?boundary⟩
  case bath =>
    subst act
    rw [exec_bathStageEnd runs, exec_bathTimeout runs]
    refine ⟨fun goesOn => by rw [State.endStage_stays goesOn], fun ended => ⟨fun notImage notLast notRestore => ?_,
      fun image notSheet => ?_, fun image sheet => ?_, fun quiet restore => by rw [State.endStage_restores ended quiet restore],
      fun last => by rw [State.endStage_ends ended last]⟩, fun early => ?_, fun late noSheet => ?_⟩
    · rw [State.endStage_next ended notImage notLast notRestore]
      exact ⟨_, rfl, onlyChanges_step _ _, rfl⟩
    · have alone := State.armedFor_other ((s.tick t).stageAct b.stage).imaged notSheet
      rw [State.endStage_images ended image (by rw [alone]), alone]
      exact ⟨_, rfl, (onlyChanges_step _ _).trans (onlyChanges_step _ _), rfl⟩
    · refine ⟨_, onlyChanges_step _ _, rfl, fun armed => ?_⟩
      have captured := State.armedFor_sheet ((s.tick t).stageAct b.stage).imaged sheet
      rw [State.endStage_images ended image (by rw [captured]; exact armed), captured]
      exact ⟨_, rfl, onlyChanges_step _ _, rfl⟩
    · exact congrArg Host.Outcome.next (if_neg (by rw [State.bathOverdue, decide_eq_true_iff]; omega))
    · refine ⟨(s.tick t).awaited b, ?_, fun none => by rw [State.awaited, none], fun x rest first => by rw [State.awaited, first]⟩
      rw [← State.timeoutBath_noSheet noSheet]
      exact congrArg Host.Outcome.next (if_pos (decide_eq_true late))
  case sheet =>
    refine ⟨fun g next => ?_, fun last => exec_segmentCopied_last runs last, ?_⟩
    · rw [exec_segmentCopied_next runs next]
      refine ⟨fun p bad granted => by rw [State.copySegment_unreadable bad granted], fun readable stored => ?_⟩
      rw [State.copySegment_stores readable stored]
      exact ⟨_, sh.copied g, rfl, rfl, onlyChanges_sheetCounted _ _, rfl, rfl, rfl⟩
    · rw [exec_sheetComplete runs]
      refine ⟨?_, fun answered copied => ?_, fun answered closed => ?_⟩
      · rintro (out | ⟨notCopied, notClosed⟩)
        · rw [if_pos out]
        · rw [if_neg notCopied, if_neg notClosed, ite_self]
      · rw [answered, if_neg Bool.false_ne_true, if_pos copied]
      · rw [answered, if_neg Bool.false_ne_true, if_neg (by omega), if_pos closed, State.endSheet_eq]
        exact ⟨_, rfl, onlyChanges_sheetClosed _ sh, rfl, State.dv_setDv_same _ _ _⟩
  case boundary =>
    subst number
    have spared {key : Nat} (away : key ≠ 0x800200 ∧ key ≠ 0x401200) : ∀ e ∈ s.step.pend, key ≠ e.1 := fun e inside same =>
      (pend e inside).elim (fun job => away.1 (same.trans job)) (fun wall => away.2 (same.trans wall))
    have unsent : (s.crossed applied).step.unsent = (s.stepCounted applied).step.unsent := by rw [State.step_crossed]
    refine ⟨s.crossed applied, ?_, ?_, ?_, ?_, ?_, ?_, fun sent => unsent.trans ((holdsBack_stepCounted s applied).sent sent), ?_,
      fun h x live => s.tensor_crossed live⟩
    · rw [exec_stepBoundary_crosses s done due, State.crossStep_eq]
    · rw [s.dv_crossed (spared (by decide)) (by decide)]
      exact State.dv_setDv_same _ _ _
    · rw [s.dv_crossed (spared (by decide)) (by decide)]
      simp [State.stepCounted, State.dv_setDv, State.appliedCount]
    · rw [s.dv_crossed (spared (by decide)) (by decide)]
      simp [State.stepCounted, State.dv_setDv, State.skippedCount]
    · rw [s.dv_crossed (spared (by decide)) (by decide)]
      simp [State.stepCounted, State.dv_setDv]
    · rw [unsent]
      exact s.step_crossed applied
    · exact congrArg Twin.teed (onlyChanges_applyPend _ .twin (by decide))

end Sys2Proof.Machine

/-! Scope of the block: a cycle with no command waiting (O2), and what a row of clocks, power or cooling leaves at its device time. -/

namespace Sys2Proof.Machine

-- One proof after another: side by side, their threads take the compile of the whole text past its memory limit.
set_option Elab.async false

theorem onlyChanges_now (s : State) (n : Nat) : OnlyChanges [.now] s { s with now := n } := by
  intro f outside
  cases f
  case now => exact absurd List.mem_cons_self outside
  all_goals rfl

theorem onlyChanges_power (s : State) (p : Power) : OnlyChanges [.power] s { s with power := p } := by
  intro f outside
  cases f
  case power => exact absurd List.mem_cons_self outside
  all_goals rfl

theorem onlyChanges_onPower (s : State) (f : Power → Power) : OnlyChanges [.power] s (s.onPower f) := onlyChanges_power s _

theorem onlyChanges_now_power (s : State) (n : Nat) (p : Power) : OnlyChanges [.now, .power] s { s with now := n, power := p } :=
  ((onlyChanges_now s n).mono (by decide)).trans ((onlyChanges_power _ p).mono (by decide))

/-- R345: a slewed cycle moves device time and what is left of the offset together. -/
theorem State.slewCycle_eq (s : State) : ∃ (n : Nat) (d : Int) (ps : Nat),
    s.slewCycle = { s with now := n, power := { s.power with slew := d, slewPs := ps } } ∧
    (s.power.slewPs + 4 < 1000 → ps = s.power.slewPs + 4 ∧ d = s.power.slew) ∧
    (1000 ≤ s.power.slewPs + 4 → s.power.slew ≠ 0 → d.natAbs + 1 = s.power.slew.natAbs) ∧
    (n : Int) + d = s.now + 40 + s.power.slew := by
  unfold State.slewCycle
  dsimp only
  split
  next part => exact ⟨_, s.power.slew, _, rfl, fun _ => ⟨rfl, rfl⟩, by omega, by omega⟩
  next full =>
    refine ⟨_, _, _, rfl, fun part => absurd part full, ?_, ?_⟩
    all_goals split <;> omega

/-- Settles O2: the idle step by whether device time stands and whether an offset is left. -/
theorem emptyQueuePassesOneCycle : Obligations.EmptyQueuePassesOneCycle := by
  unfold Obligations.EmptyQueuePassesOneCycle
  intro s empty
  have idle : step s = .next s.idle := by rw [step, empty]
  refine ⟨fun runs steady => ?_, fun runs slewed => ?_, fun stands => ?_⟩
  · refine ⟨_, idle, ?_⟩
    rw [State.idle, if_pos runs, if_pos steady]
    exact ⟨rfl, onlyChanges_now s _⟩
  · obtain ⟨n, d, ps, cycle, part, full, sum⟩ := s.slewCycle_eq
    refine ⟨_, idle, ?_⟩
    rw [State.idle, if_pos runs, if_neg slewed, cycle]
    exact ⟨onlyChanges_now_power s n _, ⟨ps, rfl⟩, part, fun whole => full whole slewed, sum⟩
  · refine ⟨_, idle, ?_⟩
    rw [State.idle, if_neg stands]
    exact ⟨rfl, onlyChanges_onPower s _⟩

end Sys2Proof.Machine

/-! Scope of the block: sleep, wake, the slope governor, operating points, monitors, droops and time alignment (O50). -/

namespace Sys2Proof.Machine

-- One proof after another: side by side, their threads take the compile of the whole text past its memory limit.
set_option Elab.async false

/-! ### Rows at a device time -/

theorem endsIn_timed {e : Instr} {s v : State} {t : Nat} {f : State → State} (acts : exec e s = .next (s.timed t f))
    (ends : f (s.atTime t) = v) : EndsIn e s v :=
  ⟨_, acts, ends ▸ throttled_timed s t f⟩

theorem OnlyChanges.region {fs : List Field} {s u : State} (h : OnlyChanges fs s u) (outside : Field.regions ∉ fs := by decide)
    (r : Nat) : u.region r = s.region r :=
  congrArg (look ({} : Region) · r) (h .regions outside)

theorem regionIs_setRegion (s : State) (r : Nat) (x : Region) : RegionIs s (s.setRegion r x) r x :=
  ⟨by rw [State.region_setRegion, if_pos rfl], fun j other => by rw [State.region_setRegion, if_neg other]⟩

theorem regionIs_onRegion (s : State) (r : Nat) (f : Region → Region) : RegionIs s (s.onRegion r f) r (f (s.region r)) :=
  regionIs_setRegion s r _

theorem RegionIs.next {s u v : State} {r : Nat} {x : Region} {fs : List Field} (h : RegionIs s u r x) (g : OnlyChanges fs u v)
    (outside : Field.regions ∉ fs := by decide) : RegionIs s v r x :=
  ⟨(g.region outside r).trans h.1, fun j other => (g.region outside j).trans (h.2 j other)⟩

theorem RegionIs.after {s u v : State} {r : Nat} {x : Region} {fs : List Field} (g : OnlyChanges fs s u) (h : RegionIs u v r x)
    (outside : Field.regions ∉ fs := by decide) : RegionIs s v r x :=
  ⟨h.1, fun j other => (h.2 j other).trans (g.region outside j)⟩

/-! ### Sleep and wake (R350, R351) -/

theorem settleFiller_spec (s : State) (r : Nat) : OnlyChanges [.dict, .regions] s (s.settleFiller r) ∧
    ∃ n a, RegionIs s (s.settleFiller r) r { s.region r with filler := n, fillerAt := a } := by
  unfold State.settleFiller
  dsimp only
  split
  · exact ⟨OnlyChanges.refl _ s, _, _, rfl, fun _ _ => rfl⟩
  · have counted := onlyChanges_bump s 0x200900 ((s.region r).fillerTime (s.dv 0x200600) s.now)
    exact ⟨(counted.mono (by decide)).next (onlyChanges_setRegion _ r _), _, _, (regionIs_setRegion _ r _).after counted⟩

/-- R350: the region may be gated now. -/
def State.gateDue (s : State) (r : Nat) : Prop :=
  (s.region r).power = 0 ∧ (s.region r).tripped = false ∧ (s.region r).coolant = false ∧ (s.region r).interval = false ∧
    (s.region r).change.isNone = true ∧ s.mayGate r = true ∧
    (s.region r).filler * 2 ≤ (s.now - (s.region r).fillerAt) * s.dv 0x200600 ∧ (s.region r).idleSince + s.dv 0x301000 ≤ s.now

/-- R350: the region gated, its channels not told yet. -/
def State.gated (s : State) (r : Nat) : State :=
  (s.settleFiller r).setRegion r { (s.settleFiller r).region r with power := 1, wake := false, gatedSince := s.now, stretch := false }

theorem State.gateRegion_stays {s : State} {r : Nat} (early : ¬ s.gateDue r) : s.gateRegion r = s := if_neg early

theorem State.gateRegion_gates {s : State} {r : Nat} (due : s.gateDue r) : s.gateRegion r = (s.gated r).syncRegion r := if_pos due

theorem onlyChanges_gated (s : State) (r : Nat) : OnlyChanges [.dict, .regions] s (s.gated r) :=
  (settleFiller_spec s r).1.next (onlyChanges_setRegion _ r _)

theorem regionIs_gated (s : State) (r : Nat) : ∃ n a, RegionIs s (s.gated r) r
    { s.region r with power := 1, wake := false, gatedSince := s.now, stretch := false, filler := n, fillerAt := a } := by
  obtain ⟨_, n, a, here, others⟩ := settleFiller_spec s r
  obtain ⟨same, rest⟩ := regionIs_setRegion (s.settleFiller r) r
    { (s.settleFiller r).region r with power := 1, wake := false, gatedSince := s.now, stretch := false }
  exact ⟨n, a, by rw [State.gated, same, here], fun j other => (rest j other).trans (others j other)⟩

theorem onlyChanges_syncRegion (s : State) (r : Nat) : OnlyChanges [.channels] s (s.syncRegion r) :=
  OnlyChanges.ite (OnlyChanges.foldl onlyChanges_syncRefresh s _) (OnlyChanges.refl _ s)

/-- R350, R366: the region awake at the preferred point of its work, its channels serving. -/
def State.awakened (s : State) (r : Nat) : State :=
  let s1 := s.onRegion r (fun x => { x with power := 0, wake := false, staged := 0, idleSince := s.now, change := none, retry := none })
  (s1.onRegion r (fun x => { x with point := s1.wantedPoint r })).syncRegion r

theorem onlyChanges_onRegion (s : State) (r : Nat) (f : Region → Region) : OnlyChanges [.regions] s (s.onRegion r f) :=
  onlyChanges_setRegion s r _

theorem onlyChanges_awakened (s : State) (r : Nat) : OnlyChanges [.regions, .channels] s (s.awakened r) :=
  (((onlyChanges_onRegion s r _).mono (by decide)).next (onlyChanges_onRegion _ r _)).next (onlyChanges_syncRegion _ r)

theorem State.region_awakened (s : State) (r : Nat) : ((s.awakened r).region r).power = 0 ∧ ((s.awakened r).region r).wake = false ∧
    ((s.awakened r).region r).staged = 0 := by
  rw [State.awakened, (onlyChanges_syncRegion _ r).region, State.region_onRegion_same, State.region_onRegion_same]
  exact ⟨rfl, rfl, rfl⟩

/-! ### Operating points (R347, R352, R354) -/

/-- R348: what a report of the monitors leaves in the record of an active region. -/
def Region.sampled (x : Region) (now margin amp : Nat) : Region :=
  let x := { x with deciAmp := amp }
  if margin < 60 then { x with monitor := x.point - 1, marginSince := none }
  else if margin < 120 then { x with marginSince := none }
  else match x.marginSince with
    | none => { x with marginSince := some now }
    | some a => if a + 1000000 ≤ now then { x with monitor := min 7 (x.monitor + 1), marginSince := some now } else x

theorem State.sampleMonitor_active {s : State} {r : Nat} (active : (s.region r).power = 0) (margin amp : Nat) :
    s.sampleMonitor r margin amp = (s.setRegion r ((s.region r).sampled s.now margin amp)).checkOvercurrent :=
  if_neg (not_not_intro active)

theorem Region.sampled_reading (x : Region) (now margin amp : Nat) :
    (x.sampled now margin amp).deciAmp = amp ∧ (x.sampled now margin amp).point = x.point := by
  unfold Region.sampled
  dsimp only
  repeat' split
  all_goals exact ⟨rfl, rfl⟩

theorem Region.sampled_low {x : Region} {margin : Nat} (low : margin < 60) (now amp : Nat) :
    (x.sampled now margin amp).monitor = x.point - 1 ∧ (x.sampled now margin amp).marginSince = none := by
  rw [Region.sampled, if_pos low]
  exact ⟨rfl, rfl⟩

theorem Region.sampled_middle {x : Region} {margin : Nat} (atLeast : 60 ≤ margin) (under : margin < 120) (now amp : Nat) :
    (x.sampled now margin amp).monitor = x.monitor ∧ (x.sampled now margin amp).marginSince = none := by
  rw [Region.sampled, if_neg (by omega), if_pos under]
  exact ⟨rfl, rfl⟩

theorem Region.sampled_good {x : Region} {margin : Nat} (good : 120 ≤ margin) (first : x.marginSince = none) (now amp : Nat) :
    (x.sampled now margin amp).monitor = x.monitor ∧ (x.sampled now margin amp).marginSince = some now := by
  rw [Region.sampled, if_neg (by omega), if_neg (by omega)]
  dsimp only
  rw [first]
  exact ⟨rfl, rfl⟩

theorem Region.sampled_rises {x : Region} {margin now a : Nat} (good : 120 ≤ margin) (since : x.marginSince = some a)
    (long : a + 1000000 ≤ now) (amp : Nat) : (x.sampled now margin amp).monitor = min 7 (x.monitor + 1) := by
  rw [Region.sampled, if_neg (by omega), if_neg (by omega)]
  dsimp only
  rw [since]
  dsimp only
  rw [if_pos long]

/-- R353, R361: what a detector's voltage leaves in the record of an active region, its clock and margin apart. -/
def Region.detected (x : Region) (mv now : Nat) : Region :=
  { x with milliVolt := mv, minVolt := if x.minVolt = 0 ∨ mv < x.minVolt then mv else x.minVolt,
           minAt := if x.minVolt = 0 ∨ mv < x.minVolt then now else x.minAt }

theorem State.detectDroop_quiet {s : State} {r mv : Nat} (active : (s.region r).power = 0)
    (enough : s.regionVolt r (s.region r).point ≤ mv + 25) : s.detectDroop r mv = s.setRegion r ((s.region r).detected mv s.now) :=
  (if_neg (not_not_intro active)).trans (if_neg (by omega))

theorem State.detectDroop_guarded {s : State} {r mv : Nat} (active : (s.region r).power = 0)
    (droop : mv + 25 < s.regionVolt r (s.region r).point) (guarded : s.dv 0x300B00 ≠ 0) :
    s.detectDroop r mv = s.setRegion r { (s.region r).detected mv s.now with stretch := true } :=
  (if_neg (not_not_intro active)).trans ((if_pos droop).trans (if_neg guarded))

theorem State.detectDroop_learns {s : State} {r mv : Nat} (active : (s.region r).power = 0)
    (droop : mv + 25 < s.regionVolt r (s.region r).point) (past : s.dv 0x300B00 = 0) :
    s.detectDroop r mv =
      (s.setRegion r { (s.region r).detected mv s.now with stretch := true, margin := Config.freeNat s.fresh % 21 }).drawn :=
  (if_neg (not_not_intro active)).trans ((if_pos droop).trans (if_pos past))

theorem onlyChanges_drawn (s : State) : OnlyChanges [.fresh] s s.drawn := by
  intro f outside
  cases f
  case fresh => exact absurd List.mem_cons_self outside
  all_goals rfl

/-- R353: by the droop and the guard band, the record a detector's voltage leaves. -/
theorem State.detectDroop_spec {s : State} {r : Nat} (active : (s.region r).power = 0) (mv : Nat) :
    ∃ (g : Nat), OnlyChanges [.regions, .fresh] s (s.detectDroop r mv) ∧
      RegionIs s (s.detectDroop r mv) r { (s.region r).detected mv s.now with
        stretch := (s.region r).stretch || decide (mv + 25 < s.regionVolt r (s.region r).point), margin := g } ∧
      (s.dv 0x300B00 ≠ 0 ∨ s.regionVolt r (s.region r).point ≤ mv + 25 → g = (s.region r).margin) ∧
      (s.dv 0x300B00 = 0 → mv + 25 < s.regionVolt r (s.region r).point → g ≤ 20) := by
  have set (x : Region) : OnlyChanges [.regions, .fresh] s (s.setRegion r x) := (onlyChanges_setRegion s r x).mono (by decide)
  by_cases droop : mv + 25 < s.regionVolt r (s.region r).point
  · rw [decide_eq_true droop, Bool.or_true]
    by_cases past : s.dv 0x300B00 = 0
    · rw [State.detectDroop_learns active droop past]
      exact ⟨_, (set _).next (onlyChanges_drawn _), (regionIs_setRegion s r _).next (onlyChanges_drawn _),
        fun quiet => by omega, fun _ _ => Nat.le_of_lt_succ (Nat.mod_lt _ (by decide))⟩
    · rw [State.detectDroop_guarded active droop past]
      exact ⟨_, set _, regionIs_setRegion s r _, fun _ => rfl, fun guard => absurd guard past⟩
  · rw [decide_eq_false droop, Bool.or_false, State.detectDroop_quiet active (by omega)]
    exact ⟨_, set _, regionIs_setRegion s r _, fun _ => rfl, fun _ low => absurd low droop⟩

/-! ### Time alignment (R345) -/

theorem bestSample_spec {xs : List TimeSample} {b : TimeSample} (best : bestSample xs = some b) :
    b ∈ xs ∧ ∀ c ∈ xs, b.t4 - b.t1 ≤ c.t4 - c.t1 := by
  induction xs generalizing b with
  | nil => cases best
  | cons x xs ih =>
    rw [bestSample] at best
    split at best
    next y rest =>
      obtain ⟨inside, least⟩ := ih rest
      split at best
      next shorter =>
        cases best
        exact ⟨List.mem_cons_of_mem x inside, List.forall_mem_cons.2 ⟨by omega, least⟩⟩
      next longer =>
        cases best
        exact ⟨List.mem_cons_self, List.forall_mem_cons.2 ⟨Nat.le_refl _, fun c later => (Nat.not_lt.1 longer).trans (least c later)⟩⟩
    next none =>
      cases best
      have empty : xs = [] := by
        cases xs with
        | nil => rfl
        | cons z zs =>
          rw [bestSample] at none
          split at none
          · split at none <;> cases none
          · cases none
      rw [empty]
      exact ⟨List.mem_cons_self, List.forall_mem_singleton.2 (Nat.le_refl _)⟩

theorem State.judgeExchange_best {s : State} {xs : List TimeSample} {b : TimeSample} (best : bestSample xs = some b) :
    s.judgeExchange xs = s.goodExchange ((b.source : Int) - ((b.t1 + b.t4 : Nat) : Int) / 2) := by
  rw [State.judgeExchange, best]

theorem State.onlyChanges_sendTimeLoads (s : State) :
    OnlyChanges [.egress, .dict, .step, .ports, .streamsOut, .reqs, .nextTag, .traek, .power] s s.sendTimeLoads := by
  have asked (rs : List Req) (p : Power) : OnlyChanges [.reqs, .power] s { s with reqs := rs, power := p } := by
    intro f outside
    cases f
    case reqs | power => exact absurd (by decide) outside
    all_goals rfl
  exact ((asked _ _).mono (by decide)).trans
    (OnlyChanges.foldl (fun u _ => (sparesPair_ask (s := u) _ _ _).frame.mono (by decide)) _ _)

theorem exec_timeAlignExchange {s : State} {t : Nat} (xs : List TimeSample) (sourced : (s.tick t).timeSourced = true) :
    exec (.timeAlignExchange xs t) s =
      .next ((s.tick t).judgeExchange (((s.tick t).power.timeReplies ++ xs).take 8)).sendTimeLoads :=
  congrArg Host.Outcome.next (if_neg (by rw [sourced]; decide))

theorem exec_timeAlignExchange_free {s : State} {t : Nat} (xs : List TimeSample) (own : (s.tick t).timeSourced = false) :
    exec (.timeAlignExchange xs t) s = .next ((s.tick t).setTimeState 0) :=
  congrArg Host.Outcome.next (if_pos (by rw [own]; decide))

/-! ### What each row of a region does -/

theorem State.wakeRegion_idle {s : State} {r : Nat} (none : ((s.region r).power ≠ 1 ∧ (s.region r).power ≠ 2) ∨ (s.region r).wake = false) :
    s.wakeRegion r = s := if_pos none

section WakeAsked
variable {s : State} {r : Nat} (asleep : (s.region r).power = 1 ∨ (s.region r).power = 2) (asked : (s.region r).wake = true)
include asleep asked

theorem State.wakeRegion_staged (staged : 0 < (s.region r).staged) : s.wakeRegion r = s.stageNext r :=
  (if_neg (by rw [asked]; rintro (awake | never) <;> [omega; cases never])).trans (if_pos staged)

theorem State.wakeRegion_begins (first : (s.region r).staged = 0) : s.wakeRegion r =
    if s.slopeWaits 2 r then s
    else if (s.region r).power = 1 ∧ s.heavyNeighbour r = false then
      if (s.askSlope 2 r (s.currentStep 0 1 r) (0, 0)).2 then (s.askSlope 2 r (s.currentStep 0 1 r) (0, 0)).1.wakeUp r
      else (s.askSlope 2 r (s.currentStep 0 1 r) (0, 0)).1
    else ((s.setRegion r { s.region r with staged := 16, stagedAt := s.now }).bump 0x300900 1).stageNext r :=
  (if_neg (by rw [asked]; rintro (awake | never) <;> [omega; cases never])).trans (if_neg (by omega))

end WakeAsked

theorem State.grantSlope_waits {s : State} {east : Bool} {g : Governor} (grown : g = (s.governor east).grown (s.dv 0x200600) s.now)
    (none : g.first = none ∨ ∃ q, g.first = some q ∧ g.allowance < q.step) : s.grantSlope east = s.setGovernor east g := by
  subst grown
  unfold State.grantSlope
  dsimp only
  obtain empty | ⟨q, first, large⟩ := none
  · rw [empty]
  · rw [first]
    exact if_neg (by omega)

theorem State.grantSlope_grants {s : State} {east : Bool} {g : Governor} {q : SlopeReq}
    (grown : g = (s.governor east).grown (s.dv 0x200600) s.now) (first : g.first = some q) (fits : q.step ≤ g.allowance) :
    s.grantSlope east = ((s.setGovernor east { g with allowance := g.allowance - q.step, waiting := g.waiting.erase q }).throttleTime 4
      (s.now - q.since)).slopeGranted q := by
  subst grown
  unfold State.grantSlope
  dsimp only
  rw [first]
  exact if_pos fits

theorem State.askPoint_stays {s : State} {r : Nat} (barred : (s.region r).power ≠ 0 ∨ (s.region r).change.isSome = true ∨
    (s.region r).retry.isSome = true ∨ s.wantedPoint r = (s.region r).point ∨
    ((s.region r).point < s.wantedPoint r ∧ s.power.avsSilent = true)) : s.askPoint r = s := if_pos barred

/-- R352: a change of point that waits for its shutter stop. -/
def State.pointAsked (s : State) (r : Nat) : State :=
  s.setRegion r { s.region r with change := some { target := s.wantedPoint r, since := s.now } }

theorem State.askPoint_asks {s : State} {r : Nat} (active : (s.region r).power = 0) (idle : (s.region r).change = none)
    (fresh : (s.region r).retry = none) (other : s.wantedPoint r ≠ (s.region r).point)
    (may : s.wantedPoint r < (s.region r).point ∨ s.power.avsSilent = false) : s.askPoint r =
    if (s.region r).point < s.wantedPoint r then
      (s.pointAsked r).setRail (max (s.pointAsked r).power.setpoint (s.pointAsked r).railNeed) else s.pointAsked r := by
  refine if_neg ?_
  rw [idle, fresh]
  rintro (asleep | asked | again | same | ⟨raise, silent⟩)
  · exact asleep active
  · cases asked
  · cases again
  · exact other same
  · obtain lower | heard := may
    · omega
    · exact Bool.false_ne_true (heard.symm.trans silent)

/-- R352, R347: the point a change ends at: a raise no higher than the region's limits now. -/
def State.stopPoint (s : State) (r : Nat) (c : PointReq) : Nat :=
  if (s.region r).point < c.target then max (s.region r).point (min c.target (s.allowedPoint r)) else c.target

/-- R352: the divider switched. -/
def State.switched (s : State) (r : Nat) (c : PointReq) : State :=
  (s.setRegion r { s.region r with point := s.stopPoint r c, change := none }).bump 0x300500
    (if s.stopPoint r c = (s.region r).point then 0 else 1)

theorem State.shutterStop_stays {s : State} {r : Nat}
    (barred : (s.region r).change = none ∨ s.shutterReady r = false ∨ (s.region r).power ≠ 0) : s.shutterStop r = s := by
  unfold State.shutterStop
  dsimp only
  split
  · rfl
  next c asked =>
    refine if_neg ?_
    rw [Bool.and_eq_true, beq_iff_eq]
    rintro ⟨ready, active⟩
    obtain none | stretched | asleep := barred
    · rw [none] at asked
      cases asked
    · exact Bool.false_ne_true (stretched.symm.trans ready)
    · exact asleep active

theorem State.shutterStop_switches {s : State} {r : Nat} {c : PointReq} (asked : (s.region r).change = some c)
    (ready : s.shutterReady r = true) (active : (s.region r).power = 0) :
    s.shutterStop r = (s.switched r c).setRail (s.switched r c).railNeed := by
  unfold State.shutterStop
  dsimp only
  rw [asked]
  exact if_pos (by rw [ready, active]; rfl)

/-- R354: a change given up, counted and recorded. -/
def State.abandoned (s : State) (r : Nat) (c : PointReq) : State :=
  ((s.setRegion r { s.region r with change := none, retry := some { c with since := s.now } }).bump 0x300600 1).recordOf 0x3001 11 r
    (r + c.target * 2 ^ 8)

theorem State.abandonPoint_none {s : State} {r : Nat} (none : (s.region r).change = none) : s.abandonPoint r = s := by
  unfold State.abandonPoint
  dsimp only
  rw [none]

theorem State.abandonPoint_some {s : State} {r : Nat} {c : PointReq} (asked : (s.region r).change = some c) :
    s.abandonPoint r = if c.since + 10000 ≤ s.now ∧ s.shutterReady r = false then s.abandoned r c else s := by
  unfold State.abandonPoint
  dsimp only
  rw [asked]
  rfl

theorem State.retryPoint_none {s : State} {r : Nat} (none : (s.region r).retry = none) : s.retryPoint r = s := by
  unfold State.retryPoint
  rw [none]

theorem State.retryPoint_some {s : State} {r : Nat} {c : PointReq} (later : (s.region r).retry = some c) :
    s.retryPoint r = if c.since + 100000 ≤ s.now then (s.onRegion r (fun x => { x with retry := none })).askPoint r else s := by
  unfold State.retryPoint
  rw [later]

/-- R353: a stretch over, its cycles counted. -/
def State.unstretched (s : State) (r cycles : Nat) : State :=
  (s.onRegion r (fun x => { x with stretch := false, clearSince := s.now })).bump 0x300700 cycles

theorem onlyChanges_recordOf (s : State) (cls unit region syndrome : Nat) :
    OnlyChanges recordFields s (s.recordOf cls unit region syndrome) := recordFrame_record s _

/-- A region's record changed, then a value of the dictionary counted up. -/
theorem frame_setRegion_bump (s : State) (r : Nat) (x : Region) (key n : Nat) :
    OnlyChanges [.dict, .regions] s ((s.setRegion r x).bump key n) ∧ RegionIs s ((s.setRegion r x).bump key n) r x ∧
    ((s.setRegion r x).bump key n).dv key = (s.dv key + n) % 256 ^ entrySize key :=
  ⟨((onlyChanges_setRegion s r x).mono (by decide)).next (onlyChanges_bump _ key n),
    (regionIs_setRegion s r x).next (onlyChanges_bump _ key n), State.dv_setDv_same _ _ _⟩

/-- Settles O50: each row by the lemmas of what it does in the state of its device time. -/
theorem clockRowsTakeEffect : Obligations.ClockRowsTakeEffect := by
  unfold Obligations.ClockRowsTakeEffect
  intro r t s s0 x now here
  subst here
  have row {e : Instr} {f : State → State} {v : State} (acts : exec e s = .next (s.timed t f)) (ends : f s0 = v) : EndsIn e s v :=
    endsIn_timed acts (now ▸ ends)
  have region {f : Region} := regionIs_setRegion s0 r f
  refine ⟨fun may due => ⟨fun early => ?_, fun at' => ?_⟩, fun due => ?_, fun early => row rfl (if_neg early),
    fun none => row rfl (State.wakeRegion_idle none), fun asleep asked => ?_, fun v => ?_, fun half g grown => ⟨fun none => ?_,
    fun q first fits => row rfl (State.grantSlope_grants grown first fits)⟩, fun n wanted => ⟨fun barred => ?_,
    fun active idle fresh other may => ?_⟩, fun barred => row rfl (State.shutterStop_stays barred), fun c n asked point => ?_,
    fun none => row rfl (State.abandonPoint_none none), fun none => row rfl (State.retryPoint_none none),
    fun c later => ⟨fun early => ?_, fun due => ?_⟩, fun margin amp => ⟨fun asleep => row rfl (if_pos asleep), fun active => ?_⟩,
    fun mv => ⟨fun asleep => row rfl (if_pos asleep), fun active => ?_⟩, fun n => ⟨fun steady => ?_, fun stretched => ?_⟩,
    fun a v l acts replies => ?_⟩
  · have undue := of_decide_eq_false (due.symm.trans early)
    exact row rfl (State.gateRegion_stays undue)
  · have isDue := of_decide_eq_true (due.symm.trans at')
    obtain ⟨n, a, is⟩ := regionIs_gated s0 r
    exact ⟨_, _, onlyChanges_gated s0 r, row rfl (State.gateRegion_gates isDue), is, rfl⟩
  · exact ⟨_, row rfl (if_pos due), onlyChanges_setRegion s0 r _, region⟩
  · refine ⟨fun staged => row rfl (State.wakeRegion_staged asleep asked staged), fun first waits => ?_, fun first free a asks => ?_⟩
    all_goals have begins := State.wakeRegion_begins asleep asked first
    · rw [waits, if_pos rfl] at begins
      exact row rfl begins
    · rw [free, if_neg Bool.false_ne_true, ← asks] at begins
      refine ⟨fun gated light fits => ?_, fun gated light waits => ?_, fun slow => ?_⟩
      · rw [if_pos ⟨gated, light⟩, if_pos fits] at begins
        exact row rfl begins
      · rw [if_pos ⟨gated, light⟩, waits, if_neg Bool.false_ne_true] at begins
        exact row rfl begins
      · have staged : ¬ ((s0.region r).power = 1 ∧ s0.heavyNeighbour r = false) := by
          rintro ⟨gated, light⟩
          obtain off | heavy := slow
          · omega
          · exact Bool.false_ne_true (light.symm.trans heavy)
        rw [if_neg staged] at begins
        obtain ⟨frame, is, counted⟩ := frame_setRegion_bump s0 r { s0.region r with staged := 16, stagedAt := s0.now } 0x300900 1
        exact ⟨_, row rfl begins, frame, is, counted⟩
  · obtain ⟨active, unasked, unstaged⟩ := v.region_awakened r
    exact ⟨v.awakened r, rfl, active, unasked, unstaged, onlyChanges_awakened v r⟩
  · exact row rfl (State.grantSlope_waits grown none)
  · exact row rfl (State.askPoint_stays (wanted ▸ barred))
  · subst wanted
    exact ⟨s0.pointAsked r, onlyChanges_setRegion s0 r _, region, row rfl (State.askPoint_asks active idle fresh other may)⟩
  · subst point
    have gives := State.abandonPoint_some asked
    refine ⟨fun ready active => ?_, fun late blocked => ?_, fun early => ?_⟩
    · obtain ⟨frame, is, counted⟩ := frame_setRegion_bump s0 r { s0.region r with point := s0.stopPoint r c, change := none } 0x300500
        (if s0.stopPoint r c = (s0.region r).point then 0 else 1)
      exact ⟨s0.switched r c, row rfl (State.shutterStop_switches asked ready active), frame, is, counted⟩
    · obtain ⟨frame, is, -⟩ := frame_setRegion_bump s0 r
        { s0.region r with change := none, retry := some { c with since := s0.now } } 0x300600 1
      have recorded := onlyChanges_recordOf ((s0.setRegion r
        { s0.region r with change := none, retry := some { c with since := s0.now } }).bump 0x300600 1) 0x3001 11 r (r + c.target * 2 ^ 8)
      exact ⟨s0.abandoned r c, row rfl (gives.trans (if_pos ⟨late, blocked⟩)), (frame.mono (by decide)).next recorded, is.next recorded⟩
    · refine row rfl (gives.trans (if_neg ?_))
      rintro ⟨late, blocked⟩
      obtain soon | ready := early
      · omega
      · exact Bool.false_ne_true (blocked.symm.trans ready)
  · exact row rfl ((State.retryPoint_some later).trans (if_neg (by omega)))
  · exact ⟨_, onlyChanges_onRegion s0 r _, regionIs_onRegion s0 r _, row rfl ((State.retryPoint_some later).trans (if_pos due))⟩
  · obtain ⟨current, point⟩ := (s0.region r).sampled_reading s0.now margin amp
    exact ⟨_, _, row rfl (State.sampleMonitor_active active margin amp), onlyChanges_setRegion s0 r _, region, current, point,
      fun low => Region.sampled_low low _ _, fun atLeast under => Region.sampled_middle atLeast under _ _,
      fun good first => Region.sampled_good good first _ _, fun a good since long => Region.sampled_rises good since long _⟩
  · obtain ⟨g, frame, is, kept, learnt⟩ := State.detectDroop_spec active mv
    refine ⟨_, _, row rfl rfl, frame, is, rfl, fun low => ⟨if_pos low, if_pos low⟩, fun seen higher => ?_, rfl, kept, learnt⟩
    have notLow : ¬ ((s0.region r).minVolt = 0 ∨ mv < (s0.region r).minVolt) := by omega
    exact ⟨if_neg notLow, if_neg notLow⟩
  · exact row rfl (if_neg (by rw [steady]; exact Bool.false_ne_true))
  · obtain ⟨frame, is, counted⟩ := frame_setRegion_bump s0 r { s0.region r with stretch := false, clearSince := s0.now } 0x300700 n
    exact ⟨_, row rfl (if_pos stretched), frame, is, counted⟩
  · subst acts replies
    refine ⟨fun own => exec_timeAlignExchange_free a own, fun sourced none => ?_, fun b sourced best => ?_, State.onlyChanges_sendTimeLoads⟩
    all_goals rw [exec_timeAlignExchange a sourced]
    · rw [none]
      rfl
    · obtain ⟨inside, least⟩ := bestSample_spec best
      exact ⟨inside, least, by rw [State.judgeExchange_best best]⟩

end Sys2Proof.Machine

/-! Scope of the block: writes of a master, values of the dictionary behind records, the power module, capping (O51). -/

namespace Sys2Proof.Machine

-- One proof after another: side by side, their threads take the compile of the whole text past its memory limit.
set_option Elab.async false

/-! ### Writes of a master, and values of the dictionary behind a record -/

section MasterWrites
variable {s u : State} {m : Master} {key len value st : Nat} {f : State → State × Nat}

theorem State.masterWrite_done (may : MayWrite s m key len) (acts : f (s.renewHold m) = (u, st)) (done : refusedStatus st = false) :
    (s.masterWrite m key len value f).1 = u.written m key value := by
  rw [State.masterWrite_may may (by rw [acts]; exact done), acts]

theorem State.masterWrite_stays (may : MayWrite s m key len) (acts : f (s.renewHold m) = (u, st)) (refused : refusedStatus st = true) :
    (s.masterWrite m key len value f).1 = u := by
  rw [State.masterWrite_refused may (by rw [acts]; exact refused), acts]

end MasterWrites

theorem State.dv_latch {key : Nat} (away : key ≠ 0x110300 ∧ key ≠ 0x110700) (s : State) (bit : Nat) : (s.latch bit).dv key = s.dv key := by
  rw [State.latch, State.dv_setDv_ne _ _ away.2, State.dv_setDv_ne _ _ away.1]

/-- R409, R414: a record changes no value of the dictionary but the latched health. -/
theorem State.dv_record {key : Nat} (away : key ≠ 0x110300 ∧ key ≠ 0x110700) (s : State) (e : ErrRecord) :
    (s.record e).dv key = s.dv key := by
  unfold State.record State.ringRec
  dsimp only
  split
  · rfl
  split
  · rw [State.dv_latch away]
    rfl
  · rfl

theorem State.dv_recordOf {key : Nat} (away : key ≠ 0x110300 ∧ key ≠ 0x110700) (s : State) (cls unit region syndrome : Nat) :
    (s.recordOf cls unit region syndrome).dv key = s.dv key := State.dv_record away s _

theorem OnlyChanges.power {fs : List Field} {s u : State} (h : OnlyChanges fs s u) (outside : Field.power ∉ fs := by decide) :
    u.power = s.power := h .power outside

theorem State.dv_renewHold (s : State) (m : Master) (key : Nat) : (s.renewHold m).dv key = s.dv key :=
  (onlyChanges_renewHold s m).dv (by decide) key

/-- Every region below `n` changed by the same rule. -/
theorem State.region_foldl_onRegion (f : Nat → Region → Region) (n : Nat) (s : State) (j : Nat) :
    ((List.range n).foldl (fun x r => x.onRegion r (f r)) s).region j = if j < n then f j (s.region j) else s.region j := by
  induction n generalizing j with
  | zero => rfl
  | succ n ih =>
    rw [List.range_succ, List.foldl_append, List.foldl_cons, List.foldl_nil, State.region_onRegion, ih, ih, if_neg (Nat.lt_irrefl n)]
    obtain earlier | here | later := Nat.lt_trichotomy j n
    · rw [if_neg (by omega), if_pos earlier, if_pos (by omega)]
    · rw [if_pos here, if_pos (by omega), here]
    · rw [if_neg (by omega), if_neg (by omega), if_neg (by omega)]

theorem onlyChanges_foldl_onRegion (f : Nat → Region → Region) (xs : List Nat) (s : State) :
    OnlyChanges [.regions] s (xs.foldl (fun x r => x.onRegion r (f r)) s) :=
  OnlyChanges.foldl (fun u r => onlyChanges_onRegion u r _) s xs

/-! ### Throttle reasons up to a device time (R370, R384) -/

theorem onlyChanges_throttleTime (s : State) (reason ns : Nat) : OnlyChanges [.dict] s (s.throttleTime reason ns) :=
  onlyChanges_setDv s _ _

theorem onlyChanges_throttleEvent (s : State) (reason : Nat) : OnlyChanges [.dict] s (s.throttleEvent reason) :=
  onlyChanges_setDv s _ _

/-- The values of the dictionary that time under throttle reasons leaves (R370, R384). -/
def unthrottled (key : Nat) : Prop := key / 256 ≠ 0x2020 ∧ key ≠ 0x284100

/-- R370: time under every reason that holds, counted. -/
def State.reasonsTimed (s : State) (dt : Nat) : State :=
  heldReasons.foldl (fun x r => if (s.heldBy r).isEmpty || dt == 0 then x else x.throttleTime r ((s.heldBy r).length * dt)) s

/-- R370, R384: keep-warm time counted behind it. -/
def State.warmTimed (s : State) (dt : Nat) : State :=
  let warm := ((List.range 32).filter (fun c => (s.cluster c).pattern.isSome && (s.region c).power == 0)).length
  if warm = 0 then s.reasonsTimed dt else (s.reasonsTimed dt).bump 0x284100 (warm * dt)

theorem onlyChanges_warmTimed (s : State) (dt : Nat) : OnlyChanges [.dict] s (s.warmTimed dt) := by
  have held : OnlyChanges [.dict] s (s.reasonsTimed dt) :=
    OnlyChanges.foldl (fun u r => OnlyChanges.ite (OnlyChanges.refl _ u) (onlyChanges_throttleTime u _ _)) s _
  exact OnlyChanges.ite held (held.trans (onlyChanges_bump _ _ _))

theorem State.dv_reasonsTimed {key : Nat} (away : key / 256 ≠ 0x2020) (s : State) (dt : Nat) : (s.reasonsTimed dt).dv key = s.dv key := by
  refine foldl_keeps (fun a b => b.dv key = a.dv key) (fun _ => rfl)
    (fun a b c (h : b.dv key = a.dv key) (g : c.dv key = b.dv key) => g.trans h) _ _ (fun a r inside => ?_) s
  have small : r < 256 := by
    simp only [heldReasons, List.mem_cons, List.not_mem_nil, or_false] at inside
    omega
  split
  · rfl
  · exact State.dv_setDv_ne _ _ (by omega)

theorem State.dv_warmTimed {key : Nat} (away : unthrottled key) (s : State) (dt : Nat) : (s.warmTimed dt).dv key = s.dv key := by
  obtain ⟨reason, warm⟩ := away
  unfold State.warmTimed
  dsimp only
  split
  · exact s.dv_reasonsTimed reason dt
  · exact (State.dv_setDv_ne _ _ warm).trans (s.dv_reasonsTimed reason dt)

theorem accrue_spec (s : State) (t : Nat) : OnlyChanges [.dict, .power] s (s.accrue t) ∧
    ∀ key, unthrottled key → (s.accrue t).dv key = s.dv key :=
  ⟨((onlyChanges_warmTimed s _).mono (by decide)).next (onlyChanges_power _ _), fun _ away => s.dv_warmTimed away _⟩

theorem tick_own_time (s : State) : s.tick s.now = s := by
  rw [State.tick, Nat.max_self, ite_self]

/-- A row that acts at the time the device has already. -/
theorem atTime_own_spec (s : State) : OnlyChanges [.dict, .power] s (s.atTime s.now) ∧
    ∀ key, unthrottled key → (s.atTime s.now).dv key = s.dv key := by
  obtain ⟨frame, spared⟩ := accrue_spec s s.now
  have stays : s.atTime s.now = s.accrue s.now := by
    have same := tick_own_time (s.accrue s.now)
    rw [frame.now] at same
    rw [State.atTime, tick_own_time, same]
  rw [stays]
  exact ⟨frame, spared⟩

/-! ### The slope governor (R363) -/

theorem onlyChanges_setGovernor (s : State) (east : Bool) (g : Governor) : OnlyChanges [.power] s (s.setGovernor east g) :=
  onlyChanges_onPower s (fun p => if east then { p with east := g } else { p with west := g })

theorem onlyChanges_askSlope (s : State) (kind region step : Nat) (who : Nat × Nat) :
    OnlyChanges [.dict, .power] s (s.askSlope kind region step who).1 := by
  unfold State.askSlope
  dsimp only
  split
  · exact (onlyChanges_setGovernor s _ _).mono (by decide)
  · exact ((onlyChanges_setGovernor s _ _).mono (by decide)).next (onlyChanges_throttleEvent _ 4)

theorem State.power_setGovernor (s : State) (east : Bool) (g : Governor) :
    ∃ x y, (s.setGovernor east g).power = { s.power with west := x, east := y } := by
  cases east
  · exact ⟨g, s.power.east, rfl⟩
  · exact ⟨s.power.west, g, rfl⟩

/-- R363: a request of the governor leaves the slot of interval mode. -/
theorem State.power_askSlope (s : State) (kind region step : Nat) (who : Nat × Nat) :
    ∃ x y, (s.askSlope kind region step who).1.power = { s.power with west := x, east := y } := by
  unfold State.askSlope
  dsimp only
  split
  · exact s.power_setGovernor _ _
  · exact s.power_setGovernor _ _

/-! ### Guard band and slices (R357, R359) -/

/-- R357: the guard band is over, the rail not lowered yet. -/
def State.guardOver (s : State) : State :=
  ((List.range 48).foldl (fun x r => (x.onRegion r (fun y => { y with margin := Config.freeNat x.fresh % 21 })).drawn) s).setDv
    0x300B00 0

theorem onlyChanges_guardOver (s : State) : OnlyChanges [.fresh, .dict, .regions] s s.guardOver :=
  (OnlyChanges.foldl (fun u r => ((onlyChanges_onRegion u r _).mono (by decide)).next (onlyChanges_drawn _)) s _).next
    (onlyChanges_setDv _ _ _)

theorem State.margin_guardOver (s : State) {r : Nat} (inside : r < 48) : (s.guardOver.region r).margin ≤ 20 := by
  rw [State.guardOver, (onlyChanges_setDv _ _ _).region]
  have few (n : Nat) : n % 21 ≤ 20 := Nat.le_of_lt_succ (Nat.mod_lt _ (by decide))
  refine foldl_establishes (P := fun r (x : State) => (x.region r).margin ≤ 20) (fun j k a low => ?_) (fun k a => ?_) _
    (.inl (List.mem_range.2 inside))
  · rw [(onlyChanges_drawn _).region, State.region_onRegion]
    split
    · exact few _
    · exact low
  · rw [(onlyChanges_drawn _).region, State.region_onRegion_same]
    exact few _

/-- R359: a region's record with one slice more failed. -/
def Region.sliceFailed (x : Region) (slice : Nat) : Region := { x with failed := x.failed ||| BitVec.ofNat 16 (2 ^ slice) }

/-- R359: the slice failed and recorded; a region that is to go dark is not dark yet. -/
def State.sliceFailed (s : State) (r slice : Nat) : State :=
  (s.setRegion r ((s.region r).sliceFailed slice)).recordOf 0x2002 11 r (slice + ((s.region r).sliceFailed slice).failures * 2 ^ 8)

theorem State.failSlice_stays {s : State} {r slice : Nat} (gone : (s.region r).power = 3 ∨ (s.region r).failed.getLsbD slice = true) :
    s.failSlice r slice = s := if_pos gone

theorem State.failSlice_fails {s : State} {r slice : Nat} (lit : (s.region r).power ≠ 3)
    (whole : (s.region r).failed.getLsbD slice = false) : s.failSlice r slice =
      if 3 ≤ ((s.region r).sliceFailed slice).failures then (s.sliceFailed r slice).goDark r 1 else s.sliceFailed r slice := by
  have may : ¬ ((s.region r).power = 3 ∨ (s.region r).failed.getLsbD slice = true) := by
    rw [whole]
    rintro (dark | never)
    · exact lit dark
    · cases never
  refine (if_neg may).trans ?_
  rw [(regionIs_setRegion s r _).1]
  rfl

theorem sliceFailed_spec (s : State) (r slice : Nat) : OnlyChanges [.regions, .dict, .log, .logSeq, .mgmt] s (s.sliceFailed r slice) ∧
    RegionIs s (s.sliceFailed r slice) r ((s.region r).sliceFailed slice) := by
  have recorded := onlyChanges_recordOf (s.setRegion r ((s.region r).sliceFailed slice)) 0x2002 11 r
    (slice + ((s.region r).sliceFailed slice).failures * 2 ^ 8)
  exact ⟨((onlyChanges_setRegion s r _).mono (by decide)).next recorded, (regionIs_setRegion s r _).next recorded⟩

/-! ### Minimum voltages (R361) -/

/-- R361: no minimum recorded. -/
def Region.voltCleared (y : Region) : Region := { y with minVolt := 0, minAt := 0 }

theorem State.clearVolt_other {n : Nat} (s : State) (beyond : 48 ≤ n) (some' : n ≠ 0xFF) : s.clearVolt n = (s, St.reservedSetDict) :=
  (if_neg (by omega)).trans (if_neg some')

/-- R361: the minima a write clears, and no other. -/
theorem State.clearVolt_spec {n : Nat} (s : State) (named : n < 48 ∨ n = 0xFF) : ∃ u : State, s.clearVolt n = (u, St.ok) ∧
    OnlyChanges [.regions] s u ∧ ∀ j, j < 48 → u.region j = if j = n ∨ n = 0xFF then (s.region j).voltCleared else s.region j := by
  by_cases all : n = 0xFF
  · subst all
    have write : s.clearVolt 0xFF = ((List.range 48).foldl (fun x r => x.onRegion r Region.voltCleared) s, St.ok) := by
      unfold State.clearVolt
      rw [if_neg (by decide), if_pos rfl]
      rfl
    refine ⟨_, write, onlyChanges_foldl_onRegion (fun _ => Region.voltCleared) _ s, fun j inside => ?_⟩
    rw [if_pos (.inr rfl)]
    exact (State.region_foldl_onRegion (fun _ => Region.voltCleared) 48 s j).trans (if_pos inside)
  · refine ⟨_, if_pos (by omega), onlyChanges_onRegion s n Region.voltCleared, fun j _ => ?_⟩
    rw [State.region_onRegion]
    by_cases here : j = n
    · rw [if_pos here, if_pos (.inl here), here]
      rfl
    · rw [if_neg here, if_neg (by rintro (same | every); exacts [here same, all every])]

/-! ### AVSBus and the supply limit (R356, R358) -/

/-- The fields that the power module's readings may change. -/
def supplyFields : List Field := [.dict, .log, .logSeq, .power, .mgmt]

theorem supplyFrame_record (s : State) (row : Nat) : OnlyChanges supplyFields s (s.supplyRecord row) :=
  (onlyChanges_recordOf s _ _ _ _).mono (by decide)

theorem supplyFrame_onPower (s : State) (f : Power → Power) : OnlyChanges supplyFields s (s.onPower f) :=
  (onlyChanges_onPower s f).mono (by decide)

theorem supplyFrame_setDv (s : State) (key v : Nat) : OnlyChanges supplyFields s (s.setDv key v) :=
  (onlyChanges_setDv s key v).mono (by decide)

theorem State.power_supplyRecord (s : State) (row : Nat) : (s.supplyRecord row).power = s.power :=
  (onlyChanges_recordOf s _ _ _ _).power

/-- R356, R358: a valid reply ends the silence; the time of the reading stays. -/
theorem avsReply_spec (s : State) (mv centiAmp : Nat) : OnlyChanges supplyFields s (s.avsReply mv centiAmp) ∧
    (s.avsReply mv centiAmp).power.avsAt = s.power.avsAt ∧ (s.avsReply mv centiAmp).power.avsSilent = false := by
  have judged (v : State) (f : Power → Power) : OnlyChanges supplyFields v ((v.onPower f).judgeRail mv) :=
    (supplyFrame_onPower v f).trans (supplyFrame_onPower _ _)
  have read : OnlyChanges supplyFields s ((((s.setDv 0x200400 (f32RatioInt mv 1000)).setDv 0x200500 (f32RatioInt centiAmp 100)).onPower
      (fun p => { p with railMv := mv, avsFails := 0, avsSilent := false })).judgeRail mv) :=
    ((supplyFrame_setDv s _ _).trans (supplyFrame_setDv _ _ _)).trans (judged _ _)
  have reading (v : State) (p : Power) : ((v.onPower (fun _ => p)).judgeRail mv).power.avsAt = p.avsAt ∧
      ((v.onPower (fun _ => p)).judgeRail mv).power.avsSilent = p.avsSilent := by
    unfold State.judgeRail State.onPower
    dsimp only
    split <;> exact ⟨rfl, rfl⟩
  unfold State.avsReply
  dsimp only
  split
  · exact ⟨read.trans (supplyFrame_record _ _), by rw [State.power_supplyRecord]; exact reading _ _⟩
  split
  · exact ⟨read.trans (supplyFrame_record _ _), by rw [State.power_supplyRecord]; exact reading _ _⟩
  · exact ⟨read, reading _ _⟩

/-- R358: a transaction without a valid reply keeps a silence. -/
theorem avsFailed_spec (s : State) : OnlyChanges supplyFields s s.avsFailed ∧ s.avsFailed.power.avsAt = s.power.avsAt ∧
    (s.power.avsSilent = true → s.avsFailed.power.avsSilent = true) := by
  unfold State.avsFailed
  dsimp only
  split
  · exact ⟨((supplyFrame_onPower s _).trans (supplyFrame_onPower _ _)).trans (supplyFrame_record _ _),
      by rw [State.power_supplyRecord]; rfl, fun _ => by rw [State.power_supplyRecord]; rfl⟩
  · exact ⟨supplyFrame_onPower s _, rfl, id⟩

/-- R358: the time of a reading of AVSBus noted. -/
def State.avsNoted (s : State) : State := s.onPower (fun p => { p with avsAt := s.now })

theorem avsRead_spec {s : State} (silent : s.power.avsSilent = true) (reply : Option (Nat × Nat)) :
    OnlyChanges supplyFields s (s.avsRead reply) ∧ (s.avsRead reply).power.avsAt = s.now ∧
    (s.avsRead reply).power.avsSilent = reply.isNone := by
  have noted : OnlyChanges supplyFields s s.avsNoted := supplyFrame_onPower s _
  cases reply with
  | none =>
    obtain ⟨frame, at', kept⟩ := avsFailed_spec s.avsNoted
    exact ⟨noted.trans frame, at', kept silent⟩
  | some x =>
    obtain ⟨frame, at', heard⟩ := avsReply_spec s.avsNoted x.1 x.2
    exact ⟨noted.trans frame, at', heard⟩

/-- R358: the low rail of this spell recorded. -/
def State.lowNoted (s : State) : State :=
  if s.power.lowReported then s else (s.onPower (fun p => { p with lowReported := true })).supplyRecord 2

theorem lowNoted_spec (s : State) : OnlyChanges supplyFields s s.lowNoted ∧ s.lowNoted.power = { s.power with lowReported := true } := by
  unfold State.lowNoted
  split
  next noted => exact ⟨OnlyChanges.refl _ s, by rw [← noted]⟩
  next => exact ⟨(supplyFrame_onPower s _).trans (supplyFrame_record _ _), State.power_supplyRecord _ _⟩

theorem supplyDown_spec (s : State) : OnlyChanges [.regions] s s.supplyDown ∧
    ∀ r, r < 32 → s.supplyDown.region r = { s.region r with supply := min (s.region r).supply (s.region r).point - 1 } := by
  unfold State.supplyDown
  refine ⟨onlyChanges_foldl_onRegion _ _ s, fun r inside => ?_⟩
  rw [State.region_foldl_onRegion (fun _ y => { y with supply := min y.supply y.point - 1 }), if_pos inside]

theorem supplyUp_spec (s : State) : OnlyChanges [.regions] s s.supplyUp ∧
    ∀ r, r < 32 → s.supplyUp.region r = { s.region r with supply := min 7 ((s.region r).supply + 1) } := by
  unfold State.supplyUp
  refine ⟨onlyChanges_foldl_onRegion _ _ s, fun r inside => ?_⟩
  rw [State.region_foldl_onRegion (fun _ y => { y with supply := min 7 (y.supply + 1) }), if_pos inside]

/-- R358: the time of a step of the supply limit noted. -/
def State.supplyNoted (s : State) (now : Nat) : State := s.onPower (fun p => { p with supplyAt := now })

/-- R358: what a step of the supply limit leaves. -/
def State.supplyStep (s : State) : State :=
  match s.power.railLow, s.power.railGood with
  | some a, _ =>
    if a + 1000000 ≤ s.now ∧ (s.power.supplyAt = 0 ∨ s.power.supplyAt + 100000 ≤ s.now) then s.lowNoted.supplyDown.supplyNoted s.now else s
  | none, some a =>
    if a + 10000000 ≤ s.now ∧ s.power.supplyAt + 1000000 ≤ s.now then s.supplyUp.supplyNoted s.now else s
  | none, none => s

theorem State.supplyStep_low {s : State} {a : Nat} (low : s.power.railLow = some a) : s.supplyStep =
    if a + 1000000 ≤ s.now ∧ (s.power.supplyAt = 0 ∨ s.power.supplyAt + 100000 ≤ s.now) then s.lowNoted.supplyDown.supplyNoted s.now
    else s := by
  rw [State.supplyStep, low]

theorem State.supplyStep_good {s : State} {a : Nat} (high : s.power.railLow = none) (good : s.power.railGood = some a) : s.supplyStep =
    if a + 10000000 ≤ s.now ∧ s.power.supplyAt + 1000000 ≤ s.now then s.supplyUp.supplyNoted s.now else s := by
  rw [State.supplyStep, high, good]

theorem State.supplyStep_unknown {s : State} (high : s.power.railLow = none) (unknown : s.power.railGood = none) : s.supplyStep = s := by
  rw [State.supplyStep, high, unknown]

theorem exec_supplyLimitStep (s : State) (t : Nat) : exec (.supplyLimitStep t) s = .next (s.timed t State.supplyStep) := rfl

theorem supplyLowered_spec (s : State) : OnlyChanges [.regions, .power, .dict, .log, .logSeq, .mgmt] s
    (s.lowNoted.supplyDown.supplyNoted s.now) ∧
    (s.lowNoted.supplyDown.supplyNoted s.now).power = { s.power with lowReported := true, supplyAt := s.now } ∧
    ∀ r, r < 32 → (s.lowNoted.supplyDown.supplyNoted s.now).region r =
      { s.region r with supply := min (s.region r).supply (s.region r).point - 1 } := by
  obtain ⟨frame, power⟩ := lowNoted_spec s
  obtain ⟨down, lowered⟩ := supplyDown_spec s.lowNoted
  refine ⟨((frame.mono (by decide)).next down).next (onlyChanges_onPower _ _), ?_, fun r inside => ?_⟩
  · rw [State.supplyNoted, State.onPower, down.power, power]
  · rw [State.supplyNoted, (onlyChanges_onPower _ _).region, lowered r inside, frame.region]

theorem supplyRaised_spec (s : State) : OnlyChanges [.regions, .power] s (s.supplyUp.supplyNoted s.now) ∧
    (s.supplyUp.supplyNoted s.now).power = { s.power with supplyAt := s.now } ∧
    ∀ r, r < 32 → (s.supplyUp.supplyNoted s.now).region r = { s.region r with supply := min 7 ((s.region r).supply + 1) } := by
  obtain ⟨up, raised⟩ := supplyUp_spec s
  refine ⟨(up.mono (by decide)).next (onlyChanges_onPower _ _), ?_, fun r inside => ?_⟩
  · rw [State.supplyNoted, State.onPower, up.power]
  · rw [State.supplyNoted, (onlyChanges_onPower _ _).region, raised r inside]

/-! ### PMBus (R356, R358) -/

/-- The fields that a read of PMBus may change. -/
def pmbusFields : List Field := [.egress, .dict, .log, .logSeq, .power, .mgmt]

theorem State.dv_supplyRecord {key : Nat} (away : key ≠ 0x110300 ∧ key ≠ 0x110700) (s : State) (row : Nat) :
    (s.supplyRecord row).dv key = s.dv key := State.dv_recordOf away s _ _ _ _

theorem pmbusStatus_spec (s : State) (w : Nat) : OnlyChanges pmbusFields s (s.pmbusStatus w) ∧ (s.pmbusStatus w).dv 0x203200 = w ∧
    (s.pmbusStatus w).power.pmbusFault = decide (w ≠ 0) := by
  have shown : OnlyChanges pmbusFields s (s.setDv 0x203200 w) := (onlyChanges_setDv s _ _).mono (by decide)
  have value : (s.setDv 0x203200 w).dv 0x203200 = w := State.dv_setDv_same s _ w
  unfold State.pmbusStatus
  dsimp only
  split
  next good => exact ⟨shown.next (onlyChanges_onPower _ _), value, by rw [good]; rfl⟩
  next bad =>
    rw [decide_eq_true bad]
    split
    next known => exact ⟨shown, value, known⟩
    next =>
      refine ⟨((shown.next (onlyChanges_onPower _ _)).next (onlyChanges_recordOf _ _ _ _ _)).next (onlyChanges_send _ _), ?_, ?_⟩
      · exact (State.dv_supplyRecord (by decide) _ 4).trans value
      · exact congrArg Power.pmbusFault (State.power_supplyRecord _ 4)

theorem pmbusFeed_spec (s : State) (feed : List Byte) : OnlyChanges pmbusFields s (s.pmbusFeed feed) ∧
    (s.pmbusFeed feed).power = { s.power with feedBad := feed.length != 16 } ∧
    (s.pmbusFeed feed).dv 0x203200 = s.dv 0x203200 ∧
    (s.pmbusFeed feed).dv 0x600900 = if feed.length = 16 then leNat feed else 0 := by
  have noted : OnlyChanges pmbusFields s (s.onPower (fun p => { p with feedBad := feed.length != 16 })) :=
    (onlyChanges_onPower s _).mono (by decide)
  have other (v : State) (n : Nat) : (v.setDv 0x600900 n).dv 0x203200 = v.dv 0x203200 := State.dv_setDv_ne v n (by decide)
  unfold State.pmbusFeed
  dsimp only
  split
  · exact ⟨noted.next (onlyChanges_setDv _ _ _), rfl, other _ _, State.dv_setDv_same _ _ _⟩
  · exact ⟨(noted.next (onlyChanges_setDv _ _ _)).next (onlyChanges_recordOf _ _ _ _ _), State.power_supplyRecord _ 5,
      (State.dv_supplyRecord (by decide) _ 5).trans (other _ _),
      (State.dv_supplyRecord (by decide) _ 5).trans (State.dv_setDv_same _ _ _)⟩

/-- R356, R358: STATUS_WORD taken, where it was read. -/
def State.statusTaken (s : State) : Option (BitVec 16) → State
  | some w => s.pmbusStatus w.toNat
  | none => s

/-- What a read of PMBus leaves. -/
def State.pmbusTaken (s : State) (st : Option (BitVec 16)) (feed : List Byte) : State :=
  if feed.isEmpty then s.statusTaken st else (s.statusTaken st).pmbusFeed feed

theorem exec_pmbusRead (s : State) (st : Option (BitVec 16)) (feed : List Byte) (t : Nat) :
    exec (.pmbusRead st feed t) s = .next (s.timed t (fun s => s.pmbusTaken st feed)) := by
  cases st <;> rfl

theorem State.pmbusTaken_unfed (s : State) (st : Option (BitVec 16)) : s.pmbusTaken st [] = s.statusTaken st :=
  if_pos List.isEmpty_nil

theorem State.pmbusTaken_feed (s : State) (st : Option (BitVec 16)) {feed : List Byte} (asked : feed ≠ []) :
    s.pmbusTaken st feed = (s.statusTaken st).pmbusFeed feed :=
  if_neg (fun empty => asked (List.isEmpty_iff.1 empty))

theorem statusTaken_spec (s : State) (st : Option (BitVec 16)) : OnlyChanges pmbusFields s (s.statusTaken st) ∧
    (∀ x, st = some x → (s.statusTaken st).dv 0x203200 = x.toNat ∧ (s.statusTaken st).power.pmbusFault = decide (x ≠ 0)) ∧
    (st = none → s.statusTaken st = s) := by
  cases st with
  | none => exact ⟨OnlyChanges.refl _ s, fun _ never => (by cases never), fun _ => rfl⟩
  | some w =>
    obtain ⟨frame, value, fault⟩ := pmbusStatus_spec s w.toNat
    have nonzero : decide (w.toNat ≠ 0) = decide (w ≠ 0) :=
      decide_eq_decide.2 (not_congr (by rw [← BitVec.toNat_inj, BitVec.ofNat_eq_ofNat, BitVec.toNat_ofNat, Nat.zero_mod]))
    refine ⟨frame, fun x same => ?_, fun never => (by cases never)⟩
    cases same
    exact ⟨value, fault.trans nonzero⟩

theorem pmbusTaken_spec (s : State) (st : Option (BitVec 16)) (feed : List Byte) :
    OnlyChanges pmbusFields s (s.pmbusTaken st feed) ∧
    (∀ x, st = some x → (s.pmbusTaken st feed).dv 0x203200 = x.toNat ∧ (s.pmbusTaken st feed).power.pmbusFault = decide (x ≠ 0)) ∧
    (st = none → (s.pmbusTaken st feed).power = { s.power with feedBad := (s.pmbusTaken st feed).power.feedBad } ∧
      (s.pmbusTaken st feed).dv 0x203200 = s.dv 0x203200) ∧
    (feed ≠ [] → (s.pmbusTaken st feed).dv 0x600900 = if feed.length = 16 then leNat feed else 0) := by
  obtain ⟨first, shown, unread⟩ := statusTaken_spec s st
  by_cases asked : feed = []
  · subst asked
    rw [s.pmbusTaken_unfed st]
    exact ⟨first, shown, fun none => by rw [unread none]; exact ⟨rfl, rfl⟩, fun never => absurd rfl never⟩
  · obtain ⟨frame, power, kept, value⟩ := pmbusFeed_spec (s.statusTaken st) feed
    rw [s.pmbusTaken_feed st asked]
    refine ⟨first.trans frame, fun x same => ?_, fun none => ?_, fun _ => value⟩
    · obtain ⟨word, fault⟩ := shown x same
      exact ⟨kept.trans word, (congrArg Power.pmbusFault power).trans fault⟩
    · rw [kept, power, unread none]
      exact ⟨rfl, rfl⟩

/-! ### Capping and the power loop (R367 to R369) -/

theorem State.capWriteNow_high {w : Nat} (s : State) (high : 1250 < w) : s.capWriteNow w = (s, St.reservedSetDict) := if_pos high

/-- R367, R368: the cap, its effect and the ceiling set. -/
def State.capped (s : State) (w : Nat) : State :=
  ((s.setDv 0x200100 w).setDv 0x200200 (max 90 w)).onPower (fun p =>
    { p with ceiling := ceilingFor ((s.setDv 0x200100 w).setDv 0x200200 (max 90 w)).powerLimit })

theorem capped_spec (s : State) (w : Nat) : OnlyChanges [.dict, .power] s (s.capped w) ∧ (s.capped w).dv 0x200100 = w ∧
    (s.capped w).dv 0x200200 = max 90 w ∧ (s.capped w).power.ceiling = ceilingFor (min (max 90 w) (s.dv 0x280600)) := by
  refine ⟨?_, ?_, State.dv_setDv_same (s.setDv 0x200100 w) 0x200200 _, ?_⟩
  · exact (((onlyChanges_setDv s _ _).mono (by decide)).next (onlyChanges_setDv _ _ _)).next (onlyChanges_onPower _ _)
  · exact (State.dv_setDv_ne (s.setDv 0x200100 w) _ (by decide)).trans (State.dv_setDv_same s _ w)
  · have limit : ((s.setDv 0x200100 w).setDv 0x200200 (max 90 w)).powerLimit = min (max 90 w) (s.dv 0x280600) := by
      rw [State.powerLimit, State.dv_setDv_same, State.dv_setDv_ne _ _ (by decide), State.dv_setDv_ne _ _ (by decide)]
    exact congrArg ceilingFor limit

/-- R370: the start of a floor that held already is an event too. -/
def State.floorCounted (s : State) (again : Bool) : State := if again then s.throttleEvent 2 else s

theorem throttled_floorCounted (s : State) (again : Bool) : Throttled s (s.floorCounted again) := by
  unfold State.floorCounted
  split
  · exact throttled_throttleEvent s (by decide)
  · exact Throttled.refl s

theorem State.capWriteNow_low {w : Nat} (s : State) (fits : w ≤ 1250) : s.capWriteNow w =
    ((s.timed s.now (fun s => s.capped w)).floorCounted (decide (s.dv 0x200100 < 90 ∧ w < 90)),
      if w < 90 then St.capBelowFloor else St.ok) := if_neg (by omega)

theorem State.capWriteNow_spec {w : Nat} (s : State) (fits : w ≤ 1250) : ∃ (u : State) (st : Nat), s.capWriteNow w = (u, st) ∧
    refusedStatus st = false ∧ OnlyChanges [.dict, .power] s u ∧ u.dv 0x200100 = w ∧ u.dv 0x200200 = max 90 w ∧
    u.power.ceiling = ceilingFor (min (max 90 w) (s.dv 0x280600)) := by
  obtain ⟨arrived, spared⟩ := atTime_own_spec s
  obtain ⟨set, cap, effect, ceiling⟩ := capped_spec (s.atTime s.now) w
  have ⟨frame, kept⟩ := (throttled_timed s s.now (fun s => s.capped w)).trans (throttled_floorCounted _ (decide (s.dv 0x200100 < 90 ∧ w < 90)))
  refine ⟨_, _, s.capWriteNow_low fits, ?_, (arrived.trans set).next frame, (kept _ (by decide)).trans cap,
    (kept _ (by decide)).trans effect, ?_⟩
  · split <;> decide
  · rw [frame.power, ceiling, spared 0x280600 ⟨by decide, by decide⟩]

/-- R367: the average of the last ms kept. -/
def State.averaged (s : State) (watts : Nat) : State :=
  (s.setDv 0x200300 (f32RatioInt watts 1)).onPower (fun p => { p with
    watts := watts, tickAt := s.now, history := (p.history ++ [(s.now, watts)]).filter (fun x => decide (s.now < x.1 + 10000000000)) })

/-- R367, R369: the loop's step by the average and the limit. -/
def State.looped (s : State) (watts : Nat) : State :=
  if s.powerLimit < watts then s.powerHigh
  else if 100 * watts < 95 * s.powerLimit then s.powerLow
  else s.onPower (fun p => { p with lowSince := none })

theorem powerHigh_spec (s : State) : OnlyChanges [.power] s s.powerHigh ∧ s.powerHigh.power.lowSince = none ∧
    (s.power.intervalOn = true → s.powerHigh.power.k = max 1 (s.power.k - 1)) ∧
    (s.power.intervalOn = false → 0 < s.power.ceiling → s.powerHigh.power.ceiling = s.power.ceiling - 1) ∧
    (s.power.intervalOn = false → s.power.ceiling = 0 → s.powerHigh.power.intervalOn = true ∧ s.powerHigh.power.k = 32) := by
  refine ⟨onlyChanges_onPower s _, ?_⟩
  unfold State.powerHigh State.onPower
  dsimp only
  cases slots : s.power.intervalOn
  · rw [if_neg Bool.false_ne_true]
    split
    next above => exact ⟨rfl, fun never => (by cases never), fun _ _ => rfl, fun _ zero => by omega⟩
    next zero => exact ⟨rfl, fun never => (by cases never), fun _ above => absurd above zero, fun _ _ => ⟨rfl, rfl⟩⟩
  · rw [if_pos rfl]
    exact ⟨rfl, fun _ => rfl, fun never => (by cases never), fun never => (by cases never)⟩

/-! ### Interval slots (R369) -/

theorem onlyChanges_restartRegion (s : State) (r : Nat) : OnlyChanges [.regions, .power, .dict] s (s.restartRegion r) := by
  unfold State.restartRegion
  split
  · have asked := (onlyChanges_askSlope s 3 r (s.currentStep 0 2 r) (0, 0)).mono (gs := [.regions, .power, .dict]) (by decide)
    dsimp only
    split
    · exact asked.next (onlyChanges_onRegion _ r _)
    · exact asked
  · exact OnlyChanges.refl _ s

theorem State.slot_restartRegion (s : State) (r : Nat) : (s.restartRegion r).power.slot = s.power.slot ∧
    (s.restartRegion r).power.slotAt = s.power.slotAt := by
  unfold State.restartRegion
  split
  · obtain ⟨west, east, power⟩ := s.power_askSlope 3 r (s.currentStep 0 2 r) (0, 0)
    dsimp only
    split
    · rw [(onlyChanges_onRegion _ r _).power, power]
      exact ⟨rfl, rfl⟩
    · rw [power]
      exact ⟨rfl, rfl⟩
  · exact ⟨rfl, rfl⟩

/-- R369: a cluster region as the running set of a slot leaves it. -/
def State.slotTurn (s : State) (p : Power) (r : Nat) : State :=
  if runsInSlot ((p.slot + p.k) % 32) p.k r then s.restartRegion r
  else
    let g := s.governor (eastRegion r)
    let x1 := s.setGovernor (eastRegion r) { g with waiting := g.waiting.filter (fun q => !(q.kind == 3 && q.who.1 == 0 && q.region == r)) }
    if (x1.region r).power = 0 then x1.onRegion r (fun y => { y with interval := true }) else x1

theorem slotTurn_spec (s : State) (p : Power) (r : Nat) : OnlyChanges [.regions, .power, .dict] s (s.slotTurn p r) ∧
    (s.slotTurn p r).power.slot = s.power.slot ∧ (s.slotTurn p r).power.slotAt = s.power.slotAt := by
  unfold State.slotTurn
  split
  · exact ⟨onlyChanges_restartRegion s r, s.slot_restartRegion r⟩
  · dsimp only
    have dropped (g : Governor) : OnlyChanges [.regions, .power, .dict] s (s.setGovernor (eastRegion r) g) :=
      (onlyChanges_setGovernor s _ g).mono (by decide)
    have slot (g : Governor) : (s.setGovernor (eastRegion r) g).power.slot = s.power.slot ∧
        (s.setGovernor (eastRegion r) g).power.slotAt = s.power.slotAt := by
      unfold State.setGovernor
      cases eastRegion r <;> exact ⟨rfl, rfl⟩
    split
    · exact ⟨(dropped _).next (onlyChanges_onRegion _ r _), slot _⟩
    · exact ⟨dropped _, slot _⟩

/-- R369: the running set moved on, the engines not told yet. -/
def State.slotMoved (s : State) : State :=
  (List.range 32).foldl (fun x r => x.slotTurn s.power r)
    (s.onPower (fun p => { p with slot := (s.power.slot + s.power.k) % 32, slotAt := s.now }))

theorem slotMoved_spec (s : State) : OnlyChanges [.regions, .power, .dict] s s.slotMoved ∧
    s.slotMoved.power.slot = (s.power.slot + s.power.k) % 32 ∧ s.slotMoved.power.slotAt = s.now :=
  ⟨((onlyChanges_onPower s _).mono (by decide)).trans (OnlyChanges.foldl (fun u r => (slotTurn_spec u s.power r).1) _ _),
    foldl_reads (fun x : State => x.power.slot) (fun u r => (slotTurn_spec u s.power r).2.1) _ _,
    foldl_reads (fun x : State => x.power.slotAt) (fun u r => (slotTurn_spec u s.power r).2.2) _ _⟩

/-- Settles O51: each row by the lemmas of what it does in the state of its device time. -/
theorem supplyAndCapRowsTakeEffect : Obligations.SupplyAndCapRowsTakeEffect := by
  unfold Obligations.SupplyAndCapRowsTakeEffect
  intro t s s0 now
  have row {e : Instr} {f : State → State} {v : State} (acts : exec e s = .next (s.timed t f)) (ends : f s0 = v) : EndsIn e s v :=
    endsIn_timed acts (now ▸ ends)
  refine ⟨fun due is => ⟨fun early => ?_, fun ended => ?_⟩, fun r k x here => ?_, fun m b may => ⟨fun beyond some' => ?_, fun named => ?_⟩,
    fun reply rises => ⟨fun early => row rfl (if_pos early), fun speaks late => ?_, fun early => ?_, fun silent late => ?_⟩,
    fun p power => ?_, fun st feed => ?_, fun m w may => ⟨fun high => ?_, fun fits => ?_⟩,
    fun watts => ⟨fun early => ?_, fun due => ?_⟩, fun early => ?_, fun slots due => ?_⟩
  · have undue := of_decide_eq_false (is.symm.trans early)
    exact row rfl (if_neg undue)
  · have isDue := of_decide_eq_true (is.symm.trans ended)
    exact ⟨s0.guardOver, row rfl (if_pos isDue), onlyChanges_guardOver s0, State.dv_setDv_same _ _ _,
      fun r inside => s0.margin_guardOver inside⟩
  · subst here
    refine ⟨fun gone => row rfl (State.failSlice_stays gone), fun lit whole => ?_⟩
    have fails := State.failSlice_fails lit whole
    obtain ⟨frame, is⟩ := sliceFailed_spec s0 r k
    exact ⟨_, _, rfl, frame, is, fun few => row rfl (fails.trans (if_neg (by exact Nat.not_le.2 few))),
      fun many => row rfl (fails.trans (if_pos many))⟩
  · have write := (s.renewHold m).clearVolt_other beyond (fun all => some' (BitVec.eq_of_toNat_eq all))
    exact congrArg Host.Outcome.next (State.masterWrite_stays may write (by decide))
  · have all : b = 0xFF ↔ b.toNat = 0xFF := ⟨fun h => by rw [h]; rfl, fun h => BitVec.eq_of_toNat_eq h⟩
    rw [all] at named
    simp only [all]
    obtain ⟨u, write, frame, cleared⟩ := (s.renewHold m).clearVolt_spec named
    refine ⟨u, congrArg Host.Outcome.next (State.masterWrite_done may write (by decide)), frame, fun j inside => ?_⟩
    rw [cleared j inside, (onlyChanges_renewHold s m).region (by decide)]
    rfl
  · have due : ¬ (s0.power.avsSilent = true ∨ (s0.power.avsAt ≠ 0 ∧ s0.now < s0.power.avsAt + 20000)) := by
      rw [speaks]
      rintro (never | early)
      · cases never
      · omega
    refine ⟨s0.avsNoted, s0.avsRead reply, rfl, onlyChanges_onPower s0 _, fun x told => by rw [told]; rfl, fun none => by rw [none]; rfl,
      row rfl ((if_neg due).trans ?_)⟩
    cases rises <;> rfl
  · refine row rfl (if_neg ?_)
    rintro ⟨silent, late⟩
    obtain speaks | soon := early
    · exact Bool.false_ne_true (speaks.symm.trans silent)
    · omega
  · obtain ⟨frame, at', heard⟩ := avsRead_spec silent reply
    refine ⟨s0.avsRead reply, frame, at', heard, row rfl ((if_pos ⟨silent, late⟩).trans ?_)⟩
    dsimp only
    rw [heard]
  · subst power
    refine ⟨fun a low => ⟨fun early => ?_, fun long due => ?_⟩, fun a high good => ⟨fun early => ?_, fun long due => ?_⟩,
      fun high unknown => ?_⟩
    · exact row (exec_supplyLimitStep s t) ((State.supplyStep_low low).trans (if_neg (by omega)))
    · exact ⟨_, row (exec_supplyLimitStep s t) ((State.supplyStep_low low).trans (if_pos ⟨long, due⟩)), supplyLowered_spec s0⟩
    · exact row (exec_supplyLimitStep s t) ((State.supplyStep_good high good).trans (if_neg (by omega)))
    · exact ⟨_, row (exec_supplyLimitStep s t) ((State.supplyStep_good high good).trans (if_pos ⟨long, due⟩)), supplyRaised_spec s0⟩
    · exact row (exec_supplyLimitStep s t) (State.supplyStep_unknown high unknown)
  · obtain ⟨frame, status, unread, fed⟩ := pmbusTaken_spec s0 st feed
    refine ⟨s0.pmbusTaken st feed, row (exec_pmbusRead s st feed t) rfl, frame, status, unread, fun whole => ?_, fun some' short => ?_, fun none empty => ?_⟩
    · rw [fed (by rintro rfl; cases whole), if_pos whole]
    · rw [fed some', if_neg short]
    · rw [none, empty, s0.pmbusTaken_unfed, State.statusTaken]
  · exact congrArg Host.Outcome.next (State.masterWrite_stays may ((s.renewHold m).capWriteNow_high high) (by decide))
  · obtain ⟨u, st, write, done, frame, cap, effect, ceiling⟩ := (s.renewHold m).capWriteNow_spec fits
    refine ⟨u, congrArg Host.Outcome.next (State.masterWrite_done may write done), frame, cap, effect, ?_⟩
    rw [ceiling, s.dv_renewHold]
  · exact row rfl (if_neg (by omega))
  · have averaged : OnlyChanges [.dict, .power] s0 (s0.averaged watts) :=
      ((onlyChanges_setDv s0 _ _).mono (by decide)).next (onlyChanges_onPower _ _)
    refine ⟨s0.averaged watts, (s0.averaged watts).looped watts, row rfl (if_pos due), averaged, rfl, rfl, rfl, fun high => ?_,
      fun low => ?_, fun fits near => ?_⟩
    · rw [State.looped, if_pos high]
      exact powerHigh_spec _
    · rw [State.looped, if_neg (by omega), if_pos low]
    · rw [State.looped, if_neg (by omega), if_neg (by omega)]
      exact ⟨onlyChanges_onPower _ _, rfl⟩
  · refine row rfl (if_neg ?_)
    rintro ⟨slots, due⟩
    obtain off | soon := early
    · exact Bool.false_ne_true (off.symm.trans slots)
    · omega
  · obtain ⟨frame, slot, at'⟩ := slotMoved_spec s0
    exact ⟨s0.slotMoved, row rfl (if_pos ⟨slots, due⟩), frame, slot, at'⟩

end Sys2Proof.Machine

/-! Scope of the block: frames of the object dictionary, subscriptions and their events (O53). -/

namespace Sys2Proof.Machine

-- One proof after another: side by side, their threads take the compile of the whole text past its memory limit.
set_option Elab.async false

/-! ### A frame of a master (R393, R398, R399) -/

section Frames
variable {s v : State} {m : Master} {f : Frame} {op : Nat}

/-- R397: the PDUs of an answer sent and counted. -/
def State.pdusSent (s : State) (m : Master) (pdus : List (List Byte)) : State :=
  pdus.foldl (fun x p => (x.send (.dictionary m p)).bump 0xF00600 1) s

/-- R393: the frame as the port counts it received. -/
def State.portReceived (s : State) : State := s.bump 0xF00500 1

/-- A frame is accepted, and `v` is the state it is served in (R393, R399, R403). -/
def State.Accepts (s : State) (m : Master) (f : Frame) (op : Nat) (v : State) : Prop :=
  m = .host ∧ v = s ∨ ∃ mac s1, m = .mgmt mac ∧ s.extestOn = false ∧ s1 = s.bump 0xF00500 1 ∧ s1.portFault f op = 0 ∧
    s1.signatureFault f op = 0 ∧ v = s1.renewHold m

theorem State.frame_accepted (accepts : s.Accepts m f op v) : s.frame m f op = (v.serveFrame m f op).1.pdusSent m (v.serveFrame m f op).2 := by
  obtain ⟨rfl, rfl⟩ | ⟨mac, s1, rfl, quiet, rfl, port, signature, rfl⟩ := accepts
  · rfl
  · exact (if_neg (ne_true_of_eq_false quiet)).trans ((if_neg (not_not_intro port)).trans (if_neg (not_not_intro signature)))

theorem State.portFrame_driven {mac : BitVec 48} (driven : s.extestOn = true) : s.portFrame mac f op = s := if_pos driven

theorem State.portFrame_dropped {mac : BitVec 48} (quiet : s.extestOn = false) (fault : s.portReceived.portFault f op ≠ 0) :
    s.portFrame mac f op = s.portReceived.bump (0xF00700 + s.portReceived.portFault f op) 1 :=
  (if_neg (ne_true_of_eq_false quiet)).trans (if_pos fault)

theorem State.portFrame_unsigned {mac : BitVec 48} (quiet : s.extestOn = false) (good : s.portReceived.portFault f op = 0)
    (fault : s.portReceived.signatureFault f op ≠ 0) :
    s.portFrame mac f op = s.portReceived.dropSigned mac (s.portReceived.signatureFault f op) :=
  (if_neg (ne_true_of_eq_false quiet)).trans ((if_neg (not_not_intro good)).trans (if_pos fault))

theorem State.serveFrame_cached {c : Cached} (known : v.cachedFor m f op = some c) :
    v.serveFrame m f op = (v.bump 0xF00800 1, c.response) := by
  rw [State.serveFrame, known]

/-- R398: a request executed and remembered. -/
def State.remembered (s : State) (c : Cached) : State := { s with mgmt := { s.mgmt with cache := remember s.mgmt.cache c } }

theorem State.serveFrame_fresh (new : v.cachedFor m f op = none) : v.serveFrame m f op =
    ((v.answerFrame m f op).1.remembered ⟨m, f.seq, crc64 (requestPdu f op), (v.answerFrame m f op).2⟩, (v.answerFrame m f op).2) := by
  rw [State.serveFrame, new]
  rfl

end Frames

/-! ### Operations (R396, R397) -/

section Operations
variable {u v : State} {m : Master} {f : Frame} {op : Nat}

/-- R399: whether the answer to a frame is signed. -/
def replySigned (f : Frame) (m : Master) : Bool := f.signature.isSome && !fromHost m

theorem State.answerFrame_version (other : f.version ≠ 1) :
    v.answerFrame m f op = (v, v.responsePdus f op (replySigned f m) [] St.version) := if_pos other

theorem State.answerFrame_malformed (first : f.version = 1) (bad : (f.malformed || f.items.any (·.rsvd)) = true) :
    v.answerFrame m f op = (v, v.responsePdus f op (replySigned f m) [] St.frameMalformed) :=
  (if_neg (not_not_intro first)).trans (if_pos bad)

section WellFormed
variable (first : f.version = 1) (good : (f.malformed || f.items.any (·.rsvd)) = false)
include first good

theorem State.answerFrame_runs {rs : List Reply} {st : Nat} (ran : v.runOp m f op = (u, some (rs, st))) :
    v.answerFrame m f op = (u, u.responsePdus f op (replySigned f m) rs st) := by
  refine (if_neg (not_not_intro first)).trans ((if_neg (ne_true_of_eq_false good)).trans ?_)
  rw [ran]
  rfl

theorem State.answerFrame_large (ran : v.runOp m f op = (u, none)) :
    v.answerFrame m f op = (v, v.responsePdus f op (replySigned f m) [] St.frameMalformed) := by
  refine (if_neg (not_not_intro first)).trans ((if_neg (ne_true_of_eq_false good)).trans ?_)
  rw [ran]
  rfl

end WellFormed

theorem State.runOp_read : v.runOp m f 1 =
    if 1500 < responseSize (replySigned f m) (f.items.map (v.readItem m f.meta')) then (v, none)
    else (v, some (f.items.map (v.readItem m f.meta'), 0)) := by
  unfold State.runOp
  rw [if_pos rfl]
  rfl

theorem State.runOp_write : v.runOp m f 2 =
    if 1500 < writeSize f then (v, none)
    else if f.allOrNothing then
      ((v.writeAll m f.meta' f.items).1, some ((v.writeAll m f.meta' f.items).2.1, (v.writeAll m f.meta' f.items).2.2))
    else ((State.writeItems m f.meta' v f.items).1, some ((State.writeItems m f.meta' v f.items).2, 0)) := by
  unfold State.runOp
  rw [if_neg (show ¬ (2 = 1) by decide), if_pos rfl]

theorem State.runOp_blockRead : v.runOp m f 3 = (v, some (f.items.flatMap (v.blockItems m f.meta'), 0)) := by
  unfold State.runOp
  rw [if_neg (show ¬ (3 = 1) by decide), if_neg (show ¬ (3 = 2) by decide), if_pos rfl]

/-- R400: the items of a SUBSCRIBE taken one after the other, and their replies. -/
def State.subscribed (s : State) (m : Master) (f : Frame) : State × List Reply :=
  State.eachItem (fun s i => s.subscribeItem m (replySigned f m) i) s f.items

/-- R400: the items of an UNSUBSCRIBE dropped one after the other, and their replies. -/
def State.unsubscribed (s : State) (m : Master) (is : List Item) : State × List Reply :=
  State.eachItem (fun s i => s.unsubscribeItem m i) s is

theorem State.runOp_subscribe : v.runOp m f 4 = ((v.subscribed m f).1, some ((v.subscribed m f).2, 0)) := by
  unfold State.runOp
  rw [if_neg (show ¬ (4 = 1) by decide), if_neg (show ¬ (4 = 2) by decide), if_neg (show ¬ (4 = 3) by decide), if_pos rfl]
  rfl

theorem State.runOp_unsubscribe : v.runOp m f 5 = ((v.unsubscribed m f.items).1, some ((v.unsubscribed m f.items).2, 0)) := by
  unfold State.runOp
  rw [if_neg (show ¬ (5 = 1) by decide), if_neg (show ¬ (5 = 2) by decide), if_neg (show ¬ (5 = 3) by decide),
    if_neg (show ¬ (5 = 4) by decide), if_pos rfl]
  rfl

end Operations

/-! ### Subscriptions (R400) -/

theorem eachItem_spec {g : State → Item → State × Reply} (each : ∀ u i, OnlyChanges [.mgmt] u (g u i).1) (is : List Item) (v : State) :
    OnlyChanges [.mgmt] v (State.eachItem g v is).1 ∧ (State.eachItem g v is).2.length = is.length := by
  induction is generalizing v with
  | nil => exact ⟨OnlyChanges.refl _ v, rfl⟩
  | cons i is ih => exact ⟨(each v i).trans (ih _).1, congrArg (· + 1) (ih _).2⟩

theorem onlyChanges_subscribeItem (m : Master) (sig : Bool) (v : State) (i : Item) :
    OnlyChanges [.mgmt] v (v.subscribeItem m sig i).1 := by
  unfold State.subscribeItem
  dsimp only
  split
  · exact OnlyChanges.refl _ v
  · exact onlyChanges_mgmt v _

/-- Whether a subscription is that of a master to a field. -/
def Sub.isFor (m : Master) (key : Nat) (x : Sub) : Bool := x.master == m && x.key == key

/-- R400: the subscription that an item asks for. -/
def State.askedSub (s : State) (m : Master) (sig : Bool) (i : Item) : Sub :=
  { master := m, key := itemKey i, onChange := (leNat i.value).testBit 0, periodic := (leNat i.value).testBit 1,
    periodMs := natFld (leNat i.value) 4 4, spacingMs := natFld (leNat i.value) 8 4, signed := sig,
    sentValue := s.watched m (itemKey i), periodAt := s.now }

theorem State.subs_subscribeItem {v : State} {m : Master} {i : Item} (sig : Bool) (may : v.subscribeStatus m (itemKey i) i.value = 0) :
    (v.subscribeItem m sig i).1.mgmt.subs =
      v.mgmt.subs.filter (fun y => !Sub.isFor m (itemKey i) y) ++ [v.askedSub m sig i] := by
  have taken : v.subscribeItem m sig i = ({ v with mgmt := { v.mgmt with
    subs := v.mgmt.subs.filter (fun y => !Sub.isFor m (itemKey i) y) ++ [v.askedSub m sig i] } },
    { entry := i.entry.toNat, field := i.field.toNat, status := v.subscribeStatus m (itemKey i) i.value }) :=
    if_neg (not_not_intro may)
  rw [taken]

theorem filter_filter_not {α : Type} (p : α → Bool) (xs : List α) : (xs.filter (fun x => !p x)).filter p = [] :=
  List.filter_eq_nil_iff.2 fun _ inside => ne_true_of_eq_false (Bool.eq_false_of_not_eq_true' (List.mem_filter.1 inside).2)

/-- R400: a field has at most one subscription of a master. -/
theorem State.subscribed_alone {v : State} {m : Master} {i : Item} (sig : Bool) (may : v.subscribeStatus m (itemKey i) i.value = 0) :
    (v.subscribeItem m sig i).1.mgmt.subs.filter (Sub.isFor m (itemKey i)) = [v.askedSub m sig i] := by
  have mine : Sub.isFor m (itemKey i) (v.askedSub m sig i) = true := by
    rw [Sub.isFor, Bool.and_eq_true]
    exact ⟨beq_self_eq_true m, beq_self_eq_true _⟩
  rw [State.subs_subscribeItem sig may, List.filter_append, filter_filter_not, List.nil_append, List.filter_cons, if_pos mine,
    List.filter_nil]

theorem State.unsubscribed_stays (m : Master) (p : Sub → Bool) (is : List Item) {v : State} (gone : v.mgmt.subs.filter p = []) :
    (v.unsubscribed m is).1.mgmt.subs.filter p = [] := by
  induction is generalizing v with
  | nil => exact gone
  | cons i is ih =>
    refine ih (List.filter_eq_nil_iff.2 fun x inside => ?_)
    exact List.filter_eq_nil_iff.1 gone x (List.mem_filter.1 inside).1

theorem State.unsubscribed_gone {m : Master} {is : List Item} {i : Item} (named : i ∈ is) (v : State) :
    (v.unsubscribed m is).1.mgmt.subs.filter (Sub.isFor m (itemKey i)) = [] := by
  induction is generalizing v with
  | nil => cases named
  | cons j is ih =>
    obtain rfl | later := List.mem_cons.1 named
    · exact State.unsubscribed_stays m _ is (filter_filter_not (Sub.isFor m (itemKey i)) v.mgmt.subs)
    · exact ih later _

/-! ### Events of subscriptions (R400) -/

section Events
variable {w : State} {x : Sub}

/-- R400: whether a subscription has something to send. -/
def Sub.due (x : Sub) (now v : Nat) : Bool := x.periodOver now || (x.onChange && v != x.sentValue)

/-- R400: a subscription whose period starts anew where it is over. -/
def Sub.renewed (x : Sub) (now : Nat) : Sub := if x.periodOver now then { x with periodAt := now } else x

theorem State.offerEvent_quiet (undue : x.due w.now (w.watched x.master x.key) = false) (none : x.held = none) : w.offerEvent x = w := by
  refine if_pos ?_
  rw [none, Bool.and_eq_true, Bool.not_eq_true']
  exact ⟨undue, rfl⟩

theorem Sub.loud {now v : Nat} (x : Sub) (offers : x.due now v = true ∨ x.held.isSome = true) :
    ¬ ((!x.due now v && x.held.isNone) = true) := by
  rw [Bool.and_eq_true, Bool.not_eq_true']
  rintro ⟨undue, none⟩
  obtain due | held := offers
  · exact Bool.false_ne_true (undue.symm.trans due)
  · rw [Option.isNone_iff_eq_none.1 none] at held
    cases held

section Offered
variable (offers : x.due w.now (w.watched x.master x.key) = true ∨ x.held.isSome = true)
include offers

theorem State.offerEvent_waits (sent : x.sent = true) (soon : w.now < x.last + 1000000 * x.spacingMs) :
    w.offerEvent x = w.setSub x { x.renewed w.now with held := some (w.watched x.master x.key, w.now) } :=
  (if_neg (x.loud offers)).trans (if_pos ⟨sent, soon⟩)

/-- R400: the subscription as a sent value leaves it. -/
def Sub.afterSent (x : Sub) (now v : Nat) : Sub := { x.renewed now with sent := true, last := now, sentValue := v, held := none }

variable (passed : x.sent = false ∨ x.last + 1000000 * x.spacingMs ≤ w.now)
include passed

theorem State.offerEvent_sends : w.offerEvent x = match x.master with
    | .mgmt mac => if w.extestOn then w else
      (w.setSub x (x.afterSent w.now (w.watched x.master x.key))).portEvent mac x.signed x.key (w.watched x.master x.key)
    | .host =>
      if !w.hasRing then w.setSub x { x.renewed w.now with sentValue := w.watched x.master x.key, held := none }
      else if w.ringFull then
        (w.setSub x { x.renewed w.now with held := some (w.watched x.master x.key, w.now) }).bump 0xF04500
          (if (match x.held with | some h => x.periodOver w.now || h.1 != w.watched x.master x.key | none => false) then 1 else 0)
      else (w.setSub x (x.afterSent w.now (w.watched x.master x.key))).hostEvent x.key (w.watched x.master x.key) := by
  have spaced : ¬ (x.sent = true ∧ w.now < x.last + 1000000 * x.spacingMs) := by
    rintro ⟨sent, soon⟩
    obtain never | late := passed
    · exact Bool.false_ne_true (never.symm.trans sent)
    · omega
  exact (if_neg (x.loud offers)).trans (if_neg spaced)

theorem State.offerEvent_port {mac : BitVec 48} (port : x.master = .mgmt mac) (quiet : w.extestOn = false) : w.offerEvent x =
    (w.setSub x (x.afterSent w.now (w.watched x.master x.key))).portEvent mac x.signed x.key (w.watched x.master x.key) := by
  rw [State.offerEvent_sends offers passed]
  split
  next other same =>
    rw [port] at same
    cases same
    exact if_neg (ne_true_of_eq_false quiet)
  next host =>
    rw [port] at host
    cases host

theorem State.offerEvent_host (host : x.master = .host) (ring : w.hasRing = true) (room : w.ringFull = false) : w.offerEvent x =
    (w.setSub x (x.afterSent w.now (w.watched x.master x.key))).hostEvent x.key (w.watched x.master x.key) := by
  rw [State.offerEvent_sends offers passed]
  split
  next port =>
    rw [host] at port
    cases port
  next =>
    refine (if_neg ?_).trans (if_neg (ne_true_of_eq_false room))
    rw [ring]
    exact Bool.false_ne_true

theorem State.offerEvent_noRing (host : x.master = .host) (none' : w.hasRing = false) : w.offerEvent x =
    w.setSub x { x.renewed w.now with sentValue := w.watched x.master x.key, held := none } := by
  rw [State.offerEvent_sends offers passed]
  split
  next port =>
    rw [host] at port
    cases port
  next =>
    refine if_pos ?_
    rw [none']
    rfl

end Offered
end Events

theorem exec_subscriptionEvent_none {s : State} {m : Master} {key : BitVec 24} {t : Nat}
    (none : (s.tick t).mgmt.subs.find? (fun x => x.master == m && x.key == key.toNat) = none) :
    exec (.subscriptionEvent m key t) s = .next (s.tick t) := by
  refine congrArg Host.Outcome.next ?_
  rw [none]

theorem exec_subscriptionEvent_some {s : State} {m : Master} {key : BitVec 24} {t : Nat} {x : Sub}
    (found : (s.tick t).mgmt.subs.find? (fun x => x.master == m && x.key == key.toNat) = some x) :
    exec (.subscriptionEvent m key t) s = .next ((s.tick t).offerEvent x) := by
  refine congrArg Host.Outcome.next ?_
  rw [found]

theorem State.find_isFor {s : State} {m : Master} {key : Nat} {x : Sub}
    (found : s.mgmt.subs.find? (fun x => x.master == m && x.key == key) = some x) : x.master = m := by
  have mine := List.find?_some found
  rw [Bool.and_eq_true] at mine
  exact eq_of_beq mine.1

/-- Settles O53: a frame by whether it is dropped, cached or executed; an operation by its items; an event by what holds it back. -/
theorem dictionaryRowsTakeEffect : Obligations.DictionaryRowsTakeEffect := by
  unfold Obligations.DictionaryRowsTakeEffect
  intro m f s v
  refine ⟨fun e op row => ?_, fun sig signed => ?_, fun key t w now => ?_⟩
  · have acts : exec e s = .next (s.frame m f op) := by
      obtain ⟨rfl, rfl⟩ | ⟨rfl, rfl⟩ | ⟨rfl, rfl⟩ | ⟨rfl, rfl⟩ | ⟨rfl, rfl⟩ := row <;> rfl
    rw [acts]
    refine ⟨fun mac s1 port received => ?_, fun accepts => ⟨fun c known => ?_, fun new a c answers caches => ?_⟩⟩
    · subst port received
      exact ⟨fun driven => congrArg Host.Outcome.next (State.portFrame_driven driven),
        fun quiet fault => congrArg Host.Outcome.next (State.portFrame_dropped quiet fault),
        fun quiet good fault => congrArg Host.Outcome.next (State.portFrame_unsigned quiet good fault)⟩
    · rw [State.frame_accepted accepts, State.serveFrame_cached known]
      rfl
    · subst answers caches
      refine ⟨_, onlyChanges_mgmt _ _, rfl, ?_⟩
      rw [State.frame_accepted accepts, State.serveFrame_fresh new]
      rfl
  · subst signed
    refine ⟨fun op other => State.answerFrame_version other, fun op first bad => State.answerFrame_malformed first bad, fun first good => ?_⟩
    refine ⟨fun rs reads => ?_, fun large => ?_, fun r fits each writes => ?_, fun r fits all writes => ?_,
      State.answerFrame_runs first good State.runOp_blockRead, ?_, ?_⟩
    · subst reads
      have ran : v.runOp m f 1 = _ := State.runOp_read
      split at ran
      next large => exact (State.answerFrame_large first good ran).trans (congrArg (Prod.mk v) (if_pos large).symm)
      next fits => exact (State.answerFrame_runs first good ran).trans (congrArg (Prod.mk v) (if_neg fits).symm)
    · exact State.answerFrame_large first good (State.runOp_write.trans (if_pos large))
    · subst writes
      exact State.answerFrame_runs first good
        (State.runOp_write.trans ((if_neg (by omega)).trans (if_neg (ne_true_of_eq_false each))))
    · subst writes
      exact State.answerFrame_runs first good (State.runOp_write.trans ((if_neg (by omega)).trans (if_pos all)))
    · obtain ⟨frame, length⟩ := eachItem_spec (onlyChanges_subscribeItem m (replySigned f m)) f.items v
      rw [State.answerFrame_runs first good State.runOp_subscribe]
      refine ⟨(v.subscribed m f).2, frame, length, rfl, fun i only may => ?_⟩
      refine ⟨v.askedSub m (replySigned f m) i, ?_, rfl, rfl, rfl, rfl, rfl, rfl, rfl, rfl, rfl⟩
      have alone := State.subscribed_alone (replySigned f m) may
      rw [State.subscribed, only]
      exact alone
    · obtain ⟨frame, length⟩ := eachItem_spec (g := fun s i => s.unsubscribeItem m i) (fun u i => onlyChanges_mgmt u _) f.items v
      rw [State.answerFrame_runs first good State.runOp_unsubscribe]
      exact ⟨(v.unsubscribed m f.items).2, frame, length, rfl, fun i named => State.unsubscribed_gone named v⟩
  · subst now
    refine ⟨exec_subscriptionEvent_none, fun x n y found watched renewed => ?_⟩
    obtain rfl := State.find_isFor found
    subst watched renewed
    rw [exec_subscriptionEvent_some found]
    refine ⟨fun undue none => congrArg Host.Outcome.next (State.offerEvent_quiet undue none), fun offers => ⟨fun sent soon =>
      congrArg Host.Outcome.next (State.offerEvent_waits offers sent soon), fun passed =>
      ⟨fun mac port quiet => congrArg Host.Outcome.next (State.offerEvent_port offers passed port quiet),
        fun host ring room => congrArg Host.Outcome.next (State.offerEvent_host offers passed host ring room),
        fun host none => congrArg Host.Outcome.next (State.offerEvent_noRing offers passed host none)⟩⟩⟩

end Sys2Proof.Machine

/-! Scope of the block: hot spots, the thermal limit, the tray bus, the coolant stop and the flow (O52). -/

namespace Sys2Proof.Machine

-- One proof after another: side by side, their threads take the compile of the whole text past its memory limit.
set_option Elab.async false

theorem onlyChanges_cooling (s : State) (x : Cooling) : OnlyChanges [.cooling] s { s with cooling := x } := by
  intro f outside
  cases f
  case cooling => exact absurd List.mem_cons_self outside
  all_goals rfl

theorem onlyChanges_onCooling (s : State) (f : Cooling → Cooling) : OnlyChanges [.cooling] s (s.onCooling f) := onlyChanges_cooling s _

theorem onlyChanges_setSpot (s : State) (h : Nat) (x : HotSpot) : OnlyChanges [.spots] s (s.setSpot h x) := by
  intro f outside
  cases f
  case spots => exact absurd List.mem_cons_self outside
  all_goals rfl

theorem onlyChanges_onSpot (s : State) (h : Nat) (f : HotSpot → HotSpot) : OnlyChanges [.spots] s (s.onSpot h f) :=
  onlyChanges_setSpot s h _

theorem OnlyChanges.cooling {fs : List Field} {s u : State} (h : OnlyChanges fs s u) (outside : Field.cooling ∉ fs := by decide) :
    u.cooling = s.cooling := h .cooling outside

theorem OnlyChanges.spot {fs : List Field} {s u : State} (h : OnlyChanges fs s u) (outside : Field.spots ∉ fs := by decide) (k : Nat) :
    u.spot k = s.spot k :=
  congrArg (look ({} : HotSpot) · k) (h .spots outside)

/-! ### Hot spots (R374, R382, R385) -/

theorem judgeSpot_readings (x : HotSpot) (a b model : Int) (now : Nat) :
    (judgeSpot x a b model now).a = a ∧ (judgeSpot x a b model now).b = b ∧ (judgeSpot x a b model now).readAt = now := by
  unfold judgeSpot
  dsimp only
  repeat' split
  all_goals exact ⟨rfl, rfl, rfl⟩

/-- R385: readings within 6 °C of each other make no sensor suspect. -/
theorem judgeSpot_trusted {x : HotSpot} {a b : Int} (sa : x.suspectA = false) (sb : x.suspectB = false) (close : (a - b).natAbs ≤ 60)
    (model : Int) (now : Nat) : (judgeSpot x a b model now).suspectA = false ∧ (judgeSpot x a b model now).suspectB = false := by
  unfold judgeSpot
  dsimp only
  have near : ¬ 60 < (a - b).natAbs := by omega
  rw [if_neg near, Option.any_none, if_neg Bool.false_ne_true]
  split_ifs
  · exact ⟨rfl, rfl⟩
  · exact ⟨sa, sb⟩
  · exact ⟨rfl, rfl⟩
  · exact ⟨sa, sb⟩

/-- R374: a hot spot as its two sensors and its marks show it. -/
def State.spotRead (s : State) (h : Nat) (a b : Int) : HotSpot :=
  (judgeSpot (s.spot h) a b (s.spotModel h) s.now).withTemp (max (s.spotModel h) (s.nearbyTemp h))

/-- R374: the reading kept, with the readings of the last 0.6 ms. -/
def State.spotKept (s : State) (h : Nat) (a b : Int) : State :=
  s.setSpot h { s.spotRead h a b with
    recent := ((s.spot h).recent ++ [(s.now, (s.spotRead h a b).temp)]).filter (fun e => decide (s.now ≤ e.1 + 600000)) }

/-- R385, R416: a sensor that became or ceased to be suspect, recorded. -/
def State.spotNoted (s : State) (h : Nat) (a b : Int) : State :=
  (if (s.spot h).suspectA != (s.spotRead h a b).suspectA || (s.spot h).suspectB != (s.spotRead h a b).suspectB then
    (s.spotKept h a b).recordOf 0x2804 12 (regionOfSpot h)
      (h + (s.spotRead h a b).marks * 2 ^ 8 + toBits 16 a * 2 ^ 16 + toBits 16 b * 2 ^ 32 + toBits 16 (s.spotModel h) * 2 ^ 48)
  else s.spotKept h a b).noteCool (regionOfSpot h)

theorem State.sampleSpot_eq (s : State) (h : Nat) (a b : Int) : s.sampleSpot h a b =
    if risesFast (s.spot h).recent (s.spotRead h a b).temp s.now then (s.spotNoted h a b).declareStop 2 false h
    else (s.spotNoted h a b).endIfOver := rfl

theorem onlyChanges_noteCool (s : State) (r : Nat) : OnlyChanges [.regions] s (s.noteCool r) := onlyChanges_onRegion s r _

theorem spotNoted_spec (s : State) (h : Nat) (a b : Int) :
    OnlyChanges [.spots, .regions, .dict, .log, .logSeq, .mgmt] s (s.spotNoted h a b) ∧
    ∀ k, (s.spotNoted h a b).spot k = (s.spotKept h a b).spot k := by
  have kept : OnlyChanges [.spots, .regions, .dict, .log, .logSeq, .mgmt] s (s.spotKept h a b) :=
    (onlyChanges_setSpot s h _).mono (by decide)
  unfold State.spotNoted
  split
  · exact ⟨(kept.next (onlyChanges_recordOf _ _ _ _ _)).next (onlyChanges_noteCool _ _),
      fun k => ((onlyChanges_noteCool _ _).spot (by decide) k).trans ((onlyChanges_recordOf _ _ _ _ _).spot (by decide) k)⟩
  · exact ⟨kept.next (onlyChanges_noteCool _ _), fun k => (onlyChanges_noteCool _ _).spot (by decide) k⟩

/-! ### The stop (R382, R383) -/

/-- R382: the cluster regions held, the stop noted, the peers told. -/
def State.stopTold (s : State) : State :=
  ((List.range 32).foldl State.syncRefresh
    (((List.range 32).foldl (fun x r => x.onRegion r (fun y => { y with coolant := true })) s).onCooling (fun c =>
      { c with stopped := true, okSince := none, heldPeers := s.streamPeers }))).hintAll 2 s.streamPeers

theorem onlyChanges_sendPacket (s : State) (op dst : Nat) (flag poison : Bool) (seq addr lines tag status : Nat) (data : List Byte) :
    OnlyChanges portFields s (s.sendPacket op dst flag poison seq addr lines tag status data) := by
  unfold State.sendPacket State.sendFrom
  split
  · exact OnlyChanges.refl _ s
  · exact portFrame_egressPort s _ _

theorem portFrame_hintAll (s : State) (op : Nat) (nodes : List Nat) : OnlyChanges portFields s (s.hintAll op nodes) :=
  OnlyChanges.foldl (fun u _ => onlyChanges_sendPacket u _ _ _ _ _ _ _ _ _ _) s nodes

theorem State.stopTold_spec (s : State) : s.stopTold.cooling.stopped = true ∧ ∀ r, r < 32 → (s.stopTold.region r).coolant = true := by
  have told := portFrame_hintAll ((List.range 32).foldl State.syncRefresh
    (((List.range 32).foldl (fun x r => x.onRegion r (fun y => { y with coolant := true })) s).onCooling (fun c =>
      { c with stopped := true, okSince := none, heldPeers := s.streamPeers }))) 2 s.streamPeers
  have refreshed (u : State) := OnlyChanges.foldl onlyChanges_syncRefresh u (List.range 32)
  refine ⟨?_, fun r inside => ?_⟩
  · rw [State.stopTold, told.cooling, (refreshed _).cooling]
    rfl
  · rw [State.stopTold, told.region, (refreshed _).region, (onlyChanges_onCooling _ _).region,
      State.region_foldl_onRegion (fun _ y => { y with coolant := true }), if_pos inside]

theorem State.declareStop_first {s : State} (runs : s.cooling.stopped = false) (cause : Nat) (quick : Bool) (spot : Nat) :
    s.declareStop cause quick spot = (((s.stopTold.enterCoolant 3).recordOf 0x2802 12 0x30
      (cause + (if quick then 2 ^ 8 else 0) + spot * 2 ^ 16)).bump 0x284000 1) :=
  if_neg (ne_true_of_eq_false runs)

theorem enterCoolant_spec (s : State) (new : Nat) : OnlyChanges recordFields s (s.enterCoolant new) ∧ (s.enterCoolant new).dv 0x280700 = new := by
  unfold State.enterCoolant
  split
  next same => exact ⟨OnlyChanges.refl _ s, same⟩
  next =>
    exact ⟨(recordFrame_setDv s _ _).trans (onlyChanges_recordOf _ _ _ _ _),
      (State.dv_recordOf (by decide) _ _ _ _ _).trans (State.dv_setDv_same s _ new)⟩

/-- R381, R382: a declared stop holds the cluster regions, and the coolant state is 3. -/
theorem State.declareStop_spec {s : State} (runs : s.cooling.stopped = false) (cause : Nat) (quick : Bool) (spot : Nat) :
    (s.declareStop cause quick spot).cooling.stopped = true ∧ (s.declareStop cause quick spot).dv 0x280700 = 3 ∧
    ∀ r, r < 32 → ((s.declareStop cause quick spot).region r).coolant = true := by
  obtain ⟨stopped, held⟩ := s.stopTold_spec
  obtain ⟨entered, three⟩ := enterCoolant_spec s.stopTold 3
  have noted (n : Nat) := onlyChanges_recordOf (s.stopTold.enterCoolant 3) 0x2802 12 0x30 n
  rw [State.declareStop_first runs]
  refine ⟨?_, ?_, fun r inside => ?_⟩
  · rw [(onlyChanges_bump _ _ _).cooling, (noted _).cooling, entered.cooling, stopped]
  · rw [State.dv_bump, if_neg (by decide), State.dv_recordOf (by decide), three]
  · rw [(onlyChanges_bump _ _ _).region, (noted _).region, entered.region, held r inside]

theorem State.resumeNow_running {s : State} (runs : s.cooling.stopped = false) : s.resumeNow = (s, St.ok) := by
  unfold State.resumeNow
  rw [runs]
  rfl

theorem State.resumeNow_over {s : State} (stopped : s.cooling.stopped = true) (ended : s.stopOver = true) :
    s.resumeNow = (s.endStop, St.ok) := by
  unfold State.resumeNow
  rw [stopped, ended]
  rfl

theorem State.resumeNow_held {s : State} (stopped : s.cooling.stopped = true) (lasts : s.stopOver = false) :
    s.resumeNow = (s, St.coolantNotReady) := by
  unfold State.resumeNow
  rw [stopped, lasts]
  rfl

/-! ### The thermal limit (R380) -/

/-- R380: whether a hot spot of a region is above its threshold. -/
def State.isHot (s : State) (r : Nat) : Bool := (hotSpotsOf r).any (fun h => decide (s.dodgeAt h < (s.spot h).temp))

section ThermalLimit
variable {s : State} {r : Nat}

theorem State.thermalStep_eq (s : State) (r : Nat) : s.thermalStep r =
    if s.isHot r then
      if ((s.noteCool r).region r).thermalAt = 0 ∨ ((s.noteCool r).region r).thermalAt + 100000 ≤ s.now then
        (s.noteCool r).setRegion r { (s.noteCool r).region r with
          thermal := ((s.noteCool r).region r).thermal - 1, thermalAt := s.now }
      else s.noteCool r
    else if ((s.noteCool r).region r).coolSince.any (fun a => decide (a + 1000000 ≤ s.now)) then
      (s.noteCool r).setRegion r { (s.noteCool r).region r with
        thermal := min 7 (((s.noteCool r).region r).thermal + 1), coolSince := some s.now }
    else s.noteCool r := by
  unfold State.thermalStep State.isHot
  rfl

theorem State.thermalStep_falls (hot : s.isHot r = true)
    (due : ((s.noteCool r).region r).thermalAt = 0 ∨ ((s.noteCool r).region r).thermalAt + 100000 ≤ s.now) :
    s.thermalStep r = (s.noteCool r).setRegion r { (s.noteCool r).region r with
      thermal := ((s.noteCool r).region r).thermal - 1, thermalAt := s.now } := by
  rw [s.thermalStep_eq, if_pos hot, if_pos due]

theorem State.thermalStep_early (hot : s.isHot r = true)
    (early : ¬ (((s.noteCool r).region r).thermalAt = 0 ∨ ((s.noteCool r).region r).thermalAt + 100000 ≤ s.now)) :
    s.thermalStep r = s.noteCool r := by
  rw [s.thermalStep_eq, if_pos hot, if_neg early]

theorem State.thermalStep_rises {a : Nat} (calm : s.isHot r = false) (since : ((s.noteCool r).region r).coolSince = some a)
    (long : a + 1000000 ≤ s.now) : s.thermalStep r = (s.noteCool r).setRegion r { (s.noteCool r).region r with
      thermal := min 7 (((s.noteCool r).region r).thermal + 1), coolSince := some s.now } := by
  have cool : ((s.noteCool r).region r).coolSince.any (fun a => decide (a + 1000000 ≤ s.now)) = true := by
    rw [since, Option.any_some, decide_eq_true_eq]
    exact long
  rw [s.thermalStep_eq, if_neg (ne_true_of_eq_false calm), if_pos cool]

theorem State.tripStep_runs (runs : (s.region r).tripped = false) (below : (s.spot (s.hottest r)).temp < 1100) : s.tripStep r = s := by
  unfold State.tripStep
  dsimp only
  rw [if_neg (ne_true_of_eq_false runs), if_neg (by omega)]

/-- R380: the trip noted in the region and its hottest spot. -/
def State.tripNoted (s : State) (r : Nat) : State :=
  (s.onRegion r (fun x => { x with tripped := true })).onSpot (s.hottest r) (fun y => { y with tripped := true })

theorem State.tripStep_trips (runs : (s.region r).tripped = false) (hot : 1100 ≤ (s.spot (s.hottest r)).temp) :
    s.tripStep r = (s.tripNoted r).recordOf 0x2803 12 r (s.hottest r + toBits 16 (s.spot (s.hottest r)).temp * 2 ^ 16) := by
  unfold State.tripStep State.tripNoted
  dsimp only
  rw [if_neg (ne_true_of_eq_false runs), if_pos hot]

theorem tripStep_trips_spec (runs : (s.region r).tripped = false) (hot : 1100 ≤ (s.spot (s.hottest r)).temp) :
    ((s.tripStep r).region r).tripped = true ∧ OnlyChanges [.regions, .spots, .dict, .log, .logSeq, .mgmt] s (s.tripStep r) := by
  have noted := onlyChanges_recordOf (s.tripNoted r) 0x2803 12 r (s.hottest r + toBits 16 (s.spot (s.hottest r)).temp * 2 ^ 16)
  rw [State.tripStep_trips runs hot]
  refine ⟨?_, (((onlyChanges_onRegion s r _).mono (by decide)).next (onlyChanges_onSpot _ _ _)).next noted⟩
  rw [noted.region, State.tripNoted, (onlyChanges_onSpot _ _ _).region, State.region_onRegion_same]

theorem State.tripStep_stays (tripped : (s.region r).tripped = true) (hot : 1000 < (s.spot (s.hottest r)).temp) : s.tripStep r = s := by
  unfold State.tripStep
  dsimp only
  rw [if_pos tripped, if_neg (by omega)]

/-- R380: the region of a trip that is over, with its spots, before the engines go on. -/
def State.untripped (s : State) (r : Nat) : State :=
  (hotSpotsOf r).foldl (fun x k => x.onSpot k (fun y => { y with tripped := false })) (s.onRegion r (fun x => { x with tripped := false }))

theorem State.tripStep_restarts (tripped : (s.region r).tripped = true) (cool : (s.spot (s.hottest r)).temp ≤ 1000) :
    s.tripStep r = (s.untripped r).goOn := by
  unfold State.tripStep State.untripped
  dsimp only
  rw [if_pos tripped, if_pos cool]

theorem untripped_spec (s : State) (r : Nat) : OnlyChanges [.regions, .spots] s (s.untripped r) ∧
    RegionIs s (s.untripped r) r { s.region r with tripped := false } := by
  have spots := OnlyChanges.foldl (fun u k => onlyChanges_onSpot u k (fun y => { y with tripped := false }))
    (s.onRegion r (fun x => { x with tripped := false })) (hotSpotsOf r)
  exact ⟨((onlyChanges_onRegion s r _).mono (by decide)).next spots, (regionIs_onRegion s r _).next spots⟩

end ThermalLimit

/-! ### The tray bus (R375, R376) -/

theorem State.role_setRole (s : State) (k : Nat) (x : TrayRole) (j : Nat) : (s.setRole k x).role j = if j = k then x else s.role j :=
  look_put ({} : TrayRole) s.cooling.roles k x j

theorem State.role_congr {s u : State} (same : u.cooling = s.cooling) (k : Nat) : u.role k = s.role k :=
  congrArg (fun c : Cooling => look ({} : TrayRole) c.roles k) same

/-- The fields that the roles of the tray may change. -/
def trayFields : List Field := [.dict, .log, .logSeq, .cooling, .mgmt]

theorem trayFrame_setRole (s : State) (k : Nat) (x : TrayRole) : OnlyChanges trayFields s (s.setRole k x) :=
  (onlyChanges_cooling s _).mono (by decide)

/-- R376: a role's validity is set, no other role and nothing else of it changes. -/
theorem setValid_spec (s : State) (k : Nat) (v : Bool) : OnlyChanges trayFields s (s.setValid k v) ∧
    ∀ j, (s.setValid k v).role j = if j = k then { s.role k with valid := v } else s.role j := by
  unfold State.setValid
  dsimp only
  split
  next same =>
    refine ⟨OnlyChanges.refl _ s, fun j => ?_⟩
    split
    next here => rw [here, ← same]
    next => rfl
  next =>
    have noted := onlyChanges_recordOf (s.setRole k { s.role k with valid := v }) 0x2805 12 0x30
      (k + (if v then 2 ^ 8 else 0) + s.dv (0x283001 + k) % 2 ^ 48 * 2 ^ 16)
    exact ⟨(trayFrame_setRole s k _).next noted, fun j => (State.role_congr noted.cooling j).trans (s.role_setRole k _ j)⟩

/-- R375: a role bound to the place its PID was found at, or unbound. -/
def State.bindRole (s : State) (found : Option Nat) (k : Nat) : State :=
  match found with
  | some i => s.setRole k { s.role k with bound := true, addr := 0x30 + i }
  | none => (s.setRole k { s.role k with bound := false, goods := 0, fails := 0 }).setValid k false

/-- R375: a role as an enumeration leaves it. -/
def TrayRole.IsBound (x : TrayRole) : Option Nat → Prop
  | some i => x.bound = true ∧ x.addr = 0x30 + i
  | none => x.bound = false ∧ x.valid = false

theorem bindRole_spec (s : State) (found : Option Nat) (k : Nat) : OnlyChanges trayFields s (s.bindRole found k) ∧
    ((s.bindRole found k).role k).IsBound found ∧ ∀ j, j ≠ k → (s.bindRole found k).role j = s.role j := by
  cases found with
  | some i =>
    refine ⟨trayFrame_setRole s k _, ?_, fun j other => (s.role_setRole k _ j).trans (if_neg other)⟩
    rw [State.bindRole, s.role_setRole, if_pos rfl]
    exact ⟨rfl, rfl⟩
  | none =>
    obtain ⟨frame, roles⟩ := setValid_spec (s.setRole k { s.role k with bound := false, goods := 0, fails := 0 }) k false
    refine ⟨(trayFrame_setRole s k _).trans frame, ?_, fun j other => ?_⟩
    · rw [State.bindRole, roles, if_pos rfl, s.role_setRole, if_pos rfl]
      exact ⟨rfl, rfl⟩
    · rw [State.bindRole, roles, if_neg other, s.role_setRole, if_neg other]

/-- R375: where a role's PID is found. -/
def State.foundAt (s : State) (pids : List (BitVec 48)) (k : Nat) : Option Nat :=
  pids.findIdx? (fun p => p.toNat == s.dv (0x283001 + k) % 2 ^ 48 && p != 0)

/-- R375: the four roles bound, the devices of no role not recorded yet. -/
def State.rolesBound (s : State) (pids : List (BitVec 48)) : State :=
  [0, 1, 2, 3].foldl (fun x k => x.bindRole (s.foundAt pids k) k) (s.send .enumerate)

theorem rolesBound_spec (s : State) (pids : List (BitVec 48)) :
    OnlyChanges [.egress, .dict, .log, .logSeq, .cooling, .mgmt] s (s.rolesBound pids) ∧
    ∀ k, k < 4 → ((s.rolesBound pids).role k).IsBound (s.foundAt pids k) := by
  refine ⟨((onlyChanges_send s .enumerate).mono (by decide)).next
    (OnlyChanges.foldl (fun u k => (bindRole_spec u (s.foundAt pids k) k).1) _ _), fun k inside => ?_⟩
  refine foldl_establishes (P := fun k (x : State) => (x.role k).IsBound (s.foundAt pids k)) (fun j k a kept => ?_)
    (fun k a => (bindRole_spec a _ k).2.1) _ (.inl ?_)
  · by_cases same : j = k
    · exact same ▸ (bindRole_spec a _ j).2.1
    · rwa [(bindRole_spec a (s.foundAt pids k) k).2.2 j same]
  · simp only [List.mem_cons, List.not_mem_nil, or_false]
    omega

/-- R375: the devices of no role, recorded. -/
def State.strangersNoted (s : State) (ps : List (BitVec 48)) : State :=
  ps.foldl (fun x p => x.recordOf 0x2805 12 0x30 (0xFF + p.toNat * 2 ^ 16)) s

theorem State.enumerateTray_eq (s : State) (pids : List (BitVec 48)) : s.enumerateTray pids = (s.rolesBound pids).strangersNoted
    (pids.filter (fun p => !(([0, 1, 2, 3] : List Nat).any (fun k => p.toNat == s.dv (0x283001 + k) % 2 ^ 48 && p != 0)))) := by
  unfold State.enumerateTray State.strangersNoted State.rolesBound State.bindRole State.foundAt
  rfl

theorem enumerateTray_spec (s : State) (pids : List (BitVec 48)) :
    OnlyChanges [.egress, .dict, .log, .logSeq, .cooling, .mgmt] s (s.enumerateTray pids) ∧
    ∀ k, k < 4 → ((s.enumerateTray pids).role k).IsBound (s.foundAt pids k) := by
  obtain ⟨frame, bound⟩ := rolesBound_spec s pids
  have noted (ps : List (BitVec 48)) : OnlyChanges recordFields (s.rolesBound pids) ((s.rolesBound pids).strangersNoted ps) :=
    OnlyChanges.foldl (fun u p => onlyChanges_recordOf u _ _ _ _) _ ps
  rw [s.enumerateTray_eq]
  exact ⟨frame.next (noted _), fun k inside => by rw [State.role_congr (noted _).cooling]; exact bound k inside⟩

/-! ### The flow (R377, R381) -/

/-- R377: the wanted flow as the request from now. -/
def Cooling.requested (c : Cooling) (flow now : Nat) : Cooling :=
  { c with
    request := flow, requestAt := now, before := if c.request < flow ∧ c.request ≠ 0 then c.request else c.before,
    raisedAt := if c.request < flow ∧ c.request ≠ 0 then now else c.raisedAt }

theorem Cooling.requested_raise {c : Cooling} {flow : Nat} (raise : c.request < flow ∧ c.request ≠ 0) (now : Nat) :
    c.requested flow now = { c with request := flow, requestAt := now, before := c.request, raisedAt := now } := by
  rw [Cooling.requested, if_pos raise, if_pos raise]

theorem Cooling.requested_other {c : Cooling} {flow : Nat} (other : ¬ (c.request < flow ∧ c.request ≠ 0)) (now : Nat) :
    c.requested flow now = { c with request := flow, requestAt := now } := by
  rw [Cooling.requested, if_neg other, if_neg other]

/-- R377: the request noted and shown. -/
def State.flowRequested (s : State) : State :=
  (s.onCooling (fun c => c.requested s.wantedFlow s.now)).setDv 0x280400 (f32RatioInt s.wantedFlow 1000)

/-- R381: the trend of the flow over the readings kept. -/
def State.trended (s : State) : State :=
  let first := match s.cooling.history with | x :: _ => x.2 | [] => s.cooling.fraction
  (s.onCooling (fun c => { c with trendAt := s.now })).setDv 0x280800 (f32RatioInt ((s.cooling.fraction : Int) - first) 100)

/-- R381: the trend kept where it is due. -/
def State.trendStep (s : State) : State :=
  if (s.dv 0x280700 = 1 ∨ s.dv 0x280700 = 2) ∧ (s.cooling.trendAt = 0 ∨ s.cooling.trendAt + 1000000000 ≤ s.now) then s.trended else s

theorem exec_flowTrendUpdate (t : Nat) (s : State) : exec (.flowTrendUpdate t) s = .next (s.timed t State.trendStep) := by
  unfold State.trendStep State.trended
  rfl

theorem State.trendStep_due {s : State} (state : s.dv 0x280700 = 1 ∨ s.dv 0x280700 = 2)
    (due : s.cooling.trendAt = 0 ∨ s.cooling.trendAt + 1000000000 ≤ s.now) : s.trendStep = s.trended :=
  if_pos ⟨state, due⟩

theorem State.trendStep_not_due {s : State}
    (early : (s.dv 0x280700 ≠ 1 ∧ s.dv 0x280700 ≠ 2) ∨ (s.cooling.trendAt ≠ 0 ∧ s.now < s.cooling.trendAt + 1000000000)) :
    s.trendStep = s := by
  refine if_neg ?_
  rintro ⟨state, due⟩
  omega

theorem cooling_setDv_frame (s : State) (x : Cooling) (key v : Nat) :
    OnlyChanges [.dict, .cooling] s (({ s with cooling := x } : State).setDv key v) :=
  ((onlyChanges_cooling s x).mono (by decide)).next (onlyChanges_setDv _ _ _)

/-- Settles O52: each row by the lemmas of what it does in the state of its device time. -/
theorem coolingRowsTakeEffect : Obligations.CoolingRowsTakeEffect := by
  unfold Obligations.CoolingRowsTakeEffect
  intro t s s0 now
  have row {e : Instr} {f : State → State} {v : State} (acts : exec e s = .next (s.timed t f)) (ends : f s0 = v) : EndsIn e s v :=
    endsIn_timed acts (now ▸ ends)
  refine ⟨fun h a b model x shown reads => ?_, fun v runs cause quick h => State.declareStop_spec runs cause quick h,
    fun r hot v w cool isHot => ?_, fun m pids v writes => ?_, fun p v w polled acts => ?_, fun v => rfl, fun m may v held => ?_,
    fun done n c wanted before => ⟨fun same early => ?_, fun due => ?_⟩, fun early => ?_, fun state due => ?_⟩
  · subst shown
    change x = s0.spotRead h a b at reads
    subst reads
    obtain ⟨frame, spots⟩ := spotNoted_spec s0 h a b
    obtain ⟨readA, readB, readAt⟩ := judgeSpot_readings (s0.spot h) a b (s0.spotModel h) s0.now
    refine ⟨⟨s0.spotNoted h a b, frame, fun j other => ?_, ?_, row rfl (s0.sampleSpot_eq h a b)⟩, readA, readB, readAt, fun sa sb close => ?_⟩
    · rw [spots, State.spotKept, State.spot_setSpot, if_neg other]
    · rw [spots, State.spotKept, State.spot_setSpot, if_pos rfl]
    · obtain ⟨trustA, trustB⟩ := judgeSpot_trusted sa sb close (s0.spotModel h) s0.now
      rw [State.spotRead, HotSpot.withTemp, trustA, trustB, readA, readB]
      exact ⟨rfl, rfl⟩
  · subst cool
    have cooled := (onlyChanges_noteCool s0 r).now
    rw [cooled]
    change hot = s0.isHot r at isHot
    subst isHot
    have steps {u : State} (inside : r.val < 32) (ends : s0.thermalStep r = u) : EndsIn (.thermalLimitStep r t) s (u.tripStep r) :=
      row rfl ((congrArg (State.tripStep · r.val) (if_pos inside)).trans (congrArg (State.tripStep · r.val) ends))
    refine ⟨fun inside hot due => ⟨_, steps inside (State.thermalStep_falls hot due), onlyChanges_setRegion _ r _, regionIs_setRegion _ r _⟩,
      fun inside hot once early => steps inside (State.thermalStep_early hot (by omega)),
      fun a inside calm since long => ⟨_, steps inside (State.thermalStep_rises calm since long), onlyChanges_setRegion _ r _,
        regionIs_setRegion _ r _⟩,
      fun outside => row rfl (congrArg (State.tripStep · r.val) (if_neg (by omega))), State.tripStep_runs, tripStep_trips_spec,
      State.tripStep_stays, fun tripped cool => ⟨_, State.tripStep_restarts tripped cool, untripped_spec w r⟩⟩
  · obtain ⟨frame, bound⟩ := enumerateTray_spec v pids
    refine ⟨v.enumerateTray pids, frame, fun k i inside found => ?_, fun k inside missing => ?_, fun boot => ?_, fun x master => ?_⟩
    · have is := bound k inside
      rwa [show v.foundAt pids k = some i from found] at is
    · have is := bound k inside
      rwa [show v.foundAt pids k = none from missing] at is
    · obtain ⟨-, rfl⟩ | ⟨x, master, -⟩ := writes
      · rw [boot]
        rfl
      · rw [boot] at master
        cases master
    · subst master
      obtain ⟨boot, -⟩ | ⟨y, same, may, rfl⟩ := writes
      · cases boot
      · cases same
        exact congrArg Host.Outcome.next (State.masterWrite_done may rfl (by decide))
  · subst polled acts
    exact row rfl rfl
  · subst held
    exact ⟨fun runs => row rfl (State.masterWrite_done may (State.resumeNow_running runs) (by decide)),
      fun stopped ended => row rfl (State.masterWrite_done may (State.resumeNow_over stopped ended) (by decide)),
      fun stopped lasts => row rfl (State.masterWrite_stays may (State.resumeNow_held stopped lasts) (by decide))⟩
  · subst wanted before
    exact row rfl (if_pos ⟨same, early⟩)
  · subst wanted before
    refine ⟨s0.flowRequested, cooling_setDv_frame s0 _ _ _, State.dv_setDv_same _ _ _, fun raise => Cooling.requested_raise raise _,
      fun other => Cooling.requested_other other _, row rfl (if_neg ?_)⟩
    rintro ⟨same, early⟩
    obtain other | late := due
    · exact other same
    · omega
  · exact row (exec_flowTrendUpdate t s) (State.trendStep_not_due early)
  · refine ⟨s0.trended, row (exec_flowTrendUpdate t s) (State.trendStep_due state due), cooling_setDv_frame s0 _ _ _, rfl, ?_⟩
    unfold State.trended
    refine (State.dv_setDv_same _ _ _).trans ?_
    cases s0.cooling.history with
    | nil => rfl
    | cons x xs => rfl

end Sys2Proof.Machine

/-! Scope of the block: the management hold, health, the event ring's registers, the two controllers and the port's beacons (O54). -/

namespace Sys2Proof.Machine

-- One proof after another: side by side, their threads take the compile of the whole text past its memory limit.
set_option Elab.async false

/-! ### What records and the halves' link leave of the controllers -/

theorem recordFrame_ringRec (s : State) (e : ErrRecord) : OnlyChanges [.dict, .log, .logSeq] s (s.ringRec e) := by
  have logged : OnlyChanges [.dict, .log, .logSeq] s { s with log := ({ e with seq := s.logSeq + 1 } :: s.log).take 4096, logSeq := s.logSeq + 1 } := by
    intro f outside
    cases f
    case log => exact absurd (by decide) outside
    case logSeq => exact absurd (by decide) outside
    all_goals rfl
  unfold State.ringRec
  dsimp only
  split
  · exact (logged.next (onlyChanges_setDv _ _ _)).next (onlyChanges_setDv _ _ _)
  · exact logged

theorem OnlyChanges.mgmt {fs : List Field} {s u : State} (h : OnlyChanges fs s u) (outside : Field.mgmt ∉ fs := by decide) :
    u.mgmt = s.mgmt := h .mgmt outside

/-- R414, R419: of the controllers' record, an error record changes only what the east half holds. -/
theorem State.mgmt_record (s : State) (e : ErrRecord) :
    ∃ waiting lost, (s.record e).mgmt = { s.mgmt with eastHeld := waiting, eastLost := lost } := by
  unfold State.record
  dsimp only
  split
  · exact ⟨_, _, rfl⟩
  · exact ⟨s.mgmt.eastHeld, s.mgmt.eastLost, (recordFrame_ringRec s e).mgmt⟩

theorem deliverEast_spec (s : State) : OnlyChanges recordFields s s.deliverEast ∧
    s.deliverEast.mgmt = { s.mgmt with eastHeld := [], eastLost := 0 } := by
  have emptied := recordFrame_mgmt s { s.mgmt with eastHeld := [], eastLost := 0 }
  unfold State.deliverEast
  dsimp only
  split
  · exact ⟨emptied, rfl⟩
  next r rs _ =>
    have first := recordFrame_ringRec { s with mgmt := { s.mgmt with eastHeld := [], eastLost := 0 } }
      { r with repeats := min 0xFFFF (r.repeats + s.mgmt.eastLost) }
    have rest (u : State) := OnlyChanges.foldl recordFrame_ringRec u rs
    exact ⟨(emptied.next first).next (rest _), (rest _).mgmt.trans first.mgmt⟩

/-- R405: a heartbeat heard brings the halves' link up and leaves both halves and the acknowledgement as they were. -/
theorem linkBack_spec (s : State) : OnlyChanges recordFields s s.linkBack ∧ ∃ waiting lost,
    s.linkBack.mgmt = { s.mgmt with linkUp := true, eastHeld := waiting, eastLost := lost } := by
  unfold State.linkBack
  split
  next up => exact ⟨OnlyChanges.refl _ s, s.mgmt.eastHeld, s.mgmt.eastLost, by rw [← up]⟩
  next =>
    obtain ⟨frame, mgmt⟩ := deliverEast_spec { s with mgmt := { s.mgmt with linkUp := true } }
    exact ⟨(recordFrame_mgmt s _).trans frame, _, _, mgmt⟩

/-! ### The event ring's registers and the hold (R403, R404, R412) -/

/-- R412: a value that an idle ring takes. -/
def ringValue (key v : Nat) : Prop := ¬ ((key = 0xF04000 ∧ v % 64 ≠ 0) ∨ (key = 0xF04100 ∧ v ≠ 0 ∧ (v < 4 ∨ 12 < v)))

theorem ringValue_base (v : Nat) : ringValue 0xF04000 v ↔ v % 64 = 0 := by
  unfold ringValue
  omega

theorem ringValue_size (v : Nat) : ringValue 0xF04100 v ↔ v = 0 ∨ (4 ≤ v ∧ v ≤ 12) := by
  unfold ringValue
  omega

section Ring
variable {s : State} {key v : Nat}

theorem State.ringWrite_idle (good : ringValue key v) (idle : s.dv 0xF04200 = s.dv 0xF04300) : s.ringWrite key v = (s.setDv key v, St.ok) := by
  rw [State.ringWrite, if_neg good, if_neg (not_not_intro idle)]

theorem State.ringWrite_refused (bad : ¬ ringValue key v ∨ s.dv 0xF04200 ≠ s.dv 0xF04300) :
    ∃ st, s.ringWrite key v = (s, st) ∧ refusedStatus st = true := by
  unfold State.ringWrite
  split
  · exact ⟨_, rfl, by decide⟩
  next good =>
    have busy : s.dv 0xF04200 ≠ s.dv 0xF04300 := bad.resolve_left (not_not_intro good)
    rw [if_pos busy]
    exact ⟨_, rfl, by decide⟩

/-- R412: a write of the ring's base or size takes its value on an idle ring, and changes nothing else. -/
theorem ringWrite_row {m : Master} {len : Nat} (may : MayWrite s m key len) :
    (ringValue key v → (s.renewHold m).dv 0xF04200 = (s.renewHold m).dv 0xF04300 → ∃ u : State,
      (s.masterWrite m key len v (fun x => x.ringWrite key v)).1 = u.written m key v ∧ OnlyChanges [.dict] (s.renewHold m) u ∧ u.dv key = v) ∧
    (¬ ringValue key v ∨ (s.renewHold m).dv 0xF04200 ≠ (s.renewHold m).dv 0xF04300 →
      (s.masterWrite m key len v (fun x => x.ringWrite key v)).1 = s.renewHold m) := by
  refine ⟨fun good idle => ⟨_, State.masterWrite_done may (State.ringWrite_idle good idle) (by decide), onlyChanges_setDv _ _ _,
    State.dv_setDv_same _ _ _⟩, fun bad => ?_⟩
  obtain ⟨st, write, refused⟩ := State.ringWrite_refused bad
  exact State.masterWrite_stays may write refused

end Ring

/-- R403: the hold as a take of areas leaves it. -/
theorem holdKeyWrite_take (s : State) (m : Master) {v : Nat} (named : v = 1 ∨ v = 2 ∨ v = 3) : ∃ u, s.holdKeyWrite m v = (u, St.ok) ∧
    OnlyChanges [.mgmt] s u ∧ u.mgmt.hold2000 = (s.mgmt.hold2000 || v.testBit 0) ∧ u.mgmt.hold2800 = (s.mgmt.hold2800 || v.testBit 1) ∧
    ((v.testBit 0 && !s.mgmt.hold2000) = true ∨ (v.testBit 1 && !s.mgmt.hold2800) = true →
      u.mgmt.takenAt = s.now ∧ u.mgmt.renewedAt = s.now ∧ ∀ mac, m = .mgmt mac → u.mgmt.holder = mac) := by
  unfold State.holdKeyWrite
  dsimp only
  rw [if_pos named]
  split
  next =>
    refine ⟨_, rfl, onlyChanges_mgmt s _, rfl, rfl, fun _ => ⟨rfl, rfl, fun mac is => ?_⟩⟩
    rw [is]
  next none =>
    rw [Bool.or_eq_true, not_or] at none
    obtain ⟨noA, noB⟩ := none
    refine ⟨s, rfl, OnlyChanges.refl _ s, ?_, ?_, fun some => (some.elim noA noB).elim⟩
    · cases a : v.testBit 0 <;> cases h : s.mgmt.hold2000 <;> simp_all
    · cases b : v.testBit 1 <;> cases h : s.mgmt.hold2800 <;> simp_all

/-- R403: the hold as a release of areas leaves it. -/
theorem holdKeyWrite_release (s : State) (m : Master) {v : Nat} (named : v = 0x81 ∨ v = 0x82 ∨ v = 0x83) : s.holdKeyWrite m v =
    ({ s with mgmt := { s.mgmt with hold2000 := s.mgmt.hold2000 && !v.testBit 0, hold2800 := s.mgmt.hold2800 && !v.testBit 1 } }, St.ok) := by
  unfold State.holdKeyWrite
  dsimp only
  rw [if_neg (by omega), if_pos named]

theorem holdKeyWrite_other (s : State) (m : Master) {v : Nat} (other : v = 0 ∨ v = 0x80) : s.holdKeyWrite m v = (s, St.reservedSetDict) := by
  unfold State.holdKeyWrite
  dsimp only
  rw [if_neg (by omega), if_neg (by omega)]

/-! ### Health (R409) -/

theorem and_add_ldiff (x v : Nat) : (x &&& v) + x.ldiff v = x := by
  induction x using Nat.binaryRec generalizing v with
  | zero =>
    rw [Nat.zero_and, Nat.zero_add]
    exact Nat.eq_of_testBit_eq (fun k => by rw [Nat.testBit_ldiff, Nat.zero_testBit, Bool.false_and])
  | bit b x ih =>
    have half := ih v.div2
    rw [← Nat.bit_bodd_div2 v, Nat.land_bit, Nat.ldiff_bit]
    cases b <;> cases v.bodd <;> simp only [Nat.bit_val, Bool.and_true, Bool.and_false, Bool.not_true, Bool.not_false,
      Bool.toNat_true, Bool.toNat_false] <;> omega

theorem testBit_sub_and (x v k : Nat) : (x - (x &&& v)).testBit k = (x.testBit k && !v.testBit k) := by
  rw [Nat.sub_eq_of_eq_add' (and_add_ldiff x v).symm, Nat.testBit_ldiff]

theorem testBit_health_latch (s : State) (bit k : Nat) :
    ((s.latch bit).dv 0x110300).testBit k = ((s.dv 0x110300).testBit k || decide (bit = k)) := by
  rw [State.latch, State.dv_setDv_ne _ _ (by decide), State.dv_setDv_same, Nat.testBit_or, Nat.testBit_two_pow]

theorem testBit_health_foldl_latch (bits : List Nat) (s : State) (k : Nat) :
    ((bits.foldl State.latch s).dv 0x110300).testBit k = ((s.dv 0x110300).testBit k || decide (k ∈ bits)) := by
  induction bits generalizing s with
  | nil => simp
  | cons b bits ih =>
    rw [List.foldl_cons, ih, testBit_health_latch, Bool.or_assoc, ← Bool.decide_or]
    simp only [List.mem_cons, eq_comm]

theorem onlyChanges_latch (s : State) (bit : Nat) : OnlyChanges [.dict] s (s.latch bit) :=
  (onlyChanges_setDv s _ _).trans (onlyChanges_setDv _ _ _)

/-- R409: each named bit clears unless its condition persists. -/
theorem clearHealth_spec (s : State) {v : Nat} (fits : v < 2 ^ 15) : ∃ u, s.clearHealth v = (u, St.ok) ∧ OnlyChanges [.dict] s u ∧
    ∀ k, k < 15 → (u.dv 0x110300).testBit k = ((s.dv 0x110300).testBit k && (!v.testBit k || s.healthPersists k)) := by
  unfold State.clearHealth
  rw [if_neg (by omega)]
  refine ⟨_, rfl, (onlyChanges_setDv s _ _).trans (OnlyChanges.foldl onlyChanges_latch _ _), fun k inside => ?_⟩
  have listed : decide (k ∈ (List.range 15).filter (fun b => (s.dv 0x110300 &&& v).testBit b && s.healthPersists b)) =
      ((s.dv 0x110300).testBit k && v.testBit k && s.healthPersists k) := by
    rw [Bool.eq_iff_iff, decide_eq_true_iff, List.mem_filter, List.mem_range, Nat.testBit_and, and_iff_right inside]
  rw [testBit_health_foldl_latch, State.dv_setDv_same, testBit_sub_and, listed]
  cases (s.dv 0x110300).testBit k <;> cases v.testBit k <;> cases s.healthPersists k <;> rfl

/-! ### Heartbeats and leads (R405, R407) -/

theorem onlyChanges_onHalf (s : State) (h : Nat) (f : Half → Half) : OnlyChanges [.mgmt] s (s.onHalf h f) := onlyChanges_mgmt s _

theorem onlyChanges_setFollower (s : State) (x : Nat) : OnlyChanges [.mgmt] s (s.setFollower x) := onlyChanges_mgmt s _

/-- R405: what a heartbeat leaves of both halves, before the halves' link counts as up. -/
def State.heartbeatHeard (s : State) (h : Nat) : State :=
  let s1 := (s.onHalf h (fun x => { x with sentAt := s.now })).onHalf (1 - h) (fun x =>
    { x with heard := s.now, epoch := if x.lead then x.epoch else max x.epoch (s.half h).epoch })
  if (s.half h).lead then s1 else { s1 with mgmt := { s1.mgmt with ackWait := none } }

theorem heartbeatHeard_spec (s : State) (h : Fin 2) : OnlyChanges [.mgmt] s (s.heartbeatHeard h) ∧
    ((s.heartbeatHeard h).half h).sentAt = s.now ∧ ((s.heartbeatHeard h).half (1 - h.val)).heard = s.now ∧
    ((s.half h).lead = false → (s.heartbeatHeard h).mgmt.ackWait = none) := by
  have halves := (onlyChanges_onHalf s h (fun x => { x with sentAt := s.now })).trans (onlyChanges_onHalf _ (1 - h) (fun x =>
    { x with heard := s.now, epoch := if x.lead then x.epoch else max x.epoch (s.half h).epoch }))
  unfold State.heartbeatHeard
  dsimp only
  split
  next lead =>
    refine ⟨halves, ?_, ?_, fun follows => by rw [follows] at lead; cases lead⟩
    · obtain rfl | rfl : h = 0 ∨ h = 1 := by omega
      · rfl
      · rfl
    · obtain rfl | rfl : h = 0 ∨ h = 1 := by omega
      · rfl
      · rfl
  next =>
    refine ⟨halves.trans (onlyChanges_mgmt _ _), ?_, ?_, fun _ => rfl⟩
    · obtain rfl | rfl : h = 0 ∨ h = 1 := by omega
      · rfl
      · rfl
    · obtain rfl | rfl : h = 0 ∨ h = 1 := by omega
      · rfl
      · rfl

theorem State.half_linkBack (s : State) (h : Nat) : s.linkBack.half h = s.half h := by
  obtain ⟨-, _, _, mgmt⟩ := linkBack_spec s
  unfold State.half
  rw [mgmt]

theorem heartbeatFrom_spec (s : State) (h : Fin 2) : OnlyChanges recordFields s (s.heartbeatFrom h) ∧
    ((s.heartbeatFrom h).half h).sentAt = s.now ∧ ((s.heartbeatFrom h).half (1 - h.val)).heard = s.now ∧
    (s.heartbeatFrom h).mgmt.linkUp = true ∧ ((s.half h).lead = false → (s.heartbeatFrom h).mgmt.ackWait = none) := by
  obtain ⟨frame, sent, heard, acked⟩ := heartbeatHeard_spec s h
  obtain ⟨linked, _, _, mgmt⟩ := linkBack_spec (s.heartbeatHeard h)
  change OnlyChanges recordFields s (s.heartbeatHeard h).linkBack ∧ ((s.heartbeatHeard h).linkBack.half h).sentAt = s.now ∧
    ((s.heartbeatHeard h).linkBack.half (1 - h.val)).heard = s.now ∧ (s.heartbeatHeard h).linkBack.mgmt.linkUp = true ∧
    ((s.half h).lead = false → (s.heartbeatHeard h).linkBack.mgmt.ackWait = none)
  rw [State.half_linkBack, State.half_linkBack, mgmt]
  exact ⟨(frame.mono (by decide)).trans linked, sent, heard, rfl, acked⟩

/-- R405: a lead that hears nothing marks the follower absent; a follower leads with the next epoch. -/
theorem missHeartbeats_spec (s : State) (h : Fin 2) : OnlyChanges [.dict, .mgmt] s (s.missHeartbeats h) ∧
    (s.missHeartbeats h).mgmt.linkUp = false ∧ (s.missHeartbeats h).mgmt.follower = 2 ∧ ((s.missHeartbeats h).half h).lead = true ∧
    ((s.missHeartbeats h).half h).epoch = (s.half h).epoch + (if (s.half h).lead then 0 else 1) := by
  unfold State.missHeartbeats
  dsimp only
  split
  next lead => exact ⟨(onlyChanges_mgmt s _).mono (by decide), rfl, rfl, lead, rfl⟩
  next =>
    refine ⟨((onlyChanges_mgmt s _).mono (by decide)).next (onlyChanges_bump _ _ _), ?_⟩
    obtain rfl | rfl : h = 0 ∨ h = 1 := by omega
    · exact ⟨rfl, rfl, rfl, rfl⟩
    · exact ⟨rfl, rfl, rfl, rfl⟩

/-- R407: the half that keeps the lead. -/
def State.winner (s : State) : Nat := if s.mgmt.west.epoch < s.mgmt.east.epoch then 1 else 0

/-- R407, R416: the loser's writes replayed and recorded, the loser not yet in step. -/
def State.leadsJudged (s : State) : State :=
  let (w, l) := (s.half s.winner, s.half (1 - s.winner))
  let r := (s.onHalf (1 - s.winner) (fun x => { x with lead := false })).replayAll w.lone l.lone
  ((r.1.bump 0xF03200 r.2).bump 0xF03100 1).recordOf 0xF003 13 0x30
    (w.epoch % 2 ^ 32 + l.epoch % 2 ^ 32 * 2 ^ 32 + s.winner * 2 ^ 64 + r.2 % 2 ^ 32 * 2 ^ 96)

/-- R407: the two halves in step under the winner's epoch. -/
def State.inStep (s : State) (win epoch : Nat) : State :=
  ((s.onHalf win (fun x => { x with lone := [] })).onHalf (1 - win) (fun x => { x with lone := [], epoch := epoch })).setFollower 0

theorem State.resolveLeads_eq (s : State) : s.resolveLeads = s.leadsJudged.inStep s.winner (s.half s.winner).epoch := rfl

theorem inStep_spec (s : State) {win : Nat} (half : win = 0 ∨ win = 1) (epoch : Nat) : (s.inStep win epoch).mgmt.follower = 0 ∧
    (s.inStep win epoch).mgmt.west.lone = [] ∧ (s.inStep win epoch).mgmt.east.lone = [] := by
  obtain rfl | rfl := half
  · exact ⟨rfl, rfl, rfl⟩
  · exact ⟨rfl, rfl, rfl⟩

theorem resolveLeads_spec (s : State) :
    s.resolveLeads.mgmt.follower = 0 ∧ s.resolveLeads.mgmt.west.lone = [] ∧ s.resolveLeads.mgmt.east.lone = [] := by
  have half : s.winner = 0 ∨ s.winner = 1 := by
    unfold State.winner
    split
    · exact .inr rfl
    · exact .inl rfl
  rw [s.resolveLeads_eq]
  exact inStep_spec _ half _

/-! ### The rows -/

theorem holdKey_rows {s : State} {m : Master} (may : MayWrite s m 0xF02100 1) (k : Fin 4) (named : k ≠ 0) :
    (∃ u : State, exec (.holdTake m k) s = .next (u.written m 0xF02100 k.val) ∧ OnlyChanges [.mgmt] (s.renewHold m) u ∧
      u.mgmt.hold2000 = ((s.renewHold m).mgmt.hold2000 || k.val.testBit 0) ∧
      u.mgmt.hold2800 = ((s.renewHold m).mgmt.hold2800 || k.val.testBit 1) ∧
      ((k.val.testBit 0 && !(s.renewHold m).mgmt.hold2000) = true ∨ (k.val.testBit 1 && !(s.renewHold m).mgmt.hold2800) = true →
        u.mgmt.takenAt = s.now ∧ u.mgmt.renewedAt = s.now ∧ ∀ mac, m = .mgmt mac → u.mgmt.holder = mac)) ∧
    ∃ u : State, exec (.holdRelease m k) s = .next (u.written m 0xF02100 (0x80 + k.val)) ∧ OnlyChanges [.mgmt] (s.renewHold m) u ∧
      u.mgmt = { (s.renewHold m).mgmt with
        hold2000 := (s.renewHold m).mgmt.hold2000 && !k.val.testBit 0, hold2800 := (s.renewHold m).mgmt.hold2800 && !k.val.testBit 1 } := by
  have areas : k.val = 1 ∨ k.val = 2 ∨ k.val = 3 := by omega
  constructor
  · obtain ⟨u, write, frame, a, b, taken⟩ := holdKeyWrite_take (s.renewHold m) m areas
    refine ⟨u, congrArg Host.Outcome.next (State.masterWrite_done may write (by decide)), frame, a, b, fun new => ?_⟩
    rw [← (onlyChanges_renewHold s m).now]
    exact taken new
  · have release := holdKeyWrite_release (s.renewHold m) m (v := 0x80 + k.val) (by omega)
    refine ⟨_, congrArg Host.Outcome.next (State.masterWrite_done may release (by decide)), onlyChanges_mgmt _ _, ?_⟩
    obtain is | is | is := areas
    · rw [is]
      rfl
    · rw [is]
      rfl
    · rw [is]
      rfl

theorem onlyChanges_expired (s : State) (e : ErrRecord) : OnlyChanges [.dict, .log, .logSeq, .mgmt] s
    (({ s with mgmt := { s.mgmt with hold2000 := false, hold2800 := false } } : State).record e) :=
  ((onlyChanges_mgmt s _).mono (by decide)).trans (recordFrame_record _ e)

/-- Settles O54: each write by what it leaves of the hold, of health or of the ring; each timed row by its condition in the state
of its device time. -/
theorem controllerRowsTakeEffect : Obligations.ControllerRowsTakeEffect := by
  unfold Obligations.ControllerRowsTakeEffect
  intro m t s v now
  subst now
  refine ⟨fun b may w held => ?_, fun b may w held => ?_, rfl, fun b c u base => ?_, fun k g may is => ?_, fun b may => ?_,
    fun due is => ?_, fun h x is => ?_, fun apart => ?_, fun west east linked => ?_, fun early => ?_, fun a waits late => ?_,
    fun may is => ?_, fun period due is => ?_, ?_⟩
  · subst held
    obtain ⟨takes, stays⟩ := ringWrite_row (v := b.toNat) may
    rw [ringValue_base] at takes stays
    refine ⟨fun fits idle => ?_, fun bad => congrArg Host.Outcome.next (stays bad)⟩
    obtain ⟨u, write, frame, value⟩ := takes fits idle
    exact ⟨u, congrArg Host.Outcome.next write, frame, value⟩
  · subst held
    have zero : b = 0 ↔ b.toNat = 0 := ⟨fun is => by rw [is]; rfl, fun is => BitVec.eq_of_toNat_eq is⟩
    obtain ⟨takes, stays⟩ := ringWrite_row (v := b.toNat) may
    rw [ringValue_size] at takes stays
    simp only [ne_eq, zero]
    refine ⟨fun fits idle => ?_, fun bad => congrArg Host.Outcome.next (stays (bad.imp_left (by omega)))⟩
    obtain ⟨u, write, frame, value⟩ := takes fits idle
    exact ⟨u, congrArg Host.Outcome.next write, frame, value⟩
  · cases base
    rfl
  · subst is
    refine ⟨fun none => ?_, holdKey_rows may k⟩
    subst none
    exact ⟨congrArg Host.Outcome.next (State.masterWrite_stays may (holdKeyWrite_other _ m (.inl rfl)) (by decide)),
      congrArg Host.Outcome.next (State.masterWrite_stays may (holdKeyWrite_other _ m (.inr rfl)) (by decide))⟩
  · refine ⟨fun high => congrArg Host.Outcome.next (State.masterWrite_stays may (if_pos high) (by decide)), fun fits => ?_⟩
    obtain ⟨u, write, frame, bits⟩ := clearHealth_spec (s.renewHold m) fits
    refine ⟨u, congrArg Host.Outcome.next (State.masterWrite_done may write (by decide)), frame, fun k inside => ?_⟩
    rw [bits k inside, s.dv_renewHold]
  · subst is
    refine ⟨fun early => congrArg Host.Outcome.next (if_neg (of_decide_eq_false early)), fun due => ?_⟩
    refine ⟨_, congrArg Host.Outcome.next (if_pos (of_decide_eq_true due)), onlyChanges_expired _ _, ?_⟩
    obtain ⟨_, _, mgmt⟩ := State.mgmt_record { s.tick t with mgmt := { (s.tick t).mgmt with hold2000 := false, hold2800 := false } } _
    rw [State.recordOf, mgmt]
    exact ⟨rfl, rfl⟩
  · subst is
    refine ⟨fun early => congrArg Host.Outcome.next (if_neg ?_), fun alive due => ?_, fun early => congrArg Host.Outcome.next (if_neg ?_),
      fun alive silent may => ?_⟩
    · rintro ⟨alive, due⟩
      obtain dead | early := early
      · rw [dead] at alive
        cases alive
      · omega
    · exact ⟨_, congrArg Host.Outcome.next (if_pos ⟨alive, due⟩), heartbeatFrom_spec _ h⟩
    · rintro ⟨alive, silent, may⟩
      obtain dead | recent | absent := early
      · rw [dead] at alive
        cases alive
      · omega
      · exact may absent
    · refine ⟨_, congrArg Host.Outcome.next (if_pos ⟨alive, silent, ?_⟩), missHeartbeats_spec _ h⟩
      rintro ⟨lead, absent⟩
      obtain follows | present := may
      · rw [follows] at lead
        cases lead
      · exact present absent
  · refine congrArg Host.Outcome.next (if_neg ?_)
    rintro ⟨west, east, linked⟩
    obtain no | no | no := apart
    · rw [no] at west
      cases west
    · rw [no] at east
      cases east
    · rw [no] at linked
      cases linked
  · exact ⟨congrArg Host.Outcome.next (if_pos ⟨west, east, linked⟩), resolveLeads_spec _⟩
  · change Host.Outcome.next _ = _
    obtain none | ⟨a, waits, early⟩ := early
    · rw [none]
    · rw [waits]
      exact congrArg Host.Outcome.next (if_neg (by omega))
  · refine ⟨({ s.tick t with mgmt := { (s.tick t).mgmt with ackWait := none } } : State).setFollower 1, ?_,
      (onlyChanges_mgmt _ _).trans (onlyChanges_setFollower _ 1), rfl⟩
    change Host.Outcome.next _ = _
    rw [waits]
    exact congrArg Host.Outcome.next (if_pos late)
  · subst is
    have same (a b : Bool) : ((a || b) && !(a && b)) = (a != b) := by cases a <;> cases b <;> rfl
    refine ⟨fun early => congrArg Host.Outcome.next (if_neg ?_), fun may => ⟨_, congrArg Host.Outcome.next (if_pos ?_),
      ((onlyChanges_onHalf _ _ _).trans (onlyChanges_onHalf _ _ _)).trans (onlyChanges_setFollower _ _), rfl⟩⟩
    · rw [same]
      exact of_decide_eq_false early
    · rw [same]
      exact of_decide_eq_true may
  · subst is
    exact ⟨fun early => congrArg Host.Outcome.next (if_neg (of_decide_eq_false early)), fun due =>
      ⟨_, congrArg Host.Outcome.next (if_pos (of_decide_eq_true due)), onlyChanges_setDv _ _ _, State.dv_setDv_same _ _ _⟩⟩
  · refine ⟨_, rfl, ((onlyChanges_mgmt (s.tick t) _).mono (by decide)).next (onlyChanges_setDv _ _ _), rfl, fun on other => ?_, fun off => ?_⟩
    · rw [State.dv_setDv_same, if_pos ⟨on, other⟩]
      rfl
    · rw [State.dv_setDv_same, if_neg (by omega)]
      rfl

end Sys2Proof.Machine

/-! Scope of the block: coalescing windows, rotation patterns, recovery tests, the test commands and the test access port (O55). -/

namespace Sys2Proof.Machine

-- One proof after another: side by side, their threads take the compile of the whole text past its memory limit.
set_option Elab.async false

/-! ### Frames as states -/

/-- A state is the one that agrees with it in every field. -/
theorem State.eq_of_same {s u : State} (agrees : ∀ f, s.same u f) : u = s := by
  cases s
  cases u
  rw [State.mk.injEq]
  exact ⟨agrees .pending, agrees .now, agrees .fresh, agrees .egress, agrees .mem, agrees .marks, agrees .dict, agrees .tags, agrees .log,
    agrees .logSeq, agrees .windows, agrees .queues, agrees .counters, agrees .ingress, agrees .bankLast, agrees .bankAt, agrees .tensors,
    agrees .alloc, agrees .step, agrees .clusters, agrees .lastQueue, agrees .channels, agrees .packages, agrees .stageWait, agrees .ports,
    agrees .streamsOut, agrees .streamsIn, agrees .reqs, agrees .nextTag, agrees .directory, agrees .snoops, agrees .lineWait,
    agrees .arrivals, agrees .collectives, agrees .nextCollective, agrees .parked, agrees .colSent, agrees .traek, agrees .twin,
    agrees .regions, agrees .power, agrees .spots, agrees .cooling, agrees .mgmt, agrees .test, agrees .boot⟩

theorem onlyChanges_test (s : State) (x : TestState) : OnlyChanges [.test] s { s with test := x } := by
  intro f outside
  cases f
  case test => exact absurd List.mem_cons_self outside
  all_goals rfl

theorem OnlyChanges.eq_test {s u : State} {x : TestState} (h : OnlyChanges [.test] s u) (is : u.test = x) : u = { s with test := x } := by
  refine State.eq_of_same (fun f => ?_)
  have kept := h f
  cases f
  case test => exact is
  all_goals exact kept (by decide)

/-! ### Coalescing (R417) -/

section Window
variable {s : State} {cls src : Nat} {w : Window}

theorem State.endWindow_none (none : s.windows.find? (fun w => w.cls == cls && w.source == src) = none) : s.endWindow cls src = s := by
  unfold State.endWindow
  rw [none]

theorem State.endWindow_early (found : s.windows.find? (fun w => w.cls == cls && w.source == src) = some w)
    (early : s.now < w.since + 1000 * s.dv 0x700400) : s.endWindow cls src = s := by
  unfold State.endWindow
  rw [found]
  exact if_pos early

/-- R417: the window closed, its closing record not written yet. -/
def State.windowShut (s : State) (w : Window) : State := { s with windows := s.windows.erase w }

/-- R417: the closing record of a window, with the number of the records it suppressed. -/
def State.windowRecord (s : State) (cls src : Nat) (w : Window) : ErrRecord :=
  { (s.windowShut w).mkRec cls (ceUnit cls src).1 (ceUnit cls src).2 w.last with flags := 4, repeats := min 0xFFFF w.count }

theorem State.endWindow_done (found : s.windows.find? (fun w => w.cls == cls && w.source == src) = some w)
    (due : w.since + 1000 * s.dv 0x700400 ≤ s.now) :
    s.endWindow cls src = if w.count = 0 then s.windowShut w else (s.windowShut w).record (s.windowRecord cls src w) := by
  unfold State.endWindow
  rw [found]
  exact if_neg (Nat.not_lt.mpr due)

end Window

/-! ### Runs of test patterns (R107, R426 to R428) -/

theorem recordFrame_kernelRecords (s : State) (c : Option Nat) (p : Nat) (k : Option Kernel) :
    OnlyChanges recordFields s (s.kernelRecords c p k) := by
  cases k with
  | none => exact OnlyChanges.refl _ s
  | some k => exact OnlyChanges.foldl (fun u _ => onlyChanges_recordOf u _ _ _ _) s _

theorem recordFrame_kernels (s : State) (c : Nat) (k : Option Kernel) : OnlyChanges recordFields s (s.kernels c k) := by
  cases k with
  | none => exact OnlyChanges.refl _ s
  | some k => exact (recordFrame_setDv s _ _).trans (recordFrame_kernelRecords _ _ _ _)

theorem State.position_congr {s u : State} {c : Nat} (same : (u.cluster c).physical = (s.cluster c).physical) :
    u.position c = s.position c := by
  rw [State.position, same, State.position]

/-- Only the record of cluster `c` differs, and it is `k`. -/
def ClusterIs (s u : State) (c : Nat) (k : Cluster) : Prop := u.cluster c = k ∧ ∀ j, j ≠ c → u.cluster j = s.cluster j

theorem clusterIs_onCluster (s : State) (c : Nat) (f : Cluster → Cluster) : ClusterIs s (s.onCluster c f) c (f (s.cluster c)) :=
  ⟨State.cluster_onCluster_same s c f, fun j other => by rw [State.cluster_onCluster, if_neg other]⟩

theorem ClusterIs.next {s u v : State} {c : Nat} {k : Cluster} {fs : List Field} (h : ClusterIs s u c k) (g : OnlyChanges fs u v)
    (outside : Field.clusters ∉ fs := by decide) : ClusterIs s v c k :=
  ⟨(g.cluster outside c).trans h.1, fun j other => (g.cluster outside j).trans (h.2 j other)⟩

theorem ClusterIs.then {s u : State} {c : Nat} {k : Cluster} (h : ClusterIs s u c k) (f : Cluster → Cluster) :
    ClusterIs s (u.onCluster c f) c (f k) := by
  obtain ⟨here, others⟩ := clusterIs_onCluster u c f
  exact ⟨by rw [here, h.1], fun j other => (others j other).trans (h.2 j other)⟩

/-- The fields that tests of a cluster may change. -/
def testFields : List Field := [.dict, .log, .logSeq, .clusters, .mgmt]

theorem testFrame_onCluster (s : State) (c : Nat) (f : Cluster → Cluster) : OnlyChanges testFields s (s.onCluster c f) :=
  (onlyChanges_onCluster s c f).mono (by decide)

theorem setClusterState_spec (s : State) (c new : Nat) : OnlyChanges testFields s (s.setClusterState c new) ∧
    ClusterIs s (s.setClusterState c new) c { s.cluster c with state := new } := by
  unfold State.setClusterState
  dsimp only
  split
  next same => exact ⟨OnlyChanges.refl _ s, by rw [← same], fun _ _ => rfl⟩
  next =>
    have noted (n : Nat) := onlyChanges_recordOf (s.onCluster c (fun k => { k with state := new })) 0x7003 14 c n
    exact ⟨(testFrame_onCluster s c _).next (noted _), (clusterIs_onCluster s c _).next (noted _)⟩

/-- R427: a visit begins: its kernel has run on every array. -/
def State.visited (s : State) (c : Nat) (k : Option Kernel) : State := (s.onCluster c (fun k => { k with rotateNow := false })).kernels c k

theorem visited_spec (s : State) (c : Nat) (k : Option Kernel) : OnlyChanges testFields s (s.visited c k) ∧
    ClusterIs s (s.visited c k) c { s.cluster c with rotateNow := false } :=
  ⟨(testFrame_onCluster s c _).next (recordFrame_kernels _ _ _), (clusterIs_onCluster s c _).next (recordFrame_kernels _ _ _)⟩

theorem State.rotate_passes {run : TestRun} (passes : runFails run = none) (s : State) (c : Nat) :
    s.rotate c run = (s.visited c run.kernel).onCluster c (fun k => { k with passes := (k.passes + 1) % 2 ^ 32 }) := by
  unfold State.rotate
  rw [passes]
  rfl

/-- R427: the failing pattern of a visit, kept. -/
def State.visitFailed (s : State) (c : Nat) (run : TestRun) : State :=
  (s.visited c run.kernel).onCluster c (fun k => { k with failPattern := run.pattern.toNat })

theorem State.rotate_fails {run : TestRun} {p : Nat} (fails : runFails run = some p) (s : State) (c : Nat) :
    s.rotate c run = ((s.visitFailed c run).testFail 2 c (s.position c) run.pattern.toNat p).quarantine c := by
  have place : (s.visited c run.kernel).position c = s.position c := State.position_congr (by rw [(visited_spec s c run.kernel).2.1])
  unfold State.rotate
  rw [fails, ← place]
  rfl

theorem State.enabled_congr {s u : State} {c : Nat} (same : u.cluster c = s.cluster c) : u.enabled c = s.enabled c := by
  rw [State.enabled, same, State.enabled]

/-- R428: a quarantine while another cluster is enabled changes that cluster alone. -/
theorem quarantine_spec {s : State} {c j : Nat} (inside : j < 32) (other : j ≠ c) (serves : s.enabled j = true) :
    OnlyChanges testFields s (s.quarantine c) ∧
    ClusterIs s (s.quarantine c) c { s.cluster c with state := 1, pattern := none, rotateNow := false, testNow := true } := by
  obtain ⟨frame, is⟩ := setClusterState_spec s c 1
  have marked := is.then (fun k => { k with pattern := none, rotateNow := false, testNow := true })
  have some : (List.range 32).any ((s.setClusterState c 1).onCluster c (fun k =>
      { k with pattern := none, rotateNow := false, testNow := true })).enabled = true :=
    List.any_eq_true.mpr ⟨j, List.mem_range.mpr inside, (State.enabled_congr (marked.2 j other)).trans serves⟩
  unfold State.quarantine
  dsimp only
  rw [if_pos some]
  exact ⟨frame.trans (testFrame_onCluster _ c _), marked⟩

/-! ### Recovery tests (R424, R428) -/

/-- The first run that fails, with its pattern and its failing unit. -/
def firstFailing (runs : List TestRun) : Option (Nat × Nat) := runs.findSome? (fun r => (runFails r).map (fun u => (r.pattern.toNat, u)))

theorem firstFailing_none {runs : List TestRun} (pass : ∀ r ∈ runs, runFails r = none) : firstFailing runs = none :=
  List.findSome?_eq_none_iff.mpr (fun r listed => by rw [pass r listed, Option.map_none])

theorem firstFailing_some {runs : List TestRun} {r : TestRun} {p : Nat} (first : runs.find? (fun r => (runFails r).isSome) = some r)
    (fails : runFails r = some p) : firstFailing runs = some (r.pattern.toNat, p) := by
  induction runs with
  | nil => cases first
  | cons x runs ih =>
    unfold firstFailing
    cases outcome : runFails x with
    | none =>
      rw [List.find?_cons_of_neg (by rw [outcome]; decide)] at first
      rw [List.findSome?_cons, outcome, Option.map_none]
      exact ih first
    | some u =>
      rw [List.find?_cons_of_pos (by rw [outcome]; rfl)] at first
      cases first
      rw [List.findSome?_cons, fails, Option.map_some]

/-- R428: a recovery test's runs have been made on cluster `c`. -/
def State.recoveryRun (s : State) (c : Nat) (made : List TestRun) : State := made.foldl (fun x r => x.kernels c r.kernel) (s.testMade c)

/-- The fields that a recovery test may change. -/
def recoveryFields : List Field := [.dict, .log, .logSeq, .clusters, .mgmt, .test]

theorem recoveryRun_spec (s : State) (c : Nat) (made : List TestRun) : OnlyChanges recoveryFields s (s.recoveryRun c made) ∧
    (s.recoveryRun c made).cluster c = { s.cluster c with testNow := false } := by
  have runs := OnlyChanges.foldl (fun (u : State) (r : TestRun) => recordFrame_kernels u c r.kernel) (s.testMade c) made
  have begun : OnlyChanges recoveryFields s (s.testMade c) := ((onlyChanges_test s _).mono (by decide)).next (onlyChanges_onCluster _ c _)
  exact ⟨begun.next runs, (runs.cluster (by decide) c).trans (State.cluster_onCluster_same _ c _)⟩

section Recovery
variable {s : State} {n : Nat} {runs made : List TestRun}

theorem State.recoverCluster_passes (is : made = untilFail (runs.take 4)) (four : made.length = 4)
    (pass : ∀ r ∈ made, runFails r = none ∧ r.kernel.isSome = true) :
    s.recoverCluster n runs = (s.recoveryRun n made).setClusterState n 0 := by
  subst is
  have found := firstFailing_none (fun r listed => (pass r listed).1)
  have kernels := List.all_eq_true.mpr (fun r listed => (pass r listed).2)
  unfold firstFailing at found
  unfold State.recoverCluster
  dsimp only
  rw [found]
  exact if_pos ⟨four, kernels⟩

theorem State.recoverCluster_open (is : made = untilFail (runs.take 4)) (short : made.length ≠ 4 ∨ ∃ r ∈ made, r.kernel = none)
    (pass : ∀ r ∈ made, runFails r = none) : s.recoverCluster n runs = s := by
  subst is
  have found := firstFailing_none pass
  unfold firstFailing at found
  unfold State.recoverCluster
  dsimp only
  rw [found]
  refine if_neg ?_
  rintro ⟨four, kernels⟩
  obtain other | ⟨r, listed, without⟩ := short
  · exact other four
  · have kernel := List.all_eq_true.mp kernels r listed
    rw [without] at kernel
    cases kernel

/-- R428: the failing pattern of a recovery test, kept. -/
def State.recoveryFailed (s : State) (c : Nat) (made : List TestRun) (pattern : Nat) : State :=
  (s.recoveryRun c made).onCluster c (fun k => { k with failPattern := pattern })

theorem State.recoverCluster_fails {r : TestRun} {p : Nat} (is : made = untilFail (runs.take 4))
    (first : made.find? (fun r => (runFails r).isSome) = some r) (fails : runFails r = some p) : s.recoverCluster n runs =
    ((s.recoveryFailed n made r.pattern.toNat).testFail 3 n (s.position n) r.pattern.toNat p).goDark n 2 := by
  have place : (s.recoveryRun n made).position n = s.position n := State.position_congr (by rw [(recoveryRun_spec s n made).2])
  subst is
  have found := firstFailing_some first fails
  unfold firstFailing at found
  unfold State.recoverCluster
  dsimp only
  rw [found, ← place]
  rfl

/-- R424: a region's test is no longer asked for. -/
def State.regionTested (s : State) (n : Nat) : State :=
  { s with test := { s.test with regionTests := s.test.regionTests.filter (· != n) } }

theorem State.recoverRegion_passes (pass : ∀ r ∈ runs, runFails r = none) : s.recoverRegion n runs = s.regionTested n := by
  have found := firstFailing_none pass
  unfold firstFailing at found
  unfold State.recoverRegion
  dsimp only
  rw [found]
  rfl

theorem State.recoverRegion_fails {r : TestRun} {p : Nat} (first : runs.find? (fun r => (runFails r).isSome) = some r)
    (fails : runFails r = some p) : s.recoverRegion n runs = (s.regionTested n).testFail 3 n n r.pattern.toNat p := by
  have found := firstFailing_some first fails
  unfold firstFailing at found
  unfold State.recoverRegion
  dsimp only
  rw [found]
  rfl

/-- R428: a recovery test of a unit, where it is due. -/
def State.recoveryStep (s : State) (n : Nat) (runs : List TestRun) : State :=
  if runs.isEmpty || !s.testable n then s
  else if n < 32 then
    (if (s.cluster n).state = 1 ∨ ((s.cluster n).state = 0 ∧ s.test.regionTests.contains n = true) then s.recoverCluster n runs else s)
  else if s.test.regionTests.contains n then s.recoverRegion n runs
  else s

theorem exec_recoveryTest (u : Fin 48) (runs : List TestRun) (t : Nat) (s : State) :
    exec (.recoveryTest u runs t) s = .next (s.timed t (fun x => x.recoveryStep u runs)) := rfl

theorem State.mayTest (some : runs ≠ []) (free : s.testable n = true) : ¬ (runs.isEmpty || !s.testable n) = true := by
  rw [free, Bool.not_true, Bool.or_false, List.isEmpty_iff]
  exact some

theorem State.recoveryStep_stays (not : runs = [] ∨ s.testable n = false ∨
    (n < 32 ∧ (s.cluster n).state ≠ 1 ∧ s.test.regionTests.contains n = false) ∨
    (n < 32 ∧ (s.cluster n).state ≠ 1 ∧ (s.cluster n).state ≠ 0) ∨ (32 ≤ n ∧ s.test.regionTests.contains n = false)) :
    s.recoveryStep n runs = s := by
  unfold State.recoveryStep
  split
  · rfl
  next may =>
    obtain none | busy | ⟨cluster, well, other⟩ | ⟨cluster, well, out⟩ | ⟨region, other⟩ := not
    · exact absurd (by rw [none]; rfl) may
    · exact absurd (by rw [busy, Bool.not_false, Bool.or_true]) may
    · rw [if_pos cluster, if_neg]
      rintro (one | ⟨-, named⟩)
      · exact well one
      · exact ne_true_of_eq_false other named
    · rw [if_pos cluster, if_neg]
      rintro (one | ⟨zero, -⟩)
      · exact well one
      · exact out zero
    · rw [if_neg (by omega), if_neg (ne_true_of_eq_false other)]

theorem State.recoveryStep_cluster (some : runs ≠ []) (free : s.testable n = true) (inside : n < 32)
    (due : (s.cluster n).state = 1 ∨ ((s.cluster n).state = 0 ∧ s.test.regionTests.contains n = true)) :
    s.recoveryStep n runs = s.recoverCluster n runs := by
  rw [State.recoveryStep, if_neg (State.mayTest some free), if_pos inside, if_pos due]

theorem State.recoveryStep_region (some : runs ≠ []) (free : s.testable n = true) (outside : 32 ≤ n)
    (named : s.test.regionTests.contains n = true) : s.recoveryStep n runs = s.recoverRegion n runs := by
  rw [State.recoveryStep, if_neg (State.mayTest some free), if_neg (by omega), if_pos named]

end Recovery

/-! ### Test commands (R432) -/

section TestCommands
variable {s : State} {u : Nat}

/-- R432: a command on a cluster or a package, by its operation. -/
theorem State.testCommand_cluster {op : Nat} (known : 1 ≤ op ∧ op ≤ 4) (inside : u < 32) : s.testCommand (op + u * 2 ^ 8) =
    if op = 1 then (if s.enabled u then (s.quarantine u, St.ok) else (s, St.unitState))
    else if op = 2 then
      (if (s.cluster u).state = 1 then (s.onCluster u (fun k => { k with testNow := true }), St.ok) else (s, St.unitState))
    else if op = 3 then (if s.offline u then (s, St.unitState) else (s.takeOffline u (4 * u) 4, St.ok))
    else (if s.enabled u then (s.onCluster u (fun k => { k with rotateNow := true }), St.ok) else (s, St.unitState)) := by
  have unit : (op + u * 2 ^ 8) / 2 ^ 8 % 256 = u := by omega
  have named : (op + u * 2 ^ 8) % 256 = op := by omega
  unfold State.testCommand
  dsimp only
  rw [unit, named, if_neg (by omega)]
  have last : ¬ op = 4 ↔ op ≠ 4 := Iff.rfl
  obtain rfl | rfl | rfl | rfl : op = 1 ∨ op = 2 ∨ op = 3 ∨ op = 4 := by omega
  · rfl
  · rfl
  · rfl
  · rfl

theorem State.testCommand_outside (outside : u < 32) : s.testCommand (5 + u * 2 ^ 8) = (s, St.reservedSetDict) := by
  unfold State.testCommand
  exact if_pos (by omega)

theorem State.testCommand_region (inside : 32 ≤ u ∧ u < 48) : s.testCommand (5 + u * 2 ^ 8) =
    if (s.region u).power = 3 then (s, St.unitState)
    else ({ s with test := { s.test with regionTests := s.test.regionTests.filter (· != u) ++ [u] } }, St.ok) := by
  have unit : (5 + u * 2 ^ 8) / 2 ^ 8 % 256 = u := by omega
  have named : (5 + u * 2 ^ 8) % 256 = 5 := by omega
  unfold State.testCommand
  dsimp only
  rw [unit, named, if_neg (by omega)]
  rfl

theorem State.testBy_done {m : Master} {op : Nat} {v : State} (may : MayWrite s m 0x704000 8)
    (acts : (s.renewHold m).testCommand (op + u * 2 ^ 8) = (v, St.ok)) : s.testBy m op u = v.written m 0x704000 (op + u * 256) :=
  State.masterWrite_done may acts (by decide)

theorem State.testBy_refused {m : Master} {op : Nat} (may : MayWrite s m 0x704000 8)
    (acts : (s.renewHold m).testCommand (op + u * 2 ^ 8) = (s.renewHold m, St.unitState)) : s.testBy m op u = s.renewHold m :=
  State.masterWrite_stays may acts (by decide)

/-- R432: QUARANTINE acts on an enabled cluster. -/
theorem State.testBy_quarantine {m : Master} (may : MayWrite s m 0x704000 8) (inside : u < 32) : s.testBy m 1 u =
    if s.enabled u then ((s.renewHold m).quarantine u).written m 0x704000 (1 + u * 256) else s.renewHold m := by
  have command := State.testCommand_cluster (s := s.renewHold m) (op := 1) (by decide) inside
  rw [if_pos rfl, State.enabled_congr ((onlyChanges_renewHold s m).cluster (by decide) u)] at command
  split
  next serves => exact State.testBy_done may (command.trans (if_pos serves))
  next out => exact State.testBy_refused may (command.trans (if_neg out))

/-- R432: RUN_RECOVERY_TEST acts on a quarantined cluster. -/
theorem State.testBy_recovery {m : Master} (may : MayWrite s m 0x704000 8) (inside : u < 32) : s.testBy m 2 u =
    if (s.cluster u).state = 1 then
      ((s.renewHold m).onCluster u (fun k => { k with testNow := true })).written m 0x704000 (2 + u * 256)
    else s.renewHold m := by
  have command := State.testCommand_cluster (s := s.renewHold m) (op := 2) (by decide) inside
  rw [if_neg (by decide), if_pos rfl, (onlyChanges_renewHold s m).cluster (by decide) u] at command
  split
  next one => exact State.testBy_done may (command.trans (if_pos one))
  next other => exact State.testBy_refused may (command.trans (if_neg other))

/-- R228, R432: TAKE_PACKAGE_OUT_OF_SERVICE acts on a package in service. -/
theorem State.testBy_package {m : Master} (may : MayWrite s m 0x704000 8) (inside : u < 32) : s.testBy m 3 u =
    if s.offline u then s.renewHold m else ((s.renewHold m).takeOffline u (4 * u) 4).written m 0x704000 (3 + u * 256) := by
  have command := State.testCommand_cluster (s := s.renewHold m) (op := 3) (by decide) inside
  have same : (s.renewHold m).offline u = s.offline u := congrArg Package.offline ((onlyChanges_renewHold s m).package (by decide) u)
  rw [if_neg (by decide), if_neg (by decide), if_pos rfl, same] at command
  split
  next out => exact State.testBy_refused may (command.trans (if_pos out))
  next serves => exact State.testBy_done may (command.trans (if_neg serves))

/-- R432: RUN_ROTATION_PATTERN acts on an enabled cluster. -/
theorem State.testBy_rotation {m : Master} (may : MayWrite s m 0x704000 8) (inside : u < 32) : s.testBy m 4 u =
    if s.enabled u then
      ((s.renewHold m).onCluster u (fun k => { k with rotateNow := true })).written m 0x704000 (4 + u * 256)
    else s.renewHold m := by
  have command := State.testCommand_cluster (s := s.renewHold m) (op := 4) (by decide) inside
  rw [if_neg (by decide), if_neg (by decide), if_neg (by decide),
    State.enabled_congr ((onlyChanges_renewHold s m).cluster (by decide) u)] at command
  split
  next serves => exact State.testBy_done may (command.trans (if_pos serves))
  next out => exact State.testBy_refused may (command.trans (if_neg out))

/-- R424, R432: a region's test, asked for. -/
def State.regionNamed (s : State) (r : Nat) : State :=
  { s with test := { s.test with regionTests := s.test.regionTests.filter (· != r) ++ [r] } }

theorem State.testBy_region {m : Master} (may : MayWrite s m 0x704000 8) (inside : 32 ≤ u ∧ u < 48) : s.testBy m 5 u =
    if (s.region u).power = 3 then s.renewHold m else ((s.renewHold m).regionNamed u).written m 0x704000 (5 + u * 256) := by
  have command := State.testCommand_region (s := s.renewHold m) inside
  rw [(onlyChanges_renewHold s m).region (by decide) u] at command
  split
  next dark => exact State.testBy_refused may (command.trans (if_pos dark))
  next lit => exact State.testBy_done may (command.trans (if_neg lit))

theorem State.testBy_cluster_region {m : Master} (may : MayWrite s m 0x704000 8) (cluster : u < 32) : s.testBy m 5 u = s.renewHold m :=
  State.masterWrite_stays may (State.testCommand_outside cluster) (by decide)

end TestCommands

/-! ### The test access port (R425) -/

theorem onlyChanges_onTest (s : State) (f : TestState → TestState) : OnlyChanges [.test] s (s.onTest f) := onlyChanges_test s _

/-- Settles O55: each row by the lemmas of what its runs, its command or its instruction leaves. -/
theorem testRowsTakeEffect : Obligations.TestRowsTakeEffect := by
  unfold Obligations.TestRowsTakeEffect
  intro t s s0 now
  have row {e : Instr} {f : State → State} {v : State} (acts : exec e s = .next (s.timed t f)) (ends : f s0 = v) : EndsIn e s v :=
    endsIn_timed acts (now ▸ ends)
  refine ⟨fun cls src v is => ?_, fun c run k is => ?_, fun v c j insideC insideJ other serves => ?_, fun n runs made is => ?_,
    fun m c r v may held => ?_, fun die pins pre failing v selected => ?_⟩
  · subst is
    refine ⟨fun none => congrArg Host.Outcome.next (State.endWindow_none none), fun w found =>
      ⟨fun early => congrArg Host.Outcome.next (State.endWindow_early found early), fun due => ?_⟩⟩
    have ends := State.endWindow_done found due
    exact ⟨(s.tick t).windowShut w, onlyChanges_windows _ _, rfl,
      fun zero => congrArg Host.Outcome.next (ends.trans (if_pos zero)),
      fun counted => ⟨_, rfl, rfl, rfl, rfl, congrArg Host.Outcome.next (ends.trans (if_neg counted))⟩⟩
  · subst is
    obtain ⟨frame, visit⟩ := visited_spec s0 c run.kernel
    refine ⟨fun early => row rfl (if_neg (ne_true_of_eq_false early)), fun due passes => ?_, fun p due fails => ?_⟩
    · exact ⟨_, row rfl ((if_pos due).trans (State.rotate_passes passes s0 c)), frame.trans (testFrame_onCluster _ c _), visit.then _⟩
    · exact ⟨s0.visitFailed c run, frame.trans (testFrame_onCluster _ c _), (visit.then _).1,
        row rfl ((if_pos due).trans (State.rotate_fails fails s0 c))⟩
  · obtain ⟨frame, here, others⟩ := quarantine_spec insideJ other serves
    rw [here, others j other]
    exact ⟨rfl, rfl, rfl, frame⟩
  · have recovers {v : State} (ends : s0.recoveryStep n runs = v) : EndsIn (.recoveryTest n runs t) s v :=
      row (exec_recoveryTest n runs t s) ends
    refine ⟨fun not => recovers (State.recoveryStep_stays not), fun some free inside due => ?_, fun some free outside named => ?_⟩
    · have step := State.recoveryStep_cluster some free inside due
      obtain ⟨frame, tested⟩ := recoveryRun_spec s0 n made
      refine ⟨fun four pass => ?_, fun r p first fails => ?_, fun short pass => recovers (step.trans (State.recoverCluster_open is short pass))⟩
      · obtain ⟨ends, here, -⟩ := setClusterState_spec (s0.recoveryRun n made) n 0
        refine ⟨_, recovers (step.trans (State.recoverCluster_passes is four pass)), frame.next ends, ?_, ?_⟩
        · rw [State.enabled, here]
          rfl
        · rw [here, tested]
      · refine ⟨s0.recoveryFailed n made r.pattern.toNat, frame.next (onlyChanges_onCluster _ n _), ?_,
          recovers (step.trans (State.recoverCluster_fails is first fails))⟩
        rw [State.recoveryFailed, State.cluster_onCluster_same]
    · have step := State.recoveryStep_region some free outside named
      exact ⟨s0.regionTested n, onlyChanges_test s0 _, rfl, fun pass => recovers (step.trans (State.recoverRegion_passes pass)),
        fun r p first fails => recovers (step.trans (State.recoverRegion_fails first fails))⟩
  · subst held
    have next {e : Instr} {u v : State} (acts : exec e s = .next u) (ends : u = v) : exec e s = .next v := ends ▸ acts
    have recovery := State.testBy_recovery may c.isLt
    have rotation := State.testBy_rotation may c.isLt
    refine ⟨next rfl (State.testBy_quarantine may c.isLt), fun one => ?_, fun other => next rfl (recovery.trans (if_neg other)),
      next rfl (State.testBy_package may c.isLt), fun serves => ?_,
      fun out => next rfl (rotation.trans (if_neg (ne_true_of_eq_false out))), fun region lit => ?_, fun not => ?_⟩
    · refine ⟨_, next rfl (recovery.trans (if_pos one)), onlyChanges_onCluster _ _ _, ?_⟩
      rw [State.cluster_onCluster_same, (onlyChanges_renewHold s m).cluster]
    · refine ⟨_, next rfl (rotation.trans (if_pos serves)), onlyChanges_onCluster _ _ _, ?_⟩
      rw [State.cluster_onCluster_same, (onlyChanges_renewHold s m).cluster]
    · have test : (s.renewHold m).test = s.test := (onlyChanges_renewHold s m) .test (by decide)
      refine ⟨_, next rfl ((State.testBy_region may ⟨region, r.isLt⟩).trans (if_neg lit)), onlyChanges_test _ _, ?_⟩
      rw [State.regionNamed, test]
    · by_cases cluster : r.val < 32
      · exact next rfl (State.testBy_cluster_region may cluster)
      · have dark := not.resolve_left cluster
        exact next rfl ((State.testBy_region may ⟨by omega, r.isLt⟩).trans (if_pos dark))
  · have are : v = fun ir drive => s.selectIr die ir drive := funext (fun ir => funext (fun drive =>
      (selected ir drive).1.eq_test (selected ir drive).2))
    subst are
    refine ⟨rfl, rfl, ⟨(s.selectIr die 2 false).onTest (fun t => { t with boundary := put [] t.boundary die (pre.getD pins) }), rfl,
      (onlyChanges_onTest s _).trans (onlyChanges_onTest _ _), rfl⟩, fun access => congrArg Host.Outcome.next (if_pos access),
      fun none => ?_, fun access => ?_⟩
    · have closed := ne_true_of_eq_false none
      exact ⟨congrArg Host.Outcome.next (if_neg closed), congrArg Host.Outcome.next (if_neg closed)⟩
    · exact ⟨_, (s.selectIr die 4 false).onTest (fun t => { t with
        captured := put 0 t.captured die ((if failing = 0 then 1 else 0) + failing * 2 % 2 ^ 32) }), rfl,
        congrArg Host.Outcome.next (if_pos access), (onlyChanges_onTest s _).trans (onlyChanges_onTest _ _), rfl⟩

end Sys2Proof.Machine

/-! Scope of the block: resets, attestation, the flash and the board rails (O57). -/

namespace Sys2Proof.Machine

-- One proof after another: side by side, their threads take the compile of the whole text past its memory limit.
set_option Elab.async false

theorem onlyChanges_boot (s : State) (x : Boot) : OnlyChanges [.boot] s { s with boot := x } := by
  intro f outside
  cases f
  case boot => exact absurd List.mem_cons_self outside
  all_goals rfl

theorem onlyChanges_onBoot (s : State) (f : Boot → Boot) : OnlyChanges [.boot] s (s.onBoot f) := onlyChanges_boot s _

theorem OnlyChanges.boot {fs : List Field} {s u : State} (h : OnlyChanges fs s u) (outside : Field.boot ∉ fs := by decide) :
    u.boot = s.boot := h .boot outside

/-- R404: renewing a hold changes the controllers' record alone. -/
theorem renewHold_eq (s : State) (m : Master) : ∃ g, s.renewHold m = { s with mgmt := g } := by
  unfold State.renewHold
  split
  · exact ⟨_, rfl⟩
  · exact ⟨s.mgmt, rfl⟩

/-! ### Tables -/

theorem look_filter_kept {α : Type} (d : α) {keep : Nat × α → Bool} {k : Nat} (kept : ∀ v, keep (k, v) = true) (m : Tbl α) :
    look d (m.filter keep) k = look d m k := by
  induction m with
  | nil => rfl
  | cons e m ih =>
    obtain ⟨n, v⟩ := e
    rw [List.filter_cons, look]
    by_cases same : n = k
    · subst same
      rw [if_pos (kept v), if_pos rfl, look, if_pos rfl]
    · rw [if_neg same, ← ih]
      split
      · rw [look, if_neg same]
      · rfl

theorem look_filter_gone {α : Type} (d : α) {keep : Nat × α → Bool} {k : Nat} (gone : ∀ v, keep (k, v) = false) (m : Tbl α) :
    look d (m.filter keep) k = d := by
  induction m with
  | nil => rfl
  | cons e m ih =>
    obtain ⟨n, v⟩ := e
    rw [List.filter_cons]
    split
    next held =>
      have other : n ≠ k := fun same => by rw [same, gone v] at held; cases held
      rw [look, if_neg other, ih]
    next => exact ih

/-! A fold over numbered values that writes the slot of each number. -/
section Slots
variable {α β γ : Type} {read : β → Nat → γ} {slot : Nat → Nat} {f : β → Nat × α → β} {new : Nat → γ → α → γ}

theorem foldl_slots_other (other : ∀ b e k, k ≠ slot e.1 → read (f b e) k = read b k) (n j : Nat) (xs : List α) (b : β) {k : Nat}
    (away : ∀ i, j ≤ i → i < j + n → k ≠ slot i) : read ((List.zip (List.range' j n) xs).foldl f b) k = read b k := by
  induction n generalizing j xs b with
  | zero => rfl
  | succ n ih =>
    cases xs with
    | nil => rfl
    | cons x xs =>
      rw [List.range'_succ, List.zip_cons_cons, List.foldl_cons, ih (j + 1) xs _ (fun i low high => away i (by omega) (by omega))]
      exact other b (j, x) k (away j (by omega) (by omega))

theorem foldl_slots_same (other : ∀ b e k, k ≠ slot e.1 → read (f b e) k = read b k)
    (here : ∀ b e, read (f b e) (slot e.1) = new e.1 (read b (slot e.1)) e.2) (apart : ∀ i j, slot i = slot j → i = j)
    (n j : Nat) (xs : List α) (b : β) {i : Nat} {x : α} (inside : i < n) (is : xs[i]? = some x) :
    read ((List.zip (List.range' j n) xs).foldl f b) (slot (j + i)) = new (j + i) (read b (slot (j + i))) x := by
  induction n generalizing j xs b i with
  | zero => omega
  | succ n ih =>
    cases xs with
    | nil => cases is
    | cons y xs =>
      rw [List.range'_succ, List.zip_cons_cons, List.foldl_cons]
      cases i with
      | zero =>
        cases is
        rw [Nat.add_zero, foldl_slots_other other n (j + 1) xs _ (fun i low _ same => by have := apart _ _ same; omega)]
        exact here b (j, _)
      | succ i =>
        rw [show j + (i + 1) = j + 1 + i by omega, ih (j + 1) xs _ (by omega) is]
        exact congrArg (new (j + 1 + i) · x) (other b (j, y) _ (fun same => by have := apart _ _ same; omega))

end Slots

/-! ### Resets (R448) -/

theorem fullReset_frame (s : State) : OnlyChanges [.pending, .fresh, .egress, .mem, .marks, .boot] State.reset s.fullReset := by
  intro f outside
  cases f <;> simp at outside <;> rfl

theorem coreReset_frame (s : State) : OnlyChanges
    [.pending, .now, .fresh, .egress, .mem, .marks, .dict, .tags, .log, .logSeq, .windows, .test, .mgmt, .boot] State.reset s.coreReset := by
  intro f outside
  cases f <;> simp at outside <;> rfl

/-- R343, R448: whether a core reset keeps an entry's value. -/
def keptEntry (key : Nat) : Bool := safelightEntry key && !([0x110800, 0x300B00, 0x300400] : List Nat).contains key

theorem State.dv_coreReset (s : State) (key : Nat) :
    s.coreReset.dv key = (look none (s.dict.filter (fun e => keptEntry e.1)) key).getD (entryDefault key) := rfl

theorem State.dv_coreReset_kept (s : State) {key : Nat} (safe : safelightEntry key = true) (up : key ≠ 0x110800) (guard : key ≠ 0x300B00)
    (time : key ≠ 0x300400) : s.coreReset.dv key = s.dv key := by
  have kept : keptEntry key = true := by
    rw [keptEntry, safe, Bool.true_and, Bool.not_eq_true', List.contains_eq_mem, decide_eq_false_iff_not]
    simp only [List.mem_cons, List.not_mem_nil, or_false, not_or]
    exact ⟨up, guard, time⟩
  rw [s.dv_coreReset, look_filter_kept none (fun _ => kept)]
  rfl

theorem State.dv_coreReset_gone (s : State) {key : Nat} (other : safelightEntry key = false) : s.coreReset.dv key = State.reset.dv key := by
  have gone : keptEntry key = false := by rw [keptEntry, other, Bool.false_and]
  rw [s.dv_coreReset, look_filter_gone none (fun _ => gone)]
  rfl

theorem exec_reset {k : Option Master} {s : State} (may : k = none ∨ ∃ x, k = some x ∧ s.mayReset x = true) :
    exec (.fullReset k) s = .next s.fullReset ∧ exec (.coreReset k) s = .next s.coreReset := by
  obtain rfl | ⟨x, rfl, may⟩ := may
  · exact ⟨rfl, rfl⟩
  · exact ⟨congrArg Host.Outcome.next (if_pos may), congrArg Host.Outcome.next (if_pos may)⟩

/-! ### Attestation (R442) -/

theorem onlyChanges_setEvidence (s : State) (m : Master) (b : EvidenceBuf) : OnlyChanges [.mgmt] s (s.setEvidence m b) :=
  onlyChanges_mgmt s _

theorem State.evidenceOf_setEvidence (s : State) (m : Master) (b : EvidenceBuf) : (s.setEvidence m b).evidenceOf m = b := by
  cases m with
  | host => rfl
  | mgmt mac => rfl

/-! ### The flash (R449) -/

section Flash
variable {s : State} {r off : Nat}

theorem State.openFlash_refused (bad : r = 0 ∨ 6 < r ∨ (flashRegion r).2 ≤ off ∨ s.flashActive r = true) :
    ∃ st, s.openFlash r off = (s, st) ∧ refusedStatus st = true := by
  unfold State.openFlash
  dsimp only
  split
  · exact ⟨_, rfl, by decide⟩
  next range =>
    have active : s.flashActive r = true := by
      obtain zero | high | beyond | active := bad
      · exact absurd (.inl zero) range
      · exact absurd (.inr (.inl high)) range
      · exact absurd (.inr (.inr beyond)) range
      · exact active
    rw [if_pos active]
    exact ⟨_, rfl, by decide⟩

/-- R449: a region erased and open at an offset. -/
def Boot.opened (x : Boot) (r off : Nat) : Boot :=
  { x with
    region := r, offset := off, erased := x.erased.filter (· != r) ++ [r],
    flash := x.flash.filter (fun e => !(decide ((flashRegion r).1 ≤ e.1) && decide (e.1 < (flashRegion r).1 + (flashRegion r).2))) }

theorem State.openFlash_opens (low : 1 ≤ r) (high : r ≤ 6) (within : off < (flashRegion r).2) (free : s.flashActive r = false) :
    s.openFlash r off = (s.onBoot (fun x => x.opened r off), St.ok) := by
  unfold State.openFlash
  dsimp only
  rw [if_neg (by omega), if_neg (ne_true_of_eq_false free)]
  rfl

theorem look_opened_inside (x : Boot) {o : Nat} (within : o < (flashRegion r).2) :
    look none (x.opened r off).flash ((flashRegion r).1 + o) = none := by
  refine look_filter_gone none (fun _ => ?_) x.flash
  rw [decide_eq_true (by omega), decide_eq_true (by omega)]
  rfl

theorem look_opened_outside (x : Boot) {a : Nat} (outside : a < (flashRegion r).1 ∨ (flashRegion r).1 + (flashRegion r).2 ≤ a) :
    look none (x.opened r off).flash a = look none x.flash a := by
  refine look_filter_kept none (fun _ => ?_) x.flash
  rw [Bool.not_eq_true', Bool.and_eq_false_iff, decide_eq_false_iff_not, decide_eq_false_iff_not]
  omega

theorem State.flashAt_opened (s : State) {o : Nat} (within : o < (flashRegion r).2) (shown : Byte) :
    (s.onBoot (fun x => x.opened r off)).flashAt r o shown = 0xFF := by
  have erased : (s.boot.opened r off).erased.contains r = true := by
    rw [Boot.opened, List.contains_eq_mem, decide_eq_true_iff]
    exact List.mem_append_right _ List.mem_cons_self
  unfold State.flashAt State.onBoot
  dsimp only
  rw [look_opened_inside s.boot within]
  exact if_pos erased

/-- R449: the table of the flash with 1,024 bytes programmed at an address. -/
def programmed (flash : Tbl (Option Byte)) (at' : Nat) (bytes : List Byte) : Tbl (Option Byte) :=
  (List.zip (List.range' 0 1024) bytes).foldl (fun f e => put none f (at' + e.1) (some e.2)) flash

theorem look_programmed_outside (flash : Tbl (Option Byte)) {at' a : Nat} (bytes : List Byte) (outside : a < at' ∨ at' + 1024 ≤ a) :
    look none (programmed flash at' bytes) a = look none flash a :=
  foldl_slots_other (read := look none) (slot := fun i => at' + i) (fun b e k other => look_put_ne none b (some e.2) other) 1024 0 bytes
    flash (fun i _ high => by omega)

theorem look_programmed_inside (flash : Tbl (Option Byte)) (at' : Nat) {bytes : List Byte} {i : Nat} {x : Byte} (inside : i < 1024)
    (is : bytes[i]? = some x) : look none (programmed flash at' bytes) (at' + i) = some x := by
  have written := foldl_slots_same (read := look none) (slot := fun i => at' + i) (new := fun _ _ (v : Byte) => some v)
    (fun b e k other => look_put_ne none b (some e.2) other) (fun b e => look_put_same none b (at' + e.1) (some e.2))
    (fun i j same => by omega) 1024 0 bytes flash inside is
  rwa [Nat.zero_add] at written

theorem State.programFlash_refused {bytes : List Byte} (bad : s.boot.region = 0 ∨ (flashRegion s.boot.region).2 < s.boot.offset + 1024) :
    s.programFlash bytes = (s, St.reservedSetDict) := if_pos bad

/-- R449: 1,024 bytes programmed into the open region. -/
def Boot.advanced (x : Boot) (bytes : List Byte) : Boot :=
  { x with flash := programmed x.flash ((flashRegion x.region).1 + x.offset) bytes, offset := x.offset + 1024 }

theorem State.programFlash_advances {bytes : List Byte} (opened : s.boot.region ≠ 0)
    (room : s.boot.offset + 1024 ≤ (flashRegion s.boot.region).2) :
    s.programFlash bytes = (s.onBoot (fun x => x.advanced bytes), St.ok) := by
  unfold State.programFlash
  dsimp only
  rw [if_neg (by omega), List.range_eq_range']
  rfl

/-- R449: a region's block verified, with its result and its version. -/
def State.committed (s : State) (r : Nat) (b : Block) : State :=
  (s.setDv 0x103200 (r + s.blockResult r b * 2 ^ 8 + b.version * 2 ^ 32)).onBoot (fun x => { x with region := 0, offset := 0 })

theorem committed_spec (s : State) (r : Nat) (b : Block) : OnlyChanges [.dict, .boot] s (s.committed r b) ∧
    (s.committed r b).boot = { s.boot with region := 0, offset := 0 } ∧
    (s.committed r b).dv 0x103200 = r + s.blockResult r b * 2 ^ 8 + b.version * 2 ^ 32 := by
  unfold State.committed
  have result := onlyChanges_setDv s 0x103200 (r + s.blockResult r b * 2 ^ 8 + b.version * 2 ^ 32)
  refine ⟨(result.mono (by decide)).next (onlyChanges_onBoot _ _),
    congrArg (fun x : Boot => { x with region := 0, offset := 0 }) result.boot, ?_⟩
  rw [(onlyChanges_onBoot _ _).dv (by decide), State.dv_setDv_same]

theorem State.commitFlash_done (low : 1 ≤ r) (high : r ≤ 6) (x : BlockScan) :
    s.commitFlash r x = (s.committed r (s.flashBlock r x), St.ok) :=
  if_neg (by omega)

theorem State.commitFlash_refused (bad : r = 0 ∨ 6 < r) (x : BlockScan) : s.commitFlash r x = (s, St.reservedSetDict) := if_pos bad

end Flash

/-! ### The board rails (R455) -/

/-- R455: since when a rail is out of its range. -/
def railSince (k mv : Nat) (since : Option Nat) (now : Nat) : Option Nat :=
  if mv < (railRange k).1 ∨ (railRange k).2 < mv then some (since.getD now) else none

/-- R455: one reading of a board rail. -/
def State.railRead (s : State) (e : Nat × Nat) : State :=
  (s.setDv (0x204001 + e.1) (f32RatioInt e.2 1000)).onBoot (fun b => { b with
    rails := put 0 b.rails e.1 e.2, railOut := put none b.railOut e.1 (railSince e.1 e.2 (look none b.railOut e.1) s.now) })

/-- R455: the readings of the board rails. -/
def State.railsRead (s : State) (mv : List Nat) : State := (List.zip (List.range' 0 6) mv).foldl State.railRead s

/-- What is kept of a board rail: its value in 0x2040, its reading, since when it is out of range, and the device time. -/
def State.rail (s : State) (k : Nat) : Nat × Nat × Option Nat × Nat :=
  (s.dv (0x204001 + k), look 0 s.boot.rails k, look none s.boot.railOut k, s.now)

theorem railRead_frame (s : State) (e : Nat × Nat) : OnlyChanges [.dict, .boot] s (s.railRead e) := by
  unfold State.railRead
  exact ((onlyChanges_setDv s _ _).mono (by decide)).next (onlyChanges_onBoot _ _)

theorem State.rail_railRead_other (s : State) (e : Nat × Nat) (k : Nat) (other : k ≠ e.1) : (s.railRead e).rail k = s.rail k := by
  have value : (s.railRead e).dv (0x204001 + k) = s.dv (0x204001 + k) := by
    rw [State.railRead, (onlyChanges_onBoot _ _).dv (by decide), State.dv_setDv_ne _ _ (by omega)]
  have reading : look 0 (s.railRead e).boot.rails k = look 0 s.boot.rails k := look_put_ne 0 _ _ other
  have since : look none (s.railRead e).boot.railOut k = look none s.boot.railOut k := look_put_ne none _ _ other
  have time : (s.railRead e).now = s.now := (railRead_frame s e).now
  rw [State.rail, value, reading, since, time, State.rail]

theorem State.rail_railRead_same (s : State) (e : Nat × Nat) :
    (s.railRead e).rail e.1 = (f32RatioInt e.2 1000, e.2, railSince e.1 e.2 (s.rail e.1).2.2.1 (s.rail e.1).2.2.2, (s.rail e.1).2.2.2) := by
  have value : (s.railRead e).dv (0x204001 + e.1) = f32RatioInt e.2 1000 := by
    rw [State.railRead, (onlyChanges_onBoot _ _).dv (by decide), State.dv_setDv_same]
  have reading : look 0 (s.railRead e).boot.rails e.1 = e.2 := look_put_same 0 _ _ _
  have since : look none (s.railRead e).boot.railOut e.1 = railSince e.1 e.2 (look none s.boot.railOut e.1) s.now := look_put_same none _ _ _
  have time : (s.railRead e).now = s.now := (railRead_frame s e).now
  simp only [State.rail, value, reading, since, time]

theorem railsRead_rail (s : State) {mv : List Nat} {k x : Nat} (inside : k < 6) (is : mv[k]? = some x) :
    (s.railsRead mv).rail k = (f32RatioInt x 1000, x, railSince k x (look none s.boot.railOut k) s.now, s.now) := by
  have read := foldl_slots_same (read := State.rail) (slot := id) (f := State.railRead)
    (new := fun k c v => (f32RatioInt v 1000, v, railSince k v c.2.2.1 c.2.2.2, c.2.2.2))
    State.rail_railRead_other State.rail_railRead_same (fun _ _ same => same) 6 0 mv s inside is
  rwa [Nat.zero_add] at read

theorem railsRead_frame (s : State) (mv : List Nat) : OnlyChanges [.dict, .boot] s (s.railsRead mv) :=
  OnlyChanges.foldl railRead_frame s _

/-- R3, R453, R455: the readings, with the record of VSAFE risen above its range. -/
def State.railsNoted (s : State) : List Nat → State
  | v :: mv =>
    if 770 < v ∧ look 0 s.boot.rails 0 ≤ 770 then
      (s.railsRead (v :: mv)).recordOf 0x2001 11 0x30 (v % 2 ^ 32 * 2 ^ 32 + s.dv 0x203200 * 2 ^ 64)
    else s.railsRead (v :: mv)
  | [] => s.railsRead []

theorem State.readRails_eq (s : State) (mv : List Nat) :
    s.readRails mv = if mv.head?.any (fun x => decide (x < 730)) then (s.railsNoted mv).fullReset else s.railsNoted mv := by
  cases mv with
  | nil => rfl
  | cons v mv =>
    have read : (List.zip (List.range 6) (v :: mv)).foldl (fun (x : State) e =>
        (x.setDv (0x204001 + e.1) (f32RatioInt e.2 1000)).onBoot (fun b => { b with
          rails := put 0 b.rails e.1 e.2,
          railOut := put none b.railOut e.1 (if e.2 < (railRange e.1).1 ∨ (railRange e.1).2 < e.2
            then some ((look none b.railOut e.1).getD x.now) else none) })) s = s.railsRead (v :: mv) := by
      rw [List.range_eq_range']
      rfl
    unfold State.readRails State.railsNoted
    dsimp only
    rw [read, List.head?_cons, Option.any_some]
    by_cases low : v < 730
    · rw [if_pos low, if_pos (decide_eq_true low), if_neg (by omega)]
    · rw [if_neg low, if_neg (c := decide (v < 730) = true) (by rwa [decide_eq_true_eq])]

/-- R455: what the readings show of each rail, and what they leave. -/
theorem railsNoted_spec (s : State) (mv : List Nat) : OnlyChanges [.dict, .log, .logSeq, .mgmt, .boot] s (s.railsNoted mv) ∧
    ∀ k x : Nat, k < 6 → mv[k]? = some x →
      (s.railsNoted mv).rail k = (f32RatioInt x 1000, x, railSince k x (look none s.boot.railOut k) s.now, s.now) := by
  have frame : OnlyChanges [.dict, .log, .logSeq, .mgmt, .boot] s (s.railsRead mv) := (railsRead_frame s mv).mono (by decide)
  cases mv with
  | nil => exact ⟨frame, fun k x inside is => railsRead_rail s inside is⟩
  | cons v mv =>
    unfold State.railsNoted
    dsimp only
    split
    · have noted := onlyChanges_recordOf (s.railsRead (v :: mv)) 0x2001 11 0x30 (v % 2 ^ 32 * 2 ^ 32 + s.dv 0x203200 * 2 ^ 64)
      refine ⟨frame.next noted, fun k x inside is => ?_⟩
      rw [State.rail, State.dv_recordOf (by omega), noted.boot, noted.now]
      exact railsRead_rail s inside is
    · exact ⟨frame, fun k x inside is => railsRead_rail s inside is⟩

/-- Settles O57: each row by the lemmas of the reset, the buffer, the region or the rail it acts on. -/
theorem resetAndFlashRowsTakeEffect : Obligations.ResetAndFlashRowsTakeEffect := by
  unfold Obligations.ResetAndFlashRowsTakeEffect
  intro m t s w now
  refine ⟨fun k may => ?_, fun refused => ?_, fun nonce may => ?_, fun early => ?_, fun signing due => ?_, fun r off b v may held is => ?_,
    fun bytes b v may held is => ?_, fun scan r x v may held is block => ?_, fun mv => ?_, fun k => ?_⟩
  · obtain ⟨full, core⟩ := exec_reset may
    exact ⟨⟨_, full, fullReset_frame s, rfl, rfl, rfl, rfl, rfl⟩, _, core, coreReset_frame s, rfl, rfl, rfl, rfl, rfl, rfl, rfl, rfl, rfl,
      rfl, rfl, rfl, rfl, rfl, rfl, rfl, fun key safe up guard time => s.dv_coreReset_kept safe up guard time,
      fun key other => s.dv_coreReset_gone other⟩
  · exact ⟨congrArg Host.Outcome.next (if_neg (ne_true_of_eq_false refused)), congrArg Host.Outcome.next (if_neg (ne_true_of_eq_false refused))⟩
  · subst now
    refine ⟨(s.tick t |>.renewHold m).setEvidence m { state := 1, nonce := nonce, since := (s.tick t |>.renewHold m).now },
      congrArg Host.Outcome.next (State.masterWrite_done may rfl (by decide)), onlyChanges_setEvidence _ _ _, ?_⟩
    rw [State.evidenceOf_setEvidence, (onlyChanges_renewHold (s.tick t) m).now]
  · subst now
    refine congrArg Host.Outcome.next (if_neg ?_)
    rintro ⟨signing, due⟩
    obtain other | early := early
    · exact other signing
    · omega
  · subst now
    exact ⟨_, congrArg Host.Outcome.next (if_pos ⟨signing, due⟩), onlyChanges_setEvidence _ _ _, State.evidenceOf_setEvidence _ _ _⟩
  · subst held is
    obtain ⟨g, renewed⟩ := renewHold_eq s m
    have active : (s.renewHold m).flashActive r.toNat = s.flashActive r.toNat := by rw [renewed]; rfl
    refine ⟨fun bad => ?_, fun low high within free => ?_⟩
    · rw [← active] at bad
      obtain ⟨st, write, refused⟩ := State.openFlash_refused bad
      exact congrArg Host.Outcome.next (State.masterWrite_stays may write refused)
    · rw [← active] at free
      refine ⟨_, congrArg Host.Outcome.next (State.masterWrite_done may (State.openFlash_opens low high within free) (by decide)),
        onlyChanges_onBoot _ _, rfl, rfl, fun o shown inside => State.flashAt_opened _ inside shown, fun a outside => ?_⟩
      rw [renewed]
      exact look_opened_outside s.boot outside
  · subst held is
    obtain ⟨g, renewed⟩ := renewHold_eq s m
    have boot : (s.renewHold m).boot = s.boot := by rw [renewed]
    refine ⟨fun bad => ?_, fun opened room => ?_⟩
    · rw [← boot] at bad
      exact congrArg Host.Outcome.next (State.masterWrite_stays may (State.programFlash_refused bad) (by decide))
    · have advances := State.programFlash_advances (s := s.renewHold m) (bytes := bytes) (by rwa [boot]) (by rwa [boot])
      refine ⟨_, congrArg Host.Outcome.next (State.masterWrite_done may advances (by decide)), onlyChanges_onBoot _ _, ?_⟩
      rw [renewed]
      exact ⟨rfl, fun i x inside is => look_programmed_inside s.boot.flash _ inside is,
        fun a outside => look_programmed_outside s.boot.flash bytes outside⟩
  · subst held is block
    obtain ⟨g, renewed⟩ := renewHold_eq s m
    have boot : (s.renewHold m).boot = s.boot := by rw [renewed]
    have read (r : Nat) : (s.renewHold m).flashBlock r scan = s.flashBlock r scan := by rw [renewed]; rfl
    have same (r : Nat) (b : Block) : (s.renewHold m).blockResult r b = s.blockResult r b := by rw [renewed]; rfl
    refine ⟨fun bad => ?_, fun low high => ?_⟩
    · rw [← boot] at bad
      exact congrArg Host.Outcome.next (State.masterWrite_stays may (State.commitFlash_refused bad scan) (by decide))
    · rw [← boot] at low high
      obtain ⟨frame, closed, result⟩ := committed_spec (s.renewHold m) (s.renewHold m).boot.region
        ((s.renewHold m).flashBlock (s.renewHold m).boot.region scan)
      refine ⟨_, congrArg Host.Outcome.next (State.masterWrite_done may (State.commitFlash_done low high scan) (by decide)), frame,
        closed.trans (by rw [boot]), result.trans (by rw [boot, read, same])⟩
  · subst now
    obtain ⟨frame, rails⟩ := railsNoted_spec (s.tick t) mv
    refine ⟨(s.tick t).railsNoted mv, frame, congrArg Host.Outcome.next (State.readRails_eq _ mv), fun k x inside is => ?_⟩
    have rail := rails k x inside is
    rw [State.rail, Prod.mk.injEq, Prod.mk.injEq, Prod.mk.injEq] at rail
    obtain ⟨value, reading, since, -⟩ := rail
    exact ⟨value, reading, since⟩
  · subst now
    exact ⟨fun none => congrArg Host.Outcome.next (if_neg (ne_true_of_eq_false none)), fun fault =>
      ⟨_, onlyChanges_setDv _ _ _, congrArg Host.Outcome.next (if_pos fault), State.dv_setDv_same _ _ _⟩⟩

end Sys2Proof.Machine

/-! Scope of the block: what a halt leaves of the start-up state (O56). -/

namespace Sys2Proof.Machine

-- One proof after another: side by side, their threads take the compile of the whole text past its memory limit.
set_option Elab.async false

section
variable (s : State)

/-! ### Stores and requests keep the start-up state -/

theorem State.boot_record (e : ErrRecord) : (s.record e).boot = s.boot := (recordFrame_record s e).boot

theorem State.boot_noteBytes (addrs : List Nat) : (s.noteBytes addrs).boot = s.boot := by
  refine foldl_reads State.boot (fun u x => ?_) _ s
  exact (writeFrame_notePartial u x.1 x.2 u.node).boot

theorem State.boot_holdWrite (a : Nat) (bytes : List (Option Byte)) : (s.holdWrite a bytes).boot = s.boot := rfl

theorem State.boot_storeMem (a : Nat) (bytes : List (Option Byte)) : (s.storeMem a bytes).boot = s.boot := by
  have written := (onlyChanges_wrMasked s a bytes).boot
  unfold State.storeMem
  dsimp only
  split
  · exact s.boot_holdWrite a bytes
  · split
    · exact ((s.wrMasked a bytes).boot_noteBytes _).trans written
    · split
      · exact (onlyChanges_freshen (s.wrMasked a bytes) a bytes.length).boot.trans written
      · exact written

theorem State.boot_snoop (line agent : Nat) (share : Bool) : (s.snoop line agent share).boot = s.boot := by
  unfold State.snoop
  dsimp only
  split
  · exact (sparesPair_sendTraek _ _ _ _ _ _ _ _).1.boot
  · exact (onlyChanges_sendPacket _ _ _ _ _ _ _ _ _ _ _).boot

theorem State.boot_invalidate (line : Nat) (agents : List Nat) : (s.invalidate line agents).boot = s.boot :=
  foldl_reads State.boot (fun u a => u.boot_snoop line a false) agents s

theorem State.boot_access (near : Nat) (write : Bool) : (s.access near write).1.boot = s.boot := by
  unfold State.access
  dsimp only
  split
  · rfl
  · split
    · rfl
    · split
      · exact s.boot_invalidate _ _
      · rfl
    · exact s.boot_snoop _ _ _

theorem State.boot_accessRange (a n : Nat) (write : Bool) : (s.accessRange a n write).1.boot = s.boot := by
  have each (u : State) (b : Nat) : (u.accessAt b write).1.boot = u.boot := by
    unfold State.accessAt
    split
    · exact u.boot_access _ write
    · rfl
  unfold State.accessRange
  split
  · rfl
  · refine foldl_reads (fun x : State × Bool => x.1.boot) (fun x i => ?_) _ (s, true)
    exact each x.1 (a + 64 * i)

theorem State.boot_waitPartial (w : WcWaiter) : (s.waitPartial w).boot = s.boot := by
  simp only [State.waitPartial, State.onChannel_boot]

theorem State.boot_storeCoherent (a : Nat) (bytes : List Byte) : (s.storeCoherent a bytes).boot = s.boot := by
  unfold State.storeCoherent
  dsimp only
  split
  · exact (State.boot_storeMem _ _ _).trans (s.boot_accessRange _ _ _)
  · refine Eq.trans (foldl_reads State.boot (fun u i => ?_) _ _) (s.boot_accessRange a bytes.length true)
    exact u.boot_waitPartial _

theorem State.boot_ask (dst source : Nat) (x : Ask) : (s.ask dst source x).1.boot = s.boot := (sparesPair_ask s dst source x).1.boot

theorem State.boot_storeGlobal (g : Nat) (bytes : List Byte) (flag : Bool) (owner : Option (Nat × Nat)) :
    (s.storeGlobal g bytes flag owner).1.boot = s.boot := by
  unfold State.storeGlobal
  split
  · dsimp only
    split
    · exact s.boot_storeCoherent _ _
    · exact s.boot_record _
  · dsimp only
    split
    · exact (State.boot_record _ _).trans (s.boot_ask _ _ _)
    · exact s.boot_ask _ _ _
  · exact s.boot_ask _ _ _
  · exact s.boot_record _

/-! ### A command's completion keeps the start-up state -/

theorem State.boot_writeRecord (q : Nat) (w : RecordWords) : (s.writeRecord q w).boot = s.boot := by
  unfold State.writeRecord
  dsimp only
  split
  · rfl
  · exact (onlyChanges_onQueue _ q _).boot.trans (s.boot_storeGlobal _ _ _ _)

theorem State.boot_countFlags (fl : BitVec 32) : (s.countFlags fl).boot = s.boot := by
  unfold State.countFlags
  dsimp only
  split
  · split
    · rfl
    · rfl
  · split
    · rfl
    · rfl

theorem State.boot_voidOn (st : Nat) : (s.voidOn st).boot = s.boot := by
  unfold State.voidOn
  split
  · rfl
  · rfl

theorem State.boot_nfOn (st : Started) : (s.nfOn st).boot = s.boot := by
  unfold State.nfOn
  split
  · rfl
  · rfl

theorem State.boot_verdictRefused (st : Started) (bad : Bool) : (s.verdictRefused st bad).boot = s.boot := by
  unfold State.verdictRefused
  split
  · rfl
  · rfl

theorem State.boot_writeSummary (q : Nat) (st : Started) (f : Fail) : (s.writeSummary q st f).boot = s.boot := by
  unfold State.writeSummary
  split
  · rfl
  · rfl

theorem State.boot_leaveEpoch (h : Nat) : (s.leaveEpoch h).boot = s.boot := by
  unfold State.leaveEpoch
  split
  · split
    · rfl
    · rfl
  · rfl

theorem State.boot_updateDone (st : Started) (status : Nat) : (s.updateDone st status).boot = s.boot := by
  unfold State.updateDone
  split
  · rfl
  · rfl

theorem State.boot_markSuspect (h : Nat) : (s.markSuspect h).boot = s.boot := rfl

theorem State.boot_markSuspects (hs : List Nat) : (s.markSuspects hs).boot = s.boot := foldl_reads State.boot State.boot_markSuspect hs s

theorem State.boot_clearSuspect (h : Nat) : (s.clearSuspect h).boot = s.boot := rfl

theorem State.boot_finish (q : Nat) (st : Started) (f0 : Fail) (signal : Bool) : (s.finish q st f0 signal).boot = s.boot := by
  unfold State.finish
  extract_lets f bad s1 s2 s3 s4 slot s5 s6 s7
  have boot1 : s1.boot = s.boot := by
    unfold s1
    split
    · exact s.boot_markSuspects _
    · split
      · exact foldl_reads State.boot State.boot_clearSuspect _ s
      · rfl
  have boot2 : s2.boot = s1.boot := (State.boot_verdictRefused _ _ _).trans ((State.boot_nfOn _ _).trans
    ((State.boot_voidOn _ _).trans (State.boot_countFlags _ _)))
  have boot3 : s3.boot = s2.boot := s2.boot_writeSummary _ _ _
  have boot4 : s4.boot = s3.boot := by
    unfold s4
    split
    · split
      · exact s3.boot_record _
      · exact s3.boot_record _
    · rfl
  have boot5 : s5.boot = s4.boot := by
    unfold s5
    split
    · exact s4.boot_writeRecord _ _
    · rfl
  have boot6 : s6.boot = s5.boot := by
    unfold s6
    split
    · exact (counterFrame_counterUpdate s5 _).boot
    · rfl
  have boot7 : s7.boot = s6.boot := (State.boot_updateDone _ _ _).trans (foldl_reads State.boot State.boot_leaveEpoch _ s6)
  calc s7.boot = s6.boot := boot7
    _ = s5.boot := boot6
    _ = s4.boot := boot5
    _ = s3.boot := boot4
    _ = s2.boot := boot3
    _ = s1.boot := boot2
    _ = s.boot := boot1

theorem State.boot_endWait (q : Nat) (st : Started) (status : Nat) : (s.endWait q st status).boot = s.boot := by
  refine (State.boot_finish _ q st _ true).trans ?_
  split
  · rfl
  · rfl

theorem State.boot_loseStarted (q : Nat) : (s.loseStarted q).boot = s.boot := by
  unfold State.loseStarted
  dsimp only
  split
  · rfl
  · split
    · rfl
    · exact State.boot_endWait _ _ _ _
    · exact State.boot_endWait _ _ _ _
    · exact State.boot_endWait _ _ _ _
    · exact State.boot_endWait _ _ _ _

/-! ### The halt (R431) -/

/-- R431: a halt's mark and its health bit; clusters and queues as before. -/
def State.haltMarked (s : State) : State :=
  State.latch { s with boot := { s.boot with halted := true }, collectives := [], parked := [], colSent := [] } 14

/-- R431: the clusters of a halted module hold no work. -/
def State.haltEmptied (s : State) : State :=
  (List.range 32).foldl (fun x c => x.setCluster c (x.cluster c))
    { s.haltMarked with clusters := s.haltMarked.clusters.map (fun (e : Nat × Cluster) => (e.1, e.2.emptied)) }

theorem State.halt_eq (s : State) : s.halt = if s.boot.halted then s else
    s.haltEmptied.queues.foldl (fun (x : State) (e : Nat × Queue) => x.loseStarted e.1) s.haltEmptied := rfl

theorem haltMarked_spec (s : State) : OnlyChanges [.boot, .collectives, .parked, .colSent, .dict] s s.haltMarked ∧
    s.haltMarked.boot = { s.boot with halted := true } := by
  have marked : OnlyChanges [.boot, .collectives, .parked, .colSent, .dict] s
      { s with boot := { s.boot with halted := true }, collectives := [], parked := [], colSent := [] } := by
    intro f outside
    cases f
    case boot | collectives | parked | colSent => exact absurd (by decide) outside
    all_goals rfl
  exact ⟨marked.next (onlyChanges_latch _ 14), (onlyChanges_latch _ 14).boot⟩

theorem haltEmptied_frame (s : State) : OnlyChanges [.clusters] s.haltMarked s.haltEmptied := by
  have emptied : OnlyChanges [.clusters] s.haltMarked
      { s.haltMarked with clusters := s.haltMarked.clusters.map (fun (e : Nat × Cluster) => (e.1, e.2.emptied)) } := by
    intro f outside
    cases f
    case clusters => exact absurd List.mem_cons_self outside
    all_goals rfl
  exact emptied.trans (OnlyChanges.foldl (fun u c => onlyChanges_setCluster u c (u.cluster c)) _ _)

/-- R431: a halt marks the module halted and changes nothing else of its start-up state. -/
theorem State.boot_halt : s.halt.boot = { s.boot with halted := true } := by
  rw [s.halt_eq]
  split
  next halted => rw [← halted]
  next =>
    refine Eq.trans (foldl_reads State.boot (fun u e => ?_) _ _) ((haltEmptied_frame s).boot.trans (haltMarked_spec s).2)
    exact u.boot_loseStarted e.1

/-- R431: a halt of a module without queues leaves it without queues, and changes no counter. -/
theorem State.halt_noQueues {s : State} (none : s.queues = []) : s.halt.queues = [] ∧ s.halt.counters = s.counters := by
  have queues : s.haltEmptied.queues = [] :=
    (haltEmptied_frame s .queues (by decide)).trans (((haltMarked_spec s).1 .queues (by decide)).trans none)
  have counters : s.haltEmptied.counters = s.counters :=
    (haltEmptied_frame s .counters (by decide)).trans ((haltMarked_spec s).1 .counters (by decide))
  rw [s.halt_eq]
  split
  · exact ⟨none, rfl⟩
  · rw [queues, List.foldl_nil]
    exact ⟨queues, counters⟩

end

end Sys2Proof.Machine

/-! Scope of the block: start-up from ROM to LINKS (O56). -/

namespace Sys2Proof.Machine

-- One proof after another: side by side, their threads take the compile of the whole text past its memory limit.
set_option Elab.async false

theorem onlyChanges_enterBoot (s : State) (k : Nat) : OnlyChanges [.boot] s (s.enterBoot k) := onlyChanges_onBoot s _

/-- A start-up state entered from a state that leaves the start-up record and device time alone. -/
theorem boot_enterBoot {fs : List Field} {s u : State} (h : OnlyChanges fs s u) (k : Nat) (boot : Field.boot ∉ fs := by decide)
    (now : Field.now ∉ fs := by decide) : (u.enterBoot k).boot = { s.boot with state := k, since := s.now } := by
  rw [State.enterBoot, State.onBoot, h.boot boot, h.now now]

theorem State.inBoot_other {s : State} {k : Nat} (other : s.boot.state ≠ k) (f : State → State) : s.inBoot k f = s := if_neg other

theorem State.inBoot_own {s : State} {k : Nat} (own : s.boot.state = k) (f : State → State) : s.inBoot k f = f s := if_pos own

theorem dv_foldl_setDv_range (s : State) (base n : Nat) (value : Nat → Nat) {c : Nat} (inside : c < n) :
    ((List.range n).foldl (fun (x : State) k => x.setDv (base + k) (value k)) s).dv (base + c) = value c := by
  refine foldl_establishes (P := fun c (x : State) => x.dv (base + c) = value c) (fun j k a kept => ?_)
    (fun k a => State.dv_setDv_same a _ _) _ (.inl (List.mem_range.mpr inside))
  rw [State.dv_setDv]
  split
  next same => rw [show j = k by omega]
  next => exact kept

/-! ### FLASH (R439) -/

section Flash
variable (s : State) (ca cb sa sb : Block) (rca rcb rsa rsb : Nat)

/-- R439: the results shown and the configuration slot chosen, before stage-one is. -/
def State.configChosen : State :=
  (s.setDv 0x100A00 ((if chooseSlot sa sb rsa rsb = 1 then 1 else 0) + (if chooseSlot ca cb rca rcb = 1 then 2 else 0) +
    (if chooseSlot ca cb rca rcb = 2 then 4 else 0) + rsa * 2 ^ 8 + rsb * 2 ^ 16 + rca * 2 ^ 24 + rcb * 2 ^ 32)).onBoot (fun b => { b with
    config := chooseSlot ca cb rca rcb,
    configDigest := if chooseSlot ca cb rca rcb = 2 then [] else digest48 (if chooseSlot ca cb rca rcb = 1 then cb else ca).digest,
    fuseConfig := if chooseSlot ca cb rca rcb = 2 then b.fuseConfig
      else max b.fuseConfig (if chooseSlot ca cb rca rcb = 1 then cb else ca).rollback })

/-- R439: stage-one loaded from a slot, its fuse raised. -/
def State.stageLoaded (u : State) (slot : Nat) (block : Block) : State :=
  ((u.onBoot (fun b => { b with
      stageB := slot == 1, stageDigest := digest48 block.digest, fuseStage := max b.fuseStage block.rollback })).setDv
    0x100700 block.version).setDv 0x100800 (leNat (digest48 block.digest))

theorem State.flashDone_eq (f : FlashScan) (isCa : ca = s.flashBlock 1 f.configA) (isCb : cb = s.flashBlock 2 f.configB)
    (isSa : sa = s.flashBlock 3 f.stageA) (isSb : sb = s.flashBlock 4 f.stageB) (isRca : rca = s.blockResult 1 ca)
    (isRcb : rcb = s.blockResult 2 cb) (isRsa : rsa = s.blockResult 3 sa) (isRsb : rsb = s.blockResult 4 sb) :
    s.flashDone f = if chooseSlot sa sb rsa rsb = 2 then (s.configChosen ca cb sa sb rca rcb rsa rsb).flashFail else
      ((s.configChosen ca cb sa sb rca rcb rsa rsb).stageLoaded (chooseSlot sa sb rsa rsb)
        (if chooseSlot sa sb rsa rsb = 1 then sb else sa)).enterBoot 2 := by
  unfold State.flashDone State.configChosen State.stageLoaded
  dsimp only
  rw [← isCa, ← isCb, ← isSa, ← isSb, ← isRca, ← isRcb, ← isRsa, ← isRsb]

theorem configChosen_spec : OnlyChanges [.dict, .boot] s (s.configChosen ca cb sa sb rca rcb rsa rsb) ∧
    (s.configChosen ca cb sa sb rca rcb rsa rsb).boot.config = chooseSlot ca cb rca rcb ∧
    (s.configChosen ca cb sa sb rca rcb rsa rsb).boot.fuseStage = s.boot.fuseStage ∧
    (s.configChosen ca cb sa sb rca rcb rsa rsb).dv 0x100A00 = (if chooseSlot sa sb rsa rsb = 1 then 1 else 0) +
      (if chooseSlot ca cb rca rcb = 1 then 2 else 0) + (if chooseSlot ca cb rca rcb = 2 then 4 else 0) +
      rsa * 2 ^ 8 + rsb * 2 ^ 16 + rca * 2 ^ 24 + rcb * 2 ^ 32 := by
  unfold State.configChosen
  generalize (if chooseSlot sa sb rsa rsb = 1 then 1 else 0) + (if chooseSlot ca cb rca rcb = 1 then 2 else 0) +
    (if chooseSlot ca cb rca rcb = 2 then 4 else 0) + rsa * 2 ^ 8 + rsb * 2 ^ 16 + rca * 2 ^ 24 + rcb * 2 ^ 32 = shown
  have results := onlyChanges_setDv s 0x100A00 shown
  refine ⟨(results.mono (by decide)).next (onlyChanges_onBoot _ _), rfl, ?_, ?_⟩
  · change (s.setDv 0x100A00 shown).boot.fuseStage = s.boot.fuseStage
    rw [results.boot]
  · rw [(onlyChanges_onBoot _ _).dv (by decide), State.dv_setDv_same]

theorem flashFail_spec (u : State) : OnlyChanges [.dict, .boot] u u.flashFail ∧ u.flashFail.boot = { u.boot with state := 0xE, since := u.now } ∧
    (u.flashFail.dv 0x905000).testBit 0 = true ∧ u.flashFail.dv 0x100A00 = u.dv 0x100A00 := by
  have opened := onlyChanges_setDv u 0x905000 (u.dv 0x905000 ||| 1)
  have entered := onlyChanges_enterBoot (u.setDv 0x905000 (u.dv 0x905000 ||| 1)) 0xE
  unfold State.flashFail
  refine ⟨(opened.mono (by decide)).next entered, boot_enterBoot opened _, ?_, ?_⟩
  · rw [entered.dv (by decide), State.dv_setDv_same, Nat.testBit_or, Nat.testBit_one_zero, Bool.or_true]
  · rw [entered.dv (by decide), State.dv_setDv_ne _ _ (by decide)]

theorem stageLoaded_spec (u : State) (slot : Nat) (block : Block) : OnlyChanges [.dict, .boot] u (u.stageLoaded slot block) ∧
    (u.stageLoaded slot block).boot = { u.boot with
      stageB := slot == 1, stageDigest := digest48 block.digest, fuseStage := max u.boot.fuseStage block.rollback } ∧
    (u.stageLoaded slot block).dv 0x100700 = block.version ∧ (u.stageLoaded slot block).dv 0x100A00 = u.dv 0x100A00 := by
  have loaded := onlyChanges_onBoot u (fun b => { b with
    stageB := slot == 1, stageDigest := digest48 block.digest, fuseStage := max b.fuseStage block.rollback })
  unfold State.stageLoaded
  refine ⟨((loaded.mono (by decide)).next (onlyChanges_setDv _ _ _)).next (onlyChanges_setDv _ _ _), ?_, ?_, ?_⟩
  · rw [(onlyChanges_setDv _ _ _).boot, (onlyChanges_setDv _ _ _).boot]
    rfl
  · rw [State.dv_setDv_ne _ _ (by decide), State.dv_setDv_same]
  · rw [State.dv_setDv_ne _ _ (by decide), State.dv_setDv_ne _ _ (by decide), loaded.dv (by decide)]

end Flash

/-! ### STAGE1 and CORE_RAMP -/

/-- The fields that STAGE1 may change. -/
def stageFields : List Field := [.egress, .dict, .log, .logSeq, .power, .mgmt]

theorem stageFrame_pmbusIdentity (s : State) (id : Option (List Byte)) : OnlyChanges stageFields s (s.pmbusIdentity id) := by
  cases id with
  | none => exact (onlyChanges_recordOf s _ _ _ _).mono (by decide)
  | some names => exact (onlyChanges_setDv s _ _).mono (by decide)

theorem stageFrame_pmbusFeed (s : State) (feed : List Byte) : OnlyChanges stageFields s (s.pmbusFeed feed) := by
  have noted : OnlyChanges stageFields s (s.onPower (fun p => { p with feedBad := feed.length != 16 })) :=
    (onlyChanges_onPower s _).mono (by decide)
  unfold State.pmbusFeed
  dsimp only
  split
  · exact noted.next (onlyChanges_setDv _ _ _)
  · exact (noted.next (onlyChanges_setDv _ _ _)).next (onlyChanges_recordOf _ _ _ _ _)

theorem stageFrame_setRail (s : State) (mv : Nat) : OnlyChanges stageFields s (s.setRail mv) := by
  unfold State.setRail
  split
  · exact OnlyChanges.refl _ s
  · exact ((onlyChanges_power s _).mono (by decide)).next (onlyChanges_send _ _)

/-- R446: the identities read and the core rail commanded. -/
def State.railCommanded (s : State) (id : Option (List Byte)) (feed : List Byte) : State :=
  ((s.pmbusIdentity id).pmbusFeed feed).setRail (550 + ((s.pmbusIdentity id).pmbusFeed feed).dv 0x200700)

theorem stageFrame_railCommanded (s : State) (id : Option (List Byte)) (feed : List Byte) :
    OnlyChanges stageFields s (s.railCommanded id feed) :=
  ((stageFrame_pmbusIdentity s id).trans (stageFrame_pmbusFeed _ feed)).trans (stageFrame_setRail _ _)

theorem State.stage1_contact {s : State} (good : s.railsBad = false) (id : Option (List Byte)) (feed : List Byte) :
    s.stage1 true id feed = (s.railCommanded id feed).enterBoot 3 := by
  unfold State.stage1
  rw [good]
  rfl

theorem State.stage1_silent {s : State} {avs : Bool} (bad : avs = false ∨ s.railsBad = true) (id : Option (List Byte)) (feed : List Byte) :
    s.stage1 avs id feed = if s.boot.since + 20000000 ≤ s.now then s.coreFail else s := by
  have none : (avs && !s.railsBad) = false := by
    obtain silent | out := bad
    · rw [silent, Bool.false_and]
    · rw [out, Bool.not_true, Bool.and_false]
  unfold State.stage1
  rw [none]
  exact if_neg Bool.false_ne_true

theorem coreFail_spec (s : State) : s.coreFail.boot.state = 0xF ∧ s.coreFail.boot.halted = true := by
  have halted := State.boot_halt ((s.onPower (fun p => { p with setpoint := 0 })).send (.railVoltage 0))
  exact ⟨rfl, congrArg Boot.halted halted⟩

/-- R357, R380: a region as power-up leaves it. -/
def regionAtPowerUp (now : Nat) : Region := { power := 0, point := 4, thermal := 4, margin := 20, idleSince := now }

/-- R446: the time of power-up and the guard band shown. -/
def State.powerShown (s : State) : State := (s.setDv 0x110800 s.now).setDv 0x300B00 1

/-- R446: the regions run. -/
def State.regionsUp (s : State) : State :=
  (List.range 48).foldl (fun x r => x.onRegion r (fun _ => regionAtPowerUp s.now)) s.powerShown

theorem State.powerUp_eq (s : State) : s.powerUp = s.regionsUp.enterBoot 4 := rfl

theorem powerUp_spec (s : State) : OnlyChanges [.dict, .regions, .boot] s s.powerUp ∧
    s.powerUp.boot = { s.boot with state := 4, since := s.now } ∧ s.powerUp.dv 0x110800 = s.now ∧ s.powerUp.dv 0x300B00 = 1 ∧
    ∀ r, r < 48 → s.powerUp.region r = regionAtPowerUp s.now := by
  have shown : OnlyChanges [.dict] s s.powerShown := (onlyChanges_setDv s _ _).trans (onlyChanges_setDv _ _ _)
  have up := onlyChanges_foldl_onRegion (fun _ _ => regionAtPowerUp s.now) (List.range 48) s.powerShown
  have regions : OnlyChanges [.dict, .regions] s s.regionsUp := (shown.mono (by decide)).next up
  have entered := onlyChanges_enterBoot s.regionsUp 4
  rw [s.powerUp_eq]
  refine ⟨(regions.mono (by decide)).next entered, boot_enterBoot regions _, ?_, ?_, fun r inside => ?_⟩
  · rw [entered.dv (by decide), State.regionsUp, up.dv (by decide), State.powerShown, State.dv_setDv_ne _ _ (by decide), State.dv_setDv_same]
  · rw [entered.dv (by decide), State.regionsUp, up.dv (by decide), State.powerShown, State.dv_setDv_same]
  · rw [entered.region, State.regionsUp, State.region_foldl_onRegion (fun _ _ => regionAtPowerUp s.now), if_pos inside]

/-! ### TEST (R426, R429) -/

section BootTest
variable (runs : List (Fin 49 × TestRun))

/-- R429: a cluster's record as the mapping of its name leaves it. -/
def Cluster.mapped (k : Cluster) (c : Nat) : Cluster :=
  if !positionFails runs (namePosition c) then k
  else if spareServes runs (decide (16 ≤ c)) = some c then { k with physical := some (if c < 16 then 0x10 else 0x30) }
  else { k with state := 3 }

theorem mapCluster_frame (s : State) (c : Nat) : OnlyChanges [.clusters, .regions] s (s.mapCluster runs c) := by
  unfold State.mapCluster
  split
  · exact OnlyChanges.refl _ s
  · split
    · exact (onlyChanges_onCluster s c _).mono (by decide)
    · exact ((onlyChanges_onCluster s c _).mono (by decide)).next (onlyChanges_onRegion _ c _)

theorem clusterIs_mapCluster (s : State) (c : Nat) : ClusterIs s (s.mapCluster runs c) c ((s.cluster c).mapped runs c) := by
  unfold State.mapCluster Cluster.mapped
  split
  · exact ⟨rfl, fun _ _ => rfl⟩
  · split
    · exact clusterIs_onCluster s c _
    · exact (clusterIs_onCluster s c _).next (onlyChanges_onRegion _ c _)

theorem cluster_foldl_mapCluster (n : Nat) (s : State) (j : Nat) :
    ((List.range n).foldl (fun x c => x.mapCluster runs c) s).cluster j = if j < n then (s.cluster j).mapped runs j else s.cluster j := by
  induction n with
  | zero => rfl
  | succ n ih =>
    rw [List.range_succ, List.foldl_append, List.foldl_cons, List.foldl_nil]
    obtain ⟨here, others⟩ := clusterIs_mapCluster runs ((List.range n).foldl (fun x c => x.mapCluster runs c) s) n
    by_cases same : j = n
    · subst same
      rw [here, ih, if_neg (Nat.lt_irrefl j), if_pos (Nat.lt_succ_self j)]
    · rw [others j same, ih]
      exact if_congr (by omega) rfl rfl

/-- R429: the region of a name that no position serves is gated. -/
def MapsRegion (c : Nat) (s : State) : Prop :=
  positionFails runs (namePosition c) = true → spareServes runs (decide (16 ≤ c)) ≠ some c → (s.region c).power = 1

theorem mapsRegion_mapCluster (s : State) (c : Nat) : MapsRegion runs c (s.mapCluster runs c) := by
  intro fails unserved
  unfold State.mapCluster
  rw [fails, if_neg (by decide), if_neg unserved, State.region_onRegion_same]

theorem MapsRegion.kept {runs : List (Fin 49 × TestRun)} {s : State} {j : Nat} (mapped : MapsRegion runs j s) (c : Nat) :
    MapsRegion runs j (s.mapCluster runs c) := by
  by_cases same : j = c
  · exact same ▸ mapsRegion_mapCluster runs s j
  · intro fails unserved
    have power := mapped fails unserved
    unfold State.mapCluster
    split
    · exact power
    · split
      · rwa [(onlyChanges_onCluster s c _).region]
      · rwa [State.region_onRegion, if_neg same, (onlyChanges_onCluster s c _).region]

theorem recordFrame_bootRun (s : State) (p : Nat) (r : TestRun) : OnlyChanges recordFields s (s.bootRun p r) := by
  unfold State.bootRun
  dsimp only
  split
  · split
    · exact (recordFrame_kernels s _ _).trans (onlyChanges_recordOf _ _ _ _ _)
    · exact (recordFrame_kernelRecords s _ _ _).trans (onlyChanges_recordOf _ _ _ _ _)
  · split
    · exact recordFrame_kernels s _ _
    · exact recordFrame_kernelRecords s _ _ _

/-- R429: names mapped on a die of zeros. -/
def State.namesMapped (s : State) : State := (List.range 32).foldl (fun x c => x.mapCluster runs c) s.zeroOnDie

/-- R426: the records of boot test. -/
def State.bootRecorded (s : State) (regions : List (Fin 48 × TestRun)) : State :=
  regions.foldl (fun (x : State) r => match runFails r.2 with
    | some u => x.testFail 1 r.1 r.1 r.2.pattern.toNat u
    | none => x) (runs.foldl (fun x r => x.bootRun r.1 r.2) s)

/-- R433, R446: the result shown and the land groups calibrated. -/
def State.resultShown (s : State) (calibration : List (BitVec 32)) : State :=
  (List.zip (List.range' 0 64) calibration).foldl (fun (x : State) e => x.setDv (0x201601 + e.1) e.2.toNat)
    (s.setDv 0x701200 (testResult runs))

/-- R446: boot test made, the module not judged yet. -/
def State.bootTested (s : State) (regions : List (Fin 48 × TestRun)) (calibration : List (BitVec 32)) : State :=
  ((s.namesMapped runs).bootRecorded runs regions).resultShown runs calibration

theorem State.bootTest_eq (s : State) (regions : List (Fin 48 × TestRun)) (calibration : List (BitVec 32)) :
    s.bootTest runs regions calibration = (if (List.range 32).any (s.bootTested runs regions calibration).enabled
      then s.bootTested runs regions calibration else (s.bootTested runs regions calibration).halt).enterBoot 5 := by
  unfold State.bootTest
  rw [List.range_eq_range' (n := 64)]
  rfl

theorem namesMapped_frame (s : State) : OnlyChanges [.mem, .marks, .queues, .counters, .ingress, .bankLast, .clusters, .regions] s
    (s.namesMapped runs) := by
  have zeros : OnlyChanges [.mem, .marks, .queues, .counters, .ingress, .bankLast] s s.zeroOnDie := by
    intro f outside
    cases f
    case mem | marks | queues | counters | ingress | bankLast => exact absurd (by decide) outside
    all_goals rfl
  exact (zeros.mono (by decide)).next (OnlyChanges.foldl (mapCluster_frame runs) _ _)

theorem bootRecorded_frame (s : State) (regions : List (Fin 48 × TestRun)) : OnlyChanges recordFields s (s.bootRecorded runs regions) := by
  have tested := OnlyChanges.foldl (fun (u : State) (r : Fin 49 × TestRun) => recordFrame_bootRun u r.1 r.2) s runs
  refine tested.trans (OnlyChanges.foldl (fun u r => ?_) _ _)
  split
  · exact onlyChanges_recordOf u _ _ _ _
  · exact OnlyChanges.refl _ u

theorem resultShown_spec (s : State) (calibration : List (BitVec 32)) : OnlyChanges [.dict] s (s.resultShown runs calibration) ∧
    (s.resultShown runs calibration).dv 0x701200 = testResult runs := by
  refine ⟨(onlyChanges_setDv s _ _).trans (OnlyChanges.foldl (fun u e => onlyChanges_setDv u _ _) _ _), ?_⟩
  refine (foldl_slots_other (read := State.dv) (slot := fun i => 0x201601 + i) (fun b e k other => State.dv_setDv_ne b _ other) 64 0
    calibration _ (fun i _ high => by omega)).trans (State.dv_setDv_same s _ _)

theorem bootTested_spec (s : State) (regions : List (Fin 48 × TestRun)) (calibration : List (BitVec 32)) :
    (s.bootTested runs regions calibration).queues = [] ∧ (s.bootTested runs regions calibration).counters = [] ∧
    (s.bootTested runs regions calibration).boot = s.boot ∧ (s.bootTested runs regions calibration).dv 0x701200 = testResult runs ∧
    ∀ c, c < 32 → (s.bootTested runs regions calibration).cluster c = (s.cluster c).mapped runs c ∧
      MapsRegion runs c (s.bootTested runs regions calibration) := by
  have mapped := namesMapped_frame runs s
  have names := OnlyChanges.foldl (mapCluster_frame runs) s.zeroOnDie (List.range 32)
  obtain ⟨shown, result⟩ := resultShown_spec runs ((s.namesMapped runs).bootRecorded runs regions) calibration
  have after : OnlyChanges recordFields (s.namesMapped runs) (s.bootTested runs regions calibration) :=
    (bootRecorded_frame runs _ regions).next shown
  refine ⟨(after .queues (by decide)).trans (names .queues (by decide)), (after .counters (by decide)).trans (names .counters (by decide)),
    after.boot.trans mapped.boot, result, fun c inside => ⟨?_, ?_⟩⟩
  · rw [after.cluster, State.namesMapped, cluster_foldl_mapCluster, if_pos inside]
    rfl
  · have gated : MapsRegion runs c (s.namesMapped runs) :=
      foldl_establishes (P := MapsRegion runs) (fun j k a kept => MapsRegion.kept kept k) (fun k a => mapsRegion_mapCluster runs a k) _
        (.inl (List.mem_range.mpr inside))
    intro fails unserved
    rw [after.region]
    exact gated fails unserved

end BootTest

/-! ### MEMORY (R206) -/

theorem trainFrame_trainChannel (s : State) (c rate : Nat) : OnlyChanges badReadFields s (s.trainChannel c rate) := by
  have shown : OnlyChanges badReadFields s (s.setDv (0x401101 + c) (rate % 65536)) := (onlyChanges_setDv s _ _).mono (by decide)
  unfold State.trainChannel
  dsimp only
  split
  · exact (shown.next (onlyChanges_onChannel _ c _)).trans (badReadFrame_takeOffline _ _ _ _)
  · exact shown

theorem State.trainChannel_works (s : State) (c : Nat) {rate : Nat} (works : rate ≠ 0) :
    s.trainChannel c rate = s.setDv (0x401101 + c) (rate % 65536) := if_neg works

/-- R206: every channel trained. -/
def State.channelsTrained (s : State) (rates : List Nat) : State :=
  (List.range 128).foldl (fun x c => x.trainChannel c (rates.getD c 14400)) s

theorem channelsTrained_works {rates : List Nat} (works : ∀ c, c < 128 → rates.getD c 14400 ≠ 0) (s : State) :
    s.channelsTrained rates = (List.range 128).foldl (fun (x : State) c => x.setDv (0x401101 + c) (rates.getD c 14400 % 65536)) s :=
  List.foldl_ext _ _ _ (fun x c listed => x.trainChannel_works c (works c (List.mem_range.mp listed)))

theorem onlyChanges_alloc_of (s : State) (x : Alloc) : OnlyChanges [.alloc] s { s with alloc := x } := by
  intro f outside
  cases f
  case alloc => exact absurd List.mem_cons_self outside
  all_goals rfl

/-- R446: every frame marked unscrubbed. -/
def State.framesUnscrubbed (s : State) : State := { s with alloc := { s.alloc with scrubbed := [], dirty := [] } }

theorem onlyChanges_framesUnscrubbed (s : State) : OnlyChanges [.alloc] s s.framesUnscrubbed := onlyChanges_alloc_of s _

theorem State.trainMemory_eq (s : State) (rates : List Nat) : s.trainMemory rates = (s.channelsTrained rates).framesUnscrubbed.enterBoot 6 := rfl

theorem trainMemory_spec (s : State) (rates : List Nat) : (s.trainMemory rates).boot = { s.boot with state := 6, since := s.now } ∧
    (s.trainMemory rates).alloc = { s.alloc with scrubbed := [], dirty := [] } ∧
    ((∀ c, c < 128 → rates.getD c 14400 ≠ 0) → OnlyChanges [.dict, .alloc, .boot] s (s.trainMemory rates) ∧
      ∀ c, c < 128 → (s.trainMemory rates).dv (0x401101 + c) = rates.getD c 14400 % 65536) := by
  have trained : OnlyChanges badReadFields s (s.channelsTrained rates) :=
    OnlyChanges.foldl (fun u c => trainFrame_trainChannel u c _) s _
  have marked := onlyChanges_framesUnscrubbed (s.channelsTrained rates)
  have entered := onlyChanges_enterBoot (s.channelsTrained rates).framesUnscrubbed 6
  rw [s.trainMemory_eq]
  refine ⟨boot_enterBoot ((trained.mono (List.subset_cons_self .alloc badReadFields)).next marked) 6, ?_, fun works => ⟨?_, fun c inside => ?_⟩⟩
  · rw [entered .alloc (by decide), State.framesUnscrubbed, trained .alloc (by decide)]
  · have shown : OnlyChanges [.dict] s (s.channelsTrained rates) := by
      rw [channelsTrained_works works]
      exact OnlyChanges.foldl (fun u c => onlyChanges_setDv u _ _) s _
    exact ((shown.mono (by decide)).next marked).next entered
  · rw [entered.dv (by decide), marked.dv (by decide), channelsTrained_works works, dv_foldl_setDv_range _ _ _ _ inside]

/-! ### PROTECT (R443, R444) -/

section Protect
variable (s : State)

theorem configItem_skips {i : Item} {key : Nat} (is : key = i.entry.toNat * 256 + i.field.toNat)
    (unfit : i.rsvd = true ∨ configurable key = false ∨ i.value.length ≠ entrySize key ∨ protectFits key (leNat i.value) = false) :
    s.configItem i = s.setDv 0x100A00 (natSetFld (s.dv 0x100A00) 8 2 (natFld (s.dv 0x100A00) 8 2 + 1)) := by
  subst is
  exact if_pos unfit

theorem configItem_writes {i : Item} {key : Nat} (is : key = i.entry.toNat * 256 + i.field.toNat) (set : i.rsvd = false)
    (may : configurable key = true) (long : i.value.length = entrySize key) (fits : protectFits key (leNat i.value) = true)
    (board : rightOf key = .wb) : s.configItem i = s.setDv key (leNat i.value) := by
  subst is
  refine (if_neg ?_).trans (if_pos board)
  rintro (rsvd | other | short | bad)
  · exact ne_true_of_eq_false set rsvd
  · exact ne_true_of_eq_false other may
  · exact short long
  · exact ne_true_of_eq_false bad fits

/-- Six window entries written. -/
def State.windowsSet (ws : List Nat) : State :=
  (List.zip (List.range' 0 6) ws).foldl (fun (x : State) e => x.setDv (0x903001 + e.1) e.2) s

theorem windowsSet_spec (ws : List Nat) : OnlyChanges [.dict] s (s.windowsSet ws) ∧
    ∀ k, k / 256 ≠ 0x9030 → (s.windowsSet ws).dv k = s.dv k :=
  ⟨OnlyChanges.foldl (fun u e => onlyChanges_setDv u _ _) s _, fun k away =>
    foldl_slots_other (read := State.dv) (slot := fun i => 0x903001 + i) (fun b e k other => State.dv_setDv_ne b _ other) 6 0 ws s
      (fun i _ high => by omega)⟩

theorem State.standardMap_eq (b : Nat) : ∃ ws, s.standardMap b = s.windowsSet ws := by
  unfold State.standardMap
  rw [List.range_eq_range']
  exact ⟨_, rfl⟩

theorem defaultWindows_spec (config : List Item) : OnlyChanges [.dict] s (s.defaultWindows config) ∧
    ∀ k, k / 256 ≠ 0x9030 → (s.defaultWindows config).dv k = s.dv k := by
  unfold State.defaultWindows
  split
  · exact ⟨OnlyChanges.refl _ s, fun _ _ => rfl⟩
  · obtain ⟨ws, map⟩ := s.standardMap_eq (s.dv 0x903200)
    rw [map]
    exact windowsSet_spec s ws

/-- R444: the set locked behind the configuration's items. -/
def State.protected (config : List Item) : State := ((s.defaultWindows config).setDv 0x900100 1).enterBoot 7

theorem protected_spec (config : List Item) : OnlyChanges [.dict, .boot] s (s.protected config) ∧
    (s.protected config).boot = { s.boot with state := 7, since := s.now } ∧ (s.protected config).dv 0x900100 = 1 ∧
    ∀ k, k ≠ 0x900100 → k / 256 ≠ 0x9030 → (s.protected config).dv k = s.dv k := by
  obtain ⟨map, others⟩ := defaultWindows_spec s config
  have locked : OnlyChanges [.dict] s ((s.defaultWindows config).setDv 0x900100 1) := map.trans (onlyChanges_setDv _ _ _)
  have entered := onlyChanges_enterBoot ((s.defaultWindows config).setDv 0x900100 1) 7
  unfold State.protected
  refine ⟨(locked.mono (by decide)).next entered, boot_enterBoot locked 7, ?_, fun k other away => ?_⟩
  · rw [entered.dv (by decide), State.dv_setDv_same]
  · rw [entered.dv (by decide), State.dv_setDv_ne _ _ other, others k away]

end Protect

/-! ### LINKS (R446) -/

section Links
variable (s : State)

/-- R446: a port as LINKS leaves it. -/
def State.portReleased (p : Nat) : Port :=
  if (s.region (portRegion p)).power = 3 ∨ (s.port p).state ≠ 0 then s.port p else { s.port p with state := 1 }

/-- R446: one port released to train. -/
def State.releasePort (x : State) (p : Nat) : State :=
  if (x.region (portRegion p)).power = 3 ∨ (x.port p).state ≠ 0 then x else x.onPort p (fun r => { r with state := 1 })

theorem releasePort_frame (x : State) (p : Nat) : OnlyChanges [.ports] x (x.releasePort p) := by
  unfold State.releasePort
  split
  · exact OnlyChanges.refl _ x
  · exact onlyChanges_onPort x p _

theorem State.port_releasePort (x : State) (p j : Nat) : (x.releasePort p).port j = if j = p then x.portReleased p else x.port j := by
  unfold State.releasePort State.portReleased
  split
  · split
    next same => rw [same]
    next => rfl
  · rw [State.port_onPort]

theorem State.port_foldl_releasePort (n j : Nat) :
    ((List.range n).foldl State.releasePort s).port j = if j < n then s.portReleased j else s.port j := by
  induction n generalizing j with
  | zero => rfl
  | succ n ih =>
    have frame := OnlyChanges.foldl releasePort_frame s (List.range n)
    have same : ((List.range n).foldl State.releasePort s).portReleased n = s.portReleased n := by
      rw [State.portReleased, frame.region, ih, if_neg (Nat.lt_irrefl n), State.portReleased]
    rw [List.range_succ, List.foldl_append, List.foldl_cons, List.foldl_nil, State.port_releasePort, ih, same]
    by_cases here : j = n
    · rw [if_pos here, if_pos (by omega), here]
    · rw [if_neg here]
      exact if_congr (by omega) rfl rfl

/-- R446: the ports released, the Traek link not yet. -/
def State.portsReleased : State := (List.range 8).foldl State.releasePort s

/-- R297: the Traek link released to train. -/
def State.traekReleased : State :=
  { s with traek := { s.traek with
      released := true, state := if s.traek.state = 0 ∧ (s.region 46).power ≠ 3 then 1 else s.traek.state } }

theorem onlyChanges_traekReleased : OnlyChanges [.traek] s s.traekReleased := by
  intro f outside
  cases f
  case traek => exact absurd List.mem_cons_self outside
  all_goals rfl

theorem State.releaseLinks_eq : s.releaseLinks = s.portsReleased.traekReleased := by
  unfold State.releaseLinks State.traekReleased State.portsReleased State.releasePort
  rfl

theorem releaseLinks_spec : OnlyChanges [.ports, .traek] s s.releaseLinks ∧
    s.releaseLinks.traek = { s.traek with
      released := true, state := if s.traek.state = 0 ∧ (s.region 46).power ≠ 3 then 1 else s.traek.state } ∧
    ∀ p, p < 8 → s.releaseLinks.port p = s.portReleased p := by
  have ports : OnlyChanges [.ports] s s.portsReleased := OnlyChanges.foldl releasePort_frame s _
  have traek := onlyChanges_traekReleased s.portsReleased
  rw [s.releaseLinks_eq]
  refine ⟨(ports.mono (by decide)).next traek, ?_, fun p inside => ?_⟩
  · rw [State.traekReleased, ports .traek (by decide), ports.region]
  · rw [State.port_frame traek (by decide), State.portsReleased, State.port_foldl_releasePort, if_pos inside]

/-- R446: LINKS ends when the Traek link is up or down. -/
def State.linksEnd : State := if s.traek.state = 1 ∨ s.traek.state = 3 then s else s.enterBoot 8

theorem State.links_eq : s.links = (if s.traek.released then s else s.releaseLinks).linksEnd := rfl

/-- The state that agrees with the released links in every field. -/
theorem releaseLinks_unique {s v : State} (same : OnlyChanges [.ports, .traek] s v) (traek : v.traek = s.releaseLinks.traek)
    (ports : v.ports = s.releaseLinks.ports) : v = s.releaseLinks := by
  refine State.eq_of_same (fun f => ?_)
  have released := (releaseLinks_spec s).1 f
  have kept := same f
  cases f
  case traek => exact traek
  case ports => exact ports
  all_goals exact (kept (by decide)).trans (released (by decide)).symm

end Links

/-! ### The rows -/

/-- Settles O56: each row in its own start-up state by the lemmas of what it leaves; in another it only moves device time. -/
theorem startUpRowsTakeEffect : Obligations.StartUpRowsTakeEffect := by
  unfold Obligations.StartUpRowsTakeEffect
  intro t s w now
  subst now
  have other {e : Instr} {k : Nat} {f : State → State} (acts : exec e s = .next ((s.tick t).inBoot k f)) (not : (s.tick t).boot.state ≠ k) :
      exec e s = .next (s.tick t) := acts.trans (congrArg Host.Outcome.next (State.inBoot_other not f))
  have own {e : Instr} {k : Nat} {f : State → State} {v : State} (acts : exec e s = .next ((s.tick t).inBoot k f))
      (is : (s.tick t).boot.state = k) (ends : f (s.tick t) = v) : exec e s = .next v :=
    acts.trans (congrArg Host.Outcome.next ((State.inBoot_own is f).trans ends))
  refine ⟨fun b => ⟨other rfl, fun is => ?_⟩, ?_, fun avs id feed => ⟨other rfl, fun is contact good => ?_, fun is bad early => ?_,
    fun is bad late => ?_⟩, coreFail_spec _, ⟨fun not b => other rfl not, fun is => own rfl is rfl, fun is => ?_⟩,
    fun runs others calibration => ⟨other rfl, fun is => ?_⟩, fun rates => ⟨other rfl, fun is => ?_⟩,
    fun config items v isItems isV => ⟨other rfl, fun is => ?_⟩, fun v i key is => ⟨fun unfit => ?_, fun set may long fits board => ?_⟩,
    other rfl, fun is v released fresh => ⟨fun training => ?_, fun down up => ?_⟩, fun p inside => (releaseLinks_spec _).2.2 p inside⟩
  · exact ⟨_, own rfl is rfl, ((onlyChanges_mgmt (s.tick t) _).mono (by decide)).next (onlyChanges_enterBoot _ 1), rfl, rfl, rfl, rfl, rfl, rfl⟩
  · intro f ca cb sa sb rca rcb rsa rsb stage conf x isCa isCb isSa isSb isRca isRcb isRsa isRsb isStage isConf isX
    have done := (s.tick t).flashDone_eq ca cb sa sb rca rcb rsa rsb f isCa isCb isSa isSb isRca isRcb isRsa isRsb
    obtain ⟨frame, config, fuse, shown⟩ := configChosen_spec (s.tick t) ca cb sa sb rca rcb rsa rsb
    rw [← isStage, ← isX] at done
    rw [← isConf] at config
    rw [← isStage, ← isConf] at shown
    refine ⟨other rfl, fun is => ?_⟩
    by_cases none : stage = 2
    · obtain ⟨failed, boot, extest, results⟩ := flashFail_spec ((s.tick t).configChosen ca cb sa sb rca rcb rsa rsb)
      refine ⟨_, own rfl is (done.trans (if_pos none)), frame.trans failed, ?_, results.trans shown, fun _ => ⟨?_, extest⟩,
        fun some => absurd none some⟩
      · rw [boot, ← config]
      · rw [boot]
    · obtain ⟨loaded, boot, version, results⟩ := stageLoaded_spec ((s.tick t).configChosen ca cb sa sb rca rcb rsa rsb) stage x
      have entered := onlyChanges_enterBoot (((s.tick t).configChosen ca cb sa sb rca rcb rsa rsb).stageLoaded stage x) 2
      refine ⟨_, own rfl is (done.trans (if_neg none)), (frame.trans loaded).next entered, ?_, ?_, fun two => absurd two none,
        fun _ => ⟨rfl, ?_, ?_, ?_⟩⟩
      · rw [State.enterBoot, State.onBoot, boot, ← config]
      · rw [entered.dv (by decide), results, shown]
      · rw [State.enterBoot, State.onBoot, boot]
      · rw [State.enterBoot, State.onBoot, boot, ← fuse]
      · rw [entered.dv (by decide), version]
  · subst contact
    have frame := stageFrame_railCommanded (s.tick t) id feed
    exact ⟨_, own rfl is (State.stage1_contact good id feed), (frame.mono (by decide)).next (onlyChanges_enterBoot _ 3), boot_enterBoot frame 3⟩
  · exact own rfl is ((State.stage1_silent bad id feed).trans (if_neg (by omega)))
  · exact own rfl is ((State.stage1_silent bad id feed).trans (if_pos late))
  · exact ⟨_, own rfl is rfl, powerUp_spec _⟩
  · obtain ⟨queues, counters, boot, result, names⟩ := bootTested_spec runs (s.tick t) others calibration
    refine ⟨_, own rfl is ((s.tick t).bootTest_eq runs others calibration), rfl, ?_, ?_, ?_⟩
    · split
      · exact queues
      · exact (State.halt_noQueues queues).1
    · split
      · exact counters
      · exact (State.halt_noQueues queues).2.trans counters
    · rintro ⟨j, insideJ, serves, passes⟩
      have kept : ((s.tick t).bootTested runs others calibration).enabled j = true := by
        rw [State.enabled, (names j insideJ).1, Cluster.mapped, passes]
        exact serves
      rw [if_pos (List.any_eq_true.mpr ⟨j, List.mem_range.mpr insideJ, kept⟩)]
      have entered := onlyChanges_enterBoot ((s.tick t).bootTested runs others calibration) 5
      refine ⟨(entered.dv (by decide) _).trans result, ?_, fun c inside => ⟨fun passes => ?_, fun fails served => ?_,
        fun fails unserved => ⟨?_, ?_⟩⟩⟩
      · rw [State.enterBoot, State.onBoot, boot]
      · rw [entered.cluster, (names c inside).1, Cluster.mapped, passes]
        rfl
      · rw [entered.cluster, (names c inside).1, Cluster.mapped, fails, if_neg (by decide), if_pos served]
      · rw [entered.cluster, (names c inside).1, Cluster.mapped, fails, if_neg (by decide), if_neg unserved]
      · rw [entered.region]
        exact (names c inside).2 fails unserved
  · exact ⟨_, own rfl is rfl, trainMemory_spec _ rates⟩
  · subst isItems isV
    exact ⟨_, own rfl is rfl, protected_spec _ _⟩
  · rw [configItem_skips v is unfit]
    exact ⟨onlyChanges_setDv v _ _, fun k away => State.dv_setDv_ne v _ away, State.dv_setDv_same v _ _⟩
  · rw [configItem_writes v is set may long fits board]
    exact ⟨onlyChanges_setDv v _ _, State.dv_setDv_same v _ _, fun k away => State.dv_setDv_ne v _ away⟩
  all_goals
    have ends : (s.tick t).links = v.linksEnd := by
      rw [State.links_eq]
      cases open' : (s.tick t).traek.released with
      | true => rw [if_pos rfl, released open']
      | false =>
        obtain ⟨frame, traek, ports⟩ := fresh open'
        rw [if_neg Bool.false_ne_true, releaseLinks_unique frame (traek.trans (releaseLinks_spec _).2.1.symm) ports]
  · exact own rfl is (ends.trans (if_pos training))
  · refine ⟨_, own rfl is (ends.trans (if_neg ?_)), onlyChanges_enterBoot v 8, rfl⟩
    rintro (one | three)
    · exact down one
    · exact up three

end Sys2Proof.Machine
